-- ==== Sys2Proof/Word.lean ====
section
/-! DEFINITION. The plainest types of the module: bytes, the parts of a host write, packets and link management frames as data. The layouts of the packet header (R65) and of the frames (R87) are computed in Machine/Bits.lean, which a repair may mend. -/

namespace Sys2Proof

/-- A byte of a payload, of an LMF body or of GDDR7. -/
abbrev Byte := BitVec 8

/-- A sparse table: key and value pairs, keys strictly rising, no value equal to what an unlisted key reads as. -/
abbrev SMap (α : Type) := List (Nat × α)

/-- Which bytes of a 64-bit register a host access reaches (R431): all eight, the lower four or the upper four. -/
inductive WSize where
  | w8 | lo4 | hi4
deriving DecidableEq, Repr

/-- A host write: the 64-bit image of the register written, and the half it reaches. -/
structure Wr where
  v : Nat
  sz : WSize := .w8
deriving DecidableEq, Repr

/-- A fabric packet: the header fields of R65 and the payload without its pad (R62).
`rsv` holds the reserved header bits at their places in the 512-bit little-endian header image. -/
structure Pkt where
  ver : Nat := 2
  kind : Nat := 0
  tc : Nat := 0
  epoch : Nat := 0
  fence : Nat := 0
  poisonAny : Nat := 0
  colour : Nat := 0
  length : Nat := 0
  slice : Nat := 0
  hopPtr : Nat := 0
  hopCount : Nat := 0
  wbDone : Nat := 0
  bcTarget : Nat := 0
  src : Nat := 0
  dst : Nat := 0
  waybill : List Nat := []
  seq : Nat := 0
  ctx : Nat := 0
  member : Nat := 0
  attempt : Nat := 0
  chunk : Nat := 0
  fmt : Nat := 0
  op : Nat := 0
  poisonMap : Nat := 0
  originTime : Nat := 0
  e2e : Nat := 0
  hdrCrc : Nat := 0
  rsv : Nat := 0
  payload : List Byte := []
deriving DecidableEq, Repr

/-- A codeword a lane has received (R325): fibre × 16 + lane line, the number of codewords since the lane's last frame marker, its 544 ten-bit symbols. -/
structure RxCw where
  lane : Nat
  idx : Nat
  sym : List Nat
deriving DecidableEq, Repr

/-- What completes a received packet (R75, R329, R331): the data codewords that have newly arrived on the port's lanes, in order of arrival; the retry sequence that bref and sref of the sender's control codewords give the first packet of a replay-start block among them;
whether a word of the stored header is uncorrectable (R78), the payload segments holding an uncorrectable word, whether its lane or port failed before the trailer arrived (R125), and the table words that fail parity from now on (R119). -/
structure RxPkt where
  cws : List RxCw := []
  seq : Nat := 0
  hdrUe : Bool := false
  ueSegs : Nat := 0
  cut : Bool := false
  newBad : List Nat := []
deriving DecidableEq, Repr

/-- What a received peer-delay message brings: its sequenceId, the sender's port identity and its correctionField in 2^-16 ns (R36, R37, R90). -/
structure PtpMsg where
  seq : Nat
  src : Nat := 0
  corr : Int := 0
deriving DecidableEq, Repr

/-- A lane that has found lock, and its pre-FEC BER over 100 µs in units of 10^-8 (R324). -/
structure LaneLock where
  lane : Nat
  ber : Nat
deriving DecidableEq, Repr

/-- The fields of a received LMF (R87). -/
structure LmfSlot where
  lver : Nat
  typ : Nat
  fibre : Nat
  seq : Nat
  body : List Byte := []
deriving DecidableEq, Repr

/-- The block of a control codeword (R328): the sender's frame number, line, lane, fibre, lane state, next data block of the lane and the retry sequence that begins there, logical port, and the 128 bytes of each LMF slot. -/
structure CtrlWord where
  frame : Nat := 0
  line : Nat := 0
  lane : Nat := 0
  fibre : Nat := 0
  state : Nat
  bref : Nat := 0
  sref : Nat := 0
  port : Nat
  portValid : Bool
  slots : List (List Byte) := []
deriving DecidableEq, Repr

/-- The identity a TRV_IDENT carries (R89). -/
structure Ident where
  serial : Nat
  fibre : Nat
  major : Nat
  minor : Nat
  endpoint : Nat
  datum : Nat
deriving DecidableEq, Repr

/-- The body of a DATUM_BEACON (R89, R382). -/
structure Beacon where
  serial : Nat
  time : Nat
  epoch : Nat
  datum : Nat
  slice : Nat
  sdatum : Nat
deriving DecidableEq, Repr

/-- A command descriptor of R440: opcode, page, counts, flags, offsets and words. -/
structure Desc where
  opcode : Nat
  page : Nat
  nWr : Nat
  nRd : Nat
  irq : Bool
  fence : Bool
  statOff : Nat
  rdOff : Nat
  wrOffs : List Nat
  tkey : Nat
  tcmd : Nat
  words : List Nat
deriving DecidableEq, Repr

/-- What a register write meets in its environment: the bytes the module reads from host memory, results of an analogue or random process, whether a self-test passes. -/
structure Env where
  bytes : List (BitVec 8) := []
  nums : List Nat := []
  ok : Bool := true
deriving DecidableEq, Repr

/-- A firmware slot as the boot ROM reads it (R448): the outcome in the codes of SEC_BOOT_STATUS (0 OK, 1 BAD_HEADER, 2 KEY_HASH, 3 SIG_FAIL, 5 FLASH), the image's security_ver, kernel public key and digest. -/
structure FwRead where
  code : Nat
  secVer : Nat := 0
  kernelKey : List (BitVec 8) := []
  digest : List (BitVec 8) := []
deriving DecidableEq, Repr

/-- What start-up meets in its environment (R457, R482, R483): the LOCKDLY strap, whether the PLL locks, whether the flash reads, the replay-protected region is accepted, what production wrote in the two slots, whether a baseline was written in production, self-test results, calibration of combs and rings (combs by engine × 5 + comb, lanes by fibre × 16 + lane); whether the reference is present, and the core cycles from PLL lock to the end of the sequence; the readings that firmware loads before the blocks are ready: hottest junction and its sensor, VIN36 (millivolts, 10 mA units, watts, hottest power-stage sensor), the engines' 32 temperature sensors, the codes of the GDDR7 trainings that failed. -/
structure StartUpIn where
  refOk : Bool := true
  elapsed : Nat := 0
  lockdly : Nat := 0
  pllOk : Bool := true
  flashOk : Bool := true
  regionOk : Bool := true
  slots : List FwRead := []
  coreFail : List Nat := []
  planeOk : Nat := 0x1F
  memFail : List Nat := []
  checkerFail : Nat := 0
  combFail : List Nat := []
  laneFail : List Nat := []
  flashBaseline : Bool := false
  tj : Int := 0
  tjSensor : Nat := 0
  vin : List Nat := [36000, 0, 0, 0]
  temps : List Nat := []
  trainCode : List Nat := []
deriving DecidableEq, Repr

end Sys2Proof
end

