-- ==== Sys2Proof/Syntax.lean ====
section
/-! DEFINITION. The commands the block takes: one constructor per row of spec/opcode_table.json, in the table's order. -/

namespace Sys2Proof

/-- A command of the table; each docstring is the row it stands for. -/
inductive Instr where
  /-- READ_TIM_NOW_NS (R31): A host read of TIM_NOW_NS captures nanoseconds and fraction and copies the seconds of the same edge into TIM_NOW_SEC. -/
  | readTimNowNs (z : WSize)
  /-- PTP_SYNC (R38): A Sync received on the SLAVE port is timestamped and the module computes the offset and drives the servo. -/
  | ptpSync (f : Nat) (t1 corr : Int)
  /-- PTP_FOLLOW_UP (R34): A received Follow_Up is discarded and counted in TIM_RX_DISCARD. -/
  | ptpFollowUp (f : Nat)
  /-- PTP_PDELAY_REQ (R36): A received Pdelay_Req is answered with a one-step Pdelay_Resp carrying the turnaround time in correctionField. -/
  | ptpPdelayReq (f : Nat) (m : PtpMsg)
  /-- PTP_PDELAY_RESP (R39): A received Pdelay_Resp completes a peer-delay exchange, updating the averaged mean link delay or discarding an outlier. -/
  | ptpPdelayResp (f : Nat) (m : PtpMsg)
  /-- PTP_ANNOUNCE (R34): An Announce received on the SLAVE port is checked for grandmaster identity and clockClass, informationally. -/
  | ptpAnnounce (f gm clockClass : Nat)
  /-- SYNC_TRANSMIT (R36): At each Sync interval a MASTER port sends a one-step Sync with the origin timestamp inserted on the fly. -/
  | syncTransmit (f : Nat)
  /-- PDELAY_TRANSMIT (R39): At each Pdelay interval every non-DISABLED port sends a Pdelay_Req. -/
  | pdelayTransmit (f : Nat)
  /-- ANNOUNCE_TRANSMIT (R34): At each Announce interval a MASTER port sends an Announce. -/
  | announceTransmit (f : Nat)
  /-- PDELAY_TIMEOUT (R39): A Pdelay_Req with no response within three Pdelay intervals increments TIM_PDELAY_TIMEOUT. -/
  | pdelayTimeout (f : Nat)
  /-- SYNC_LOSS (R40): Three Sync intervals with no Sync in LOCKED move the clock to HOLDOVER with TIM_RATE frozen and sync_loss raised. -/
  | syncLoss
  /-- SET (R41): TIM_CMD op SET loads the clock from TIM_SET_* on one edge, moving armed instants. -/
  | cmdSet
  /-- STEP (R41): TIM_CMD op STEP steps the clock by TIM_STEP_ADJ on one edge, or refuses a step outside the clock's range. -/
  | cmdStep
  /-- TIM_PORT_WRITE (R35): A write of TIM_PORT sets role and asymmetry, refusing a second SLAVE with role_refused. -/
  | timPortWrite (p : Nat) (w : Wr)
  /-- TIM_CTRL_WRITE (R40): A write of TIM_CTRL changes mode, entering GRANDMASTER or returning to FREE, and servo and step enables. -/
  | timCtrlWrite (w : Wr)
  /-- TIM_RATE_WRITE (R42): A host write of TIM_RATE is ignored while servo_en = 1 and otherwise stored clamped to plus or minus 200 ppm. -/
  | timRateWrite (w : Wr)
  /-- TIM_TPO_CFG_WRITE (R46): A write of TIM_TPO_CFG enables a pulse output, taking or being refused ownership of the TPO3 ball. -/
  | timTpoCfgWrite (n : Nat) (w : Wr)
  /-- TPO_WIDTH_END (R45): When the programmed width has elapsed the TPO pin returns to its inactive level. -/
  | tpoWidthEnd (n : Nat)
  /-- TCAP_EDGE (R47): A selected edge on TCAP0 or TCAP1 is recorded into the capture FIFO with its fabric time, or counted as lost or within hold-off. -/
  | tcapEdge (m : Nat) (rising : Bool)
  /-- TCAP_HOLDOFF_END (R47): The 20 ns hold-off after a recorded capture edge expires. -/
  | tcapHoldoffEnd (m : Nat)
  /-- TIM_TCAP_NS_READ (R48): A read of TIM_TCAP_NS pops the oldest capture and copies its seconds into TIM_TCAP_SEC. -/
  | timTcapNsRead (m : Nat) (z : WSize)
  /-- RC_READ (R11): A read of an RC field returns its value and clears it as one action. -/
  | rcRead (pg off : Nat) (z : WSize)
  /-- ARM (R56): Writing arm = 1 to a host-owned idle cairn unit arms it, clearing its status fields, or is refused. -/
  | arm (n : Nat) (irqEn alsoCancel : Bool)
  /-- ARM_EFFECT (R56): Four cycles after an arm the unit begins to be judged against its instant, firing at once and marked late if the instant is past. -/
  | armEffect (n : Nat)
  /-- CANCEL (R54): Writing cancel = 1 to an armed host-owned unit cancels it, ending in CANCELLED or DONE. -/
  | cancel (n : Nat) (irqEn : Bool)
  /-- CRN_UNIT_REGISTER_WRITE (R53): A write to a unit's instant, period, count or action registers is stored, or refused while the unit is ARMED or firmware-owned. -/
  | crnUnitRegisterWrite (n which : Nat) (w : Wr)
  /-- CRN_CTRL_WRITE (R55): A write of CRN_CTRL sets fw_units and quiet_ns, or is refused as a whole. -/
  | crnCtrlWrite (w : Wr)
  /-- CAIRN_FIRE (R49): An armed unit fires on the first core edge at or after its instant, counting the firing and scheduling its action's effect. -/
  | cairnFire (n : Nat)
  /-- FW_UNIT_RETRY (R59): With no idle firmware unit, the module retries scheduling its own action at each whole microsecond. -/
  | fwUnitRetry
  /-- EVENT (R51): An EVENT action reaches its effect point and raises PAGE_IRQ_STATUS bit n of the CRN page. -/
  | event (u : Nat)
  /-- TPO_EDGE (R45): A TPO_EDGE action drives the selected pin active for its width, or is rejected when the pin is not enabled. -/
  | tpoEdge (u : Nat)
  /-- CFG_COMMIT (R373): A CFG_COMMIT action commits the named staged settings groups all or nothing. -/
  | cfgCommit (u par : Nat)
  /-- TABLE_FLIP (R107): A TABLE_FLIP action inverts a slice's current epoch in every pipeline and starts its drain timer, or is rejected. -/
  | tableFlip (u : Nat)
  /-- SLICE_COMMIT (R389): A SLICE_COMMIT action brings a slice's staged settings into force according to its state. -/
  | sliceCommit (u : Nat)
  /-- TGATE_SWAP (R151): A TGATE_SWAP action selects a gate-list bank for a port and restarts the list at entry 0. -/
  | tgateSwap (u : Nat)
  /-- BYPASS_SET (R360): A BYPASS_SET action that matches a preparation moves the mesh and selectors and takes the fibres out of packet service, or clears a circuit. -/
  | bypassSet (u : Nat)
  /-- COMB_CHANGE (R317): A COMB_CHANGE action that matches an announced changeover begins driving the optical selector. -/
  | combChange (u : Nat)
  /-- LINE_MIGRATE (R317): A LINE_MIGRATE action that matches an announced migration begins retuning the lambda-16 ring. -/
  | lineMigrate (u : Nat)
  /-- PHASE_START (R164): A PHASE_START action starts a convoy of the named collective context, or is rejected. -/
  | phaseStart (u : Nat)
  /-- LEDGER_FLIP (R261): A LEDGER_FLIP action closes the step of a ledger, inverting its active bank, or is rejected with a reason. -/
  | ledgerFlip (u : Nat)
  /-- POWER_STATE (R471): A POWER_STATE action writes a block's PAGE_PWR request as a host write would. -/
  | powerState (u : Nat)
  /-- SNAPSHOT (R495): A SNAPSHOT action samples the congestion level of every logical port and writes a map to the telemetry ring. -/
  | snapshot (u : Nat)
  /-- FW_NOTICE (R51): A FW_NOTICE action interrupts the housekeeping processors with its firmware code. -/
  | fwNotice (u : Nat)
  /-- INGRESS_PACKET (R92): A whole packet received on a lane is checked, stamped, learned and resolved by its ingress pipeline, or dropped with a NAK. -/
  | ingressPacket (lp : Nat) (r : RxPkt)
  /-- FENCE_RELEASE (R134): A fenced packet waiting at its output is released once every earlier packet of its flow has left or been dropped. -/
  | fenceRelease
  /-- CROSSBAR_CELL_TIME (R128): In each 5 ns cell time every enabled plane runs request, grant and accept and transfers one cell per matched pair. -/
  | crossbarCellTime (lost ue : List (Nat × Nat)) (bad : List Nat)
  /-- PACKET_REASSEMBLED (R104): A packet completes at its output and passes the egress slice check before being placed on its egress queue. -/
  | packetReassembled (inp out : Nat)
  /-- RESEQ_TIMEOUT (R132): A missing pair sequence number not arriving within timeout_ns drops every packet that holds a missing cell. -/
  | reseqTimeout (inp out : Nat)
  /-- PLANE_FAULT (R131): A fault detected on a crossbar plane is counted and sets plane_err, without disabling the plane. -/
  | planeFault (plane : Nat)
  /-- EGRESS_DEQUEUE (R145): The egress scheduler serves an eligible queue and hands the head packet to the link layer. -/
  | egressDequeue (lp : Nat) (ue : List Nat)
  /-- SHAPER_TICK (R147): Each cell time every shaper bucket gains rate times 5 ns of bytes up to its burst size. -/
  | shaperTick
  /-- GATE_ENTRY_CHANGE (R150): When an entry's duration ends the gate list moves to its next entry, opening and closing classes. -/
  | gateEntryChange (lp : Nat)
  /-- LOAD_REFRESH (R146): Every 20 ns QSH publishes a fresh set of queued-cell counts for all logical ports. -/
  | loadRefresh
  /-- SPILL_READBACK (R153): When a queue's on-die cells fall below on_die_resume, packets are read back from the spill chain head. -/
  | spillReadback (q : Nat)
  /-- DRAIN_EXPIRY (R107): A slice's drain timer expires and draining clears, retiring the old epoch. -/
  | drainExpiry (sl : Nat)
  /-- AGE_TICK (R113): Every tick_ms each pipeline ages its non-static return entries and removes those past age 2. -/
  | ageTick (n : Nat)
  /-- FWD_SEED_WRITE (R99): A write of FWD_SEED sets the generator state, with zero taken as 1. -/
  | fwdSeedWrite (n : Nat) (w : Wr)
  /-- FWD_READ (R117): A FWD READ returns a table entry into FWD_TDATA. -/
  | fwdRead (n table bank : Nat)
  /-- FWD_WRITE (R117): A FWD WRITE writes a table entry, staging admission bits, or is refused BUSY or INVALID. -/
  | fwdWrite (n table bank : Nat)
  /-- SEARCH (R117): SEARCH returns the return-table entry for an endpoint. -/
  | search (n table : Nat)
  /-- NEXT (R117): NEXT returns the next valid return-table entry after the cursor that matches the filters. -/
  | cmdNext (n table : Nat)
  /-- FLUSH_BY_PORT (R117): FLUSH_BY_PORT removes non-static return entries naming a logical port. -/
  | flushByPort (n table : Nat) (all : Bool)
  /-- FLUSH_BY_SLICE (R117): FLUSH_BY_SLICE removes non-static return entries of a slice. -/
  | flushBySlice (n table : Nat) (all : Bool)
  /-- INSERT (R117): INSERT writes a static return entry, or reports FULL. -/
  | insert (n table : Nat) (all : Bool)
  /-- DELETE (R117): DELETE removes a return entry, static or not. -/
  | delete (n table : Nat) (all : Bool)
  /-- REPAIR (R121): REPAIR writes an entry of a bank in use only when the stored entry fails parity. -/
  | repair (n table bank : Nat)
  /-- SHADOW_COMPARE_PASS (R122): Outside SERVICE mode with shadow compare enabled the module walks the tables against the GDDR7 shadow image. -/
  | shadowComparePass
  /-- QSH_READ (R159): A QSH READ returns a shaper, WRR, policer, gate, gate configuration or queue-group entry. -/
  | qshRead (table bank : Nat)
  /-- QSH_WRITE (R159): A QSH WRITE writes a QSH table entry, taking effect at once, staged, or refused. -/
  | qshWrite (table bank : Nat)
  /-- CONTRIBUTION_ARRIVAL (R167): A contribution reaching its owning Serai core is checked, opens or joins a chunk context and is counted, or is dropped. -/
  | contributionArrival (l : Nat)
  /-- STRAGGLE_DEADLINE (R174): At open time plus straggle_ns an incomplete chunk is counted as straggling and statistics are updated. -/
  | straggleDeadline (ctx chunk : Nat)
  /-- CHUNK_TIMEOUT (R176): At open time plus timeout_us a chunk not yet FINALIZING is aborted with reason TIMEOUT. -/
  | chunkTimeout (ctx chunk : Nat)
  /-- RETAIN_EXPIRY (R169): A WINDOW-retained chunk enters RELEASED retain_us after entering RETAINED. -/
  | retainExpiry (ctx chunk : Nat)
  /-- RESULT_PIECE_SEND (R216): The emit engine takes a staged result piece from EQ and sends it to every recipient, writing retention. -/
  | resultPieceSend (core ue : Nat)
  /-- RESULT_NAK (R182): A member's NAK for a result piece is held, answered by a re-serve, or answered with NAK ABORTED. -/
  | resultNak (l : Nat)
  /-- SRG_READ (R185): An SRG READ returns a context, member, statistics or broadcast-tree entry. -/
  | srgRead (table : Nat)
  /-- SRG_WRITE (R160): An SRG WRITE defines a collective context, member or broadcast-tree entry, or is refused. -/
  | srgWrite (table : Nat)
  /-- CHUNK_SEARCH (R185): SEARCH on the CHUNK table returns a chunk context's state, core, open time and complete members. -/
  | chunkSearch (table : Nat)
  /-- START (R164): START begins a convoy of a context, or returns BUSY or INVALID. -/
  | start (table : Nat)
  /-- ABORT (R185): ABORT aborts every open chunk of a context, or one chunk, with reason HOST. -/
  | abort (table : Nat)
  /-- RELEASE (R185): RELEASE moves every RETAINED chunk of a context below a chunk index to RELEASED. -/
  | release (table : Nat)
  /-- CLEAR (R185): CLEAR zeroes the 1,024 records of a statistics block. -/
  | clear (table : Nat)
  /-- LOAD (R218): LOAD verifies a signed kernel image and copies it into the kernel store, or fails with an error code. -/
  | load
  /-- UNLOAD (R218): UNLOAD removes a kernel from the kernel store and every instruction memory. -/
  | unload
  /-- INFO (R241): INFO reports whether a kernel index is loaded with its count, ops and version. -/
  | info
  /-- ON_ARRIVE (R221): The accumulate pipeline runs the kernel's ON_ARRIVE invocation for a counted piece at the head of AQ. -/
  | onArrive (core : Nat)
  /-- ON_COMPLETE (R221): The accumulate pipeline runs ON_COMPLETE for a COMPLETE chunk, which enters FINALIZING. -/
  | onComplete (core : Nat)
  /-- ON_NORM (R221): The accumulate pipeline runs ON_NORM for a REDUCE_UPDATE chunk once its norm total is final. -/
  | onNorm (core : Nat)
  /-- ON_EMIT (R221): The accumulate pipeline runs ON_EMIT for each unreleased result piece in piece order. -/
  | onEmit (core : Nat)
  /-- NOP (R230): NOP does nothing. -/
  | nop (core : Nat)
  /-- END (R224): END ends the invocation, saving persistent words, without waiting for STL and EMIT. -/
  | cmdEnd (core : Nat)
  /-- BAR (R224): BAR stalls until every earlier LDL, STL and EMIT of the invocation has completed. -/
  | bar (core : Nat)
  /-- BR (R230): BR branches if a condition on two scalars holds. -/
  | br (core : Nat)
  /-- BRK (R230): BRK branches on whether any, no or all lanes of a predicate are set. -/
  | brk (core : Nat)
  /-- LDC (R230): LDC loads containers of the current piece's elements into a vector register. -/
  | ldc (core : Nat)
  /-- ACX (R230): ACX accumulates piece elements or containers exactly into tally. -/
  | acx (core : Nat) (ue : List (Nat × Nat × Nat)) (ce : Nat)
  /-- ACXK (R230): ACXK accumulates active lanes exactly into a kernel accumulator. -/
  | acxk (core : Nat)
  /-- ACXP (R200): ACXP accumulates the exact lane products of two vectors into a kernel accumulator. -/
  | acxp (core : Nat)
  /-- KCLR (R230): KCLR clears a kernel accumulator with its status and record. -/
  | kclr (core : Nat)
  /-- KADD (R230): KADD adds one kernel accumulator into another exactly. -/
  | kadd (core : Nat)
  /-- RDX (R203): RDX reads tally elements into a target format with rounding. -/
  | rdx (core : Nat) (ue : List (Nat × Nat × Nat)) (ce : Nat)
  /-- RDXK (R203): RDXK reads a kernel accumulator into every active lane in a target format. -/
  | rdxk (core : Nat)
  /-- CVT (R203): CVT converts containers from one format to another under the read rules. -/
  | cvt (core : Nat)
  /-- FADD (R231): FADD adds FP32 lanes with one rounding. -/
  | fadd (core : Nat)
  /-- FMUL (R231): FMUL multiplies FP32 lanes. -/
  | fmul (core : Nat)
  /-- FMA (R231): FMA computes a times b plus c with one rounding. -/
  | fma (core : Nat)
  /-- FMIN (R231): FMIN computes minimumNumber of two FP32 lanes. -/
  | fmin (core : Nat)
  /-- FMAX (R231): FMAX computes maximumNumber of two FP32 lanes. -/
  | fmax (core : Nat)
  /-- DIV (R231): DIV divides FP32 lanes. -/
  | div (core : Nat)
  /-- SQRT (R231): SQRT takes the FP32 square root of each lane. -/
  | sqrt (core : Nat)
  /-- RSQ (R232): RSQ takes the FP32 reciprocal square root of each lane. -/
  | rsq (core : Nat)
  /-- IADD (R230): IADD adds 32-bit lanes modulo 2^32. -/
  | iadd (core : Nat)
  /-- ISUB (R230): ISUB subtracts 32-bit lanes. -/
  | isub (core : Nat)
  /-- IMUL (R230): IMUL gives the low 32 bits of lane products. -/
  | imul (core : Nat)
  /-- ILOG (R230): ILOG applies a bitwise logic function to lanes. -/
  | ilog (core : Nat)
  /-- ISH (R230): ISH shifts lanes left, right or arithmetically. -/
  | ish (core : Nat)
  /-- IMOVI (R230): IMOVI loads an immediate into every lane. -/
  | imovi (core : Nat)
  /-- LANE (R230): LANE writes a scalar plus the lane index into each lane. -/
  | lane (core : Nat)
  /-- SEL (R230): SEL selects each lane from one of two vectors by a predicate. -/
  | sel (core : Nat)
  /-- ICMP (R230): ICMP writes an integer comparison of lanes into a predicate. -/
  | icmp (core : Nat)
  /-- FCMP (R230): FCMP writes an FP32 comparison of lanes into a predicate. -/
  | fcmp (core : Nat)
  /-- KOP (R230): KOP applies a logic function to predicates. -/
  | kop (core : Nat)
  /-- XADD (R230): XADD adds 64-bit scalars. -/
  | xadd (core : Nat)
  /-- XSUB (R230): XSUB subtracts 64-bit scalars. -/
  | xsub (core : Nat)
  /-- XMUL (R230): XMUL gives the low 64 bits of a scalar product. -/
  | xmul (core : Nat)
  /-- XLOG (R230): XLOG applies a bitwise logic function to scalars. -/
  | xlog (core : Nat)
  /-- XSH (R230): XSH shifts a scalar. -/
  | xsh (core : Nat)
  /-- XMOVI (R230): XMOVI loads an immediate into a scalar or its upper half. -/
  | xmovi (core : Nat)
  /-- XGET (R230): XGET copies one vector lane into a scalar. -/
  | xget (core : Nat)
  /-- XPUT (R230): XPUT copies a scalar into active lanes of a vector. -/
  | xput (core : Nat)
  /-- XSTS (R230): XSTS reads FPS, clearing it, or a status word or record into a scalar. -/
  | xsts (core : Nat)
  /-- LDL (R246): LDL reads a ledger field of chunk elements from the active or inactive bank or the step parameters. -/
  | ldl (core : Nat)
  /-- STL (R246): STL stores a ledger field of chunk elements into the inactive bank through SQ. -/
  | stl (core : Nat)
  /-- NRMS (R251): NRMS adds a kernel accumulator as the chunk's norm partial into its norm slot. -/
  | nrms (core : Nat)
  /-- NRMW (R230): NRMW loads the chunk's final norm total into a kernel accumulator. -/
  | nrmw (core : Nat)
  /-- EMIT (R230): EMIT mode 0 writes containers or EXP320 tally values into the current result piece. -/
  | emit (core : Nat) (ue : List (Nat × Nat × Nat)) (ce : Nat)
  /-- EMIT_SPECULATIVE (R257): EMIT mode 1 writes into a speculative staging buffer of the chunk, reporting in a predicate whether it was staged. -/
  | emitSpeculative (core : Nat) (ue : List (Nat × Nat × Nat)) (ce : Nat)
  /-- EMIT_RELEASE (R258): EMIT mode 2 releases the chunk's speculative pieces to EQ. -/
  | emitRelease (core : Nat)
  /-- EMIT_FREE (R258): EMIT mode 3 frees the chunk's speculative pieces. -/
  | emitFree (core : Nat)
  /-- LEDGER_LINE_FETCHED (R214): A prefetched or demanded ledger line arrives in the fetch buffer, releasing a stalled LDL. -/
  | ledgerLineFetched (core : Nat)
  /-- WATCHDOG (R225): An invocation reaching max_cycles is ended with fault WATCHDOG. -/
  | watchdog (core : Nat)
  /-- HANG (R234): An invocation not ended within 1,024 cycles of its watchdog fault fences the core with cause HANG. -/
  | hang (core : Nat)
  /-- CORE_ECC_ERROR (R234): An uncorrectable error in a core's private storage fences it with cause ECC. -/
  | coreEccError (core : Nat) (ue : Bool)
  /-- FENCE_CMD (R234): SRG_FENCE_CMD go fences the named physical core with cause HOST, or is refused. -/
  | fenceCmd (w : Wr)
  /-- CORE_PORT_REOPEN (R235): After the fence's aborts and remap, the logical core's port reopens and waiting packets are delivered. -/
  | corePortReopen (l : Nat)
  /-- BIST (R238): Writing SRI_CTRL.bist starts a self-test of a FENCED core. -/
  | bist (core : Nat) (w : Wr)
  /-- BIST_DONE (R238): A retest ends, making the core SPARE or FAILED and mapping an unmapped logical core to a new spare. -/
  | bistDone (core code : Nat)
  /-- LDG_CFG_WRITE (R244): A write of LDG_CFG enables or disables a ledger, or sets lock and layout, subject to checks. -/
  | ldgCfgWrite (n : Nat) (w : Wr)
  /-- NORM_PARTIAL_ARRIVAL (R252): A received kind 6 norm partial is checked and added into its slot's total, possibly claiming a PENDING slot. -/
  | normPartialArrival (l : Nat)
  /-- NORM_RETRY (R254): Every retry_us an OWN_DONE slot NAKs each peer whose partial is missing. -/
  | normRetry
  /-- NORM_PARTIAL_REQUEST (R254): A NAK PORT_LOST or NO_RESOURCE for a logged partial makes the module re-send that partial. -/
  | normPartialRequest (l : Nat)
  /-- NORM_ABORT_NAK (R255): A NAK ABORTED with ref_kind 6 for a slot raises a NORM fault. -/
  | normAbortNak (l : Nat)
  /-- NORM_TIMEOUT (R255): A slot OWN_DONE for timeout_us raises a NORM fault. -/
  | normTimeout
  /-- FLIP (R260): The FLIP command closes a ledger's step as a LEDGER_FLIP effect would, or is refused. -/
  | flip (n : Nat)
  /-- REVERT (R264): REVERT inverts the active bank back and decrements the step, or is refused. -/
  | revert (n : Nat)
  /-- ABANDON (R264): ABANDON aborts open chunks of the ledger, frees norm slots and clears coverage and fault. -/
  | abandon (n : Nat)
  /-- COPY_FWD (R264): COPY_FWD copies blocks from the active to the inactive bank and marks them covered. -/
  | copyFwd (n : Nat)
  /-- SET_STATE (R264): SET_STATE sets a locked ledger's active bank and step. -/
  | setState (n : Nat)
  /-- LOAD_PARAM (R264): LOAD_PARAM copies PARAM_NEXT into PARAM_CUR. -/
  | loadParam (n : Nat)
  /-- BROADCAST_ARRIVAL (R284): A launch broadcast reaching the launch-broadcast function opens an entry and copies to child fibres, or is a repeat. -/
  | broadcastArrival
  /-- BROADCAST_ACK (R285): An ACK with ref_kind 4 from a child fibre marks that child answered and may close the entry. -/
  | broadcastAck (lp : Nat) (r : RxPkt)
  /-- CHILD_TIMEOUT (R286): child_timeout_us after the last copy an OPEN broadcast entry closes. -/
  | childTimeout
  /-- BC_HOLD_EXPIRY (R283): A CLOSED broadcast entry is freed hold_ms after it closed. -/
  | bcHoldExpiry
  /-- HEATER_UPDATE (R304): Every 10 µs each ring's heater is set from the feed-forward table plus the dither correction. -/
  | heaterUpdate (e : Nat) (temps : List Nat) (dither : List Int) (bad : List Nat)
  /-- RING_LOCK_LOSS (R307): A ring losing lock or reaching an OUT entry takes its lane out of service and starts a relock sweep. -/
  | ringLockLoss (e ring : Nat) (out : Bool)
  /-- RING_RELOCKED (R307): A relocked ring that holds lock for 10 µs lets its lane rejoin. -/
  | ringRelocked (e ring offset order up down : Nat)
  /-- RECAL_SWEEP (R308): A periodic or early recalibration sweep of one ring takes its lane briefly out of service. -/
  | recalSweep (e ring : Nat)
  /-- COMB_LOCK_LOSS (R310): A comb losing lock is counted and a relock attempt starts. -/
  | combLockLoss (e comb : Nat)
  /-- COMB_RELOCK_TIMEOUT (R310): An active comb still unlocked after relock_us is changed over to CS4. -/
  | combRelockTimeout (e comb : Nat)
  /-- FADE_EVALUATION (R311): Every 1 ms line and comb fades are computed and thresholds are reached or cleared. -/
  | fadeEvaluation (e : Nat) (powers : List Nat)
  /-- BASELINE (R311): BASELINE records the comb-line tap powers and writes them to boot flash. -/
  | baseline (e : Nat) (powers : List Nat) (flashOk : Bool)
  /-- SWEEP_RING (R308): SWEEP_RING sweeps the ring named in OPX_RING_KEY. -/
  | sweepRing (e : Nat)
  /-- MON_CMD (R303): A write of OPX_MON_CMD starts an integration of a tap. -/
  | monCmd (e tap int : Nat)
  /-- MON_DONE (R303): The tap integration ends and its result is written to OPX_MON_DATA. -/
  | monDone (e power : Nat)
  /-- ANNOUNCE (R315): ANNOUNCE accepts a planned comb changeover or line migration and starts its notices, or refuses it. -/
  | announce (e : Nat)
  /-- CHANGE_WITHDRAW (R316): WITHDRAW on OPX_CHG_CMD cancels an announcement with a replacing notice. -/
  | changeWithdraw (e : Nat)
  /-- NOTICE_RESEND (R316): A changeover, line or bypass notice is sent again 10 µs after the previous sending, three times in all. -/
  | noticeResend (f : Nat)
  /-- HOLD_END (R318): At C plus 256 ns the transmit hold window ends and data resumes. -/
  | holdEnd (e : Nat)
  /-- COMB_OFF_WRITE (R321): A write of OPX_COMB.off turns a comb off, refused while it lights a fibre. -/
  | combOffWrite (e comb : Nat) (w : Wr)
  /-- CHANGEOVER_NOTICE (R319): A received CHANGEOVER_NOTICE opens a receive hold window on its fibre. -/
  | changeoverNotice (f id fromComb toComb sec nsHalf : Nat)
  /-- LINE_NOTICE (R319): A received LINE_NOTICE opens a receive hold window on the named lane and schedules the move to D16. -/
  | lineNotice (f id line sec nsHalf : Nat)
  /-- RX_HOLD_OPEN (R319): At C plus d minus 8 ns the receive hold window opens. -/
  | rxHoldOpen (f : Nat)
  /-- RX_MIGRATE_SWITCH (R319): At C plus d plus 128 ns the migrating lane's receiver moves onto D16. -/
  | rxMigrateSwitch (f : Nat)
  /-- RX_HOLD_CLOSE (R319): At C plus d plus 264 ns the receive hold window closes. -/
  | rxHoldClose (f : Nat)
  /-- DISABLE (R324): LNK_LANE_CMD DISABLE takes a lane to OFF with cause HOST. -/
  | disable (e lane : Nat)
  /-- RETRAIN (R324): LNK_LANE_CMD RETRAIN retrains a lane from FAILED, OFF by host or in service. -/
  | retrain (e lane : Nat)
  /-- LANE_READY (R324): A training lane with symbol, FEC and frame lock and good BER over 100 µs becomes READY. -/
  | laneReady (r : LaneLock)
  /-- LANE_SERVICE_ENTRY (R335): A READY lane on an EXPECTED fibre that has completed the rejoin enters SERVICE, bringing its port up. -/
  | laneServiceEntry (lane : Nat)
  /-- LANE_LEAVE_SERVICE (R337): A lane leaves SERVICE or READY for a recorded cause, sending LANE_NOTICE and recovering its packets. -/
  | laneLeaveService (lanes : List (Nat × Nat)) (cause : Nat)
  /-- LANE_NOTICE (R346): A received LANE_NOTICE takes the lane out with cause FAR_END or counts toward its rejoin. -/
  | laneNotice (f line state : Nat)
  /-- CONTROL_CODEWORD (R328): A received control codeword gives frame marker, the sender's lane state and port number, and its LMF slots. -/
  | controlCodeword (lane : Nat) (msg chk : List Nat)
  /-- LMF_REORDER_TIMEOUT (R330): A later LMF held 100 ns for a missing earlier one is passed on. -/
  | lmfReorderTimeout (f : Nat)
  /-- RETRY_ACK (R333): A received RETRY_ACK frees the sender's covered packets and retry blocks. -/
  | retryAck (f lp q : Nat)
  /-- RETRY_REQ (R333): A received RETRY_REQ replays every held packet from the named sequence, or is ignored. -/
  | retryReq (f lp q : Nat)
  /-- RETRY_ACK_TIMER (R331): The receiver sends a RETRY_ACK within 100 ns of an advance and in any case every 10 µs. -/
  | retryAckTimer (lp : Nat)
  /-- RETRY_TIMEOUT (R333): The oldest held packet waiting retry_to_us without acknowledgement causes a replay, and retry_max replays cause PORT_FAULT. -/
  | retryTimeout (lp : Nat)
  /-- RETRY_REQ_TIMEOUT (R332): No replay-start block within req_us makes the receiver send RETRY_REQ again. -/
  | retryReqTimeout (lp : Nat)
  /-- CREDIT (R336): A received CREDIT LMF updates the sender's credit on each virtual channel. -/
  | credit (f lp : Nat) (counts : List Nat)
  /-- CREDIT_TIMER (R336): The receiver sends a CREDIT LMF when a count changes, at most once per credit_ns and at least every 10 µs. -/
  | creditTimer (lp : Nat) (grants : List Nat)
  /-- PROBE_TIMER (R344): Every probe_us in PROBING, or keep_ms otherwise, the module sends a TRV_PROBE. -/
  | probeTimer (f : Nat)
  /-- TRV_PROBE (R344): A received TRV_PROBE is answered with TRV_IDENT and TRV_STATE. -/
  | trvProbe (f endpoint number : Nat)
  /-- TRV_IDENT (R345): A received TRV_IDENT is recorded and the fibre is evaluated against the plat. -/
  | trvIdent (f : Nat) (ident : Ident)
  /-- TRV_STATE (R344): A received TRV_STATE reports the neighbour's state for the fibre. -/
  | trvState (f st echo : Nat)
  /-- ABSENT_TIMEOUT (R344): No valid TRV_IDENT within absent_ms, or within three keep_ms intervals, moves the fibre to ABSENT or NONE. -/
  | absentTimeout (f : Nat)
  /-- ACCEPT_CROSS (R347): ACCEPT_CROSS swaps the plat entries of a CROSSED fibre and its partner and re-evaluates both. -/
  | acceptCross (f : Nat)
  /-- REEVAL (R347): REEVAL returns a fibre to PROBING and probes it anew. -/
  | reeval (f : Nat)
  /-- TRV_CTRL_WRITE (R344): A write of TRV_CTRL stops or resumes Traverse and sets its timers. -/
  | trvCtrlWrite (w : Wr)
  /-- PREPARE (R356): PREPARE accepts a bypass set or clear at instant C, draining the fibres, or refuses it. -/
  | prepare
  /-- BYPASS_WITHDRAW (R357): WITHDRAW on BYP_CMD cancels a preparation before its quiet point. -/
  | bypassWithdraw
  /-- PREPARATION_LAPSE (R360): At C plus 20 ns an unmatched preparation or direction lapses and BYP_MISSED counts. -/
  | preparationLapse
  /-- BYPASS_NOTICE (R362): A received BYPASS_NOTICE sets a send cutoff, a lane takedown and a Traverse reset on its fibre, or withdraws one. -/
  | bypassNotice (f id set sec nsHalf : Nat)
  /-- BYPASS_FAR_END_CUT (R362): At C plus d the neighbour of a bypass takes the fibre's lanes out as for FAR_END and returns Traverse to PROBING. -/
  | bypassFarEndCut (f : Nat)
  /-- INPUT_POWER_SAMPLE (R366): Every 1 ms each mesh input tap is integrated into BYP_INPOW and input loss is raised. -/
  | inputPowerSample (powers : List Nat)
  /-- MESH_PARITY_ERROR (R369): A parity error in stored mesh state is counted and raised, leaving the mesh as driven. -/
  | meshParityError (input : Nat)
  /-- COMMIT (R371): DTM_CMD COMMIT commits the named groups as a CFG_COMMIT would. -/
  | commit (par : Nat)
  /-- DISCARD (R374): DISCARD sets staged copies of the named groups back to the values in force. -/
  | discard
  /-- DTM_SLICE_COMMIT (R389): DTM_CMD SLICE_COMMIT commits a slice's staged settings as a SLICE_COMMIT would. -/
  | dtmSliceCommit
  /-- SLICE_PURGE (R391): SLICE_PURGE moves an IN_FORCE slice to PURGING, closing admission and starting aborts and flushes. -/
  | slicePurge
  /-- PURGE_COMPLETE (R391): When aborts and flushes are done and no cell of the slice remains, its settings reset and it becomes FREE. -/
  | purgeComplete (sl : Nat)
  /-- RECOMPUTE (R381): RECOMPUTE starts a walk of every covered word to recompute the datums. -/
  | recompute
  /-- RECOMPUTE_END (R381): At the end of the walk each differing datum is counted and replaced by its recomputed value. -/
  | recomputeEnd
  /-- DTM_MODULE_LO_READ (R380): A read of DTM_MODULE_LO captures the 128-bit module datum and copies its upper half. -/
  | dtmModuleLoRead
  /-- BEACON_INTERVAL (R382): Every beacon_us the module sends a DATUM_BEACON on eligible fibres, logs it and checks its own datums. -/
  | beaconInterval
  /-- DATUM_BEACON (R383): A received DATUM_BEACON is recorded, logged and compared. -/
  | datumBeacon (f : Nat) (b : Beacon)
  /-- GRACE_END (R385): The epoch grace after a commit or flip ends and checks count again. -/
  | graceEnd
  /-- DTM_READ (R395): A DTM READ returns a slice's state, quota, usage or expectation. -/
  | dtmRead (table : Nat)
  /-- DTM_WRITE (R395): A DTM WRITE stages a slice's quota or expectation, or is refused. -/
  | dtmWrite (table : Nat)
  /-- HOST_MEM_READ (R426): A CXL.mem read of a 64-byte line is decoded, corrected or returned poisoned. -/
  | hostMemRead (a : Nat) (errs : List (Nat × Nat))
  /-- HOST_MEM_WRITE (R412): A CXL.mem write of a 64-byte line is applied, merging partial words or writing poison markers. -/
  | hostMemWrite (a : Nat) (bytes : List Byte) (mask : Nat) (poison : Bool)
  /-- SCRUB_BLOCK (R406): The scrubber reads a block, writing back corrections and poison markers. -/
  | scrubBlock (errs : List (Nat × Nat))
  /-- REWRITE (R408): REWRITE scrubs a range at once. -/
  | rewrite
  /-- ZERO (R408): ZERO clears the granule valid bits of a range and removes its poison list entries. -/
  | zero
  /-- IDENTIFY_MEMORY_DEVICE (R421): The Identify Memory Device command returns the device's identity. -/
  | identifyMemoryDevice
  /-- GET_POISON_LIST (R424): Get Poison List returns the module's poison list. -/
  | getPoisonList
  /-- INJECT_POISON (R424): Inject Poison writes a poison marker into every word of a line. -/
  | injectPoison (a : Nat)
  /-- CLEAR_POISON (R424): Clear Poison writes a line with given data, ending its poison. -/
  | clearPoison (a : Nat) (bytes : List Byte)
  /-- REGISTER_WRITE (R11): A BAR0 write to a register with no row of its own is applied by its access code, staged or refused. -/
  | registerWrite (bar pg off size v : Nat) (env : Env)
  /-- PAGE_IRQ_WRITE (R434): A host write of PAGE_IRQ_STATUS or PAGE_IRQ_MASK updates the bits and resends the vector if still pending. -/
  | pageIrqWrite (pg : Nat) (mask : Bool) (w : Wr)
  /-- DOORBELL (R437): A write of HIF_RQ_TAIL posts descriptors to a ring. -/
  | doorbell (q : Nat) (w : Wr)
  /-- DESCRIPTOR_FETCH (R437): A fetched descriptor is taken by the command processor from the highest-priority ready ring. -/
  | descriptorFetch (q : Nat) (raw : List Byte) (poison fail : Bool) (lost : List Nat)
  /-- DESC_NOP (R441): A NOP descriptor completes at once. -/
  | descNop (q : Nat) (lost : List Nat)
  /-- DESC_WRITE (R441): A WRITE descriptor writes its values at their offsets in order. -/
  | descWrite (q : Nat) (env : Env) (lost : List Nat)
  /-- DESC_READ (R441): A READ descriptor reads registers into its completion. -/
  | descRead (q : Nat) (lost : List Nat)
  /-- EXEC (R441): An EXEC descriptor writes, polls a status bit until clear, then reads. -/
  | cmdExec (q : Nat) (env : Env) (lost : List Nat)
  /-- TABLE (R441): A TABLE descriptor runs a table command and reads back its data. -/
  | table (q : Nat) (env : Env) (lost : List Nat)
  /-- POLL_TIMEOUT (R442): A poll not clearing within poll_ms completes the descriptor with TIMEOUT. -/
  | pollTimeout (q : Nat) (lost : List Nat)
  /-- RING_RESET (R443): HIF_RQ_CMD.reset aborts the ring's untaken descriptors and sets head and tail to 0. -/
  | ringReset (q : Nat) (w : Wr)
  /-- HOST_PATH_SEND (R444): A TXQ descriptor's packet is checked, stamped, resolved and written into POOL_CELL, or dropped. -/
  | hostPathSend (n count : Nat) (p : Pkt) (others : List (Nat × Nat)) (lost : Bool)
  /-- HOST_PATH_DELIVERY (R445): A packet for the host path is written to its RXQ with its completion and poison marks. -/
  | hostPathDelivery (n buf : Nat) (lost : Bool)
  /-- RX_WAIT_TIMEOUT (R445): A host-path packet waiting rx_wait_us for a free RXQ descriptor is dropped. -/
  | rxWaitTimeout (n : Nat)
  /-- DMA_GO (R446): HIF_DMA go starts a copy between host memory and the data space. -/
  | dmaGo (c : Nat) (w : Wr)
  /-- DMA_DONE (R446): A DMA copy ends with status OK, INVALID or POISON. -/
  | dmaDone (c : Nat) (bytes : List Byte) (bad : List Nat) (errs : List (Nat × Nat))
  /-- CXL_LINK_CHANGE (R460): The CXL link trains or retrains, changing HIF_LINK and raising link_change. -/
  | cxlLinkChange (width rate : Nat) (flit : Bool)
  /-- ATTEST (R451): ATTEST writes a signed attestation report into the host buffer. -/
  | attest (nonce : List Byte)
  /-- FW_STAGE (R458): FW_STAGE copies a firmware image into a slot and verifies it. -/
  | fwStage (image : List Byte)
  /-- SET_BOOT_SLOT (R458): SET_BOOT_SLOT names the slot to boot at the next PERST_N. -/
  | setBootSlot
  /-- RAISE_MIN (R458): RAISE_MIN raises fw_min and kernel_min in the replay-protected region. -/
  | raiseMin
  /-- SET_ANCHOR (R458): SET_ANCHOR writes a fabric-manager key hash into SEC_ANCHOR. -/
  | setAnchor (hash : List Byte)
  /-- CLEAR_ANCHOR (R458): CLEAR_ANCHOR zeroes a SEC_ANCHOR. -/
  | clearAnchor
  /-- CERT_READ (R458): CERT_READ copies the certificate chain to host memory. -/
  | certRead
  /-- CLOSE_SESSIONS (R458): CLOSE_SESSIONS ends every in-band session. -/
  | closeSessions
  /-- SESS_INIT (R453): A SESS_INIT is checked and answered with SESS_ACCEPT or SESS_REFUSE. -/
  | sessInit
  /-- SESS_CONFIRM (R453): A tagged SESS_CONFIRM completes session establishment. -/
  | sessConfirm
  /-- SESS_CLOSE (R456): A SESS_CLOSE ends a session. -/
  | sessClose
  /-- CERT_REQ (R453): A CERT_REQ is answered with CERT_RESP carrying the certificate chain. -/
  | certReq
  /-- MGMT_CMD (R455): A MGMT_CMD runs its descriptors on an in-band ring and is answered with MGMT_RESP. -/
  | mgmtCmd (lost : List Nat)
  /-- ATTEST_REQ (R455): An ATTEST_REQ is answered with ATTEST_RESP holding an attestation report. -/
  | attestReq
  /-- SESSION_CONFIRM_TIMEOUT (R453): A session without SESS_CONFIRM within 1 s is discarded. -/
  | sessionConfirmTimeout
  /-- SESSION_IDLE_TIMEOUT (R456): A session with no valid message for idle_s ends. -/
  | sessionIdleTimeout
  /-- APPLY (R464): CLK_CMD.apply changes the RBUS and TBUS dividers, pausing accesses. -/
  | apply
  /-- CLK_OBS_WRITE (R470): A write of CLK_OBS enables CLKOBS on TPO3, or is refused with CONFLICT. -/
  | clkObsWrite (w : Wr)
  /-- REFERENCE_LOSS (R468): Loss of CXL_REFCLK deasserts READY, asserts ALERT_N and stops light and clocks. -/
  | referenceLoss
  /-- LOCK_LOSS (R468): A PLL lock loss that clears within 1 µs is counted and raised. -/
  | lockLoss
  /-- FLOCK_HOLD (R466): In fabric-locked mode the trim is held when the slave lane is unavailable. -/
  | flockHold (trim : Int)
  /-- FLOCK_RESUME (R466): At the first start-of-frame mark after every hold condition ends, steering resumes. -/
  | flockResume (trim : Int)
  /-- PAGE_PWR_WRITE (R471): A host write of PAGE_PWR.req requests ON, IDLE or OFF for a block, or is refused. -/
  | pagePwrWrite (pg : Nat) (w : Wr)
  /-- PAGE_CLKEN_WRITE (R469): A write of PAGE_CLKEN.en gates or restores a block's clock, refused unless the block is OFF. -/
  | pageClkenWrite (pg : Nat) (w : Wr)
  /-- PWR_FIBRE_WRITE (R471): A write of PWR_FIBRE.idle places one fibre's lanes in IDLE or wakes them. -/
  | pwrFibreWrite (f : Nat) (w : Wr)
  /-- IDLE_FILL_END (R473): 500 ns after a lane enters IDLE its fill ends and modulation stops. -/
  | idleFillEnd (f : Nat)
  /-- DEEP_IDLE_WAKE (R476): A lead before a targeting unit's instant, a deep-idle block wakes to shallow idle. -/
  | deepIdleWake (core : Bool) (idx : Nat)
  /-- SERAI_IDLE_HOLD_END (R474): An idle Serai core whose queues stay empty for serai_hold_ns returns to its chosen depth. -/
  | seraiIdleHoldEnd (core : Nat)
  /-- SREF_ENTER (R478): SREF_ENTER places all GDDR7 devices in self-refresh, or is refused BUSY. -/
  | srefEnter
  /-- SREF_EXIT (R478): SREF_EXIT returns the GDDR7 devices to service. -/
  | srefExit
  /-- TEMP_SAMPLE (R479): Every 100 µs the hottest junction reading is reported and temp_warn raised above warn_c. -/
  | tempSample (tj : Int) (sensor : Nat)
  /-- THERMAL_TRIP (R480): A junction above 115 °C asserts THERM_TRIP_N, turns off light and clocks and deasserts READY. -/
  | thermalTrip
  /-- VIN_SAMPLE (R481): Every 1 ms VIN36 voltage and current are read and vin_range raised when out of range twice. -/
  | vinSample (mv cur watts temp : Nat)
  /-- SOFT_START (R503): VIN36 rising through 31.5 V soft-starts the power stage, which raises PWR_GOOD when rails regulate. -/
  | softStart
  /-- SUPPLY_STOP (R503): Undervoltage or sustained overvoltage stops the power stage, dropping PWR_GOOD and READY. -/
  | supplyStop
  /-- START_UP (R482): Release of PERST_N runs the start-up sequence up to READY. -/
  | startUp (x : StartUpIn)
  /-- PERST_ASSERT (R484): Assertion of PERST_N stops every lane within 1 µs and loses all state but boot flash. -/
  | perstAssert
  /-- COUNTER_CLEAR (R487): A clear bit of PAGE_CNT_CTRL sets the programmable counter to 0. -/
  | counterClear (pg : Nat) (w : Wr)
  /-- CLEAR_ALL (R492): PMC_CMD.clear_all zeroes every programmable counter of every page in one cycle. -/
  | clearAll
  /-- TEL_CTRL_WRITE (R496): A write of TEL_CTRL or interval_ns arms, re-arms or cancels the firmware snapshot unit. -/
  | telCtrlWrite (cfg : Bool) (w : Wr)
  /-- SMBUS_READ (R509): An SMBus PMBus read returns a power-stage measurement; writes are refused. -/
  | smbusRead (what : Nat) (write : Bool)
  /-- STL_ACCEPTED (R224): An STL is accepted in order by the GDDR7 controller, completing it, setting dirty on the first after a flip, and letting a chunk whose last piece has been sent enter RETAINED or RELEASED. -/
  | stlAccepted (core : Nat)
  /-- COMB_LOCKED (R310): A comb that was unlocked, relocking or waking acquires lock on the grid, setting OPX_COMB.lock and making CS4 fit again. -/
  | combLocked (e comb : Nat)
  /-- WAKE_COMPLETE (R472): A lane, engine or Serai core waking from deep idle or OFF reaches its wake point, with rings locked, combs locked or issuing resumed, and PAGE_PWR.state changes. -/
  | wakeComplete (kind idx : Nat)
  /-- MESH_SETTLED (R360): The last direction of a bypass preparation reaches its final loss, up to 20 ns after its effect, and set_done or clear_done raises. -/
  | meshSettled
  /-- BUS_MASTER_ENABLE (R423): A host write of the function's Memory Space Enable or Bus Master Enable bits stops or resumes BAR and CXL.mem service, descriptor fetch and DMA. -/
  | busMasterEnable (mem master : Bool)
  /-- REFUSED_READ (R430): A BAR read of a gated page, an unassigned page, a refused alias or a bad size completes with Completer Abort, increments HIF_ACCESS_ERR, loads HIF_ACCESS_LOC and raises access_err. -/
  | refusedRead (bar pg off size : Nat)
  /-- BOUNDARY_SCAN (R510): Activity on JTAG_TCK, TMS, TDI and TRST_N drives the IEEE 1149.1 test access port through boundary scan, or holds it in reset. -/
  | boundaryScan (trst tms : Bool)
deriving DecidableEq, Repr

end Sys2Proof
end

