-- ==== Sys2Proof/Machine/Bits.lean ====
section
/-! DEFINITION. Bits and bytes: fields of words, little-endian images, the CRCs of R84, SHAKE256 and KMAC256, and the packet layout of R62 to R65. -/

namespace Sys2Proof.Machine

/-- Bits [lo + w - 1 : lo] of a word. -/
def fld (v lo w : Nat) : Nat := (v >>> lo) % 2 ^ w

/-- The bits [lo + w - 1 : lo] of `v` replaced by `x`. -/
def setFld (v lo w x : Nat) : Nat := v - (fld v lo w <<< lo) + ((x % 2 ^ w) <<< lo)

/-- Bit `i` of a word. -/
def bit (v i : Nat) : Bool := fld v i 1 = 1

/-- A two's-complement field of width `w` as an integer. -/
def toSigned (w v : Nat) : Int := if v < 2 ^ (w - 1) then (v : Int) else (v : Int) - (2 ^ w : Nat)

/-- An integer as a two's-complement field of width `w`. -/
def ofSigned (w : Nat) (x : Int) : Nat := (x % ((2 ^ w : Nat) : Int)).toNat

/-- `n` bytes of a number, little-endian (R6). -/
def leBytes (n v : Nat) : List Byte := (List.range n).map fun i => BitVec.ofNat 8 (v >>> (8 * i))

/-- The number little-endian bytes stand for. -/
def leNat (bs : List Byte) : Nat := bs.foldr (fun b n => b.toNat + 256 * n) 0

/-- Words of `n` bytes each, little-endian, one after another. -/
def leWords (n : Nat) (ws : List Nat) : List Byte := ws.flatMap (leBytes n)

/-- One byte into a reflected CRC register. -/
def crcByte (poly c : Nat) (b : Byte) : Nat :=
  (List.range 8).foldl (fun c _ => if c % 2 = 1 then (c / 2) ^^^ poly else c / 2) (c ^^^ b.toNat)

/-- A reflected CRC with initial value and final XOR of all ones (R84). -/
def crcWith (poly : Nat) (bs : List Byte) : Nat := (bs.foldl (crcByte poly) 0xFFFFFFFF) ^^^ 0xFFFFFFFF

/-- CRC-32 of hop_crc and lmf_crc (R84). -/
def crc32 (bs : List Byte) : Nat := crcWith 0xEDB88320 bs

/-- CRC-32C of hdr_crc and e2e_check (R84). -/
def crc32c (bs : List Byte) : Nat := crcWith 0x82F63B78 bs

/-- ⌊log2 n⌋ for n > 0. -/
def flog2 (n : Nat) : Nat := n.log2

/-- Number of set bits among the lowest `w`. -/
def popc (w v : Nat) : Nat := ((List.range w).filter fun i => bit v i).length

/-- The positions of the set bits among the lowest `w`. -/
def bitsOf (w v : Nat) : List Nat := (List.range w).filter fun i => bit v i

/-- The word with exactly the listed bits set. -/
def ofBits (l : List Nat) : Nat := l.foldl (fun m i => m ||| (1 <<< i)) 0

/-! SHAKE256 and KMAC256. -/

/-- 64-bit left rotation. -/
def rotl64 (v n : Nat) : Nat := ((v <<< (n % 64)) ||| (v >>> (64 - n % 64))) % 2 ^ 64

/-- Bit `t` of the LFSR behind the round constants of FIPS 202: x^8 + x^6 + x^5 + x^4 + 1, started at 1. -/
def keccakBit (t : Nat) : Bool :=
  (List.range t).foldl (fun r _ => if r < 128 then 2 * r else (2 * r) ^^^ 0x171) 1 % 2 = 1

/-- The 24 round constants: bit 2^j - 1 of constant `i` is bit j + 7 i of the LFSR. -/
def keccakRC : List Nat :=
  (List.range 24).map fun i => ofBits (((List.range 7).filter fun j => keccakBit (j + 7 * i)).map fun j => 2 ^ j - 1)

/-- Rotation offsets of lanes x + 5 y: the walk (x, y) to (y, 2 x + 3 y) from (1, 0) meets them in the order of the triangular numbers. -/
def keccakRot : List Nat :=
  ((List.range 24).foldl (fun (w : Nat × Nat × List Nat) t =>
    (w.2.1, (2 * w.1 + 3 * w.2.1) % 5, w.2.2.set (w.1 + 5 * w.2.1) ((t + 1) * (t + 2) / 2 % 64))) (1, 0, List.replicate 25 0)).2.2

/-- One round of Keccak-f[1600] on 25 lanes. -/
def keccakRound (a : List Nat) (rc : Nat) : List Nat :=
  let g := fun (l : List Nat) i => l.getD i 0
  let c := (List.range 5).map fun x => (List.range 5).foldl (fun v y => v ^^^ g a (x + 5 * y)) 0
  let d := (List.range 5).map fun x => g c ((x + 4) % 5) ^^^ rotl64 (g c ((x + 1) % 5)) 1
  let a1 := (List.range 25).map fun i => g a i ^^^ g d (i % 5)
  let b := (List.range 25).map fun i =>
    let x := i % 5
    let y := i / 5
    let s := (x + 3 * y) % 5 + 5 * x
    rotl64 (g a1 s) (g keccakRot s)
  let a2 := (List.range 25).map fun i =>
    let x := i % 5
    let y := 5 * (i / 5)
    g b i ^^^ ((g b ((x + 1) % 5 + y) ^^^ (2 ^ 64 - 1)) &&& g b ((x + 2) % 5 + y))
  a2.set 0 (g a2 0 ^^^ rc)

/-- Keccak-f[1600]. -/
def keccakF (a : List Nat) : List Nat := keccakRC.foldl keccakRound a

/-- The bytes cut into pieces of `n`, with `fuel` pieces at most. -/
def piecesOf (n : Nat) : Nat → List Byte → List (List Byte)
  | 0, _ => []
  | f + 1, l => if l.isEmpty then [] else l.take n :: piecesOf n f (l.drop n)

/-- Absorb padded input of whole 136-byte blocks. -/
def absorb (bs : List Byte) : List Nat :=
  (piecesOf 136 (bs.length / 136 + 1) bs).foldl (fun a blk =>
    keccakF ((List.range 25).map fun i => a.getD i 0 ^^^ (if i < 17 then leNat ((blk.drop (8 * i)).take 8) else 0)))
    (List.replicate 25 0)

/-- Squeeze `n` bytes. -/
def squeeze : Nat → Nat → List Nat → List Byte
  | 0, _, _ => []
  | f + 1, n, a => if n ≤ 136 then (leWords 8 (a.take 17)).take n else leWords 8 (a.take 17) ++ squeeze f (n - 136) (keccakF a)

/-- The sponge with rate 136 bytes and the given domain byte. -/
def sponge (dom : Nat) (bs : List Byte) (n : Nat) : List Byte :=
  let pad := 136 - bs.length % 136
  let tail : List Byte := if pad = 1 then [BitVec.ofNat 8 (dom + 0x80)]
    else BitVec.ofNat 8 dom :: (List.replicate (pad - 2) 0 ++ [BitVec.ofNat 8 0x80])
  squeeze (n / 136 + 1) n (absorb (bs ++ tail))

/-- SHAKE256 of FIPS 202, `n` bytes. -/
def shake256 (bs : List Byte) (n : Nat) : List Byte := sponge 0x1F bs n

/-- Big-endian bytes of a number below 2^64 without leading zeros, at least one (SP 800-185). -/
def beMin (v : Nat) : List Byte :=
  let l := (leBytes 8 v).reverse.dropWhile (· = 0)
  if l.isEmpty then [0] else l

/-- left_encode of SP 800-185. -/
def leftEncode (v : Nat) : List Byte := BitVec.ofNat 8 (beMin v).length :: beMin v

/-- right_encode of SP 800-185. -/
def rightEncode (v : Nat) : List Byte := beMin v ++ [BitVec.ofNat 8 (beMin v).length]

/-- encode_string of SP 800-185. -/
def encodeString (s : List Byte) : List Byte := leftEncode (8 * s.length) ++ s

/-- bytepad of SP 800-185 to whole blocks of 136 bytes. -/
def bytepad (x : List Byte) : List Byte :=
  let y := leftEncode 136 ++ x
  y ++ List.replicate ((136 - y.length % 136) % 136) 0

/-- The bytes of an ASCII text. -/
def asciiBytes (s : String) : List Byte := s.toList.map fun c => BitVec.ofNat 8 c.toNat

/-- KMAC256 of SP 800-185: key, data, output bytes, customisation (R454). -/
def kmac256 (k x : List Byte) (n : Nat) (cust : List Byte) : List Byte :=
  sponge 0x04 (bytepad (encodeString (asciiBytes "KMAC") ++ encodeString cust) ++ bytepad (encodeString k) ++ x ++ rightEncode (8 * n)) n

/-! Packets (R62 to R65). -/

/-- A length rounded up to a multiple of 8 (R62). -/
def pad8 (l : Nat) : Nat := (l + 7) / 8 * 8

/-- Wire length (R124). -/
def wireLen (l : Nat) : Nat := 64 + pad8 l + 8

/-- Cell count (R124). -/
def cellCount (l : Nat) : Nat := (64 + pad8 l + 255) / 256

end Sys2Proof.Machine

namespace Sys2Proof

open Machine

/-- The header as a 512-bit little-endian number (R65). -/
def Pkt.hdrImage (p : Pkt) : Nat :=
  (p.ver % 16) ||| (p.kind % 16) <<< 4 ||| (p.tc % 8) <<< 8 ||| (p.epoch % 2) <<< 11 ||| (p.fence % 2) <<< 12
  ||| (p.poisonAny % 2) <<< 13 ||| (p.colour % 4) <<< 14 ||| (p.length % 65536) <<< 16
  ||| (p.slice % 4096) <<< 32 ||| (p.hopPtr % 8) <<< 44 ||| (p.hopCount % 8) <<< 47 ||| (p.wbDone % 2) <<< 50
  ||| (p.bcTarget % 2) <<< 51 ||| (p.src % 2 ^ 24) <<< 64 ||| (p.dst % 2 ^ 24) <<< 96
  ||| ((List.range 8).foldl (fun v i => v ||| ((p.waybill.getD i 0) % 65536) <<< (128 + 16 * i)) 0)
  ||| (p.seq % 2 ^ 32) <<< 256 ||| (p.ctx % 65536) <<< 288 ||| (p.member % 1024) <<< 304 ||| (p.attempt % 8) <<< 314
  ||| (p.chunk % 2 ^ 32) <<< 320 ||| (p.fmt % 16) <<< 352 ||| (p.op % 16) <<< 356 ||| (p.poisonMap % 65536) <<< 368
  ||| (p.originTime % 2 ^ 48) <<< 384 ||| (p.e2e % 2 ^ 32) <<< 448 ||| (p.hdrCrc % 2 ^ 32) <<< 480 ||| p.rsv

/-- The reserved bits of the header (R65). -/
def Machine.rsvMask : Nat :=
  (0xFFF <<< 52) ||| (0xFF <<< 88) ||| (0xFF <<< 120) ||| (7 <<< 317) ||| (0xFF <<< 360) ||| (0xFFFF <<< 432)

/-- The packet a header image and a payload stand for (R65). -/
def Pkt.ofImage (v : Nat) (payload : List Byte) : Pkt :=
  { ver := fld v 0 4, kind := fld v 4 4, tc := fld v 8 3, epoch := fld v 11 1, fence := fld v 12 1, poisonAny := fld v 13 1,
    colour := fld v 14 2, length := fld v 16 16, slice := fld v 32 12, hopPtr := fld v 44 3, hopCount := fld v 47 3,
    wbDone := fld v 50 1, bcTarget := fld v 51 1, src := fld v 64 24, dst := fld v 96 24,
    waybill := (List.range 8).map fun i => fld v (128 + 16 * i) 16,
    seq := fld v 256 32, ctx := fld v 288 16, member := fld v 304 10, attempt := fld v 314 3, chunk := fld v 320 32,
    fmt := fld v 352 4, op := fld v 356 4, poisonMap := fld v 368 16, originTime := fld v 384 48, e2e := fld v 448 32,
    hdrCrc := fld v 480 32, rsv := v &&& rsvMask, payload := payload }

/-- The 64 header bytes (R63). -/
def Pkt.hdrBytes (p : Pkt) : List Byte := leBytes 64 p.hdrImage

/-- Payload and pad (R62). -/
def Pkt.padded (p : Pkt) : List Byte := p.payload ++ List.replicate (pad8 p.length - p.payload.length) 0

/-- hop_crc as this hop sends it (R84). -/
def Pkt.hopCrc (p : Pkt) : Nat := crc32 (p.hdrBytes ++ p.padded)

/-- hdr_crc of a header: the fields of R66 and hdr_crc taken as zero (R84). -/
def Pkt.calcHdrCrc (p : Pkt) : Nat :=
  crc32c (leBytes 60 ({ p with epoch := 0, colour := 0, hopPtr := 0, wbDone := 0, poisonAny := 0, poisonMap := 0, hdrCrc := 0 }).hdrImage)

/-- e2e_check of a payload; 0 for an empty one (R84). -/
def Machine.e2eOf (b : List Byte) : Nat := if b.isEmpty then 0 else crc32c b

/-- Payload segments (R77). -/
def Machine.segCount (l : Nat) : Nat := (l + 255) / 256

/-- poison_map without bits beyond the payload (R77), and poison_any as its OR (R78). -/
def Pkt.withPoison (p : Pkt) (m : Nat) : Pkt :=
  let m := m % 2 ^ segCount p.length
  { p with poisonMap := m, poisonAny := if m = 0 then 0 else 1 }

/-- The packet as stored: 64 header bytes, payload and pad (R124). -/
def Pkt.bytes (p : Pkt) : List Byte := p.hdrBytes ++ p.padded

/-- The packet as it goes onto a fibre (R62 to R64): header, payload and pad, then the trailer with hop_crc in its bytes 0 to 3 and zeros above. -/
def Pkt.wire (p : Pkt) : List Byte := p.bytes ++ leBytes 4 p.hopCrc ++ List.replicate 4 0

/-- The packet of received bytes: 64 header bytes, then as many payload bytes as `length` says (R62, R63). -/
def Pkt.ofBytes (b : List Byte) : Pkt :=
  let v := leNat (b.take 64)
  Pkt.ofImage v ((b.drop 64).take (fld v 16 16))

/-- The hop_crc a packet's trailer holds; its bytes 4 to 7 are ignored (R64). -/
def Machine.trailerCrc (b : List Byte) : Nat := leNat ((b.drop (b.length - 8)).take 4)

/-- Put a number into an ascending list once. -/
def Machine.insNat (n : Nat) : List Nat → List Nat
  | [] => [n]
  | x :: t => if n < x then n :: x :: t else if n = x then x :: t else x :: Machine.insNat n t

/-- The lowest number not in a list, looking at `fuel` numbers from `i` on. -/
def Machine.lowestFree (l : List Nat) : Nat → Nat → Nat
  | 0, i => i
  | f + 1, i => if l.contains i then Machine.lowestFree l f (i + 1) else i

end Sys2Proof
end

