-- ==== Sys2Proof/Machine/Fec.lean ====
section
/-! DEFINITION. What goes over a lane: RS(544,514) codewords, the PRBS31 stream, Gray-coded PAM4 levels, codeword headers and blocks (R299, R325 to R328), and the 128 bytes of a link management frame (R87 to R90). -/

namespace Sys2Proof.Machine

/-! GF(2^10) and RS(544,514) (R325). The field and the order of the symbols are those of the IEEE 802.3 code the rule names (log entry 79). -/

/-- Twice an element of GF(2^10), whose field polynomial is x^10 + x^3 + 1. -/
def gfTwice (a : Nat) : Nat := if a < 512 then 2 * a else (2 * a) ^^^ 0x409

/-- The product of two elements. -/
def gfMul (a b : Nat) : Nat :=
  ((List.range 10).foldl (fun (r : Nat × Nat) i => (if bit b i then r.1 ^^^ r.2 else r.1, gfTwice r.2)) (0, a)).1

/-- α^n, α = 2. -/
def gfExp (n : Nat) : Nat := (List.range (n % 1023)).foldl (fun a _ => gfTwice a) 1

/-- The inverse of a nonzero element: its 1022nd power. -/
def gfInv (a : Nat) : Nat :=
  ((List.range 9).foldl (fun (r : Nat × Nat) _ => let q := gfMul r.2 r.2; (gfMul r.1 q, q)) (1, a)).1

/-- The value at `x` of a polynomial, lowest coefficient first. -/
def polyAt (p : List Nat) (x : Nat) : Nat := p.foldr (fun c a => c ^^^ gfMul a x) 0

/-- The sum of two polynomials. -/
def polyAdd : List Nat → List Nat → List Nat
  | [], q => q
  | p, [] => p
  | a :: p, b :: q => (a ^^^ b) :: polyAdd p q

/-- A polynomial times an element. -/
def polyScale (c : Nat) (p : List Nat) : List Nat := p.map (gfMul c)

/-- The product of two polynomials. -/
def polyMul (p q : List Nat) : List Nat := p.foldr (fun c r => polyAdd (polyScale c q) (0 :: r)) []

/-- The generator polynomial: the product of x + α^j for j = 0 to 29, lowest coefficient first. -/
def rsGen : List Nat := (List.range 30).foldl (fun p j => polyMul p [gfExp j, 1]) [1]

/-- One message symbol through the division by the generator; `r` is the remainder, highest coefficient first. -/
def rsShift (g : List Nat) (r : List Nat) (m : Nat) : List Nat :=
  let fb := m ^^^ r.headD 0
  List.zipWith (fun a c => a ^^^ gfMul fb c) (r.tail ++ [0]) g

/-- The 544 symbols of a codeword: 514 message symbols, the first the highest coefficient, then the 30 check symbols. -/
def rsEncode (m : List Nat) : List Nat := m ++ m.foldl (rsShift (rsGen.dropLast.reverse)) (List.replicate 30 0)

/-- The 30 syndromes of a received word. -/
def rsSyndromes (r : List Nat) : List Nat :=
  (List.range 30).map fun j => let a := gfExp j; r.foldl (fun v c => gfMul v a ^^^ c) 0

/-- The shortest recurrence of the syndromes: error locator, the previous locator, its discrepancy, the length and the gap since it. -/
def rsLocate (syn : List Nat) : List Nat :=
  ((List.range 30).foldl (fun (c, b, d0, len, gap) n =>
    let d := ((List.range (len + 1)).map fun i => gfMul (c.getD i 0) (syn.getD (n - i) 0)).foldl (· ^^^ ·) 0
    if d = 0 then (c, b, d0, len, gap + 1) else
    let c' := polyAdd c (List.replicate gap 0 ++ polyScale (gfMul d (gfInv d0)) b)
    if 2 * len ≤ n then (c', c, d, n + 1 - len, 1) else (c', b, d0, len, gap + 1))
    (([1] : List Nat), ([1] : List Nat), 1, 0, 1)).1

/-- The formal derivative: the odd coefficients, moved down. -/
def polyDeriv (p : List Nat) : List Nat := (List.range (p.length - 1)).map fun i => if i % 2 = 0 then p.getD (i + 1) 0 else 0

/-- The corrected codeword and whether a symbol was wrong; none where more than 15 symbols are in error as far as the code can tell (R299). -/
def rsDecode (r : List Nat) : Option (List Nat × Bool) :=
  let syn := rsSyndromes r
  if syn.all (· = 0) then some (r, false) else
  let loc := rsLocate syn
  let deg := (loc.reverse.dropWhile (· = 0)).length - 1
  let w := (polyMul syn loc).take 30
  let dl := polyDeriv loc
  let c := r.zipIdx.map fun (v, i) =>
    let e := 543 - i
    let xi := gfExp (1023 - e)
    if polyAt loc xi = 0 then (v ^^^ gfMul (gfMul (gfExp e) (polyAt w xi)) (gfInv (polyAt dl xi)), 1) else (v, 0)
  let fixed := c.map (·.1)
  if deg ≤ 15 && (c.map (·.2)).sum = deg && (rsSyndromes fixed).all (· = 0) then some (fixed, true) else none

/-! Scrambling (R325). -/

/-- 28 further bits of the stream from its last 31, the oldest at bit 0: each bit is the sum of those 28 and 31 before it (log entry 80). -/
def prbsNext (h : Nat) : Nat := (h ^^^ (h >>> 3)) % 2 ^ 28

/-- The first 28 `n` bits after the stream is reset to all ones. -/
def prbsBits (n : Nat) : Nat :=
  ((List.range n).foldl (fun (r : Nat × Nat) k =>
    let c := prbsNext r.2
    (r.1 ||| c <<< (28 * k), (r.2 ||| c <<< 31) >>> 28)) (0, 2 ^ 31 - 1)).1

/-- The stream's bits over the message of codeword `i` of a frame; in a control codeword the 16 marker bytes are left as they are. -/
def scrambleMask (i : Nat) : Nat :=
  let k := fld (prbsBits ((5140 * (i + 1) + 27) / 28)) (5140 * i) 5140
  if i = 0 then k ^^^ (fld k 20 128 <<< 20) else k

/-- The codeword of message `msg` at place `i` of its frame, as 544 ten-bit symbols. -/
def codeword (i msg : Nat) : List Nat :=
  let m := msg ^^^ scrambleMask i
  rsEncode ((List.range 514).map fun s => fld m (10 * s) 10)

/-- The PAM4 levels of a ten-bit symbol: bit pairs from the least significant upward, Gray-coded (R299, R325). -/
def pam4 (v : Nat) : List Nat := (List.range 5).map fun k => ([0, 1, 3, 2] : List Nat).getD (fld v (2 * k) 2) 0

/-- The message a received codeword carries at place `i` of its frame, and whether a symbol was corrected; none where it is uncorrectable. -/
def decodeWord (i : Nat) (r : List Nat) : Option (Nat × Bool) :=
  (rsDecode r).map fun (c, fix) => (((c.take 514).foldr (fun v n => v % 1024 + 1024 * n) 0) ^^^ scrambleMask i, fix)

/-! Codeword header and block (R325, R327). -/

/-- A message: the header (kind, start, block number) and the 640-byte block. -/
def message (kind start bnum : Nat) (block : List Byte) : Nat :=
  (kind % 4) ||| (start % 128) <<< 2 ||| (bnum % 2048) <<< 9 ||| leNat block <<< 20

/-- kind of R327. -/
def msgKind (m : Nat) : Nat := fld m 0 2

/-- start of R327. -/
def msgStart (m : Nat) : Nat := fld m 2 7

/-- bnum of R327. -/
def msgNum (m : Nat) : Nat := fld m 9 11

/-- The block of a message. -/
def msgBlock (m : Nat) : List Byte := leBytes 640 (m >>> 20)

/-- `n` zero bytes. -/
def zeros (n : Nat) : List Byte := List.replicate n 0

/-- A fill codeword's message (R327, R340): no packet begins in it, and its block is zeros. -/
def fillMessage : Nat := message 2 127 0 []

/-- Bytes brought to a length. -/
def padTo (n : Nat) (b : List Byte) : List Byte := (b ++ zeros (n - b.length)).take n

/-- The frame marker of R328. -/
def marker : List Byte :=
  [0xC5, 0x3A, 0x96, 0x0F, 0x71, 0xE8, 0x2D, 0xB4, 0xC5, 0x3A, 0x96, 0x0F, 0x71, 0xE8, 0x2D, 0xB4]

/-- The block of a control codeword (R328), its four LMF slots of 128 bytes, an unused one zero. -/
def CtrlWord.block (w : CtrlWord) : List Byte :=
  marker ++ leBytes 4 ((w.frame % 65536) ||| (w.line % 32) <<< 16 ||| (w.lane % 32) <<< 21 ||| (w.fibre % 64) <<< 26)
    ++ leBytes 4 (w.state % 8) ++ leBytes 4 w.bref ++ leBytes 4 w.sref
    ++ leBytes 4 ((w.port % 1024) ||| (if w.portValid then 1 <<< 15 else 0)) ++ zeros 28
    ++ (List.range 4).flatMap (fun i => padTo 128 (w.slots.getD i [])) ++ zeros 64

/-- The control codeword a block holds; none where the marker does not stand in it. -/
def CtrlWord.ofBlock (b : List Byte) : Option CtrlWord :=
  let at_ := fun i n => leNat ((b.drop i).take n)
  if b.take 16 ≠ marker then none else
  some { frame := fld (at_ 0x10 4) 0 16, line := fld (at_ 0x10 4) 16 5, lane := fld (at_ 0x10 4) 21 5, fibre := fld (at_ 0x10 4) 26 6,
         state := fld (at_ 0x14 4) 0 3, bref := at_ 0x18 4, sref := at_ 0x1C 4, port := fld (at_ 0x20 4) 0 10,
         portValid := bit (at_ 0x20 4) 15, slots := (List.range 4).map fun i => (b.drop (0x40 + 0x80 * i)).take 0x80 }

/-! Link management frames (R87 to R90). -/

/-- The 128 bytes of an LMF (R87). -/
def lmfFrame (typ fibre seq : Nat) (body : List Byte) : List Byte :=
  let b := leBytes 4 (1 ||| (typ % 256) <<< 8 ||| (fibre % 64) <<< 16) ++ leBytes 4 seq ++ padTo 112 body ++ zeros 4
  b ++ leBytes 4 (crc32 b)

/-- The three checks of R88 begin with lmf_crc: the frame's fields where it holds. -/
def LmfSlot.ofFrame (b : List Byte) : Option LmfSlot :=
  let at_ := fun i n => leNat ((b.drop i).take n)
  if b.length = 128 && crc32 (b.take 0x7C) = at_ 0x7C 4 then
    some { lver := fld (at_ 0 4) 0 4, typ := fld (at_ 0 4) 8 8, fibre := fld (at_ 0 4) 16 6, seq := at_ 4 4, body := (b.drop 8).take 112 }
  else none

/-- Where the fields of a body stand and how many bytes each has (R89), in the order of the table. -/
def lmfLayout (typ : Nat) : List (Nat × Nat) :=
  match typ with
  | 0x01 => [(0, 4), (4, 4)]
  | 0x02 => [(0, 8), (8, 1), (9, 1), (10, 1), (12, 4), (16, 16)]
  | 0x03 => [(0, 4), (4, 4)]
  | 0x20 => [(0, 8), (8, 8), (0x10, 4), (0x18, 16), (0x28, 8), (0x30, 16)]
  | 0x30 => [(0, 2), (2, 1), (3, 1), (4, 1), (5, 1), (8, 8), (0x10, 8)]
  | 0x31 => [(0, 2), (2, 1), (3, 1), (8, 8), (0x10, 8)]
  | 0x32 => [(0, 2), (2, 1), (3, 1), (8, 8), (0x10, 8)]
  | 0x33 => [(0, 1), (1, 1)]
  | 0x40 => [(0, 4), (4, 4)]
  | 0x41 => [(0, 4), (4, 4)]
  | 0x48 => (0, 4) :: (List.range 16).map fun v => (8 + 2 * v, 2)
  | _ => []

/-- A body from its fields. -/
def lmfBody (typ : Nat) (fs : List Nat) : List Byte :=
  ((lmfLayout typ).zip fs).foldl (fun b ((o, n), v) => padTo o b ++ leBytes n v) []

/-- The fields of a body. -/
def lmfFields (typ : Nat) (b : List Byte) : List Nat := (lmfLayout typ).map fun (o, n) => leNat ((b.drop o).take n)

/-! IEEE 1588-2019 messages (R33, R90), in network order. -/

/-- `n` bytes of a number, most significant first. -/
def beBytes (n v : Nat) : List Byte := (leBytes n v).reverse

/-- The number of network-order bytes. -/
def beNat (b : List Byte) : Nat := leNat b.reverse

/-- The 34 bytes of the common header: messageType, domain 0, correctionField, the sender's port identity (clock identity and portNumber), sequenceId, logMessageInterval (log entry 81). -/
def ptpHeader (typ len flags corr clockId port seq : Nat) (ctl logInt : Nat) : List Byte :=
  [BitVec.ofNat 8 typ, 0x12] ++ beBytes 2 len ++ [0, 0] ++ beBytes 2 flags ++ beBytes 8 corr ++ zeros 4 ++ beBytes 8 clockId ++ beBytes 2 port
    ++ beBytes 2 seq ++ beBytes 1 ctl ++ beBytes 1 logInt

/-- correctionField of a message, signed, in 2^-16 ns. -/
def ptpCorr (b : List Byte) : Int := toSigned 64 (beNat ((b.drop 8).take 8))

/-- sequenceId of a message. -/
def ptpSeq (b : List Byte) : Nat := beNat ((b.drop 30).take 2)

/-- domainNumber of a message. -/
def ptpDomain (b : List Byte) : Nat := beNat ((b.drop 4).take 1)

/-- sourcePortIdentity of a message. -/
def ptpSource (b : List Byte) : Nat := beNat ((b.drop 20).take 10)

end Sys2Proof.Machine
end

