-- ==== Sys2Proof/Config.lean ====
section
/-! DEFINITION. What the spec leaves to production, to other standards or open: constants without a body, so that every statement holds whatever their values. -/

namespace Sys2Proof.Config

/-- A value the spec does not state, the n-th of its kind that a run meets (log entry 1). -/
opaque freeValue : Nat → Nat → Nat

/-- The production value written in boot flash for a purpose and an index: serial, calibration, characterisation (R447, log entry 3). -/
opaque flash : Nat → Nat → Nat

/-- SLH-DSA verification of FIPS 205: parameter set, public key, message, signature (R217, R448, R453, log entry 4). -/
opaque slhDsaVerify : Nat → List (BitVec 8) → List (BitVec 8) → List (BitVec 8) → Bool

/-- SLH-DSA signing with the identity key: message to signature (R451, R453, log entry 4). -/
opaque slhDsaSign : List (BitVec 8) → List (BitVec 8)

/-- ML-KEM-1024 encapsulation: key and randomness to ciphertext and shared secret (R453, log entry 4). -/
opaque mlKemEncaps : List (BitVec 8) → Nat → List (BitVec 8) × List (BitVec 8)

/-- The certificate chain of the device identity in boot flash (R449, log entry 3). -/
opaque certChain : List (BitVec 8)

/-- The identity public key derived at start-up from the PUF (R449, log entry 4). -/
opaque identityKey : List (BitVec 8)

/-- The Casneloth public key hash in ROM and the keys a running image names (R448, log entry 3). -/
opaque romKeyHash : List (BitVec 8)

/-- The response payload of Identify Memory Device as CXL 3.1 lays it out (R421, R424, log entry 28). -/
opaque identifyPayload : List (BitVec 8)

end Sys2Proof.Config
end

