-- ==== Sys2Proof/Machine/Regs.lean ====
section
/-! DEFINITION. The register map: one description per field of every register table of the spec, in the spec's names (BLOCK_NAME_field), and the list of each block's fields. Generated from the register tables of spec/; the numbers are theirs. -/

namespace Sys2Proof.Machine

/-- The access codes of R11. -/
inductive Acc where
  | ro | rw | w1c | w1s | rc | wo
deriving DecidableEq, Repr

/-- One field of a register: page index of its block's first page (R432; BAR2 ring pages from 256, the LP_CFG words of R116 at 400), offset of element 0, the strides and counts of its one or two indexes, low bit, width, access code and reset value (`rsts` where the elements differ). `grp` is one more than the staged settings group of R370 the field belongs to, 0 for none. -/
structure RegD where
  page : Nat
  base : Nat
  stride : Nat := 0
  cnt : Nat := 1
  stride2 : Nat := 0
  cnt2 : Nat := 1
  lo : Nat
  w : Nat
  acc : Acc
  rst : Nat := 0
  rsts : List Nat := []
  grp : Nat := 0
deriving DecidableEq, Repr

/-- R60: TIM_CTRL.mode. -/
def TIM_CTRL_mode : RegD := { page := 4, base := 256, lo := 0, w := 1, acc := .rw }
/-- R60: TIM_CTRL.servo_en. -/
def TIM_CTRL_servo_en : RegD := { page := 4, base := 256, lo := 1, w := 1, acc := .rw, rst := 1 }
/-- R60: TIM_CTRL.step_en. -/
def TIM_CTRL_step_en : RegD := { page := 4, base := 256, lo := 2, w := 1, acc := .rw, rst := 1 }
/-- R60: TIM_STATE.state. -/
def TIM_STATE_state : RegD := { page := 4, base := 264, lo := 0, w := 3, acc := .ro }
/-- R60: TIM_STATE.slave_port. -/
def TIM_STATE_slave_port : RegD := { page := 4, base := 264, lo := 4, w := 6, acc := .ro }
/-- R60: TIM_STATE.slave_valid. -/
def TIM_STATE_slave_valid : RegD := { page := 4, base := 264, lo := 10, w := 1, acc := .ro }
/-- R60: TIM_NOW_NS.ns. -/
def TIM_NOW_NS_ns : RegD := { page := 4, base := 272, lo := 16, w := 30, acc := .ro }
/-- R60: TIM_NOW_NS.frac. -/
def TIM_NOW_NS_frac : RegD := { page := 4, base := 272, lo := 0, w := 16, acc := .ro }
/-- R60: TIM_NOW_SEC.sec. -/
def TIM_NOW_SEC_sec : RegD := { page := 4, base := 280, lo := 0, w := 48, acc := .ro }
/-- R60: TIM_SET_SEC.sec. -/
def TIM_SET_SEC_sec : RegD := { page := 4, base := 288, lo := 0, w := 48, acc := .rw }
/-- R60: TIM_SET_NS.ns_frac. -/
def TIM_SET_NS_ns_frac : RegD := { page := 4, base := 296, lo := 0, w := 46, acc := .rw }
/-- R60: TIM_CMD.op. -/
def TIM_CMD_op : RegD := { page := 4, base := 304, lo := 0, w := 2, acc := .wo }
/-- R60: TIM_STEP_ADJ.adj. -/
def TIM_STEP_ADJ_adj : RegD := { page := 4, base := 312, lo := 0, w := 64, acc := .rw }
/-- R60: TIM_RATE.rate. -/
def TIM_RATE_rate : RegD := { page := 4, base := 320, lo := 0, w := 64, acc := .rw }
/-- R60: TIM_OFFSET.offset_ps. -/
def TIM_OFFSET_offset_ps : RegD := { page := 4, base := 328, lo := 0, w := 32, acc := .ro }
/-- R60: TIM_MLD.mld_ps. -/
def TIM_MLD_mld_ps : RegD := { page := 4, base := 336, lo := 0, w := 32, acc := .ro }
/-- R60: TIM_INTERVALS.log_sync. -/
def TIM_INTERVALS_log_sync : RegD := { page := 4, base := 344, lo := 0, w := 8, acc := .rw, rst := 246 }
/-- R60: TIM_INTERVALS.log_pdelay. -/
def TIM_INTERVALS_log_pdelay : RegD := { page := 4, base := 344, lo := 8, w := 8, acc := .rw, rst := 249 }
/-- R60: TIM_INTERVALS.log_announce. -/
def TIM_INTERVALS_log_announce : RegD := { page := 4, base := 344, lo := 16, w := 8, acc := .rw }
/-- R60: TIM_LIMITS.slew_max. -/
def TIM_LIMITS_slew_max : RegD := { page := 4, base := 352, lo := 0, w := 24, acc := .rw, rst := 10000 }
/-- R60: TIM_LIMITS.step_thresh. -/
def TIM_LIMITS_step_thresh : RegD := { page := 4, base := 352, lo := 32, w := 32, acc := .rw, rst := 1000 }
/-- R60: TIM_STATUS.role_refused. -/
def TIM_STATUS_role_refused : RegD := { page := 4, base := 360, lo := 0, w := 1, acc := .w1c }
/-- R60: TIM_STATUS.step_refused. -/
def TIM_STATUS_step_refused : RegD := { page := 4, base := 360, lo := 1, w := 1, acc := .w1c }
/-- R60: TIM_RX_DISCARD.count. -/
def TIM_RX_DISCARD_count : RegD := { page := 4, base := 368, lo := 0, w := 32, acc := .ro }
/-- R60: TIM_PDELAY_TIMEOUT.count. -/
def TIM_PDELAY_TIMEOUT_count : RegD := { page := 4, base := 376, lo := 0, w := 32, acc := .ro }
/-- R60: TIM_PIN_OWN.tpo3_owner. -/
def TIM_PIN_OWN_tpo3_owner : RegD := { page := 4, base := 384, lo := 0, w := 2, acc := .ro }
/-- R60: TIM_TPO_CFG.enable. -/
def TIM_TPO_CFG_enable : RegD := { page := 4, base := 512, stride := 8, cnt := 4, lo := 0, w := 1, acc := .rw }
/-- R60: TIM_TPO_CFG.polarity. -/
def TIM_TPO_CFG_polarity : RegD := { page := 4, base := 512, stride := 8, cnt := 4, lo := 1, w := 1, acc := .rw }
/-- R60: TIM_TPO_CFG.width. -/
def TIM_TPO_CFG_width : RegD := { page := 4, base := 512, stride := 8, cnt := 4, lo := 8, w := 24, acc := .rw, rst := 20 }
/-- R60: TIM_TPO_CFG.status. -/
def TIM_TPO_CFG_status : RegD := { page := 4, base := 512, stride := 8, cnt := 4, lo := 32, w := 2, acc := .ro }
/-- R60: TIM_TCAP_CFG.enable. -/
def TIM_TCAP_CFG_enable : RegD := { page := 4, base := 768, stride := 32, cnt := 2, lo := 0, w := 1, acc := .rw }
/-- R60: TIM_TCAP_CFG.edge. -/
def TIM_TCAP_CFG_edge : RegD := { page := 4, base := 768, stride := 32, cnt := 2, lo := 1, w := 2, acc := .rw, rst := 1 }
/-- R60: TIM_TCAP_NS.valid. -/
def TIM_TCAP_NS_valid : RegD := { page := 4, base := 776, stride := 32, cnt := 2, lo := 63, w := 1, acc := .rc }
/-- R60: TIM_TCAP_NS.rising. -/
def TIM_TCAP_NS_rising : RegD := { page := 4, base := 776, stride := 32, cnt := 2, lo := 62, w := 1, acc := .rc }
/-- R60: TIM_TCAP_NS.ns_frac. -/
def TIM_TCAP_NS_ns_frac : RegD := { page := 4, base := 776, stride := 32, cnt := 2, lo := 0, w := 46, acc := .rc }
/-- R60: TIM_TCAP_SEC.sec. -/
def TIM_TCAP_SEC_sec : RegD := { page := 4, base := 784, stride := 32, cnt := 2, lo := 0, w := 48, acc := .ro }
/-- R60: TIM_TCAP_OVF.count. -/
def TIM_TCAP_OVF_count : RegD := { page := 4, base := 792, stride := 32, cnt := 2, lo := 0, w := 32, acc := .rc }
/-- R60: TIM_PORT.role. -/
def TIM_PORT_role : RegD := { page := 4, base := 1024, stride := 8, cnt := 64, lo := 0, w := 2, acc := .rw }
/-- R60: TIM_PORT.asym. -/
def TIM_PORT_asym : RegD := { page := 4, base := 1024, stride := 8, cnt := 64, lo := 32, w := 32, acc := .rw }
/-- R60: TIM_PORT_MLD.mld_ps. -/
def TIM_PORT_MLD_mld_ps : RegD := { page := 4, base := 1536, stride := 8, cnt := 64, lo := 0, w := 32, acc := .ro }
/-- R61: CRN_CTRL.fw_units. -/
def CRN_CTRL_fw_units : RegD := { page := 5, base := 256, lo := 0, w := 6, acc := .rw, rst := 4 }
/-- R61: CRN_CTRL.quiet_ns. -/
def CRN_CTRL_quiet_ns : RegD := { page := 5, base := 256, lo := 32, w := 32, acc := .rw, rst := 1000 }
/-- R61: CRN_ARMED.armed. -/
def CRN_ARMED_armed : RegD := { page := 5, base := 264, lo := 0, w := 32, acc := .ro }
/-- R61: CRN_LATE.late. -/
def CRN_LATE_late : RegD := { page := 5, base := 272, lo := 0, w := 32, acc := .w1c }
/-- R61: CRN_REFUSE_CNT.count. -/
def CRN_REFUSE_CNT_count : RegD := { page := 5, base := 280, lo := 0, w := 32, acc := .ro }
/-- R61: CRN_U_SEC.sec. -/
def CRN_U_SEC_sec : RegD := { page := 5, base := 4096, stride := 64, cnt := 32, lo := 0, w := 48, acc := .rw }
/-- R61: CRN_U_NS.ns. -/
def CRN_U_NS_ns : RegD := { page := 5, base := 4104, stride := 64, cnt := 32, lo := 1, w := 30, acc := .rw }
/-- R61: CRN_U_NS.half. -/
def CRN_U_NS_half : RegD := { page := 5, base := 4104, stride := 64, cnt := 32, lo := 0, w := 1, acc := .rw }
/-- R61: CRN_U_PERIOD.period. -/
def CRN_U_PERIOD_period : RegD := { page := 5, base := 4112, stride := 64, cnt := 32, lo := 0, w := 40, acc := .rw }
/-- R61: CRN_U_COUNT.count. -/
def CRN_U_COUNT_count : RegD := { page := 5, base := 4120, stride := 64, cnt := 32, lo := 0, w := 32, acc := .rw }
/-- R61: CRN_U_ACTION.class. -/
def CRN_U_ACTION_class : RegD := { page := 5, base := 4128, stride := 64, cnt := 32, lo := 0, w := 4, acc := .rw }
/-- R61: CRN_U_ACTION.arg. -/
def CRN_U_ACTION_arg : RegD := { page := 5, base := 4128, stride := 64, cnt := 32, lo := 32, w := 32, acc := .rw }
/-- R61: CRN_U_CTRL.arm. -/
def CRN_U_CTRL_arm : RegD := { page := 5, base := 4136, stride := 64, cnt := 32, lo := 0, w := 1, acc := .w1s }
/-- R61: CRN_U_CTRL.cancel. -/
def CRN_U_CTRL_cancel : RegD := { page := 5, base := 4136, stride := 64, cnt := 32, lo := 1, w := 1, acc := .w1s }
/-- R61: CRN_U_CTRL.irq_en. -/
def CRN_U_CTRL_irq_en : RegD := { page := 5, base := 4136, stride := 64, cnt := 32, lo := 2, w := 1, acc := .rw }
/-- R61: CRN_U_CTRL.owner. -/
def CRN_U_CTRL_owner : RegD := { page := 5, base := 4136, stride := 64, cnt := 32, lo := 8, w := 2, acc := .ro }
/-- R61: CRN_U_STATUS.state. -/
def CRN_U_STATUS_state : RegD := { page := 5, base := 4144, stride := 64, cnt := 32, lo := 0, w := 3, acc := .ro }
/-- R61: CRN_U_STATUS.late. -/
def CRN_U_STATUS_late : RegD := { page := 5, base := 4144, stride := 64, cnt := 32, lo := 3, w := 1, acc := .ro }
/-- R61: CRN_U_STATUS.refused. -/
def CRN_U_STATUS_refused : RegD := { page := 5, base := 4144, stride := 64, cnt := 32, lo := 4, w := 1, acc := .ro }
/-- R61: CRN_U_STATUS.result. -/
def CRN_U_STATUS_result : RegD := { page := 5, base := 4144, stride := 64, cnt := 32, lo := 5, w := 3, acc := .ro }
/-- R61: CRN_U_STATUS.fire_count. -/
def CRN_U_STATUS_fire_count : RegD := { page := 5, base := 4144, stride := 64, cnt := 32, lo := 32, w := 32, acc := .ro }
/-- R123: FWD_CTRL.learn_en. -/
def FWD_CTRL_learn_en : RegD := { page := 64, base := 256, lo := 0, w := 1, acc := .rw, rst := 1 }
/-- R123: FWD_CTRL.nak_en. -/
def FWD_CTRL_nak_en : RegD := { page := 64, base := 256, lo := 1, w := 1, acc := .rw, rst := 1 }
/-- R123: FWD_TMODE.mode. -/
def FWD_TMODE_mode : RegD := { page := 64, base := 264, lo := 0, w := 2, acc := .rw, rst := 1 }
/-- R123: FWD_SPRAY_MODE.mode. -/
def FWD_SPRAY_MODE_mode : RegD := { page := 64, base := 272, lo := 0, w := 8, acc := .rw, rst := 3 }
/-- R123: FWD_HASH_CFG.use_ctx. -/
def FWD_HASH_CFG_use_ctx : RegD := { page := 64, base := 280, lo := 0, w := 1, acc := .rw, rst := 1 }
/-- R123: FWD_HASH_CFG.salt. -/
def FWD_HASH_CFG_salt : RegD := { page := 64, base := 280, lo := 8, w := 8, acc := .rw }
/-- R123: FWD_SEED.seed. -/
def FWD_SEED_seed : RegD := { page := 64, base := 288, lo := 0, w := 64, acc := .rw }
/-- R123: FWD_DRAIN.drain_us. -/
def FWD_DRAIN_drain_us : RegD := { page := 64, base := 296, lo := 0, w := 32, acc := .rw, rst := 2000 }
/-- R123: FWD_AGE.tick_ms. -/
def FWD_AGE_tick_ms : RegD := { page := 64, base := 304, lo := 0, w := 16, acc := .rw, rst := 250 }
/-- R123: FWD_PARITY_LOC.table. -/
def FWD_PARITY_LOC_table : RegD := { page := 64, base := 312, lo := 0, w := 4, acc := .ro }
/-- R123: FWD_PARITY_LOC.index. -/
def FWD_PARITY_LOC_index : RegD := { page := 64, base := 312, lo := 8, w := 24, acc := .ro }
/-- R123: FWD_DROP_HDR.count. -/
def FWD_DROP_HDR_count : RegD := { page := 64, base := 320, lo := 0, w := 32, acc := .ro }
/-- R123: FWD_DROP_KIND.count. -/
def FWD_DROP_KIND_count : RegD := { page := 64, base := 328, lo := 0, w := 32, acc := .ro }
/-- R123: FWD_DROP_WAYBILL.count. -/
def FWD_DROP_WAYBILL_count : RegD := { page := 64, base := 336, lo := 0, w := 32, acc := .ro }
/-- R123: FWD_DROP_SLICE.count. -/
def FWD_DROP_SLICE_count : RegD := { page := 64, base := 344, lo := 0, w := 32, acc := .ro }
/-- R123: FWD_DROP_SLICE_EG.count. -/
def FWD_DROP_SLICE_EG_count : RegD := { page := 64, base := 352, lo := 0, w := 32, acc := .ro }
/-- R123: FWD_DROP_EPOCH.count. -/
def FWD_DROP_EPOCH_count : RegD := { page := 64, base := 360, lo := 0, w := 32, acc := .ro }
/-- R123: FWD_DROP_NOROUTE.count. -/
def FWD_DROP_NOROUTE_count : RegD := { page := 64, base := 368, lo := 0, w := 32, acc := .ro }
/-- R123: FWD_DROP_NOPORT.count. -/
def FWD_DROP_NOPORT_count : RegD := { page := 64, base := 376, lo := 0, w := 32, acc := .ro }
/-- R123: FWD_PARITY.count. -/
def FWD_PARITY_count : RegD := { page := 64, base := 384, lo := 0, w := 32, acc := .ro }
/-- R123: FWD_RET_LEARN.count. -/
def FWD_RET_LEARN_count : RegD := { page := 64, base := 392, lo := 0, w := 32, acc := .ro }
/-- R123: FWD_RET_HIT.count. -/
def FWD_RET_HIT_count : RegD := { page := 64, base := 400, lo := 0, w := 32, acc := .ro }
/-- R123: FWD_RET_MISS.count. -/
def FWD_RET_MISS_count : RegD := { page := 64, base := 408, lo := 0, w := 32, acc := .ro }
/-- R123: FWD_RET_AGED.count. -/
def FWD_RET_AGED_count : RegD := { page := 64, base := 416, lo := 0, w := 32, acc := .ro }
/-- R123: FWD_RET_FULL.count. -/
def FWD_RET_FULL_count : RegD := { page := 64, base := 424, lo := 0, w := 32, acc := .ro }
/-- R123: FWD_TCMD.op. -/
def FWD_TCMD_op : RegD := { page := 64, base := 512, lo := 0, w := 4, acc := .wo }
/-- R123: FWD_TCMD.table. -/
def FWD_TCMD_table : RegD := { page := 64, base := 512, lo := 4, w := 4, acc := .wo }
/-- R123: FWD_TCMD.bank. -/
def FWD_TCMD_bank : RegD := { page := 64, base := 512, lo := 8, w := 1, acc := .wo }
/-- R123: FWD_TCMD.all. -/
def FWD_TCMD_all : RegD := { page := 64, base := 512, lo := 9, w := 1, acc := .wo }
/-- R123: FWD_TSTAT.busy. -/
def FWD_TSTAT_busy : RegD := { page := 64, base := 520, lo := 0, w := 1, acc := .ro }
/-- R123: FWD_TSTAT.status. -/
def FWD_TSTAT_status : RegD := { page := 64, base := 520, lo := 1, w := 3, acc := .ro }
/-- R123: FWD_TSTAT.cursor. -/
def FWD_TSTAT_cursor : RegD := { page := 64, base := 520, lo := 32, w := 32, acc := .ro, rst := 4294967295 }
/-- R123: FWD_TKEY.key. -/
def FWD_TKEY_key : RegD := { page := 64, base := 528, lo := 0, w := 32, acc := .rw }
/-- R123: FWD_TKEY.slice. -/
def FWD_TKEY_slice : RegD := { page := 64, base := 528, lo := 32, w := 12, acc := .rw }
/-- R123: FWD_TKEY.port. -/
def FWD_TKEY_port : RegD := { page := 64, base := 528, lo := 48, w := 10, acc := .rw }
/-- R123: FWD_TKEY.f_slice. -/
def FWD_TKEY_f_slice : RegD := { page := 64, base := 528, lo := 60, w := 1, acc := .rw }
/-- R123: FWD_TKEY.f_port. -/
def FWD_TKEY_f_port : RegD := { page := 64, base := 528, lo := 61, w := 1, acc := .rw }
/-- R123: FWD_TKEY.restart. -/
def FWD_TKEY_restart : RegD := { page := 64, base := 528, lo := 62, w := 1, acc := .rw }
/-- R123: FWD_TDATA.data. -/
def FWD_TDATA_data : RegD := { page := 64, base := 544, stride := 8, cnt := 12, lo := 0, w := 64, acc := .rw }
/-- R123: FWD_SHADOW_CTRL.enable. -/
def FWD_SHADOW_CTRL_enable : RegD := { page := 64, base := 768, lo := 0, w := 1, acc := .rw }
/-- R123: FWD_SHADOW_CTRL.running. -/
def FWD_SHADOW_CTRL_running : RegD := { page := 64, base := 768, lo := 1, w := 1, acc := .ro }
/-- R123: FWD_SHADOW_CTRL.pass_count. -/
def FWD_SHADOW_CTRL_pass_count : RegD := { page := 64, base := 768, lo := 32, w := 32, acc := .ro }
/-- R123: FWD_SHADOW_BASE.base. -/
def FWD_SHADOW_BASE_base : RegD := { page := 64, base := 776, lo := 24, w := 16, acc := .rw }
/-- R123: FWD_SHADOW_MISMATCH.count. -/
def FWD_SHADOW_MISMATCH_count : RegD := { page := 64, base := 784, lo := 0, w := 32, acc := .ro }
/-- R123: FWD_SHADOW_FIRST.table. -/
def FWD_SHADOW_FIRST_table : RegD := { page := 64, base := 792, lo := 0, w := 4, acc := .ro }
/-- R123: FWD_SHADOW_FIRST.index. -/
def FWD_SHADOW_FIRST_index : RegD := { page := 64, base := 792, lo := 8, w := 24, acc := .ro }
/-- R123: FWD_SHADOW_FIRST.valid. -/
def FWD_SHADOW_FIRST_valid : RegD := { page := 64, base := 792, lo := 63, w := 1, acc := .w1c }
/-- R123: LP_CFG.enable. -/
def LP_CFG_enable : RegD := { page := 400, base := 0, stride := 8, cnt := 1024, lo := 0, w := 1, acc := .rw }
/-- R123: LP_CFG.nbr_class. -/
def LP_CFG_nbr_class : RegD := { page := 400, base := 0, stride := 8, cnt := 1024, lo := 1, w := 1, acc := .rw }
/-- R123: LP_CFG.learn_en. -/
def LP_CFG_learn_en : RegD := { page := 400, base := 0, stride := 8, cnt := 1024, lo := 2, w := 1, acc := .rw, rst := 1 }
/-- R123: LP_CFG.elig. -/
def LP_CFG_elig : RegD := { page := 400, base := 0, stride := 8, cnt := 1024, lo := 3, w := 1, acc := .rw, rst := 1 }
/-- R123: LP_CFG.auto_absent. -/
def LP_CFG_auto_absent : RegD := { page := 400, base := 0, stride := 8, cnt := 1024, lo := 4, w := 1, acc := .rw }
/-- R123: LP_CFG.link_up. -/
def LP_CFG_link_up : RegD := { page := 400, base := 0, stride := 8, cnt := 1024, lo := 8, w := 1, acc := .ro }
/-- R123: FWD_SLICE_EPOCH.cur_epoch. -/
def FWD_SLICE_EPOCH_cur_epoch : RegD := { page := 64, base := 32768, stride := 8, cnt := 4096, lo := 0, w := 1, acc := .ro }
/-- R123: FWD_SLICE_EPOCH.draining. -/
def FWD_SLICE_EPOCH_draining : RegD := { page := 64, base := 32768, stride := 8, cnt := 4096, lo := 1, w := 1, acc := .ro }
/-- R123: FWD_SLICE_EPOCH.flip_rejected. -/
def FWD_SLICE_EPOCH_flip_rejected : RegD := { page := 64, base := 32768, stride := 8, cnt := 4096, lo := 2, w := 1, acc := .w1c }
/-- R123: FWD_SLICE_EPOCH.drain_left_us. -/
def FWD_SLICE_EPOCH_drain_left_us : RegD := { page := 64, base := 32768, stride := 8, cnt := 4096, lo := 32, w := 32, acc := .ro }
/-- R156: XBR_CTRL.plane_en. -/
def XBR_CTRL_plane_en : RegD := { page := 9, base := 256, lo := 0, w := 5, acc := .rw, rst := 31 }
/-- R156: XBR_ORDER.strict. -/
def XBR_ORDER_strict : RegD := { page := 9, base := 264, lo := 0, w := 8, acc := .rw }
/-- R156: XBR_RESEQ.timeout_ns. -/
def XBR_RESEQ_timeout_ns : RegD := { page := 9, base := 272, lo := 0, w := 32, acc := .rw, rst := 2000 }
/-- R156: XBR_PLANE_STATUS.plane_ok. -/
def XBR_PLANE_STATUS_plane_ok : RegD := { page := 9, base := 280, lo := 0, w := 5, acc := .ro }
/-- R156: XBR_PLANE_STATUS.plane_err. -/
def XBR_PLANE_STATUS_plane_err : RegD := { page := 9, base := 280, lo := 8, w := 5, acc := .w1c }
/-- R156: XBR_RESEQ_LOST.count. -/
def XBR_RESEQ_LOST_count : RegD := { page := 9, base := 288, lo := 0, w := 32, acc := .ro }
/-- R156: XBR_FENCE_HOLD.count. -/
def XBR_FENCE_HOLD_count : RegD := { page := 9, base := 296, lo := 0, w := 32, acc := .ro }
/-- R156: XBR_IN_PARTIAL.count. -/
def XBR_IN_PARTIAL_count : RegD := { page := 9, base := 304, lo := 0, w := 32, acc := .ro }
/-- R156: XBR_PLANE_ERR.count. -/
def XBR_PLANE_ERR_count : RegD := { page := 9, base := 312, lo := 0, w := 32, acc := .ro }
/-- R157: BPM_POOL.free. -/
def BPM_POOL_free : RegD := { page := 10, base := 256, stride := 16, cnt := 4, lo := 0, w := 32, acc := .ro }
/-- R157: BPM_POOL.low_water. -/
def BPM_POOL_low_water : RegD := { page := 10, base := 256, stride := 16, cnt := 4, lo := 32, w := 32, acc := .rc }
/-- R157: BPM_FAIL.count. -/
def BPM_FAIL_count : RegD := { page := 10, base := 320, stride := 8, cnt := 4, lo := 0, w := 32, acc := .ro }
/-- R157: BPM_DOUBLE_FREE.count. -/
def BPM_DOUBLE_FREE_count : RegD := { page := 10, base := 352, lo := 0, w := 32, acc := .ro }
/-- R157: BPM_DF_LOC.pool. -/
def BPM_DF_LOC_pool : RegD := { page := 10, base := 360, lo := 0, w := 2, acc := .ro }
/-- R157: BPM_DF_LOC.index. -/
def BPM_DF_LOC_index : RegD := { page := 10, base := 360, lo := 8, w := 20, acc := .ro }
/-- R157: BPM_DF_LOC.valid. -/
def BPM_DF_LOC_valid : RegD := { page := 10, base := 360, lo := 63, w := 1, acc := .w1c }
/-- R157: BPM_RESERVE.reserved. -/
def BPM_RESERVE_reserved : RegD := { page := 10, base := 368, lo := 0, w := 32, acc := .ro }
/-- R157: BPM_RESERVE.unused. -/
def BPM_RESERVE_unused : RegD := { page := 10, base := 368, lo := 32, w := 32, acc := .ro }
/-- R157: BPM_STAGE_QUOTA.spec_max. -/
def BPM_STAGE_QUOTA_spec_max : RegD := { page := 10, base := 376, lo := 0, w := 16, acc := .rw, rst := 8192 }
/-- R157: BPM_STAGE_QUOTA.emit_min. -/
def BPM_STAGE_QUOTA_emit_min : RegD := { page := 10, base := 376, lo := 16, w := 16, acc := .rw, rst := 2048 }
/-- R157: BPM_STAGE_USE.spec. -/
def BPM_STAGE_USE_spec : RegD := { page := 10, base := 384, lo := 0, w := 16, acc := .ro }
/-- R157: BPM_STAGE_USE.emit. -/
def BPM_STAGE_USE_emit : RegD := { page := 10, base := 384, lo := 16, w := 16, acc := .ro }
/-- R157: BPM_STAGE_USE.other. -/
def BPM_STAGE_USE_other : RegD := { page := 10, base := 384, lo := 32, w := 16, acc := .ro }
/-- R158: QSH_ALPHA.k. -/
def QSH_ALPHA_k : RegD := { page := 11, base := 256, lo := 0, w := 32, acc := .rw, rst := 4008574976 }
/-- R158: QSH_LOSSLESS.lossless. -/
def QSH_LOSSLESS_lossless : RegD := { page := 11, base := 264, lo := 0, w := 8, acc := .rw, rst := 15 }
/-- R158: QSH_CLASS_GROUP.group. -/
def QSH_CLASS_GROUP_group : RegD := { page := 11, base := 272, lo := 0, w := 24, acc := .rw, rst := 7189640 }
/-- R158: QSH_SPILL_CTRL.en. -/
def QSH_SPILL_CTRL_en : RegD := { page := 11, base := 280, lo := 0, w := 4, acc := .rw }
/-- R158: QSH_SPILL_CTRL.rate. -/
def QSH_SPILL_CTRL_rate : RegD := { page := 11, base := 280, lo := 8, w := 8, acc := .rw, rst := 100 }
/-- R158: QSH_SPILL_MARKS.on_die_max. -/
def QSH_SPILL_MARKS_on_die_max : RegD := { page := 11, base := 288, lo := 0, w := 20, acc := .rw, rst := 16384 }
/-- R158: QSH_SPILL_MARKS.on_die_resume. -/
def QSH_SPILL_MARKS_on_die_resume : RegD := { page := 11, base := 288, lo := 32, w := 20, acc := .rw, rst := 4096 }
/-- R158: QSH_SPILL_CHAIN.max_chain. -/
def QSH_SPILL_CHAIN_max_chain : RegD := { page := 11, base := 296, lo := 0, w := 16, acc := .rw, rst := 4096 }
/-- R158: QSH_DROP_DT.count. -/
def QSH_DROP_DT_count : RegD := { page := 11, base := 320, lo := 0, w := 32, acc := .ro }
/-- R158: QSH_DT_WAIT.count. -/
def QSH_DT_WAIT_count : RegD := { page := 11, base := 328, lo := 0, w := 32, acc := .ro }
/-- R158: QSH_DROP_POL.count. -/
def QSH_DROP_POL_count : RegD := { page := 11, base := 336, lo := 0, w := 32, acc := .ro }
/-- R158: QSH_SPILL_FAIL.count. -/
def QSH_SPILL_FAIL_count : RegD := { page := 11, base := 344, lo := 0, w := 32, acc := .ro }
/-- R158: QSH_TG_OVERRUN.count. -/
def QSH_TG_OVERRUN_count : RegD := { page := 11, base := 352, lo := 0, w := 32, acc := .ro }
/-- R158: QSH_TG_NOFIT.count. -/
def QSH_TG_NOFIT_count : RegD := { page := 11, base := 360, lo := 0, w := 32, acc := .ro }
/-- R158: QSH_PARITY.count. -/
def QSH_PARITY_count : RegD := { page := 11, base := 368, lo := 0, w := 32, acc := .ro }
/-- R158: QSH_TCMD.op. -/
def QSH_TCMD_op : RegD := { page := 11, base := 512, lo := 0, w := 4, acc := .wo }
/-- R158: QSH_TCMD.table. -/
def QSH_TCMD_table : RegD := { page := 11, base := 512, lo := 4, w := 4, acc := .wo }
/-- R158: QSH_TCMD.bank. -/
def QSH_TCMD_bank : RegD := { page := 11, base := 512, lo := 8, w := 1, acc := .wo }
/-- R158: QSH_TSTAT.busy. -/
def QSH_TSTAT_busy : RegD := { page := 11, base := 520, lo := 0, w := 1, acc := .ro }
/-- R158: QSH_TSTAT.status. -/
def QSH_TSTAT_status : RegD := { page := 11, base := 520, lo := 1, w := 3, acc := .ro }
/-- R158: QSH_TKEY.key. -/
def QSH_TKEY_key : RegD := { page := 11, base := 528, lo := 0, w := 32, acc := .rw }
/-- R158: QSH_TDATA.data. -/
def QSH_TDATA_data : RegD := { page := 11, base := 544, stride := 8, cnt := 2, lo := 0, w := 64, acc := .rw }
/-- R184: SRG_CTRL.coll_en. -/
def SRG_CTRL_coll_en : RegD := { page := 12, base := 256, lo := 0, w := 1, acc := .rw }
/-- R184: SRG_STRAGGLE_POLICY.policy. -/
def SRG_STRAGGLE_POLICY_policy : RegD := { page := 12, base := 264, lo := 0, w := 1, acc := .rw }
/-- R184: SRG_OPEN.count. -/
def SRG_OPEN_count : RegD := { page := 12, base := 272, lo := 0, w := 32, acc := .ro }
/-- R184: SRG_DROP_SLICE.count. -/
def SRG_DROP_SLICE_count : RegD := { page := 12, base := 280, lo := 0, w := 32, acc := .ro }
/-- R184: SRG_MALFORMED.count. -/
def SRG_MALFORMED_count : RegD := { page := 12, base := 288, lo := 0, w := 32, acc := .ro }
/-- R184: SRG_E2E_BAD.count. -/
def SRG_E2E_BAD_count : RegD := { page := 12, base := 296, lo := 0, w := 32, acc := .ro }
/-- R184: SRG_LATE.count. -/
def SRG_LATE_count : RegD := { page := 12, base := 304, lo := 0, w := 32, acc := .ro }
/-- R184: SRG_NORES.count. -/
def SRG_NORES_count : RegD := { page := 12, base := 312, lo := 0, w := 32, acc := .ro }
/-- R184: SRG_DUP.count. -/
def SRG_DUP_count : RegD := { page := 12, base := 320, lo := 0, w := 32, acc := .ro }
/-- R184: SRG_CONFLICT.count. -/
def SRG_CONFLICT_count : RegD := { page := 12, base := 328, lo := 0, w := 32, acc := .ro }
/-- R184: SRG_STRAGGLE.count. -/
def SRG_STRAGGLE_count : RegD := { page := 12, base := 336, lo := 0, w := 32, acc := .ro }
/-- R184: SRG_ABORT.count. -/
def SRG_ABORT_count : RegD := { page := 12, base := 344, lo := 0, w := 32, acc := .ro }
/-- R184: SRG_RESERVE.count. -/
def SRG_RESERVE_count : RegD := { page := 12, base := 352, lo := 0, w := 32, acc := .ro }
/-- R184: SRG_RESERVE_MISS.count. -/
def SRG_RESERVE_MISS_count : RegD := { page := 12, base := 360, lo := 0, w := 32, acc := .ro }
/-- R184: SRG_RETAIN_FAIL.count. -/
def SRG_RETAIN_FAIL_count : RegD := { page := 12, base := 368, lo := 0, w := 32, acc := .ro }
/-- R184: SRG_LATE_LOC.ctx. -/
def SRG_LATE_LOC_ctx : RegD := { page := 12, base := 384, lo := 0, w := 16, acc := .ro }
/-- R184: SRG_LATE_LOC.member. -/
def SRG_LATE_LOC_member : RegD := { page := 12, base := 384, lo := 16, w := 10, acc := .ro }
/-- R184: SRG_LATE_LOC.attempt. -/
def SRG_LATE_LOC_attempt : RegD := { page := 12, base := 384, lo := 26, w := 3, acc := .ro }
/-- R184: SRG_LATE_LOC.valid. -/
def SRG_LATE_LOC_valid : RegD := { page := 12, base := 384, lo := 31, w := 1, acc := .w1c }
/-- R184: SRG_LATE_LOC.chunk. -/
def SRG_LATE_LOC_chunk : RegD := { page := 12, base := 384, lo := 32, w := 32, acc := .ro }
/-- R184: SRG_CONFLICT_LOC.ctx. -/
def SRG_CONFLICT_LOC_ctx : RegD := { page := 12, base := 392, lo := 0, w := 16, acc := .ro }
/-- R184: SRG_CONFLICT_LOC.member. -/
def SRG_CONFLICT_LOC_member : RegD := { page := 12, base := 392, lo := 16, w := 10, acc := .ro }
/-- R184: SRG_CONFLICT_LOC.attempt. -/
def SRG_CONFLICT_LOC_attempt : RegD := { page := 12, base := 392, lo := 26, w := 3, acc := .ro }
/-- R184: SRG_CONFLICT_LOC.valid. -/
def SRG_CONFLICT_LOC_valid : RegD := { page := 12, base := 392, lo := 31, w := 1, acc := .w1c }
/-- R184: SRG_CONFLICT_LOC.chunk. -/
def SRG_CONFLICT_LOC_chunk : RegD := { page := 12, base := 392, lo := 32, w := 32, acc := .ro }
/-- R184: SRG_NORES_LOC.ctx. -/
def SRG_NORES_LOC_ctx : RegD := { page := 12, base := 400, lo := 0, w := 16, acc := .ro }
/-- R184: SRG_NORES_LOC.cause. -/
def SRG_NORES_LOC_cause : RegD := { page := 12, base := 400, lo := 16, w := 4, acc := .ro }
/-- R184: SRG_NORES_LOC.valid. -/
def SRG_NORES_LOC_valid : RegD := { page := 12, base := 400, lo := 31, w := 1, acc := .w1c }
/-- R184: SRG_NORES_LOC.chunk. -/
def SRG_NORES_LOC_chunk : RegD := { page := 12, base := 400, lo := 32, w := 32, acc := .ro }
/-- R184: SRG_FAULT_LOC.ctx. -/
def SRG_FAULT_LOC_ctx : RegD := { page := 12, base := 408, lo := 0, w := 16, acc := .ro }
/-- R184: SRG_FAULT_LOC.reason. -/
def SRG_FAULT_LOC_reason : RegD := { page := 12, base := 408, lo := 16, w := 4, acc := .ro }
/-- R184: SRG_FAULT_LOC.valid. -/
def SRG_FAULT_LOC_valid : RegD := { page := 12, base := 408, lo := 31, w := 1, acc := .w1c }
/-- R184: SRG_FAULT_LOC.chunk. -/
def SRG_FAULT_LOC_chunk : RegD := { page := 12, base := 408, lo := 32, w := 32, acc := .ro }
/-- R184: SRG_TCMD.op. -/
def SRG_TCMD_op : RegD := { page := 12, base := 512, lo := 0, w := 4, acc := .wo }
/-- R184: SRG_TCMD.table. -/
def SRG_TCMD_table : RegD := { page := 12, base := 512, lo := 4, w := 4, acc := .wo }
/-- R184: SRG_TSTAT.busy. -/
def SRG_TSTAT_busy : RegD := { page := 12, base := 520, lo := 0, w := 1, acc := .ro }
/-- R184: SRG_TSTAT.status. -/
def SRG_TSTAT_status : RegD := { page := 12, base := 520, lo := 1, w := 3, acc := .ro }
/-- R184: SRG_TKEY.index. -/
def SRG_TKEY_index : RegD := { page := 12, base := 528, lo := 0, w := 16, acc := .rw }
/-- R184: SRG_TKEY.member. -/
def SRG_TKEY_member : RegD := { page := 12, base := 528, lo := 16, w := 10, acc := .rw }
/-- R184: SRG_TKEY.chunk. -/
def SRG_TKEY_chunk : RegD := { page := 12, base := 528, lo := 32, w := 32, acc := .rw }
/-- R184: SRG_TDATA.data. -/
def SRG_TDATA_data : RegD := { page := 12, base := 544, stride := 8, cnt := 8, lo := 0, w := 64, acc := .rw }
/-- R240: SRI_CTRL.bist. -/
def SRI_CTRL_bist : RegD := { page := 128, base := 256, lo := 0, w := 1, acc := .w1s }
/-- R240: SRI_CTRL.xmask. -/
def SRI_CTRL_xmask : RegD := { page := 128, base := 256, lo := 8, w := 7, acc := .rw, rst := 111 }
/-- R240: SRI_STATE.state. -/
def SRI_STATE_state : RegD := { page := 128, base := 264, lo := 0, w := 3, acc := .ro }
/-- R240: SRI_STATE.lcore. -/
def SRI_STATE_lcore : RegD := { page := 128, base := 264, lo := 8, w := 6, acc := .ro }
/-- R240: SRI_STATE.lcore_valid. -/
def SRI_STATE_lcore_valid : RegD := { page := 128, base := 264, lo := 14, w := 1, acc := .ro }
/-- R240: SRI_STATE.bist_code. -/
def SRI_STATE_bist_code : RegD := { page := 128, base := 264, lo := 16, w := 8, acc := .ro }
/-- R240: SRI_QUEUES.aq. -/
def SRI_QUEUES_aq : RegD := { page := 128, base := 272, lo := 0, w := 6, acc := .ro }
/-- R240: SRI_QUEUES.fq. -/
def SRI_QUEUES_fq : RegD := { page := 128, base := 272, lo := 8, w := 6, acc := .ro }
/-- R240: SRI_QUEUES.sq. -/
def SRI_QUEUES_sq : RegD := { page := 128, base := 272, lo := 16, w := 6, acc := .ro }
/-- R240: SRI_QUEUES.eq. -/
def SRI_QUEUES_eq : RegD := { page := 128, base := 272, lo := 24, w := 6, acc := .ro }
/-- R240: SRI_IMEM.free. -/
def SRI_IMEM_free : RegD := { page := 128, base := 280, lo := 0, w := 14, acc := .ro, rst := 8192 }
/-- R240: SRI_IMEM.resident. -/
def SRI_IMEM_resident : RegD := { page := 128, base := 280, lo := 16, w := 8, acc := .ro }
/-- R240: SRI_XSTAT.ctx. -/
def SRI_XSTAT_ctx : RegD := { page := 128, base := 288, lo := 0, w := 16, acc := .ro }
/-- R240: SRI_XSTAT.status. -/
def SRI_XSTAT_status : RegD := { page := 128, base := 288, lo := 16, w := 7, acc := .ro }
/-- R240: SRI_XSTAT.valid. -/
def SRI_XSTAT_valid : RegD := { page := 128, base := 288, lo := 31, w := 1, acc := .w1c }
/-- R240: SRI_XSTAT.chunk. -/
def SRI_XSTAT_chunk : RegD := { page := 128, base := 288, lo := 32, w := 32, acc := .ro }
/-- R240: SRI_XREC0.rec_lo. -/
def SRI_XREC0_rec_lo : RegD := { page := 128, base := 296, lo := 0, w := 64, acc := .ro }
/-- R240: SRI_XREC1.rec_hi. -/
def SRI_XREC1_rec_hi : RegD := { page := 128, base := 304, lo := 0, w := 48, acc := .ro }
/-- R240: SRI_INVOKE.count. -/
def SRI_INVOKE_count : RegD := { page := 128, base := 312, lo := 0, w := 32, acc := .ro }
/-- R240: SRI_DISCARD.count. -/
def SRI_DISCARD_count : RegD := { page := 128, base := 320, lo := 0, w := 32, acc := .ro }
/-- R240: SRI_PREFETCH_DROP.count. -/
def SRI_PREFETCH_DROP_count : RegD := { page := 128, base := 328, lo := 0, w := 32, acc := .ro }
/-- R240: SRI_ECC_CORR.count. -/
def SRI_ECC_CORR_count : RegD := { page := 128, base := 336, lo := 0, w := 32, acc := .ro }
/-- R240: SRI_IMEM_MISS.count. -/
def SRI_IMEM_MISS_count : RegD := { page := 128, base := 344, lo := 0, w := 32, acc := .ro }
/-- R241: SRG_REMAP.phys. -/
def SRG_REMAP_phys : RegD := { page := 12, base := 1024, stride := 8, cnt := 64, lo := 0, w := 7, acc := .ro }
/-- R241: SRG_REMAP.valid. -/
def SRG_REMAP_valid : RegD := { page := 12, base := 1024, stride := 8, cnt := 64, lo := 7, w := 1, acc := .ro }
/-- R241: SRG_SPARES.count. -/
def SRG_SPARES_count : RegD := { page := 12, base := 1536, lo := 0, w := 3, acc := .ro }
/-- R241: SRG_FENCE_CMD.phys. -/
def SRG_FENCE_CMD_phys : RegD := { page := 12, base := 1544, lo := 0, w := 7, acc := .wo }
/-- R241: SRG_FENCE_CMD.go. -/
def SRG_FENCE_CMD_go : RegD := { page := 12, base := 1544, lo := 8, w := 1, acc := .wo }
/-- R241: SRG_FENCE_CMD.refused. -/
def SRG_FENCE_CMD_refused : RegD := { page := 12, base := 1544, lo := 9, w := 1, acc := .w1c }
/-- R241: SRG_FENCE_LOC.phys. -/
def SRG_FENCE_LOC_phys : RegD := { page := 12, base := 1552, lo := 0, w := 7, acc := .ro }
/-- R241: SRG_FENCE_LOC.lcore. -/
def SRG_FENCE_LOC_lcore : RegD := { page := 12, base := 1552, lo := 8, w := 6, acc := .ro }
/-- R241: SRG_FENCE_LOC.cause. -/
def SRG_FENCE_LOC_cause : RegD := { page := 12, base := 1552, lo := 16, w := 4, acc := .ro }
/-- R241: SRG_FENCE_LOC.valid. -/
def SRG_FENCE_LOC_valid : RegD := { page := 12, base := 1552, lo := 31, w := 1, acc := .w1c }
/-- R241: SRG_FENCE_LOC.chunks. -/
def SRG_FENCE_LOC_chunks : RegD := { page := 12, base := 1552, lo := 32, w := 16, acc := .ro }
/-- R241: SRG_FENCE_CNT.count. -/
def SRG_FENCE_CNT_count : RegD := { page := 12, base := 1560, lo := 0, w := 32, acc := .ro }
/-- R241: SRG_KCFG.max_cycles. -/
def SRG_KCFG_max_cycles : RegD := { page := 12, base := 1568, lo := 0, w := 32, acc := .rw, rst := 1048576 }
/-- R241: SRG_KCMD.op. -/
def SRG_KCMD_op : RegD := { page := 12, base := 1576, lo := 0, w := 4, acc := .wo }
/-- R241: SRG_KSTAT.busy. -/
def SRG_KSTAT_busy : RegD := { page := 12, base := 1584, lo := 0, w := 1, acc := .ro }
/-- R241: SRG_KSTAT.code. -/
def SRG_KSTAT_code : RegD := { page := 12, base := 1584, lo := 8, w := 8, acc := .ro }
/-- R241: SRG_KSTAT.index. -/
def SRG_KSTAT_index : RegD := { page := 12, base := 1584, lo := 16, w := 16, acc := .ro }
/-- R241: SRG_KKEY.kernel. -/
def SRG_KKEY_kernel : RegD := { page := 12, base := 1592, lo := 0, w := 8, acc := .rw }
/-- R241: SRG_KLOAD_ADDR.addr. -/
def SRG_KLOAD_ADDR_addr : RegD := { page := 12, base := 1600, lo := 6, w := 34, acc := .rw }
/-- R241: SRG_KINFO.loaded. -/
def SRG_KINFO_loaded : RegD := { page := 12, base := 1608, lo := 0, w := 1, acc := .ro }
/-- R241: SRG_KINFO.count. -/
def SRG_KINFO_count : RegD := { page := 12, base := 1608, lo := 16, w := 14, acc := .ro }
/-- R241: SRG_KINFO.ops. -/
def SRG_KINFO_ops : RegD := { page := 12, base := 1608, lo := 32, w := 6, acc := .ro }
/-- R241: SRG_KINFO.ver. -/
def SRG_KINFO_ver : RegD := { page := 12, base := 1608, lo := 40, w := 24, acc := .ro }
/-- R241: SRG_KSTORE.free. -/
def SRG_KSTORE_free : RegD := { page := 12, base := 1616, lo := 0, w := 18, acc := .ro, rst := 131072 }
/-- R241: SRG_KSTORE.kernels. -/
def SRG_KSTORE_kernels : RegD := { page := 12, base := 1616, lo := 32, w := 9, acc := .ro }
/-- R241: SRG_KERR.count. -/
def SRG_KERR_count : RegD := { page := 12, base := 1624, lo := 0, w := 32, acc := .ro }
/-- R241: SRG_KERR_LOC.code. -/
def SRG_KERR_LOC_code : RegD := { page := 12, base := 1632, lo := 0, w := 8, acc := .ro }
/-- R241: SRG_KERR_LOC.kernel. -/
def SRG_KERR_LOC_kernel : RegD := { page := 12, base := 1632, lo := 8, w := 8, acc := .ro }
/-- R241: SRG_KERR_LOC.pc. -/
def SRG_KERR_LOC_pc : RegD := { page := 12, base := 1632, lo := 16, w := 13, acc := .ro }
/-- R241: SRG_KERR_LOC.entry. -/
def SRG_KERR_LOC_entry : RegD := { page := 12, base := 1632, lo := 29, w := 2, acc := .ro }
/-- R241: SRG_KERR_LOC.valid. -/
def SRG_KERR_LOC_valid : RegD := { page := 12, base := 1632, lo := 31, w := 1, acc := .w1c }
/-- R241: SRG_KERR_LOC.ctx. -/
def SRG_KERR_LOC_ctx : RegD := { page := 12, base := 1632, lo := 32, w := 16, acc := .ro }
/-- R241: SRG_KERR_CHUNK.chunk. -/
def SRG_KERR_CHUNK_chunk : RegD := { page := 12, base := 1640, lo := 0, w := 32, acc := .ro }
/-- R269: LDG_CMD.op. -/
def LDG_CMD_op : RegD := { page := 14, base := 256, lo := 0, w := 4, acc := .wo }
/-- R269: LDG_CMD.ledger. -/
def LDG_CMD_ledger : RegD := { page := 14, base := 256, lo := 8, w := 4, acc := .wo }
/-- R269: LDG_CMD_ARG.arg. -/
def LDG_CMD_ARG_arg : RegD := { page := 14, base := 264, lo := 0, w := 64, acc := .rw }
/-- R269: LDG_CMD_STAT.busy. -/
def LDG_CMD_STAT_busy : RegD := { page := 14, base := 272, lo := 0, w := 1, acc := .ro }
/-- R269: LDG_CMD_STAT.status. -/
def LDG_CMD_STAT_status : RegD := { page := 14, base := 272, lo := 1, w := 3, acc := .ro }
/-- R269: LDG_CMD_STAT.reason. -/
def LDG_CMD_STAT_reason : RegD := { page := 14, base := 272, lo := 8, w := 4, acc := .ro }
/-- R269: LDG_FLIP_LAST.ledger. -/
def LDG_FLIP_LAST_ledger : RegD := { page := 14, base := 280, lo := 0, w := 4, acc := .ro }
/-- R269: LDG_FLIP_LAST.reason. -/
def LDG_FLIP_LAST_reason : RegD := { page := 14, base := 280, lo := 8, w := 4, acc := .ro }
/-- R269: LDG_FLIP_LAST.valid. -/
def LDG_FLIP_LAST_valid : RegD := { page := 14, base := 280, lo := 31, w := 1, acc := .w1c }
/-- R269: LDG_FLIP_LAST.step. -/
def LDG_FLIP_LAST_step : RegD := { page := 14, base := 280, lo := 32, w := 32, acc := .ro }
/-- R269: LDG_RSV_BASE.base. -/
def LDG_RSV_BASE_base : RegD := { page := 14, base := 288, lo := 24, w := 16, acc := .rw }
/-- R269: LDG_NORM_CFG.timeout_us. -/
def LDG_NORM_CFG_timeout_us : RegD := { page := 14, base := 296, lo := 0, w := 32, acc := .rw, rst := 10000 }
/-- R269: LDG_NORM_CFG.retry_us. -/
def LDG_NORM_CFG_retry_us : RegD := { page := 14, base := 296, lo := 32, w := 16, acc := .rw, rst := 50 }
/-- R269: LDG_CFG_ERR.ledger. -/
def LDG_CFG_ERR_ledger : RegD := { page := 14, base := 304, lo := 0, w := 4, acc := .ro }
/-- R269: LDG_CFG_ERR.reason. -/
def LDG_CFG_ERR_reason : RegD := { page := 14, base := 304, lo := 8, w := 4, acc := .ro }
/-- R269: LDG_CFG_ERR.valid. -/
def LDG_CFG_ERR_valid : RegD := { page := 14, base := 304, lo := 31, w := 1, acc := .w1c }
/-- R269: LDG_START_LOC.ctx. -/
def LDG_START_LOC_ctx : RegD := { page := 14, base := 312, lo := 0, w := 16, acc := .ro }
/-- R269: LDG_START_LOC.cause. -/
def LDG_START_LOC_cause : RegD := { page := 14, base := 312, lo := 16, w := 4, acc := .ro }
/-- R269: LDG_START_LOC.valid. -/
def LDG_START_LOC_valid : RegD := { page := 14, base := 312, lo := 31, w := 1, acc := .w1c }
/-- R269: LDG_FLIPS.count. -/
def LDG_FLIPS_count : RegD := { page := 14, base := 320, lo := 0, w := 32, acc := .ro }
/-- R269: LDG_FLIP_REJECT.count. -/
def LDG_FLIP_REJECT_count : RegD := { page := 14, base := 328, lo := 0, w := 32, acc := .ro }
/-- R269: LDG_SPEC_COMMIT.count. -/
def LDG_SPEC_COMMIT_count : RegD := { page := 14, base := 336, lo := 0, w := 32, acc := .ro }
/-- R269: LDG_SPEC_UNDO.count. -/
def LDG_SPEC_UNDO_count : RegD := { page := 14, base := 344, lo := 0, w := 32, acc := .ro }
/-- R269: LDG_NORM_DUP.count. -/
def LDG_NORM_DUP_count : RegD := { page := 14, base := 352, lo := 0, w := 32, acc := .ro }
/-- R269: LDG_NORM_BAD.count. -/
def LDG_NORM_BAD_count : RegD := { page := 14, base := 360, lo := 0, w := 32, acc := .ro }
/-- R269: LDG_NORM_LATE.count. -/
def LDG_NORM_LATE_count : RegD := { page := 14, base := 368, lo := 0, w := 32, acc := .ro }
/-- R269: LDG_NORM_NORES.count. -/
def LDG_NORM_NORES_count : RegD := { page := 14, base := 376, lo := 0, w := 32, acc := .ro }
/-- R269: LDG_NORM_TIMEOUT.count. -/
def LDG_NORM_TIMEOUT_count : RegD := { page := 14, base := 384, lo := 0, w := 32, acc := .ro }
/-- R269: LDG_NORM_CONFLICT.count. -/
def LDG_NORM_CONFLICT_count : RegD := { page := 14, base := 392, lo := 0, w := 32, acc := .ro }
/-- R269: LDG_NORM_NONFINITE.count. -/
def LDG_NORM_NONFINITE_count : RegD := { page := 14, base := 400, lo := 0, w := 32, acc := .ro }
/-- R269: LDG_START_REFUSED.count. -/
def LDG_START_REFUSED_count : RegD := { page := 14, base := 408, lo := 0, w := 32, acc := .ro }
/-- R269: LDG_POISON_READ.count. -/
def LDG_POISON_READ_count : RegD := { page := 14, base := 416, lo := 0, w := 32, acc := .ro }
/-- R269: LDG_POST_COMMIT_FAULT.count. -/
def LDG_POST_COMMIT_FAULT_count : RegD := { page := 14, base := 424, lo := 0, w := 32, acc := .ro }
/-- R269: LDG_NORM_USE.slots. -/
def LDG_NORM_USE_slots : RegD := { page := 14, base := 432, lo := 0, w := 7, acc := .ro }
/-- R269: LDG_CFG.enable. -/
def LDG_CFG_enable : RegD := { page := 14, base := 4096, stride := 512, cnt := 16, lo := 0, w := 1, acc := .rw }
/-- R269: LDG_CFG.lock. -/
def LDG_CFG_lock : RegD := { page := 14, base := 4096, stride := 512, cnt := 16, lo := 1, w := 1, acc := .rw }
/-- R269: LDG_CFG.layout. -/
def LDG_CFG_layout : RegD := { page := 14, base := 4096, stride := 512, cnt := 16, lo := 2, w := 2, acc := .rw, rst := 1 }
/-- R269: LDG_BASE.base. -/
def LDG_BASE_base : RegD := { page := 14, base := 4104, stride := 512, cnt := 16, lo := 12, w := 28, acc := .rw }
/-- R269: LDG_BANK.bank_bytes. -/
def LDG_BANK_bank_bytes : RegD := { page := 14, base := 4112, stride := 512, cnt := 16, lo := 12, w := 28, acc := .rw }
/-- R269: LDG_PCOUNT.param_count. -/
def LDG_PCOUNT_param_count : RegD := { page := 14, base := 4120, stride := 512, cnt := 16, lo := 0, w := 40, acc := .rw }
/-- R269: LDG_STATE.active. -/
def LDG_STATE_active : RegD := { page := 14, base := 4128, stride := 512, cnt := 16, lo := 0, w := 1, acc := .ro }
/-- R269: LDG_STATE.fault. -/
def LDG_STATE_fault : RegD := { page := 14, base := 4128, stride := 512, cnt := 16, lo := 1, w := 1, acc := .ro }
/-- R269: LDG_STATE.dirty. -/
def LDG_STATE_dirty : RegD := { page := 14, base := 4128, stride := 512, cnt := 16, lo := 2, w := 1, acc := .ro }
/-- R269: LDG_STATE.revert_ok. -/
def LDG_STATE_revert_ok : RegD := { page := 14, base := 4128, stride := 512, cnt := 16, lo := 3, w := 1, acc := .ro }
/-- R269: LDG_STATE.step. -/
def LDG_STATE_step : RegD := { page := 14, base := 4128, stride := 512, cnt := 16, lo := 32, w := 32, acc := .ro }
/-- R269: LDG_COVER.covered. -/
def LDG_COVER_covered : RegD := { page := 14, base := 4136, stride := 512, cnt := 16, lo := 0, w := 32, acc := .ro }
/-- R269: LDG_COVER.blocks. -/
def LDG_COVER_blocks : RegD := { page := 14, base := 4136, stride := 512, cnt := 16, lo := 32, w := 32, acc := .ro }
/-- R269: LDG_NORM_GRP.member_base. -/
def LDG_NORM_GRP_member_base : RegD := { page := 14, base := 4144, stride := 512, cnt := 16, lo := 0, w := 16, acc := .rw }
/-- R269: LDG_NORM_GRP.norm_count. -/
def LDG_NORM_GRP_norm_count : RegD := { page := 14, base := 4144, stride := 512, cnt := 16, lo := 16, w := 11, acc := .rw }
/-- R269: LDG_NORM_GRP.self_index. -/
def LDG_NORM_GRP_self_index : RegD := { page := 14, base := 4144, stride := 512, cnt := 16, lo := 32, w := 10, acc := .rw }
/-- R269: LDG_ROUND.next_round. -/
def LDG_ROUND_next_round : RegD := { page := 14, base := 4152, stride := 512, cnt := 16, lo := 0, w := 17, acc := .ro }
/-- R269: LDG_PARAM_NEXT.word. -/
def LDG_PARAM_NEXT_word : RegD := { page := 14, base := 4352, stride := 512, cnt := 16, stride2 := 8, cnt2 := 16, lo := 0, w := 32, acc := .rw }
/-- R269: LDG_PARAM_CUR.word. -/
def LDG_PARAM_CUR_word : RegD := { page := 14, base := 4480, stride := 512, cnt := 16, stride2 := 8, cnt2 := 16, lo := 0, w := 32, acc := .ro }
/-- R292: SRG_BC_CFG.enable. -/
def SRG_BC_CFG_enable : RegD := { page := 12, base := 1792, lo := 0, w := 1, acc := .rw, rst := 1 }
/-- R292: SRG_BC_CFG.report_all. -/
def SRG_BC_CFG_report_all : RegD := { page := 12, base := 1792, lo := 1, w := 1, acc := .rw }
/-- R292: SRG_BC_CFG.child_timeout_us. -/
def SRG_BC_CFG_child_timeout_us : RegD := { page := 12, base := 1792, lo := 8, w := 24, acc := .rw, rst := 200 }
/-- R292: SRG_BC_CFG.hold_ms. -/
def SRG_BC_CFG_hold_ms : RegD := { page := 12, base := 1792, lo := 32, w := 16, acc := .rw, rst := 1000 }
/-- R292: SRG_BC_ACTIVE.open. -/
def SRG_BC_ACTIVE_open : RegD := { page := 12, base := 1800, lo := 0, w := 9, acc := .ro }
/-- R292: SRG_BC_RX.count. -/
def SRG_BC_RX_count : RegD := { page := 12, base := 1808, lo := 0, w := 32, acc := .ro }
/-- R292: SRG_BC_DUP.count. -/
def SRG_BC_DUP_count : RegD := { page := 12, base := 1816, lo := 0, w := 32, acc := .ro }
/-- R292: SRG_BC_CHILD_TO.count. -/
def SRG_BC_CHILD_TO_count : RegD := { page := 12, base := 1824, lo := 0, w := 32, acc := .ro }
/-- R292: SRG_BC_REPORT.count. -/
def SRG_BC_REPORT_count : RegD := { page := 12, base := 1832, lo := 0, w := 32, acc := .ro }
/-- R292: SRG_BC_DROP.count. -/
def SRG_BC_DROP_count : RegD := { page := 12, base := 1840, lo := 0, w := 32, acc := .ro }
/-- R292: SRG_BC_LATE_ACK.count. -/
def SRG_BC_LATE_ACK_count : RegD := { page := 12, base := 1848, lo := 0, w := 32, acc := .ro }
/-- R292: SRG_BC_LOC.ctx. -/
def SRG_BC_LOC_ctx : RegD := { page := 12, base := 1856, lo := 0, w := 16, acc := .ro }
/-- R292: SRG_BC_LOC.slice. -/
def SRG_BC_LOC_slice : RegD := { page := 12, base := 1856, lo := 16, w := 12, acc := .ro }
/-- R292: SRG_BC_LOC.valid. -/
def SRG_BC_LOC_valid : RegD := { page := 12, base := 1856, lo := 31, w := 1, acc := .w1c }
/-- R292: SRG_BC_LOC.seq. -/
def SRG_BC_LOC_seq : RegD := { page := 12, base := 1856, lo := 32, w := 32, acc := .ro }
/-- R292: SRG_BC_MISSING.fibres. -/
def SRG_BC_MISSING_fibres : RegD := { page := 12, base := 1864, lo := 0, w := 64, acc := .ro }
/-- R292: SRG_WITHDRAW.count. -/
def SRG_WITHDRAW_count : RegD := { page := 12, base := 1872, lo := 0, w := 32, acc := .ro }
/-- R292: SRG_WITHDRAW_LOC.ctx. -/
def SRG_WITHDRAW_LOC_ctx : RegD := { page := 12, base := 1880, lo := 0, w := 16, acc := .ro }
/-- R292: SRG_WITHDRAW_LOC.valid. -/
def SRG_WITHDRAW_LOC_valid : RegD := { page := 12, base := 1880, lo := 31, w := 1, acc := .w1c }
/-- R292: SRG_WITHDRAW_LOC.chunk. -/
def SRG_WITHDRAW_LOC_chunk : RegD := { page := 12, base := 1880, lo := 32, w := 32, acc := .ro }
/-- R292: SRG_POISON_OUT.count. -/
def SRG_POISON_OUT_count : RegD := { page := 12, base := 1888, lo := 0, w := 32, acc := .ro }
/-- R292: SRG_DELIV_WAIT.count. -/
def SRG_DELIV_WAIT_count : RegD := { page := 12, base := 1896, lo := 0, w := 32, acc := .ro }
/-- R321: OPX_CTRL.fade_en. -/
def OPX_CTRL_fade_en : RegD := { page := 48, base := 256, lo := 0, w := 1, acc := .rw, rst := 1 }
/-- R321: OPX_CTRL.auto_force. -/
def OPX_CTRL_auto_force : RegD := { page := 48, base := 256, lo := 1, w := 1, acc := .rw, rst := 1 }
/-- R321: OPX_CTRL.recal_en. -/
def OPX_CTRL_recal_en : RegD := { page := 48, base := 256, lo := 2, w := 1, acc := .rw, rst := 1 }
/-- R321: OPX_CTRL.relock_us. -/
def OPX_CTRL_relock_us : RegD := { page := 48, base := 256, lo := 16, w := 16, acc := .rw, rst := 200 }
/-- R321: OPX_STATUS.no_baseline. -/
def OPX_STATUS_no_baseline : RegD := { page := 48, base := 264, lo := 0, w := 1, acc := .ro }
/-- R321: OPX_STATUS.cal_done. -/
def OPX_STATUS_cal_done : RegD := { page := 48, base := 264, lo := 1, w := 1, acc := .ro }
/-- R321: OPX_TEMP.t0. -/
def OPX_TEMP_t0 : RegD := { page := 48, base := 272, lo := 0, w := 16, acc := .ro }
/-- R321: OPX_TEMP.t1. -/
def OPX_TEMP_t1 : RegD := { page := 48, base := 272, lo := 16, w := 16, acc := .ro }
/-- R321: OPX_TEMP.t2. -/
def OPX_TEMP_t2 : RegD := { page := 48, base := 272, lo := 32, w := 16, acc := .ro }
/-- R321: OPX_TEMP.t3. -/
def OPX_TEMP_t3 : RegD := { page := 48, base := 272, lo := 48, w := 16, acc := .ro }
/-- R321: OPX_FADE_THR.warn. -/
def OPX_FADE_THR_warn : RegD := { page := 48, base := 280, lo := 0, w := 8, acc := .rw, rst := 10 }
/-- R321: OPX_FADE_THR.plan. -/
def OPX_FADE_THR_plan : RegD := { page := 48, base := 280, lo := 8, w := 8, acc := .rw, rst := 20 }
/-- R321: OPX_FADE_THR.force. -/
def OPX_FADE_THR_force : RegD := { page := 48, base := 280, lo := 16, w := 8, acc := .rw, rst := 25 }
/-- R321: OPX_FADE_THR.out. -/
def OPX_FADE_THR_out : RegD := { page := 48, base := 280, lo := 24, w := 8, acc := .rw, rst := 35 }
/-- R321: OPX_FADE_THR.hyst. -/
def OPX_FADE_THR_hyst : RegD := { page := 48, base := 280, lo := 32, w := 8, acc := .rw, rst := 3 }
/-- R321: OPX_RECAL.period_s. -/
def OPX_RECAL_period_s : RegD := { page := 48, base := 288, lo := 0, w := 32, acc := .rw, rst := 600 }
/-- R321: OPX_RECAL.early_c. -/
def OPX_RECAL_early_c : RegD := { page := 48, base := 288, lo := 32, w := 8, acc := .rw, rst := 10 }
/-- R321: OPX_CMD.op. -/
def OPX_CMD_op : RegD := { page := 48, base := 296, lo := 0, w := 4, acc := .wo }
/-- R321: OPX_CMD_STAT.busy. -/
def OPX_CMD_STAT_busy : RegD := { page := 48, base := 304, lo := 0, w := 1, acc := .ro }
/-- R321: OPX_CMD_STAT.status. -/
def OPX_CMD_STAT_status : RegD := { page := 48, base := 304, lo := 1, w := 3, acc := .ro }
/-- R321: OPX_CHG_CFG.kind. -/
def OPX_CHG_CFG_kind : RegD := { page := 48, base := 320, lo := 0, w := 1, acc := .rw }
/-- R321: OPX_CHG_CFG.to_comb. -/
def OPX_CHG_CFG_to_comb : RegD := { page := 48, base := 320, lo := 1, w := 3, acc := .rw }
/-- R321: OPX_CHG_CFG.fibre. -/
def OPX_CHG_CFG_fibre : RegD := { page := 48, base := 320, lo := 4, w := 3, acc := .rw }
/-- R321: OPX_CHG_CFG.line. -/
def OPX_CHG_CFG_line : RegD := { page := 48, base := 320, lo := 8, w := 5, acc := .rw }
/-- R321: OPX_CHG_SEC.sec. -/
def OPX_CHG_SEC_sec : RegD := { page := 48, base := 328, lo := 0, w := 48, acc := .rw }
/-- R321: OPX_CHG_NS.ns. -/
def OPX_CHG_NS_ns : RegD := { page := 48, base := 336, lo := 1, w := 30, acc := .rw }
/-- R321: OPX_CHG_NS.half. -/
def OPX_CHG_NS_half : RegD := { page := 48, base := 336, lo := 0, w := 1, acc := .rw }
/-- R321: OPX_CHG_CMD.op. -/
def OPX_CHG_CMD_op : RegD := { page := 48, base := 344, lo := 0, w := 2, acc := .wo }
/-- R321: OPX_CHG_STAT.state. -/
def OPX_CHG_STAT_state : RegD := { page := 48, base := 352, lo := 0, w := 3, acc := .ro }
/-- R321: OPX_CHG_STAT.reason. -/
def OPX_CHG_STAT_reason : RegD := { page := 48, base := 352, lo := 4, w := 3, acc := .ro }
/-- R321: OPX_CHG_STAT.by_fw. -/
def OPX_CHG_STAT_by_fw : RegD := { page := 48, base := 352, lo := 7, w := 1, acc := .ro }
/-- R321: OPX_CHG_STAT.notice_id. -/
def OPX_CHG_STAT_notice_id : RegD := { page := 48, base := 352, lo := 16, w := 16, acc := .ro }
/-- R321: OPX_MON_CMD.tap. -/
def OPX_MON_CMD_tap : RegD := { page := 48, base := 368, lo := 0, w := 9, acc := .wo }
/-- R321: OPX_MON_CMD.int. -/
def OPX_MON_CMD_int : RegD := { page := 48, base := 368, lo := 10, w := 2, acc := .wo }
/-- R321: OPX_MON_DATA.power. -/
def OPX_MON_DATA_power : RegD := { page := 48, base := 376, lo := 0, w := 40, acc := .ro }
/-- R321: OPX_MON_DATA.valid. -/
def OPX_MON_DATA_valid : RegD := { page := 48, base := 376, lo := 63, w := 1, acc := .rc }
/-- R321: OPX_RING_KEY.ring. -/
def OPX_RING_KEY_ring : RegD := { page := 48, base := 384, lo := 0, w := 9, acc := .rw }
/-- R321: OPX_RING.heater. -/
def OPX_RING_heater : RegD := { page := 48, base := 392, lo := 0, w := 16, acc := .ro }
/-- R321: OPX_RING.offset. -/
def OPX_RING_offset : RegD := { page := 48, base := 392, lo := 16, w := 16, acc := .ro }
/-- R321: OPX_RING.order. -/
def OPX_RING_order : RegD := { page := 48, base := 392, lo := 32, w := 2, acc := .ro }
/-- R321: OPX_RING.lock. -/
def OPX_RING_lock : RegD := { page := 48, base := 392, lo := 34, w := 2, acc := .ro }
/-- R321: OPX_RING.head_up. -/
def OPX_RING_head_up : RegD := { page := 48, base := 392, lo := 40, w := 8, acc := .ro }
/-- R321: OPX_RING.head_down. -/
def OPX_RING_head_down : RegD := { page := 48, base := 392, lo := 48, w := 8, acc := .ro }
/-- R321: OPX_COMB.lock. -/
def OPX_COMB_lock : RegD := { page := 48, base := 512, stride := 8, cnt := 5, lo := 0, w := 1, acc := .ro }
/-- R321: OPX_COMB.off. -/
def OPX_COMB_off : RegD := { page := 48, base := 512, stride := 8, cnt := 5, lo := 1, w := 1, acc := .rw }
/-- R321: OPX_COMB.fit. -/
def OPX_COMB_fit : RegD := { page := 48, base := 512, stride := 8, cnt := 5, lo := 2, w := 1, acc := .ro }
/-- R321: OPX_COMB.fade_state. -/
def OPX_COMB_fade_state : RegD := { page := 48, base := 512, stride := 8, cnt := 5, lo := 3, w := 3, acc := .ro }
/-- R321: OPX_COMB.fade. -/
def OPX_COMB_fade : RegD := { page := 48, base := 512, stride := 8, cnt := 5, lo := 16, w := 16, acc := .ro }
/-- R321: OPX_FIBRE.comb. -/
def OPX_FIBRE_comb : RegD := { page := 48, base := 576, stride := 8, cnt := 8, lo := 0, w := 3, acc := .ro }
/-- R321: OPX_FIBRE.spare_lane. -/
def OPX_FIBRE_spare_lane : RegD := { page := 48, base := 576, stride := 8, cnt := 8, lo := 4, w := 5, acc := .ro, rst := 31 }
/-- R321: OPX_FIBRE.hold. -/
def OPX_FIBRE_hold : RegD := { page := 48, base := 576, stride := 8, cnt := 8, lo := 9, w := 1, acc := .ro }
/-- R321: OPX_FIBRE.rx_hold. -/
def OPX_FIBRE_rx_hold : RegD := { page := 48, base := 576, stride := 8, cnt := 8, lo := 10, w := 1, acc := .ro }
/-- R321: OPX_FADE_LOC.comb. -/
def OPX_FADE_LOC_comb : RegD := { page := 48, base := 640, lo := 0, w := 3, acc := .ro }
/-- R321: OPX_FADE_LOC.line. -/
def OPX_FADE_LOC_line : RegD := { page := 48, base := 640, lo := 4, w := 5, acc := .ro }
/-- R321: OPX_FADE_LOC.threshold. -/
def OPX_FADE_LOC_threshold : RegD := { page := 48, base := 640, lo := 9, w := 3, acc := .ro }
/-- R321: OPX_FADE_LOC.valid. -/
def OPX_FADE_LOC_valid : RegD := { page := 48, base := 640, lo := 31, w := 1, acc := .w1c }
/-- R321: OPX_RELOCK.count. -/
def OPX_RELOCK_count : RegD := { page := 48, base := 648, lo := 0, w := 32, acc := .ro }
/-- R321: OPX_HEADROOM_EXC.count. -/
def OPX_HEADROOM_EXC_count : RegD := { page := 48, base := 656, lo := 0, w := 32, acc := .ro }
/-- R321: OPX_LOCK_LOSS.count. -/
def OPX_LOCK_LOSS_count : RegD := { page := 48, base := 664, lo := 0, w := 32, acc := .ro }
/-- R321: OPX_RECAL_SWEEPS.count. -/
def OPX_RECAL_SWEEPS_count : RegD := { page := 48, base := 672, lo := 0, w := 32, acc := .ro }
/-- R321: OPX_CHANGEOVER.count. -/
def OPX_CHANGEOVER_count : RegD := { page := 48, base := 680, lo := 0, w := 32, acc := .ro }
/-- R321: OPX_LINE_MIGRATE.count. -/
def OPX_LINE_MIGRATE_count : RegD := { page := 48, base := 688, lo := 0, w := 32, acc := .ro }
/-- R321: OPX_NOTICE_TX.count. -/
def OPX_NOTICE_TX_count : RegD := { page := 48, base := 696, lo := 0, w := 32, acc := .ro }
/-- R321: OPX_NOTICE_RX.count. -/
def OPX_NOTICE_RX_count : RegD := { page := 48, base := 704, lo := 0, w := 32, acc := .ro }
/-- R321: OPX_CHG_REJECT.count. -/
def OPX_CHG_REJECT_count : RegD := { page := 48, base := 712, lo := 0, w := 32, acc := .ro }
/-- R348: LNK_CFG.retry_to_us. -/
def LNK_CFG_retry_to_us : RegD := { page := 56, base := 256, lo := 0, w := 16, acc := .rw, rst := 10 }
/-- R348: LNK_CFG.retry_max. -/
def LNK_CFG_retry_max : RegD := { page := 56, base := 256, lo := 16, w := 4, acc := .rw, rst := 8 }
/-- R348: LNK_CFG.credit_ns. -/
def LNK_CFG_credit_ns : RegD := { page := 56, base := 256, lo := 20, w := 12, acc := .rw, rst := 100 }
/-- R348: LNK_CFG.req_us. -/
def LNK_CFG_req_us : RegD := { page := 56, base := 256, lo := 32, w := 16, acc := .rw, rst := 5 }
/-- R348: LNK_CREDIT_CFG.vc_max. -/
def LNK_CREDIT_CFG_vc_max : RegD := { page := 56, base := 264, lo := 0, w := 16, acc := .rw, rst := 4096 }
/-- R348: LNK_CREDIT_CFG.grant_step. -/
def LNK_CREDIT_CFG_grant_step : RegD := { page := 56, base := 264, lo := 16, w := 8, acc := .rw, rst := 68 }
/-- R348: LNK_CREDIT_CFG.grant_min. -/
def LNK_CREDIT_CFG_grant_min : RegD := { page := 56, base := 264, lo := 32, w := 20, acc := .rw, rst := 65536 }
/-- R348: LNK_ERR_CFG.ucw_max. -/
def LNK_ERR_CFG_ucw_max : RegD := { page := 56, base := 272, lo := 0, w := 8, acc := .rw, rst := 4 }
/-- R348: LNK_ERR_CFG.ber_max. -/
def LNK_ERR_CFG_ber_max : RegD := { page := 56, base := 272, lo := 8, w := 8, acc := .rw, rst := 100 }
/-- R348: LNK_ERR_CFG.los_dbm. -/
def LNK_ERR_CFG_los_dbm : RegD := { page := 56, base := 272, lo := 16, w := 8, acc := .rw, rst := 28 }
/-- R348: LNK_ERR_CFG.flap_max. -/
def LNK_ERR_CFG_flap_max : RegD := { page := 56, base := 272, lo := 24, w := 8, acc := .rw, rst := 8 }
/-- R348: LNK_VERSION.minor. -/
def LNK_VERSION_minor : RegD := { page := 56, base := 280, lo := 0, w := 8, acc := .ro, rst := 1 }
/-- R348: LNK_VERSION.major. -/
def LNK_VERSION_major : RegD := { page := 56, base := 280, lo := 8, w := 8, acc := .ro, rst := 2 }
/-- R348: LNK_LANE_CMD.lane. -/
def LNK_LANE_CMD_lane : RegD := { page := 56, base := 288, lo := 0, w := 7, acc := .wo }
/-- R348: LNK_LANE_CMD.op. -/
def LNK_LANE_CMD_op : RegD := { page := 56, base := 288, lo := 8, w := 2, acc := .wo }
/-- R348: LNK_RX_HOPCRC.count. -/
def LNK_RX_HOPCRC_count : RegD := { page := 56, base := 320, lo := 0, w := 32, acc := .ro }
/-- R348: LNK_LMF_BAD.count. -/
def LNK_LMF_BAD_count : RegD := { page := 56, base := 328, lo := 0, w := 32, acc := .ro }
/-- R348: LNK_LMF_UNKNOWN.count. -/
def LNK_LMF_UNKNOWN_count : RegD := { page := 56, base := 336, lo := 0, w := 32, acc := .ro }
/-- R348: LNK_LMF_LATE.count. -/
def LNK_LMF_LATE_count : RegD := { page := 56, base := 344, lo := 0, w := 32, acc := .ro }
/-- R348: LNK_LMF_DROP.count. -/
def LNK_LMF_DROP_count : RegD := { page := 56, base := 352, lo := 0, w := 32, acc := .ro }
/-- R348: LNK_LANE_RESEND.count. -/
def LNK_LANE_RESEND_count : RegD := { page := 56, base := 360, lo := 0, w := 32, acc := .ro }
/-- R348: LNK_REROUTE.count. -/
def LNK_REROUTE_count : RegD := { page := 56, base := 368, lo := 0, w := 32, acc := .ro }
/-- R348: LNK_REROUTE_DROP.count. -/
def LNK_REROUTE_DROP_count : RegD := { page := 56, base := 376, lo := 0, w := 32, acc := .ro }
/-- R348: LNK_REPLAY.count. -/
def LNK_REPLAY_count : RegD := { page := 56, base := 384, lo := 0, w := 32, acc := .ro }
/-- R348: LNK_REQ_IGNORED.count. -/
def LNK_REQ_IGNORED_count : RegD := { page := 56, base := 392, lo := 0, w := 32, acc := .ro }
/-- R348: LNK_PORT_FAULT.count. -/
def LNK_PORT_FAULT_count : RegD := { page := 56, base := 400, lo := 0, w := 32, acc := .ro }
/-- R348: LNK_CREDIT_OVF.count. -/
def LNK_CREDIT_OVF_count : RegD := { page := 56, base := 408, lo := 0, w := 32, acc := .ro }
/-- R348: LNK_LANE_DOWN.count. -/
def LNK_LANE_DOWN_count : RegD := { page := 56, base := 416, lo := 0, w := 32, acc := .ro }
/-- R348: LNK_LANE_MAP.port. -/
def LNK_LANE_MAP_port : RegD := { page := 56, base := 4096, stride := 8, cnt := 128, lo := 0, w := 10, acc := .rw, grp := 1 }
/-- R348: LNK_LANE_MAP.valid. -/
def LNK_LANE_MAP_valid : RegD := { page := 56, base := 4096, stride := 8, cnt := 128, lo := 15, w := 1, acc := .rw, grp := 1 }
/-- R348: LNK_LANE.state. -/
def LNK_LANE_state : RegD := { page := 56, base := 5120, stride := 8, cnt := 128, lo := 0, w := 3, acc := .ro }
/-- R348: LNK_LANE.cause. -/
def LNK_LANE_cause : RegD := { page := 56, base := 5120, stride := 8, cnt := 128, lo := 4, w := 4, acc := .ro }
/-- R348: LNK_LANE.line. -/
def LNK_LANE_line : RegD := { page := 56, base := 5120, stride := 8, cnt := 128, lo := 8, w := 5, acc := .ro }
/-- R348: LNK_LANE.ber. -/
def LNK_LANE_ber : RegD := { page := 56, base := 5120, stride := 8, cnt := 128, lo := 16, w := 16, acc := .ro }
/-- R348: LNK_LANE_FEC.corrected. -/
def LNK_LANE_FEC_corrected : RegD := { page := 56, base := 6144, stride := 8, cnt := 128, lo := 0, w := 32, acc := .ro }
/-- R348: LNK_LANE_FEC.uncorrectable. -/
def LNK_LANE_FEC_uncorrectable : RegD := { page := 56, base := 6144, stride := 8, cnt := 128, lo := 32, w := 32, acc := .ro }
/-- R349: TRV_CTRL.enable. -/
def TRV_CTRL_enable : RegD := { page := 7, base := 256, lo := 0, w := 1, acc := .rw, rst := 1 }
/-- R349: TRV_CTRL.probe_us. -/
def TRV_CTRL_probe_us : RegD := { page := 7, base := 256, lo := 16, w := 16, acc := .rw, rst := 100 }
/-- R349: TRV_CTRL.keep_ms. -/
def TRV_CTRL_keep_ms : RegD := { page := 7, base := 256, lo := 32, w := 16, acc := .rw, rst := 10 }
/-- R349: TRV_CTRL.absent_ms. -/
def TRV_CTRL_absent_ms : RegD := { page := 7, base := 256, lo := 48, w := 16, acc := .rw, rst := 100 }
/-- R349: TRV_SELF.endpoint. -/
def TRV_SELF_endpoint : RegD := { page := 7, base := 264, lo := 0, w := 24, acc := .rw, grp := 2 }
/-- R349: TRV_SERIAL.serial. -/
def TRV_SERIAL_serial : RegD := { page := 7, base := 272, lo := 0, w := 64, acc := .ro }
/-- R349: TRV_CMD.op. -/
def TRV_CMD_op : RegD := { page := 7, base := 280, lo := 0, w := 2, acc := .wo }
/-- R349: TRV_CMD.fibre. -/
def TRV_CMD_fibre : RegD := { page := 7, base := 280, lo := 8, w := 6, acc := .wo }
/-- R349: TRV_CMD_STAT.busy. -/
def TRV_CMD_STAT_busy : RegD := { page := 7, base := 288, lo := 0, w := 1, acc := .ro }
/-- R349: TRV_CMD_STAT.status. -/
def TRV_CMD_STAT_status : RegD := { page := 7, base := 288, lo := 1, w := 3, acc := .ro }
/-- R349: TRV_MISMATCH.count. -/
def TRV_MISMATCH_count : RegD := { page := 7, base := 296, lo := 0, w := 32, acc := .ro }
/-- R349: TRV_DATUM_MISMATCH.count. -/
def TRV_DATUM_MISMATCH_count : RegD := { page := 7, base := 304, lo := 0, w := 32, acc := .ro }
/-- R349: TRV_IDENT_RX.count. -/
def TRV_IDENT_RX_count : RegD := { page := 7, base := 312, lo := 0, w := 32, acc := .ro }
/-- R349: TRV_ABSENT.count. -/
def TRV_ABSENT_count : RegD := { page := 7, base := 320, lo := 0, w := 32, acc := .ro }
/-- R349: TRV_PLAT.present. -/
def TRV_PLAT_present : RegD := { page := 7, base := 4096, stride := 64, cnt := 64, lo := 0, w := 1, acc := .rw, grp := 2 }
/-- R349: TRV_PLAT.nbr_class. -/
def TRV_PLAT_nbr_class : RegD := { page := 7, base := 4096, stride := 64, cnt := 64, lo := 1, w := 1, acc := .rw, grp := 2 }
/-- R349: TRV_PLAT.direction. -/
def TRV_PLAT_direction : RegD := { page := 7, base := 4096, stride := 64, cnt := 64, lo := 2, w := 1, acc := .rw, grp := 2 }
/-- R349: TRV_PLAT.nbr_fibre. -/
def TRV_PLAT_nbr_fibre : RegD := { page := 7, base := 4096, stride := 64, cnt := 64, lo := 8, w := 6, acc := .rw, grp := 2 }
/-- R349: TRV_PLAT.nbr_endpoint. -/
def TRV_PLAT_nbr_endpoint : RegD := { page := 7, base := 4096, stride := 64, cnt := 64, lo := 24, w := 24, acc := .rw, grp := 2 }
/-- R349: TRV_PLAT.nbr_serial. -/
def TRV_PLAT_nbr_serial : RegD := { page := 7, base := 4104, stride := 64, cnt := 64, lo := 0, w := 64, acc := .rw, grp := 2 }
/-- R349: TRV_PLAT.datum_lo. -/
def TRV_PLAT_datum_lo : RegD := { page := 7, base := 4112, stride := 64, cnt := 64, lo := 0, w := 64, acc := .rw, grp := 2 }
/-- R349: TRV_PLAT.datum_hi. -/
def TRV_PLAT_datum_hi : RegD := { page := 7, base := 4120, stride := 64, cnt := 64, lo := 0, w := 64, acc := .rw, grp := 2 }
/-- R349: TRV_FIBRE.state. -/
def TRV_FIBRE_state : RegD := { page := 7, base := 8192, stride := 64, cnt := 64, lo := 0, w := 3, acc := .ro }
/-- R349: TRV_FIBRE.minor. -/
def TRV_FIBRE_minor : RegD := { page := 7, base := 8192, stride := 64, cnt := 64, lo := 8, w := 4, acc := .ro }
/-- R349: TRV_FIBRE.partner. -/
def TRV_FIBRE_partner : RegD := { page := 7, base := 8192, stride := 64, cnt := 64, lo := 16, w := 6, acc := .ro }
/-- R349: TRV_FIBRE.partner_valid. -/
def TRV_FIBRE_partner_valid : RegD := { page := 7, base := 8192, stride := 64, cnt := 64, lo := 22, w := 1, acc := .ro }
/-- R349: TRV_FIBRE.datum_bad. -/
def TRV_FIBRE_datum_bad : RegD := { page := 7, base := 8192, stride := 64, cnt := 64, lo := 23, w := 1, acc := .w1c }
/-- R349: TRV_FIBRE.seen_serial. -/
def TRV_FIBRE_seen_serial : RegD := { page := 7, base := 8200, stride := 64, cnt := 64, lo := 0, w := 64, acc := .ro }
/-- R349: TRV_FIBRE.seen_endpoint. -/
def TRV_FIBRE_seen_endpoint : RegD := { page := 7, base := 8208, stride := 64, cnt := 64, lo := 0, w := 24, acc := .ro }
/-- R349: TRV_FIBRE.seen_fibre. -/
def TRV_FIBRE_seen_fibre : RegD := { page := 7, base := 8208, stride := 64, cnt := 64, lo := 24, w := 6, acc := .ro }
/-- R349: TRV_FIBRE.seen_major. -/
def TRV_FIBRE_seen_major : RegD := { page := 7, base := 8208, stride := 64, cnt := 64, lo := 32, w := 8, acc := .ro }
/-- R349: TRV_FIBRE.seen_minor. -/
def TRV_FIBRE_seen_minor : RegD := { page := 7, base := 8208, stride := 64, cnt := 64, lo := 40, w := 8, acc := .ro }
/-- R349: TRV_FIBRE.seen_datum_lo. -/
def TRV_FIBRE_seen_datum_lo : RegD := { page := 7, base := 8216, stride := 64, cnt := 64, lo := 0, w := 64, acc := .ro }
/-- R349: TRV_FIBRE.seen_datum_hi. -/
def TRV_FIBRE_seen_datum_hi : RegD := { page := 7, base := 8224, stride := 64, cnt := 64, lo := 0, w := 64, acc := .ro }
/-- R368: BYP_CTRL.enable. -/
def BYP_CTRL_enable : RegD := { page := 8, base := 256, lo := 0, w := 1, acc := .rw }
/-- R368: BYP_CFG.quiet_ns. -/
def BYP_CFG_quiet_ns : RegD := { page := 8, base := 264, lo := 0, w := 32, acc := .rw, rst := 4000 }
/-- R368: BYP_CFG.lead_us. -/
def BYP_CFG_lead_us : RegD := { page := 8, base := 264, lo := 32, w := 16, acc := .rw, rst := 100 }
/-- R368: BYP_CMD.op. -/
def BYP_CMD_op : RegD := { page := 8, base := 272, lo := 0, w := 2, acc := .wo }
/-- R368: BYP_CMD_ARG.fibre_a. -/
def BYP_CMD_ARG_fibre_a : RegD := { page := 8, base := 280, lo := 0, w := 6, acc := .rw }
/-- R368: BYP_CMD_ARG.fibre_b. -/
def BYP_CMD_ARG_fibre_b : RegD := { page := 8, base := 280, lo := 8, w := 6, acc := .rw }
/-- R368: BYP_CMD_ARG.set. -/
def BYP_CMD_ARG_set : RegD := { page := 8, base := 280, lo := 16, w := 1, acc := .rw, rst := 1 }
/-- R368: BYP_CMD_ARG.duplex. -/
def BYP_CMD_ARG_duplex : RegD := { page := 8, base := 280, lo := 17, w := 1, acc := .rw, rst := 1 }
/-- R368: BYP_CMD_SEC.sec. -/
def BYP_CMD_SEC_sec : RegD := { page := 8, base := 288, lo := 0, w := 48, acc := .rw }
/-- R368: BYP_CMD_NS.ns. -/
def BYP_CMD_NS_ns : RegD := { page := 8, base := 296, lo := 1, w := 30, acc := .rw }
/-- R368: BYP_CMD_NS.half. -/
def BYP_CMD_NS_half : RegD := { page := 8, base := 296, lo := 0, w := 1, acc := .rw }
/-- R368: BYP_CMD_STAT.busy. -/
def BYP_CMD_STAT_busy : RegD := { page := 8, base := 304, lo := 0, w := 1, acc := .ro }
/-- R368: BYP_CMD_STAT.status. -/
def BYP_CMD_STAT_status : RegD := { page := 8, base := 304, lo := 1, w := 3, acc := .ro }
/-- R368: BYP_CMD_STAT.reason. -/
def BYP_CMD_STAT_reason : RegD := { page := 8, base := 304, lo := 8, w := 4, acc := .ro }
/-- R368: BYP_CMD_STAT.notice_id. -/
def BYP_CMD_STAT_notice_id : RegD := { page := 8, base := 304, lo := 16, w := 16, acc := .ro }
/-- R368: BYP_SET_DONE.count. -/
def BYP_SET_DONE_count : RegD := { page := 8, base := 320, lo := 0, w := 32, acc := .ro }
/-- R368: BYP_CLEAR_DONE.count. -/
def BYP_CLEAR_DONE_count : RegD := { page := 8, base := 328, lo := 0, w := 32, acc := .ro }
/-- R368: BYP_REJECT.count. -/
def BYP_REJECT_count : RegD := { page := 8, base := 336, lo := 0, w := 32, acc := .ro }
/-- R368: BYP_REQUEUE.count. -/
def BYP_REQUEUE_count : RegD := { page := 8, base := 344, lo := 0, w := 32, acc := .ro }
/-- R368: BYP_UNACKED.count. -/
def BYP_UNACKED_count : RegD := { page := 8, base := 352, lo := 0, w := 32, acc := .ro }
/-- R368: BYP_MISSED.count. -/
def BYP_MISSED_count : RegD := { page := 8, base := 360, lo := 0, w := 32, acc := .ro }
/-- R368: BYP_NOTICE_TX.count. -/
def BYP_NOTICE_TX_count : RegD := { page := 8, base := 368, lo := 0, w := 32, acc := .ro }
/-- R368: BYP_NOTICE_RX.count. -/
def BYP_NOTICE_RX_count : RegD := { page := 8, base := 376, lo := 0, w := 32, acc := .ro }
/-- R368: BYP_PARITY.count. -/
def BYP_PARITY_count : RegD := { page := 8, base := 384, lo := 0, w := 32, acc := .ro }
/-- R368: BYP_PERMIT.outputs. -/
def BYP_PERMIT_outputs : RegD := { page := 8, base := 4096, stride := 8, cnt := 64, lo := 0, w := 64, acc := .rw, grp := 3 }
/-- R368: BYP_CIRCUIT.output. -/
def BYP_CIRCUIT_output : RegD := { page := 8, base := 5120, stride := 8, cnt := 64, lo := 0, w := 6, acc := .ro }
/-- R368: BYP_CIRCUIT.valid. -/
def BYP_CIRCUIT_valid : RegD := { page := 8, base := 5120, stride := 8, cnt := 64, lo := 8, w := 1, acc := .ro }
/-- R368: BYP_CIRCUIT.pending. -/
def BYP_CIRCUIT_pending : RegD := { page := 8, base := 5120, stride := 8, cnt := 64, lo := 9, w := 1, acc := .ro }
/-- R368: BYP_CIRCUIT.pending_set. -/
def BYP_CIRCUIT_pending_set : RegD := { page := 8, base := 5120, stride := 8, cnt := 64, lo := 10, w := 1, acc := .ro }
/-- R368: BYP_FIBRE.state. -/
def BYP_FIBRE_state : RegD := { page := 8, base := 6144, stride := 8, cnt := 64, lo := 0, w := 3, acc := .ro }
/-- R368: BYP_INPOW.power. -/
def BYP_INPOW_power : RegD := { page := 8, base := 7168, stride := 8, cnt := 64, lo := 0, w := 40, acc := .ro }
/-- R394: DTM_CTRL.beacon_en. -/
def DTM_CTRL_beacon_en : RegD := { page := 6, base := 256, lo := 0, w := 1, acc := .rw, rst := 1 }
/-- R394: DTM_CTRL.check_en. -/
def DTM_CTRL_check_en : RegD := { page := 6, base := 256, lo := 1, w := 1, acc := .rw, rst := 1 }
/-- R394: DTM_CFG.beacon_us. -/
def DTM_CFG_beacon_us : RegD := { page := 6, base := 264, lo := 0, w := 16, acc := .rw, rst := 1000 }
/-- R394: DTM_CFG.grace_us. -/
def DTM_CFG_grace_us : RegD := { page := 6, base := 264, lo := 32, w := 16, acc := .rw, rst := 2000 }
/-- R394: DTM_CFG.loss_n. -/
def DTM_CFG_loss_n : RegD := { page := 6, base := 264, lo := 48, w := 8, acc := .rw, rst := 3 }
/-- R394: DTM_EPOCH.cur. -/
def DTM_EPOCH_cur : RegD := { page := 6, base := 272, lo := 0, w := 32, acc := .ro }
/-- R394: DTM_EPOCH.next. -/
def DTM_EPOCH_next : RegD := { page := 6, base := 272, lo := 32, w := 32, acc := .rw }
/-- R394: DTM_STAGED.groups. -/
def DTM_STAGED_groups : RegD := { page := 6, base := 280, lo := 0, w := 16, acc := .ro }
/-- R394: DTM_CMD.op. -/
def DTM_CMD_op : RegD := { page := 6, base := 288, lo := 0, w := 4, acc := .wo }
/-- R394: DTM_CMD_ARG.groups. -/
def DTM_CMD_ARG_groups : RegD := { page := 6, base := 296, lo := 0, w := 16, acc := .rw }
/-- R394: DTM_CMD_ARG.slice. -/
def DTM_CMD_ARG_slice : RegD := { page := 6, base := 296, lo := 32, w := 12, acc := .rw }
/-- R394: DTM_CMD_STAT.busy. -/
def DTM_CMD_STAT_busy : RegD := { page := 6, base := 304, lo := 0, w := 1, acc := .ro }
/-- R394: DTM_CMD_STAT.status. -/
def DTM_CMD_STAT_status : RegD := { page := 6, base := 304, lo := 1, w := 3, acc := .ro }
/-- R394: DTM_CMD_STAT.reason. -/
def DTM_CMD_STAT_reason : RegD := { page := 6, base := 304, lo := 8, w := 4, acc := .ro }
/-- R394: DTM_COMMIT_LAST.groups. -/
def DTM_COMMIT_LAST_groups : RegD := { page := 6, base := 312, lo := 0, w := 16, acc := .ro }
/-- R394: DTM_COMMIT_LAST.reason. -/
def DTM_COMMIT_LAST_reason : RegD := { page := 6, base := 312, lo := 16, w := 4, acc := .ro }
/-- R394: DTM_COMMIT_LAST.by_cairn. -/
def DTM_COMMIT_LAST_by_cairn : RegD := { page := 6, base := 312, lo := 20, w := 1, acc := .ro }
/-- R394: DTM_COMMIT_LAST.valid. -/
def DTM_COMMIT_LAST_valid : RegD := { page := 6, base := 312, lo := 31, w := 1, acc := .w1c }
/-- R394: DTM_COMMIT_LAST.slice. -/
def DTM_COMMIT_LAST_slice : RegD := { page := 6, base := 312, lo := 32, w := 12, acc := .ro }
/-- R394: DTM_MODULE_LO.datum_lo. -/
def DTM_MODULE_LO_datum_lo : RegD := { page := 6, base := 320, lo := 0, w := 64, acc := .ro }
/-- R394: DTM_MODULE_HI.datum_hi. -/
def DTM_MODULE_HI_datum_hi : RegD := { page := 6, base := 328, lo := 0, w := 64, acc := .ro }
/-- R394: DTM_EXPECT.lo. -/
def DTM_EXPECT_lo : RegD := { page := 6, base := 336, lo := 0, w := 64, acc := .ro }
/-- R394: DTM_EXPECT.hi. -/
def DTM_EXPECT_hi : RegD := { page := 6, base := 344, lo := 0, w := 64, acc := .ro }
/-- R394: DTM_EXPECT_NEXT.lo. -/
def DTM_EXPECT_NEXT_lo : RegD := { page := 6, base := 352, lo := 0, w := 64, acc := .rw }
/-- R394: DTM_EXPECT_NEXT.hi. -/
def DTM_EXPECT_NEXT_hi : RegD := { page := 6, base := 360, lo := 0, w := 64, acc := .rw }
/-- R394: DTM_EXPECT_CTRL.valid. -/
def DTM_EXPECT_CTRL_valid : RegD := { page := 6, base := 368, lo := 0, w := 1, acc := .rw }
/-- R394: DTM_MISMATCH_STATE.kinds. -/
def DTM_MISMATCH_STATE_kinds : RegD := { page := 6, base := 376, lo := 0, w := 4, acc := .ro }
/-- R394: DTM_MISMATCH_LOC.kind. -/
def DTM_MISMATCH_LOC_kind : RegD := { page := 6, base := 384, lo := 0, w := 3, acc := .ro }
/-- R394: DTM_MISMATCH_LOC.fibre. -/
def DTM_MISMATCH_LOC_fibre : RegD := { page := 6, base := 384, lo := 8, w := 6, acc := .ro }
/-- R394: DTM_MISMATCH_LOC.slice. -/
def DTM_MISMATCH_LOC_slice : RegD := { page := 6, base := 384, lo := 16, w := 12, acc := .ro }
/-- R394: DTM_MISMATCH_LOC.valid. -/
def DTM_MISMATCH_LOC_valid : RegD := { page := 6, base := 384, lo := 31, w := 1, acc := .w1c }
/-- R394: DTM_LOG_BASE.base. -/
def DTM_LOG_BASE_base : RegD := { page := 6, base := 392, lo := 6, w := 34, acc := .rw }
/-- R394: DTM_LOG_CTRL.enable. -/
def DTM_LOG_CTRL_enable : RegD := { page := 6, base := 400, lo := 0, w := 1, acc := .rw }
/-- R394: DTM_LOG_CTRL.size_log. -/
def DTM_LOG_CTRL_size_log : RegD := { page := 6, base := 400, lo := 8, w := 5, acc := .rw, rst := 16 }
/-- R394: DTM_LOG_CTRL.head. -/
def DTM_LOG_CTRL_head : RegD := { page := 6, base := 400, lo := 32, w := 32, acc := .ro }
/-- R394: DTM_RECOMPUTE_LOC.module. -/
def DTM_RECOMPUTE_LOC_module : RegD := { page := 6, base := 408, lo := 0, w := 1, acc := .ro }
/-- R394: DTM_RECOMPUTE_LOC.slice. -/
def DTM_RECOMPUTE_LOC_slice : RegD := { page := 6, base := 408, lo := 16, w := 12, acc := .ro }
/-- R394: DTM_RECOMPUTE_LOC.valid. -/
def DTM_RECOMPUTE_LOC_valid : RegD := { page := 6, base := 408, lo := 31, w := 1, acc := .w1c }
/-- R394: DTM_COMMITS.count. -/
def DTM_COMMITS_count : RegD := { page := 6, base := 416, lo := 0, w := 32, acc := .ro }
/-- R394: DTM_COMMIT_REJECT.count. -/
def DTM_COMMIT_REJECT_count : RegD := { page := 6, base := 424, lo := 0, w := 32, acc := .ro }
/-- R394: DTM_SELF_MISMATCH.count. -/
def DTM_SELF_MISMATCH_count : RegD := { page := 6, base := 432, lo := 0, w := 32, acc := .ro }
/-- R394: DTM_SLICE_MISMATCH.count. -/
def DTM_SLICE_MISMATCH_count : RegD := { page := 6, base := 440, lo := 0, w := 32, acc := .ro }
/-- R394: DTM_NBR_MISMATCH.count. -/
def DTM_NBR_MISMATCH_count : RegD := { page := 6, base := 448, lo := 0, w := 32, acc := .ro }
/-- R394: DTM_EPOCH_MISMATCH.count. -/
def DTM_EPOCH_MISMATCH_count : RegD := { page := 6, base := 456, lo := 0, w := 32, acc := .ro }
/-- R394: DTM_BEACON_TX.count. -/
def DTM_BEACON_TX_count : RegD := { page := 6, base := 464, lo := 0, w := 32, acc := .ro }
/-- R394: DTM_BEACON_RX.count. -/
def DTM_BEACON_RX_count : RegD := { page := 6, base := 472, lo := 0, w := 32, acc := .ro }
/-- R394: DTM_BEACON_LOSS.count. -/
def DTM_BEACON_LOSS_count : RegD := { page := 6, base := 480, lo := 0, w := 32, acc := .ro }
/-- R394: DTM_LOG_OVERRUN.count. -/
def DTM_LOG_OVERRUN_count : RegD := { page := 6, base := 488, lo := 0, w := 32, acc := .ro }
/-- R394: DTM_PURGE_DROP.count. -/
def DTM_PURGE_DROP_count : RegD := { page := 6, base := 496, lo := 0, w := 32, acc := .ro }
/-- R394: DTM_RECOMPUTE_DIFF.count. -/
def DTM_RECOMPUTE_DIFF_count : RegD := { page := 6, base := 504, lo := 0, w := 32, acc := .ro }
/-- R394: DTM_PARITY.count. -/
def DTM_PARITY_count : RegD := { page := 6, base := 512, lo := 0, w := 32, acc := .ro }
/-- R394: DTM_TCMD.op. -/
def DTM_TCMD_op : RegD := { page := 6, base := 768, lo := 0, w := 4, acc := .wo }
/-- R394: DTM_TCMD.table. -/
def DTM_TCMD_table : RegD := { page := 6, base := 768, lo := 4, w := 4, acc := .wo }
/-- R394: DTM_TSTAT.busy. -/
def DTM_TSTAT_busy : RegD := { page := 6, base := 776, lo := 0, w := 1, acc := .ro }
/-- R394: DTM_TSTAT.status. -/
def DTM_TSTAT_status : RegD := { page := 6, base := 776, lo := 1, w := 3, acc := .ro }
/-- R394: DTM_TKEY.slice. -/
def DTM_TKEY_slice : RegD := { page := 6, base := 784, lo := 0, w := 12, acc := .rw }
/-- R394: DTM_TDATA.data. -/
def DTM_TDATA_data : RegD := { page := 6, base := 800, stride := 8, cnt := 6, lo := 0, w := 64, acc := .rw }
/-- R394: DTM_NBR.epoch. -/
def DTM_NBR_epoch : RegD := { page := 6, base := 4096, stride := 64, cnt := 64, lo := 0, w := 32, acc := .ro }
/-- R394: DTM_NBR.slice. -/
def DTM_NBR_slice : RegD := { page := 6, base := 4096, stride := 64, cnt := 64, lo := 32, w := 12, acc := .ro }
/-- R394: DTM_NBR.time. -/
def DTM_NBR_time : RegD := { page := 6, base := 4104, stride := 64, cnt := 64, lo := 0, w := 48, acc := .ro }
/-- R394: DTM_NBR.datum_lo. -/
def DTM_NBR_datum_lo : RegD := { page := 6, base := 4112, stride := 64, cnt := 64, lo := 0, w := 64, acc := .ro }
/-- R394: DTM_NBR.datum_hi. -/
def DTM_NBR_datum_hi : RegD := { page := 6, base := 4120, stride := 64, cnt := 64, lo := 0, w := 64, acc := .ro }
/-- R394: DTM_NBR.sdatum_lo. -/
def DTM_NBR_sdatum_lo : RegD := { page := 6, base := 4128, stride := 64, cnt := 64, lo := 0, w := 64, acc := .ro }
/-- R394: DTM_NBR.sdatum_hi. -/
def DTM_NBR_sdatum_hi : RegD := { page := 6, base := 4136, stride := 64, cnt := 64, lo := 0, w := 64, acc := .ro }
/-- R418: MEM_STATUS.trained. -/
def MEM_STATUS_trained : RegD := { page := 32, base := 256, lo := 0, w := 1, acc := .ro }
/-- R418: MEM_STATUS.sref. -/
def MEM_STATUS_sref : RegD := { page := 32, base := 256, lo := 1, w := 1, acc := .ro }
/-- R418: MEM_STATUS.train_code. -/
def MEM_STATUS_train_code : RegD := { page := 32, base := 256, lo := 8, w := 8, acc := .ro }
/-- R418: MEM_CE_CFG.storm_n. -/
def MEM_CE_CFG_storm_n : RegD := { page := 32, base := 264, lo := 0, w := 16, acc := .rw, rst := 1000 }
/-- R418: MEM_CE.count. -/
def MEM_CE_count : RegD := { page := 32, base := 272, lo := 0, w := 32, acc := .ro }
/-- R418: MEM_UE.count. -/
def MEM_UE_count : RegD := { page := 32, base := 280, lo := 0, w := 32, acc := .ro }
/-- R418: MEM_POISON_READ.count. -/
def MEM_POISON_READ_count : RegD := { page := 32, base := 288, lo := 0, w := 32, acc := .ro }
/-- R418: MEM_CE_LOC.addr. -/
def MEM_CE_LOC_addr : RegD := { page := 32, base := 296, lo := 2, w := 38, acc := .ro }
/-- R418: MEM_CE_LOC.syndrome. -/
def MEM_CE_LOC_syndrome : RegD := { page := 32, base := 296, lo := 40, w := 7, acc := .ro }
/-- R418: MEM_CE_LOC.valid. -/
def MEM_CE_LOC_valid : RegD := { page := 32, base := 296, lo := 63, w := 1, acc := .w1c }
/-- R418: MEM_UE_LOC.addr. -/
def MEM_UE_LOC_addr : RegD := { page := 32, base := 304, lo := 2, w := 38, acc := .ro }
/-- R418: MEM_UE_LOC.syndrome. -/
def MEM_UE_LOC_syndrome : RegD := { page := 32, base := 304, lo := 40, w := 7, acc := .ro }
/-- R418: MEM_UE_LOC.valid. -/
def MEM_UE_LOC_valid : RegD := { page := 32, base := 304, lo := 63, w := 1, acc := .w1c }
/-- R418: MEM_SCRUB_FIX.count. -/
def MEM_SCRUB_FIX_count : RegD := { page := 32, base := 312, lo := 0, w := 32, acc := .ro }
/-- R419: MEM_PART_BASE.base. -/
def MEM_PART_BASE_base : RegD := { page := 32, base := 1024, stride := 16, cnt := 4, lo := 24, w := 16, acc := .rw, rsts := [0, 32768, 36864, 38912], grp := 4 }
/-- R419: MEM_PART_SIZE.size. -/
def MEM_PART_SIZE_size : RegD := { page := 32, base := 1032, stride := 16, cnt := 4, lo := 24, w := 16, acc := .rw, rsts := [32768, 4096, 2048, 1408], grp := 4 }
/-- R419: MEM_ARB.ledger. -/
def MEM_ARB_ledger : RegD := { page := 32, base := 1088, lo := 0, w := 8, acc := .rw, rst := 8 }
/-- R419: MEM_ARB.retain. -/
def MEM_ARB_retain : RegD := { page := 32, base := 1088, lo := 8, w := 8, acc := .rw, rst := 2 }
/-- R419: MEM_ARB.spill. -/
def MEM_ARB_spill : RegD := { page := 32, base := 1088, lo := 16, w := 8, acc := .rw, rst := 4 }
/-- R419: MEM_ARB.host. -/
def MEM_ARB_host : RegD := { page := 32, base := 1088, lo := 24, w := 8, acc := .rw, rst := 2 }
/-- R419: MEM_ARB.system. -/
def MEM_ARB_system : RegD := { page := 32, base := 1088, lo := 32, w := 8, acc := .rw, rst := 1 }
/-- R419: MEM_SCRUB_CFG.enable. -/
def MEM_SCRUB_CFG_enable : RegD := { page := 32, base := 1096, lo := 0, w := 1, acc := .rw, rst := 1 }
/-- R419: MEM_SCRUB_CFG.period_h. -/
def MEM_SCRUB_CFG_period_h : RegD := { page := 32, base := 1096, lo := 8, w := 8, acc := .rw, rst := 24 }
/-- R419: MEM_SCRUB_STAT.running. -/
def MEM_SCRUB_STAT_running : RegD := { page := 32, base := 1104, lo := 0, w := 1, acc := .ro }
/-- R419: MEM_SCRUB_STAT.pass_count. -/
def MEM_SCRUB_STAT_pass_count : RegD := { page := 32, base := 1104, lo := 32, w := 32, acc := .ro }
/-- R419: MEM_CMD.op. -/
def MEM_CMD_op : RegD := { page := 32, base := 1112, lo := 0, w := 4, acc := .wo }
/-- R419: MEM_CMD_ADDR.addr. -/
def MEM_CMD_ADDR_addr : RegD := { page := 32, base := 1120, lo := 7, w := 33, acc := .rw }
/-- R419: MEM_CMD_LEN.len. -/
def MEM_CMD_LEN_len : RegD := { page := 32, base := 1128, lo := 7, w := 33, acc := .rw }
/-- R419: MEM_CMD_STAT.busy. -/
def MEM_CMD_STAT_busy : RegD := { page := 32, base := 1136, lo := 0, w := 1, acc := .ro }
/-- R419: MEM_CMD_STAT.status. -/
def MEM_CMD_STAT_status : RegD := { page := 32, base := 1136, lo := 1, w := 3, acc := .ro }
/-- R419: MEM_SELFTEST.ctrl. -/
def MEM_SELFTEST_ctrl : RegD := { page := 32, base := 1144, lo := 0, w := 12, acc := .ro }
/-- R419: MEM_SELFTEST.pbuf. -/
def MEM_SELFTEST_pbuf : RegD := { page := 32, base := 1144, lo := 12, w := 1, acc := .ro }
/-- R419: MEM_SELFTEST.stage. -/
def MEM_SELFTEST_stage : RegD := { page := 32, base := 1144, lo := 13, w := 1, acc := .ro }
/-- R419: MEM_SELFTEST.tally. -/
def MEM_SELFTEST_tally : RegD := { page := 32, base := 1144, lo := 14, w := 1, acc := .ro }
/-- R419: MEM_SELFTEST.serai. -/
def MEM_SELFTEST_serai : RegD := { page := 32, base := 1144, lo := 15, w := 1, acc := .ro }
/-- R419: MEM_SELFTEST.parity. -/
def MEM_SELFTEST_parity : RegD := { page := 32, base := 1144, lo := 16, w := 1, acc := .ro }
/-- R419: MEM_ONDIE_CE.count. -/
def MEM_ONDIE_CE_count : RegD := { page := 32, base := 1152, lo := 0, w := 32, acc := .ro }
/-- R419: MEM_ONDIE_UE.count. -/
def MEM_ONDIE_UE_count : RegD := { page := 32, base := 1160, lo := 0, w := 32, acc := .ro }
/-- R419: MEM_RANGE_ERR.count. -/
def MEM_RANGE_ERR_count : RegD := { page := 32, base := 1168, lo := 0, w := 32, acc := .ro }
/-- R419: MEM_POISON_LIST.entries. -/
def MEM_POISON_LIST_entries : RegD := { page := 32, base := 1176, lo := 0, w := 11, acc := .ro }
/-- R419: MEM_POISON_LIST.overflow. -/
def MEM_POISON_LIST_overflow : RegD := { page := 32, base := 1176, lo := 15, w := 1, acc := .w1c }
/-- R419: MEM_GRAN_FILL.count. -/
def MEM_GRAN_FILL_count : RegD := { page := 32, base := 1184, lo := 0, w := 32, acc := .ro }
/-- R420: TLY_CE.count. -/
def TLY_CE_count : RegD := { page := 13, base := 256, lo := 0, w := 32, acc := .ro }
/-- R420: TLY_UE.count. -/
def TLY_UE_count : RegD := { page := 13, base := 264, lo := 0, w := 32, acc := .ro }
/-- R420: TLY_LOC.lcore. -/
def TLY_LOC_lcore : RegD := { page := 13, base := 272, lo := 0, w := 6, acc := .ro }
/-- R420: TLY_LOC.granule. -/
def TLY_LOC_granule : RegD := { page := 13, base := 272, lo := 6, w := 6, acc := .ro }
/-- R420: TLY_LOC.index. -/
def TLY_LOC_index : RegD := { page := 13, base := 272, lo := 12, w := 10, acc := .ro }
/-- R420: TLY_LOC.word. -/
def TLY_LOC_word : RegD := { page := 13, base := 272, lo := 22, w := 4, acc := .ro }
/-- R420: TLY_LOC.valid. -/
def TLY_LOC_valid : RegD := { page := 13, base := 272, lo := 31, w := 1, acc := .w1c }
/-- R420: TLY_CLAIM.granules. -/
def TLY_CLAIM_granules : RegD := { page := 13, base := 280, lo := 0, w := 13, acc := .ro }
/-- R428: PAGE_ID.code. -/
def PAGE_ID_code : RegD := { page := 0, base := 0, lo := 0, w := 24, acc := .ro }
/-- R428: PAGE_ID.instance. -/
def PAGE_ID_instance : RegD := { page := 0, base := 0, lo := 24, w := 8, acc := .ro }
/-- R428: PAGE_ID.index. -/
def PAGE_ID_index : RegD := { page := 0, base := 0, lo := 32, w := 8, acc := .ro }
/-- R428: PAGE_ID.version. -/
def PAGE_ID_version : RegD := { page := 0, base := 0, lo := 40, w := 8, acc := .ro, rst := 1 }
/-- R428: PAGE_ID.stepping. -/
def PAGE_ID_stepping : RegD := { page := 0, base := 0, lo := 48, w := 8, acc := .ro, rst := 161 }
/-- R428: PAGE_CLKEN.en. -/
def PAGE_CLKEN_en : RegD := { page := 0, base := 8, lo := 0, w := 1, acc := .rw }
/-- R428: PAGE_STATUS.ready. -/
def PAGE_STATUS_ready : RegD := { page := 0, base := 16, lo := 0, w := 1, acc := .ro }
/-- R428: PAGE_STATUS.err_sum. -/
def PAGE_STATUS_err_sum : RegD := { page := 0, base := 16, lo := 1, w := 1, acc := .ro }
/-- R428: PAGE_STATUS.gated. -/
def PAGE_STATUS_gated : RegD := { page := 0, base := 16, lo := 2, w := 1, acc := .ro, rst := 1 }
/-- R428: PAGE_IRQ_STATUS.bits. -/
def PAGE_IRQ_STATUS_bits : RegD := { page := 0, base := 24, lo := 0, w := 64, acc := .w1c }
/-- R428: PAGE_IRQ_MASK.mask. -/
def PAGE_IRQ_MASK_mask : RegD := { page := 0, base := 32, lo := 0, w := 64, acc := .rw, rst := 18446744073709551615 }
/-- R428: PAGE_PWR.req. -/
def PAGE_PWR_req : RegD := { page := 0, base := 40, lo := 0, w := 2, acc := .rw }
/-- R428: PAGE_PWR.state. -/
def PAGE_PWR_state : RegD := { page := 0, base := 40, lo := 8, w := 2, acc := .ro }
/-- R436: HIF_RQ_BASE.base. -/
def HIF_RQ_BASE_base : RegD := { page := 256, base := 0, lo := 7, w := 57, acc := .rw }
/-- R436: HIF_RQ_CFG.enable. -/
def HIF_RQ_CFG_enable : RegD := { page := 256, base := 8, lo := 0, w := 1, acc := .rw }
/-- R436: HIF_RQ_CFG.size_log. -/
def HIF_RQ_CFG_size_log : RegD := { page := 256, base := 8, lo := 4, w := 5, acc := .rw, rst := 4 }
/-- R436: HIF_RQ_CFG.prio. -/
def HIF_RQ_CFG_prio : RegD := { page := 256, base := 8, lo := 12, w := 3, acc := .rw, rst := 4 }
/-- R436: HIF_RQ_CFG.irq_en. -/
def HIF_RQ_CFG_irq_en : RegD := { page := 256, base := 8, lo := 16, w := 1, acc := .rw, rst := 1 }
/-- R436: HIF_RQ_TAIL.tail. -/
def HIF_RQ_TAIL_tail : RegD := { page := 256, base := 16, lo := 0, w := 16, acc := .rw }
/-- R436: HIF_RQ_HEAD.head. -/
def HIF_RQ_HEAD_head : RegD := { page := 256, base := 24, lo := 0, w := 16, acc := .ro }
/-- R436: HIF_RQ_STAT.running. -/
def HIF_RQ_STAT_running : RegD := { page := 256, base := 32, lo := 0, w := 1, acc := .ro }
/-- R436: HIF_RQ_STAT.last_result. -/
def HIF_RQ_STAT_last_result : RegD := { page := 256, base := 32, lo := 1, w := 3, acc := .ro }
/-- R436: HIF_RQ_STAT.last_index. -/
def HIF_RQ_STAT_last_index : RegD := { page := 256, base := 32, lo := 16, w := 16, acc := .ro }
/-- R436: HIF_RQ_STAT.done_count. -/
def HIF_RQ_STAT_done_count : RegD := { page := 256, base := 32, lo := 32, w := 32, acc := .ro }
/-- R436: HIF_RQ_CMD.reset. -/
def HIF_RQ_CMD_reset : RegD := { page := 256, base := 40, lo := 0, w := 1, acc := .wo }
/-- R459: HIF_LINK.width. -/
def HIF_LINK_width : RegD := { page := 0, base := 256, lo := 0, w := 4, acc := .ro }
/-- R459: HIF_LINK.rate. -/
def HIF_LINK_rate : RegD := { page := 0, base := 256, lo := 4, w := 7, acc := .ro }
/-- R459: HIF_LINK.flit. -/
def HIF_LINK_flit : RegD := { page := 0, base := 256, lo := 16, w := 1, acc := .ro }
/-- R459: HIF_ACCESS_LOC.page. -/
def HIF_ACCESS_LOC_page : RegD := { page := 0, base := 264, lo := 0, w := 8, acc := .ro }
/-- R459: HIF_ACCESS_LOC.offset. -/
def HIF_ACCESS_LOC_offset : RegD := { page := 0, base := 264, lo := 8, w := 16, acc := .ro }
/-- R459: HIF_ACCESS_LOC.write. -/
def HIF_ACCESS_LOC_write : RegD := { page := 0, base := 264, lo := 24, w := 1, acc := .ro }
/-- R459: HIF_ACCESS_LOC.cause. -/
def HIF_ACCESS_LOC_cause : RegD := { page := 0, base := 264, lo := 25, w := 3, acc := .ro }
/-- R459: HIF_ACCESS_LOC.valid. -/
def HIF_ACCESS_LOC_valid : RegD := { page := 0, base := 264, lo := 31, w := 1, acc := .w1c }
/-- R459: HIF_ACCESS_ERR.count. -/
def HIF_ACCESS_ERR_count : RegD := { page := 0, base := 272, lo := 0, w := 32, acc := .ro }
/-- R459: HIF_CMD_CFG.poll_ms. -/
def HIF_CMD_CFG_poll_ms : RegD := { page := 0, base := 280, lo := 0, w := 16, acc := .rw, rst := 100 }
/-- R459: HIF_CMD_CFG.ib_prio. -/
def HIF_CMD_CFG_ib_prio : RegD := { page := 0, base := 280, lo := 16, w := 3, acc := .rw, rst := 3 }
/-- R459: HIF_HP_CFG.enable. -/
def HIF_HP_CFG_enable : RegD := { page := 0, base := 288, lo := 0, w := 1, acc := .rw }
/-- R459: HIF_HP_CFG.rx_wait_us. -/
def HIF_HP_CFG_rx_wait_us : RegD := { page := 0, base := 288, lo := 16, w := 16, acc := .rw, rst := 100 }
/-- R459: HIF_HP_TX_DROP.count. -/
def HIF_HP_TX_DROP_count : RegD := { page := 0, base := 296, lo := 0, w := 32, acc := .ro }
/-- R459: HIF_HP_RX_DROP.count. -/
def HIF_HP_RX_DROP_count : RegD := { page := 0, base := 304, lo := 0, w := 32, acc := .ro }
/-- R459: HIF_CMD_ERR.count. -/
def HIF_CMD_ERR_count : RegD := { page := 0, base := 312, lo := 0, w := 32, acc := .ro }
/-- R459: HIF_DMA_HOST.addr. -/
def HIF_DMA_HOST_addr : RegD := { page := 0, base := 512, stride := 32, cnt := 4, lo := 6, w := 58, acc := .rw }
/-- R459: HIF_DMA_DEV.addr. -/
def HIF_DMA_DEV_addr : RegD := { page := 0, base := 520, stride := 32, cnt := 4, lo := 6, w := 34, acc := .rw }
/-- R459: HIF_DMA_LEN.len. -/
def HIF_DMA_LEN_len : RegD := { page := 0, base := 528, stride := 32, cnt := 4, lo := 6, w := 26, acc := .rw }
/-- R459: HIF_DMA_CTRL.go. -/
def HIF_DMA_CTRL_go : RegD := { page := 0, base := 536, stride := 32, cnt := 4, lo := 0, w := 1, acc := .w1s }
/-- R459: HIF_DMA_CTRL.dir. -/
def HIF_DMA_CTRL_dir : RegD := { page := 0, base := 536, stride := 32, cnt := 4, lo := 1, w := 1, acc := .rw }
/-- R459: HIF_DMA_CTRL.busy. -/
def HIF_DMA_CTRL_busy : RegD := { page := 0, base := 536, stride := 32, cnt := 4, lo := 8, w := 1, acc := .ro }
/-- R459: HIF_DMA_CTRL.status. -/
def HIF_DMA_CTRL_status : RegD := { page := 0, base := 536, stride := 32, cnt := 4, lo := 9, w := 3, acc := .ro }
/-- R461: SEC_BOOT_STATUS.slot. -/
def SEC_BOOT_STATUS_slot : RegD := { page := 1, base := 256, lo := 0, w := 1, acc := .ro }
/-- R461: SEC_BOOT_STATUS.booted. -/
def SEC_BOOT_STATUS_booted : RegD := { page := 1, base := 256, lo := 1, w := 1, acc := .ro }
/-- R461: SEC_BOOT_STATUS.code. -/
def SEC_BOOT_STATUS_code : RegD := { page := 1, base := 256, lo := 8, w := 8, acc := .ro }
/-- R461: SEC_BOOT_STATUS.security_ver. -/
def SEC_BOOT_STATUS_security_ver : RegD := { page := 1, base := 256, lo := 32, w := 32, acc := .ro }
/-- R461: SEC_FW_DIGEST.digest. -/
def SEC_FW_DIGEST_digest : RegD := { page := 1, base := 264, stride := 8, cnt := 4, lo := 0, w := 64, acc := .ro }
/-- R461: SEC_MIN.fw_min. -/
def SEC_MIN_fw_min : RegD := { page := 1, base := 296, lo := 0, w := 32, acc := .ro }
/-- R461: SEC_MIN.kernel_min. -/
def SEC_MIN_kernel_min : RegD := { page := 1, base := 296, lo := 32, w := 32, acc := .ro }
/-- R461: SEC_CMD.op. -/
def SEC_CMD_op : RegD := { page := 1, base := 304, lo := 0, w := 4, acc := .wo }
/-- R461: SEC_CMD_ARG.arg. -/
def SEC_CMD_ARG_arg : RegD := { page := 1, base := 312, lo := 0, w := 64, acc := .rw }
/-- R461: SEC_CMD_ADDR.addr. -/
def SEC_CMD_ADDR_addr : RegD := { page := 1, base := 320, lo := 0, w := 64, acc := .rw }
/-- R461: SEC_CMD_STAT.busy. -/
def SEC_CMD_STAT_busy : RegD := { page := 1, base := 328, lo := 0, w := 1, acc := .ro }
/-- R461: SEC_CMD_STAT.status. -/
def SEC_CMD_STAT_status : RegD := { page := 1, base := 328, lo := 1, w := 3, acc := .ro }
/-- R461: SEC_CMD_STAT.reason. -/
def SEC_CMD_STAT_reason : RegD := { page := 1, base := 328, lo := 8, w := 8, acc := .ro }
/-- R461: SEC_CMD_STAT.bytes. -/
def SEC_CMD_STAT_bytes : RegD := { page := 1, base := 328, lo := 32, w := 32, acc := .ro }
/-- R461: SEC_IB_CTRL.enable. -/
def SEC_IB_CTRL_enable : RegD := { page := 1, base := 336, lo := 0, w := 1, acc := .rw }
/-- R461: SEC_IB_CTRL.max_sessions. -/
def SEC_IB_CTRL_max_sessions : RegD := { page := 1, base := 336, lo := 8, w := 3, acc := .rw, rst := 4 }
/-- R461: SEC_IB_CTRL.idle_s. -/
def SEC_IB_CTRL_idle_s : RegD := { page := 1, base := 336, lo := 32, w := 16, acc := .rw, rst := 300 }
/-- R461: SEC_IB_PAGEMASK.pages. -/
def SEC_IB_PAGEMASK_pages : RegD := { page := 1, base := 344, stride := 8, cnt := 4, lo := 0, w := 64, acc := .rw }
/-- R461: SEC_SESS.open. -/
def SEC_SESS_open : RegD := { page := 1, base := 376, lo := 0, w := 4, acc := .ro }
/-- R461: SEC_AUTH_FAIL.count. -/
def SEC_AUTH_FAIL_count : RegD := { page := 1, base := 384, lo := 0, w := 32, acc := .ro }
/-- R461: SEC_TAG_BAD.count. -/
def SEC_TAG_BAD_count : RegD := { page := 1, base := 392, lo := 0, w := 32, acc := .ro }
/-- R461: SEC_REPLAY.count. -/
def SEC_REPLAY_count : RegD := { page := 1, base := 400, lo := 0, w := 32, acc := .ro }
/-- R461: SEC_IB_DENY.count. -/
def SEC_IB_DENY_count : RegD := { page := 1, base := 408, lo := 0, w := 32, acc := .ro }
/-- R461: SEC_ANCHOR.hash. -/
def SEC_ANCHOR_hash : RegD := { page := 1, base := 512, stride := 32, cnt := 4, stride2 := 8, cnt2 := 4, lo := 0, w := 64, acc := .ro }
/-- R485: CLK_CTRL.trim_en. -/
def CLK_CTRL_trim_en : RegD := { page := 2, base := 256, lo := 0, w := 1, acc := .rw, rst := 1 }
/-- R485: CLK_CTRL.flock. -/
def CLK_CTRL_flock : RegD := { page := 2, base := 256, lo := 1, w := 1, acc := .rw }
/-- R485: CLK_STATUS.ref_ok. -/
def CLK_STATUS_ref_ok : RegD := { page := 2, base := 264, lo := 0, w := 1, acc := .ro }
/-- R485: CLK_STATUS.core_lock. -/
def CLK_STATUS_core_lock : RegD := { page := 2, base := 264, lo := 1, w := 1, acc := .ro }
/-- R485: CLK_STATUS.mem_lock. -/
def CLK_STATUS_mem_lock : RegD := { page := 2, base := 264, lo := 2, w := 1, acc := .ro }
/-- R485: CLK_STATUS.opt_lock. -/
def CLK_STATUS_opt_lock : RegD := { page := 2, base := 264, lo := 3, w := 1, acc := .ro }
/-- R485: CLK_STATUS.flock_active. -/
def CLK_STATUS_flock_active : RegD := { page := 2, base := 264, lo := 4, w := 1, acc := .ro }
/-- R485: CLK_STATUS.flock_hold. -/
def CLK_STATUS_flock_hold : RegD := { page := 2, base := 264, lo := 5, w := 1, acc := .ro }
/-- R485: CLK_TRIM.trim_ppb. -/
def CLK_TRIM_trim_ppb : RegD := { page := 2, base := 272, lo := 0, w := 32, acc := .ro }
/-- R485: CLK_FLOCK.line. -/
def CLK_FLOCK_line : RegD := { page := 2, base := 280, lo := 0, w := 5, acc := .rw }
/-- R485: CLK_DIV.rbus_div. -/
def CLK_DIV_rbus_div : RegD := { page := 2, base := 288, lo := 0, w := 4, acc := .rw, rst := 8 }
/-- R485: CLK_DIV.tbus_div. -/
def CLK_DIV_tbus_div : RegD := { page := 2, base := 288, lo := 8, w := 4, acc := .rw, rst := 4 }
/-- R485: CLK_CMD.apply. -/
def CLK_CMD_apply : RegD := { page := 2, base := 296, lo := 0, w := 1, acc := .wo }
/-- R485: CLK_OBS.enable. -/
def CLK_OBS_enable : RegD := { page := 2, base := 304, lo := 0, w := 1, acc := .rw }
/-- R485: CLK_OBS.sel. -/
def CLK_OBS_sel : RegD := { page := 2, base := 304, lo := 8, w := 5, acc := .rw }
/-- R485: CLK_OBS.div_n. -/
def CLK_OBS_div_n : RegD := { page := 2, base := 304, lo := 16, w := 4, acc := .rw }
/-- R485: CLK_OBS.status. -/
def CLK_OBS_status : RegD := { page := 2, base := 304, lo := 24, w := 2, acc := .ro }
/-- R485: CLK_STRAP.lockdly. -/
def CLK_STRAP_lockdly : RegD := { page := 2, base := 312, lo := 0, w := 3, acc := .ro }
/-- R485: CLK_LOCK_LOSS.count. -/
def CLK_LOCK_LOSS_count : RegD := { page := 2, base := 320, lo := 0, w := 32, acc := .ro }
/-- R485: CLK_FLOCK_HOLD.count. -/
def CLK_FLOCK_HOLD_count : RegD := { page := 2, base := 328, lo := 0, w := 32, acc := .ro }
/-- R486: PWR_CTRL.auto_depth. -/
def PWR_CTRL_auto_depth : RegD := { page := 3, base := 256, lo := 0, w := 1, acc := .rw, rst := 1 }
/-- R486: PWR_IDLE_CFG.lane_deep_min_us. -/
def PWR_IDLE_CFG_lane_deep_min_us : RegD := { page := 3, base := 264, lo := 0, w := 16, acc := .rw, rst := 200 }
/-- R486: PWR_IDLE_CFG.lane_lead_us. -/
def PWR_IDLE_CFG_lane_lead_us : RegD := { page := 3, base := 264, lo := 16, w := 16, acc := .rw, rst := 100 }
/-- R486: PWR_IDLE_CFG.serai_deep_min_us. -/
def PWR_IDLE_CFG_serai_deep_min_us : RegD := { page := 3, base := 264, lo := 32, w := 16, acc := .rw, rst := 20 }
/-- R486: PWR_IDLE_CFG.serai_lead_us. -/
def PWR_IDLE_CFG_serai_lead_us : RegD := { page := 3, base := 264, lo := 48, w := 16, acc := .rw, rst := 10 }
/-- R486: PWR_IDLE_CFG2.serai_hold_ns. -/
def PWR_IDLE_CFG2_serai_hold_ns : RegD := { page := 3, base := 272, lo := 0, w := 16, acc := .rw, rst := 1000 }
/-- R486: PWR_START.step. -/
def PWR_START_step : RegD := { page := 3, base := 280, lo := 0, w := 4, acc := .ro }
/-- R486: PWR_START.ready. -/
def PWR_START_ready : RegD := { page := 3, base := 280, lo := 4, w := 1, acc := .ro }
/-- R486: PWR_START.failed. -/
def PWR_START_failed : RegD := { page := 3, base := 280, lo := 5, w := 1, acc := .ro }
/-- R486: PWR_START.fail_page. -/
def PWR_START_fail_page : RegD := { page := 3, base := 280, lo := 8, w := 8, acc := .ro }
/-- R486: PWR_START.fail_code. -/
def PWR_START_fail_code : RegD := { page := 3, base := 280, lo := 16, w := 8, acc := .ro }
/-- R486: PWR_START.elapsed_ms. -/
def PWR_START_elapsed_ms : RegD := { page := 3, base := 280, lo := 32, w := 32, acc := .ro }
/-- R486: PWR_TJ.tj_max. -/
def PWR_TJ_tj_max : RegD := { page := 3, base := 288, lo := 0, w := 16, acc := .ro }
/-- R486: PWR_TJ.sensor. -/
def PWR_TJ_sensor : RegD := { page := 3, base := 288, lo := 16, w := 4, acc := .ro }
/-- R486: PWR_TEMP_CFG.warn_c. -/
def PWR_TEMP_CFG_warn_c : RegD := { page := 3, base := 296, lo := 0, w := 8, acc := .rw, rst := 100 }
/-- R486: PWR_VIN.mv. -/
def PWR_VIN_mv : RegD := { page := 3, base := 304, lo := 0, w := 16, acc := .ro }
/-- R486: PWR_VIN.current. -/
def PWR_VIN_current : RegD := { page := 3, base := 304, lo := 16, w := 16, acc := .ro }
/-- R486: PWR_VIN.watts. -/
def PWR_VIN_watts : RegD := { page := 3, base := 304, lo := 32, w := 16, acc := .ro }
/-- R486: PWR_CMD.op. -/
def PWR_CMD_op : RegD := { page := 3, base := 312, lo := 0, w := 4, acc := .wo }
/-- R486: PWR_CMD_STAT.busy. -/
def PWR_CMD_STAT_busy : RegD := { page := 3, base := 320, lo := 0, w := 1, acc := .ro }
/-- R486: PWR_CMD_STAT.status. -/
def PWR_CMD_STAT_status : RegD := { page := 3, base := 320, lo := 1, w := 3, acc := .ro }
/-- R486: PWR_CMD_STAT.reason. -/
def PWR_CMD_STAT_reason : RegD := { page := 3, base := 320, lo := 8, w := 4, acc := .ro }
/-- R486: PWR_REFUSE_LOC.page. -/
def PWR_REFUSE_LOC_page : RegD := { page := 3, base := 328, lo := 0, w := 8, acc := .ro }
/-- R486: PWR_REFUSE_LOC.req. -/
def PWR_REFUSE_LOC_req : RegD := { page := 3, base := 328, lo := 8, w := 2, acc := .ro }
/-- R486: PWR_REFUSE_LOC.reason. -/
def PWR_REFUSE_LOC_reason : RegD := { page := 3, base := 328, lo := 10, w := 3, acc := .ro }
/-- R486: PWR_REFUSE_LOC.valid. -/
def PWR_REFUSE_LOC_valid : RegD := { page := 3, base := 328, lo := 31, w := 1, acc := .w1c }
/-- R486: PWR_REFUSE_CNT.count. -/
def PWR_REFUSE_CNT_count : RegD := { page := 3, base := 336, lo := 0, w := 32, acc := .ro }
/-- R486: PWR_WAKE_CNT.count. -/
def PWR_WAKE_CNT_count : RegD := { page := 3, base := 344, lo := 0, w := 32, acc := .ro }
/-- R486: PWR_DEEP_CNT.count. -/
def PWR_DEEP_CNT_count : RegD := { page := 3, base := 352, lo := 0, w := 32, acc := .ro }
/-- R486: PWR_SREF_ACCESS.count. -/
def PWR_SREF_ACCESS_count : RegD := { page := 3, base := 360, lo := 0, w := 32, acc := .ro }
/-- R486: PWR_FIBRE.idle. -/
def PWR_FIBRE_idle : RegD := { page := 3, base := 4096, stride := 8, cnt := 64, lo := 0, w := 1, acc := .rw }
/-- R486: PWR_FIBRE.state. -/
def PWR_FIBRE_state : RegD := { page := 3, base := 4096, stride := 8, cnt := 64, lo := 8, w := 2, acc := .ro }
/-- R487: PAGE_CYCLES.cycles. -/
def PAGE_CYCLES_cycles : RegD := { page := 0, base := 64, lo := 0, w := 64, acc := .ro }
/-- R487: PAGE_CNT.count. -/
def PAGE_CNT_count : RegD := { page := 0, base := 72, stride := 8, cnt := 8, lo := 0, w := 32, acc := .ro }
/-- R487: PAGE_EVSEL0.sel0. -/
def PAGE_EVSEL0_sel0 : RegD := { page := 0, base := 136, lo := 0, w := 16, acc := .rw }
/-- R487: PAGE_EVSEL0.sel1. -/
def PAGE_EVSEL0_sel1 : RegD := { page := 0, base := 136, lo := 16, w := 16, acc := .rw }
/-- R487: PAGE_EVSEL0.sel2. -/
def PAGE_EVSEL0_sel2 : RegD := { page := 0, base := 136, lo := 32, w := 16, acc := .rw }
/-- R487: PAGE_EVSEL0.sel3. -/
def PAGE_EVSEL0_sel3 : RegD := { page := 0, base := 136, lo := 48, w := 16, acc := .rw }
/-- R487: PAGE_EVSEL1.sel4. -/
def PAGE_EVSEL1_sel4 : RegD := { page := 0, base := 144, lo := 0, w := 16, acc := .rw }
/-- R487: PAGE_EVSEL1.sel5. -/
def PAGE_EVSEL1_sel5 : RegD := { page := 0, base := 144, lo := 16, w := 16, acc := .rw }
/-- R487: PAGE_EVSEL1.sel6. -/
def PAGE_EVSEL1_sel6 : RegD := { page := 0, base := 144, lo := 32, w := 16, acc := .rw }
/-- R487: PAGE_EVSEL1.sel7. -/
def PAGE_EVSEL1_sel7 : RegD := { page := 0, base := 144, lo := 48, w := 16, acc := .rw }
/-- R487: PAGE_CNT_CTRL.en. -/
def PAGE_CNT_CTRL_en : RegD := { page := 0, base := 152, lo := 0, w := 8, acc := .rw }
/-- R487: PAGE_CNT_CTRL.chain. -/
def PAGE_CNT_CTRL_chain : RegD := { page := 0, base := 152, lo := 8, w := 7, acc := .rw }
/-- R487: PAGE_CNT_CTRL.ovf_irq. -/
def PAGE_CNT_CTRL_ovf_irq : RegD := { page := 0, base := 152, lo := 16, w := 8, acc := .rw }
/-- R487: PAGE_CNT_CTRL.clear. -/
def PAGE_CNT_CTRL_clear : RegD := { page := 0, base := 152, lo := 24, w := 8, acc := .wo }
/-- R487: PAGE_CNT_OVF.ovf. -/
def PAGE_CNT_OVF_ovf : RegD := { page := 0, base := 160, lo := 0, w := 8, acc := .w1c }
/-- R499: PMC_CYCLES.cycles. -/
def PMC_CYCLES_cycles : RegD := { page := 15, base := 256, lo := 0, w := 64, acc := .ro }
/-- R499: PMC_CMD.clear_all. -/
def PMC_CMD_clear_all : RegD := { page := 15, base := 264, lo := 0, w := 1, acc := .wo }
/-- R499: PMC_USER_READ.pages. -/
def PMC_USER_READ_pages : RegD := { page := 15, base := 272, stride := 8, cnt := 4, lo := 0, w := 64, acc := .rw }
/-- R499: PMC_OVF_SUM.pages. -/
def PMC_OVF_SUM_pages : RegD := { page := 15, base := 304, stride := 8, cnt := 4, lo := 0, w := 64, acc := .ro }
/-- R500: TEL_CTRL.enable. -/
def TEL_CTRL_enable : RegD := { page := 16, base := 256, lo := 0, w := 1, acc := .rw }
/-- R500: TEL_CTRL.auto. -/
def TEL_CTRL_auto : RegD := { page := 16, base := 256, lo := 1, w := 1, acc := .rw, rst := 1 }
/-- R500: TEL_CTRL.age_en. -/
def TEL_CTRL_age_en : RegD := { page := 16, base := 256, lo := 2, w := 1, acc := .rw, rst := 1 }
/-- R500: TEL_CFG.interval_ns. -/
def TEL_CFG_interval_ns : RegD := { page := 16, base := 264, lo := 0, w := 32, acc := .rw, rst := 10000 }
/-- R500: TEL_CFG.shift. -/
def TEL_CFG_shift : RegD := { page := 16, base := 264, lo := 32, w := 4, acc := .rw, rst := 2 }
/-- R500: TEL_RING_BASE.base. -/
def TEL_RING_BASE_base : RegD := { page := 16, base := 272, lo := 12, w := 52, acc := .rw }
/-- R500: TEL_RING_CFG.size_log. -/
def TEL_RING_CFG_size_log : RegD := { page := 16, base := 280, lo := 0, w := 5, acc := .rw, rst := 12 }
/-- R500: TEL_RING_HEAD.head. -/
def TEL_RING_HEAD_head : RegD := { page := 16, base := 288, lo := 0, w := 32, acc := .ro }
/-- R500: TEL_RING_TAIL.tail. -/
def TEL_RING_TAIL_tail : RegD := { page := 16, base := 296, lo := 0, w := 32, acc := .rw }
/-- R500: TEL_SNAPS.count. -/
def TEL_SNAPS_count : RegD := { page := 16, base := 304, lo := 0, w := 32, acc := .ro }
/-- R500: TEL_RING_DROP.count. -/
def TEL_RING_DROP_count : RegD := { page := 16, base := 312, lo := 0, w := 32, acc := .ro }
/-- R500: TEL_AGE_NEG.count. -/
def TEL_AGE_NEG_count : RegD := { page := 16, base := 320, lo := 0, w := 32, acc := .ro }
/-- R500: TEL_AGE_HIST.count. -/
def TEL_AGE_HIST_count : RegD := { page := 16, base := 4096, stride := 128, cnt := 8, stride2 := 8, cnt2 := 16, lo := 0, w := 32, acc := .ro }

/-- Fields of TIM, part 0. -/
def regsTIM0 : List RegD := [TIM_CTRL_mode, TIM_CTRL_servo_en, TIM_CTRL_step_en, TIM_STATE_state, TIM_STATE_slave_port, TIM_STATE_slave_valid, TIM_NOW_NS_ns, TIM_NOW_NS_frac, TIM_NOW_SEC_sec, TIM_SET_SEC_sec, TIM_SET_NS_ns_frac, TIM_CMD_op, TIM_STEP_ADJ_adj, TIM_RATE_rate, TIM_OFFSET_offset_ps, TIM_MLD_mld_ps, TIM_INTERVALS_log_sync, TIM_INTERVALS_log_pdelay, TIM_INTERVALS_log_announce, TIM_LIMITS_slew_max, TIM_LIMITS_step_thresh, TIM_STATUS_role_refused, TIM_STATUS_step_refused, TIM_RX_DISCARD_count, TIM_PDELAY_TIMEOUT_count, TIM_PIN_OWN_tpo3_owner, TIM_TPO_CFG_enable, TIM_TPO_CFG_polarity, TIM_TPO_CFG_width, TIM_TPO_CFG_status, TIM_TCAP_CFG_enable, TIM_TCAP_CFG_edge, TIM_TCAP_NS_valid, TIM_TCAP_NS_rising, TIM_TCAP_NS_ns_frac, TIM_TCAP_SEC_sec, TIM_TCAP_OVF_count, TIM_PORT_role, TIM_PORT_asym, TIM_PORT_MLD_mld_ps]
/-- The fields of block TIM. -/
def regsTIM : List RegD := regsTIM0
/-- Fields of CRN, part 0. -/
def regsCRN0 : List RegD := [CRN_CTRL_fw_units, CRN_CTRL_quiet_ns, CRN_ARMED_armed, CRN_LATE_late, CRN_REFUSE_CNT_count, CRN_U_SEC_sec, CRN_U_NS_ns, CRN_U_NS_half, CRN_U_PERIOD_period, CRN_U_COUNT_count, CRN_U_ACTION_class, CRN_U_ACTION_arg, CRN_U_CTRL_arm, CRN_U_CTRL_cancel, CRN_U_CTRL_irq_en, CRN_U_CTRL_owner, CRN_U_STATUS_state, CRN_U_STATUS_late, CRN_U_STATUS_refused, CRN_U_STATUS_result, CRN_U_STATUS_fire_count]
/-- The fields of block CRN. -/
def regsCRN : List RegD := regsCRN0
/-- Fields of FWD, part 0. -/
def regsFWD0 : List RegD := [FWD_CTRL_learn_en, FWD_CTRL_nak_en, FWD_TMODE_mode, FWD_SPRAY_MODE_mode, FWD_HASH_CFG_use_ctx, FWD_HASH_CFG_salt, FWD_SEED_seed, FWD_DRAIN_drain_us, FWD_AGE_tick_ms, FWD_PARITY_LOC_table, FWD_PARITY_LOC_index, FWD_DROP_HDR_count, FWD_DROP_KIND_count, FWD_DROP_WAYBILL_count, FWD_DROP_SLICE_count, FWD_DROP_SLICE_EG_count, FWD_DROP_EPOCH_count, FWD_DROP_NOROUTE_count, FWD_DROP_NOPORT_count, FWD_PARITY_count, FWD_RET_LEARN_count, FWD_RET_HIT_count, FWD_RET_MISS_count, FWD_RET_AGED_count, FWD_RET_FULL_count, FWD_TCMD_op, FWD_TCMD_table, FWD_TCMD_bank, FWD_TCMD_all, FWD_TSTAT_busy, FWD_TSTAT_status, FWD_TSTAT_cursor, FWD_TKEY_key, FWD_TKEY_slice, FWD_TKEY_port, FWD_TKEY_f_slice, FWD_TKEY_f_port, FWD_TKEY_restart, FWD_TDATA_data, FWD_SHADOW_CTRL_enable]
/-- Fields of FWD, part 1. -/
def regsFWD1 : List RegD := [FWD_SHADOW_CTRL_running, FWD_SHADOW_CTRL_pass_count, FWD_SHADOW_BASE_base, FWD_SHADOW_MISMATCH_count, FWD_SHADOW_FIRST_table, FWD_SHADOW_FIRST_index, FWD_SHADOW_FIRST_valid, FWD_SLICE_EPOCH_cur_epoch, FWD_SLICE_EPOCH_draining, FWD_SLICE_EPOCH_flip_rejected, FWD_SLICE_EPOCH_drain_left_us]
/-- The fields of block FWD. -/
def regsFWD : List RegD := regsFWD0 ++ regsFWD1
/-- Fields of LPC, part 0. -/
def regsLPC0 : List RegD := [LP_CFG_enable, LP_CFG_nbr_class, LP_CFG_learn_en, LP_CFG_elig, LP_CFG_auto_absent, LP_CFG_link_up]
/-- The fields of block LPC. -/
def regsLPC : List RegD := regsLPC0
/-- Fields of XBR, part 0. -/
def regsXBR0 : List RegD := [XBR_CTRL_plane_en, XBR_ORDER_strict, XBR_RESEQ_timeout_ns, XBR_PLANE_STATUS_plane_ok, XBR_PLANE_STATUS_plane_err, XBR_RESEQ_LOST_count, XBR_FENCE_HOLD_count, XBR_IN_PARTIAL_count, XBR_PLANE_ERR_count]
/-- The fields of block XBR. -/
def regsXBR : List RegD := regsXBR0
/-- Fields of BPM, part 0. -/
def regsBPM0 : List RegD := [BPM_POOL_free, BPM_POOL_low_water, BPM_FAIL_count, BPM_DOUBLE_FREE_count, BPM_DF_LOC_pool, BPM_DF_LOC_index, BPM_DF_LOC_valid, BPM_RESERVE_reserved, BPM_RESERVE_unused, BPM_STAGE_QUOTA_spec_max, BPM_STAGE_QUOTA_emit_min, BPM_STAGE_USE_spec, BPM_STAGE_USE_emit, BPM_STAGE_USE_other]
/-- The fields of block BPM. -/
def regsBPM : List RegD := regsBPM0
/-- Fields of QSH, part 0. -/
def regsQSH0 : List RegD := [QSH_ALPHA_k, QSH_LOSSLESS_lossless, QSH_CLASS_GROUP_group, QSH_SPILL_CTRL_en, QSH_SPILL_CTRL_rate, QSH_SPILL_MARKS_on_die_max, QSH_SPILL_MARKS_on_die_resume, QSH_SPILL_CHAIN_max_chain, QSH_DROP_DT_count, QSH_DT_WAIT_count, QSH_DROP_POL_count, QSH_SPILL_FAIL_count, QSH_TG_OVERRUN_count, QSH_TG_NOFIT_count, QSH_PARITY_count, QSH_TCMD_op, QSH_TCMD_table, QSH_TCMD_bank, QSH_TSTAT_busy, QSH_TSTAT_status, QSH_TKEY_key, QSH_TDATA_data]
/-- The fields of block QSH. -/
def regsQSH : List RegD := regsQSH0
/-- Fields of SRG, part 0. -/
def regsSRG0 : List RegD := [SRG_CTRL_coll_en, SRG_STRAGGLE_POLICY_policy, SRG_OPEN_count, SRG_DROP_SLICE_count, SRG_MALFORMED_count, SRG_E2E_BAD_count, SRG_LATE_count, SRG_NORES_count, SRG_DUP_count, SRG_CONFLICT_count, SRG_STRAGGLE_count, SRG_ABORT_count, SRG_RESERVE_count, SRG_RESERVE_MISS_count, SRG_RETAIN_FAIL_count, SRG_LATE_LOC_ctx, SRG_LATE_LOC_member, SRG_LATE_LOC_attempt, SRG_LATE_LOC_valid, SRG_LATE_LOC_chunk, SRG_CONFLICT_LOC_ctx, SRG_CONFLICT_LOC_member, SRG_CONFLICT_LOC_attempt, SRG_CONFLICT_LOC_valid, SRG_CONFLICT_LOC_chunk, SRG_NORES_LOC_ctx, SRG_NORES_LOC_cause, SRG_NORES_LOC_valid, SRG_NORES_LOC_chunk, SRG_FAULT_LOC_ctx, SRG_FAULT_LOC_reason, SRG_FAULT_LOC_valid, SRG_FAULT_LOC_chunk, SRG_TCMD_op, SRG_TCMD_table, SRG_TSTAT_busy, SRG_TSTAT_status, SRG_TKEY_index, SRG_TKEY_member, SRG_TKEY_chunk]
/-- Fields of SRG, part 1. -/
def regsSRG1 : List RegD := [SRG_TDATA_data, SRG_REMAP_phys, SRG_REMAP_valid, SRG_SPARES_count, SRG_FENCE_CMD_phys, SRG_FENCE_CMD_go, SRG_FENCE_CMD_refused, SRG_FENCE_LOC_phys, SRG_FENCE_LOC_lcore, SRG_FENCE_LOC_cause, SRG_FENCE_LOC_valid, SRG_FENCE_LOC_chunks, SRG_FENCE_CNT_count, SRG_KCFG_max_cycles, SRG_KCMD_op, SRG_KSTAT_busy, SRG_KSTAT_code, SRG_KSTAT_index, SRG_KKEY_kernel, SRG_KLOAD_ADDR_addr, SRG_KINFO_loaded, SRG_KINFO_count, SRG_KINFO_ops, SRG_KINFO_ver, SRG_KSTORE_free, SRG_KSTORE_kernels, SRG_KERR_count, SRG_KERR_LOC_code, SRG_KERR_LOC_kernel, SRG_KERR_LOC_pc, SRG_KERR_LOC_entry, SRG_KERR_LOC_valid, SRG_KERR_LOC_ctx, SRG_KERR_CHUNK_chunk, SRG_BC_CFG_enable, SRG_BC_CFG_report_all, SRG_BC_CFG_child_timeout_us, SRG_BC_CFG_hold_ms, SRG_BC_ACTIVE_open, SRG_BC_RX_count]
/-- Fields of SRG, part 2. -/
def regsSRG2 : List RegD := [SRG_BC_DUP_count, SRG_BC_CHILD_TO_count, SRG_BC_REPORT_count, SRG_BC_DROP_count, SRG_BC_LATE_ACK_count, SRG_BC_LOC_ctx, SRG_BC_LOC_slice, SRG_BC_LOC_valid, SRG_BC_LOC_seq, SRG_BC_MISSING_fibres, SRG_WITHDRAW_count, SRG_WITHDRAW_LOC_ctx, SRG_WITHDRAW_LOC_valid, SRG_WITHDRAW_LOC_chunk, SRG_POISON_OUT_count, SRG_DELIV_WAIT_count]
/-- The fields of block SRG. -/
def regsSRG : List RegD := regsSRG0 ++ regsSRG1 ++ regsSRG2
/-- Fields of SRI, part 0. -/
def regsSRI0 : List RegD := [SRI_CTRL_bist, SRI_CTRL_xmask, SRI_STATE_state, SRI_STATE_lcore, SRI_STATE_lcore_valid, SRI_STATE_bist_code, SRI_QUEUES_aq, SRI_QUEUES_fq, SRI_QUEUES_sq, SRI_QUEUES_eq, SRI_IMEM_free, SRI_IMEM_resident, SRI_XSTAT_ctx, SRI_XSTAT_status, SRI_XSTAT_valid, SRI_XSTAT_chunk, SRI_XREC0_rec_lo, SRI_XREC1_rec_hi, SRI_INVOKE_count, SRI_DISCARD_count, SRI_PREFETCH_DROP_count, SRI_ECC_CORR_count, SRI_IMEM_MISS_count]
/-- The fields of block SRI. -/
def regsSRI : List RegD := regsSRI0
/-- Fields of LDG, part 0. -/
def regsLDG0 : List RegD := [LDG_CMD_op, LDG_CMD_ledger, LDG_CMD_ARG_arg, LDG_CMD_STAT_busy, LDG_CMD_STAT_status, LDG_CMD_STAT_reason, LDG_FLIP_LAST_ledger, LDG_FLIP_LAST_reason, LDG_FLIP_LAST_valid, LDG_FLIP_LAST_step, LDG_RSV_BASE_base, LDG_NORM_CFG_timeout_us, LDG_NORM_CFG_retry_us, LDG_CFG_ERR_ledger, LDG_CFG_ERR_reason, LDG_CFG_ERR_valid, LDG_START_LOC_ctx, LDG_START_LOC_cause, LDG_START_LOC_valid, LDG_FLIPS_count, LDG_FLIP_REJECT_count, LDG_SPEC_COMMIT_count, LDG_SPEC_UNDO_count, LDG_NORM_DUP_count, LDG_NORM_BAD_count, LDG_NORM_LATE_count, LDG_NORM_NORES_count, LDG_NORM_TIMEOUT_count, LDG_NORM_CONFLICT_count, LDG_NORM_NONFINITE_count, LDG_START_REFUSED_count, LDG_POISON_READ_count, LDG_POST_COMMIT_FAULT_count, LDG_NORM_USE_slots, LDG_CFG_enable, LDG_CFG_lock, LDG_CFG_layout, LDG_BASE_base, LDG_BANK_bank_bytes, LDG_PCOUNT_param_count]
/-- Fields of LDG, part 1. -/
def regsLDG1 : List RegD := [LDG_STATE_active, LDG_STATE_fault, LDG_STATE_dirty, LDG_STATE_revert_ok, LDG_STATE_step, LDG_COVER_covered, LDG_COVER_blocks, LDG_NORM_GRP_member_base, LDG_NORM_GRP_norm_count, LDG_NORM_GRP_self_index, LDG_ROUND_next_round, LDG_PARAM_NEXT_word, LDG_PARAM_CUR_word]
/-- The fields of block LDG. -/
def regsLDG : List RegD := regsLDG0 ++ regsLDG1
/-- Fields of OPX, part 0. -/
def regsOPX0 : List RegD := [OPX_CTRL_fade_en, OPX_CTRL_auto_force, OPX_CTRL_recal_en, OPX_CTRL_relock_us, OPX_STATUS_no_baseline, OPX_STATUS_cal_done, OPX_TEMP_t0, OPX_TEMP_t1, OPX_TEMP_t2, OPX_TEMP_t3, OPX_FADE_THR_warn, OPX_FADE_THR_plan, OPX_FADE_THR_force, OPX_FADE_THR_out, OPX_FADE_THR_hyst, OPX_RECAL_period_s, OPX_RECAL_early_c, OPX_CMD_op, OPX_CMD_STAT_busy, OPX_CMD_STAT_status, OPX_CHG_CFG_kind, OPX_CHG_CFG_to_comb, OPX_CHG_CFG_fibre, OPX_CHG_CFG_line, OPX_CHG_SEC_sec, OPX_CHG_NS_ns, OPX_CHG_NS_half, OPX_CHG_CMD_op, OPX_CHG_STAT_state, OPX_CHG_STAT_reason, OPX_CHG_STAT_by_fw, OPX_CHG_STAT_notice_id, OPX_MON_CMD_tap, OPX_MON_CMD_int, OPX_MON_DATA_power, OPX_MON_DATA_valid, OPX_RING_KEY_ring, OPX_RING_heater, OPX_RING_offset, OPX_RING_order]
/-- Fields of OPX, part 1. -/
def regsOPX1 : List RegD := [OPX_RING_lock, OPX_RING_head_up, OPX_RING_head_down, OPX_COMB_lock, OPX_COMB_off, OPX_COMB_fit, OPX_COMB_fade_state, OPX_COMB_fade, OPX_FIBRE_comb, OPX_FIBRE_spare_lane, OPX_FIBRE_hold, OPX_FIBRE_rx_hold, OPX_FADE_LOC_comb, OPX_FADE_LOC_line, OPX_FADE_LOC_threshold, OPX_FADE_LOC_valid, OPX_RELOCK_count, OPX_HEADROOM_EXC_count, OPX_LOCK_LOSS_count, OPX_RECAL_SWEEPS_count, OPX_CHANGEOVER_count, OPX_LINE_MIGRATE_count, OPX_NOTICE_TX_count, OPX_NOTICE_RX_count, OPX_CHG_REJECT_count]
/-- The fields of block OPX. -/
def regsOPX : List RegD := regsOPX0 ++ regsOPX1
/-- Fields of LNK, part 0. -/
def regsLNK0 : List RegD := [LNK_CFG_retry_to_us, LNK_CFG_retry_max, LNK_CFG_credit_ns, LNK_CFG_req_us, LNK_CREDIT_CFG_vc_max, LNK_CREDIT_CFG_grant_step, LNK_CREDIT_CFG_grant_min, LNK_ERR_CFG_ucw_max, LNK_ERR_CFG_ber_max, LNK_ERR_CFG_los_dbm, LNK_ERR_CFG_flap_max, LNK_VERSION_minor, LNK_VERSION_major, LNK_LANE_CMD_lane, LNK_LANE_CMD_op, LNK_RX_HOPCRC_count, LNK_LMF_BAD_count, LNK_LMF_UNKNOWN_count, LNK_LMF_LATE_count, LNK_LMF_DROP_count, LNK_LANE_RESEND_count, LNK_REROUTE_count, LNK_REROUTE_DROP_count, LNK_REPLAY_count, LNK_REQ_IGNORED_count, LNK_PORT_FAULT_count, LNK_CREDIT_OVF_count, LNK_LANE_DOWN_count, LNK_LANE_MAP_port, LNK_LANE_MAP_valid, LNK_LANE_state, LNK_LANE_cause, LNK_LANE_line, LNK_LANE_ber, LNK_LANE_FEC_corrected, LNK_LANE_FEC_uncorrectable]
/-- The fields of block LNK. -/
def regsLNK : List RegD := regsLNK0
/-- Fields of TRV, part 0. -/
def regsTRV0 : List RegD := [TRV_CTRL_enable, TRV_CTRL_probe_us, TRV_CTRL_keep_ms, TRV_CTRL_absent_ms, TRV_SELF_endpoint, TRV_SERIAL_serial, TRV_CMD_op, TRV_CMD_fibre, TRV_CMD_STAT_busy, TRV_CMD_STAT_status, TRV_MISMATCH_count, TRV_DATUM_MISMATCH_count, TRV_IDENT_RX_count, TRV_ABSENT_count, TRV_PLAT_present, TRV_PLAT_nbr_class, TRV_PLAT_direction, TRV_PLAT_nbr_fibre, TRV_PLAT_nbr_endpoint, TRV_PLAT_nbr_serial, TRV_PLAT_datum_lo, TRV_PLAT_datum_hi, TRV_FIBRE_state, TRV_FIBRE_minor, TRV_FIBRE_partner, TRV_FIBRE_partner_valid, TRV_FIBRE_datum_bad, TRV_FIBRE_seen_serial, TRV_FIBRE_seen_endpoint, TRV_FIBRE_seen_fibre, TRV_FIBRE_seen_major, TRV_FIBRE_seen_minor, TRV_FIBRE_seen_datum_lo, TRV_FIBRE_seen_datum_hi]
/-- The fields of block TRV. -/
def regsTRV : List RegD := regsTRV0
/-- Fields of BYP, part 0. -/
def regsBYP0 : List RegD := [BYP_CTRL_enable, BYP_CFG_quiet_ns, BYP_CFG_lead_us, BYP_CMD_op, BYP_CMD_ARG_fibre_a, BYP_CMD_ARG_fibre_b, BYP_CMD_ARG_set, BYP_CMD_ARG_duplex, BYP_CMD_SEC_sec, BYP_CMD_NS_ns, BYP_CMD_NS_half, BYP_CMD_STAT_busy, BYP_CMD_STAT_status, BYP_CMD_STAT_reason, BYP_CMD_STAT_notice_id, BYP_SET_DONE_count, BYP_CLEAR_DONE_count, BYP_REJECT_count, BYP_REQUEUE_count, BYP_UNACKED_count, BYP_MISSED_count, BYP_NOTICE_TX_count, BYP_NOTICE_RX_count, BYP_PARITY_count, BYP_PERMIT_outputs, BYP_CIRCUIT_output, BYP_CIRCUIT_valid, BYP_CIRCUIT_pending, BYP_CIRCUIT_pending_set, BYP_FIBRE_state, BYP_INPOW_power]
/-- The fields of block BYP. -/
def regsBYP : List RegD := regsBYP0
/-- Fields of DTM, part 0. -/
def regsDTM0 : List RegD := [DTM_CTRL_beacon_en, DTM_CTRL_check_en, DTM_CFG_beacon_us, DTM_CFG_grace_us, DTM_CFG_loss_n, DTM_EPOCH_cur, DTM_EPOCH_next, DTM_STAGED_groups, DTM_CMD_op, DTM_CMD_ARG_groups, DTM_CMD_ARG_slice, DTM_CMD_STAT_busy, DTM_CMD_STAT_status, DTM_CMD_STAT_reason, DTM_COMMIT_LAST_groups, DTM_COMMIT_LAST_reason, DTM_COMMIT_LAST_by_cairn, DTM_COMMIT_LAST_valid, DTM_COMMIT_LAST_slice, DTM_MODULE_LO_datum_lo, DTM_MODULE_HI_datum_hi, DTM_EXPECT_lo, DTM_EXPECT_hi, DTM_EXPECT_NEXT_lo, DTM_EXPECT_NEXT_hi, DTM_EXPECT_CTRL_valid, DTM_MISMATCH_STATE_kinds, DTM_MISMATCH_LOC_kind, DTM_MISMATCH_LOC_fibre, DTM_MISMATCH_LOC_slice, DTM_MISMATCH_LOC_valid, DTM_LOG_BASE_base, DTM_LOG_CTRL_enable, DTM_LOG_CTRL_size_log, DTM_LOG_CTRL_head, DTM_RECOMPUTE_LOC_module, DTM_RECOMPUTE_LOC_slice, DTM_RECOMPUTE_LOC_valid, DTM_COMMITS_count, DTM_COMMIT_REJECT_count]
/-- Fields of DTM, part 1. -/
def regsDTM1 : List RegD := [DTM_SELF_MISMATCH_count, DTM_SLICE_MISMATCH_count, DTM_NBR_MISMATCH_count, DTM_EPOCH_MISMATCH_count, DTM_BEACON_TX_count, DTM_BEACON_RX_count, DTM_BEACON_LOSS_count, DTM_LOG_OVERRUN_count, DTM_PURGE_DROP_count, DTM_RECOMPUTE_DIFF_count, DTM_PARITY_count, DTM_TCMD_op, DTM_TCMD_table, DTM_TSTAT_busy, DTM_TSTAT_status, DTM_TKEY_slice, DTM_TDATA_data, DTM_NBR_epoch, DTM_NBR_slice, DTM_NBR_time, DTM_NBR_datum_lo, DTM_NBR_datum_hi, DTM_NBR_sdatum_lo, DTM_NBR_sdatum_hi]
/-- The fields of block DTM. -/
def regsDTM : List RegD := regsDTM0 ++ regsDTM1
/-- Fields of MEM, part 0. -/
def regsMEM0 : List RegD := [MEM_STATUS_trained, MEM_STATUS_sref, MEM_STATUS_train_code, MEM_CE_CFG_storm_n, MEM_CE_count, MEM_UE_count, MEM_POISON_READ_count, MEM_CE_LOC_addr, MEM_CE_LOC_syndrome, MEM_CE_LOC_valid, MEM_UE_LOC_addr, MEM_UE_LOC_syndrome, MEM_UE_LOC_valid, MEM_SCRUB_FIX_count, MEM_PART_BASE_base, MEM_PART_SIZE_size, MEM_ARB_ledger, MEM_ARB_retain, MEM_ARB_spill, MEM_ARB_host, MEM_ARB_system, MEM_SCRUB_CFG_enable, MEM_SCRUB_CFG_period_h, MEM_SCRUB_STAT_running, MEM_SCRUB_STAT_pass_count, MEM_CMD_op, MEM_CMD_ADDR_addr, MEM_CMD_LEN_len, MEM_CMD_STAT_busy, MEM_CMD_STAT_status, MEM_SELFTEST_ctrl, MEM_SELFTEST_pbuf, MEM_SELFTEST_stage, MEM_SELFTEST_tally, MEM_SELFTEST_serai, MEM_SELFTEST_parity, MEM_ONDIE_CE_count, MEM_ONDIE_UE_count, MEM_RANGE_ERR_count, MEM_POISON_LIST_entries]
/-- Fields of MEM, part 1. -/
def regsMEM1 : List RegD := [MEM_POISON_LIST_overflow, MEM_GRAN_FILL_count]
/-- The fields of block MEM. -/
def regsMEM : List RegD := regsMEM0 ++ regsMEM1
/-- Fields of TLY, part 0. -/
def regsTLY0 : List RegD := [TLY_CE_count, TLY_UE_count, TLY_LOC_lcore, TLY_LOC_granule, TLY_LOC_index, TLY_LOC_word, TLY_LOC_valid, TLY_CLAIM_granules]
/-- The fields of block TLY. -/
def regsTLY : List RegD := regsTLY0
/-- Fields of PAGE, part 0. -/
def regsPAGE0 : List RegD := [PAGE_ID_code, PAGE_ID_instance, PAGE_ID_index, PAGE_ID_version, PAGE_ID_stepping, PAGE_CLKEN_en, PAGE_STATUS_ready, PAGE_STATUS_err_sum, PAGE_STATUS_gated, PAGE_IRQ_STATUS_bits, PAGE_IRQ_MASK_mask, PAGE_PWR_req, PAGE_PWR_state, PAGE_CYCLES_cycles, PAGE_CNT_count, PAGE_EVSEL0_sel0, PAGE_EVSEL0_sel1, PAGE_EVSEL0_sel2, PAGE_EVSEL0_sel3, PAGE_EVSEL1_sel4, PAGE_EVSEL1_sel5, PAGE_EVSEL1_sel6, PAGE_EVSEL1_sel7, PAGE_CNT_CTRL_en, PAGE_CNT_CTRL_chain, PAGE_CNT_CTRL_ovf_irq, PAGE_CNT_CTRL_clear, PAGE_CNT_OVF_ovf]
/-- The fields of block PAGE. -/
def regsPAGE : List RegD := regsPAGE0
/-- Fields of RQ, part 0. -/
def regsRQ0 : List RegD := [HIF_RQ_BASE_base, HIF_RQ_CFG_enable, HIF_RQ_CFG_size_log, HIF_RQ_CFG_prio, HIF_RQ_CFG_irq_en, HIF_RQ_TAIL_tail, HIF_RQ_HEAD_head, HIF_RQ_STAT_running, HIF_RQ_STAT_last_result, HIF_RQ_STAT_last_index, HIF_RQ_STAT_done_count, HIF_RQ_CMD_reset]
/-- The fields of block RQ. -/
def regsRQ : List RegD := regsRQ0
/-- Fields of HIF, part 0. -/
def regsHIF0 : List RegD := [HIF_LINK_width, HIF_LINK_rate, HIF_LINK_flit, HIF_ACCESS_LOC_page, HIF_ACCESS_LOC_offset, HIF_ACCESS_LOC_write, HIF_ACCESS_LOC_cause, HIF_ACCESS_LOC_valid, HIF_ACCESS_ERR_count, HIF_CMD_CFG_poll_ms, HIF_CMD_CFG_ib_prio, HIF_HP_CFG_enable, HIF_HP_CFG_rx_wait_us, HIF_HP_TX_DROP_count, HIF_HP_RX_DROP_count, HIF_CMD_ERR_count, HIF_DMA_HOST_addr, HIF_DMA_DEV_addr, HIF_DMA_LEN_len, HIF_DMA_CTRL_go, HIF_DMA_CTRL_dir, HIF_DMA_CTRL_busy, HIF_DMA_CTRL_status]
/-- The fields of block HIF. -/
def regsHIF : List RegD := regsHIF0
/-- Fields of SEC, part 0. -/
def regsSEC0 : List RegD := [SEC_BOOT_STATUS_slot, SEC_BOOT_STATUS_booted, SEC_BOOT_STATUS_code, SEC_BOOT_STATUS_security_ver, SEC_FW_DIGEST_digest, SEC_MIN_fw_min, SEC_MIN_kernel_min, SEC_CMD_op, SEC_CMD_ARG_arg, SEC_CMD_ADDR_addr, SEC_CMD_STAT_busy, SEC_CMD_STAT_status, SEC_CMD_STAT_reason, SEC_CMD_STAT_bytes, SEC_IB_CTRL_enable, SEC_IB_CTRL_max_sessions, SEC_IB_CTRL_idle_s, SEC_IB_PAGEMASK_pages, SEC_SESS_open, SEC_AUTH_FAIL_count, SEC_TAG_BAD_count, SEC_REPLAY_count, SEC_IB_DENY_count, SEC_ANCHOR_hash]
/-- The fields of block SEC. -/
def regsSEC : List RegD := regsSEC0
/-- Fields of CLK, part 0. -/
def regsCLK0 : List RegD := [CLK_CTRL_trim_en, CLK_CTRL_flock, CLK_STATUS_ref_ok, CLK_STATUS_core_lock, CLK_STATUS_mem_lock, CLK_STATUS_opt_lock, CLK_STATUS_flock_active, CLK_STATUS_flock_hold, CLK_TRIM_trim_ppb, CLK_FLOCK_line, CLK_DIV_rbus_div, CLK_DIV_tbus_div, CLK_CMD_apply, CLK_OBS_enable, CLK_OBS_sel, CLK_OBS_div_n, CLK_OBS_status, CLK_STRAP_lockdly, CLK_LOCK_LOSS_count, CLK_FLOCK_HOLD_count]
/-- The fields of block CLK. -/
def regsCLK : List RegD := regsCLK0
/-- Fields of PWR, part 0. -/
def regsPWR0 : List RegD := [PWR_CTRL_auto_depth, PWR_IDLE_CFG_lane_deep_min_us, PWR_IDLE_CFG_lane_lead_us, PWR_IDLE_CFG_serai_deep_min_us, PWR_IDLE_CFG_serai_lead_us, PWR_IDLE_CFG2_serai_hold_ns, PWR_START_step, PWR_START_ready, PWR_START_failed, PWR_START_fail_page, PWR_START_fail_code, PWR_START_elapsed_ms, PWR_TJ_tj_max, PWR_TJ_sensor, PWR_TEMP_CFG_warn_c, PWR_VIN_mv, PWR_VIN_current, PWR_VIN_watts, PWR_CMD_op, PWR_CMD_STAT_busy, PWR_CMD_STAT_status, PWR_CMD_STAT_reason, PWR_REFUSE_LOC_page, PWR_REFUSE_LOC_req, PWR_REFUSE_LOC_reason, PWR_REFUSE_LOC_valid, PWR_REFUSE_CNT_count, PWR_WAKE_CNT_count, PWR_DEEP_CNT_count, PWR_SREF_ACCESS_count, PWR_FIBRE_idle, PWR_FIBRE_state]
/-- The fields of block PWR. -/
def regsPWR : List RegD := regsPWR0
/-- Fields of PMC, part 0. -/
def regsPMC0 : List RegD := [PMC_CYCLES_cycles, PMC_CMD_clear_all, PMC_USER_READ_pages, PMC_OVF_SUM_pages]
/-- The fields of block PMC. -/
def regsPMC : List RegD := regsPMC0
/-- Fields of TEL, part 0. -/
def regsTEL0 : List RegD := [TEL_CTRL_enable, TEL_CTRL_auto, TEL_CTRL_age_en, TEL_CFG_interval_ns, TEL_CFG_shift, TEL_RING_BASE_base, TEL_RING_CFG_size_log, TEL_RING_HEAD_head, TEL_RING_TAIL_tail, TEL_SNAPS_count, TEL_RING_DROP_count, TEL_AGE_NEG_count, TEL_AGE_HIST_count]
/-- The fields of block TEL. -/
def regsTEL : List RegD := regsTEL0

/-- The block's fields of an assigned page (R432), of a BAR2 ring page (R436), or none. -/
def pageRegs (p : Nat) : List RegD :=
  if p = 0 then regsHIF else
  if p = 1 then regsSEC else
  if p = 2 then regsCLK else
  if p = 3 then regsPWR else
  if p = 4 then regsTIM else
  if p = 5 then regsCRN else
  if p = 6 then regsDTM else
  if p = 7 then regsTRV else
  if p = 8 then regsBYP else
  if p = 9 then regsXBR else
  if p = 10 then regsBPM else
  if p = 11 then regsQSH else
  if p = 12 then regsSRG else
  if p = 13 then regsTLY else
  if p = 14 then regsLDG else
  if p = 15 then regsPMC else
  if p = 16 then regsTEL else
  if 0x20 ≤ p ∧ p ≤ 0x2B then regsMEM else
  if 0x30 ≤ p ∧ p ≤ 0x37 then regsOPX else
  if 0x38 ≤ p ∧ p ≤ 0x3F then regsLNK else
  if 0x40 ≤ p ∧ p ≤ 0x4F then regsFWD else
  if 0x80 ≤ p ∧ p ≤ 0xC3 then regsSRI else
  if 256 ≤ p ∧ p < 288 then regsRQ else []

/-- First page of the block a page belongs to: the page of instance 0 (R432). -/
def blockPage (p : Nat) : Nat :=
  if p ≤ 0x10 then p else
  if 0x20 ≤ p ∧ p ≤ 0x2B then 0x20 else
  if 0x30 ≤ p ∧ p ≤ 0x37 then 0x30 else
  if 0x38 ≤ p ∧ p ≤ 0x3F then 0x38 else
  if 0x40 ≤ p ∧ p ≤ 0x4F then 0x40 else
  if 0x80 ≤ p ∧ p ≤ 0xC3 then 0x80 else
  if 256 ≤ p ∧ p < 288 then 256 else p

/-- The page is assigned (R432). -/
def pageAssigned (p : Nat) : Bool :=
  p ≤ 0x10 || (0x20 ≤ p && p ≤ 0x2B) || (0x30 ≤ p && p ≤ 0x3F) || (0x40 ≤ p && p ≤ 0x4F) || (0x80 ≤ p && p ≤ 0xC3)

/-- Key of a field's element in the register store: page, offset, low bit. -/
def RegD.key (d : RegD) (n i j : Nat) : Nat := ((d.page + n) * 65536 + d.base + d.stride * i + d.stride2 * j) * 64 + d.lo

/-- Reset value of a field's element (R13). -/
def RegD.reset (d : RegD) (i : Nat) : Nat := if d.rsts.isEmpty then d.rst else d.rsts.getD i 0

end Sys2Proof.Machine
end

