-- ==== Sys2Proof/Machine/State.lean ====
section
/-! DEFINITION. The state of the module as plain data, the reasons a step can stop, and the state after reset. -/

namespace Sys2Proof.Machine

/-- Why a step stops with a fault. -/
inductive Fault where
  /-- A register or table access is made while the clock dividers in force break a limit of R464: the spec calls its value unspecified. Raised by every host access. Safe: the hardware does something, the model claims nothing. -/
  | busUnspecified
deriving DecidableEq, Repr

/-- Why a step refuses a command. -/
inductive Refusal where
  /-- The command has no meaning in the model yet. Raised by the dispatcher alone. Safe. -/
  | notModelled (mnemonic : String)
deriving DecidableEq, Repr

/-- What leaves the module, in the order in which it leaves: the codewords of its lanes as PAM4 levels (R325), each with its lane (fibre × 16 + lane line) and line of light, MSI-X messages, writes into host memory, levels on pins. -/
inductive Out where
  | codeword (lane line : Nat) (levels : List Nat)
  | msix (vector addr data : Nat)
  | hostWr (addr : Nat) (bytes : List Byte) (poison : Bool)
  | readData (v : Nat)
  | abortRead (page off : Nat)
  | memData (line : Nat) (bytes : List Byte) (poison : Bool)
  | tpo (pin : Nat) (active : Bool)
  | fwInt (code : Nat)
  | mailbox (bytes : List Byte)
  | poisonList (lines : List Nat)
  | pmbus (v : Nat)
  | tdo (v : Nat)
deriving DecidableEq, Repr

/-- A PTP port (R33, R38, R39): the accepted exchanges of the running average, newest first, each as twice the mean link delay in 2^-16 ns; the Pdelay_Reqs outstanding, youngest first (send time in 2^-16 ns, core cycle and sequenceId); the core cycles of the last messages sent; the next sequenceId of each kind. -/
structure PtpPort where
  hist : List Int := []
  reqs : List (Int × Nat × Nat) := []
  pdelayAt : Option Nat := none
  syncAt : Option Nat := none
  announceAt : Option Nat := none
  syncSeq : Nat := 0
  pdelaySeq : Nat := 0
  announceSeq : Nat := 0
deriving DecidableEq, Repr

/-- Fabric time outside its registers: the servo's count of good Syncs, the syntonised rate of R41, the cycle of the last Sync, the grandmaster identity and clockClass of the last Announce, ports by fibre, the cycle in which CLKOBS took the ball it shares with TPO3 (R46), the level of each TPO pin and the cycle its width ends, the capture FIFOs (edge, seconds, nanoseconds with fraction) and the cycle each hold-off ends. -/
structure TimSt where
  good : Nat := 0
  synRate : Int := 0
  lastSync : Nat := 0
  gm : Option (Nat × Nat) := none
  obsAt : Option Nat := none
  ports : SMap PtpPort := []
  tpoEnd : List (Option Nat) := [none, none, none, none]
  fifo : List (List (Bool × Nat × Nat)) := [[], []]
  holdEnd : List (Option Nat) := [none, none]
deriving DecidableEq, Repr

/-- A cairn unit outside its registers: the cycle its arm takes effect, whether it is judged, and the number of instants fired or skipped since the arm. -/
structure CairnU where
  effAt : Nat := 0
  judged : Bool := false
  k : Nat := 0
deriving DecidableEq, Repr

/-- A scheduled effect of a firing (R51): the unit, its class and argument at the firing, the core cycle of the effect, and whether it was fired by the stepping edge of a forward step (R58). -/
structure CrnEff where
  unit : Nat
  cls : Nat
  arg : Nat
  due : Nat
  stepped : Bool := false
deriving DecidableEq, Repr

/-- An action the module schedules for itself on a firmware unit (R59): class, argument, lead time in clock units and period (half nanoseconds, 0 for one firing). -/
structure FwAction where
  cls : Nat
  arg : Nat
  lead : Nat
  period : Nat := 0
  count : Nat := 1
deriving DecidableEq, Repr

/-- Where a packet goes when it has crossed the crossbar: a logical port's egress queues, a Serai logical core, the host path, or the launch-broadcast function (R93, R102). -/
inductive Dest where
  | lp (n : Nat)
  | serai (core : Nat)
  | host
  | bcast
deriving DecidableEq, Repr

/-- Where a packet is held: in its virtual output queue (R128), in resequencing at its output (R132), fenced at its output (R134), on an egress queue of R144, in a queue's spill chain (R153, with its buffer index and offset), or delivered to its local consumer and waiting for it. -/
inductive Loc where
  | voq
  | reseq
  | fence
  | queue
  | spill (buf off : Nat)
  | local
deriving DecidableEq, Repr

/-- A packet the module holds: its number, the packet, the pipeline that received or originated it, its arrival port (none if the module sent it or it came by the host path) and virtual channel, destination, core ports, place in the order of R133, cells, cells handed to planes and the pair sequence number of the last one, whether it has passed egress admission (or, delivered, been taken by its consumer), whether it has begun a wait (R138), whether it has been counted as fitting no window (R152), its egress queue, the cycle it reached its place, its place, the hop_ptr and origin R271 restores, whether the module originated it, whether it answers a received packet (R114), the engine whose lost port gave it back (R271), its POOL_CELL buffers (R140), the 64-bit words of it found uncorrectable and not yet marked in its header (R127), the cycle it passed egress admission, whether the host sent it (R444). -/
structure Flight where
  id : Nat
  pkt : Pkt
  pipe : Nat
  arr : Option Nat := none
  vc : Nat := 0
  dest : Dest
  inCore : Nat
  outCore : Nat := 0
  order : Nat := 0
  cells : Nat
  handed : Nat := 0
  lastSeq : Nat := 0
  admitted : Bool := false
  waited : Bool := false
  noFit : Bool := false
  queue : Nat := 0
  since : Nat := 0
  loc : Loc := .voq
  hop0 : Nat := 0
  own : Bool := false
  ans : Bool := false
  reroute : Option Nat := none
  bufs : List Nat := []
  poison : List Nat := []
  admAt : Nat := 0
  byHost : Bool := false
deriving DecidableEq, Repr

/-- A cell lost on a plane (R132): its pair of core ports, pair sequence number and packet, and the cycle at which a later cell of the pair arrived. -/
structure MissCell where
  inp : Nat
  out : Nat
  seq : Nat
  flight : Nat
  later : Option Nat := none
deriving DecidableEq, Repr

/-- The crossbar: grant pointers by plane × 192 + output, accept pointers by plane × 192 + input (R129), next pair sequence numbers by input × 192 + output (R127), lost cells, and the cycle of the last cell time. -/
structure XbrSt where
  grant : SMap Nat := []
  accept : SMap Nat := []
  seq : SMap Nat := []
  miss : List MissCell := []
  at_ : Nat := 0
deriving DecidableEq, Repr

/-- A logical port's gate list in force (R150, R151): running since an accepted swap, its bank, entry and the fabric time (2^-48 ns) at which the entry ends. -/
structure Gate where
  running : Bool := false
  bank : Nat := 0
  entry : Nat := 0
  entryEnd : Nat := 0
  base : Nat := 0
deriving DecidableEq, Repr

/-- A policer's token counts in units of 1/16000 byte and the core cycle they were last brought up to date (R148). -/
structure Pol where
  tp : Nat := 0
  tc : Nat := 0
  at_ : Nat := 0
deriving DecidableEq, Repr

/-- Deficit round robin of one port and class group (R145): the queue last served and whether its quantum of this visit has been added. -/
structure Drr where
  cur : Nat := 0
  added : Bool := false
deriving DecidableEq, Repr

/-- A spill chain's buffer (R153): its index in POOL_SPILL, the bytes used, the packets still in it. -/
structure SpillBuf where
  buf : Nat
  used : Nat
  left : Nat
deriving DecidableEq, Repr

/-- Queues, shapers, policers and gates (R144 to R154): bucket levels in units of 1/1600 byte by queue, policers by slice × 8 + tc, gates by logical port, the loads QSH last published and the cycle of that refresh, deficits by queue, round robin by port × 8 + group, spill chains by queue, the cycle until which the spill rate is used up, the last shaper tick, and by logical port the class last sent and the fabric time at which its last byte goes. -/
structure QshSt where
  bucket : SMap Int := []
  pol : SMap Pol := []
  gate : SMap Gate := []
  load : SMap Nat := []
  loadAt : Nat := 0
  deficit : SMap Nat := []
  drr : SMap Drr := []
  chain : SMap (List SpillBuf) := []
  spillFree : Nat := 0
  tickAt : Nat := 0
  sendEnd : SMap (Nat × Nat) := []
deriving DecidableEq, Repr

/-- Buffer state by pool (R140, R142): the numbers of the allocated buffers, ascending, and of those freed in cycle `at_`. -/
structure PoolSt where
  used : SMap (List Nat) := []
  freed : SMap (List Nat) := []
  at_ : Nat := 0
deriving DecidableEq, Repr

/-- Forwarding outside registers and tables: each pipeline's generator state (R99), the cycle each slice's drain timer ends (R107), the cycle of each pipeline's last aging tick, the place of the shadow compare in its walk (R122). -/
structure FwdSt where
  gen : SMap Nat := []
  drainEnd : SMap Nat := []
  ageAt : SMap Nat := []
  walk : Nat := 0
deriving DecidableEq, Repr

/-- A link management frame waiting to be sent or passed on (R87): type, the logical port it names, its body's fields in the order of R89. -/
structure Lmf where
  typ : Nat
  port : Nat := 0
  body : List Nat := []
deriving DecidableEq, Repr

/-- A lane outside its registers: its rings hold lock, LANE_NOTICE rejoining sent and received (R335), frames in a row showing READY or SERVICE and the number of the last frame received, the LANE_NOTICE held (R346), the cycles at which it left service within the last second (R324), the cycle it became READY, and the port number its control codewords last carried (R331); the number of the next frame it sends and the codeword slot in which its last frame marker went (R325, R328), the cycle of the last frame marker received and the cycles of the uncorrectable codewords of the last millisecond (R337). -/
structure LaneSt where
  rings : Bool := true
  sentRej : Bool := false
  gotRej : Bool := false
  frames : Nat := 0
  lastFrame : Option Nat := none
  held : Option Nat := none
  flaps : List Nat := []
  readyAt : Nat := 0
  farPort : Option Nat := none
  fillEnd : Option Nat := none
  waking : Bool := false
  frame : Nat := 0
  markSlot : Option Nat := none
  markAt : Nat := 0
  ucw : List Nat := []
deriving DecidableEq, Repr

/-- A transmit hold window (R318, R341) or receive hold window (R319) of a fibre: its interval in clock units and the lanes it covers, the notice it comes from, and for a line migration received the lane that moves and whether its receiver has moved. -/
structure HoldWin where
  id : Nat := 0
  from_ : Nat
  until_ : Nat
  lanes : List Nat
  isOpen : Bool := false
  line : Option Nat := none
  moved : Bool := false
deriving DecidableEq, Repr

/-- A bypass notice accepted from a neighbour (R362): notice ID, instant C in clock units, whether the lanes have been taken out at C + d. -/
structure ByCut where
  id : Nat
  c : Nat
  done : Bool := false
deriving DecidableEq, Repr

/-- A fibre outside its registers: sequence of the next LMF sent, LMFs waiting (R330), next LMF sequence expected and LMFs held for it with the cycle of arrival, probe number, cycles of the last probe sent and the last valid TRV_IDENT, whether any identity has been received, start of the absence timer (R344), hold windows in each direction, bypass notices accepted, the lane whose receiver stands on D16, whether the absence timer has run out with no identity since. -/
structure FibreSt where
  lmfSeq : Nat := 0
  wait : List Lmf := []
  rxExp : Option Nat := none
  rxHeld : List (LmfSlot × Nat) := []
  probeNo : Nat := 0
  probeAt : Option Nat := none
  identAt : Option Nat := none
  timer : Option Nat := none
  txHold : List HoldWin := []
  rxHold : List HoldWin := []
  ident : Bool := false
  cuts : List ByCut := []
  rxSpare : Option Nat := none
  gone : Bool := false
deriving DecidableEq, Repr

/-- A packet the sender keeps until it is acknowledged (R333): retry sequence, virtual channel, and the packet's record, for a re-route (R271). -/
structure HeldPkt where
  seq : Nat
  vc : Nat
  fl : Flight
deriving DecidableEq, Repr

/-- A block in a lane's retry bank (R334): number, lane, retry sequences of the first and last packet with a word in it. -/
structure Blk where
  no : Nat
  lane : Nat
  first : Nat
  last : Nat
deriving DecidableEq, Repr

/-- The sending side of a logical port (R331 to R336): up, next retry sequence, the sequence of the packet whose bytes go next and how many of them have gone, whether the next block begins a replay, the number of the next block, packets held oldest first, blocks in the retry banks with their lanes, the cycle of the last acknowledgement advance or of the oldest packet, replays in a row, credits consumed and cumulative counts received by virtual channel. -/
structure PortTx where
  up : Bool := false
  seq : Nat := 0
  cur : Nat := 0
  off : Nat := 0
  restart : Bool := false
  block : Nat := 0
  held : List HeldPkt := []
  blocks : List Blk := []
  ackAt : Nat := 0
  replays : Nat := 0
  used : List Nat := List.replicate 16 0
  count : List Nat := List.replicate 16 0
deriving DecidableEq, Repr

/-- A data block received and not yet taken in its order (R327, R329): block number, kind, index of the first word that begins a packet, bytes, lane, cycle of arrival, and for a replay start the retry sequence it begins with. -/
structure RxBlk where
  no : Nat
  kind : Nat
  start : Nat
  data : List Byte
  lane : Nat
  at_ : Nat
  seq : Nat
deriving DecidableEq, Repr

/-- The receiving side of a logical port: blocks that wait for earlier ones, the number of the next block, the bytes of the stream not yet taken as packets and the lanes they came on with their counts, the retry sequence of the next packet in it, next retry sequence to accept, the cycle of the RETRY_REQ whose replay it waits for, the highest sequence acknowledged and when, cumulative credit counts by virtual channel, cells granted beyond the reserve, freed cells withheld, counts last sent and when. -/
structure PortRx where
  blks : List RxBlk := []
  next : Nat := 0
  buf : List Byte := []
  from_ : List (Nat × Nat) := []
  seq : Nat := 0
  expect : Nat := 0
  req : Option Nat := none
  acked : Option Nat := none
  ackAt : Nat := 0
  advAt : Option Nat := none
  count : List Nat := List.replicate 16 0
  grant : List Nat := List.replicate 16 0
  withheld : List Nat := List.replicate 16 0
  recv : List Nat := List.replicate 16 0
  sent : List Nat := List.replicate 16 0
  sentAt : Nat := 0
deriving DecidableEq, Repr

/-- The links: lanes by fibre × 16 + lane line, fibres, both sides of every logical port, packets of ports that went down which wait for buffer to be routed again (R272). -/
structure LinkSt where
  lanes : SMap LaneSt := []
  fibres : SMap FibreSt := []
  tx : SMap PortTx := []
  rx : SMap PortRx := []
  rer : List Flight := []
deriving DecidableEq, Repr

/-- The three partial sums of a slice datum (R378): unbanked words, bank 0, bank 1. -/
structure SliceSum where
  u : Nat := 0
  b0 : Nat := 0
  b1 : Nat := 0
deriving DecidableEq, Repr

/-- A check of R384 in progress: kind, subject (slice or fibre), whether the last counting check differed, whether the mismatch is raised. -/
structure Check where
  kind : Nat
  subj : Nat
  differed : Bool
  raised : Bool
deriving DecidableEq, Repr

/-- Datums and slices outside registers and tables: the module datum, the sums of each slice, the cycles at which the epoch grace of the module and of each slice end, checks, the slice last carried by a beacon, the cycle of the last beacon interval, intervals without a beacon by fibre, entries written to the beacon log, a RECOMPUTE in progress. -/
structure DtmSt where
  module : Nat := 0
  sums : SMap SliceSum := []
  grace : Nat := 0
  sgrace : SMap Nat := []
  checks : List Check := []
  beaconSlice : Nat := 0
  beaconAt : Option Nat := none
  silent : SMap Nat := []
  logged : Nat := 0
  walking : Bool := false
deriving DecidableEq, Repr

/-- An announced optical change (R315 to R318): kind (0 comb changeover, 1 line migration), engine, comb pair, fibre, from and to comb, lane line, instant C in clock units, notice ID, whether the module made it, whether its effect has begun, notices sent and the cycle of the last by fibre. -/
structure OptChg where
  kind : Nat
  eng : Nat
  pair : Nat := 0
  fibre : Nat := 0
  from_ : Nat := 0
  to_ : Nat := 0
  line : Nat := 0
  c : Nat
  id : Nat
  byFw : Bool := false
  begun : Bool := false
  sent : SMap Nat := []
  sentAt : SMap Nat := []
deriving DecidableEq, Repr

/-- A ring outside its registers (R303 to R308, R321): heater code, calibration offset, order, lock state (0 LOCKED, 1 ACQUIRING, 2 LOST, 3 PARKED), headroom up and down, whether it reached an OUT entry, whether it is being swept in its turn; the headroom the last sweep left, and the temperature at that sweep in 1/16 °C. -/
structure Ring where
  heater : Nat := 0
  offset : Nat := 0
  order : Nat := 0
  lock : Nat := 0
  up : Nat := 0
  down : Nat := 0
  out : Bool := false
  sweep : Bool := false
  up0 : Nat := 0
  down0 : Nat := 0
  temp0 : Int := 0
deriving DecidableEq, Repr

/-- A comb's or line's fade (R311): thresholds reached, and those at or below which, and those above whose clearing margin, the last evaluation lay, as masks with WARN, PLAN, FORCE, OUT at bits 0 to 3. -/
structure Fade where
  reached : Nat := 0
  low : Nat := 0
  high : Nat := 0
deriving DecidableEq, Repr

/-- The optical engines outside their registers: announced changes, the next notice ID, rings by engine × 272 + ring, baselines by engine × 85 + tap in 2^-24 mW, fades by engine × 90 + tap or 85 + comb, the cycle at which a comb's relock attempt ends by engine × 8 + comb, integrations asked for by engine (tap, length, start, none while the tap is busy), cycle of the last sweep, the last fade evaluation and the last heater update by engine, the rings swept in the present period by engine, and baselines being averaged by engine: the cycle they end, the powers, whether flash takes them. -/
structure OptSt where
  chgs : List OptChg := []
  nextId : Nat := 0
  rings : SMap Ring := []
  base : SMap Nat := []
  fades : SMap Fade := []
  relock : SMap Nat := []
  mon : SMap (Nat × Nat × Option Nat) := []
  sweepAt : SMap Nat := []
  fadeAt : SMap Nat := []
  heatAt : SMap Nat := []
  swept : SMap (List Nat) := []
  avg : SMap (Nat × List Nat × Bool) := []
deriving DecidableEq, Repr

/-- A bypass preparation (R356 to R364): fibres, set or clear, instant C in clock units, notice ID, firmware unit, whether the actions of its quiet point have run, the clock of that point, directions not yet matched and matched (input, output), notices sent and the cycle of the last by fibre. -/
structure BypPrep where
  a : Nat
  b : Nat
  isSet : Bool
  c : Nat
  id : Nat := 0
  unit : Option Nat := none
  quiet : Bool := false
  quietAt : Nat := 0
  todo : List (Nat × Nat)
  done : List (Nat × Nat) := []
  sent : SMap Nat := []
  sentAt : SMap Nat := []
deriving DecidableEq, Repr

/-- The bypass mesh outside its registers: the fibres whose ports take no new packets (R358), preparations, the next notice ID, inputs in a circuit whose last integration read low, the cycle of that integration (R366). -/
structure BypSt where
  barred : List Nat := []
  preps : List BypPrep := []
  nextId : Nat := 0
  low : List Nat := []
  powAt : Option Nat := none
deriving DecidableEq, Repr

/-- The module's pins and supply (R468, R480 to R484, R503, R509, R510): READY, THERM_TRIP_N asserted, PWR_GOOD, PERST_N asserted; the reference lost; the last reading of VIN36 lay out of range; that reading as millivolts, 10 mA units, watts and the hottest power-stage sensor; the state of the test access port, 0 to 15 in the order Test-Logic-Reset, Run-Test/Idle, then the data column, then the instruction column. -/
structure PinSt where
  ready : Bool := false
  trip : Bool := false
  pwrGood : Bool := true
  perst : Bool := false
  refLost : Bool := false
  vinOut : Bool := false
  vin : List Nat := [0, 0, 0, 0]
  tap : Nat := 0
deriving DecidableEq, Repr

/-- Power outside its registers (R469 to R476): fibres, Serai cores and engines waking, the cores of them that wake for work or an ON request, the last cycle in which a core had something in its queues, power requests held to the end of an optical change (page, request), the cycle the fine trim last changed (R465), the cycles of the last readings of the junction sensors and of the power stage (R479, R481). -/
structure PwrSt where
  wakeF : List Nat := []
  wakeC : List Nat := []
  wakeE : List Nat := []
  demand : List Nat := []
  busyAt : SMap Nat := []
  held : List (Nat × Nat) := []
  trimAt : Nat := 0
  tempAt : Option Nat := none
  vinAt : Option Nat := none
deriving DecidableEq, Repr

/-- GDDR7 and its scrubber: data bytes of valid granules (an unlisted byte is 0), nonzero syndromes by word number (stored check against the check of the stored data, R404), the valid granules in ascending order (R413), the poison list, oldest first, each line with the mask of its words written good since it entered (R412), correctable errors of the last second by device (R405) and the cycle of the device's last storm, the scrubber's next block and the cycle its last pass began (R406), the granules among the valid ones that only a double-bit error in the bitmap makes so, and their words written since (R413). -/
structure MemSt where
  data : List Host.Cell := []
  synd : SMap Nat := []
  valid : List Nat := []
  poison : List (Nat × Nat) := []
  ce : SMap (List Nat) := []
  storm : SMap Nat := []
  scrub : Nat := 0
  passAt : Option Nat := none
  loose : List Nat := []
  known : List Nat := []
deriving DecidableEq, Repr

/-- An accumulator (R194): X, kept as the true sum without bound (R195), and the state bits SEEN, NAN, PINF, NINF, NZ, UFX, PSN from bit 0 up. -/
structure Accum where
  x : Int := 0
  st : Nat := 0
deriving DecidableEq, Repr

/-- A stream of accumulation (R201, R202): the status word and the lowest element index of each of its seven classes. -/
structure Stm where
  status : Nat := 0
  idx : List Nat := List.replicate 7 0
deriving DecidableEq, Repr

/-- A result piece in staging: the raw element fields written, the block scales of an MX format, the poison map. Elements never written are zero (R230). -/
structure Piece where
  p : Nat
  el : SMap Nat := []
  sc : SMap Nat := []
  poison : Nat := 0
deriving DecidableEq, Repr

/-- A piece copied into POOL_STAGE for a context without tally (R213). -/
structure HeldPiece where
  member : Nat
  piece : Nat
  fmt : Nat
  pkt : Pkt
deriving DecidableEq, Repr

/-- A chunk context or its record (R169): slot (none once given up), generation, state and abort reason of R185, open time in clock units, the context settings it opened under, contributors, arrival entries claimed (R171), member and piece entries (R172), tally, stream, persistent words with their tags at bit 64, the poison flag, the POOL_STAGE buffers held by use, copies of pieces, pieces whose ON_ARRIVE has not ended, the phase of its invocations (0 before ON_COMPLETE, 1 in it, 2 waiting for the norm, 3 in ON_NORM, 4 emitting, 5 all emitted) and the cycle it reached it, the NRMS of ON_COMPLETE, speculative and released pieces, the next result piece, pieces sent, the retained copy (buffer, offset), the poison maps of its result pieces, the last attempt by member × 64 + piece, the pieces handed to the crossbar as a bit map by member (R275), the bits of marked pieces as sent (R280), held NAKs, the 24 pend entries (R275), the clock at which it was RETAINED and that at which it became COMPLETE (R178), the group size and, where only one member contributes or receives, that member (R163), and whether an accepted flip released it (R263). -/
structure Chunk where
  ctx : Nat
  chunk : Nat
  lcore : Nat
  slot : Option Nat := none
  gen : Nat := 0
  state : Nat := 1
  reason : Nat := 0
  openAt : Nat := 0
  openCyc : Nat := 0
  slice : Nat := 0
  operation : Nat := 0
  op : Nat := 0
  fmt : Nat := 0
  retention : Nat := 0
  ledger : Nat := 0
  elems : Nat := 1024
  step : Nat := 0
  granules : Nat := 0
  owes : Nat := 0
  entries : Nat := 0
  mem : SMap Nat := []
  pcs : SMap Nat := []
  doneAt : SMap Nat := []
  lastM : Nat := 0
  acc : SMap Accum := []
  stm : Stm := {}
  persist : List Nat := [0, 0, 0, 0]
  poison : Bool := false
  straggled : Bool := false
  spec : List Nat := []
  emit : List Nat := []
  other : List Nat := []
  copies : List HeldPiece := []
  arriving : Nat := 0
  phase : Nat := 0
  stamp : Nat := 0
  nrms : Option Accum := none
  specP : List Piece := []
  relP : List Piece := []
  next : Nat := 0
  sent : Nat := 0
  ret : Option (Nat × Nat) := none
  pm : List Nat := []
  att : SMap Nat := []
  got : SMap Nat := []
  kept : SMap (List Byte) := []
  naks : List Flight := []
  pend : List (Option Nat) := []
  retAt : Nat := 0
  compAt : Nat := 0
  group : Nat := 0
  fromOne : Option Nat := none
  toOne : Option Nat := none
  flipped : Bool := false
deriving DecidableEq, Repr

/-- An entry of AQ (R212): a counted piece waiting for its ON_ARRIVE, with the packet it came in. -/
structure AqEnt where
  ctx : Nat
  chunk : Nat
  gen : Nat
  member : Nat
  piece : Nat
  fmt : Nat
  pkt : Pkt
  flight : Option Nat
deriving DecidableEq, Repr

/-- An entry of EQ (R212): a staged result piece and the recipients already served. -/
structure EqEnt where
  ctx : Nat
  chunk : Nat
  gen : Nat
  piece : Piece
  sent : Nat := 0
deriving DecidableEq, Repr

/-- An entry of SQ (R212): the words of one STL as byte address, value and poison, of invocation `inv`. -/
structure SqEnt where
  ctx : Nat
  chunk : Nat
  gen : Nat
  inv : Nat
  ledger : Nat
  words : List (Nat × Nat × Bool)
deriving DecidableEq, Repr

/-- A ledger line in the fetch buffer, or a request for one (R214): first byte address, bank read from, its words once fetched; `want` marks a demand of a stalled LDL. -/
structure LdgLine where
  ctx : Nat
  chunk : Nat
  gen : Nat
  ledger : Nat
  bank : Nat
  addr : Nat
  n : Nat
  want : Bool := false
  words : List (Nat × Bool) := []
deriving DecidableEq, Repr

/-- A kernel accumulator with its stream (R211). -/
structure KAcc where
  acc : Accum := {}
  stm : Stm := {}
deriving DecidableEq, Repr

/-- An invocation (R221, R222): chunk, entry (0 ON_ARRIVE, 1 ON_COMPLETE, 2 ON_NORM, 3 ON_EMIT), instruction index, kernel, start cycle, number, the piece, and the registers: lanes by register × 128 + lane with the tag at bit 32, scalars with the tag at bit 64, predicates, kernel accumulators, FPS; the result piece being written. -/
structure Inv where
  ctx : Nat
  chunk : Nat
  gen : Nat
  entry : Nat
  pc : Nat
  kernel : Nat
  start : Nat
  id : Nat
  arrive : Option AqEnt := none
  piece : Nat := 0
  fmt : Nat := 0
  first : Nat := 0
  count : Nat := 0
  v : SMap Nat := []
  x : SMap Nat := []
  k : SMap Nat := []
  ka : SMap KAcc := []
  fps : Nat := 0
  cur : Option Piece := none
  normed : Bool := false
deriving DecidableEq, Repr

/-- A physical core outside its registers (R209, R212): running invocation, AQ, SQ, EQ, fetch buffer, requests for lines in order, kernels in instruction memory least recently used first, the cycle at which a full EQ last had an entry free (R221). -/
structure SCore where
  inv : Option Inv := none
  aq : List AqEnt := []
  sq : List SqEnt := []
  eq : List EqEnt := []
  lines : List LdgLine := []
  reqs : List LdgLine := []
  imem : List Nat := []
  eqFree : Nat := 0
deriving DecidableEq, Repr

/-- A kernel in the kernel store (R217): index, first instruction slot, entry points, ops mask, version, code, and the SHAKE256 of its image (R451). -/
structure Kernel where
  idx : Nat
  base : Nat
  onArrive : Nat
  onComplete : Nat
  onNorm : Nat
  onEmit : Nat
  ops : Nat
  ver : Nat
  code : List Nat
  digest : List Byte := []
deriving DecidableEq, Repr

/-- A norm slot (R251): key, ledger, number among the 64 (R250), convoy, NRMS values by chunk, own and total, peer partials as EXP320 by member; state 0 PENDING, 1 OPEN, 2 OWN_DONE, 3 FINAL, 4 FAILED; the cycle it became OWN_DONE and of its last retry. -/
structure NormSlot where
  ctx : Nat
  step : Nat
  round : Nat
  ledger : Nat
  slot : Nat := 0
  slice : Nat := 0
  base : Nat := 0
  len : Nat := 0
  map : SMap Accum := []
  own : Accum := {}
  total : Accum := {}
  peers : SMap Nat := []
  state : Nat := 0
  since : Nat := 0
  retryAt : Nat := 0
deriving DecidableEq, Repr

/-- A norm partial to be sent to a peer: ledger, context, key, member, the cycle it is due, whether a NAK NO_RESOURCE asked for it (R141, R254). -/
structure NormSend where
  ledger : Nat
  ctx : Nat
  key : Nat
  member : Nat
  due : Nat
  asked : Bool
deriving DecidableEq, Repr

/-- A buffer of POOL_RETAIN in use (R180): index, context, bytes used, the chunks retained in it; `dir` marks a directory buffer. -/
structure RetBuf where
  buf : Nat
  ctx : Nat
  used : Nat := 0
  chunks : List Nat := []
  dir : Bool := false
deriving DecidableEq, Repr

/-- A broadcast table entry (R283 to R287): key, packet as it arrived, pipeline, whether it is OPEN, parents (none is the host path), children, answered, unreachable, the cycle of the last copy and of the close. -/
structure BcEnt where
  pkt : Pkt
  pipe : Nat
  isOpen : Bool
  parents : List (Option Nat)
  kids : Nat
  answered : Nat := 0
  dead : Nat := 0
  lastAt : Nat := 0
  closedAt : Nat := 0
deriving DecidableEq, Repr

/-- Serai outside its registers and tables: chunk contexts in order of opening, physical cores, slot generations by core × 128 + slot, kernels, the number of the next invocation, norm slots, NAK NO_RESOURCE answers due (ledger, round, member, cycle), attempts of partials by ledger × 65536 + round, covered blocks by ledger, retention buffers, NAKs waiting for a pend entry by arrival, broadcast entries in order of opening, fences in progress (logical core), broadcast copies that wait for buffer (packet, pipeline, child fibre or 64 for the host path) and reports that do (packet, pipeline). -/
structure SerSt where
  chunks : List Chunk := []
  cores : SMap SCore := []
  gens : SMap Nat := []
  kernels : List Kernel := []
  invs : Nat := 0
  norms : List NormSlot := []
  resend : List NormSend := []
  partAtt : SMap Nat := []
  cover : SMap (List Nat) := []
  rbufs : List RetBuf := []
  waiting : List Flight := []
  bcast : List BcEnt := []
  fencing : List Nat := []
  bcWait : List (Pkt × Nat × Nat) := []
  reports : List (Pkt × Nat) := []
deriving DecidableEq, Repr

/-- An in-band session (R453 to R456): ID, keys of the two directions, whether SESS_CONFIRM has come, the cycles of its opening and of its last valid message, the last counters received and sent. -/
structure Sess where
  id : Nat
  keyIn : List Byte
  keyOut : List Byte
  confirmed : Bool := false
  at_ : Nat
  last : Nat
  rx : Nat := 0
  tx : Nat := 0
deriving DecidableEq, Repr

/-- A message of several fragments arriving (R452): source, session, type, fragment count, fragments taken, the last one's counter, the body so far. -/
structure Frag where
  src : Nat
  sess : Nat
  typ : Nat
  cnt : Nat
  got : Nat
  ctr : Nat
  body : List Byte
deriving DecidableEq, Repr

/-- Security outside its registers: the kernel public key the running firmware names (R448, R450); in flash and the replay-protected region, which survive PERST_N, the slots' contents (none: as production left it), the boot slot, the minimums and the anchors' words (R447, R457); sessions in order of opening, messages arriving. -/
structure SecSt where
  kernelKey : List Byte := []
  slots : List (Option FwRead) := [none, none]
  boot : Nat := 0
  fwMin : Nat := 0
  kernelMin : Nat := 0
  anchors : List Nat := List.replicate 16 0
  sess : List Sess := []
  frags : List Frag := []
deriving DecidableEq, Repr

/-- A descriptor fetched and not yet taken, or in progress (R437): its 128 bytes, whether it was fetched poisoned, the in-band message it came in. -/
structure RingEnt where
  raw : List Byte
  poison : Bool := false
  msg : Option Nat := none
deriving DecidableEq, Repr

/-- A command ring (R437 to R443): descriptors fetched, oldest first, the one in progress, its index, whether its writes have been made, the cycle it was taken, the last value polled, whether a failure at the CXL link has stopped the ring, whether a reset waits for the one in progress. -/
structure HifRing where
  desc : List RingEnt := []
  run : Option RingEnt := none
  idx : Nat := 0
  wrote : Bool := false
  since : Nat := 0
  polled : Nat := 0
  stopped : Bool := false
  reset : Bool := false
deriving DecidableEq, Repr

/-- A MGMT_CMD whose descriptors have not all completed (R455): number, session, where its answer goes and the pipeline that received it, descriptors to come, the completed ones. -/
structure IbMsg where
  no : Nat
  sess : Nat
  dst : Nat
  slice : Nat
  pipe : Nat
  todo : Nat
  done : List Byte := []
deriving DecidableEq, Repr

/-- A DMA copy in progress (R446): host address, data-space address, bytes, direction (true: module to host). -/
structure DmaRun where
  host : Nat
  dev : Nat
  len : Nat
  toHost : Bool
deriving DecidableEq, Repr

/-- The host interface outside its registers: command rings by number (BAR2 page; 32 to 34 are IBQ0 to IBQ2), the ring last served in round robin, the core cycle in which a descriptor was last taken, in-band messages and the next one's number, DMA copies by channel. -/
structure HifSt where
  rings : SMap HifRing := []
  last : Nat := 0
  tookAt : Option Nat := none
  msgs : List IbMsg := []
  nextMsg : Nat := 0
  dma : SMap DmaRun := []
deriving DecidableEq, Repr

/-- Telemetry outside its registers: number of the next ring entry, entries dropped since the last map, the cycle of the last map, the firmware unit that takes periodic snapshots, and by page the event selects that still stand in the cycle of a write to them (R488, R496 to R498). -/
structure TelSt where
  entry : Nat := 0
  dropped : Nat := 0
  mapAt : Option Nat := none
  unit : Option Nat := none
  sel : SMap (Nat × List Nat) := []
deriving DecidableEq, Repr

/-- The whole state of the module. -/
structure State where
  pending : List Instr := []
  regs : SMap Nat := []
  stg : SMap Nat := []
  tbl : SMap Nat := []
  stgT : SMap Nat := []
  bad : List Nat := []
  fclk : Nat := 0
  cyc : Nat := 0
  free : Nat := 0
  out : List Out := []
  alive : Bool := true
  clkOn : Bool := false
  memSpace : Bool := false
  busMaster : Bool := false
  aborted : Bool := false
  noFirmware : Bool := false
  rbusDiv : Nat := 8
  tbusDiv : Nat := 4
  msix : SMap Nat := []
  pba : List Nat := []
  tim : TimSt := {}
  crn : SMap CairnU := []
  effs : List CrnEff := []
  fwq : List FwAction := []
  flights : List Flight := []
  nextId : Nat := 0
  xbr : XbrSt := {}
  qsh : QshSt := {}
  pool : PoolSt := {}
  fwd : FwdSt := {}
  link : LinkSt := {}
  dtm : DtmSt := {}
  opt : OptSt := {}
  byp : BypSt := {}
  pins : PinSt := {}
  pwr : PwrSt := {}
  mem : MemSt := {}
  tel : TelSt := {}
  ser : SerSt := {}
  secu : SecSt := {}
  hif : HifSt := {}
deriving DecidableEq, Repr

/-- The module right after PERST_N is released. -/
def State.reset : State := {}

end Sys2Proof.Machine
end

