-- ==== Sys2Proof/Machine/Ops.lean ====
section
/-! DEFINITION. The named operations every meaning is built from: sparse tables, register fields, counters, interrupts, free values, the clock, table words, host accesses. -/

namespace Sys2Proof

open Machine

/-- The value of key `k`, or `d` where none is listed. -/
def SMap.getD {α : Type} (d : α) (k : Nat) : SMap α → α
  | [] => d
  | (k', v) :: t => if k' = k then v else SMap.getD d k t

/-- The value of key `k`, if listed. -/
def SMap.get? {α : Type} (k : Nat) : SMap α → Option α
  | [] => none
  | (k', v) :: t => if k' = k then some v else SMap.get? k t

/-- Put (k, v) before the first entry whose key is not smaller. -/
def SMap.ins {α : Type} (k : Nat) (v : α) : SMap α → SMap α
  | [] => [(k, v)]
  | (k', v') :: t => if k < k' then (k, v) :: (k', v') :: t else (k', v') :: SMap.ins k v t

/-- Remove every entry of key `k`. -/
def SMap.del {α : Type} (k : Nat) : SMap α → SMap α
  | [] => []
  | (k', v') :: t => if k' = k then SMap.del k t else (k', v') :: SMap.del k t

/-- Give key `k` the value `v`; an entry equal to what an unlisted key reads as is not kept. -/
def SMap.set {α : Type} [DecidableEq α] (d : α) (k : Nat) (v : α) (m : SMap α) : SMap α :=
  if v = d then m.del k else (m.del k).ins k v

/-- Give key `k` the value `v`, listed whatever it is. -/
def SMap.put {α : Type} (k : Nat) (v : α) (m : SMap α) : SMap α := (m.del k).ins k v

/-- The listed keys. -/
def SMap.keys {α : Type} (m : SMap α) : List Nat := m.map (·.1)

namespace Machine

/-! Register fields. -/

/-- The value a register field holds. -/
def State.rd (s : State) (d : RegD) (n : Nat := 0) (i : Nat := 0) (j : Nat := 0) : Nat :=
  s.regs.getD (d.reset i) (d.key n i j)

/-- A register field given a value, cut to the field's width. -/
def State.wr (s : State) (d : RegD) (v : Nat) (n : Nat := 0) (i : Nat := 0) (j : Nat := 0) : State :=
  { s with regs := s.regs.set (d.reset i) (d.key n i j) (v % 2 ^ d.w) }

/-- A one-bit field as a truth value. -/
def State.flag (s : State) (d : RegD) (n : Nat := 0) (i : Nat := 0) (j : Nat := 0) : Bool := s.rd d n i j = 1

/-- A field as a signed integer. -/
def State.rdI (s : State) (d : RegD) (n : Nat := 0) (i : Nat := 0) (j : Nat := 0) : Int := toSigned d.w (s.rd d n i j)

/-- A field given a signed integer. -/
def State.wrI (s : State) (d : RegD) (x : Int) (n : Nat := 0) (i : Nat := 0) (j : Nat := 0) : State :=
  s.wr d (ofSigned d.w x) n i j

/-- The staged value of a staged field: the value in force where nothing is staged (R370). -/
def State.rdStg (s : State) (d : RegD) (n : Nat := 0) (i : Nat := 0) (j : Nat := 0) : Nat :=
  (s.stg.get? (d.key n i j)).getD (s.rd d n i j)

/-- Put an output last. -/
def State.emit (s : State) (o : Out) : State := { s with out := s.out ++ [o] }

/-- Take a free value of kind `kd` (log entry 1) and advance the counter. -/
def State.takeFree (s : State) (kd : Nat) : Nat × State := (Config.freeValue kd s.free, { s with free := s.free + 1 })

/-! Interrupts (R433, R434) and counters (R487 to R489). -/

/-- Word `w` of entry `v` of the MSI-X table: 0 address, 1 data and vector control (bit 32 masks; log entry 29). -/
def State.msixWord (s : State) (v w : Nat) : Nat := s.msix.getD (if w = 0 then 0 else 1 <<< 32) (2 * v + w)

/-- Send an MSI-X vector; a masked vector sets its pending bit (R434). -/
def State.sendVec (s : State) (v : Nat) : State :=
  if bit (s.msixWord v 1) 32 then { s with pba := if s.pba.contains v then s.pba else s.pba ++ [v] }
  else s.emit (.msix v (s.msixWord v 0) (fld (s.msixWord v 1) 0 32))

/-- The status bits of a page that are not masked (R434). -/
def State.irqPend (s : State) (pg : Nat) : Nat :=
  s.rd PAGE_IRQ_STATUS_bits pg &&& (s.rd PAGE_IRQ_MASK_mask pg ^^^ (2 ^ 64 - 1))

/-- Set a PAGE_IRQ_STATUS bit; the vector goes out when the unmasked bits turn from zero to nonzero (R434). -/
def State.irqBit (s : State) (pg b : Nat) : State :=
  let s1 := s.wr PAGE_IRQ_STATUS_bits (s.rd PAGE_IRQ_STATUS_bits pg ||| 1 <<< b) pg
  if s.irqPend pg = 0 ∧ s1.irqPend pg ≠ 0 then s1.sendVec pg else s1

/-- The event select of programmable counter `i` as its register holds it (R487). -/
def State.evReg (s : State) (pg i : Nat) : Nat :=
  s.rd (match i with
    | 0 => PAGE_EVSEL0_sel0 | 1 => PAGE_EVSEL0_sel1 | 2 => PAGE_EVSEL0_sel2 | 3 => PAGE_EVSEL0_sel3
    | 4 => PAGE_EVSEL1_sel4 | 5 => PAGE_EVSEL1_sel5 | 6 => PAGE_EVSEL1_sel6 | _ => PAGE_EVSEL1_sel7) pg

/-- The event select of programmable counter `i`: one written counts from the next cycle on (R488). -/
def State.evSel (s : State) (pg i : Nat) : Nat :=
  match s.tel.sel.get? pg with
  | some (c, l) => if c = s.cyc then l.getD i 0 else s.evReg pg i
  | none => s.evReg pg i

/-- The selects of a page that stand to the end of this cycle. -/
def State.holdSel (s : State) (pg : Nat) : State :=
  { s with tel := { s.tel with sel := s.tel.sel.put pg (s.cyc, (List.range 8).map fun i => s.evSel pg i) } }

/-- Counter `i` takes the wraps of counter i − 1 (R489). -/
def State.chained (s : State) (pg i : Nat) : Bool := i ≠ 0 && bit (s.rd PAGE_CNT_CTRL_chain pg) (i - 1)

/-- A page's block is clocked: always for HIF, SEC, CLK, PWR, TIM and CRN (R429). -/
def State.clocked (s : State) (pg : Nat) : Bool := pg ≤ 5 || s.flag PAGE_CLKEN_en pg

/-- Counter `i` counts events its select names with `f`. -/
def State.counts (s : State) (pg i : Nat) (f : Nat → Bool) : Bool :=
  s.clocked pg && bit (s.rd PAGE_CNT_CTRL_en pg) i && !s.chained pg i && f (s.evSel pg i)

/-- Select of activity event `code`, class `tc` where it is given (R488). -/
def selEvent (code : Nat) (tc : Option Nat) (v : Nat) : Bool :=
  !bit v 15 && fld v 0 8 = code && (match tc with | none => true | some t => !bit v 11 || fld v 8 3 = t)

/-- Mirror select of the count register at `off` (R488). -/
def selMirror (off v : Nat) : Bool := bit v 15 && fld v 0 13 = off / 8

/-- Add `m` to programmable counter `i`, with its overflow, cnt_ovf and chain (R489); `fuel` bounds the chain. -/
def cntAdd : Nat → Nat → Nat → Nat → State → State
  | 0, _, _, _, s => s
  | f + 1, pg, i, m, s =>
    let v := s.rd PAGE_CNT_count pg i + m
    let s := s.wr PAGE_CNT_count v pg i
    if v < 2 ^ 32 then s else
    let s := s.wr PAGE_CNT_OVF_ovf (s.rd PAGE_CNT_OVF_ovf pg ||| 1 <<< i) pg
    let s := if bit (s.rd PAGE_CNT_CTRL_ovf_irq pg) i then
        (List.range 8).foldl (fun s k => if s.counts pg k (selEvent 5 none) then cntAdd f pg k 1 s else s) (s.irqBit pg 63)
      else s
    if i < 7 ∧ bit (s.rd PAGE_CNT_CTRL_chain pg) i ∧ bit (s.rd PAGE_CNT_CTRL_en pg) (i + 1) then cntAdd f pg (i + 1) 1 s else s

/-- Every counter of a page whose select fits gains `m`. -/
def State.evCount (s : State) (pg : Nat) (f : Nat → Bool) (m : Nat) : State :=
  if s.rd PAGE_CNT_CTRL_en pg = 0 then s else
  (List.range 8).foldl (fun s k => if s.counts pg k f then cntAdd 20 pg k m s else s) s

/-- An activity event of R490 happens `m` times on a page. -/
def State.event (s : State) (pg code : Nat) (tc : Option Nat := none) (m : Nat := 1) : State := s.evCount pg (selEvent code tc) m

/-- Raise a PAGE_IRQ_STATUS bit (R434), counted by event 0x05 (R490). -/
def State.irq (s : State) (pg b : Nat) : State := (s.irqBit pg b).event pg 5

/-- A count register gains `m`, wrapping (R15), with the counters that mirror it (R488). -/
def State.cnt (s : State) (d : RegD) (n : Nat := 0) (i : Nat := 0) (j : Nat := 0) (m : Nat := 1) : State :=
  (s.wr d (s.rd d n i j + m) n i j).evCount (d.page + n) (selMirror (d.base + d.stride * i + d.stride2 * j)) m

/-- A saturating count register gains `m` (R15). -/
def State.cntSat (s : State) (d : RegD) (n : Nat := 0) (i : Nat := 0) (j : Nat := 0) (m : Nat := 1) : State :=
  let o := s.rd d n i j
  let v := min (2 ^ d.w - 1) (o + m)
  (s.wr d v n i j).evCount (d.page + n) (selMirror (d.base + d.stride * i + d.stride2 * j)) (v - o)

/-! Time (R29, R30). -/

/-- One nanosecond of fabric time: the clock keeps 48 fraction bits, 16 of them visible (R30). -/
def NS : Nat := 2 ^ 48

/-- Range of the clock: 2^48 seconds (R29). -/
def clkWrap : Nat := 2 ^ 48 * 10 ^ 9 * NS

/-- Seconds of the fabric clock. -/
def State.sec (s : State) : Nat := s.fclk / (10 ^ 9 * NS)

/-- Nanoseconds of the fabric clock. -/
def State.ns (s : State) : Nat := s.fclk / NS % 10 ^ 9

/-- The visible 16 fraction bits. -/
def State.frac (s : State) : Nat := s.fclk / 2 ^ 32 % 2 ^ 16

/-- Nanoseconds [45:16] and fraction [15:0]. -/
def State.nsFrac (s : State) : Nat := s.ns * 65536 + s.frac

/-- The visible time in 2^-16 ns. -/
def State.t16 (s : State) : Int := (s.fclk / 2 ^ 32 : Nat)

/-- One clock step, 0.5 ns × (1 + TIM_RATE) (R30). -/
def State.clkStep (s : State) : Nat := ((2 ^ 47 : Int) + s.rdI TIM_RATE_rate * 2 ^ 7).toNat

/-- A time of seconds and half nanoseconds in clock units. -/
def clkOf (sec ns half : Nat) : Nat := (sec * 10 ^ 9 + ns) * NS + half * 2 ^ 47

/-- The time field of R83: seconds modulo 2^18 above 30 bits of nanoseconds. -/
def State.origin (s : State) : Nat := (s.sec % 2 ^ 18) * 2 ^ 30 + s.ns

/-- Core cycles of a time in nanoseconds. -/
def nsCyc (ns : Nat) : Nat := 2 * ns

/-- Core cycles of a time in microseconds. -/
def usCyc (us : Nat) : Nat := 2000 * us

/-- Core cycles of a time in milliseconds. -/
def msCyc (ms : Nat) : Nat := 2000000 * ms

/-! Table words (R116, R159, R185, R395). -/

/-- Key of word `w` of entry `idx` of table `t`, bank `b`. -/
def tkey (t b idx w : Nat) : Nat := ((t * 2 + b) * 2 ^ 24 + idx) * 16 + w

/-- The tables behind the command blocks, numbered for the model's table store. -/
def TB_RETURN : Nat := 0
/-- SPRAY of R116. -/
def TB_SPRAY : Nat := 1
/-- DIM of R116. -/
def TB_DIM : Nat := 2
/-- ADMIT_IN of R116. -/
def TB_ADMIT_IN : Nat := 3
/-- ADMIT_EG of R116. -/
def TB_ADMIT_EG : Nat := 4
/-- SHAPER of R159. -/
def TB_SHAPER : Nat := 8
/-- WRR of R159. -/
def TB_WRR : Nat := 9
/-- POLICER of R159. -/
def TB_POLICER : Nat := 10
/-- TGATE of R159. -/
def TB_TGATE : Nat := 11
/-- TG_CFG of R159. -/
def TB_TGCFG : Nat := 12
/-- QG_MAP of R159. -/
def TB_QGMAP : Nat := 13

/-- What an unlisted table word reads as: the reset of R159 for WRR, 0 elsewhere. -/
def tdef (t w : Nat) : Nat := if t = TB_WRR ∧ w = 0 then 1 else 0

/-- A table word in force. -/
def State.tget (s : State) (t b idx w : Nat) : Nat := s.tbl.getD (tdef t w) (tkey t b idx w)

/-- A table word given a value. -/
def State.tset (s : State) (t b idx w v : Nat) : State :=
  { s with tbl := s.tbl.set (tdef t w) (tkey t b idx w) (v % 2 ^ 64) }

/-- A stored table word fails parity in copy `c`. -/
def State.isBad (s : State) (t b idx w c : Nat) : Bool := s.bad.contains (tkey t b idx w * 32 + c)

/-- A written word has good parity again in every copy. -/
def State.mend (s : State) (t b idx w : Nat) : State := { s with bad := s.bad.filter fun k => k / 32 ≠ tkey t b idx w }

/-- A word that fails parity from now on (log entry 7). -/
def State.spoil (s : State) (l : List Nat) : State := { s with bad := s.bad ++ l }

/-! Host accesses (R430, R431, R464). -/

end Machine

/-- The bits of a 64-bit register an access reaches (R431). -/
def WSize.mask : WSize → Nat
  | .w8 => 2 ^ 64 - 1
  | .lo4 => 2 ^ 32 - 1
  | .hi4 => (2 ^ 32 - 1) <<< 32

/-- The value of a field at bits [lo + n - 1 : lo] after a write, its bits in the half not written kept (R431). -/
def Wr.merge (w : Wr) (lo n old : Nat) : Nat :=
  fld (((old <<< lo) &&& ((2 ^ 64 - 1) ^^^ w.sz.mask)) ||| (w.v &&& w.sz.mask)) lo n

/-- The write reaches some bit of the field. -/
def Wr.hits (w : Wr) (lo n : Nat) : Bool := (w.sz.mask >>> lo) % 2 ^ n ≠ 0

/-- The written bits of a field, zero where the write does not reach. -/
def Wr.ones (w : Wr) (lo n : Nat) : Nat := fld (w.v &&& w.sz.mask) lo n

namespace Machine

/-- Store a written field (access RW of R11, halves by R431). -/
def State.put (s : State) (d : RegD) (w : Wr) (n : Nat := 0) (i : Nat := 0) (j : Nat := 0) : State :=
  s.wr d (w.merge d.lo d.w (s.rd d n i j)) n i j

/-- Clear the written ones (access W1C of R11). -/
def State.w1c (s : State) (d : RegD) (w : Wr) (n : Nat := 0) (i : Nat := 0) (j : Nat := 0) : State :=
  s.wr d (s.rd d n i j &&& ((2 ^ d.w - 1) ^^^ w.ones d.lo d.w)) n i j

/-- The dividers in force keep the limits of R464. -/
def State.busOk (s : State) : Bool := 8 ≤ s.rbusDiv && 4 ≤ s.tbusDiv && 2 * s.tbusDiv ≤ s.rbusDiv

/-- A refused access is counted, located and raised on HIF (R430): causes 0 GATED, 1 UNASSIGNED, 2 ALIAS, 3 SIZE. -/
def State.refuseAccess (s : State) (pg off : Nat) (write : Bool) (cause : Nat) : State :=
  let s := s.cnt HIF_ACCESS_ERR_count
  let s := s.wr HIF_ACCESS_LOC_page pg
  let s := s.wr HIF_ACCESS_LOC_offset off
  let s := s.wr HIF_ACCESS_LOC_write (if write then 1 else 0)
  let s := s.wr HIF_ACCESS_LOC_cause cause
  let s := s.wr HIF_ACCESS_LOC_valid 1
  s.irq 0 0

/-- Why an access to a BAR0 page is refused, if it is (R430); with no firmware running only HIF and SEC are served (R448). -/
def State.accessCause (s : State) (pg off : Nat) : Option Nat :=
  if !pageAssigned pg then some 1
  else if off < 0x40 then none
  else if !s.clocked pg || (s.noFirmware && 2 ≤ pg) then some 0
  else none

/-- A refused read: it completes with Completer Abort, which the function's error status then shows (R430). -/
def State.refuseRead (s : State) (pg off cause : Nat) : State :=
  let s := (s.refuseAccess pg off false cause).emit (.abortRead pg off)
  { s with aborted := true }

/-- A write that is served is carried out after its own event (0x04, R490); the event that sets a bit of PAGE_IRQ_STATUS or PAGE_CNT_OVF in the cycle of a write to it leaves the bit set (R14). -/
def State.writeServed (s : State) (pg off : Nat) (f : State → State) : State :=
  if off = 0x18 ∨ off = 0xA0 then (f s).event pg 4 else f (s.event pg 4)

/-- A write to a BAR0 page: refused (R430), or carried out. -/
def State.access (s : State) (pg off : Nat) (f : State → State) : State :=
  match s.accessCause pg off with
  | some c => s.refuseAccess pg off true c
  | none => s.writeServed pg off f

/-- A step of the module itself: nothing happens while its clocks are stopped (R468, R480, R484). -/
def act (s t : State) : Host.Outcome State Fault Refusal := .next (if s.alive then t else s)

/-- A host access over CXL: none is answered with Memory Space Enable clear (R423); its behaviour is unspecified while the dividers break R464. -/
def hostAct (s t : State) : Host.Outcome State Fault Refusal :=
  if s.alive && s.memSpace then (if s.busOk then .next t else .fault .busUnspecified) else .next s

/-- A host write to a register of a BAR0 page with the given effect. -/
def hostWrite (s : State) (pg off : Nat) (f : State → State) : Host.Outcome State Fault Refusal :=
  hostAct s (s.access pg off f)

/-- A host read of a register of a BAR0 page with the given effect; a refused read completes with Completer Abort (R430). -/
def hostRead (s : State) (pg off : Nat) (f : State → State) : Host.Outcome State Fault Refusal :=
  hostAct s (match s.accessCause pg off with
    | some c => s.refuseRead pg off c
    | none => f (s.event pg 4))

end Machine

end Sys2Proof
end

