-- ==== Sys2Proof/Machine/Cover.lean ====
section
/-! DEFINITION. The datum kept incrementally (R376 to R379) and the state of slices (R388). -/

namespace Sys2Proof.Machine

/-- SLICE of R395: word 0 holds the state and the accepted commits. -/
def TB_SLICE : Nat := 20
/-- QUOTA of R395. -/
def TB_QUOTA : Nat := 21
/-- USAGE of R395. -/
def TB_USAGE : Nat := 22
/-- EXPECT of R395. -/
def TB_EXPECT : Nat := 23

/-- The coverage address of a word (R376). -/
def coverAddr (code slice bank idx : Nat) : Nat := (code <<< 56) ||| (slice <<< 44) ||| (bank <<< 43) ||| idx

/-- The hash of a covered word (R376). -/
def coverHash (a v : Nat) : Nat := if v = 0 then 0 else leNat (shake256 (leBytes 8 a ++ leBytes 8 v) 16)

/-- What a change of a covered word from `o` to `v` adds to a datum, modulo 2^128 (R379). -/
def coverDiff (code slice bank idx o v : Nat) : Nat :=
  let a := coverAddr code slice bank idx
  if o = v then 0 else (coverHash a v + 2 ^ 128 - coverHash a o) % 2 ^ 128

/-- A word covered by the module datum changes (R377, R379). -/
def State.coverMod (s : State) (code idx o v : Nat) : State :=
  if o = v then s else { s with dtm := { s.dtm with module := (s.dtm.module + coverDiff code 0 0 idx o v) % 2 ^ 128 } }

/-- The sums of a slice. -/
def State.sums (s : State) (sl : Nat) : SliceSum := s.dtm.sums.getD {} sl

/-- An unbanked word covered by a slice datum changes (R378, R379). -/
def State.coverSl (s : State) (sl code idx o v : Nat) : State :=
  if o = v then s else
  let m := s.sums sl
  { s with dtm := { s.dtm with sums := s.dtm.sums.set {} sl { m with u := (m.u + coverDiff code sl 0 idx o v) % 2 ^ 128 } } }

/-- A word of bank `b` covered by a slice datum changes (R378, R379). -/
def State.coverBank (s : State) (sl code b idx o v : Nat) : State :=
  if o = v then s else
  let m := s.sums sl
  let d := coverDiff code sl b idx o v
  let m := if b = 0 then { m with b0 := (m.b0 + d) % 2 ^ 128 } else { m with b1 := (m.b1 + d) % 2 ^ 128 }
  { s with dtm := { s.dtm with sums := s.dtm.sums.set {} sl m } }

/-- The slice datum: unbanked sum plus the sum of the current bank (R378). -/
def State.sliceDatum (s : State) (sl : Nat) : Nat :=
  let m := s.sums sl
  (m.u + (if s.rd FWD_SLICE_EPOCH_cur_epoch 0 sl = 0 then m.b0 else m.b1)) % 2 ^ 128

/-- A slice's state: 0 FREE, 1 IN_FORCE, 2 PURGING (R388). -/
def State.sliceState (s : State) (sl : Nat) : Nat := fld (s.tget TB_SLICE 0 sl 0) 0 2

/-- Set a slice's state. -/
def State.setSliceState (s : State) (sl v : Nat) : State := s.tset TB_SLICE 0 sl 0 (setFld (s.tget TB_SLICE 0 sl 0) 0 2 v)

/-- Set or clear bits of DTM_STAGED (R370). -/
def State.markStaged (s : State) (grp : Nat) : State := s.wr DTM_STAGED_groups (s.rd DTM_STAGED_groups ||| 1 <<< (grp - 1))

/-- The 64-bit word a set of fields of one register holds, staged or in force. -/
def wordOf (get : RegD → Nat) (ds : List RegD) : Nat := ds.foldl (fun v d => v ||| (get d <<< d.lo)) 0

end Sys2Proof.Machine
end

