-- ==== Sys2Proof/Machine/Lmf.lean ====
section
/-! DEFINITION. Lanes, fibres and the sending of link management frames (R323, R324, R330, R331). -/

namespace Sys2Proof.Machine

/-- A fibre's state outside its registers. -/
def State.fib (s : State) (f : Nat) : FibreSt := s.link.fibres.getD {} f

/-- Give a fibre its state. -/
def State.setFib (s : State) (f : Nat) (x : FibreSt) : State := { s with link := { s.link with fibres := s.link.fibres.set {} f x } }

/-- A lane's state outside its registers; lane number is fibre × 16 + lane line. -/
def State.laneX (s : State) (l : Nat) : LaneSt := s.link.lanes.getD {} l

/-- Give a lane its state. -/
def State.setLaneX (s : State) (l : Nat) (x : LaneSt) : State := { s with link := { s.link with lanes := s.link.lanes.set {} l x } }

/-- The sending side of a logical port. -/
def State.tx (s : State) (p : Nat) : PortTx := s.link.tx.getD {} p

/-- Give a logical port its sending side. -/
def State.setTx (s : State) (p : Nat) (x : PortTx) : State := { s with link := { s.link with tx := s.link.tx.set {} p x } }

/-- The receiving side of a logical port. -/
def State.rx (s : State) (p : Nat) : PortRx := s.link.rx.getD {} p

/-- Give a logical port its receiving side. -/
def State.setRx (s : State) (p : Nat) (x : PortRx) : State := { s with link := { s.link with rx := s.link.rx.set {} p x } }

/-- A field of the lane registers (R348). -/
def State.rdLane (s : State) (d : RegD) (l : Nat) : Nat := s.rd d (l / 128) (l % 128)

/-- Write a field of the lane registers. -/
def State.wrLane (s : State) (d : RegD) (v l : Nat) : State := s.wr d v (l / 128) (l % 128)

/-- Lane states of R324. -/
def laneOFF : Nat := 0
/-- TRAIN of R324. -/
def laneTRAIN : Nat := 1
/-- READY of R324. -/
def laneREADY : Nat := 2
/-- SERVICE of R324. -/
def laneSERVICE : Nat := 3
/-- FAILED of R324. -/
def laneFAILED : Nat := 4

/-- A lane's state (R324). -/
def State.lane (s : State) (l : Nat) : Nat := s.rdLane LNK_LANE_state l

/-- The lanes of a fibre. -/
def lanesOf (f : Nat) : List Nat := (List.range 16).map (16 * f + ·)

/-- The logical port a lane belongs to (R323). -/
def State.lanePort (s : State) (l : Nat) : Option Nat :=
  if s.rdLane LNK_LANE_MAP_valid l = 1 then some (s.rdLane LNK_LANE_MAP_port l) else none

/-- All lanes. -/
def allLanes : List Nat := List.range 1024

/-- The lanes of a logical port, in ascending order. -/
def State.portLanes (s : State) (p : Nat) : List Nat := allLanes.filter fun l => s.lanePort l = some p

/-- The lanes of a logical port in service. -/
def State.portService (s : State) (p : Nat) : List Nat := (s.portLanes p).filter fun l => s.lane l = laneSERVICE

/-- The fibre a logical port lies on (R323): that of its first lane. -/
def State.portFibre (s : State) (p : Nat) : Nat := ((s.portLanes p).headD 0) / 16

/-- A lane of READY or SERVICE. -/
def State.laneCarries (s : State) (l : Nat) : Bool := s.lane l = laneREADY || s.lane l = laneSERVICE

/-- A lane sends symbols: in TRAIN, READY and SERVICE (R324). -/
def State.laneSends (s : State) (l : Nat) : Bool := s.lane l = laneTRAIN || s.laneCarries l

/-- Length of a codeword in clock units, 170/7 ns (R325). -/
def slotClk : Nat := 170 * NS / 7

/-- The codeword slot that begins now overlaps a transmit hold window on a lane (R341). -/
def State.laneHeld (s : State) (l : Nat) : Bool :=
  (s.fib (l / 16)).txHold.any fun h => h.from_ < s.fclk + slotClk && s.fclk < h.until_ && h.lanes.contains l

/-- Some lane of the fibre is READY or in SERVICE. -/
def State.lit (s : State) (f : Nat) : Bool := (lanesOf f).any s.laneCarries

/-- Order in which waiting LMFs are placed (R330). -/
def lmfRank (t : Nat) : Nat :=
  if 0x10 ≤ t ∧ t ≤ 0x14 then 0
  else if t = 0x33 then 1
  else if t = 0x41 then 2
  else if t = 0x40 then 3
  else if t = 0x48 then 4
  else if 0x30 ≤ t ∧ t ≤ 0x32 then 5
  else if t ≤ 3 then 6
  else 7

/-- Insert an LMF behind the waiting ones of its kind and of earlier kinds (R330). -/
def lmfInsert (m : Lmf) : List Lmf → List Lmf
  | [] => [m]
  | x :: t => if lmfRank m.typ < lmfRank x.typ then m :: x :: t else x :: lmfInsert m t

/-- Send an LMF on a fibre: it waits for a free slot of a control codeword, in the order of R330; a waiting RETRY_ACK or CREDIT is replaced by a newer one for its port, and an LMF beyond 64 waiting is discarded. -/
def State.sendLmf (s : State) (f : Nat) (m : Lmf) : State :=
  let x := s.fib f
  let w := if m.typ = 0x40 ∨ m.typ = 0x48 then x.wait.filter (fun y => ¬(y.typ = m.typ ∧ y.port = m.port)) else x.wait
  if 64 ≤ w.length then s.cnt LNK_LMF_DROP_count (f / 8) else s.setFib f { x with wait := lmfInsert m w }

/-- Traverse state of a fibre (R343). -/
def State.trv (s : State) (f : Nat) : Nat := s.rd TRV_FIBRE_state 0 f

/-- The fibre is in bypass (R20, R368): the module takes nothing from its lanes and sends nothing on them. -/
def State.bypassed (s : State) (f : Nat) : Bool := s.rd BYP_FIBRE_state 0 f = 3

/-- The negotiated minor of an EXPECTED fibre is 1 or more, so LANE_NOTICE may be sent (R338). -/
def State.noticeOk (s : State) (f : Nat) : Bool := s.trv f = 2 && 1 ≤ s.rd TRV_FIBRE_minor 0 f

/-- Mean link delay d of a port in clock units (R39); a negative mean, which no fibre gives, acts as 0 (DESIGN CHOICE, log entry 82). -/
def State.mldClk (s : State) (f : Nat) : Nat := (s.rdI TIM_PORT_MLD_mld_ps 0 f).toNat * NS / 1000

/-- The module's own endpoint ID (R74). -/
def State.self (s : State) : Nat := s.rd TRV_SELF_endpoint

end Sys2Proof.Machine
end

