-- ==== Sys2Proof/Machine/Depth.lean ====
section
/-! DEFINITION. Cairn units outside their actions, the rings of an engine, and idle depth from the cairn schedule (R49, R50, R296, R471, R475, R476). -/

namespace Sys2Proof.Machine

/-! Cairn units. -/

/-- A unit's state outside its registers. -/
def State.cu (s : State) (n : Nat) : CairnU := s.crn.getD {} n

/-- Give a unit its state. -/
def State.setCu (s : State) (n : Nat) (x : CairnU) : State := { s with crn := s.crn.set {} n x }

/-- A unit's CRN_U[n]_STATUS.state: 0 IDLE, 1 ARMED, 2 DONE, 3 CANCELLED. -/
def State.ust (s : State) (n : Nat) : Nat := s.rd CRN_U_STATUS_state 0 n

/-- The unit is ARMED. -/
def State.armed (s : State) (n : Nat) : Bool := s.ust n = 1

/-- A unit's instant in clock units (R49). -/
def State.instant (s : State) (n : Nat) : Nat :=
  clkOf (s.rd CRN_U_SEC_sec 0 n) (s.rd CRN_U_NS_ns 0 n) (s.rd CRN_U_NS_half 0 n)

/-- A unit's period in clock units; 0 for one-shot (R50). -/
def State.uperiod (s : State) (n : Nat) : Nat := s.rd CRN_U_PERIOD_period 0 n * 2 ^ 47

/-- The next instant at which an armed unit fires (R50). -/
def State.nextInst (s : State) (n : Nat) : Nat := s.instant n + (s.cu n).k * s.uperiod n

/-! Rings. -/

/-- A ring; before anything is recorded of it, what calibration left: the spare line's rings parked, the values of production (log entry 3). -/
def State.ring (s : State) (e r : Nat) : Ring :=
  (s.opt.rings.get? (e * 272 + r)).getD
    (let k := e * 272 + r
     { heater := Config.flash 20 k % 65536, offset := Config.flash 21 k % 65536, order := Config.flash 22 k % 4, lock := if r % 17 = 16 then 3 else 0,
       up := Config.flash 23 k % 256, down := Config.flash 24 k % 256, up0 := Config.flash 23 k % 256, down0 := Config.flash 24 k % 256,
       temp0 := toSigned 16 (Config.flash 32 k % 65536) })

/-- Record a ring. -/
def State.setRing (s : State) (e r : Nat) (x : Ring) : State := { s with opt := { s.opt with rings := s.opt.rings.put (e * 272 + r) x } }

/-- Index of a fibre's modulator ring of a line, and of its drop ring (R296). -/
def modRing (f l : Nat) : Nat := 34 * (f % 8) + l

/-- Index of a fibre's drop ring of a line. -/
def dropRing (f l : Nat) : Nat := 34 * (f % 8) + 17 + l

/-- The line a lane's receiver stands on. -/
def State.rxLine (s : State) (l : Nat) : Nat := if (s.fib (l / 16)).rxSpare = some (l % 16) then 16 else l % 16

/-- The rings a lane uses hold lock. -/
def State.lockLane (s : State) (l : Nat) : State :=
  let f := l / 16
  let m := modRing f (s.rdLane LNK_LANE_line l)
  let d := dropRing f (s.rxLine l)
  let s := s.setRing (f / 8) m { s.ring (f / 8) m with lock := 0 }
  s.setRing (f / 8) d { s.ring (f / 8) d with lock := 0 }

/-- The heaters of a fibre's rings go off: no lane of it has rings in lock. -/
def State.ringsOff (s : State) (f : Nat) : State :=
  let s := (List.range 34).foldl (fun s i =>
    let r := 34 * (f % 8) + i
    let x := s.ring (f / 8) r
    s.setRing (f / 8) r { x with heater := 0, lock := if x.lock = 0 then 3 else x.lock }) s
  (lanesOf f).foldl (fun s l => s.setLaneX l { s.laneX l with rings := false }) s

/-! Collective contexts, as far as targeting needs them. -/

/-- CTX of R160. -/
def TB_CTX : Nat := 30

/-- Cores of a collective context: core_base and core_span (R160). -/
def State.ctxCores (s : State) (ctx : Nat) : Nat × Nat :=
  let w := s.tget TB_CTX 0 ctx 0
  (fld w 48 6, fld w 54 7)

/-! Depth. -/

/-- The fibre, or its whole engine, is asked to be in IDLE (R471). -/
def State.idleAsked (s : State) (f : Nat) : Bool := s.flag PWR_FIBRE_idle 0 f || s.rd PAGE_PWR_req (0x30 + f / 8) = 1

/-- A unit's action targets the lanes of a fibre (R475). -/
def State.targetsFibre (s : State) (n f : Nat) : Bool :=
  let a := s.rd CRN_U_ACTION_arg 0 n
  match s.rd CRN_U_ACTION_class 0 n with
  | 11 => fld a 0 8 = 0x30 + f / 8
  | 7 => fld a 0 3 = f / 8
  | 8 => fld a 0 6 = f
  | 6 => fld a 0 6 = f || fld a 8 6 = f
  | 5 => s.portLanes (fld a 0 10) ≠ [] && s.portFibre (fld a 0 10) = f
  | _ => false

/-- A unit's action targets a Serai physical core (R475). -/
def State.targetsCore (s : State) (n p : Nat) : Bool :=
  let a := s.rd CRN_U_ACTION_arg 0 n
  match s.rd CRN_U_ACTION_class 0 n with
  | 11 => fld a 0 8 = 0x80 + p
  | 9 =>
    let r := s.ctxCores (fld a 0 16)
    s.rd SRI_STATE_lcore_valid p = 1 && decide ((s.rd SRI_STATE_lcore p + 64 - r.1) % 64 < r.2)
  | _ => false

/-- The time to the next firing of an armed unit that `f` picks, in clock units; none where there is no such unit. -/
def State.tNext (s : State) (f : Nat → Bool) : Option Nat :=
  (List.range 32).foldl (fun b n =>
    if s.armed n && f n then
      let t := s.nextInst n - s.fclk
      match b with | none => some t | some x => some (min x t)
    else b) none

/-- That time is `us` microseconds or more. -/
def farOff (t : Option Nat) (us : Nat) : Bool := match t with | none => true | some x => decide (us * 1000 * NS ≤ x)

/-- A logical core holds no chunk context that forbids deep idle (R474). -/
def State.deepOk (s : State) (p : Nat) : Bool :=
  s.rd SRI_STATE_lcore_valid p = 0 || !s.ser.chunks.any fun k => k.lcore = s.rd SRI_STATE_lcore p && decide (1 ≤ k.state) && decide (k.state ≤ 6)

/-- The depth a fibre in IDLE is to have: 1 shallow, 2 deep (R475). -/
def State.fibreDepth (s : State) (f : Nat) : Nat :=
  if s.flag PWR_CTRL_auto_depth && farOff (s.tNext fun n => s.targetsFibre n f) (s.rd PWR_IDLE_CFG_lane_deep_min_us) then 2 else 1

/-- The depth a Serai core in IDLE is to have (R474, R475). -/
def State.coreDepth (s : State) (p : Nat) : Nat :=
  if s.flag PWR_CTRL_auto_depth && s.deepOk p && farOff (s.tNext fun n => s.targetsCore n p) (s.rd PWR_IDLE_CFG_serai_deep_min_us) then 2 else 1

/-- PAGE_PWR.state of an engine follows its fibres: OFF, or the least depth of any. -/
def State.showEngine (s : State) (e : Nat) : State :=
  if s.rd PAGE_PWR_state (0x30 + e) = 3 then s else
  s.wr PAGE_PWR_state (((List.range 8).map fun j => s.rd PWR_FIBRE_state 0 (8 * e + j)).foldl min 2) (0x30 + e)

/-- A fibre's depth is shown. -/
def State.setFibre (s : State) (f d : Nat) : State := (s.wr PWR_FIBRE_state d 0 f).showEngine (f / 8)

/-- A fibre's heaters go off: deep idle (R476). -/
def State.deepFibre (s : State) (f : Nat) : State := ((s.ringsOff f).setFibre f 2).cnt PWR_DEEP_CNT_count

/-- A fibre starts to wake from deep idle (R476). -/
def State.wakeFibre (s : State) (f : Nat) : State :=
  if s.pwr.wakeF.contains f then s
  else ({ s with pwr := { s.pwr with wakeF := s.pwr.wakeF ++ [f] } }).cnt PWR_WAKE_CNT_count

/-- A Serai core enters deep idle: its instruction memory and fetch buffer are lost (R474). -/
def State.deepCore (s : State) (p : Nat) : State :=
  let x := s.ser.cores.getD {} p
  let s : State := { s with ser := { s.ser with cores := s.ser.cores.set {} p { x with imem := [], lines := [] } } }
  let s := (s.wr SRI_IMEM_free 8192 p).wr SRI_IMEM_resident 0 p
  (s.wr PAGE_PWR_state 2 (0x80 + p)).cnt PWR_DEEP_CNT_count

/-- A Serai core starts to wake, for work where `work` says so; out of deep idle that is counted (R474, R476). -/
def State.wakeCore (s : State) (p : Nat) (work : Bool) : State :=
  let s : State := if work && !s.pwr.demand.contains p then { s with pwr := { s.pwr with demand := s.pwr.demand ++ [p] } } else s
  if s.pwr.wakeC.contains p then s else
  let s : State := { s with pwr := { s.pwr with wakeC := s.pwr.wakeC ++ [p] } }
  if s.rd PAGE_PWR_state (0x80 + p) = 2 then s.cnt PWR_WAKE_CNT_count else s

/-- A Serai core is in some state other than ON. -/
def State.coreAsleep (s : State) (p : Nat) : Bool := s.rd PAGE_PWR_state (0x80 + p) ≠ 0

/-- A fibre in an idle depth is looked at again. -/
def State.reFibre (s : State) (f : Nat) : State :=
  let d := s.rd PWR_FIBRE_state 0 f
  if d = 1 && !s.pwr.wakeF.contains f && s.fibreDepth f = 2 then s.deepFibre f
  else if d = 2 && s.fibreDepth f = 1 then s.wakeFibre f
  else s

/-- A Serai core in an idle depth is looked at again. -/
def State.reCore (s : State) (p : Nat) : State :=
  let d := s.rd PAGE_PWR_state (0x80 + p)
  if d = 1 && !s.pwr.wakeC.contains p && s.coreDepth p = 2 then s.deepCore p
  else if d = 2 && s.coreDepth p = 1 then s.wakeCore p false
  else s

/-- The depth of every block in IDLE evaluated afresh (R475). -/
def State.reDepth (s : State) : State :=
  (List.range 68).foldl (fun s p => s.reCore p) ((List.range 64).foldl (fun s f => s.reFibre f) s)

end Sys2Proof.Machine
end

