-- ==== Sys2Proof/Machine/Cairn.lean ====
section
/-! DEFINITION. Cairn units: arming, cancelling, firing, effects in their order, and the module's own actions on firmware units (R49 to R59, R61). -/

namespace Sys2Proof.Machine

/-- Set a unit's state and its bit of CRN_ARMED (R56). -/
def State.setUst (s : State) (n v : Nat) : State :=
  let a := s.rd CRN_ARMED_armed
  let s := s.wr CRN_U_STATUS_state v 0 n
  s.wr CRN_ARMED_armed (setFld a n 1 (if v = 1 then 1 else 0))

/-- Units 32 − fw_units to 31 belong to firmware (R55). -/
def State.isFw (s : State) (n : Nat) : Bool := 32 ≤ n + s.rd CRN_CTRL_fw_units

/-- The arm has taken effect (R56). -/
def State.judged (s : State) (n : Nat) : Bool := (s.cu n).judged || (s.cu n).effAt ≤ s.cyc

/-- A write to a unit is refused (R53): refused sets, CRN_REFUSE_CNT increments, refusal raises. -/
def State.refuseUnit (s : State) (n : Nat) : State :=
  ((s.wr CRN_U_STATUS_refused 1 0 n).cnt CRN_REFUSE_CNT_count).irq 5 32

/-- Latency of an action class in core cycles (R51). -/
def crnLatency (cls : Nat) : Nat := [2, 6, 16, 16, 16, 4, 24, 12, 12, 20, 32, 20, 8, 2].getD cls 0

/-- Put an effect into the order in which effects apply (R57, R58): by cycle; within a cycle by unit, but firings of one stepping edge in the order of their instants. -/
def effInsert (e : CrnEff) : List CrnEff → List CrnEff
  | [] => [e]
  | x :: t =>
    if e.due < x.due ∨ (e.due = x.due ∧ e.unit < x.unit ∧ ¬(e.stepped ∧ x.stepped)) then e :: x :: t
    else x :: effInsert e t

/-- A unit fires (R49, R50, R56): once for its next instant, or, late, for every instant passed; it counts, ends or goes on, raises its interrupt and schedules its effect. -/
def State.fire (s : State) (n : Nat) (late stepped : Bool) : State :=
  let u := s.cu n
  let per := s.uperiod n
  let cls := s.rd CRN_U_ACTION_class 0 n
  let limit := if per = 0 then 1 else s.rd CRN_U_COUNT_count 0 n
  let passed := if per = 0 ∨ !late then 1 else (s.fclk - s.instant n) / per + 1 - u.k
  let m := if limit = 0 then passed else min passed (limit - u.k)
  let k := u.k + m
  let e : CrnEff := { unit := n, cls := cls, arg := s.rd CRN_U_ACTION_arg 0 n, due := s.cyc + crnLatency cls, stepped := stepped }
  let s := s.setCu n { u with k := k, judged := true }
  let s := s.wr CRN_U_STATUS_fire_count k 0 n
  let s := s.wr CRN_U_STATUS_late (if late then 1 else 0) 0 n
  let s := if late then (s.wr CRN_LATE_late (s.rd CRN_LATE_late ||| 1 <<< n)).irq 5 33 else s
  let s := if limit ≠ 0 ∧ limit ≤ k then s.setUst n 2 else s
  let s := if cls ≠ 0 ∧ s.flag CRN_U_CTRL_irq_en 0 n then s.irq 5 n else s
  { s with effs := effInsert e s.effs }

/-- Units armed and judged, in ascending order. -/
def State.judgedUnits (s : State) : List Nat := (List.range 32).filter fun n => s.armed n && s.judged n

/-- Insert a unit by its next instant; of equal instants the lower unit comes first. -/
def instInsert (s : State) (n : Nat) : List Nat → List Nat
  | [] => [n]
  | x :: t => if s.nextInst n < s.nextInst x then n :: x :: t else x :: instInsert s n t

/-- Set the clock (R41, R58): a forward step fires, late and in order of instant, every unit whose next instant lies in the skipped interval. -/
def State.setClock (s : State) (c : Nat) : State :=
  let old := s.fclk
  let us := (s.judgedUnits.filter fun n => old < s.nextInst n ∧ s.nextInst n ≤ c).foldl (fun l n => instInsert s n l) []
  let s := { s with fclk := c % clkWrap }
  (us.foldl (fun s n => s.fire n true true) s).reDepth

/-- Fields of CRN_U[n] a new arm clears (R54). -/
def State.clearArm (s : State) (n : Nat) : State :=
  (((s.wr CRN_U_STATUS_fire_count 0 0 n).wr CRN_U_STATUS_late 0 0 n).wr CRN_U_STATUS_result 0 0 n).wr CRN_U_STATUS_refused 0 0 n

/-- Arm a unit: it reads ARMED at once and is judged 4 cycles later (R56). -/
def State.armUnit (s : State) (n : Nat) : State :=
  ((s.clearArm n).setUst n 1).setCu n { effAt := s.cyc + 4 }

/-- The unit's settings cannot be armed: a reserved class (R51) or a period below 128 (R50). -/
def State.armInvalid (s : State) (n : Nat) : Bool :=
  14 ≤ s.rd CRN_U_ACTION_class 0 n || (s.rd CRN_U_PERIOD_period 0 n ≠ 0 && s.rd CRN_U_PERIOD_period 0 n < 128)

/-- A unit judged for the first time now finds that an earlier edge had reached its instant: it fires late (R56). -/
def State.lateNow (s : State) (n : Nat) : Bool := !(s.cu n).judged && s.instant n + s.clkStep ≤ s.fclk

/-- Cancel an armed unit; a firing due on this edge occurs first, late where the edge is that of the arm's effect and the instant is past (R56, R57). -/
def State.cancelUnit (s : State) (n : Nat) : State :=
  if s.judged n && s.nextInst n ≤ s.fclk then
    let s := s.fire n (s.lateNow n) false
    if s.armed n then s.setUst n 3 else s
  else s.setUst n 3

/-- A write to CRN_U[n]_CTRL settled by the bits it sets (R54, R55). -/
def State.crnCtrlUnit (s : State) (n : Nat) (arm cancel irqEn : Bool) : State :=
  if s.isFw n then s.refuseUnit n
  else if arm && (cancel || s.armed n) then s.refuseUnit n
  else if arm && s.armInvalid n then (s.refuseUnit n).wr CRN_U_STATUS_result 3 0 n
  else
    -- a firing on this edge comes before the write (R14, R57)
    let s := if cancel && s.armed n then (s.cancelUnit n).reDepth else s
    let s := s.wr CRN_U_CTRL_irq_en (if irqEn then 1 else 0) 0 n
    if arm then (s.armUnit n).reDepth else s

/-- ARM: a host write of CRN_U[n]_CTRL with arm = 1 (R54, R56). -/
def execArm (n : Nat) (irqEn alsoCancel : Bool) (s : State) : Host.Outcome State Fault Refusal :=
  hostWrite s 5 (0x1028 + 0x40 * (n % 32)) fun s => s.crnCtrlUnit (n % 32) true alsoCancel irqEn

/-- CANCEL: a host write of CRN_U[n]_CTRL with cancel = 1 and arm = 0 (R54). -/
def execCancel (n : Nat) (irqEn : Bool) (s : State) : Host.Outcome State Fault Refusal :=
  hostWrite s 5 (0x1028 + 0x40 * (n % 32)) fun s => s.crnCtrlUnit (n % 32) false true irqEn

/-- The arm of a unit takes effect: it is judged from now on, and fires at once, late, when an earlier edge had reached its instant (R56). -/
def State.armEffect (s : State) (n : Nat) : State :=
  if s.armed n && !(s.cu n).judged && (s.cu n).effAt ≤ s.cyc then
    let late := s.lateNow n
    let s := s.setCu n { s.cu n with judged := true }
    if s.instant n ≤ s.fclk then (s.fire n late false).reDepth else s
  else s

/-- ARM_EFFECT (R56). -/
def execArmEffect (n : Nat) (s : State) : Host.Outcome State Fault Refusal := act s (s.armEffect (n % 32))

/-- CAIRN_FIRE: an armed, judged unit whose instant is reached fires (R49). -/
def State.cairnFire (s : State) (n : Nat) : State :=
  if s.armed n && (s.cu n).judged && s.nextInst n ≤ s.fclk then (s.fire n false false).reDepth else s

/-- CAIRN_FIRE (R49). -/
def execCairnFire (n : Nat) (s : State) : Host.Outcome State Fault Refusal := act s (s.cairnFire (n % 32))

/-- A write to register `which` of a unit: 0 SEC, 1 NS, 2 PERIOD, 3 COUNT, 4 ACTION; refused while ARMED or firmware-owned (R53, R55). -/
def State.crnUnitWrite (s : State) (n which : Nat) (w : Wr) : State :=
  if s.isFw n || s.armed n then s.refuseUnit n else
  match which with
  | 0 => s.put CRN_U_SEC_sec w 0 n
  | 1 => (s.put CRN_U_NS_ns w 0 n).put CRN_U_NS_half w 0 n
  | 2 => s.put CRN_U_PERIOD_period w 0 n
  | 3 => s.put CRN_U_COUNT_count w 0 n
  | _ => (s.put CRN_U_ACTION_class w 0 n).put CRN_U_ACTION_arg w 0 n

/-- CRN_UNIT_REGISTER_WRITE (R53). -/
def execCrnUnitRegisterWrite (n which : Nat) (w : Wr) (s : State) : Host.Outcome State Fault Refusal :=
  hostWrite s 5 (0x1000 + 0x40 * (n % 32) + 8 * (which % 5)) fun s => s.crnUnitWrite (n % 32) (which % 5) w

/-- A write of CRN_CTRL: refused as a whole when fw_units is above 32 or an ARMED unit would change owner (R55). -/
def State.crnCtrlWrite (s : State) (w : Wr) : State :=
  let o := s.rd CRN_CTRL_fw_units
  let v := w.merge 0 6 o
  let moved := (List.range 32).any fun n => s.armed n && (decide (32 ≤ n + o) != decide (32 ≤ n + v))
  if 32 < v ∨ moved then (s.cnt CRN_REFUSE_CNT_count).irq 5 32
  else
    let s := s.put CRN_CTRL_quiet_ns w
    let s := s.wr CRN_CTRL_fw_units v
    (List.range 32).foldl (fun s n => s.wr CRN_U_CTRL_owner (if s.isFw n then 1 else 0) 0 n) s

/-- CRN_CTRL_WRITE (R55). -/
def execCrnCtrlWrite (w : Wr) (s : State) : Host.Outcome State Fault Refusal := hostWrite s 5 0x100 fun s => s.crnCtrlWrite w

/-! Effects. -/

/-- The next effect to apply, when it is due and is of this unit and class (R57). -/
def State.effDue (s : State) (u cls : Nat) : Option CrnEff :=
  match s.effs with
  | e :: _ => if e.unit = u ∧ e.cls = cls ∧ e.due ≤ s.cyc then some e else none
  | [] => none

/-- The effect at the head has been taken. -/
def State.popEff (s : State) : State := { s with effs := s.effs.drop 1 }

/-- CRN_U[n]_STATUS.result: 1 ACCEPTED, 2 REJECTED_TARGET (R52). -/
def State.setResult (s : State) (n : Nat) (ok : Bool) : State := s.wr CRN_U_STATUS_result (if ok then 1 else 2) 0 n

/-- An effect of class `cls` of unit `u`: the target answers with its new state and whether it accepted (R52). Where no such effect is due, nothing happens. -/
def State.effect (s : State) (u cls : Nat) (f : CrnEff → State → State × Bool) : State :=
  match s.effDue u cls with
  | none => s
  | some e => let r := f e s.popEff; r.1.setResult u r.2

/-- EVENT: PAGE_IRQ_STATUS bit n of CRN raises at the effect point (R51, R61). -/
def execEvent (u : Nat) (s : State) : Host.Outcome State Fault Refusal :=
  act s (s.effect (u % 32) 0 fun e s => (s.irq 5 e.unit, true))

/-! The module's own actions (R59). -/

/-- Occupancy radius in clock units; below 300 ns it acts as 300 ns (R59, R61). -/
def State.quiet (s : State) : Nat := max 300 (s.rd CRN_CTRL_quiet_ns) * NS

/-- The first firing of an armed unit that lies within `q` of T, if any. -/
def State.firingNear (s : State) (n q t : Nat) : Option Nat :=
  if !s.armed n then none else
  let u := s.cu n
  let per := s.uperiod n
  let cnt := s.rd CRN_U_COUNT_count 0 n
  let i := s.instant n
  let k := if per = 0 then u.k else max u.k ((t - q - i + per - 1) / per)
  let f := i + k * per
  if (per = 0 ∧ 0 < u.k) ∨ (per ≠ 0 ∧ cnt ≠ 0 ∧ cnt ≤ k) then none
  else if t ≤ f + q ∧ f ≤ t + q then some f else none

/-- The earliest instant at or after `t`, on half nanoseconds, that no armed unit occupies (R59); none found within `fuel` tries (log entry 83). -/
def State.freeInstant (s : State) (q : Nat) : Nat → Nat → Option Nat
  | 0, _ => none
  | f + 1, t =>
    match (List.range 32).findSome? (fun n => s.firingNear n q t) with
    | none => some t
    | some x => s.freeInstant q f ((x + q) / 2 ^ 47 * 2 ^ 47 + 2 ^ 47)

/-- The lowest-numbered idle firmware unit (R59). -/
def State.idleFw (s : State) : Option Nat := (List.range 32).find? fun n => s.isFw n && !s.armed n

/-- The module writes and arms one of its own units. -/
def State.armOwn (s : State) (n cls arg t per cnt : Nat) : State :=
  let s := s.wr CRN_U_SEC_sec (t / (10 ^ 9 * NS)) 0 n
  let s := s.wr CRN_U_NS_ns (t / NS % 10 ^ 9) 0 n
  let s := s.wr CRN_U_NS_half (t / 2 ^ 47 % 2) 0 n
  let s := s.wr CRN_U_PERIOD_period per 0 n
  let s := s.wr CRN_U_COUNT_count cnt 0 n
  let s := s.wr CRN_U_ACTION_class cls 0 n
  let s := s.wr CRN_U_ACTION_arg arg 0 n
  let s := s.wr CRN_U_CTRL_irq_en 0 0 n
  (s.armUnit n).reDepth

/-- Round a clock value up to half nanoseconds. -/
def halfUp (t : Nat) : Nat := (t + 2 ^ 47 - 1) / 2 ^ 47 * 2 ^ 47

/-- The unit and the instant the module would use for an action at least `lead` clock units ahead (R59). -/
def State.ownSlot (s : State) (lead : Nat) : Option (Nat × Nat) :=
  match s.idleFw with
  | none => none
  | some n => (s.freeInstant s.quiet (2 ^ 20) (halfUp (s.fclk + lead))).map fun t => (n, t)

/-- The module asks for a unit for an action of its own; with none idle, fw_unit_exhausted raises and the action waits (R59). DESIGN CHOICE (log entry 83): an action for which no free instant is found waits without raising it. -/
def State.ownWait (s : State) (a : FwAction) : State :=
  let s := if s.idleFw.isNone then s.irq 5 34 else s
  { s with fwq := s.fwq ++ [a] }

/-- This edge is the first at a whole multiple of 1 µs (R59). -/
def State.atMicro (s : State) : Bool := s.fclk % (1000 * NS) < s.clkStep

end Sys2Proof.Machine
end

