-- ==== Sys2Proof/Machine/Time.lean ====
section
/-! DEFINITION. Fabric time: the clock, the IEEE 1588 profile, the servo, pulse outputs and captures (R29 to R48, R60). Times of messages are in 2^-16 ns. -/

namespace Sys2Proof.Machine

/-- The part of a 64-bit value a read of the given size returns (R431). -/
def WSize.part (z : WSize) (v : Nat) : Nat :=
  match z with
  | .w8 => v
  | .lo4 => fld v 0 32
  | .hi4 => fld v 32 32

/-- A read of TIM_NOW_NS: nanoseconds and fraction, the seconds of the same edge copied into TIM_NOW_SEC (R31). -/
def State.readNow (s : State) : Nat × State := (s.nsFrac, s.wr TIM_NOW_SEC_sec s.sec)

/-- READ_TIM_NOW_NS (R31). -/
def execReadTimNowNs (z : WSize) (s : State) : Host.Outcome State Fault Refusal :=
  hostRead s 4 0x110 fun s => let r := s.readNow; r.2.emit (.readData (WSize.part z r.1))

/-! Port states and the servo. -/

/-- TIM_STATE.state; a change raises state_change, an entry into HOLDOVER also sync_loss (R40). -/
def State.setTimState (s : State) (v : Nat) : State :=
  if s.rd TIM_STATE_state = v then s else
  let s := (s.wr TIM_STATE_state v).irq 4 0
  let s := { s with tim := { s.tim with good := 0 } }
  if v = 3 then s.irq 4 5 else s

/-- A PTP port outside its registers. -/
def State.ptp (s : State) (f : Nat) : PtpPort := s.tim.ports.getD {} f

/-- Give a PTP port its state. -/
def State.setPtp (s : State) (f : Nat) (x : PtpPort) : State := { s with tim := { s.tim with ports := s.tim.ports.set {} f x } }

/-- Role of a port: 0 DISABLED, 1 MASTER, 2 SLAVE, 3 PASSIVE (R35). -/
def State.role (s : State) (f : Nat) : Nat := s.rd TIM_PORT_role 0 f

/-- A quantity of `x` / (65536 `n`) in whole picoseconds: exact where it is whole, otherwise one of its two neighbours, the spec not saying which (log entry 1). -/
def State.psOf (s : State) (x : Int) (n : Nat) : Int × State :=
  let d : Int := 65536 * n
  if x % d = 0 then (x / d, s) else
  let r := s.takeFree 1
  (x / d + (r.1 % 2 : Nat), r.2)

/-- The limit on TIM_RATE, ±200 ppm in units of 2^-40 (R42). -/
def rateLimit : Int := 219902325

/-- A rate held within the limit of R42. -/
def clampRate (x : Int) : Int := max (-rateLimit) (min rateLimit x)

/-- slew_max, in ppb, as a rate in units of 2^-40 (R41). -/
def State.slewRate (s : State) : Int := ((s.rd TIM_LIMITS_slew_max * 2 ^ 40 / 10 ^ 9 : Nat) : Int)

/-- The servo corrects by slewing: TIM_RATE takes a value within slew_max of the syntonised rate, neither value being stated (R41, log entry 1). In fabric-locked mode it corrects phase only (R42). -/
def State.servoSlew (s : State) : State :=
  let a := s.takeFree 2
  let b := a.2.takeFree 3
  let syn := if s.flag CLK_CTRL_flock then s.tim.synRate else clampRate ((a.1 : Int) - 219902325)
  let m := s.slewRate
  let dev : Int := (b.1 : Int) % (2 * m + 1) - m
  let s := { b.2 with tim := { b.2.tim with synRate := syn } }
  s.wrI TIM_RATE_rate (clampRate (syn + dev))

/-- A step of the clock by `d` clock units: applied on one edge with step_applied, or refused where it would leave the clock's range (R41, R58). -/
def State.stepClock (s : State) (d : Int) : State :=
  let t : Int := (s.fclk : Int) + d
  if t < 0 ∨ (clkWrap : Int) ≤ t then s.wr TIM_STATUS_step_refused 1
  else (s.setClock t.toNat).irq 4 1

/-- What the servo does with an offset of `off` (in ps × 2^16) once the state is set (R40, R41). DESIGN CHOICE (log entry 82): the Sync that brings the servo to ACQUIRE is itself one of the 16 counted and may step the clock. -/
def State.servo (s : State) (off : Int) : State :=
  let big := s.rd TIM_LIMITS_step_thresh * 65536000 < off.natAbs
  let s := if s.rd TIM_STATE_state = 2 ∧ big then s.setTimState 1 else s
  if s.rd TIM_STATE_state = 1 then
    let g := if off.natAbs < 20 * 65536000 then s.tim.good + 1 else 0
    let s := { s with tim := { s.tim with good := g } }
    let s := if 16 ≤ g then s.setTimState 2 else s
    if s.flag TIM_CTRL_servo_en then
      if s.rd TIM_STATE_state = 1 ∧ s.flag TIM_CTRL_step_en ∧ big then
        let d : Int := -(off * 2 ^ 32 / 1000)
        let t : Int := (s.fclk : Int) + d
        if t < 0 ∨ (clkWrap : Int) ≤ t then (s.stepClock d).servoSlew else s.stepClock d
      else s.servoSlew
    else s
  else if s.rd TIM_STATE_state = 2 ∧ s.flag TIM_CTRL_servo_en then s.servoSlew
  else s

/-- A Sync received on fibre `f` with origin timestamp `t1` and correction `corr` (R38, R40): on the SLAVE port the offset is measured and the servo acts. The mean link delay is that of TIM_PORT_MLD, signed. DESIGN CHOICE (log entry 82): an offset beyond TIM_OFFSET's 32 bits wraps in the register; a Sync on a port that is not SLAVE is ignored without a count. -/
def State.syncRx (s : State) (f : Nat) (t1 corr : Int) : State :=
  if s.bypassed f || s.role f ≠ 2 then s else
  let mld := s.rdI TIM_PORT_MLD_mld_ps 0 f
  let off : Int := (s.t16 - t1 - corr) * 1000 - (mld + s.rdI TIM_PORT_asym 0 f) * 65536
  let r := s.psOf off 1
  let s := (r.2.wrI TIM_MLD_mld_ps mld).wrI TIM_OFFSET_offset_ps r.1
  let s := { s with tim := { s.tim with lastSync := s.cyc } }
  if s.rd TIM_STATE_state = 4 then s else
  let s := if s.rd TIM_STATE_state = 0 ∨ s.rd TIM_STATE_state = 3 then s.setTimState 1 else s
  s.servo off

/-- PTP_SYNC (R38). -/
def execPtpSync (f : Nat) (t1 corr : Int) (s : State) : Host.Outcome State Fault Refusal := act s (s.syncRx (f % 64) t1 corr)

/-- PTP_FOLLOW_UP: discarded and counted (R34). -/
def State.followUpRx (s : State) (f : Nat) : State := if s.bypassed f then s else s.cnt TIM_RX_DISCARD_count

/-- PTP_FOLLOW_UP (R34). -/
def execPtpFollowUp (f : Nat) (s : State) : Host.Outcome State Fault Refusal := act s (s.followUpRx (f % 64))

/-- A Pdelay_Req with its sequenceId and sender, received now, is answered with a one-step Pdelay_Resp that carries the turnaround time at its departure (R36, R37); every port that is not DISABLED runs peer delay (R35). -/
def State.pdelayReqRx (s : State) (f seq src : Nat) : State :=
  if s.bypassed f || s.role f = 0 then s else s.sendLmf f { typ := 0x13, body := [s.fclk / 2 ^ 32, seq, src] }

/-- PTP_PDELAY_REQ (R36). -/
def execPtpPdelayReq (f : Nat) (m : PtpMsg) (s : State) : Host.Outcome State Fault Refusal := act s (s.pdelayReqRx (f % 64) (m.seq % 65536) (m.src % 2 ^ 80))

/-- A Pdelay_Resp completes the exchange outstanding under its sequenceId: its mean link delay joins the average of the last 16, or is discarded and counted when it lies more than 10 ns from it (R38, R39). DESIGN CHOICE (log entry 82): a response to no request outstanding is ignored without a count; a mean beyond the register's 32 bits wraps in it. -/
def State.pdelayRespRx (s : State) (f seq : Nat) (corr : Int) : State :=
  if s.bypassed f || s.role f = 0 then s else
  let x := s.ptp f
  match x.reqs.find? (fun q => q.2.2 = seq) with
  | none => s
  | some (t1p, _) =>
    let rest := x.reqs.filter fun q => q.2.2 ≠ seq
    let r : Int := s.t16 - t1p - corr
    let n := x.hist.length
    let sum : Int := x.hist.sum
    let s := s.setPtp f { x with reqs := rest }
    if n ≠ 0 ∧ 20 * 65536 * n < ((n : Int) * r - sum).natAbs then s.cnt TIM_RX_DISCARD_count
    else
      let h := (r :: x.hist).take 16
      let s := s.setPtp f { s.ptp f with hist := h }
      let q := s.psOf (h.sum * 1000) (2 * h.length)
      let s := q.2.wrI TIM_PORT_MLD_mld_ps q.1 0 f
      if s.role f = 2 then s.wrI TIM_MLD_mld_ps q.1 else s

/-- PTP_PDELAY_RESP (R39). -/
def execPtpPdelayResp (f : Nat) (m : PtpMsg) (s : State) : Host.Outcome State Fault Refusal := act s (s.pdelayRespRx (f % 64) (m.seq % 65536) m.corr)

/-- An Announce is checked on the SLAVE port for grandmaster identity and clockClass, for information only: no register shows the outcome (R34). DESIGN CHOICE (log entry 82): one on another port is ignored without a count. -/
def State.announceRx (s : State) (f gm clockClass : Nat) : State :=
  if s.bypassed f || s.role f ≠ 2 then s else { s with tim := { s.tim with gm := some (gm, clockClass) } }

/-- PTP_ANNOUNCE (R34). -/
def execPtpAnnounce (f gm clockClass : Nat) (s : State) : Host.Outcome State Fault Refusal := act s (s.announceRx (f % 64) gm clockClass)

/-- `k` message intervals of 2^n s have passed since core cycle `t`; n is a signed 8-bit field (R34). DESIGN CHOICE (log entry 82): a value outside the range R34 states acts as written. -/
def State.passed (s : State) (t : Nat) (n : Int) (k : Nat) : Bool :=
  if 0 ≤ n then t + k * 2000000000 * 2 ^ n.toNat ≤ s.cyc else t ≤ s.cyc && k * 2000000000 ≤ (s.cyc - t) * 2 ^ (-n).toNat

/-- An interval has passed since the last message. -/
def State.due (s : State) (last : Option Nat) (n : Int) : Bool :=
  match last with
  | none => true
  | some t => s.passed t n 1

/-- A MASTER port sends a one-step Sync (R35); the fabric time of its departure goes into it as it leaves (R36). -/
def State.syncTx (s : State) (f : Nat) : State :=
  if s.bypassed f || s.role f ≠ 1 || !s.due (s.ptp f).syncAt (s.rdI TIM_INTERVALS_log_sync) then s else
  let x := s.ptp f
  (s.setPtp f { x with syncAt := some s.cyc, syncSeq := (x.syncSeq + 1) % 65536 }).sendLmf f { typ := 0x10, body := [x.syncSeq] }

/-- SYNC_TRANSMIT (R36). -/
def execSyncTransmit (f : Nat) (s : State) : Host.Outcome State Fault Refusal := act s (s.syncTx (f % 64))

/-- Every port that is not DISABLED sends a Pdelay_Req at each Pdelay interval (R35, R39); its time is that of its departure (R37). -/
def State.pdelayTx (s : State) (f : Nat) : State :=
  if s.bypassed f || s.role f = 0 || !s.due (s.ptp f).pdelayAt (s.rdI TIM_INTERVALS_log_pdelay) then s else
  let x := s.ptp f
  (s.setPtp f { x with pdelayAt := some s.cyc, pdelaySeq := (x.pdelaySeq + 1) % 65536 }).sendLmf f { typ := 0x12, body := [x.pdelaySeq] }

/-- PDELAY_TRANSMIT (R39). -/
def execPdelayTransmit (f : Nat) (s : State) : Host.Outcome State Fault Refusal := act s (s.pdelayTx (f % 64))

/-- A MASTER port sends an Announce at each Announce interval (R34, R35). -/
def State.announceTx (s : State) (f : Nat) : State :=
  if s.bypassed f || s.role f ≠ 1 || !s.due (s.ptp f).announceAt (s.rdI TIM_INTERVALS_log_announce) then s else
  let x := s.ptp f
  (s.setPtp f { x with announceAt := some s.cyc, announceSeq := (x.announceSeq + 1) % 65536 }).sendLmf f { typ := 0x14, body := [x.announceSeq] }

/-- ANNOUNCE_TRANSMIT (R34). -/
def execAnnounceTransmit (f : Nat) (s : State) : Host.Outcome State Fault Refusal := act s (s.announceTx (f % 64))

/-- The oldest Pdelay_Req outstanding, without response for three Pdelay intervals, is counted (R39). -/
def State.pdelayLost (s : State) (f : Nat) : State :=
  match (s.ptp f).reqs.getLast? with
  | none => s
  | some (_, c, _) =>
    if s.passed c (s.rdI TIM_INTERVALS_log_pdelay) 3 then
      (s.setPtp f { s.ptp f with reqs := (s.ptp f).reqs.dropLast }).cnt TIM_PDELAY_TIMEOUT_count
    else s

/-- PDELAY_TIMEOUT (R39). -/
def execPdelayTimeout (f : Nat) (s : State) : Host.Outcome State Fault Refusal := act s (s.pdelayLost (f % 64))

/-- Three Sync intervals without a Sync in LOCKED: HOLDOVER, TIM_RATE as it stands (R40). -/
def State.syncLost (s : State) : State :=
  if s.rd TIM_STATE_state = 2 ∧ s.passed s.tim.lastSync (s.rdI TIM_INTERVALS_log_sync) 3 then s.setTimState 3 else s

/-- SYNC_LOSS (R40). -/
def execSyncLoss (s : State) : Host.Outcome State Fault Refusal := act s s.syncLost

/-- TIM_CMD op SET: the clock takes TIM_SET_* on one edge (R41, R60); of nanoseconds beyond 999,999,999 the spec states no result (log entry 1). -/
def State.clkSet (s : State) : State :=
  if s.rd TIM_SET_NS_ns_frac / 65536 < 10 ^ 9 then
    s.setClock (s.rd TIM_SET_SEC_sec * 10 ^ 9 * NS + s.rd TIM_SET_NS_ns_frac * 2 ^ 32)
  else
    let r := s.takeFree 30
    r.2.setClock (r.1 % clkWrap)

/-- SET (R41). -/
def execCmdSet (s : State) : Host.Outcome State Fault Refusal := hostWrite s 4 0x130 fun s => s.clkSet

/-- STEP (R41). -/
def execCmdStep (s : State) : Host.Outcome State Fault Refusal :=
  hostWrite s 4 0x130 fun s => s.stepClock (s.rdI TIM_STEP_ADJ_adj * 2 ^ 32)

/-- The SLAVE port, if any. -/
def State.slaves (s : State) : List Nat := (List.range 64).filter fun f => s.role f = 2

/-- A write of TIM_PORT[p] (R35, R39, R40): a second SLAVE is refused; a port made DISABLED restarts its average; FREE when no SLAVE is left in FOLLOW. The register is covered by the module datum (R377). -/
def State.timPort (s : State) (p : Nat) (w : Wr) : State :=
  let o := s.rd TIM_PORT_role 0 p
  let a := s.rd TIM_PORT_asym 0 p
  let v := w.merge 0 2 o
  if v = 2 ∧ o ≠ 2 ∧ s.slaves ≠ [] then s.wr TIM_STATUS_role_refused 1 else
  let s := (s.wr TIM_PORT_role v 0 p).put TIM_PORT_asym w 0 p
  let s := s.coverMod 9 p (o + a <<< 32) (v + (s.rd TIM_PORT_asym 0 p) <<< 32)
  let s := if v = 0 then s.setPtp p { s.ptp p with hist := [], reqs := [] } else s
  let l := s.slaves
  let s := (s.wr TIM_STATE_slave_port (l.headD 0)).wr TIM_STATE_slave_valid (if l = [] then 0 else 1)
  let s := if v = 2 ∧ o ≠ 2 then s.wr TIM_MLD_mld_ps (s.rd TIM_PORT_MLD_mld_ps 0 p) else s
  if l = [] ∧ s.rd TIM_CTRL_mode = 0 then s.setTimState 0 else s

/-- TIM_PORT_WRITE (R35). -/
def execTimPortWrite (p : Nat) (w : Wr) (s : State) : Host.Outcome State Fault Refusal :=
  hostWrite s 4 (0x400 + 8 * (p % 64)) fun s => s.timPort (p % 64) w

/-- A write of TIM_CTRL: GRANDMASTER is entered or left for FREE with the mode (R40). -/
def State.timCtrl (s : State) (w : Wr) : State :=
  let s := ((s.put TIM_CTRL_mode w).put TIM_CTRL_servo_en w).put TIM_CTRL_step_en w
  if s.rd TIM_CTRL_mode = 1 then s.setTimState 4
  else if s.rd TIM_STATE_state = 4 then s.setTimState 0 else s

/-- TIM_CTRL_WRITE (R40). -/
def execTimCtrlWrite (w : Wr) (s : State) : Host.Outcome State Fault Refusal := hostWrite s 4 0x100 fun s => s.timCtrl w

/-- A host write of TIM_RATE: ignored while the servo owns it, otherwise clamped (R42). -/
def State.timRate (s : State) (w : Wr) : State :=
  if s.flag TIM_CTRL_servo_en then s
  else s.wrI TIM_RATE_rate (clampRate (toSigned 64 (w.merge 0 64 (s.rd TIM_RATE_rate))))

/-- TIM_RATE_WRITE (R42). -/
def execTimRateWrite (w : Wr) (s : State) : Host.Outcome State Fault Refusal := hostWrite s 4 0x140 fun s => s.timRate w

/-! Messages as they depart (R33, R36, R37, R90). -/

/-- portNumber of a fibre's port (R33). -/
def ptpPort (f : Nat) : Nat := f + 1

/-- The clock identity of the module: its serial (log entry 81). -/
def State.clockId (s : State) : Nat := s.rd TRV_SERIAL_serial

/-- The port identity of a fibre's port: clock identity and portNumber. -/
def State.portIdentity (s : State) (f : Nat) : Nat := s.clockId * 65536 + ptpPort f

/-- A time of message in 2^-16 ns as seconds and nanoseconds of IEEE 1588. -/
def ptpTime (t : Nat) : List Byte := beBytes 6 (t / 65536 / 10 ^ 9) ++ beBytes 4 (t / 65536 % 10 ^ 9)

/-- The message of type `typ` that departs on a fibre now, and the state after it (R36, R37, R90): Sync with its origin timestamp, the fraction of it in correctionField; Pdelay_Req, whose departure is kept for its response; Pdelay_Resp with the turnaround time in correctionField; Announce with the grandmaster. What the spec states of no field of an Announce is a free value (log entry 81). -/
def State.ptpBody (s : State) (f typ : Nat) (b : List Nat) : List Byte × State :=
  let g := fun i => b.getD i 0
  let now := s.fclk / 2 ^ 32
  let head := fun t len flags corr seq ctl log => ptpHeader t len flags corr s.clockId (ptpPort f) seq ctl log
  match typ with
  | 0x10 => (head 0 44 0 (now % 65536) (g 0) 0 (s.rd TIM_INTERVALS_log_sync) ++ ptpTime now, s)
  | 0x12 =>
    let x := s.ptp f
    (head 2 54 0 0 (g 0) 5 0x7F ++ zeros 20, s.setPtp f { x with reqs := (s.t16, s.cyc, g 0) :: x.reqs })
  | 0x13 => (head 3 54 0 (ofSigned 64 ((now : Int) - (g 0 : Int))) (g 1) 5 0x7F ++ zeros 10 ++ beBytes 10 (g 2), s)
  | _ =>
    let r := s.takeFree 31
    let own := s.rd TIM_CTRL_mode = 1
    let gm := if own then some (s.clockId, r.1 / 2 ^ 96 % 256) else s.tim.gm
    let q := gm.getD (r.1 / 2 ^ 104 % 2 ^ 64, r.1 / 2 ^ 96 % 256)
    (head 11 64 8 0 (g 0) 5 (s.rd TIM_INTERVALS_log_announce) ++ zeros 10 ++ beBytes 2 (r.1 % 65536) ++ zeros 1 ++ beBytes 1 (r.1 / 2 ^ 16 % 256)
      ++ beBytes 1 q.2 ++ beBytes 3 (r.1 / 2 ^ 24 % 2 ^ 24) ++ beBytes 1 (r.1 / 2 ^ 48 % 256) ++ beBytes 8 q.1 ++ beBytes 2 (r.1 / 2 ^ 56 % 65536)
      ++ beBytes 1 (r.1 / 2 ^ 72 % 256), r.2)

/-! Pulse outputs and captures. -/

/-- A write of TIM_TPO_CFG[n] (R45, R46): enabling TPO3 takes the ball or reads CONFLICT while CLKOBS owns it; where CLKOBS took it in this very cycle, TPO becomes the owner and CLKOBS reads CONFLICT. DESIGN CHOICE (log entry 82): a change of polarity moves no pin by itself; a pulse ends at the inactive level of the polarity then in force. -/
def State.tpoCfg (s : State) (n : Nat) (w : Wr) : State :=
  let was := s.flag TIM_TPO_CFG_enable 0 n
  let s := ((s.put TIM_TPO_CFG_polarity w 0 n).put TIM_TPO_CFG_width w 0 n).put TIM_TPO_CFG_enable w 0 n
  if n ≠ 3 then s else
  let now := s.flag TIM_TPO_CFG_enable 0 3
  let own := s.rd TIM_PIN_OWN_tpo3_owner
  if now ∧ ¬was then
    if own = 2 && s.tim.obsAt = some s.cyc then
      (((((s.wr CLK_OBS_enable 0).wr CLK_OBS_status 1).irq 2 2).wr TIM_PIN_OWN_tpo3_owner 1).wr TIM_TPO_CFG_status 0 0 3)
    else if own = 2 then (s.wr TIM_TPO_CFG_enable 0 0 3).wr TIM_TPO_CFG_status 1 0 3
    else (s.wr TIM_PIN_OWN_tpo3_owner 1).wr TIM_TPO_CFG_status 0 0 3
  else if was ∧ ¬now ∧ own = 1 then s.wr TIM_PIN_OWN_tpo3_owner 0
  else s

/-- TIM_TPO_CFG_WRITE (R46). -/
def execTimTpoCfgWrite (n : Nat) (w : Wr) (s : State) : Host.Outcome State Fault Refusal :=
  hostWrite s 4 (0x200 + 8 * (n % 4)) fun s => s.tpoCfg (n % 4) w

/-- The level of a TPO pin for active or inactive (R60). -/
def State.tpoLevel (s : State) (n : Nat) (active : Bool) : Bool := active != s.flag TIM_TPO_CFG_polarity 0 n

/-- A TPO_EDGE effect on its pin (R45): rejected while not enabled, otherwise the pin is active for its width, restarted without an edge if it already was. -/
def State.tpoEdge (s : State) (n : Nat) : State × Bool :=
  if !s.flag TIM_TPO_CFG_enable 0 n then (s, false) else
  let was := s.tim.tpoEnd.getD n none
  let e := s.cyc + max 1 (s.rd TIM_TPO_CFG_width 0 n)
  let t := { s with tim := { s.tim with tpoEnd := s.tim.tpoEnd.set n (some e) } }
  (if was.isNone then t.emit (.tpo n (s.tpoLevel n true)) else t, true)

/-- TPO_EDGE (R45). -/
def execTpoEdge (u : Nat) (s : State) : Host.Outcome State Fault Refusal :=
  act s (s.effect (u % 32) 1 fun e s => s.tpoEdge (e.arg % 4))

/-- The programmed width has elapsed: the pin returns to inactive (R45). -/
def State.tpoWidthEnd (s : State) (n : Nat) : State :=
  match s.tim.tpoEnd.getD n none with
  | none => s
  | some e =>
    if e ≤ s.cyc then ({ s with tim := { s.tim with tpoEnd := s.tim.tpoEnd.set n none } }).emit (.tpo n (s.tpoLevel n false)) else s

/-- TPO_WIDTH_END (R45). -/
def execTpoWidthEnd (n : Nat) (s : State) : Host.Outcome State Fault Refusal := act s (s.tpoWidthEnd (n % 4))

/-- The first core edge that saw a new level of TCAPm (R47, R48): the time recorded is that of this edge less 4.0 ns. -/
def State.tcapEdge (s : State) (m : Nat) (rising : Bool) : State :=
  let sel := s.rd TIM_TCAP_CFG_edge 0 m
  if !s.flag TIM_TCAP_CFG_enable 0 m || !(if rising then bit sel 0 else bit sel 1) then s
  else if (s.tim.holdEnd.getD m none).any (s.cyc < ·) then s.cnt TIM_TCAP_OVF_count 0 m
  else
    let s := { s with tim := { s.tim with holdEnd := s.tim.holdEnd.set m (some (s.cyc + 40)) } }
    let q := s.tim.fifo.getD m []
    if 4 ≤ q.length then (s.cnt TIM_TCAP_OVF_count 0 m).irq 4 4
    else
      let t := (s.fclk + clkWrap - 4 * NS) % clkWrap
      let e := (rising, t / (10 ^ 9 * NS), t / NS % 10 ^ 9 * 65536 + t / 2 ^ 32 % 65536)
      ({ s with tim := { s.tim with fifo := s.tim.fifo.set m (q ++ [e]) } }).irq 4 (2 + m)

/-- TCAP_EDGE (R47). -/
def execTcapEdge (m : Nat) (rising : Bool) (s : State) : Host.Outcome State Fault Refusal := act s (s.tcapEdge (m % 2) rising)

/-- The hold-off ends 20 ns after the edge that started it (R47). -/
def State.tcapHoldEnd (s : State) (m : Nat) : State :=
  match s.tim.holdEnd.getD m none with
  | none => s
  | some e => if e ≤ s.cyc then { s with tim := { s.tim with holdEnd := s.tim.holdEnd.set m none } } else s

/-- TCAP_HOLDOFF_END (R47). -/
def execTcapHoldoffEnd (m : Nat) (s : State) : Host.Outcome State Fault Refusal := act s (s.tcapHoldEnd (m % 2))

/-- A read of TIM_TCAP_NS[m] pops the oldest capture and copies its seconds (R48); empty, it reads 0. -/
def State.readTcap (s : State) (m : Nat) (z : WSize) : Nat × State :=
  match s.tim.fifo.getD m [] with
  | [] => (0, s)
  | (r, sec, nf) :: t =>
    (2 ^ 63 + (if r then 2 ^ 62 else 0) + nf,
     if z = .lo4 then s else
     ({ s with tim := { s.tim with fifo := s.tim.fifo.set m t } }).wr TIM_TCAP_SEC_sec sec 0 m)

/-- TIM_TCAP_NS_READ (R48). -/
def execTimTcapNsRead (m : Nat) (z : WSize) (s : State) : Host.Outcome State Fault Refusal :=
  hostRead s 4 (0x308 + 0x20 * (m % 2)) fun s => let r := s.readTcap (m % 2) z; r.2.emit (.readData (WSize.part z r.1))

end Sys2Proof.Machine
end

