-- ==== Sys2Proof/Machine/Fwd.lean ====
section
/-! DEFINITION. Forwarding: buffers of POOL_CELL, table lookups, learning, the resolution of a waybill, packets the module originates, and NAKs (R70 to R82, R92 to R114, R119, R136, R140 to R142). -/

namespace Sys2Proof.Machine

/-! Pools. -/

/-- LP_CFG of R116, as a table code. -/
def TB_LPCFG : Nat := 5
/-- Free buffers of a pool changed to `v`, the low-water mark with them (R157). -/
def State.setFree (s : State) (p v : Nat) : State :=
  let s := s.wr BPM_POOL_free v 0 p
  if v < s.rd BPM_POOL_low_water 0 p then s.wr BPM_POOL_low_water v 0 p else s

/-- A request of pool `p` failed (R141). -/
def State.poolFail (s : State) (p : Nat) : State := (s.cnt BPM_FAIL_count 0 p).irq 10 1

/-- The pool that serves a request of `n` bytes in GDDR7 or on-die: the smallest buffer of the medium that holds it; none where every pool of the medium is too small (R140). -/
def poolFor (gddr : Bool) (n : Nat) : Option Nat :=
  if gddr then (if n ≤ 65536 then some 2 else if n ≤ 1048576 then some 3 else none)
  else if n ≤ 256 then some 0 else if n ≤ 4096 then some 1 else none

/-- A request for a buffer of `n` bytes has failed; one larger than every pool counts at the largest (R140, R141). -/
def State.allocFail (s : State) (gddr : Bool) (n : Nat) : State := s.poolFail ((poolFor gddr n).getD (if gddr then 3 else 1))

/-- The allocated buffers of a pool: those whose state bit is set (R142). -/
def State.used (s : State) (p : Nat) : List Nat := s.pool.used.getD [] p

/-- The buffers of a pool freed in this cycle, which none of its allocations may use (R142). -/
def State.fresh (s : State) (p : Nat) : List Nat := if s.pool.at_ = s.cyc then s.pool.freed.getD [] p else []

/-- Buffers of a pool that can be allocated in this cycle (R142). -/
def State.avail (s : State) (p : Nat) : Nat := s.rd BPM_POOL_free 0 p - (s.fresh p).length

/-- The `k` lowest numbers in neither list. -/
def lowest (a b : List Nat) (k : Nat) : List Nat := ((List.range (k + a.length + b.length)).filter fun i => !a.contains i && !b.contains i).take k

/-- `k` buffers for requests of `n` bytes each: their numbers, the lowest that serve (DESIGN CHOICE, log entry 76); none where the pool has too few (R140, R142). -/
def State.alloc (s : State) (gddr : Bool) (n k : Nat) : Option (List Nat × State) :=
  match poolFor gddr n with
  | none => none
  | some p =>
    if s.avail p < k then none else
    let l := lowest (s.used p) (s.fresh p) k
    some (l, { s.setFree p (s.rd BPM_POOL_free 0 p - k) with pool := { s.pool with used := s.pool.used.set [] p (l.foldl (fun u i => insNat i u) (s.used p)) } })

/-- A free of a buffer that is free changes nothing and is counted, located and raised (R142). -/
def State.doubleFree (s : State) (p i : Nat) : State :=
  ((((s.cnt BPM_DOUBLE_FREE_count).wr BPM_DF_LOC_pool p).wr BPM_DF_LOC_index i).wr BPM_DF_LOC_valid 1).irq 10 0

/-- A buffer is freed (R142). -/
def State.freeBuf (s : State) (p i : Nat) : State :=
  if (s.used p).contains i then
    let f := s.fresh p
    { s.setFree p (s.rd BPM_POOL_free 0 p + 1) with
      pool := { used := s.pool.used.set [] p ((s.used p).filter (· ≠ i)), freed := (if s.pool.at_ = s.cyc then s.pool.freed else []).set [] p (i :: f), at_ := s.cyc } }
  else s.doubleFree p i

/-- Buffers of a pool are freed. -/
def State.freeBufs (s : State) (p : Nat) (l : List Nat) : State := l.foldl (fun s i => s.freeBuf p i) s

/-- Cells a virtual channel of a logical port holds in the ingress part of the buffer (R136, R139). -/
def State.vcHeld (s : State) (lp vc : Nat) : Nat :=
  ((s.flights.filter fun x => x.loc = .voq ∧ x.arr = some lp ∧ x.vc = vc).map (·.cells)).sum

/-- Cells granted to a virtual channel beyond its reserve (R336). -/
def State.granted (s : State) (lp vc : Nat) : Nat := (s.rx lp).grant.getD vc 0

/-- The pairs of port and virtual channel that hold ingress cells. -/
def State.heldVcs (s : State) : List (Nat × Nat) :=
  (s.flights.filterMap fun x => if x.loc = .voq then x.arr.map (fun p => (p, x.vc)) else none).eraseDups

/-- Cells reserved: 17 for each virtual channel of every enabled port, and those granted (R136, R336). -/
def State.reserved (s : State) : Nat :=
  272 * ((List.range 1024).filter fun p => s.flag LP_CFG_enable 0 p).length + ((s.link.rx.map fun x => x.2.grant.sum).sum)

/-- The part of the reserve in use (R136). -/
def State.reserveUsed (s : State) : Nat :=
  (s.heldVcs.map fun (p, v) => if s.flag LP_CFG_enable 0 p then min (s.vcHeld p v) (17 + s.granted p v) else min (s.vcHeld p v) (s.granted p v)).sum

/-- The shared free space F (R136). -/
def State.sharedFree (s : State) : Nat := s.rd BPM_POOL_free 0 0 - (s.reserved - s.reserveUsed)

/-- `n` cells can be had from the shared space. -/
def State.sharedRoom (s : State) (n : Nat) : Bool := n ≤ s.sharedFree && n ≤ s.avail 0

/-- Take `n` cells from the shared space, or fail (R141). -/
def State.takeShared (s : State) (n : Nat) : Option (List Nat × State) := if n ≤ s.sharedFree then s.alloc false 256 n else none

/-- The `n` cells of a packet arriving on a virtual channel can be had: its reserve first, then the shared space (R136). -/
def State.vcRoom (s : State) (lp vc n : Nat) : Bool :=
  let res := (if s.flag LP_CFG_enable 0 lp then 17 else 0) + s.granted lp vc
  n - (res - s.vcHeld lp vc) ≤ s.sharedFree

/-- Take them, or fail (R141). -/
def State.takeVc (s : State) (lp vc n : Nat) : Option (List Nat × State) := if s.vcRoom lp vc n then s.alloc false 256 n else none

/-- Credits of freed ingress cells return to the neighbour (R139); below grant_min they first give back what was granted (R336). -/
def State.returnCredit (s : State) (lp vc n : Nat) : State :=
  let x := s.rx lp
  let g := x.grant.getD vc 0
  let k := if s.sharedFree < s.rd LNK_CREDIT_CFG_grant_min (s.portFibre lp / 8) then min g n else 0
  s.setRx lp { x with grant := x.grant.set vc (g - k), count := x.count.set vc (x.count.getD vc 0 + (n - k)) }

/-- The port whose neighbour's credits a packet holds: none for one the module sent, or routed again, whose credits returned when it first crossed. -/
def Flight.credit (x : Flight) : Option Nat := if x.reroute.isSome then none else x.arr

/-- The credits behind a packet return, where it holds some (R139). -/
def State.giveCredit (s : State) (x : Flight) : State := match x.credit with | some lp => s.returnCredit lp x.vc x.cells | none => s

/-- A packet leaves the buffer: its cells are freed, and its ingress credits return if it had not crossed yet (R139). -/
def State.dropFlight (s : State) (x : Flight) : State :=
  let s : State := ({ s with flights := s.flights.filter fun y => y.id ≠ x.id } : State).freeBufs 0 x.bufs
  if x.loc = .voq then s.giveCredit x else s

/-- The packet of a number, if the module holds it. -/
def State.flight (s : State) (id : Nat) : Option Flight := s.flights.find? fun x => x.id = id

/-- Replace a packet's record in place. -/
def State.setFlight (s : State) (x : Flight) : State := { s with flights := s.flights.map fun y => if y.id = x.id then x else y }

/-- Move a packet to a new place: it becomes the last to have arrived there. -/
def State.moveFlight (s : State) (x : Flight) (l : Loc) : State :=
  { s with flights := (s.flights.filter fun y => y.id ≠ x.id) ++ [{ x with loc := l, since := s.cyc }] }

/-! Table reads with parity (R119). -/

/-- A parity error in an entry read for forwarding: counted, located, raised (R119). -/
def State.parityErr (s : State) (pipe t idx : Nat) : State :=
  (((s.cnt FWD_PARITY_count pipe).wr FWD_PARITY_LOC_table t pipe).wr FWD_PARITY_LOC_index idx pipe).irq (0x40 + pipe) 1

/-- A port is enabled, LP_CFG parity taken into account. -/
def State.lpEnabled (s : State) (pipe lp : Nat) : Bool := s.flag LP_CFG_enable 0 lp && !s.isBad TB_LPCFG 0 lp 0 pipe

/-- Count an LP_CFG parity error met by a pipeline. -/
def State.lpParity (s : State) (pipe lp : Nat) : State := if s.isBad TB_LPCFG 0 lp 0 pipe then s.parityErr pipe 5 lp else s

/-- The fibre of a port is being drained or is quiet for a bypass (R358). -/
def State.portBarred (s : State) (lp : Nat) : Bool := s.byp.barred.contains (s.portFibre lp)

/-- Eligible port (R97). -/
def State.eligible (s : State) (pipe lp : Nat) : Bool :=
  s.lpEnabled pipe lp && s.flag LP_CFG_elig 0 lp && s.flag LP_CFG_link_up 0 lp && !s.portBarred lp

/-- A slice bit of an admission bitmap as admission reads it (R103, R104): 0 for a slice not in force, 0 on a parity error. -/
def State.admits (s : State) (t pipe lp sl : Nat) : Bool × State :=
  let idx := lp * 64 + sl / 64
  if s.sliceState sl ≠ 1 then (false, s)
  else if s.isBad t 0 idx 0 pipe then (false, s.parityErr pipe t idx)
  else (bit (s.tget t 0 idx 0) (sl % 64), s)

/-! Spray choice. -/

/-- The cells queued for a port as QSH last published them (R146). -/
def State.load (s : State) (lp : Nat) : Nat := s.qsh.load.getD 0 lp

/-- One advance of the generator and the index it gives among `n` (R99). -/
def sprayDraw (st n : Nat) : Nat × Nat :=
  let a := st ^^^ (st >>> 13)
  let b := (a ^^^ (a <<< 7)) % 2 ^ 64
  let c := b ^^^ (b >>> 17)
  let r := c * 0x8A5CD789635D2DFF % 2 ^ 64
  (((r >>> 32) * n) >>> 32, c)

/-- The generator state of a pipeline; zero is taken as 1 (R99). -/
def State.gen (s : State) (pipe : Nat) : Nat := let g := s.fwd.gen.getD 1 pipe; if g = 0 then 1 else g

/-- The 12-byte flow key of R100 with the given bytes 9 to 11. -/
def flowKey (p : Pkt) (ctx salt : Nat) : List Byte :=
  leBytes 3 p.src ++ leBytes 3 p.dst ++ leBytes 2 (p.slice % 4096) ++ leBytes 1 p.tc ++ leBytes 2 ctx ++ leBytes 1 salt

/-- One eligible member chosen (R98 to R100): least loaded of two draws, or the flow hash. -/
def State.sprayPick (s : State) (pipe : Nat) (p : Pkt) (el : List Nat) : Nat × State :=
  let n := el.length
  if bit (s.rd FWD_SPRAY_MODE_mode) p.tc then
    let ctx := if s.flag FWD_HASH_CFG_use_ctx then p.ctx else 0
    let h := crc32c (flowKey p ctx (s.rd FWD_HASH_CFG_salt))
    (el.getD (h % 65536 * n / 65536) 0, s)
  else
    let a := sprayDraw (s.gen pipe) n
    let b := sprayDraw a.2 n
    let s := { s with fwd := { s.fwd with gen := s.fwd.gen.put pipe b.2 } }
    let x := el.getD a.1 0
    let y := el.getD b.1 0
    (if s.load y < s.load x then y else x, s)

/-! Resolution. -/

/-- Why a resolution fails: the counter of the pipeline's page and the NAK reason (R92). -/
abbrev DropWhy := RegD × Nat

/-- A resolution in progress: a drop, or a destination with the packet as it leaves the pipeline. -/
abbrev Resolved := Except DropWhy (Dest × Pkt)

/-- The current entry is consumed (R72). -/
def consume (p : Pkt) : Pkt := if p.hopPtr = p.hopCount then { p with wbDone := 1 } else { p with hopPtr := p.hopPtr + 1 }

/-- A named logical port as an exit (R93): disabled, not eligible, or taken. -/
def State.toPort (s : State) (pipe lp : Nat) (p : Pkt) : Resolved × State :=
  let s := s.lpParity pipe lp
  if !s.lpEnabled pipe lp then (.error (FWD_DROP_NOROUTE_count, 2), s)
  else if !s.eligible pipe lp then (.error (FWD_DROP_NOPORT_count, 8), s)
  else (.ok (.lp lp, p), s)

/-- Member `i` of a spray-set bank (R116). -/
def State.sprayMember (s : State) (b set i : Nat) : Nat := fld (s.tget TB_SPRAY b set (1 + i / 6)) (10 * (i % 6)) 10

/-- A spray set as an exit (R96, R98, R101, R119). -/
def State.toSpray (s : State) (pipe set : Nat) (p : Pkt) : Resolved × State :=
  let b := p.epoch
  let w0 := s.tget TB_SPRAY b set 0
  if s.isBad TB_SPRAY b set 0 pipe then (.error (FWD_DROP_NOROUTE_count, 2), s.parityErr pipe 1 set)
  else if fld w0 0 12 ≠ p.slice then (.error (FWD_DROP_SLICE_count, 3), s)
  else if fld w0 16 7 = 0 then (.error (FWD_DROP_NOROUTE_count, 2), s)
  else
    let ms := List.range (fld w0 16 7)
    let s := (List.range 11).foldl (fun s w => if s.isBad TB_SPRAY b set (1 + w) pipe && w * 6 < fld w0 16 7 then s.parityErr pipe 1 set else s) s
    let el := (ms.filter fun i => !s.isBad TB_SPRAY b set (1 + i / 6) pipe).map (s.sprayMember b set)
    let s := el.eraseDups.foldl (fun s lp => s.lpParity pipe lp) s
    let el := el.filter (s.eligible pipe)
    if el = [] then (.error (FWD_DROP_NOPORT_count, 8), s)
    else let r := s.sprayPick pipe p el; (.ok (.lp r.1, p), r.2)

/-- Low bit and width of a dimension's field in an endpoint ID (R74). -/
def dimField (d : Nat) : Nat × Nat := [(20, 4), (14, 6), (8, 6), (4, 4), (2, 2), (0, 2)].getD d (0, 0)

/-- The first dimension from `a` to `b` in which the destination differs from this module (R94). -/
def State.dimHop (s : State) (dst a b : Nat) : Option Nat :=
  (List.range 6).find? fun d =>
    a ≤ d && d ≤ b && fld dst (dimField d).1 (dimField d).2 ≠ fld s.self (dimField d).1 (dimField d).2

/-- A dimension-table entry as an exit (R94, R95). -/
def State.toDim (s : State) (pipe d : Nat) (p : Pkt) : Resolved × State :=
  let idx := p.slice * 512 + d * 64 + fld p.dst (dimField d).1 (dimField d).2
  let e := s.tget TB_DIM p.epoch idx 0
  if s.isBad TB_DIM p.epoch idx 0 pipe then (.error (FWD_DROP_NOROUTE_count, 2), s.parityErr pipe 2 idx)
  else match fld e 14 2 with
    | 1 => s.toPort pipe (fld e 0 10) p
    | 2 => s.toSpray pipe (fld e 0 14) p
    | _ => (.error (FWD_DROP_NOROUTE_count, 2), s)

/-- The logical core that owns a chunk (R166). -/
def State.owner (s : State) (ctx chunk : Nat) : Nat := ((s.ctxCores ctx).1 + chunk % (s.ctxCores ctx).2) % 64

/-- A local delivery by target and kind (R102). -/
def State.toLocal (s : State) (target : Nat) (p : Pkt) : Resolved :=
  if p.kind = 4 then .ok (.bcast, p)
  else if target = 0 ∧ (p.kind = 1 ∨ p.kind = 3 ∨ p.kind = 6) then .ok (.serai (if (s.ctxCores p.ctx).2 = 0 then (s.ctxCores p.ctx).1 else s.owner p.ctx p.chunk), p)
  else if target = 1 ∧ (p.kind = 0 ∨ p.kind = 3 ∨ p.kind = 5) then .ok (.host, p)
  else .error (FWD_DROP_KIND_count, 1)

/-- A type 2 entry is laid out wrongly (R73). -/
def dimBad (e : Nat) : Bool := fld e 0 3 < fld e 3 3 || 5 < fld e 0 3 || 5 < fld e 3 3

/-- Entries resolved in turn until one yields a logical port or a local delivery (R72, R93). -/
def State.resolve : Nat → Nat → Pkt → State → Resolved × State
  | 0, _, _, s => (.error (FWD_DROP_WAYBILL_count, 2), s)
  | f + 1, pipe, p, s =>
    let e := p.waybill.getD p.hopPtr 0
    match fld e 14 2 with
    | 0 => s.toPort pipe (fld e 0 10) (consume p)
    | 1 => s.toSpray pipe (fld e 0 14) (consume p)
    | 2 =>
      if dimBad e then (.error (FWD_DROP_WAYBILL_count, 2), s) else
      match s.dimHop p.dst (fld e 3 3) (fld e 0 3) with
      | some d => s.toDim pipe d p
      | none =>
        if p.hopPtr = p.hopCount then (.error (FWD_DROP_WAYBILL_count, 2), s)
        else State.resolve f pipe (consume p) s
    | _ => (s.toLocal (fld e 0 1) (consume p), s)

/-! Learning (R111 to R113). -/

/-- Return-table set of an endpoint (R111). -/
def retSet (ep : Nat) : Nat := crc32c (leBytes 3 ep) % 65536

/-- Index of a way of a pipeline's set in the table store. -/
def retIdx (pipe set way : Nat) : Nat := pipe * 262144 + set * 4 + way

/-- A return entry (R116): endpoint, port, slice, age, static, valid. -/
def retWord (ep lp sl age st : Nat) : Nat := ep ||| lp <<< 24 ||| sl <<< 34 ||| age <<< 46 ||| st <<< 48 ||| 1 <<< 49

/-- The entry of a way. -/
def State.retGet (s : State) (pipe set way : Nat) : Nat := s.tget TB_RETURN 0 (retIdx pipe set way) 0

/-- Write the entry of a way; its parity is good again. -/
def State.retPut (s : State) (pipe set way v : Nat) : State :=
  (s.tset TB_RETURN 0 (retIdx pipe set way) 0 v).mend TB_RETURN 0 (retIdx pipe set way) 0

/-- A valid way holding the endpoint. -/
def State.retFind (s : State) (pipe ep : Nat) : Option Nat :=
  (List.range 4).find? fun w => let e := s.retGet pipe (retSet ep) w; bit e 49 && fld e 0 24 = ep

/-- The way a new entry takes: an invalid one, else the non-static one of highest age, the lowest of equals (R112). -/
def State.retVictim (s : State) (pipe set : Nat) : Option Nat :=
  match (List.range 4).find? (fun w => !bit (s.retGet pipe set w) 49) with
  | some w => some w
  | none =>
    (List.range 4).foldl (fun best w =>
      let e := s.retGet pipe set w
      if bit e 48 then best else
      match best with
      | none => some w
      | some b => if fld (s.retGet pipe set b) 46 2 < fld e 46 2 then some w else best) none

/-- Learn an endpoint on a port (R112). -/
def State.learn (s : State) (pipe lp ep sl : Nat) : State :=
  if !s.flag FWD_CTRL_learn_en pipe || !s.flag LP_CFG_learn_en 0 lp then s else
  match s.retFind pipe ep with
  | some w =>
    if bit (s.retGet pipe (retSet ep) w) 48 then s
    else (s.retPut pipe (retSet ep) w (retWord ep lp sl 0 0)).cnt FWD_RET_LEARN_count pipe
  | none =>
    match s.retVictim pipe (retSet ep) with
    | some w => (s.retPut pipe (retSet ep) w (retWord ep lp sl 0 0)).cnt FWD_RET_LEARN_count pipe
    | none => s.cnt FWD_RET_FULL_count pipe

/-- The waybill of an answer, from the return table of the pipeline that received the packet answered (R114): entries and hop_count. -/
def State.answerRoute (s : State) (pipe ep : Nat) : (List Nat × Nat) × State :=
  match s.retFind pipe ep with
  | none => (([0x8005], 0), s.cnt FWD_RET_MISS_count pipe)
  | some w =>
    let idx := retIdx pipe (retSet ep) w
    if s.isBad TB_RETURN 0 idx 0 pipe then
      let s := (s.parityErr pipe 0 (idx % 262144)).retPut pipe (retSet ep) w 0
      (([0x8005], 0), s.cnt FWD_RET_MISS_count pipe)
    else
      let lp := fld (s.retGet pipe (retSet ep) w) 24 10
      let s := (s.cnt FWD_RET_HIT_count pipe).lpParity pipe lp
      if s.eligible pipe lp then (([lp, 0x8005], 1), s) else (([0x8005], 0), s)

/-! Queue groups and core ports. -/

/-- The queue group firmware gives a slice at start-up (R144). -/
def qgDefault (sl : Nat) : Nat := crc32c (leBytes 2 sl) % 32

/-- The QG_MAP entry of a slice; the store keeps it XOR its default, as the datum covers it (R378). -/
def State.qgroup (s : State) (sl : Nat) : Nat := fld (s.tget TB_QGMAP 0 sl 0) 0 5 ^^^ qgDefault sl

/-- A packet's queue group (R144); a parity error gives group 0 (R159). -/
def State.queueGroup (s : State) (sl : Nat) : Nat × State :=
  if s.isBad TB_QGMAP 0 sl 0 16 then (0, (s.cnt QSH_PARITY_count).irq 11 3) else (s.qgroup sl, s)

/-- Egress queue number (R144). -/
def queueNo (lp tc g : Nat) : Nat := (lp * 8 + tc) * 32 + g

/-- The core ports a logical port occupies (R17, R126). -/
def State.portCores (s : State) (lp : Nat) : List Nat :=
  let ls := s.portLanes lp
  let f := ls.headD 0 / 16
  (if ls.any (· % 16 < 8) then [2 * f] else []) ++ (if ls.any (8 ≤ · % 16) then [2 * f + 1] else [])

/-- The packet lies in a spill chain. -/
def Loc.spilled : Loc → Bool
  | .spill _ _ => true
  | _ => false

/-- Cells queued for output on a core port: those the packet buffer holds on the way to it, cells in spill not among them (R126). -/
def State.coreCells (s : State) (c : Nat) : Nat :=
  ((s.flights.filter fun x => x.outCore = c && x.loc ≠ .local && !x.loc.spilled).map (·.cells)).sum

/-- A core port carries cells: not a lane-facing one of a fibre in bypass (R20, R365). -/
def State.coreOpen (s : State) (c : Nat) : Bool := 128 ≤ c || !s.bypassed (c / 2)

/-- The core port by which a packet the module enters on a pipeline's account comes in, which the spec leaves open: the first port of the pipeline's first fibre not in bypass, of the module's first where the pipeline has none (DESIGN CHOICE, log entry 85). -/
def State.pipeCore (s : State) (pipe : Nat) : Nat :=
  2 * ((((List.range 4).map (4 * pipe + ·)) ++ List.range 64).find? (fun f => !s.bypassed f)).getD (4 * pipe)

/-- The core port on which a packet received on a port enters the crossbar: of two, as R17 spreads packets over them, the one with fewer cells waiting at its input, the lower of equals (DESIGN CHOICE, log entry 85). -/
def State.inCoreOf (s : State) (lp : Nat) : Nat :=
  let n := fun c => ((s.flights.filter fun x => x.loc = .voq && x.inCore = c).map (·.cells)).sum
  match s.portCores lp with
  | [a, b] => if n b < n a then b else a
  | a :: _ => a
  | [] => 0

/-- The output core port of a destination; of a fibre's two, the one with fewer cells queued for output (R126), the lower-numbered of equals (DESIGN CHOICE, log entry 85). -/
def State.outCore (s : State) (d : Dest) : Nat :=
  match d with
  | .lp p =>
    match s.portCores p with
    | [a, b] => if s.coreCells b < s.coreCells a then b else a
    | a :: _ => a
    | [] => 0
  | .serai c => 128 + c
  | .host => 191
  | .bcast => 191

/-- Enter a packet that has completed step 9, in POOL_CELL buffers `bufs` (R92, R133): it takes its place in the order, by cycle and ascending pipeline, and waits in its virtual output queue; a broadcast goes to its function. -/
def State.enter (s : State) (p : Pkt) (pipe inCore : Nat) (arr : Option Nat) (vc : Nat) (d : Dest) (bufs : List Nat)
    (hop0 : Nat := 0) (own : Bool := false) (ans : Bool := false) : State :=
  let x : Flight := { id := s.nextId, pkt := p, pipe := pipe, arr := arr, vc := vc, dest := d, inCore := inCore, outCore := s.outCore d,
                      hop0 := hop0, own := own, ans := ans, bufs := bufs,
                      order := s.cyc * 16 + pipe, cells := cellCount p.length, since := s.cyc, loc := if d = .bcast then .local else .voq }
  let s := { s with flights := s.flights ++ [x], nextId := s.nextId + 1 }
  let s := (s.event (0x40 + pipe) 0x10 (some p.tc)).event (0x40 + pipe) 0x11 (some p.tc) (wireLen p.length)
  match arr, d with
  | some lp, .bcast => s.returnCredit lp vc (cellCount p.length)
  | _, _ => s

/-! Packets the module originates. -/

/-- Header fields every originated packet carries: the module as `src`, the current epoch of its slice (R105), origin_time (R83), its checks (R84). -/
def State.seal (s : State) (p : Pkt) : Pkt :=
  let p := { p with ver := 2, src := s.self, length := p.payload.length, originTime := s.origin, e2e := e2eOf p.payload,
                    epoch := s.rd FWD_SLICE_EPOCH_cur_epoch 0 p.slice, poisonAny := if p.poisonMap = 0 then 0 else 1 }
  { p with hdrCrc := p.calcHdrCrc }

/-- The cells of an originated packet cannot be had: what its requester then does (R141). -/
inductive OrigFail where
  | lost | stall
deriving DecidableEq, Repr

/-- What became of a packet to be sent: handed to the crossbar, dropped in step 9 of R92, or to be tried again (R141). -/
inductive Sent where
  | handed | dropped | again
deriving DecidableEq, Repr

/-- A request for cells that fails: tried again, or the packet is lost (R141). -/
def OrigFail.sent : OrigFail → Sent
  | .stall => .again
  | .lost => .dropped

/-- A packet the module originates: stamped, resolved and counted by pipeline `pipe` (R114), given cells from the shared space, and entered. The answer says what became of it; a packet that does not resolve is dropped and counted, without NAK. -/
def State.originate (s : State) (p : Pkt) (pipe inCore : Nat) (why : OrigFail) (ans : Bool := false) : Sent × State :=
  let p := s.seal p
  if !s.sharedRoom (cellCount p.length) then
    (why.sent, s.poolFail 0)
  else
    let r := s.resolve 9 pipe p
    match r.1 with
    | .error (c, _) => (.dropped, r.2.cnt c pipe)
    | .ok (d, p') =>
      match r.2.takeShared (cellCount p.length) with
      | some (b, s) => (.handed, s.enter p' pipe inCore none 0 d b 0 true ans)
      | none => (why.sent, r.2.poolFail 0)

/-- The 16 bytes of a kind 3 payload, followed by its bitmap (R81). -/
def ackPayload (code reason : Nat) (bitmap : List Byte) (refSeq refSrc refKind refTc : Nat) : List Byte :=
  leBytes 4 (code ||| reason <<< 8 ||| bitmap.length <<< 16) ++ leBytes 4 refSeq ++ leBytes 4 (refSrc ||| refKind <<< 24 ||| refTc <<< 28)
    ++ leBytes 4 0 ++ bitmap

/-- Class of a kind 3 answer (R68). -/
def ackTc (p : Pkt) : Nat := if p.kind = 1 ∨ p.kind = 2 ∨ p.kind = 4 ∨ p.kind = 6 then 1 else p.tc

/-- An answer to a received packet (R80, R81, R114): kind 3, its fields copied, routed by the return table of the pipeline that received it. Its own flow sequence number is not stated (log entry 1). -/
def State.answerPkt (s : State) (p : Pkt) (pipe code reason : Nat) (bitmap : List Byte := []) : Pkt × State :=
  let r := s.answerRoute pipe p.src
  let f := r.2.takeFree 4
  ({ kind := 3, tc := ackTc p, slice := p.slice, dst := p.src, waybill := r.1.1, hopCount := r.1.2, seq := f.1 % 2 ^ 32,
     ctx := p.ctx, member := p.member, attempt := p.attempt, chunk := p.chunk,
     payload := ackPayload code reason bitmap p.seq p.src p.kind p.tc }, f.2)

/-- An answer is sent; lost when no cell is free (R141). No NAK goes to the module's own endpoint ID (R92). -/
def State.answer (s : State) (p : Pkt) (pipe code reason : Nat) (bitmap : List Byte := []) : State :=
  if code = 1 ∧ p.src = s.self then s else
  let r := s.answerPkt p pipe code reason bitmap
  (r.2.originate r.1 pipe (r.2.pipeCore pipe) .lost true).2

/-- A packet of kind 1, 2, 4 or 6 dropped by a check is answered with a NAK while nak_en = 1 on the pipeline that received it, never toward the module's own endpoint (R92). -/
def State.nak (s : State) (p : Pkt) (pipe reason : Nat) : State :=
  if (p.kind = 1 ∨ p.kind = 2 ∨ p.kind = 4 ∨ p.kind = 6) ∧ s.flag FWD_CTRL_nak_en pipe then s.answer p pipe 1 reason else s

end Sys2Proof.Machine
end

