-- ==== Sys2Proof/Machine/Port.lean ====
section
/-! DEFINITION. The two sides of a logical port: retry sequences, blocks and banks, acknowledgements, replays, credits (R329 to R336). -/

namespace Sys2Proof.Machine

/-- The number the neighbour gives a port, from the control codewords received on its lanes (R331). -/
def State.farPort (s : State) (lp : Nat) : Option Nat := (s.portLanes lp).findSome? fun l => (s.laneX l).farPort

/-- Send a RETRY_ACK, RETRY_REQ or CREDIT for a port; none before the neighbour's number for it is known (R331). -/
def State.sendPortLmf (s : State) (lp typ : Nat) (body : List Nat) : State :=
  match s.farPort lp with
  | none => s
  | some q => s.sendLmf (s.portFibre lp) { typ := typ, port := q, body := q :: body }

/-- Sequence `a` is at or before `b`, both modulo 2^32 and less than half the range apart. -/
def seqLe (a b : Nat) : Bool := (b + 2 ^ 32 - a % 2 ^ 32) % 2 ^ 32 < 2 ^ 31

/-- Virtual channel index of a class toward a direction, 0 up and 1 down (R67). -/
def vcOf (tc dir : Nat) : Nat := 2 * tc + dir

/-- The direction of a port's neighbour, from the plat (R67). -/
def State.portDir (s : State) (lp : Nat) : Nat := s.rd TRV_PLAT_direction 0 (s.portFibre lp)

/-- Credits the sender holds on a virtual channel (R336). -/
def State.credits (s : State) (lp vc : Nat) : Nat :=
  let x := s.tx lp
  17 + x.count.getD vc 0 - x.used.getD vc 0

/-- Blocks a lane's retry bank holds (R334). -/
def PortTx.bank (x : PortTx) (l : Nat) : Nat := (x.blocks.filter fun b => b.lane = l).length

/-- The packets whose bytes have not all gone, the one being cut first (R329, R333). -/
def PortTx.todo (x : PortTx) : List HeldPkt := x.held.filter fun h => seqLe x.cur h.seq

/-- Bytes handed over that no block has taken yet. -/
def PortTx.backlog (x : PortTx) : Nat := (x.todo.map fun h => wireLen h.fl.pkt.length).sum - x.off

/-- What a block takes: its bytes, the index of the first word that begins a packet, the packet whose bytes go next and how many of them have gone, and the last packet with a word in it. -/
structure Cut where
  bytes : List Byte := []
  start : Nat := 127
  cur : Nat
  off : Nat
  last : Nat
deriving DecidableEq, Repr

/-- Fill a block of 640 bytes from the packets that follow one another in the stream (R329). -/
def cutBlock : List HeldPkt → Cut → Cut
  | [], c => c
  | h :: t, c =>
    let w := h.fl.pkt.wire.drop c.off
    let room := 640 - c.bytes.length
    if room = 0 then c else
    let st := if c.off = 0 && c.start = 127 then c.bytes.length / 8 else c.start
    if w.length ≤ room then cutBlock t { bytes := c.bytes ++ w, start := st, cur := (h.seq + 1) % 2 ^ 32, off := 0, last := h.seq }
    else { bytes := c.bytes ++ w.take room, start := st, cur := h.seq, off := c.off + room, last := h.seq }

/-- The next data block of a port and the sending side after it, given to lane `l` (R327, R329, R333, R334): idle words fill what the packets leave; none where nothing waits to be sent. -/
def PortTx.cut (x : PortTx) (l : Nat) : Option (Nat × PortTx) :=
  match x.todo with
  | [] => none
  | h :: t =>
    let c := cutBlock (h :: t) { cur := h.seq, off := x.off, last := h.seq }
    some (message (if x.restart then 3 else 1) c.start x.block (padTo 640 c.bytes),
      { x with cur := c.cur, off := c.off, restart := false, block := (x.block + 1) % 2 ^ 32,
               blocks := x.blocks ++ [{ no := x.block, lane := l, first := h.seq, last := c.last }] })

/-- The lanes of a port that may start data now: none on a fibre that is QUIET for a bypass (R359) or past the cutoff of a neighbour's (R362); not a lane in a transmit hold window (R341). -/
def State.portSend (s : State) (lp : Nat) : List Nat :=
  let f := s.portFibre lp
  if s.rd BYP_FIBRE_state 0 f = 2 || (s.fib f).cuts.any (fun k => !k.done && k.c ≤ s.fclk + 2000 * NS + s.mldClk f) then []
  else (s.portService lp).filter fun l => !s.laneHeld l

/-- Half nanoseconds a packet needs on `n` lanes (R152). -/
def sendHalf (len n : Nat) : Nat := (len * 16 + n * 200 - 1) / (n * 200)

/-- Hand a packet to the link layer of a port (R331, R333, R336): it takes the next retry sequence, consumes its credits and is kept until acknowledged. None where the packets handed over fill the next block of every lane already (log entry 25). -/
def State.handTx (s : State) (lp : Nat) (x : Flight) (vc : Nat) : Option State :=
  let t := s.tx lp
  let h : HeldPkt := { seq := t.seq, vc := vc, fl := x }
  if 640 * (s.portSend lp).length ≤ t.backlog then none else
  some (s.setTx lp { t with seq := (t.seq + 1) % 2 ^ 32, held := t.held ++ [h], used := t.used.set vc (t.used.getD vc 0 + x.cells),
                            ackAt := if t.held.isEmpty then s.cyc else t.ackAt })

/-- A RETRY_ACK covers every packet up to `q` (R333, R334); a packet that is half sent again stays until its last byte has gone. -/
def State.ackTx (s : State) (lp q : Nat) : State :=
  let t := s.tx lp
  let keep := t.held.filter fun h => !seqLe h.seq q || (h.seq = t.cur && t.off ≠ 0)
  if keep.length = t.held.length then s else
  s.setTx lp { t with held := keep, blocks := t.blocks.filter fun b => !seqLe b.last q, ackAt := s.cyc, replays := 0,
                      cur := if t.off = 0 && seqLe t.cur q then (q + 1) % 2 ^ 32 else t.cur }

/-- Send again from packet `q` on, ahead of packets not yet sent: the block in progress ends, and `q` begins a block of kind 3 (R270, R333). -/
def PortTx.again (x : PortTx) (q : Nat) : PortTx := { x with cur := q, off := 0, restart := true }

/-- Replay every packet held from `q` on (R333). -/
def State.replay (s : State) (lp q : Nat) : State :=
  let t := s.tx lp
  (s.setTx lp { t.again q with ackAt := s.cyc, replays := t.replays + 1 }).cnt LNK_REPLAY_count (s.portFibre lp / 8)

/-- Ask for a replay from the first sequence not accepted (R332). -/
def State.askReplay (s : State) (lp : Nat) : State :=
  let x := s.rx lp
  (s.setRx lp { x with req := some s.cyc, buf := [], from_ := [] }).sendPortLmf lp 0x41 [x.expect]

/-- A lane lies in an open receive hold window (R319). -/
def State.laneRxHeld (s : State) (l : Nat) : Bool := (s.fib (l / 16)).rxHold.any fun h => h.isOpen && h.lanes.contains l

/-- A codeword's outcome in the FEC counters (R348), a corrected one counted by event 0x12 (R490); an uncorrectable one counts toward UCW outside a receive hold window (R319, R337). -/
def State.fecCount (s : State) (l : Nat) (w : Option (Nat × Bool)) : State :=
  match w with
  | some (_, false) => s
  | some (_, true) => (s.cnt LNK_LANE_FEC_corrected (l / 128) (l % 128)).event (0x38 + l / 128) 0x12
  | none =>
    let s := s.cnt LNK_LANE_FEC_uncorrectable (l / 128) (l % 128)
    if s.laneRxHeld l then s else
    let x := s.laneX l
    s.setLaneX l { x with ucw := (x.ucw.filter fun c => s.cyc < c + msCyc 1) ++ [s.cyc] }

/-- Block number `a` lies before `b`, both modulo 2,048 (R327). -/
def blkBefore (a b : Nat) : Bool := a ≠ b && (b + 2048 - a % 2048) % 2048 < 1024

/-- A data codeword arrives on a lane in service of the port: its block waits for its place in the order (R327, R329). -/
def State.rxCw (s : State) (lp seq : Nat) (c : RxCw) : State :=
  let l := c.lane % 1024
  if !(s.portService lp).contains l then s else
  let w := decodeWord c.idx c.sym
  let s := s.fecCount l w
  match w with
  | none => s
  | some (m, _) =>
    let x := s.rx lp
    if msgKind m % 2 = 0 || blkBefore (msgNum m) x.next || x.blks.any (fun b => b.no = msgNum m) then s
    else s.setRx lp { x with blks := x.blks ++ [{ no := msgNum m, kind := msgKind m, start := msgStart m, data := msgBlock m, lane := l, at_ := s.cyc, seq := seq }] }

/-- A replay start that the receiver takes: the one it waits for, or any where it waits for none (R332). -/
def PortRx.takes (x : PortRx) (b : RxBlk) : Bool := b.kind = 3 && (x.req.isNone || b.seq = x.expect)

/-- A block is taken in its order: a replay start begins the stream afresh; while the receiver waits for one it discards every other block (R332). -/
def PortRx.take (x : PortRx) (b : RxBlk) : PortRx :=
  let x := { x with blks := x.blks.filter (fun y => blkBefore b.no y.no), next := (b.no + 1) % 2048 }
  if x.takes b then { x with buf := b.data, from_ := [(b.lane, 640)], seq := b.seq, req := none }
  else if x.req.isSome then x
  else { x with buf := x.buf ++ b.data, from_ := x.from_ ++ [(b.lane, 640)] }

/-- Blocks that stand next in the order are taken (R329); a receiver that waits for a replay start goes straight to it. -/
def PortRx.order : Nat → PortRx → PortRx
  | 0, x => x
  | n + 1, x =>
    match x.blks.find? (fun b => b.no = x.next || (x.req.isSome && x.takes b)) with
    | some b => PortRx.order n (x.take b)
    | none => x

/-- A block is missing: a later one has waited for longer than the skew of 100 ns (R329). -/
def PortRx.missing (x : PortRx) (cyc : Nat) : Bool := x.req.isNone && x.blks.any fun b => b.at_ + nsCyc 100 < cyc

/-- Idle words before the next packet are passed over (R329). -/
def dropIdle : Nat → List Byte → List Byte
  | 0, b => b
  | n + 1, b => if 8 ≤ b.length && (b.take 8).all (· = 0) then dropIdle n (b.drop 8) else b

/-- The next packet of the stream, once all its bytes are there, and the stream after it (R329): its end follows from the length in its first word. -/
def PortRx.packet (x : PortRx) : Option (List Byte × List Nat × PortRx) :=
  let b := dropIdle (x.buf.length / 8) x.buf
  let n := wireLen (leNat ((b.drop 2).take 2))
  if b.length < 8 || b.length < n then none else
  let gone := x.buf.length - b.length + n
  -- the lanes the packet's bytes came on, and what is left of each block
  let r := x.from_.foldl (fun (a : Nat × List Nat × List (Nat × Nat)) e =>
    if a.1 = 0 then (0, a.2.1, a.2.2 ++ [e])
    else if e.2 ≤ a.1 then (a.1 - e.2, a.2.1 ++ [e.1], a.2.2)
    else (0, a.2.1 ++ [e.1], a.2.2 ++ [(e.1, e.2 - a.1)])) (gone, [], [])
  some (b.take n, r.2.1, { x with buf := b.drop n, from_ := r.2.2, seq := (x.seq + 1) % 2 ^ 32 })

/-- What has arrived on a port reaches the receiving link layer (R329, R331, R332): the bytes of the next packet where it is accepted in order; otherwise the packet is discarded, with a RETRY_REQ where one is due. In a receive hold window an errored packet with bytes from a lane it covers is discarded without one (R319). -/
def State.linkRx (s : State) (lp : Nat) (r : RxPkt) : Option (List Byte) × State :=
  let f := s.portFibre lp
  let s := r.cws.foldl (fun s c => s.rxCw lp (r.seq % 2 ^ 32) c) s
  let x := PortRx.order (s.rx lp).blks.length (s.rx lp)
  let s := s.setRx lp x
  match x.packet with
  | none => (none, if x.missing s.cyc && !(s.portService lp).all s.laneRxHeld then s.askReplay lp else s)
  | some (b, ls, y) =>
    let s := s.setRx lp y
    if seqLe x.seq ((x.expect + 2 ^ 32 - 1) % 2 ^ 32) then (none, s)
    else if trailerCrc b ≠ crc32 (b.take (b.length - 8)) then
      if ls.any s.laneRxHeld then (none, s) else (none, (s.cnt LNK_RX_HOPCRC_count (f / 8)).askReplay lp)
    else if x.seq ≠ x.expect then (none, s.askReplay lp)
    else (some b, s.setRx lp { y with expect := (x.expect + 1) % 2 ^ 32, advAt := some s.cyc })

/-- Send a RETRY_ACK with the highest sequence accepted in order (R331). -/
def State.sendAck (s : State) (lp : Nat) : State :=
  let x := s.rx lp
  (s.setRx lp { x with advAt := none, ackAt := s.cyc }).sendPortLmf lp 0x40 [(x.expect + 2 ^ 32 - 1) % 2 ^ 32]

/-- Send a CREDIT with the cumulative counts modulo 2^16 (R336). -/
def State.sendCredit (s : State) (lp : Nat) : State :=
  let x := s.rx lp
  (s.setRx lp { x with sent := x.count, sentAt := s.cyc }).sendPortLmf lp 0x48 (x.count.map (· % 65536))

end Sys2Proof.Machine
end

