-- ==== Sys2Proof/Machine/Mem.lean ====
section
/-! DEFINITION. GDDR7: the SECDED code, reads and writes with their counts, poison, granules, scrubbing, and the commands on them (R398 to R414, R424, R426). -/

namespace Sys2Proof.Machine

/-- First byte address past the data space (R398). -/
def memTop : Nat := 676457349120

/-! The code (R403, R404). -/

/-- Number of set bits of a 7-bit value. -/
def weight7 (v : Nat) : Nat := popc 7 v

/-- The column of each data bit: the 7-bit values of weight 3 in ascending order (R403). -/
def eccColumns : List Nat := ((List.range 128).filter fun v => weight7 v = 3).take 32

/-- The check bits of a 32-bit word (R403). -/
def eccCheck (v : Nat) : Nat := (List.range 32).foldl (fun c i => if bit v i then c ^^^ eccColumns.getD i 0 else c) 0

/-- What a read of a word finds (R404). -/
inductive EccKind where
  | clean | corrected | marker | uncorrectable
deriving DecidableEq, Repr

/-- Decode a word by its syndrome (R404): the outcome and the data as read. -/
def eccDecode (data syn : Nat) : EccKind × Nat :=
  if syn = 0 then (.clean, data)
  else if (List.range 7).any (fun j => syn = 2 ^ j) then (.corrected, data)
  else match (List.range 32).find? (fun i => eccColumns.getD i 0 = syn) with
    | some i => (.corrected, data ^^^ (1 <<< i))
    | none => if syn = 0x7F then (.marker, data) else (.uncorrectable, data)

/-! Cells. -/

/-- The canonical form of GDDR7's listed bytes: addresses strictly rising, no byte equal to the zero an unlisted address reads as. -/
def Memory.wf (m : List Host.Cell) : Bool := decide (m.Pairwise fun a b => a.1 < b.1) && m.all fun c => c.2 ≠ 0

/-- The device a data address lies on (R398). -/
def memDev (a : Nat) : Nat := a / 256 % 12

/-- The data address of byte `d` of a device (R398). -/
def devAddr (dev d : Nat) : Nat := (d / 256 * 12 + dev) * 256 + d % 256

/-- Device offset of the check groups (R399). -/
def checkBase : Nat := 0xD20000000

/-- Bytes of a device's check groups (R399). -/
def checkBytes : Nat := 12331253760

/-- A stored byte; an unlisted byte is zero (R413). -/
def State.byte (s : State) (a : Nat) : Byte := SMap.getD (0 : Byte) a s.mem.data

/-- The word was never filled or written: what its device holds is not stated (R413, log entry 1). -/
def State.unfilled (s : State) (w : Nat) : Bool := s.mem.loose.contains (w / 16384) && !s.mem.known.contains w

/-- A stored 32-bit word, little-endian (R6); `w` is the word number. -/
def State.word (s : State) (w : Nat) : Nat :=
  if s.unfilled w then Config.freeValue 33 w % 2 ^ 32 else leNat ((List.range 4).map fun i => s.byte (4 * w + i))

/-- The syndrome of a word. -/
def State.syn (s : State) (w : Nat) : Nat := if s.unfilled w then Config.freeValue 34 w % 2 ^ 7 else s.mem.synd.getD 0 w

/-- Store one byte. -/
def State.setByte (s : State) (a : Nat) (b : Byte) : State := { s with mem := { s.mem with data := SMap.set (0 : Byte) a b s.mem.data } }

/-- Store a word with the given syndrome. -/
def State.setWord (s : State) (w v syn : Nat) : State :=
  let s := (leBytes 4 v).zipIdx.foldl (fun s (b, i) => s.setByte (4 * w + i) b) s
  { s with mem := { s.mem with synd := s.mem.synd.set 0 w syn, known := if s.mem.loose.contains (w / 16384) then insNat w s.mem.known else s.mem.known } }

/-- The granule of a word is valid (R413). -/
def State.granValid (s : State) (w : Nat) : Bool := s.mem.valid.contains (w / 16384)

/-- The blocks of a granule's fill are counted on their devices, class SYSTEM (R417, R490): of its 256 stripes every twelfth lies on a device. -/
def State.fillEvent (s : State) (g : Nat) : State :=
  (List.range 12).foldl (fun s d => s.event (0x20 + d) 0x14 none (2 * ((267 - (d + 12 - 256 * g % 12) % 12) / 12))) s

/-- The first write to an invalid granule fills it with zero words and sets its valid bit (R414). -/
def State.granFill (s : State) (w : Nat) : State :=
  if s.granValid w then s else
  (({ s with mem := { s.mem with valid := insNat (w / 16384) s.mem.valid } }).fillEvent (w / 16384)).cnt MEM_GRAN_FILL_count

/-- Flip bits of a word of a valid granule, and of its check bits. -/
def State.flipWord (s : State) (w d c : Nat) : State :=
  if s.granValid w then s.setWord w (s.word w ^^^ d) (s.syn w ^^^ eccCheck d ^^^ c) else s

/-- Flip bits of the byte at a device's offset: data, or a check group, whose bits 7 k + 6 to 7 k hold the check bits of its block's word k (R398, R399); the rest of the device is never accessed. -/
def State.flipByte (s : State) (dev o x : Nat) : State :=
  if o < checkBase then s.flipWord (devAddr dev o / 4) (x % 256 <<< (o % 4 * 8)) 0
  else if o < checkBase + checkBytes then
    let g := (o - checkBase) / 28
    (bitsOf 8 x).foldl (fun s j =>
      let n := (o - checkBase) % 28 * 8 + j
      s.flipWord (devAddr dev (128 * g) / 4 + n / 7) 0 (2 ^ (n % 7))) s
  else s

/-- Word `i` of the valid bitmap is read with error pattern `x` over its 39 bits: one bit is corrected; where the word is uncorrectable its granules are treated as valid (R413). -/
def State.looseGranules (s : State) (i x : Nat) : State :=
  if (eccDecode 0 (eccCheck (x % 2 ^ 32) ^^^ (x / 2 ^ 32 % 128))).1 = .uncorrectable then
    let l := (List.range 32).filterMap fun k => if s.mem.valid.contains (32 * i + k) then none else some (32 * i + k)
    { s with mem := { s.mem with valid := l.foldl (fun v g => insNat g v) s.mem.valid, loose := l ++ s.mem.loose } }
  else s

/-- Errors that have struck the store: each a raw byte address, device × 64 GiB + device offset, with the bits flipped; past the twelve devices a word of the valid bitmap with its error pattern (log entry 8). -/
def State.strike (s : State) (errs : List (Nat × Nat)) : State :=
  errs.foldl (fun s (a, x) =>
    if a < 12 * 2 ^ 36 then s.flipByte (a / 2 ^ 36) (a % 2 ^ 36) x
    else if a < 12 * 2 ^ 36 + 322560 then s.looseGranules (a - 12 * 2 ^ 36) x
    else s) s

/-! The poison list (R412). -/

/-- Show the list's length. -/
def State.showPoison (s : State) : State := s.wr MEM_POISON_LIST_entries s.mem.poison.length

/-- A line enters the list, or overflow sets. -/
def State.poisonLine (s : State) (line : Nat) : State :=
  if s.mem.poison.any (·.1 = line) then s
  else if 1024 ≤ s.mem.poison.length then s.wr MEM_POISON_LIST_overflow 1
  else ({ s with mem := { s.mem with poison := s.mem.poison ++ [(line, 0)] } }).showPoison

/-- A word of a listed line written good; with all 16 the line leaves the list. -/
def State.poisonGood (s : State) (w : Nat) : State :=
  if s.mem.poison.any (·.1 = w / 16) then
    let l := s.mem.poison.map fun (n, m) => if n = w / 16 then (n, m ||| 1 <<< (w % 16)) else (n, m)
    ({ s with mem := { s.mem with poison := l.filter fun e => e.2 ≠ 0xFFFF } }).showPoison
  else s

/-- A word of a listed line is poisoned again. -/
def State.poisonBad (s : State) (w : Nat) : State :=
  let l := s.mem.poison.map fun (n, m) => if n = w / 16 then (n, setFld m (w % 16) 1 0) else (n, m)
  ({ s with mem := { s.mem with poison := l } }).poisonLine (w / 16)

/-! Reads and writes of one word. -/

/-- The devices are in self-refresh: no access is made (R478). -/
def State.inSref (s : State) : Bool := s.flag MEM_STATUS_sref

/-- An access met in self-refresh is counted (R478). -/
def State.srefAccess (s : State) : State := s.cnt PWR_SREF_ACCESS_count

/-- A correctable error is counted, located, and checked for a storm (R405). -/
def State.ceSeen (s : State) (w syn : Nat) : State :=
  let d := memDev (4 * w)
  let s := (((s.cnt MEM_CE_count d).wr MEM_CE_LOC_addr w d).wr MEM_CE_LOC_syndrome syn d).wr MEM_CE_LOC_valid 1 d
  let l := ((s.mem.ce.getD [] d).filter fun c => s.cyc < c + 2000000000) ++ [s.cyc]
  let s := { s with mem := { s.mem with ce := s.mem.ce.put d l } }
  let quiet : Bool := match s.mem.storm.get? d with | none => true | some c => decide (c + 2000000000 ≤ s.cyc)
  if s.rd MEM_CE_CFG_storm_n d ≤ l.length ∧ quiet then
    ({ s with mem := { s.mem with storm := s.mem.storm.put d s.cyc } }).irq (0x20 + d) 1
  else s

/-- An uncorrectable word is counted, located, raised, and its line listed (R404, R412). -/
def State.ueSeen (s : State) (w syn : Nat) : State :=
  let d := memDev (4 * w)
  let s := (((s.cnt MEM_UE_count d).wr MEM_UE_LOC_addr w d).wr MEM_UE_LOC_syndrome syn d).wr MEM_UE_LOC_valid 1 d
  (s.irq (0x20 + d) 0).poisonLine (w / 16)

/-- Read a word (R404): its data, whether it is poisoned, and the counts. -/
def State.readWord (s : State) (w : Nat) : (Nat × Bool) × State :=
  if !s.granValid w then ((0, false), s) else
  let syn := s.syn w
  let r := eccDecode (s.word w) syn
  match r.1 with
  | .clean => ((r.2, false), s)
  | .corrected => ((r.2, false), s.ceSeen w syn)
  | .marker => ((r.2, true), s.cnt MEM_POISON_READ_count (memDev (4 * w)))
  | .uncorrectable => ((r.2, true), s.ueSeen w syn)

/-- A word of a valid granule reads as a poison marker (R404). -/
def State.isMarker (s : State) (w : Nat) : Bool := s.granValid w && (eccDecode (s.word w) (s.syn w)).1 = .marker

/-- Write a word with good check bits (R407). -/
def State.writeWord (s : State) (w v : Nat) : State := ((s.granFill w).setWord w v 0).poisonGood w

/-- Write a poison marker (R407). -/
def State.writeMarker (s : State) (w : Nat) : State := ((s.granFill w).setWord w 0 0x7F).poisonBad w

/-- Write some bytes of a word: merged after a counted read; a poisoned word stays a marker (R412). -/
def State.writePart (s : State) (w mask v : Nat) : State :=
  if mask = 0xF then s.writeWord w v
  else if mask = 0 then s else
  let r := (s.granFill w).readWord w
  if r.1.2 then r.2.writeMarker w
  else
    let m := (List.range 4).foldl (fun m i => if bit mask i then m ||| 0xFF <<< (8 * i) else m) 0
    r.2.writeWord w ((r.1.1 &&& (0xFFFFFFFF ^^^ m)) ||| (v &&& m))

/-! Ranges. -/

/-- Blocks of 128 bytes of a range served for a class of R417 are counted on their devices (R490). -/
def State.memEvent (s : State) (a n cls : Nat) : State :=
  if n = 0 then s else
  (List.range ((a + n - 1) / 128 - a / 128 + 1)).foldl (fun s i => s.event (0x20 + memDev ((a / 128 + i) * 128)) (0x10 + cls)) s

/-- The blocks of a range that a read serves are counted: those of invalid granules touch no device (R413, R490). -/
def State.readEvent (s : State) (a n cls : Nat) : State :=
  if n = 0 then s else
  (List.range ((a + n - 1) / 128 - a / 128 + 1)).foldl (fun s i =>
    if s.granValid ((a / 128 + i) * 32) then s.event (0x20 + memDev ((a / 128 + i) * 128)) (0x10 + cls) else s) s

/-- Read `n` words from word `w` on: their data and poison. In self-refresh the data is poisoned and the access counted (R478). -/
def State.readWords (s : State) (w n cls : Nat) : List (Nat × Bool) × State :=
  if s.inSref then (List.replicate n (0, true), s.srefAccess) else
  (List.range n).foldl (fun (l, s) i => let r := s.readWord (w + i); (l ++ [r.1], r.2)) ([], s.readEvent (4 * w) (4 * n) cls)

/-- Write words from word `w` on, a poisoned one as a marker (R407). -/
def State.writeWords (s : State) (w : Nat) (l : List (Nat × Bool)) (cls : Nat) : State :=
  if s.inSref then s.srefAccess else
  l.zipIdx.foldl (fun s ((v, p), i) => if p then s.writeMarker (w + i) else s.writeWord (w + i) v) (s.memEvent (4 * w) (4 * l.length) cls)

/-- Bytes as words, the last one filled with zeros, with the poison of each word. -/
def wordsOf (bs : List Byte) (bad : Nat → Bool) : List (Nat × Bool) :=
  (List.range ((bs.length + 3) / 4)).map fun i => (leNat ((bs.drop (4 * i)).take 4), bad i)

/-- The bytes of words. -/
def bytesOf (l : List (Nat × Bool)) : List Byte := leWords 4 (l.map (·.1))

/-- Read a 64-byte line: its bytes and whether any word is poisoned. -/
def State.readLine (s : State) (line cls : Nat) : (List Byte × Bool) × State :=
  let r := s.readWords (16 * line) 16 cls
  ((bytesOf r.1, r.1.any (·.2)), r.2)

/-- The reserved partition in force: first byte and past the last (R400). -/
def State.reservedRange (s : State) : Nat × Nat :=
  let b := s.rd MEM_PART_BASE_base 0 3 * 2 ^ 24
  (b, b + s.rd MEM_PART_SIZE_size 0 3 * 2 ^ 24)

/-- An access of the module to a region of the reserved partition lies inside it (R401). -/
def State.inReserved (s : State) (a n : Nat) : Bool := s.reservedRange.1 ≤ a && a + n ≤ s.reservedRange.2

/-- An access outside the reserved partition is counted and raised (R401). -/
def State.rangeErr (s : State) : State := (s.cnt MEM_RANGE_ERR_count).irq 0x20 4

/-- Read words of a host-placed module region (R401): outside the reserved partition they read as poison. -/
def State.readRes (s : State) (a n : Nat) : List (Nat × Bool) × State :=
  if s.inReserved a (4 * n) then s.readWords (a / 4) n 4 else (List.replicate n (0, true), s.rangeErr)

/-- Write words of a host-placed module region; outside the reserved partition the write is dropped (R401). -/
def State.writeRes (s : State) (a : Nat) (l : List (Nat × Bool)) : State :=
  if s.inReserved a (4 * l.length) then s.writeWords (a / 4) l 4 else s.rangeErr

/-! Host accesses over CXL.mem. -/

/-- A CXL.mem read of the line at `a` (R426): corrected data, or poison indicated (R411). `errs` are errors that have struck the store. -/
def State.hostMemRead (s : State) (a : Nat) (errs : List (Nat × Nat)) : State :=
  if memTop ≤ a then s else
  let r := (s.strike errs).readLine (a / 64) 3
  r.2.emit (.memData (a / 64) r.1.1 r.1.2)

/-- HOST_MEM_READ (R426): none is answered with Memory Space Enable clear (R423). -/
def execHostMemRead (a : Nat) (errs : List (Nat × Nat)) (s : State) : Host.Outcome State Fault Refusal :=
  act s (if s.memSpace then s.hostMemRead a errs else s)

/-- A CXL.mem write of the line at `a`: markers where the host marks it poisoned, merged words otherwise (R412). `mask` has a bit for each of the 64 bytes. -/
def State.hostMemWrite (s : State) (a : Nat) (bytes : List Byte) (mask : Nat) (poison : Bool) : State :=
  if memTop ≤ a then s
  else if s.inSref then s.srefAccess
  else
    let s := s.memEvent (a / 64 * 64) 64 3
    (List.range 16).foldl (fun s i =>
      let w := a / 64 * 16 + i
      if poison then s.writeMarker w else s.writePart w (fld mask (4 * i) 4) (leNat ((bytes.drop (4 * i)).take 4))) s

/-- HOST_MEM_WRITE (R412). -/
def execHostMemWrite (a : Nat) (bytes : List Byte) (mask : Nat) (poison : Bool) (s : State) : Host.Outcome State Fault Refusal :=
  act s (if s.memSpace then s.hostMemWrite a bytes mask poison else s)

/-! Scrubbing. -/

/-- Scrub one 128-byte block: corrections and markers are written back (R406). -/
def State.scrubAt (s : State) (blk : Nat) : State :=
  let s := s.memEvent (128 * blk) 128 4
  let ws := (List.range 32).map (32 * blk + ·)
  let dirty := ws.any fun w => (eccDecode (s.word w) (s.syn w)).1 = .corrected
  let s := ws.foldl (fun s w =>
    let k := (eccDecode (s.word w) (s.syn w)).1
    let r := s.readWord w
    match k with
    | .corrected => r.2.setWord w r.1.1 0
    | .uncorrectable => r.2.writeMarker w
    | _ => r.2) s
  if dirty then s.cnt MEM_SCRUB_FIX_count (memDev (128 * blk)) else s

/-- The first block at or after `b` in a valid granule (R406). -/
def State.nextValid (s : State) (b : Nat) : Option Nat :=
  (s.mem.valid.find? fun g => b < (g + 1) * 512).map fun g => max b (g * 512)

/-- The scrubber may go on: a pass runs, or one period has gone by since the last began (R406). -/
def State.scrubDue (s : State) : Bool :=
  s.mem.scrub ≠ 0 || s.mem.passAt.all fun c => decide (c + msCyc (3600000 * max 1 (s.rd MEM_SCRUB_CFG_period_h)) ≤ s.cyc)

/-- The scrubber handles its next block; past the last one a pass is complete, and the next begins a period after this one began (R406). It pauses in self-refresh. -/
def State.scrubStep (s : State) (errs : List (Nat × Nat)) : State :=
  let s := s.strike errs
  if !s.flag MEM_SCRUB_CFG_enable || s.inSref || !s.scrubDue then s else
  match s.nextValid s.mem.scrub with
  | none =>
    if s.mem.scrub = 0 then s
    else ({ (s.wr MEM_SCRUB_STAT_pass_count (s.rd MEM_SCRUB_STAT_pass_count + 1)) with mem := { s.mem with scrub := 0 } }).wr MEM_SCRUB_STAT_running 0
  | some b =>
    let s := (s.wr MEM_SCRUB_STAT_running 1).scrubAt b
    { s with mem := { s.mem with scrub := b + 1, passAt := if s.mem.scrub = 0 then some s.cyc else s.mem.passAt } }

/-- SCRUB_BLOCK (R406). -/
def execScrubBlock (errs : List (Nat × Nat)) (s : State) : Host.Outcome State Fault Refusal := act s (s.scrubStep errs)

/-- A memory command completes with a status and cmd_done (R408). -/
def State.memDone (s : State) (st : Nat) : State := ((s.wr MEM_CMD_STAT_busy 0).wr MEM_CMD_STAT_status st).irq 0x20 2

/-- Address and length of the command registers (R419). -/
def State.memRange (s : State) : Nat × Nat := (s.rd MEM_CMD_ADDR_addr * 128, s.rd MEM_CMD_LEN_len * 128)

/-- REWRITE: the blocks of the range in valid granules are scrubbed at once (R408). -/
def State.rewrite (s : State) : State :=
  let a := s.memRange.1
  let n := s.memRange.2
  if memTop < a + n then s.memDone 3
  else if s.inSref then (s.srefAccess).memDone 0
  else
    ((s.mem.valid.flatMap fun g => (List.range 512).map (g * 512 + ·)).foldl (fun s b =>
      if a ≤ b * 128 ∧ b * 128 < a + n then s.scrubAt b else s) s).memDone 0

/-- REWRITE (R408). -/
def execRewrite (s : State) : Host.Outcome State Fault Refusal := hostWrite s 0x20 0x458 fun s => s.rewrite

/-- Two byte ranges meet. -/
def meets (a n b m : Nat) : Bool := a < b + m && b < a + n && n ≠ 0 && m ≠ 0

/-- First byte of POOL_SPILL or POOL_RETAIN buffer `i` (R402): `p` 2 or 1 is the partition. -/
def State.bufAddr (s : State) (p i : Nat) : Nat := s.rd MEM_PART_BASE_base 0 p * 2 ^ 24 + i * (if p = 2 then 65536 else 1048576)

/-- Bytes of a ledger bank in the units of LDG_BANK (R242). -/
def State.ldgBankBytes (s : State) (n : Nat) : Nat := s.rd LDG_BANK_bank_bytes 0 n <<< LDG_BANK_bank_bytes.lo

/-- First byte of bank `k` of ledger `n` (R243). -/
def State.ldgBank (s : State) (n k : Nat) : Nat := (s.rd LDG_BASE_base 0 n <<< LDG_BASE_base.lo) + k * s.ldgBankBytes n

/-- ZERO would clear a range that must not be (R408). -/
def State.zeroBusy (s : State) (a n : Nat) : Bool :=
  (s.used 2).any (fun i => meets a n (s.bufAddr 2 i) 65536)
  || (s.used 3).any (fun i => meets a n (s.bufAddr 1 i) 1048576)
  || (List.range 16).any (fun l => s.flag LDG_CFG_enable 0 l && !s.flag LDG_CFG_lock 0 l && meets a n (s.ldgBank l 0) (2 * s.ldgBankBytes l))

/-- ZERO: the granules of the range become invalid and read as zero; its poison list entries go (R408). -/
def State.zero (s : State) : State :=
  let a := s.memRange.1
  let n := s.memRange.2
  if a % 65536 ≠ 0 ∨ n % 65536 ≠ 0 ∨ memTop < a + n then s.memDone 3
  else if s.zeroBusy a n then s.memDone 2
  else
    let out := fun b => b < a ∨ a + n ≤ b
    let m := { s.mem with
      data := s.mem.data.filter fun c => out c.1
      synd := s.mem.synd.filter fun c => out (4 * c.1)
      valid := s.mem.valid.filter fun g => out (65536 * g)
      loose := s.mem.loose.filter fun g => out (65536 * g)
      known := s.mem.known.filter fun w => out (4 * w)
      poison := s.mem.poison.filter fun e => out (64 * e.1) }
    (({ s with mem := m }).showPoison).memDone 0

/-- ZERO (R408). -/
def execZero (s : State) : Host.Outcome State Fault Refusal := hostWrite s 0x20 0x458 fun s => s.zero

/-! Memory-device commands (R421, R424). -/

/-- IDENTIFY_MEMORY_DEVICE: the device's identity, in the format of CXL 3.1 (R421, log entry 28). -/
def execIdentifyMemoryDevice (s : State) : Host.Outcome State Fault Refusal := hostAct s (s.emit (.mailbox Config.identifyPayload))

/-- GET_POISON_LIST: the lines of the poison list (R412, R424). -/
def execGetPoisonList (s : State) : Host.Outcome State Fault Refusal := hostAct s (s.emit (.poisonList (s.mem.poison.map (·.1))))

/-- INJECT_POISON: a marker into every word of the line at `a` (R424). -/
def execInjectPoison (a : Nat) (s : State) : Host.Outcome State Fault Refusal :=
  hostAct s (s.hostMemWrite a [] 0 true)

/-- CLEAR_POISON: the line at `a` written with the data given, which ends its poison (R424). -/
def execClearPoison (a : Nat) (bytes : List Byte) (s : State) : Host.Outcome State Fault Refusal :=
  hostAct s (s.hostMemWrite a bytes (2 ^ 64 - 1) false)

end Sys2Proof.Machine
end

