-- ==== Sys2Proof/Machine/FwdCmd.lean ====
section
/-! DEFINITION. The table commands of the FWD pages, aging, epoch flips and the shadow compare (R99, R107 to R110, R113, R115 to R123). -/

namespace Sys2Proof.Machine

/-- A command of a FWD page completes: FWD_TSTAT.status and tcmd_done (R115). Status 0 OK, 1 NOT_FOUND, 2 BUSY, 3 INVALID, 4 FULL, 5 PARITY, 6 END. -/
def State.fwdDone (s : State) (n st : Nat) : State := ((s.wr FWD_TSTAT_busy 0 n).wr FWD_TSTAT_status st n).irq (0x40 + n) 0

/-- FWD_TDATA[w] of page `n`. -/
def State.fwdData (s : State) (n w : Nat) : Nat := s.rd FWD_TDATA_data n w

/-- Load FWD_TDATA from word 0 on. -/
def State.fwdLoad (s : State) (n : Nat) (l : List Nat) : State := l.zipIdx.foldl (fun s (v, w) => s.wr FWD_TDATA_data v n w) s

/-- FWD_TKEY.key of page `n`. -/
def State.fwdKey (s : State) (n : Nat) : Nat := s.rd FWD_TKEY_key n

/-! RETURN. -/

/-- The listed return entries of a pipeline: physical index and entry, ascending. -/
def State.retList (s : State) (pipe : Nat) : List (Nat × Nat) :=
  s.tbl.filterMap fun (k, v) => if k / 16 / 2 ^ 24 = 0 ∧ k % 16 = 0 ∧ k / 16 / 262144 = pipe then some (k / 16 % 262144, v) else none

/-- Write a return entry by its physical index. -/
def State.retAt (s : State) (pipe idx v : Nat) : State := s.retPut pipe (idx / 4) (idx % 4) v

/-- Remove the valid non-static entries of a pipeline that fit (R117, R118). -/
def State.retFlush (s : State) (pipe : Nat) (f : Nat → Bool) : State :=
  (s.retList pipe).foldl (fun s (i, e) => if bit e 49 && !bit e 48 && f e then s.retAt pipe i 0 else s) s

/-- The pipelines a command acts on: all 16 for `all` on FWD00, else the page's own (R115). -/
def allPipes (n : Nat) (all : Bool) : List Nat := if all && n = 0 then List.range 16 else [n]

/-- READ of RETURN: the stored entry at a physical index. -/
def State.retRead (s : State) (n : Nat) : State :=
  let k := s.fwdKey n
  if 262144 ≤ k then s.fwdDone n 3 else
  (s.fwdLoad n [s.retGet n (k / 4) (k % 4)]).fwdDone n (if s.isBad TB_RETURN 0 (retIdx n (k / 4) (k % 4)) 0 n then 5 else 0)

/-- SEARCH (R117). -/
def State.fwdSearch (s : State) (n table : Nat) : State :=
  let k := s.fwdKey n
  if table ≠ 0 ∨ 2 ^ 24 ≤ k then s.fwdDone n 3 else
  match s.retFind n k with
  | none => s.fwdDone n 1
  | some w => (s.fwdLoad n [s.retGet n (retSet k) w]).fwdDone n (if s.isBad TB_RETURN 0 (retIdx n (retSet k) w) 0 n then 5 else 0)

/-- NEXT (R117, R118): the first valid entry above the cursor that fits the enabled filters. -/
def State.fwdNext (s : State) (n table : Nat) : State :=
  if table ≠ 0 then s.fwdDone n 3 else
  let cur := if s.flag FWD_TKEY_restart n then 2 ^ 32 - 1 else s.rd FWD_TSTAT_cursor n
  let from_ := if cur = 2 ^ 32 - 1 then 0 else cur + 1
  let fit := fun e => bit e 49
    && (!s.flag FWD_TKEY_f_slice n || fld e 34 12 = s.rd FWD_TKEY_slice n)
    && (!s.flag FWD_TKEY_f_port n || fld e 24 10 = s.rd FWD_TKEY_port n)
  let s' := s.wr FWD_TKEY_restart 0 n
  match (s.retList n).find? (fun (i, e) => decide (from_ ≤ i) && fit e) with
  | none => s'.fwdDone n 6
  | some (i, e) => ((s'.wr FWD_TSTAT_cursor i n).fwdLoad n [e]).fwdDone n 0

/-- FLUSH_BY_PORT (R117). -/
def State.fwdFlushPort (s : State) (n table : Nat) (all : Bool) : State :=
  if table ≠ 0 then s.fwdDone n 3 else
  let key := s.rd FWD_TKEY_port n
  ((allPipes n all).foldl (fun s p => s.retFlush p fun e => fld e 24 10 = key) s).fwdDone n 0

/-- FLUSH_BY_SLICE (R117). -/
def State.fwdFlushSlice (s : State) (n table : Nat) (all : Bool) : State :=
  if table ≠ 0 then s.fwdDone n 3 else
  let key := s.rd FWD_TKEY_slice n
  ((allPipes n all).foldl (fun s p => s.retFlush p fun e => fld e 34 12 = key) s).fwdDone n 0

/-- INSERT (R117): a static entry in each pipeline with room; FULL when some pipeline had none. -/
def State.fwdInsert (s : State) (n table : Nat) (all : Bool) : State :=
  let ep := s.fwdKey n
  if table ≠ 0 ∨ 2 ^ 24 ≤ ep then s.fwdDone n 3 else
  let d := s.fwdData n 0
  let r := (allPipes n all).foldl (fun (full, s) p =>
    match (match s.retFind p ep with | some w => some w | none => s.retVictim p (retSet ep)) with
    | some w => (full, s.retPut p (retSet ep) w (retWord ep (fld d 24 10) (fld d 34 12) 0 1))
    | none => (true, s)) (false, s)
  r.2.fwdDone n (if r.1 then 4 else 0)

/-- DELETE (R117): the entry goes, static or not; NOT_FOUND when no pipeline held it. -/
def State.fwdDelete (s : State) (n table : Nat) (all : Bool) : State :=
  let ep := s.fwdKey n
  if table ≠ 0 ∨ 2 ^ 24 ≤ ep then s.fwdDone n 3 else
  let r := (allPipes n all).foldl (fun (hit, s) p =>
    match s.retFind p ep with
    | some w => (true, s.retPut p (retSet ep) w 0)
    | none => (hit, s)) (false, s)
  r.2.fwdDone n (if r.1 then 0 else 1)

/-! The tables of configuration. -/

/-- Values in a dimension's table (R95). -/
def dimSize (d : Nat) : Nat := [16, 64, 64, 16, 4, 4].getD d 0

/-- The index names an entry of the table (R116). -/
def fwdIdxOk (table k : Nat) : Bool :=
  match table with
  | 1 => k < 16384
  | 2 => k < 2097152 && k % 64 < dimSize (k % 512 / 64)
  | 3 => k < 65536
  | 4 => k < 65536
  | 5 => k < 1024
  | _ => false

/-- An LP_CFG entry as a word (R123). -/
def State.lpWord (s : State) (p : Nat) : Nat :=
  wordOf (fun d => s.rd d 0 p) [LP_CFG_enable, LP_CFG_nbr_class, LP_CFG_learn_en, LP_CFG_elig, LP_CFG_auto_absent, LP_CFG_link_up]

/-- An LP_CFG word as the module datum covers it: link_up and elig zero (R377). -/
def lpCovered (v : Nat) : Nat := fld v 0 3 ||| fld v 4 1 <<< 4

/-- Store an LP_CFG entry; link_up is read-only. -/
def State.lpStore (s : State) (p v : Nat) : State :=
  [LP_CFG_enable, LP_CFG_nbr_class, LP_CFG_learn_en, LP_CFG_elig, LP_CFG_auto_absent].foldl (fun s d => s.wr d (fld v d.lo d.w) 0 p) s

/-- Words of an entry as stored, in the layout of R116. -/
def State.fwdEntry (s : State) (table bank k : Nat) : List Nat :=
  match table with
  | 1 => (List.range 12).map (s.tget TB_SPRAY bank k)
  | 2 => [s.tget TB_DIM bank k 0]
  | 3 => [s.tget TB_ADMIT_IN 0 k 0]
  | 4 => [s.tget TB_ADMIT_EG 0 k 0]
  | _ => [s.lpWord k]

/-- The stored words of an entry, as table, bank, index and word of the table store. -/
def fwdWords (table bank k : Nat) : List (Nat × Nat × Nat × Nat) :=
  if table = 1 then (List.range 12).map fun w => (1, bank, k, w) else [(table, if table = 2 then bank else 0, k, 0)]

/-- Some word of an entry fails parity in one of the given copies. -/
def State.fwdBad (s : State) (table bank k : Nat) (copies : List Nat) : Bool :=
  (fwdWords table bank k).any fun (t, b, i, w) => copies.any (s.isBad t b i w)

/-- Every word of an entry has good parity again. -/
def State.fwdMend (s : State) (table bank k : Nat) : State := (fwdWords table bank k).foldl (fun s (t, b, i, w) => s.mend t b i w) s

/-- READ (R117, R120). -/
def State.fwdRead (s : State) (n table bank : Nat) : State :=
  if table = 0 then s.retRead n
  else
    let k := s.fwdKey n
    if !fwdIdxOk table k then s.fwdDone n 3
    else (s.fwdLoad n (s.fwdEntry table bank k)).fwdDone n (if s.fwdBad table bank k [n] then 5 else 0)

/-- A bank is in use for a slice (R110): current, or old while draining. -/
def State.bankInUse (s : State) (sl b : Nat) : Bool :=
  (s.flag FWD_SLICE_EPOCH_draining 0 sl || s.rd FWD_SLICE_EPOCH_cur_epoch 0 sl = b)

/-- A write to a table of slice `sl` in bank `b` is refused (R110, R392). -/
def State.tblBusy (s : State) (sl b : Nat) : Bool := s.sliceState sl = 2 || s.bankInUse sl b

/-- The bits of SPRAY word `w` that hold fields (R116). -/
def sprayMask (w v : Nat) : Nat := if w = 0 then fld v 0 12 ||| fld v 16 7 <<< 16 else fld v 0 60

/-- Store a spray-set bank; its words move to the new owner's sum (R378, R379). -/
def State.sprayStore (s : State) (b k : Nat) (ws : List Nat) (covered : Bool) : State :=
  let o := fld (s.tget TB_SPRAY b k 0) 0 12
  let o' := fld (ws.getD 0 0) 0 12
  (List.range 12).foldl (fun s w =>
    let old := s.tget TB_SPRAY b k w
    let new := ws.getD w 0
    let s := if !covered then s
      else if o = o' then s.coverBank o 0x21 b (k * 12 + w) old new
      else (s.coverBank o 0x21 b (k * 12 + w) old 0).coverBank o' 0x21 b (k * 12 + w) 0 new
    s.tset TB_SPRAY b k w new) s

/-- Store a dimension-table entry. -/
def State.dimStore (s : State) (b k v : Nat) (covered : Bool) : State :=
  let s := if covered then s.coverBank (k / 512) 0x20 b (k % 512) (s.tget TB_DIM b k 0) v else s
  s.tset TB_DIM b k 0 v

/-- Stage an admission word bit by bit (R104, R388, R392): the store holds staged XOR in force, and above it which bits were written; bits of PURGING slices stay, and BUSY reports one that would have changed. -/
def State.admitStage (s : State) (t k v : Nat) : Nat × State :=
  let key := tkey t 0 k 0
  let old := s.stgT.getD 0 key
  let new := (v % 2 ^ 64) ^^^ s.tget t 0 k 0
  let held := ofBits ((List.range 64).filter fun j => s.sliceState (k % 64 * 64 + j) = 2)
  let own := held ^^^ (2 ^ 64 - 1)
  let new' := (new &&& own) ||| (old &&& held)
  (if new' = new then 0 else 2, { s with stgT := s.stgT.set 0 key (new' ||| ((old >>> 64) ||| own) <<< 64) })

/-- WRITE (R110, R117, R392). -/
def State.fwdWrite (s : State) (n table bank : Nat) : State :=
  let k := s.fwdKey n
  let ws := (List.range 12).map fun w => sprayMask w (s.fwdData n w)
  let d := s.fwdData n 0
  if !fwdIdxOk table k then s.fwdDone n 3 else
  match table with
  | 1 =>
    let o := fld (s.tget TB_SPRAY bank k 0) 0 12
    let o' := fld (ws.getD 0 0) 0 12
    if 64 < fld (ws.getD 0 0) 16 7 then s.fwdDone n 3
    else if s.tblBusy o bank || s.tblBusy o' bank then s.fwdDone n 2
    else ((s.sprayStore bank k ws true).fwdMend 1 bank k).fwdDone n 0
  | 2 =>
    if s.tblBusy (k / 512) bank then s.fwdDone n 2
    else ((s.dimStore bank k (d % 65536) true).fwdMend 2 bank k).fwdDone n 0
  | 3 => let r := s.admitStage TB_ADMIT_IN k d; r.2.fwdDone n r.1
  | 4 => let r := s.admitStage TB_ADMIT_EG k d; r.2.fwdDone n r.1
  | _ =>
    let o := s.lpWord k
    let s := s.lpStore k d
    ((s.coverMod 0x05 k (lpCovered o) (lpCovered (s.lpWord k))).fwdMend 5 0 k).fwdDone n 0

/-- REPAIR (R121): only of an entry that fails parity in some copy; the datum is left. Open in the spec, and settled here (DESIGN CHOICE, log entry 87): an entry of a bank not in use is repaired too, and a spray set of more than 64 members is INVALID as in a WRITE. -/
def State.fwdRepair (s : State) (n table bank : Nat) : State :=
  let k := s.fwdKey n
  let ws := (List.range 12).map fun w => sprayMask w (s.fwdData n w)
  let d := s.fwdData n 0
  if !(table = 1 || table = 2 || table = 5) || !fwdIdxOk table k || !s.fwdBad table bank k (List.range 16) then s.fwdDone n 3 else
  match table with
  | 1 => if 64 < fld (ws.getD 0 0) 16 7 then s.fwdDone n 3 else ((s.sprayStore bank k ws false).fwdMend 1 bank k).fwdDone n 0
  | 2 => ((s.dimStore bank k (d % 65536) false).fwdMend 2 bank k).fwdDone n 0
  | _ => ((s.lpStore k d).fwdMend 5 0 k).fwdDone n 0

/-- A write of FWD_TCMD: the command runs at once (R115, R117). -/
def State.fwdTcmd (s : State) (n op table bank : Nat) (all : Bool) : State :=
  match op with
  | 1 => s.fwdRead n table bank
  | 2 => s.fwdWrite n table bank
  | 3 => s.fwdSearch n table
  | 4 => s.fwdNext n table
  | 5 => s.fwdFlushPort n table all
  | 6 => s.fwdFlushSlice n table all
  | 7 => s.fwdInsert n table all
  | 8 => s.fwdDelete n table all
  | 9 => s.fwdRepair n table bank
  | _ => s.fwdDone n 3

/-- A host write of FWD_TCMD of page `n`. -/
def fwdCmd (n op table bank : Nat) (all : Bool) (s : State) : Host.Outcome State Fault Refusal :=
  hostWrite s (0x40 + n % 16) 0x200 fun s => s.fwdTcmd (n % 16) op (table % 16) (bank % 2) all

/-- FWD_READ (R117). -/
def execFwdRead (n table bank : Nat) (s : State) : Host.Outcome State Fault Refusal := fwdCmd n 1 table bank false s

/-- FWD_WRITE (R117). -/
def execFwdWrite (n table bank : Nat) (s : State) : Host.Outcome State Fault Refusal := fwdCmd n 2 table bank false s

/-- SEARCH (R117). -/
def execSearch (n table : Nat) (s : State) : Host.Outcome State Fault Refusal := fwdCmd n 3 table 0 false s

/-- NEXT (R117). -/
def execCmdNext (n table : Nat) (s : State) : Host.Outcome State Fault Refusal := fwdCmd n 4 table 0 false s

/-- FLUSH_BY_PORT (R117). -/
def execFlushByPort (n table : Nat) (all : Bool) (s : State) : Host.Outcome State Fault Refusal := fwdCmd n 5 table 0 all s

/-- FLUSH_BY_SLICE (R117). -/
def execFlushBySlice (n table : Nat) (all : Bool) (s : State) : Host.Outcome State Fault Refusal := fwdCmd n 6 table 0 all s

/-- INSERT (R117). -/
def execInsert (n table : Nat) (all : Bool) (s : State) : Host.Outcome State Fault Refusal := fwdCmd n 7 table 0 all s

/-- DELETE (R117). -/
def execDelete (n table : Nat) (all : Bool) (s : State) : Host.Outcome State Fault Refusal := fwdCmd n 8 table 0 all s

/-- REPAIR (R121). -/
def execRepair (n table bank : Nat) (s : State) : Host.Outcome State Fault Refusal := fwdCmd n 9 table bank false s

/-- A write of FWD_SEED sets the generator state, zero taken as 1 (R99); the register reads the zero written (DESIGN CHOICE, log entry 87). -/
def State.seedWrite (s : State) (n : Nat) (w : Wr) : State :=
  let s := s.put FWD_SEED_seed w n
  let v := s.rd FWD_SEED_seed n
  { s with fwd := { s.fwd with gen := s.fwd.gen.put n (if v = 0 then 1 else v) } }

/-- FWD_SEED_WRITE (R99). -/
def execFwdSeedWrite (n : Nat) (w : Wr) (s : State) : Host.Outcome State Fault Refusal :=
  hostWrite s (0x40 + n % 16) 0x120 fun s => s.seedWrite (n % 16) w

/-- A pipeline's aging tick, once tick_ms has passed since the last (R113). -/
def State.ageTick (s : State) (n : Nat) : State :=
  let t := s.rd FWD_AGE_tick_ms n
  if t = 0 ∨ s.cyc < s.fwd.ageAt.getD 0 n + msCyc t then s else
  let s := { s with fwd := { s.fwd with ageAt := s.fwd.ageAt.set 0 n s.cyc } }
  (s.retList n).foldl (fun s (i, e) =>
    if !bit e 49 || bit e 48 then s
    else if 2 ≤ fld e 46 2 then (s.retAt n i 0).cnt FWD_RET_AGED_count n
    else s.retAt n i (setFld e 46 2 (fld e 46 2 + 1))) s

/-- AGE_TICK (R113). -/
def execAgeTick (n : Nat) (s : State) : Host.Outcome State Fault Refusal := act s (s.ageTick (n % 16))

/-! Epochs. -/

/-- The epoch grace of a slice's checks starts (R385). -/
def State.sliceGrace (s : State) (sl : Nat) : State :=
  { s with dtm := { s.dtm with sgrace := s.dtm.sgrace.set 0 sl (s.cyc + usCyc (s.rd DTM_CFG_grace_us)) } }

/-- A TABLE_FLIP of a slice (R107, R108, R389). -/
def State.tableFlip (s : State) (sl : Nat) : State × Bool :=
  if s.flag FWD_SLICE_EPOCH_draining 0 sl then ((s.wr FWD_SLICE_EPOCH_flip_rejected 1 0 sl).irq 0x40 3, false)
  else if s.sliceState sl ≠ 1 then (s, false)
  else
    let s := s.wr FWD_SLICE_EPOCH_cur_epoch (1 - s.rd FWD_SLICE_EPOCH_cur_epoch 0 sl) 0 sl
    let s := s.wr FWD_SLICE_EPOCH_draining 1 0 sl
    let s := { s with fwd := { s.fwd with drainEnd := s.fwd.drainEnd.set 0 sl (s.cyc + usCyc (max 10 (s.rd FWD_DRAIN_drain_us))) } }
    (s.sliceGrace sl, true)

/-- TABLE_FLIP, action class 3 (R51, R107). -/
def execTableFlip (u : Nat) (s : State) : Host.Outcome State Fault Refusal :=
  act s (s.effect (u % 32) 3 fun e s => s.tableFlip (e.arg % 4096))

/-- A slice's drain timer expires (R107). -/
def State.drainExpiry (s : State) (sl : Nat) : State :=
  if s.flag FWD_SLICE_EPOCH_draining 0 sl && s.fwd.drainEnd.getD 0 sl ≤ s.cyc then
    { (s.wr FWD_SLICE_EPOCH_draining 0 0 sl) with fwd := { s.fwd with drainEnd := s.fwd.drainEnd.del sl } }
  else s

/-- DRAIN_EXPIRY (R107). -/
def execDrainExpiry (sl : Nat) (s : State) : Host.Outcome State Fault Refusal := act s (s.drainExpiry (sl % 4096))

/-! Shadow compare. -/

/-- A mismatching entry is counted, and the first captured (R122). -/
def State.shadowHit (s : State) (table idx : Nat) : State :=
  let s := s.cnt FWD_SHADOW_MISMATCH_count
  if s.flag FWD_SHADOW_FIRST_valid then s else
  (((s.wr FWD_SHADOW_FIRST_table table).wr FWD_SHADOW_FIRST_index idx).wr FWD_SHADOW_FIRST_valid 1).irq 0x40 2

/-- Compare an entry of `n` bytes at image offset `off` with its value as little-endian bytes (R122). -/
def State.shadowOne (s : State) (table bank idx off : Nat) (val : List Byte) : State :=
  let a := s.rd FWD_SHADOW_BASE_base * 2 ^ 24 + off
  let r := s.readRes (a / 4 * 4) ((val.length + 3) / 4)
  let img := ((bytesOf r.1).drop (a % 4)).take val.length
  if r.1.any (·.2) ∨ img ≠ val ∨ s.fwdBad table bank idx (List.range 16) then r.2.shadowHit table idx else r.2

/-- Entries of one bank of the dimension tables: 168 for each slice. -/
def dimCount : Nat := 4096 * 168

/-- The index of the `j`-th entry of the dimension tables. -/
def dimIdx (j : Nat) : Nat :=
  let r := j % 168
  let d := ((List.range 6).find? fun d => r < ((List.range (d + 1)).map dimSize).sum).getD 0
  j / 168 * 512 + d * 64 + (r - ((List.range d).map dimSize).sum)

/-- Entries a pass of the shadow compare walks. -/
def shadowCount : Nat := 2 * 16384 + 2 * dimCount + 2 * 65536 + 1024

/-- The entry at place `j` of the walk (R122): table, bank, index, offset in the image. -/
def shadowAt (j : Nat) : Nat × Nat × Nat × Nat :=
  let d := j - 32768
  let a := d - 2 * dimCount
  let l := a - 131072
  if j < 32768 then (1, j / 16384, j % 16384, (j % 16384 * 2 + j / 16384) * 96)
  else if d < 2 * dimCount then
    let i := dimIdx (d % dimCount)
    (2, d / dimCount, i, 0x300000 + ((i / 512 * 2 + d / dimCount) * 512 + i % 512) * 2)
  else if a < 65536 then (3, 0, a, 0xB00000 + a * 8)
  else if a < 131072 then (4, 0, a - 65536, 0xB80000 + (a - 65536) * 8)
  else (5, 0, l, 0xC00000 + l * 8)

/-- The bytes an entry has in the image; link_up is taken as zero (R122). -/
def State.shadowBytes (s : State) (table bank idx : Nat) : List Byte :=
  match table with
  | 1 => leWords 8 (s.fwdEntry 1 bank idx)
  | 2 => leBytes 2 (s.tget TB_DIM bank idx 0)
  | 5 => leBytes 8 (setFld (s.lpWord idx) 8 1 0)
  | t => leBytes 8 (s.tget t 0 idx 0)

/-- The shadow compare runs: in any mode but SERVICE, while enabled (R122). -/
def State.shadowOn (s : State) : Bool := s.rd FWD_TMODE_mode ≠ 0 && s.flag FWD_SHADOW_CTRL_enable

/-- The next entry of the walk is compared; after the last one a pass is complete and the next begins. -/
def State.shadowStep (s : State) : State :=
  let (t, b, i, off) := shadowAt s.fwd.walk
  let k := s.fwd.walk + 1
  let s := s.shadowOne t b i off (s.shadowBytes t b i)
  let s : State := { s with fwd := { s.fwd with walk := if k < shadowCount then k else 0 } }
  if k < shadowCount then s else s.wr FWD_SHADOW_CTRL_pass_count (s.rd FWD_SHADOW_CTRL_pass_count + 1)

/-- SHADOW_COMPARE_PASS (R122): the walk takes its next entry. A change of the mode to SERVICE stops it after any entry, and it goes on from there (DESIGN CHOICE, log entry 87). -/
def execShadowComparePass (s : State) : Host.Outcome State Fault Refusal := act s (if s.shadowOn then s.shadowStep else s)

end Sys2Proof.Machine
end

