-- ==== Sys2Proof/Machine/Tel.lean ====
section
/-! DEFINITION. Counters and telemetry: counter control, the telemetry ring, congestion maps, transit age (R487, R492, R494 to R498). -/

namespace Sys2Proof.Machine

/-! Counters. -/

/-- A write of PAGE_CNT_CTRL: its settings are stored and the counters of its clear bits go to 0 (R487). -/
def State.cntCtrlWrite (s : State) (pg : Nat) (w : Wr) : State :=
  let s := ((s.put PAGE_CNT_CTRL_en w pg).put PAGE_CNT_CTRL_chain w pg).put PAGE_CNT_CTRL_ovf_irq w pg
  (bitsOf 8 (w.ones 24 8)).foldl (fun s i => s.wr PAGE_CNT_count 0 pg i) s

/-- COUNTER_CLEAR (R487). -/
def execCounterClear (pg : Nat) (w : Wr) (s : State) : Host.Outcome State Fault Refusal :=
  hostWrite s (pg % 256) 0x98 fun s => s.cntCtrlWrite (pg % 256) w

/-- A write of PMC_CMD: clear_all zeroes every programmable counter of every page (R492). -/
def State.pmcCmd (s : State) (w : Wr) : State :=
  if w.ones 0 1 = 0 then s else
  ((List.range 256).filter pageAssigned).foldl (fun s pg => (List.range 8).foldl (fun s i => s.wr PAGE_CNT_count 0 pg i) s) s

/-- CLEAR_ALL (R492). -/
def execClearAll (s : State) : Host.Outcome State Fault Refusal := hostWrite s 15 0x108 fun s => s.pmcCmd { v := 1 }

/-! The ring. -/

/-- The ring's size in units: sizes outside 8 to 20 act as 12 (R500). -/
def State.telSize (s : State) : Nat :=
  let n := s.rd TEL_RING_CFG_size_log
  2 ^ (if 8 ≤ n ∧ n ≤ 20 then n else 12)

/-- Units held: head − tail. -/
def State.telHeld (s : State) : Nat := (s.rd TEL_RING_HEAD_head + 2 ^ 32 - s.rd TEL_RING_TAIL_tail) % 2 ^ 32

/-- Write `n` units at the head: the bytes first, the header last, then head advances (R497). -/
def State.telUnits (s : State) (n : Nat) (hdr rest : List Byte) : State :=
  let h := s.rd TEL_RING_HEAD_head
  let a := s.rd TEL_RING_BASE_base * 4096 + 64 * (h % s.telSize)
  let s := if rest.isEmpty then s else s.emit (.hostWr (a + 64) rest false)
  let half := decide (2 * s.telHeld ≤ s.telSize)
  let s := (s.emit (.hostWr a hdr false)).wr TEL_RING_HEAD_head (h + n)
  if half && s.telSize < 2 * s.telHeld then s.irq 16 1 else s

/-- A ring entry of `n` units: header words from 0x08 on, then the data; dropped where it does not fit or without Bus Master Enable (R423, R497, R498). -/
def State.telEntry (s : State) (typ n : Nat) (ws : List Nat) (rest : List Byte) : Bool × State :=
  let pos := s.rd TEL_RING_HEAD_head % s.telSize
  let pad := if s.telSize < pos + n then s.telSize - pos else 0
  if !s.busMaster || s.telSize < s.telHeld + n + pad then
    (false, ({ s with tel := { s.tel with dropped := s.tel.dropped + 1 } }.cnt TEL_RING_DROP_count).irq 16 0)
  else
    let s := if pad = 0 then s else s.telUnits pad (leBytes 64 (3 ||| pad <<< 8)) []
    let hdr := leBytes 4 (typ ||| n <<< 8) ++ leBytes 4 s.tel.entry ++ leWords 8 ws
    let s := { s with tel := { s.tel with entry := (s.tel.entry + 1) % 2 ^ 32 } }
    (true, (s.telUnits n (hdr ++ List.replicate (64 - hdr.length) 0) rest).event 16 0x10)

/-- A port's congestion level (R495). -/
def State.level (s : State) (p : Nat) : Nat :=
  if !s.flag LP_CFG_enable 0 p || !s.flag LP_CFG_link_up 0 p then 15
  else
    let q := s.load p
    if q = 0 then 0 else min 14 (max 1 (flog2 q + 1 - s.rd TEL_CFG_shift))

/-- A SNAPSHOT effect: rejected with enable = 0; two in one cycle give one map (R495, R496). -/
def State.snapshot (s : State) : State × Bool :=
  if !s.flag TEL_CTRL_enable then (s, false)
  else if s.tel.mapAt = some s.cyc then (s, true)
  else
    let lv := (List.range 512).map fun i => BitVec.ofNat 8 (s.level (2 * i) + 16 * s.level (2 * i + 1))
    let s := { s with tel := { s.tel with mapAt := some s.cyc } }
    let r := s.telEntry 1 9 [s.sec, s.nsFrac, s.self ||| s.rd TEL_CFG_shift <<< 24 ||| s.rd DTM_EPOCH_cur <<< 32, s.tel.dropped % 2 ^ 32] lv
    (if r.1 then { (r.2.cnt TEL_SNAPS_count) with tel := { r.2.tel with dropped := 0 } } else r.2, true)

/-- SNAPSHOT, action class 12 (R51, R495). -/
def execSnapshot (u : Nat) (s : State) : Host.Outcome State Fault Refusal := act s (s.effect (u % 32) 12 fun _ s => s.snapshot)

/-- A straggler record (R175, R498): open time, contributors not complete. -/
def State.telStraggler (s : State) (ctx slice chunk openT late : Nat) : State :=
  if !s.flag TEL_CTRL_enable then s else
  (s.telEntry 2 1 [s.sec, s.nsFrac, ctx ||| slice <<< 16 ||| chunk <<< 32, openT / (10 ^ 9 * NS), openT / NS % 10 ^ 9 * 65536 + openT / 2 ^ 32 % 65536, late] []).2

/-! Periodic snapshots. -/

/-- Interval of the periodic snapshots in half nanoseconds; below 1,000 ns it acts as 1,000 (R500). -/
def State.telPeriod (s : State) : Nat := 2 * max 1000 (s.rd TEL_CFG_interval_ns)

/-- Arm the firmware unit of the periodic snapshots, or wait for one (R59, R496). -/
def State.telArm (s : State) : State :=
  match s.ownSlot (8 * 2 ^ 47) with
  | some (n, t) => { (s.armOwn n 12 0 t s.telPeriod 0) with tel := { s.tel with unit := some n } }
  | none => s.ownWait { cls := 12, arg := 0, lead := 8 * 2 ^ 47, period := s.telPeriod, count := 0 }

/-- Cancel the firmware unit of the periodic snapshots, and any wait for one. -/
def State.telDisarm (s : State) : State :=
  let s := match s.tel.unit with
    | some n => if s.armed n then (s.cancelUnit n).reDepth else s
    | none => s
  { s with tel := { s.tel with unit := none }, fwq := s.fwq.filter fun a => a.cls ≠ 12 }

/-- A write of TEL_CTRL (off 0x100) or TEL_CFG (off 0x108): the unit is armed, re-armed or cancelled (R496). -/
def State.telWrite (s : State) (off : Nat) (w : Wr) : State :=
  let was := s.flag TEL_CTRL_enable && s.flag TEL_CTRL_auto
  let per := s.rd TEL_CFG_interval_ns
  let s := if off = 0x100 then ((s.put TEL_CTRL_enable w).put TEL_CTRL_auto w).put TEL_CTRL_age_en w
    else (s.put TEL_CFG_interval_ns w).put TEL_CFG_shift w
  let now := s.flag TEL_CTRL_enable && s.flag TEL_CTRL_auto
  if now && (!was || per ≠ s.rd TEL_CFG_interval_ns) then s.telDisarm.telArm
  else if was && !now then s.telDisarm
  else s

/-- TEL_CTRL_WRITE (R496): `cfg` writes TEL_CFG. -/
def execTelCtrlWrite (cfg : Bool) (w : Wr) (s : State) : Host.Outcome State Fault Refusal :=
  let off := if cfg then 0x108 else 0x100
  hostWrite s 16 off fun s => s.telWrite off w

/-! Transit age. -/

/-- Age of a packet handed to a lane's retry buffer (R494). -/
def State.ageSample (s : State) (p : Pkt) : State :=
  if !s.flag TEL_CTRL_age_en then s else
  let ds : Nat := (s.sec % 2 ^ 18 + 2 ^ 18 - fld p.originTime 30 18) % 2 ^ 18
  let age : Int := ((ds * 10 ^ 9 + s.ns : Nat) : Int) - ((fld p.originTime 0 30 : Nat) : Int)
  if 2 ^ 17 ≤ ds ∨ age < 0 then s.cnt TEL_AGE_NEG_count
  else
    let a := age.toNat
    s.cnt TEL_AGE_HIST_count 0 p.tc (if a < 128 then 0 else if 2 ^ 21 ≤ a then 15 else flog2 a - 6)

end Sys2Proof.Machine
end

