-- ==== Sys2Proof/Machine/Num.lean ====
section
/-! DEFINITION. Number formats, exact accumulation, reads with one rounding, FP32 arithmetic (R165, R186 to R208, R231, R232). -/

namespace Sys2Proof.Machine

/-! Formats (R165, R186 to R191). -/

/-- Element width in bits (R186). -/
def fmtBits (f : Nat) : Nat := [32, 16, 16, 8, 8, 6, 6, 4, 8, 320].getD f 0

/-- The format is an MX type. -/
def isMx (f : Nat) : Bool := 3 ≤ f && f ≤ 8

/-- Elements in a full piece (R165). -/
def pieceElems (f : Nat) : Nat := [1024, 2048, 2048, 3968, 3968, 5216, 5216, 7680, 3968, 102].getD f 1

/-- Pieces of `n` elements (R165). -/
def piecesFor (f n : Nat) : Nat := (n + pieceElems f - 1) / pieceElems f

/-- Elements in piece `p` of `n`. -/
def pieceCount (f n p : Nat) : Nat := min (pieceElems f) (n - p * pieceElems f)

/-- Bytes of one MX block: its scale and 32 elements (R188). -/
def blockBytes (f : Nat) : Nat := 1 + 4 * fmtBits f

/-- Payload bytes of `n` elements (R187, R188). -/
def payloadBytes (f n : Nat) : Nat := if isMx f then (n + 31) / 32 * blockBytes f else n * (fmtBits f / 8)

/-- Some payload byte from `a` on, `n` of them, lies in a poisoned segment (R77, R198). -/
def segPoisoned (map a n : Nat) : Bool := n ≠ 0 && (List.range ((a + n - 1) / 256 - a / 256 + 1)).any fun i => bit map (a / 256 + i)

/-- Container of element `i` of a payload, and whether it is poisoned (R187, R188, R198, R228); an EXP320 element is its 320 bits. -/
def elemAt (f : Nat) (b : List Byte) (map i : Nat) : Nat × Bool :=
  if isMx f then
    let base := i / 32 * blockBytes f
    let s := leNat ((b.drop base).take 1)
    let w := fmtBits f
    let str := leNat ((b.drop (base + 1)).take (4 * w))
    let lo := w * (i % 32)
    (fld str lo w ||| s <<< 8, segPoisoned map base 1 || segPoisoned map (base + 1 + lo / 8) ((lo + w - 1) / 8 - lo / 8 + 1))
  else
    let w := fmtBits f / 8
    (leNat ((b.drop (w * i)).take w), segPoisoned map (w * i) w)

/-! Values. -/

/-- A decoded value: NaN, an infinity, or a finite magnitude in units of 2^-160 (R192 to R194). -/
inductive Num where
  | nan
  | inf (neg : Bool)
  | fin (neg : Bool) (mag : Nat)
deriving DecidableEq, Repr

/-- Exponent bits, fraction bits, bias and largest finite code of a floating-point element type (R189). -/
structure FpType where
  eb : Nat
  fb : Nat
  bias : Nat
  top : Nat
  hasInf : Bool := true
  emax : Int := 0
deriving DecidableEq, Repr

/-- The element type of a floating-point format code. -/
def fpType (f : Nat) : FpType :=
  match f with
  | 0 => { eb := 8, fb := 23, bias := 127, top := 0x7F7FFFFF }
  | 1 => { eb := 8, fb := 7, bias := 127, top := 0x7F7F }
  | 2 => { eb := 5, fb := 10, bias := 15, top := 0x7BFF }
  | 3 => { eb := 4, fb := 3, bias := 7, top := 0x7E, hasInf := false, emax := 8 }
  | 4 => { eb := 5, fb := 2, bias := 15, top := 0x7B, emax := 15 }
  | 5 => { eb := 3, fb := 2, bias := 3, top := 0x1F, hasInf := false, emax := 4 }
  | 6 => { eb := 2, fb := 3, bias := 1, top := 0x1F, hasInf := false, emax := 2 }
  | _ => { eb := 2, fb := 1, bias := 1, top := 0x7, hasInf := false, emax := 2 }

/-- Exponent added to a normal element's E in the wide form (R192), less the block scale. -/
def wideOff (f : Nat) : Nat := [10, 26, 135, 23, 16, 28, 29, 31].getD f 0

/-- Decode a container of formats 0 to 8 into its exact value (R190, R192). -/
def decodeNum (f c : Nat) : Num :=
  let s := fld c 8 8
  if isMx f && s = 255 then .nan
  else if f = 8 then
    let i := toSigned 8 (fld c 0 8)
    .fin (decide (i < 0)) (i.natAbs * 2 ^ (s + 27))
  else
    let t := fpType f
    let sc := if isMx f then s else 0
    let neg := bit c (t.eb + t.fb)
    let e := fld c t.fb t.eb
    let m := fld c 0 t.fb
    if e = 2 ^ t.eb - 1 ∧ (f ≤ 2 ∨ f = 4) then (if m = 0 then .inf neg else .nan)
    else if f = 3 ∧ e = 15 ∧ m = 7 then .nan
    else if e = 0 then .fin neg (m * 2 ^ (1 + sc + wideOff f))
    else .fin neg ((2 ^ t.fb + m) * 2 ^ (e + sc + wideOff f))

/-- Decode an EXP320 element (R191). -/
def decodeExp (c : Nat) : Num :=
  if fld c 288 32 = 0x80000000 then
    if fld c 8 280 ≠ 0 then .nan
    else match fld c 0 8 with
      | 2 => .inf false
      | 3 => .inf true
      | 4 => .fin true 0
      | _ => .nan
  else let x := toSigned 320 (c % 2 ^ 320); .fin (decide (x < 0)) x.natAbs

/-- Decode a container or EXP320 element. -/
def decodeAny (f c : Nat) : Num := if f = 9 then decodeExp c else decodeNum f c

/-! State bits of R194 and status bits of R201. -/

/-- SEEN. -/
def aSEEN : Nat := 1
/-- NAN. -/
def aNAN : Nat := 2
/-- PINF. -/
def aPINF : Nat := 4
/-- NINF. -/
def aNINF : Nat := 8
/-- NZ. -/
def aNZ : Nat := 16
/-- UFX. -/
def aUFX : Nat := 32
/-- PSN. -/
def aPSN : Nat := 64
/-- NAN_IN. -/
def sNANIN : Nat := 1
/-- INV. -/
def sINV : Nat := 2
/-- OVF. -/
def sOVF : Nat := 4
/-- UFX. -/
def sUFX : Nat := 8
/-- INX. -/
def sINX : Nat := 16
/-- SAT. -/
def sSAT : Nat := 32
/-- PSN. -/
def sPSN : Nat := 64

/-- The state bit is set. -/
def Accum.has (a : Accum) (b : Nat) : Bool := a.st &&& b ≠ 0

/-- Set and clear state bits. -/
def Accum.mark (a : Accum) (on off : Nat) : Accum := { a with st := (a.st &&& (127 ^^^ off)) ||| on }

/-- A signed magnitude. -/
def signed (neg : Bool) (m : Nat) : Int := if neg then -(m : Int) else (m : Int)

/-- Add a value under SUM (R196): the accumulator and the status bits met. -/
def Accum.addSum (a : Accum) (v : Num) : Accum × Nat :=
  match v with
  | .nan => (a.mark (aNAN ||| aSEEN) aNZ, sNANIN)
  | .inf n => (a.mark ((if n then aNINF else aPINF) ||| aSEEN) aNZ, 0)
  | .fin n 0 => (if !n then a.mark aSEEN aNZ else if a.has aSEEN then a else a.mark (aSEEN ||| aNZ) 0, 0)
  | .fin n m => (({ a with x := a.x + signed n m }).mark aSEEN aNZ, 0)

/-- Place in the order of R199: −Inf, negative, −0, +0, positive, +Inf. -/
def orderKey (v : Num) : Int × Int :=
  match v with
  | .nan => (0, 0)
  | .inf n => (if n then -1 else 1, 0)
  | .fin n m => (0, if m = 0 then (if n then -1 else 0) else 2 * signed n m)

/-- `a` comes before `b` in that order. -/
def keyLt (a b : Int × Int) : Bool := a.1 < b.1 || (a.1 = b.1 && a.2 < b.2)

/-- The extreme an accumulator holds under MIN or MAX. -/
def Accum.extreme (a : Accum) : Num :=
  if a.has aPINF then .inf false
  else if a.has aNINF then .inf true
  else .fin (decide (a.x < 0) || (a.x = 0 && a.has aNZ)) a.x.natAbs

/-- Hold a value as the extreme. -/
def Accum.hold (a : Accum) (v : Num) : Accum :=
  let b := a.mark aSEEN (aPINF ||| aNINF ||| aNZ)
  match v with
  | .nan => b
  | .inf n => { (b.mark (if n then aNINF else aPINF) 0) with x := 0 }
  | .fin n m => { (if n && m = 0 then b.mark aNZ 0 else b) with x := signed n m }

/-- Compare a value under MIN (op 1) or MAX (op 2) (R199). -/
def Accum.addExt (a : Accum) (op : Nat) (v : Num) : Accum × Nat :=
  match v with
  | .nan => (a.mark (aNAN ||| aSEEN) 0, sNANIN)
  | v =>
    let better := if op = 1 then keyLt (orderKey v) (orderKey a.extreme) else keyLt (orderKey a.extreme) (orderKey v)
    (if !a.has aSEEN || better then a.hold v else a, 0)

/-- A contribution under operator `op` of R160; a poisoned one only sets PSN, with SEEN under SUM (R196, R198, R199, log entry 6). -/
def Accum.add (a : Accum) (op : Nat) (v : Num) (psn : Bool) : Accum × Nat :=
  if psn then (a.mark (if op = 0 then aPSN ||| aSEEN else aPSN) 0, sPSN)
  else if op = 0 then a.addSum v
  else a.addExt op v

/-- A zero value. -/
def Num.isZero : Num → Bool
  | .fin _ 0 => true
  | _ => false

/-- The sign. -/
def Num.neg : Num → Bool
  | .nan => false
  | .inf n => n
  | .fin n _ => n

/-- Contribution of a product of two decoded operands, with its status (R200). -/
def mulNum (a b : Num) : Num × Nat :=
  let n := a.neg != b.neg
  match a, b with
  | .nan, _ => (.nan, sNANIN)
  | _, .nan => (.nan, sNANIN)
  | .inf _, y => if y.isZero then (.nan, sINV) else (.inf n, 0)
  | x, .inf _ => if x.isZero then (.nan, sINV) else (.inf n, 0)
  | .fin _ x, .fin _ y =>
    let p := x * y / 2 ^ 160
    if 2 ^ 319 ≤ p then (.inf n, sOVF) else (.fin n p, if x * y % 2 ^ 160 = 0 then 0 else sUFX)

/-- Accumulate a product (R200); lost bits set the UFX state bit. -/
def Accum.addProd (a : Accum) (x y : Num) (psn : Bool) : Accum × Nat :=
  if psn then (a.mark (aPSN ||| aSEEN) 0, sPSN)
  else
    let p := mulNum x y
    let r := a.addSum p.1
    (if p.2 = sUFX then r.1.mark aUFX 0 else r.1, p.2)

/-- Record status bits met at an element index (R201, R202). -/
def Stm.note (t : Stm) (bits i : Nat) : Stm :=
  (bitsOf 7 bits).foldl (fun t k =>
    let i := min i 0xFFFF
    { status := t.status ||| 1 <<< k, idx := t.idx.set k (if bit t.status k then min (t.idx.getD k 0) i else i) }) t

/-- The exception record as one number (R202). -/
def Stm.record (t : Stm) : Nat := (List.range 7).foldl (fun v k => v ||| t.idx.getD k 0 <<< (16 * k)) 0

/-- One accumulator added into another exactly (KADD, R230). -/
def Accum.join (a b : Accum) : Accum :=
  let nz := if !a.has aSEEN then b.has aNZ else if !b.has aSEEN then a.has aNZ else a.has aNZ && b.has aNZ
  { x := a.x + b.x, st := ((a.st ||| b.st) &&& (127 ^^^ aNZ)) ||| (if nz then aNZ else 0) }

/-- Status words ORed, each record index the lower of the two. -/
def Stm.join (a b : Stm) : Stm :=
  (List.range 7).foldl (fun t k => if bit b.status k then t.note (1 <<< k) (b.idx.getD k 0) else t) a

/-- An accumulator that holds one value. -/
def Accum.ofNum (v : Num) : Accum := (({} : Accum).addSum v).1

/-! Reads (R203 to R208). -/

/-- A lane resolved for a read (R203). -/
inductive Res where
  | nan
  | inf (neg : Bool)
  | over (neg : Bool)
  | zero (neg : Bool)
  | fin (neg : Bool) (mag : Nat)
deriving DecidableEq, Repr

/-- Resolve a lane: the outcome and the status bits of steps 1 to 4 (R203). -/
def Accum.resolve (a : Accum) : Res × Nat :=
  if a.has aPSN then (.nan, sPSN)
  else if a.has aPINF && a.has aNINF then (.nan, sINV)
  else if a.has aNAN then (.nan, 0)
  else if a.has aPINF then (.inf false, 0)
  else if a.has aNINF then (.inf true, 0)
  else if 2 ^ 319 ≤ a.x.natAbs then (.over (decide (a.x < 0)), sOVF ||| sINX)
  else if a.x = 0 then (.zero (a.has aNZ), 0)
  else (.fin (decide (a.x < 0)) a.x.natAbs, 0)

/-- The hash of DSR (R204): bits [63:32] of h. -/
def dsr (ctx chunk elem seed : Nat) : Nat :=
  let x := (ctx <<< 48 ||| (chunk % 2 ^ 32) <<< 16 ||| elem % 65536) % 2 ^ 64
  let h := x ^^^ seed
  let h := h ^^^ (h >>> 31)
  let h := h * 0x9C5A3E71B4D28F05 % 2 ^ 64
  let h := h ^^^ (h >>> 27)
  let h := h * 0xE7A14C930B6D52F9 % 2 ^ 64
  (h ^^^ (h >>> 33)) >>> 32

/-- Round `mag` × 2^`sh` to an integer: the integer and whether it differs (R203, R204). `sticky` says that the value lies above by less than any bit. `r` is the hash of DSR. -/
def roundTo (mag : Nat) (sh : Int) (neg sticky : Bool) (rnd r : Nat) : Nat × Bool :=
  let k := (-sh).toNat
  let n := if 0 ≤ sh then mag <<< sh.toNat else mag >>> k
  let rem := if 0 ≤ sh then 0 else mag % 2 ^ k
  let half := if k = 0 then 1 else 2 ^ (k - 1)
  let inx := rem ≠ 0 || sticky
  let up := match rnd with
    | 0 => decide (half < rem) || (rem = half && k ≠ 0 && (sticky || n % 2 = 1))
    | 1 => false
    | 2 => !neg && inx
    | 3 => neg && inx
    | _ => decide (2 ^ 32 ≤ rem * 2 ^ 32 / 2 ^ k + r)
  (if up then n + 1 else n, inx)

/-- Round a positive value `mag` × 2^`q` into a floating-point type with unbounded exponent above: the code without sign, and whether it differs (R204). -/
def encodeFp (t : FpType) (mag : Nat) (q : Int) (neg sticky : Bool) (rnd r : Nat) : Nat × Bool :=
  let l := (flog2 mag : Int) + q
  let emin := 1 - (t.bias : Int)
  let ex := max l emin
  let n := roundTo mag (q - ex + t.fb) neg sticky rnd r
  (n.1 + ((ex - emin).toNat <<< t.fb), n.2)

/-- The canonical NaN of a format (R206); block NaN is told by `mxBlockNan`. -/
def nanCode (f : Nat) : Nat := [0x7FC00000, 0x7FC0, 0x7E00, 0x7F, 0x7E].getD f 0

/-- NaN in this format takes the whole block (R206). -/
def mxBlockNan (f : Nat) : Bool := 5 ≤ f && f ≤ 8

/-- Sign bit of a code. -/
def signCode (f : Nat) (neg : Bool) : Nat := if !neg then 0 else 1 <<< (fmtBits f - 1)

/-- Code of the largest finite value of a sign; INT8 is two's complement (R206). -/
def topCode (f : Nat) (neg : Bool) : Nat := if f = 8 then (if neg then 0x81 else 0x7F) else (fpType f).top ||| signCode f neg

/-- A lane's outcome: element code, whether it makes the block NaN, status bits. -/
abbrev LaneOut := Nat × Bool × Nat

/-- NaN of a format. -/
def outNan (f st : Nat) : LaneOut := (nanCode f, mxBlockNan f, st)

/-- A format has infinity (R189). -/
def hasInf (f : Nat) : Bool := f ≤ 2 || f = 4

/-- Beyond range (R205, R206). -/
def outBeyond (f : Nat) (neg ovm : Bool) (st : Nat) : LaneOut :=
  if !ovm then (topCode f neg, false, st ||| sSAT ||| sINX)
  else if hasInf f then ((fpType f).top + 1 ||| signCode f neg, false, st ||| sSAT ||| sINX)
  else outNan f (st ||| sSAT ||| sINX)

/-- A resolved lane encoded into formats 0 to 8 at scale exponent `sx` (R203 to R206). -/
def encodeLane (f : Nat) (v : Res) (st : Nat) (sx : Int) (rnd : Nat) (ovm : Bool) (r : Nat) : LaneOut :=
  match v with
  | .nan => outNan f st
  | .inf n => if hasInf f then (((fpType f).top + 1) ||| signCode f n, false, st) else outBeyond f n ovm st
  | .over n => if hasInf f then (((fpType f).top + 1) ||| signCode f n, false, st) else outBeyond f n ovm st
  | .zero n => (if f = 8 then 0 else signCode f n, false, st)
  | .fin n m =>
    if f = 8 then
      let c := roundTo m (-160 - sx + 6) n false rnd r
      let st := if c.2 then st ||| sINX else st
      if 127 < c.1 then outBeyond f n ovm st else (ofSigned 8 (signed n c.1), false, st)
    else
      let c := encodeFp (fpType f) m (-160 - sx) n false rnd r
      let st := if c.2 then st ||| sINX else st
      if (fpType f).top < c.1 then outBeyond f n ovm st else (c.1 ||| signCode f n, false, st)

/-- Scale exponent of a block (R207). -/
def blockScale (f : Nat) (vs : List Res) : Int :=
  let amax := vs.foldl (fun m v => match v with | .fin _ x => max m x | _ => m) 0
  let emax : Int := if f = 8 then 0 else (fpType f).emax
  if amax = 0 then -127 else min 127 (max (-127) ((flog2 amax : Int) - 160 - emax))

/-- Read lanes into formats 0 to 8 (R203): containers of R228 with their status. MX lanes are taken in blocks of 32. `rs` gives each lane's DSR hash. -/
def readLanes (f : Nat) (vs : List (Res × Nat)) (rnd : Nat) (ovm : Bool) (rs : List Nat) : List (Nat × Nat) :=
  if !isMx f then (vs.zip rs).map fun ((v, st), r) => let o := encodeLane f v st 0 rnd ovm r; (o.1, o.2.2)
  else
    (List.range ((vs.length + 31) / 32)).flatMap fun b =>
      let blk := (vs.drop (32 * b)).take 32
      let sx := blockScale f (blk.map (·.1))
      let os := (blk.zip ((rs.drop (32 * b)).take 32)).map fun ((v, st), r) => encodeLane f v st sx rnd ovm r
      let bad := os.any (·.2.1)
      os.map fun o => (if bad then 0xFF00 else o.1 ||| (sx + 127).toNat <<< 8, o.2.2)

/-- The special EXP320 element of a code (R191, R208). -/
def expSpecial (c : Nat) : Nat := 0x80000000 <<< 288 ||| c

/-- Read a lane into EXP320, which never rounds (R208). -/
def Accum.readExp (a : Accum) : Nat × Nat :=
  let r := a.resolve
  match r.1 with
  | .nan => (expSpecial 1, r.2)
  | .inf n => (expSpecial (if n then 3 else 2), r.2)
  | .over n => (expSpecial (if n then 3 else 2), r.2)
  | .zero n => (if n then expSpecial 4 else 0, r.2)
  | .fin n m =>
    if n && 2 ^ 319 - 2 ^ 288 < m then (expSpecial 3, r.2 ||| sOVF ||| sINX)
    else (ofSigned 320 (signed n m), r.2)

/-! FP32 arithmetic (R231, R232): values are in units of 2^-149. -/

/-- The canonical NaN. -/
def fNaN : Nat := 0x7FC00000

/-- NV. -/
def fNV : Nat := 1
/-- DZ. -/
def fDZ : Nat := 2
/-- OF. -/
def fOF : Nat := 4
/-- UF. -/
def fUF : Nat := 8
/-- NX. -/
def fNX : Nat := 16

/-- A signalling NaN. -/
def isSNaN (b : Nat) : Bool := fld b 23 8 = 255 && fld b 0 23 ≠ 0 && !bit b 22

/-- A NaN. -/
def isNaN32 (b : Nat) : Bool := fld b 23 8 = 255 && fld b 0 23 ≠ 0

/-- The value of FP32 bits in units of 2^-149. -/
def f32 (b : Nat) : Num :=
  let neg := bit b 31
  let e := fld b 23 8
  let m := fld b 0 23
  if e = 255 then (if m = 0 then .inf neg else .nan)
  else if e = 0 then .fin neg m
  else .fin neg ((2 ^ 23 + m) * 2 ^ (e - 1))

/-- Signed infinity and zero. -/
def fInf (neg : Bool) : Nat := if neg then 0xFF800000 else 0x7F800000
/-- Signed zero. -/
def fZero (neg : Bool) : Nat := if neg then 0x80000000 else 0

/-- Round a nonzero value `mag` × 2^`q` to FP32 with its flags: overflow by mode, tininess after rounding (R231). -/
def roundF32 (neg : Bool) (mag : Nat) (q : Int) (sticky : Bool) (rnd : Nat) : Nat × Nat :=
  let c := encodeFp (fpType 0) mag q neg sticky rnd 0
  let sg := if neg then 0x80000000 else 0
  if 0x7F7FFFFF < c.1 then
    let toInf := rnd = 0 || (rnd = 2 && !neg) || (rnd = 3 && neg)
    (if toInf then fInf neg else sg ||| 0x7F7FFFFF, fOF ||| fNX)
  else
    let l := (flog2 mag : Int) + q
    let wide := roundTo mag (q - l + 23) neg sticky rnd 0
    let tiny := decide (l < -127) || (l = -127 && wide.1 < 2 ^ 24)
    (sg ||| c.1, if c.2 then (if tiny then fNX ||| fUF else fNX) else 0)

/-- Round an exact integer sum in units of 2^`q`; an exact zero takes the sign `z`. -/
def roundInt (x : Int) (q : Int) (z : Bool) (rnd : Nat) : Nat × Nat :=
  if x = 0 then (fZero z, 0) else roundF32 (decide (x < 0)) x.natAbs q false rnd

/-- Flags of NaN operands. -/
def nanFlags (l : List Nat) : Nat := if l.any isSNaN then fNV else 0

/-- Integer square root, bit by bit from bit `k` down. -/
def isqrt : Nat → Nat → Nat → Nat
  | 0, n, r => if (r + 1) * (r + 1) ≤ n then r + 1 else r
  | k + 1, n, r => let t := r + 2 ^ (k + 1); isqrt k n (if t * t ≤ n then t else r)

/-- The sign of an exact zero sum of zeros (R232): −0 under RDN, and when both addends are −0. -/
def zeroSign (na nb : Bool) (rnd : Nat) : Bool := (na && nb) || rnd = 3

/-- FADD. -/
def fAdd (a b rnd : Nat) : Nat × Nat :=
  match f32 a, f32 b with
  | .nan, _ => (fNaN, nanFlags [a, b])
  | _, .nan => (fNaN, nanFlags [a, b])
  | .inf x, .inf y => if x = y then (fInf x, 0) else (fNaN, fNV)
  | .inf x, _ => (fInf x, 0)
  | _, .inf y => (fInf y, 0)
  | .fin x m, .fin y n => roundInt (signed x m + signed y n) (-149) (if m = 0 ∧ n = 0 then zeroSign x y rnd else decide (rnd = 3)) rnd

/-- FMUL. -/
def fMul (a b rnd : Nat) : Nat × Nat :=
  let s := bit a 31 != bit b 31
  match f32 a, f32 b with
  | .nan, _ => (fNaN, nanFlags [a, b])
  | _, .nan => (fNaN, nanFlags [a, b])
  | .inf _, y => if y.isZero then (fNaN, fNV) else (fInf s, 0)
  | x, .inf _ => if x.isZero then (fNaN, fNV) else (fInf s, 0)
  | .fin _ m, .fin _ n => if m * n = 0 then (fZero s, 0) else roundF32 s (m * n) (-298) false rnd

/-- FMA: one rounding. -/
def fFma (a b c rnd : Nat) : Nat × Nat :=
  let s := bit a 31 != bit b 31
  let bad := match f32 a, f32 b with
    | .inf _, .fin _ 0 => true
    | .fin _ 0, .inf _ => true
    | _, _ => false
  if isNaN32 a || isNaN32 b || isNaN32 c || bad then (fNaN, nanFlags [a, b, c] ||| (if bad then fNV else 0))
  else match f32 a, f32 b, f32 c with
    | .fin _ m, .fin _ n, .fin z k =>
      roundInt (signed s (m * n) + signed z (k * 2 ^ 149)) (-298) (if m * n = 0 ∧ k = 0 then zeroSign s z rnd else decide (rnd = 3)) rnd
    | .fin _ _, .fin _ _, .inf z => (fInf z, 0)
    | _, _, .inf z => if z = s then (fInf s, 0) else (fNaN, fNV)
    | _, _, _ => (fInf s, 0)

/-- FMIN (`min` true) and FMAX: minimumNumber and maximumNumber, −0 below +0 (R231). -/
def fExt (min : Bool) (a b : Nat) : Nat × Nat :=
  let fl := nanFlags [a, b]
  if isNaN32 a then (if isNaN32 b then (fNaN, fl) else (b, fl))
  else if isNaN32 b then (a, fl)
  else
    let lt := keyLt (orderKey (f32 b)) (orderKey (f32 a))
    (if min = lt then b else a, 0)

/-- DIV. -/
def fDiv (a b rnd : Nat) : Nat × Nat :=
  let s := bit a 31 != bit b 31
  match f32 a, f32 b with
  | .nan, _ => (fNaN, nanFlags [a, b])
  | _, .nan => (fNaN, nanFlags [a, b])
  | .inf _, .inf _ => (fNaN, fNV)
  | .inf _, _ => (fInf s, 0)
  | _, .inf _ => (fZero s, 0)
  | .fin _ m, .fin _ n =>
    if n = 0 then (if m = 0 then (fNaN, fNV) else (fInf s, fDZ))
    else if m = 0 then (fZero s, 0)
    else
      let num := m * 2 ^ 320
      roundF32 s (num / n) (-320) (num % n ≠ 0) rnd

/-- SQRT. -/
def fSqrt (a rnd : Nat) : Nat × Nat :=
  match f32 a with
  | .nan => (fNaN, nanFlags [a])
  | .inf n => if n then (fNaN, fNV) else (fInf false, 0)
  | .fin n m =>
    if m = 0 then (fZero n, 0)
    else if n then (fNaN, fNV)
    else
      let z := m * 2 ^ 101
      let r := isqrt 192 z 0
      roundF32 false r (-125) (r * r ≠ z) rnd

/-- RSQ: the reciprocal square root, correctly rounded (R232). -/
def fRsq (a rnd : Nat) : Nat × Nat :=
  match f32 a with
  | .nan => (fNaN, nanFlags [a])
  | .inf n => if n then (fNaN, fNV) else (0, 0)
  | .fin n m =>
    if m = 0 then (fInf n, fDZ)
    else if n then (fNaN, fNV)
    else
      let r := isqrt 210 (2 ^ 405 / m) 0
      roundF32 false r (-128) (r * r * m ≠ 2 ^ 405) rnd

end Sys2Proof.Machine
end

