-- ==== Sys2Proof/Machine/Coll.lean ====
section
/-! DEFINITION. Collective contexts: their table words, groups, contributors and recipients, slice quotas, the ledger a context names (R160 to R166, R242 to R245, R249, R390). -/

namespace Sys2Proof.Machine

/-- MEMBER of R162. -/
def TB_MEMBER : Nat := 31
/-- STATS of R175: record index block × 1024 + member. -/
def TB_STATS : Nat := 32
/-- BC_TREE of R293. -/
def TB_BCTREE : Nat := 33

/-! Context words. -/

/-- A field of a context's words (R160). -/
def State.cx (s : State) (c w lo n : Nat) : Nat := fld (s.tget TB_CTX 0 c w) lo n

/-- W0.valid. -/
def State.ctxValid (s : State) (c : Nat) : Bool := s.cx c 0 0 1 = 1
/-- W0.operation. -/
def State.ctxOper (s : State) (c : Nat) : Nat := s.cx c 0 1 3
/-- W0.op. -/
def State.ctxOp (s : State) (c : Nat) : Nat := s.cx c 0 4 4
/-- W0.slice. -/
def State.ctxSlice (s : State) (c : Nat) : Nat := s.cx c 0 8 12
/-- W0.out_fmt. -/
def State.ctxFmt (s : State) (c : Nat) : Nat := s.cx c 0 20 4
/-- W0.retention. -/
def State.ctxRet (s : State) (c : Nat) : Nat := s.cx c 0 25 2
/-- W1.chunk_k in elements. -/
def State.ctxElems (s : State) (c : Nat) : Nat := 1024 * s.cx c 1 0 7
/-- W1.active. -/
def State.ctxActive (s : State) (c : Nat) : Bool := s.cx c 1 7 1 = 1
/-- W1.max_ahead. -/
def State.ctxAhead (s : State) (c : Nat) : Nat := s.cx c 1 48 16
/-- W3.ledger. -/
def State.ctxLedger (s : State) (c : Nat) : Nat := s.cx c 3 44 4
/-- W3.kernel; the kernel store holds 256 kernels. -/
def State.ctxKernel (s : State) (c : Nat) : Nat := s.cx c 3 48 16
/-- W4.convoy_base. -/
def State.ctxBase (s : State) (c : Nat) : Nat := s.cx c 4 0 32
/-- W4.convoy_len. -/
def State.ctxLen (s : State) (c : Nat) : Nat := s.cx c 4 32 32
/-- W5.floor. -/
def State.ctxFloor (s : State) (c : Nat) : Nat := s.cx c 5 32 32

/-- A context word as the slice datum covers it: active and floor as zero (R378). -/
def ctxCovered (w v : Nat) : Nat := if w = 1 then setFld v 7 1 0 else if w = 5 then setFld v 32 32 0 else v

/-- The module changes a word of a context. -/
def State.ctxPut (s : State) (c w v : Nat) : State :=
  (s.coverSl (s.ctxSlice c) 0x26 (c * 8 + w) (ctxCovered w (s.tget TB_CTX 0 c w)) (ctxCovered w v)).tset TB_CTX 0 c w v

/-- Write all eight words of a context; they move to the new owner's sum (R160, R378). -/
def State.ctxStore (s : State) (c : Nat) (ws : List Nat) : State :=
  let o := s.ctxSlice c
  let o' := fld (ws.getD 0 0) 8 12
  (List.range 8).foldl (fun s w =>
    let old := ctxCovered w (s.tget TB_CTX 0 c w)
    let new := ws.getD w 0
    let s := if o = o' then s.coverSl o 0x26 (c * 8 + w) old (ctxCovered w new)
      else (s.coverSl o 0x26 (c * 8 + w) old 0).coverSl o' 0x26 (c * 8 + w) 0 (ctxCovered w new)
    (s.tset TB_CTX 0 c w new).mend TB_CTX 0 c w) s

/-- Some word of a context fails parity. -/
def State.ctxBad (s : State) (c : Nat) : Bool := (List.range 8).any fun w => s.isBad TB_CTX 0 c w 16

/-! Groups (R161, R162). -/

/-- A box range of 18 bits: lowest value, count, stride. -/
def boxRange (v : Nat) : Nat × Nat × Nat := (fld v 0 6, fld v 6 6 + 1, max 1 (fld v 12 6))

/-- The six ranges of words W6 and W7, hall to die. -/
def boxRanges (w6 w7 : Nat) : List (Nat × Nat × Nat) :=
  [fld w6 0 18, fld w6 18 18, fld w6 36 18, fld w7 0 18, fld w7 18 18, fld w7 36 18].map boxRange

/-- Members of a box. -/
def boxCount (rs : List (Nat × Nat × Nat)) : Nat := (rs.map fun r => r.2.1).foldl (· * ·) 1

/-- A range's last value exceeds the coordinate's width (R74). -/
def boxBad (rs : List (Nat × Nat × Nat)) : Bool :=
  rs.zipIdx.any fun ((lo, n, st), d) => 2 ^ (dimField d).2 ≤ lo + (n - 1) * st

/-- The endpoint of member `m` of a box: die varies fastest (R161). -/
def boxEndpoint (rs : List (Nat × Nat × Nat)) (m : Nat) : Nat :=
  (rs.zipIdx.reverse.foldl (fun (m, ep) ((lo, n, st), d) => (m / n, ep + ((lo + st * (m % n)) <<< (dimField d).1))) (m, 0)).2

/-- Group size N of a context. -/
def State.ctxN (s : State) (c : Nat) : Nat :=
  if s.cx c 0 24 1 = 1 then s.cx c 5 16 11 else boxCount (boxRanges (s.tget TB_CTX 0 c 6) (s.tget TB_CTX 0 c 7))

/-- Where a packet goes: endpoint, waybill entries, hop_count. -/
abbrev Route := Nat × List Nat × Nat

/-- The route of a MEMBER table entry (R162); none where the entry is not valid or fails parity. -/
def State.memberRoute (s : State) (i : Nat) : Option Route :=
  let e := s.tget TB_MEMBER 0 (i % 65536) 0
  let h := fld e 24 16
  if !bit e 40 || s.isBad TB_MEMBER 0 (i % 65536) 0 16 then none
  else if fld h 14 2 = 2 then some (fld e 0 24, [h], 0)
  else some (fld e 0 24, [h, 0x8005], 1)

/-- The route to member `m` of a context's group (R161, R162). -/
def State.route (s : State) (c m : Nat) : Option Route :=
  if s.cx c 0 24 1 = 1 then s.memberRoute (s.cx c 5 0 16 + m)
  else some (boxEndpoint (boxRanges (s.tget TB_CTX 0 c 6) (s.tget TB_CTX 0 c 7)) m, [0x8005], 0)

/-! Operations (R163). -/

/-- The member of ⌊c / scatter_div⌋ mod N, c the chunk index less convoy_base. -/
def State.scatterMember (s : State) (c chunk : Nat) : Nat :=
  (((chunk : Int) - (s.ctxBase c : Int)) / ((s.cx c 1 32 16 : Nat) : Int) % ((s.ctxN c : Nat) : Int)).toNat

/-- The one member that contributes to a chunk, if only one does (R163). -/
def State.contributor? (s : State) (c chunk : Nat) : Option Nat :=
  match s.ctxOper c with
  | 2 => some (s.scatterMember c chunk)
  | 3 => some (s.cx c 1 8 10)
  | _ => none

/-- The one member that is owed a chunk's result, if only one is (R163). -/
def State.recipient? (s : State) (c chunk : Nat) : Option Nat := if s.ctxOper c = 1 then some (s.scatterMember c chunk) else none

/-- Members owing or owed, ascending: one, or the whole group. -/
def membersOf (one : Option Nat) (n : Nat) : List Nat := match one with | some m => [m] | none => List.range n

/-- The contributors of a chunk, ascending (R163). -/
def State.contributors (s : State) (c chunk : Nat) : List Nat := membersOf (s.contributor? c chunk) (s.ctxN c)

/-- The contributors of a chunk as it opened. -/
def Chunk.contributors (k : Chunk) : List Nat := membersOf k.fromOne k.group

/-- The recipients of a chunk's result as it opened: they do not move with convoy_base (R163, R182). -/
def Chunk.recipients (k : Chunk) : List Nat := membersOf k.toOne k.group

/-- The operation claims tally (R163). -/
def hasTally (operation : Nat) : Bool := operation = 0 || operation = 1 || operation = 5

/-- Pieces of a contribution or result of `n` elements; a BARRIER chunk has one of length 0 (R163, R165). -/
def opPieces (operation f n : Nat) : Nat := if operation = 4 then 1 else piecesFor f n

/-- Payload bytes of piece `p` (R163, R165). -/
def opLength (operation f n p : Nat) : Nat := if operation = 4 then 0 else payloadBytes f (pieceCount f n p)

/-! Checks of a WRITE (R160 to R162, R249). -/

/-- A context's words break a limit of R160, R161 or R249, whatever `valid` is written. -/
def ctxInvalid (w : Nat → Nat) : Bool :=
  let oper := fld (w 0) 1 3
  let mask := fld (w 0) 32 16
  let fmt := fld (w 0) 20 4
  let k := fld (w 1) 0 7
  let rs := boxRanges (w 6) (w 7)
  let n := if bit (w 0) 24 then fld (w 5) 16 11 else boxCount rs
  let span := fld (w 0) 54 7
  let len := fld (w 4) 32 32
  let m := (len + span - 1) / span
  (5 < oper || 2 < fld (w 0) 4 4 || 10 ≤ fmt || fld (w 0) 25 2 = 3 || mask / 1024 ≠ 0 || span = 0 || 64 < span
    || k = 0 || 64 < k || fld (w 1) 32 16 = 0
    || fld (w 1) 48 16 = 0 || 8192 < fld (w 1) 48 16 || fld (w 2) 32 32 = 0 || len = 0 || 2 ^ 31 < len
    || (bit (w 0) 24 && (n = 0 || 1024 < n)) || boxBad rs || 1024 < n
    || n ≤ fld (w 1) 8 10
    || (fmt :: bitsOf 10 mask).any (fun f => 64 < piecesFor f (1024 * k))
    || (oper = 5 && (4096 < len || fld (w 1) 48 16 < len || 64 < m * k || 128 < m)))

/-- The bits of a context word that hold fields (R160). -/
def ctxMask (w v : Nat) : Nat :=
  match w with
  | 0 => fld v 0 27 ||| fld v 32 29 <<< 32
  | 1 => fld v 0 7 ||| fld v 8 10 <<< 8 ||| fld v 32 32 <<< 32
  | 3 => fld v 0 41 ||| fld v 44 20 <<< 44
  | 5 => fld v 0 27
  | 6 => fld v 0 54
  | 7 => fld v 0 54
  | _ => fld v 0 64

/-- A MEMBER entry lies in the range of a context with active = 1 (R162). -/
def State.memberBusy (s : State) (i : Nat) : Bool :=
  (List.range 65536).any fun c => s.ctxActive c && s.cx c 0 24 1 = 1 && decide (s.cx c 5 0 16 ≤ i) && decide (i < s.cx c 5 0 16 + s.cx c 5 16 11)

/-! Quotas (R390). -/

/-- A cap of a slice: 0 ctx_max, 1 granule_max, 2 stage_max; 0 is no cap. A parity error is counted and reads as no cap (R397). -/
def State.cap (s : State) (sl which : Nat) : Nat × State :=
  let w := s.tget TB_QUOTA 0 sl 0
  if s.isBad TB_QUOTA 0 sl 0 16 then (0, s.cnt DTM_PARITY_count)
  else (match which with | 0 => fld w 0 14 | 1 => fld w 16 13 | _ => fld w 32 15, s)

/-- The chunk contexts of a slice. -/
def State.sliceChunks (s : State) (sl : Nat) : List Chunk := s.ser.chunks.filter fun k => k.slice = sl

/-- What a slice holds of each capped resource (R395). -/
def State.sliceUse (s : State) (sl which : Nat) : Nat :=
  match which with
  | 0 => ((s.sliceChunks sl).filter fun k => k.slot.isSome).length
  | 1 => ((s.sliceChunks sl).map (·.granules)).sum
  | _ => ((s.sliceChunks sl).map fun k => (k.spec ++ k.emit ++ k.other).length).sum

/-- `n` more would pass the cap. -/
def State.overCap (s : State) (sl which n : Nat) : Bool × State :=
  let r := s.cap sl which
  (r.1 ≠ 0 && r.1 < s.sliceUse sl which + n, r.2)

/-! Ledgers (R242, R243, R245). -/

/-- Bytes of a record, by layout (R243). -/
def ldgB (layout : Nat) : Nat := [8, 12, 16, 0].getD layout 0

/-- Byte address of field `f` of parameter `p` in bank `k` of ledger `n` (R243). -/
def State.ldgAddr (s : State) (n k p f : Nat) : Nat :=
  let b := ldgB (s.rd LDG_CFG_layout 0 n)
  let nn := s.rd LDG_PCOUNT_param_count 0 n
  let blk := p / 1024
  s.ldgBank n k + blk * 1024 * b + f * (if blk < nn / 1024 then 4096 else 4 * (nn % 1024)) + 4 * (p % 1024)

/-- The layout has a field (R243, R246). -/
def ldgHas (layout f : Nat) : Bool := f < ldgB layout / 4

/-- Blocks of a ledger (R259). -/
def State.ldgBlocks (s : State) (n : Nat) : Nat := (s.rd LDG_PCOUNT_param_count 0 n + 1023) / 1024

/-- The active bank of a ledger. -/
def State.ldgActive (s : State) (n : Nat) : Nat := s.rd LDG_STATE_active 0 n

/-- The step of a ledger. -/
def State.ldgStep (s : State) (n : Nat) : Nat := s.rd LDG_STATE_step 0 n

/-- Base of a ledger's coverage bitmap and log in the reserved partition (R259). -/
def State.ldgRsv (s : State) (n : Nat) : Nat := s.rd LDG_RSV_BASE_base * 2 ^ 24 + n * 2 ^ 24

/-- The covered blocks of a ledger. -/
def State.covered (s : State) (n : Nat) : List Nat := s.ser.cover.getD [] n

/-- Give a ledger its covered blocks, counted in LDG_COVER. -/
def State.setCovered (s : State) (n : Nat) (l : List Nat) : State :=
  ({ s with ser := { s.ser with cover := s.ser.cover.set [] n l } }).wr LDG_COVER_covered l.length 0 n

/-- Mark a block covered, and its bit in the bitmap (R259). -/
def State.coverBlock (s : State) (n b : Nat) : State :=
  if (s.covered n).contains b then s else
  let l := insNat b (s.covered n)
  let w := ofBits ((l.filter fun x => x / 32 = b / 32).map (· % 32))
  (s.setCovered n l).writeRes (s.ldgRsv n + 4 * (b / 32)) [(w, false)]

/-- Clear a ledger's coverage, and its bitmap where that lies in the reserved partition. -/
def State.clearCover (s : State) (n : Nat) : State :=
  let a := s.ldgRsv n
  let len := 4 * ((s.ldgBlocks n + 31) / 32)
  let s := s.setCovered n []
  if !s.inReserved a len || s.inSref then s else
  ((s.mem.data.filterMap fun c => if a ≤ c.1 ∧ c.1 < a + len then some (c.1 / 4) else none).eraseDups).foldl (fun s w => s.writeWord w 0) s

/-- The blocks a chunk's parameters lie in (R245, R259). -/
def State.chunkBlocks (s : State) (k : Chunk) : List Nat :=
  let p0 := k.chunk * k.elems
  (List.range (k.elems / 1024)).filterMap fun i => if (p0 / 1024 + i) < s.ldgBlocks k.ledger then some (p0 / 1024 + i) else none

/-! Physical and logical cores. -/

/-- A physical core outside its registers. -/
def State.core (s : State) (p : Nat) : SCore := s.ser.cores.getD {} p

/-- Something is in a core's queues, or an invocation runs (R474). -/
def SCore.busy (x : SCore) : Bool := x.inv.isSome || !x.aq.isEmpty || !x.lines.isEmpty || !x.reqs.isEmpty || !x.sq.isEmpty || !x.eq.isEmpty

/-- Give a physical core its state; the last cycle with something in its queues is kept for R474, the cycle at which a full EQ has an entry free for R221. -/
def State.setCore (s : State) (p : Nat) (x : SCore) : State :=
  let was := (s.core p).busy
  let x := if 32 ≤ (s.core p).eq.length ∧ x.eq.length < 32 then { x with eqFree := s.cyc } else x
  let s : State := { s with ser := { s.ser with cores := s.ser.cores.set {} p x } }
  if was || x.busy then { s with pwr := { s.pwr with busyAt := s.pwr.busyAt.put p s.cyc } } else s

/-- The physical core that holds a logical core (R209). -/
def State.physOf (s : State) (l : Nat) : Option Nat := if s.flag SRG_REMAP_valid 0 l then some (s.rd SRG_REMAP_phys 0 l) else none

/-- The chunk context of a key, if a record exists. -/
def State.chunk? (s : State) (c chunk : Nat) : Option Chunk := s.ser.chunks.find? fun k => k.ctx = c && k.chunk = chunk

/-- Replace a chunk context's record in place. -/
def State.setChunk (s : State) (k : Chunk) : State :=
  { s with ser := { s.ser with chunks := s.ser.chunks.map fun x => if x.ctx = k.ctx ∧ x.chunk = k.chunk then k else x } }

/-- States of R185: OPEN to EMITTING. -/
def Chunk.live (k : Chunk) : Bool := 1 ≤ k.state && k.state ≤ 5

/-- Done (R168): RETAINED, RELEASED or ABORTED. -/
def Chunk.done (k : Chunk) : Bool := 6 ≤ k.state

/-- The chunk context an entry of a queue is for, if its generation still matches (R212). -/
def State.liveChunk (s : State) (c chunk gen : Nat) : Option Chunk :=
  match s.chunk? c chunk with
  | some k => if k.live && k.gen = gen then some k else none
  | none => none

end Sys2Proof.Machine
end

