-- ==== Sys2Proof/Machine/Ser.lean ====
section
/-! DEFINITION. Chunk contexts: what they claim and free, aborts, step faults and norm faults, the end of a chunk and of a convoy, retention, sending of results (R141, R143, R164 to R183, R212 to R216, R255, R259, R263, R275 to R280). -/

namespace Sys2Proof.Machine

/-! POOL_STAGE and POOL_RETAIN. -/

/-- A staging buffer for a chunk: 0 speculative, 1 emit, 2 a copy of a contribution (R140, R143, R390): the chunk with it, or none where the request fails. -/
def State.takeStage (s : State) (k : Chunk) (use : Nat) : Option Chunk × State :=
  let r := s.overCap k.slice 2 1
  let s := r.2
  let keep := s.rd BPM_STAGE_QUOTA_emit_min - s.rd BPM_STAGE_USE_emit
  let bad := r.1 || (use = 0 && s.rd BPM_STAGE_QUOTA_spec_max ≤ s.rd BPM_STAGE_USE_spec) || (use ≠ 1 && s.rd BPM_POOL_free 0 1 ≤ keep)
  match (if bad then none else s.alloc false 4096 1) with
  | none => (none, s.allocFail false 4096)
  | some (b, s) =>
    match use with
    | 0 => (some { k with spec := k.spec ++ b }, s.wr BPM_STAGE_USE_spec (s.rd BPM_STAGE_USE_spec + 1))
    | 1 => (some { k with emit := k.emit ++ b }, s.wr BPM_STAGE_USE_emit (s.rd BPM_STAGE_USE_emit + 1))
    | _ => (some { k with other := k.other ++ b }, s.wr BPM_STAGE_USE_other (s.rd BPM_STAGE_USE_other + 1))

/-- A staging request for a chunk the module holds: whether it is met. -/
def State.claimStage (s : State) (k : Chunk) (use : Nat) : Bool × State :=
  let r := s.takeStage k use
  match r.1 with
  | some k => (true, r.2.setChunk k)
  | none => (false, r.2)

/-- Return staging buffers by use. -/
def State.freeStage (s : State) (spec emit other : List Nat) : State :=
  let s := s.freeBufs 1 (spec ++ emit ++ other)
  ((s.wr BPM_STAGE_USE_spec (s.rd BPM_STAGE_USE_spec - spec.length)).wr BPM_STAGE_USE_emit (s.rd BPM_STAGE_USE_emit - emit.length)).wr
    BPM_STAGE_USE_other (s.rd BPM_STAGE_USE_other - other.length)

/-- Take a buffer of POOL_RETAIN (R140). -/
def State.takeRetain (s : State) : Option (Nat × State) := (s.alloc true 1048576 1).map fun r => (r.1.headD 0, r.2)

/-- Return a buffer of POOL_RETAIN. -/
def State.giveRetain (s : State) (i : Nat) : State := s.freeBuf 3 i

/-- Write bytes anywhere in the data space; words touched in part are merged (R412). -/
def State.writeBytes (s : State) (a : Nat) (bs : List Byte) (cls : Nat) : State :=
  if bs.isEmpty then s
  else if s.inSref then s.srefAccess
  else
    let n := bs.length
    (List.range ((a + n - 1) / 4 - a / 4 + 1)).foldl (fun s i =>
      let w := a / 4 + i
      let ix := (List.range 4).filter fun j => a ≤ 4 * w + j && 4 * w + j < a + n
      s.writePart w (ofBits ix) (leNat ((List.range 4).map fun j => if ix.contains j then bs.getD (4 * w + j - a) 0 else 0)))
      (s.memEvent a n cls)

/-- Read bytes anywhere in the data space, and whether any word met was poisoned. -/
def State.readBytes (s : State) (a n cls : Nat) : (List Byte × Bool) × State :=
  if n = 0 then (([], false), s) else
  let r := s.readWords (a / 4) ((a + n - 1) / 4 - a / 4 + 1) cls
  ((((bytesOf r.1).drop (a % 4)).take n, r.1.any (·.2)), r.2)

/-! Generations and queues (R212, R215). -/

/-- A slot's generation; slots are numbered logical core × 128 + slot. -/
def State.gen8 (s : State) (l slot : Nat) : Nat := s.ser.gens.getD 0 (l * 128 + slot)

/-- A chunk's slot takes its next generation. -/
def State.bumpGen (s : State) (k : Chunk) : State :=
  match k.slot with
  | some i => { s with ser := { s.ser with gens := s.ser.gens.set 0 (k.lcore * 128 + i) (s.gen8 k.lcore i + 1) } }
  | none => s

/-- The queue entries of a core whose generation no longer matches are discarded and counted, their cells and the running invocation with them (R215). -/
def State.sweepCore (s : State) (p : Nat) : State :=
  let x := s.core p
  let ok := fun c chunk gen => (s.liveChunk c chunk gen).isSome
  let aq := x.aq.filter fun e => ok e.ctx e.chunk e.gen
  let sq := x.sq.filter fun e => ok e.ctx e.chunk e.gen
  let eq := x.eq.filter fun e => ok e.ctx e.chunk e.gen
  let lines := x.lines.filter fun e => ok e.ctx e.chunk e.gen
  let reqs := x.reqs.filter fun e => ok e.ctx e.chunk e.gen
  let inv := x.inv.filter fun i => ok i.ctx i.chunk i.gen
  let gone := (x.aq.filter fun e => !ok e.ctx e.chunk e.gen).filterMap (·.flight)
  let n := (x.aq.length - aq.length) + (x.sq.length - sq.length) + (x.eq.length - eq.length)
  let s := s.setCore p { x with aq := aq, sq := sq, eq := eq, lines := lines, reqs := reqs, inv := inv }
  let s := gone.foldl (fun s i => match s.flight i with | some f => s.dropFlight f | none => s) s
  let s := if n = 0 then s else s.cnt SRI_DISCARD_count p 0 0 n
  if lines.length = x.lines.length then s else s.cnt SRI_PREFETCH_DROP_count p 0 0 (x.lines.length - lines.length)

/-- Sweep the queues of the core that holds a logical core. -/
def State.sweepQ (s : State) (l : Nat) : State :=
  match s.physOf l with
  | some p => s.sweepCore p
  | none => s

/-- An invocation that ends with its chunk keeps its piece's cells until then (R213). -/
def State.endInv (s : State) (l : Nat) (k : Chunk) : State :=
  match s.physOf l with
  | none => s
  | some p =>
    match (s.core p).inv with
    | none => s
    | some i =>
      if i.ctx = k.ctx ∧ i.chunk = k.chunk then
        let s := s.setCore p { s.core p with inv := none }
        match i.arrive.bind (·.flight) with
        | some f => match s.flight f with | some x => s.dropFlight x | none => s
        | none => s
      else s

/-- A chunk's poison flag sets: its prefetched lines are dropped, and nothing more is prefetched for it (R173, R215). -/
def State.poisonChunk (s : State) (k : Chunk) : State :=
  let s := s.setChunk { k with poison := true }
  match s.physOf k.lcore with
  | none => s
  | some p =>
    let x := s.core p
    let mine := fun (e : LdgLine) => e.ctx = k.ctx && e.chunk = k.chunk && !e.want
    let n := (x.lines.filter mine).length
    let s := s.setCore p { x with lines := x.lines.filter fun e => !mine e, reqs := x.reqs.filter fun e => !mine e }
    if n = 0 then s else s.cnt SRI_PREFETCH_DROP_count p 0 0 n

/-! Step faults (R177, R263). -/

/-- The ledger fault of a step fault (R263). -/
def State.ledgerFault (s : State) (n : Nat) : State := (s.wr LDG_STATE_fault 1 0 n).irq 14 3

/-- A context's work touches its ledger: REDUCE_UPDATE or STEP retention (R263). -/
def State.ctxLdg (s : State) (c : Nat) : Bool := s.ctxOper c = 5 || s.ctxRet c = 2

/-- A step fault for a chunk (R177, R263): located, raised, and set on the ledger when the chunk belongs to its current step: it opened in it, or, without a context of its own, lies in the running convoy (DEDUCED, log entry 91). One that an accepted flip released is past its step: its RETENTION fault only counts. -/
def State.stepFault (s : State) (c chunk reason : Nat) : State :=
  let s := ((((s.wr SRG_FAULT_LOC_ctx c).wr SRG_FAULT_LOC_chunk chunk).wr SRG_FAULT_LOC_reason reason).wr SRG_FAULT_LOC_valid 1).irq 12 3
  match s.chunk? c chunk with
  | none =>
    if s.ctxLdg c && s.ctxActive c && decide (s.ctxBase c ≤ chunk) && decide (chunk < s.ctxBase c + s.ctxLen c) then s.ledgerFault (s.ctxLedger c) else s
  | some k =>
    if !(k.operation = 5 || k.retention = 2) then s
    else if k.flipped then (if reason = 5 then s.cnt LDG_POST_COMMIT_FAULT_count else s)
    else if k.step = s.ldgStep k.ledger then s.ledgerFault k.ledger
    else s

/-! Retained copies (R180, R181, R275). -/

/-- Result pieces of a chunk. -/
def Chunk.pieces (k : Chunk) : Nat := opPieces k.operation k.fmt k.elems

/-- Payload bytes of result piece `p`. -/
def Chunk.pieceLen (k : Chunk) (p : Nat) : Nat := opLength k.operation k.fmt k.elems p

/-- Payload bytes of all result pieces. -/
def Chunk.total (k : Chunk) : Nat := ((List.range k.pieces).map k.pieceLen).sum

/-- Bytes of a retained chunk: record and result, rounded up to 64 (R180). -/
def Chunk.retBytes (k : Chunk) : Nat := 320 + (k.total + 63) / 64 * 64

/-- Address of a chunk's record. -/
def State.retAddr (s : State) (r : Nat × Nat) : Nat := s.bufAddr 1 r.1 + r.2

/-- A retained chunk leaves its buffer; buffers with no chunk left return, and the directory with the last (R180). -/
def State.freeRetained (s : State) (k : Chunk) : State :=
  match k.ret with
  | none => s
  | some (b, _) =>
    let bs := s.ser.rbufs.map fun x => if x.buf = b then { x with chunks := x.chunks.filter (· ≠ k.chunk) } else x
    let empty := bs.filter fun x => !x.dir && x.chunks.isEmpty
    let bs := bs.filter fun x => x.dir || !x.chunks.isEmpty
    let last := !bs.any fun x => x.ctx = k.ctx && !x.dir
    let dirs := if last then bs.filter fun x => x.ctx = k.ctx && x.dir else []
    let bs := if last then bs.filter fun x => x.ctx ≠ k.ctx else bs
    let s := { s with ser := { s.ser with rbufs := bs } }
    let s := (empty ++ dirs).foldl (fun s x => s.giveRetain x.buf) s
    s.setChunk { k with ret := none, pend := [] }

/-- Chunks retained for a context. -/
def State.retCount (s : State) (c : Nat) : Nat := ((s.ser.rbufs.filter fun x => x.ctx = c && !x.dir).map (·.chunks.length)).sum

/-- Room for a chunk's record: the context's directory grown where needed, and the buffer it fits in or a new one (R180). -/
def State.retainRoom (s : State) (k : Chunk) : Option ((Nat × Nat) × State) :=
  let dirs := (s.ser.rbufs.filter fun x => x.ctx = k.ctx && x.dir).length
  let s? := if dirs * 131072 ≤ s.retCount k.ctx then
      s.takeRetain.map fun (i, s) => { s with ser := { s.ser with rbufs := s.ser.rbufs ++ [{ buf := i, ctx := k.ctx, dir := true }] } }
    else some s
  s?.bind fun s =>
    let add := fun (s : State) (x : RetBuf) =>
      ((x.buf, x.used), { s with ser := { s.ser with rbufs := s.ser.rbufs.map fun y =>
        if y.buf = x.buf then { y with used := y.used + k.retBytes, chunks := y.chunks ++ [k.chunk] } else y } })
    match s.ser.rbufs.reverse.find? (fun x => x.ctx = k.ctx && !x.dir) with
    | some x => if x.used + k.retBytes ≤ 1048576 then some (add s x) else
        s.takeRetain.map fun (i, s) =>
          let x : RetBuf := { buf := i, ctx := k.ctx }
          add { s with ser := { s.ser with rbufs := s.ser.rbufs ++ [x] } } x
    | none => s.takeRetain.map fun (i, s) =>
        let x : RetBuf := { buf := i, ctx := k.ctx }
        add { s with ser := { s.ser with rbufs := s.ser.rbufs ++ [x] } } x

/-- Directory buffers taken for nothing are returned. -/
def State.tidyDirs (s : State) (c : Nat) : State :=
  if s.retCount c ≠ 0 then s else
  let d := s.ser.rbufs.filter fun x => x.ctx = c
  d.foldl (fun s x => s.giveRetain x.buf) { s with ser := { s.ser with rbufs := s.ser.rbufs.filter fun x => x.ctx ≠ c } }

/-- The pend entries of a record as words (R275). -/
def pendWords (l : List (Option Nat)) : List Byte := (List.range 24).flatMap fun j => leBytes 2 (match l.getD j none with | some m => m ||| 0x8000 | none => 0)

/-- A free pend entry of the 24 takes a member (R276); none where all are valid. -/
def pendAdd (l : List (Option Nat)) (m : Nat) : Option (List (Option Nat)) :=
  match l.findIdx? (· = none) with
  | some j => some (l.set j (some m))
  | none => if l.length < 24 then some (l ++ [some m]) else none

/-- The entry that names a member clears; the others keep their places. -/
def pendDel (l : List (Option Nat)) (m : Nat) : List (Option Nat) := l.map fun x => if x = some m then none else x

/-- Open the retained copy of a chunk with its first piece (R180, R275), or go on without it (R181). -/
def State.retainOpen (s : State) (k : Chunk) : State :=
  if k.retention = 0 then s else
  match s.retainRoom k with
  | none => (((s.allocFail true 1048576).tidyDirs k.ctx).cnt SRG_RETAIN_FAIL_count).irq 12 6
  | some (r, s) =>
    let s := s.setChunk { k with ret := some r }
    let hdr := leBytes 4 (k.ctx ||| k.fmt <<< 16 ||| k.pieces <<< 20) ++ leBytes 4 k.chunk ++ leBytes 4 k.total ++ leBytes 4 0
    s.writeBytes (s.retAddr r) (hdr ++ List.replicate 304 0) 1

/-- Offset of a piece's bytes from its record. -/
def Chunk.pieceOff (k : Chunk) (p : Nat) : Nat := 320 + ((List.range p).map k.pieceLen).sum

/-- The words inside `n` bytes at `a` that meet a segment marked in `pm` (R77, R410). -/
def markedWords (a n pm : Nat) : List Nat :=
  ((List.range (n / 4 + 1)).map fun i => (a + 3) / 4 + i).filter fun w =>
    4 * w + 4 ≤ a + n && (bit pm ((4 * w - a) / 256) || bit pm ((4 * w + 3 - a) / 256))

/-- Write a piece and its check into the retained copy (R180). The words of marked segments are written as poison markers (R407), so that the copy holds the marks (R280); the marked piece's bits as sent are kept beside it (DESIGN CHOICE, log entry 92). -/
def State.retainPiece (s : State) (k : Chunk) (p : Nat) (b : List Byte) (pm : Nat) : State :=
  match k.ret with
  | none => s
  | some r =>
    let a := s.retAddr r + k.pieceOff p
    let s := (s.writeBytes (s.retAddr r + 16 + 4 * p) (leBytes 4 (e2eOf b)) 1).writeBytes a b 1
    if pm = 0 || s.inSref then s else
    let s := (markedWords a b.length pm).foldl (fun s w => s.writeMarker w) s
    s.setChunk { (s.chunk? k.ctx k.chunk).getD k with kept := k.kept.put p b }

/-- Give a chunk its delivery record entries, in its record too (R276). -/
def State.setPend (s : State) (k : Chunk) (l : List (Option Nat)) : State :=
  let s := s.setChunk { k with pend := l }
  match k.ret with
  | none => s
  | some r => s.writeBytes (s.retAddr r + 0x110) (pendWords l) 1

/-! Notices to members. -/

/-- Send a kind 3 notice to member `m` of a context: the fields of an answer that nothing was received for are not stated (log entry 1); it is lost when no cell is free (R141). A NAK never goes to the module's own endpoint ID (R92). -/
def State.notify (s : State) (c chunk m code reason : Nat) (l : Nat) (refs : Option (Nat × Nat × Nat × Nat) := none) (bitmap : List Byte := []) : State :=
  match s.route c m with
  | none => s
  | some (ep, wb, hc) =>
    if code = 1 ∧ ep = s.self then s else
    let f := s.takeFree 4
    let g := f.2.takeFree 5
    let rf := refs.getD (g.1 % 2 ^ 32, g.1 / 2 ^ 32 % 2 ^ 24, g.1 / 2 ^ 56 % 16, g.1 / 2 ^ 60 % 8)
    let p : Pkt := { kind := 3, tc := 1, slice := s.ctxSlice c, dst := ep, waybill := wb, hopCount := hc, seq := f.1 % 2 ^ 32,
                     ctx := c, member := m, chunk := chunk, payload := ackPayload code reason bitmap rf.1 rf.2.1 rf.2.2.1 rf.2.2.2 }
    (g.2.originate p (l / 4) (128 + l) .lost).2

/-- NAK ABORTED to every member of the group (R177). -/
def State.nakAll (s : State) (c chunk l : Nat) : State := (List.range (s.ctxN c)).foldl (fun s m => s.notify c chunk m 1 10 l) s

/-- A kind 3 NAK about a norm partial to a peer of a ledger's norm group (R254, R255), never to the module's own endpoint ID (R92). -/
def State.normNak (s : State) (n ctx key m reason : Nat) : State :=
  match s.memberRoute (s.rd LDG_NORM_GRP_member_base 0 n + m) with
  | none => s
  | some (ep, wb, hc) =>
    if ep = s.self then s else
    let l := s.owner ctx key
    let f := s.takeFree 4
    let g := f.2.takeFree 5
    let p : Pkt := { kind := 3, tc := 1, slice := s.ctxSlice ctx, dst := ep, waybill := wb, hopCount := hc, seq := f.1 % 2 ^ 32, ctx := ctx, member := m,
                     chunk := key, payload := ackPayload 1 reason [] (g.1 % 2 ^ 32) (g.1 / 2 ^ 32 % 2 ^ 24) 6 1 }
    (g.2.originate p (l / 4) (128 + l) .lost).2

/-! The end of chunks. -/

/-- Records of a context whose chunk is below floor, or whose convoy has ended, return to IDLE and give up their slots (R169). -/
def State.sweepRecords (s : State) (c : Nat) : State :=
  { s with ser := { s.ser with chunks := s.ser.chunks.map fun k =>
      if k.ctx = c && (k.state = 7 || k.state = 8) && (decide (k.chunk < s.ctxFloor c) || !s.ctxActive c) then { k with state := 0, slot := none } else k } }

/-- Floor moves past chunks that are done, and a convoy whose floor reaches its end ends (R164, R168). -/
def State.advance (s : State) (c : Nat) : Nat → State
  | 0 => s.sweepRecords c
  | f + 1 =>
    if !s.ctxActive c then s.sweepRecords c
    else if s.ctxBase c + s.ctxLen c ≤ s.ctxFloor c then
      let s := s.ctxPut c 1 (setFld (s.tget TB_CTX 0 c 1) 7 1 0)
      let s := s.ctxPut c 4 (setFld (s.tget TB_CTX 0 c 4) 0 32 (s.ctxBase c + s.ctxLen c))
      (s.sweepRecords c).irq 12 1
    else match s.chunk? c (s.ctxFloor c) with
      | some k => if k.done then (s.ctxPut c 5 (setFld (s.tget TB_CTX 0 c 5) 32 32 (s.ctxFloor c + 1))).advance c f else s.sweepRecords c
      | none => s.sweepRecords c

/-- After chunks of a context have ended. -/
def State.finish (s : State) (c : Nat) : State := s.advance c (s.ser.chunks.length + 2)

/-- A NAK for a chunk with no retained copy: answered ABORTED and counted; with STEP retention a step fault (R183), left out where a fence, a purge or an ABANDON took the copy away (`quiet`: R264, R282, R290). -/
def State.reserveMiss (s : State) (p : Pkt) (pipe : Nat) (quiet : Bool := false) : State :=
  let s := (s.cnt SRG_RESERVE_MISS_count).answer p pipe 1 10
  if s.ctxRet p.ctx = 2 && !quiet then s.stepFault p.ctx p.chunk 5 else s

/-- Take the NAKs that wait for a chunk: those held while it was live or for a cell, and those that wait for a pend entry. -/
def State.takeHeld (s : State) (k : Chunk) : List Flight × State :=
  let mine := fun (x : Flight) => x.pkt.ctx = k.ctx && x.pkt.chunk = k.chunk
  (k.naks ++ s.ser.waiting.filter mine,
   ({ s with ser := { s.ser with waiting := s.ser.waiting.filter fun x => !mine x } }).setChunk { k with naks := [] })

/-- NAKs that wait for a chunk find no copy any more. -/
def State.missHeld (s : State) (k : Chunk) (quiet : Bool := false) : State :=
  let r := s.takeHeld k
  r.1.foldl (fun s x => s.reserveMiss x.pkt x.pipe quiet) r.2

/-- Step 1 of R177: everything a chunk holds is freed; its running invocation ends. -/
def State.freeChunk (s : State) (k : Chunk) : State :=
  let s := s.endInv k.lcore k
  let s := s.freeStage k.spec k.emit k.other
  let s := s.freeRetained k
  s.setChunk { (s.chunk? k.ctx k.chunk).getD k with
    granules := 0, entries := 0, spec := [], emit := [], other := [], copies := [], specP := [], relP := [], acc := [], kept := [], arriving := 0 }

/-- Abort one chunk (R177), without the norm fault that may follow and without moving floor. `quiet` leaves out the step fault of step 4; `mute` the NAKs of step 2 (R277). -/
def State.abortOne (s : State) (k : Chunk) (reason : Nat) (quiet mute : Bool := false) : State :=
  if k.state = 0 || k.state = 7 || k.state = 8 then s else
  let s := s.freeChunk k
  let k' := (s.chunk? k.ctx k.chunk).getD k
  let s := s.bumpGen k'
  let s := s.setChunk { k' with state := 8, reason := reason }
  let s := s.sweepQ k.lcore
  let s := if mute then s else s.nakAll k.ctx k.chunk k.lcore
  let s := s.cnt SRG_ABORT_count
  let s := if (reason = 1 || reason = 2) && !quiet then s.stepFault k.ctx k.chunk reason else s
  s.missHeld ((s.chunk? k.ctx k.chunk).getD k') (quiet || reason = 3 || reason = 4)

/-- A norm slot's key as a packet carries it: step[15:0] above the round (R251). -/
def NormSlot.key (x : NormSlot) : Nat := x.step <<< 16 ||| x.round

/-- The same slot of the 64 (R250). -/
def NormSlot.same (x y : NormSlot) : Bool := x.slot = y.slot

/-- Replace a norm slot. -/
def State.setNorm (s : State) (x : NormSlot) : State :=
  { s with ser := { s.ser with norms := s.ser.norms.map fun y => if y.same x then x else y } }

/-- Show the slots in use. -/
def State.setNorms (s : State) (l : List NormSlot) : State := ({ s with ser := { s.ser with norms := l } }).wr LDG_NORM_USE_slots l.length

/-- Claim a norm slot, the lowest-numbered that is free (R250). -/
def State.claimNorm (s : State) (x : NormSlot) : State :=
  s.setNorms (s.ser.norms ++ [{ x with slot := lowestFree (s.ser.norms.map (·.slot)) 64 0 }])

/-- The newest norm slot of a context and key that satisfies `ok`. -/
def State.normOf (s : State) (n ctx key : Nat) (ok : NormSlot → Bool) : Option NormSlot :=
  s.ser.norms.reverse.find? fun x => x.ledger = n && x.ctx = ctx && x.key = key && ok x

/-- A NORM fault aborts chunk `j` of its convoy, if it is not done (R255): its context, or, where it has none (never opened, or lost to a fence), the chunk itself, which then cannot open any more. -/
def State.normAbortChunk (s : State) (x : NormSlot) (j : Nat) : State :=
  if j < s.ctxFloor x.ctx then s else
  match s.chunk? x.ctx j with
  | some k => if k.live then s.abortOne k 6 else s
  | none =>
    let l := s.owner x.ctx j
    let k : Chunk := { ctx := x.ctx, chunk := j, lcore := l, state := 8, reason := 6, slice := x.slice, operation := 5, op := s.ctxOp x.ctx, fmt := s.ctxFmt x.ctx,
                       retention := s.ctxRet x.ctx, ledger := x.ledger, elems := s.ctxElems x.ctx, step := s.ldgStep x.ledger, group := s.ctxN x.ctx,
                       openAt := s.fclk, openCyc := s.cyc }
    (({ s with ser := { s.ser with chunks := s.ser.chunks ++ [k] } }).nakAll x.ctx j l).cnt SRG_ABORT_count

/-- A NORM fault (R255): the slot fails, the convoy's undone chunks abort, every peer is told, and the ledger's step faults. -/
def State.normFault (s : State) (x : NormSlot) : State :=
  if x.state = 4 then s else
  let s := s.setNorm { x with state := 4 }
  let s := if s.ctxActive x.ctx && s.ctxBase x.ctx = x.base then (List.range x.len).foldl (fun s i => s.normAbortChunk x (x.base + i)) s else s
  let me := s.rd LDG_NORM_GRP_self_index 0 x.ledger
  let s := ((List.range (s.rd LDG_NORM_GRP_norm_count 0 x.ledger)).filter (· ≠ me)).foldl (fun s m => s.normNak x.ledger x.ctx x.key m 10) s
  let f := s.takeFree 6
  let s := ((((f.2.wr SRG_FAULT_LOC_ctx x.ctx).wr SRG_FAULT_LOC_chunk (f.1 % 2 ^ 32)).wr SRG_FAULT_LOC_reason 6).wr SRG_FAULT_LOC_valid 1).irq 12 3
  if x.step = s.ldgStep x.ledger % 65536 then s.ledgerFault x.ledger else s

/-- The norm slot of the convoy a chunk belongs to. -/
def State.chunkNorm (s : State) (k : Chunk) : Option NormSlot :=
  s.ser.norms.reverse.find? fun x => x.ctx = k.ctx && x.ledger = k.ledger && x.state ≠ 0 && x.step = k.step % 65536 && decide (x.base ≤ k.chunk) && decide (k.chunk < x.base + x.len)

/-- Abort a chunk with what follows from it: the convoy's NORM fault for any reason but CORE_FENCE (R255), and floor (R168). -/
def State.abort (s : State) (k : Chunk) (reason : Nat) (quiet mute : Bool := false) : State :=
  let nf := if k.operation = 5 && reason ≠ 4 && (k.live || k.state = 6) then s.chunkNorm k else none
  let s := s.abortOne k reason quiet mute
  let s := match nf with | some x => s.normFault x | none => s
  s.finish k.ctx

/-! Sending results (R179, R216, R280). -/

/-- A result piece's payload bytes: elements and scales as written, zero elsewhere (R187, R188, R230). -/
def Piece.bytes (q : Piece) (f n : Nat) : List Byte :=
  if isMx f then
    (List.range ((n + 31) / 32)).flatMap fun b =>
      leBytes 1 (q.sc.getD 0 b) ++
      leBytes (4 * fmtBits f) ((List.range 32).foldl (fun v i => v ||| q.el.getD 0 (32 * b + i) <<< (fmtBits f * i)) 0)
  else (List.range n).flatMap fun i => leBytes (fmtBits f / 8) (q.el.getD 0 i)

/-- Send a result piece to member `m` (R179): answers what became of it. One handed to the crossbar enters the chunk's record of attempts and of delivery (R182, R275). `ans` marks a re-serve, which answers a NAK (R114). -/
def State.sendResult (s : State) (k : Chunk) (p m attempt : Nat) (b : List Byte) (pm : Nat) (rt : Route) (pipe : Nat) (ans : Bool := false) : Sent × State :=
  let q : Pkt := { kind := 2, tc := 3, slice := k.slice, dst := rt.1, waybill := rt.2.1, hopCount := rt.2.2, seq := p, ctx := k.ctx, chunk := k.chunk,
                   attempt := attempt, fmt := k.fmt, op := k.op, poisonMap := pm % 2 ^ segCount b.length, payload := b }
  let r := s.originate q pipe (128 + k.lcore) .stall ans
  if r.1 ≠ .handed then r else
  let k := (r.2.chunk? k.ctx k.chunk).getD k
  let s := r.2.setChunk { k with att := k.att.put (m * 64 + p) attempt, got := k.got.put m (k.got.getD 0 m ||| 1 <<< p) }
  (.handed, if q.poisonMap = 0 then s else s.cnt SRG_POISON_OUT_count)

/-- Every STL of a chunk has been accepted. -/
def State.stlDone (s : State) (k : Chunk) : Bool :=
  match s.physOf k.lcore with
  | none => true
  | some p => !(s.core p).sq.any fun e => e.ctx = k.ctx && e.chunk = k.chunk && e.gen = k.gen

/-- A STEP-retained or WINDOW-retained chunk is released (R169); `flip`: by an accepted flip (R263). -/
def State.release (s : State) (k : Chunk) (flip quiet : Bool := false) : State :=
  if k.state ≠ 6 then s else
  let s := s.freeRetained k
  let s := s.setChunk { (s.chunk? k.ctx k.chunk).getD k with state := 7, flipped := flip, kept := [] }
  s.missHeld ((s.chunk? k.ctx k.chunk).getD k) quiet

/-- The NAKs of R182 are answered by the commands of SerCmd.lean; this is the record a re-serve reads: unreadable or the piece (R277). Words of marked segments that read as the markers R407 put there stand for the bits kept beside them (DESIGN CHOICE, log entry 92). -/
def State.readRetained (s : State) (k : Chunk) (p : Nat) : Option (List Byte) × State :=
  match k.ret with
  | none => (none, s)
  | some r =>
    let h := s.readBytes (s.retAddr r) 320 1
    let a := s.retAddr r + k.pieceOff p
    let n := k.pieceLen p
    let b := k.kept.getD [] p
    let w := a / 4
    let marks := (markedWords a n (if b.isEmpty then 0 else k.pm.getD p 0)).filter fun w => h.2.isMarker w
    let d := h.2.readWords w (if n = 0 then 0 else (a + n - 1) / 4 - w + 1) 1
    let bad := h.1.2 || d.1.zipIdx.any fun (x, i) => x.2 && !marks.contains (w + i)
    let bs := (List.range n).map fun i => if marks.contains ((a + i) / 4) then b.getD i 0 else (leBytes 4 (d.1.getD ((a + i) / 4 - w) (0, false)).1).getD ((a + i) % 4) 0
    if bad || e2eOf bs ≠ leNat ((h.1.1.drop (16 + 4 * p)).take 4) then (none, d.2) else (some bs, d.2)

/-- A kind 3 payload as the module reads it (R81): code, reason, ref_kind, or none where it is malformed. -/
def ackRead (p : Pkt) : Option (Nat × Nat × Nat) :=
  let w := leNat (p.payload.take 16)
  let code := fld w 0 8
  let len := fld w 16 16
  let want := match code with | 2 => 8 | 3 => 128 | _ => 0
  if p.length < 16 ∨ 3 < code ∨ len ≠ want ∨ p.length < 16 + len then none else some (code, fld w 8 8, fld w 88 4)

/-- A packet at the port is a NAK for a result of chunk `k`. -/
def Chunk.nakAtPort (k : Chunk) (x : Flight) : Bool :=
  x.loc = .local && x.dest = .serai k.lcore && !x.admitted && x.pkt.kind = 3 && x.pkt.ctx = k.ctx && x.pkt.chunk = k.chunk
    && (match ackRead x.pkt with | some (c, _, rk) => c = 1 && rk ≠ 6 | none => false)

/-- Recipient `m` counts as delivered (R275): every result piece has been handed to the crossbar for it and no pend entry names it. -/
def Chunk.delivered (k : Chunk) (m : Nat) : Bool := k.got.getD 0 m = 2 ^ k.pieces - 1 && !k.pend.contains (some m)

/-- An unreadable copy (R277): the chunk is aborted with RETENTION, every member receives WITHDRAW with the delivery record, a step fault is raised; a norm convoy fails with it (R255). A member whose NAK caused the read, or stands at the port by then, counts as not delivered (R278). -/
def State.withdraw (s : State) (k : Chunk) (p m : Nat) : State :=
  let naks := m :: (s.flights.filter k.nakAtPort).map (·.pkt.member)
  let bm := ofBits (k.recipients.filter fun r => k.delivered r && !naks.contains r)
  let nf := if k.operation = 5 then s.chunkNorm k else none
  let held := s.takeHeld k
  let s := held.2.abortOne { k with naks := [] } 5 false true
  let s := (List.range (s.ctxN k.ctx)).foldl (fun s r => s.notify k.ctx k.chunk r 3 0 k.lcore (some (p, s.self, 2, 3)) (leBytes 128 bm)) s
  let s := s.stepFault k.ctx k.chunk 5
  let s := ((((s.cnt SRG_WITHDRAW_count).wr SRG_WITHDRAW_LOC_ctx k.ctx).wr SRG_WITHDRAW_LOC_chunk k.chunk).wr SRG_WITHDRAW_LOC_valid 1).irq 12 13
  let s := match nf with | some x => s.normFault x | none => s
  (held.1.foldl (fun s x => s.reserveMiss x.pkt x.pipe) s).finish k.ctx

/-- Re-serve a piece to a member (R182, R276, R277); a send that must be tried again holds the NAK, and one dropped in step 9 of R92 leaves the entry, for it was not handed to the crossbar. -/
def State.reserveOne (s : State) (k : Chunk) (x : Flight) : State :=
  let p := leNat ((x.pkt.payload.drop 4).take 2)
  let m := x.pkt.member
  let r := s.readRetained k p
  match r.1 with
  | none => r.2.withdraw k p m
  | some b =>
    let rt := r.2.answerRoute x.pipe x.pkt.src
    let att := match k.att.get? (m * 64 + p) with | some a => (a + 1) % 8 | none => 0
    let t := rt.2.sendResult k p m att b (k.pm.getD p 0) (x.pkt.src, rt.1.1, rt.1.2) x.pipe true
    let k := (t.2.chunk? k.ctx k.chunk).getD k
    match t.1 with
    | .again => t.2.setChunk { k with naks := k.naks ++ [x] }
    | .dropped => t.2
    | .handed => (t.2.setPend k (pendDel k.pend m)).cnt SRG_RESERVE_count

/-- A NAK for a RETAINED chunk takes a pend entry and is re-served, or waits for one (R276). A NAK that names no piece, or from a member owed nothing, is discarded. -/
def State.reserveNak (s : State) (k : Chunk) (x : Flight) : State :=
  let p := leNat ((x.pkt.payload.drop 4).take 2)
  if k.pieces ≤ p || !k.recipients.contains x.pkt.member then s
  else if k.pend.contains (some x.pkt.member) then s.reserveOne k x
  else match pendAdd k.pend x.pkt.member with
  | none =>
    let s := s.cnt SRG_DELIV_WAIT_count
    if 256 ≤ (s.ser.waiting.filter fun y => y.outCore = x.outCore).length then s
    else { s with ser := { s.ser with waiting := s.ser.waiting ++ [x] } }
  | some l =>
    let s := s.setPend k l
    s.reserveOne ((s.chunk? k.ctx k.chunk).getD k) x

/-- The NAKs held for a chunk are acted on (R182). -/
def State.actHeld (s : State) (c chunk : Nat) : State :=
  match s.chunk? c chunk with
  | none => s
  | some k =>
    (k.naks).foldl (fun s x =>
      match s.chunk? c chunk with
      | some k => if k.state = 6 then s.reserveNak k x else s.reserveMiss x.pkt x.pipe
      | none => s.reserveMiss x.pkt x.pipe) (s.setChunk { k with naks := [] })

/-- A chunk whose last result piece has been sent leaves EMITTING once its stores are accepted (R169, R216, R259). -/
def State.tryEnd (s : State) (c chunk : Nat) : State :=
  match s.chunk? c chunk with
  | none => s
  | some k =>
    if k.state ≠ 5 || k.sent ≠ k.pieces || !s.stlDone k then s else
    let s := if k.operation = 5 then (s.chunkBlocks k).foldl (fun s b => s.coverBlock k.ledger b) s else s
    let s := s.freeStage k.spec k.emit k.other
    let s := s.bumpGen k
    let kept := k.ret.isSome
    let k' : Chunk := { k with spec := [], emit := [], other := [], copies := [], entries := 0, granules := 0, acc := [], mem := [], pcs := [],
                               state := if kept then 6 else 7, slot := if kept then none else k.slot, retAt := s.fclk }
    let s := (s.setChunk k').sweepQ k.lcore
    (s.actHeld c chunk).finish c

end Sys2Proof.Machine
end

