-- ==== Sys2Proof/Machine/SerCmd.lean ====
section
/-! DEFINITION. Arrivals, deadlines, results and the SRG table commands (R164, R167 to R185, R216, R249 to R253, R274 to R278, R293). -/

namespace Sys2Proof.Machine

/-- The first packet delivered to a local consumer that it has not taken yet. -/
def State.headLocal (s : State) (d : Dest) : Option Flight :=
  if (match d with | .serai l => s.ser.fencing.contains l | _ => false) then none else
  s.flights.find? fun x => x.loc = .local && !x.admitted && x.dest = d

/-- The action on a packet at a logical core's port; a core asleep wakes for it, and it waits (R474). -/
def State.atPort (s : State) (l : Nat) (f : State → State) : State :=
  match s.headLocal (.serai l), s.physOf l with
  | some _, some p => if s.coreAsleep p then s.wakeCore p true else f s
  | _, _ => f s

/-! Arrival checks (R167). -/

/-- Check 1: the context, its slice, collectives enabled. -/
def State.arriveSlice (s : State) (p : Pkt) : Bool :=
  s.flag SRG_CTRL_coll_en && s.ctxValid p.ctx && s.ctxSlice p.ctx = p.slice && !s.ctxBad p.ctx

/-- The member entry of a chunk: 15 seen, [14:11] format, [10:0] pieces counted (R172). -/
def Chunk.memEnt (k : Chunk) (m : Nat) : Nat := k.mem.getD 0 m

/-- Check 2. -/
def State.arriveForm (s : State) (p : Pkt) : Bool :=
  let c := p.ctx
  let oper := s.ctxOper c
  let n := s.ctxElems c
  let q := p.seq % 65536
  p.op = s.ctxOp c && p.fmt < 10 && s.cx c 0 (32 + p.fmt) 1 = 1 && p.member < s.ctxN c && (s.route c p.member).isSome
    && (s.contributors c p.chunk).contains p.member && q < opPieces oper p.fmt n && p.length = opLength oper p.fmt n q
    && (match s.chunk? c p.chunk with
        | some k => !(k.live && bit (k.memEnt p.member) 15) || fld (k.memEnt p.member) 11 4 = p.fmt
        | none => true)

/-- Check 4: lateness (R168), with the NAK's reason. -/
def State.arriveLate (s : State) (p : Pkt) : Option Nat :=
  let r := s.chunk? p.ctx p.chunk
  let ab : Bool := match r with | some k => decide (k.reason ≠ 0) | none => false
  let st := match r with | some k => k.state | none => 0
  if p.chunk < s.ctxFloor p.ctx ∨ 4 ≤ st then some (if ab then 10 else 6) else none

/-- A refusal of check 5 or 6 is counted, located and raised. -/
def State.noRes (s : State) (p : Pkt) (pipe cause : Nat) : State :=
  let s := ((((s.cnt SRG_NORES_count).wr SRG_NORES_LOC_ctx p.ctx).wr SRG_NORES_LOC_chunk p.chunk).wr SRG_NORES_LOC_cause cause).wr SRG_NORES_LOC_valid 1
  (s.irq 12 7).nak p pipe 9

/-- The lowest free chunk-context slot of a logical core. -/
def State.freeSlot (s : State) (l : Nat) : Option Nat :=
  let used := s.ser.chunks.filterMap fun k => if k.lcore = l then k.slot else none
  let i := lowestFree used used.length 0
  if i < 128 then some i else none

/-- Arrival-store entries of a chunk: C × (1 + P), rounded up to 64 (R171). -/
def State.arrivalNeed (s : State) (c chunk : Nat) : Nat :=
  let p := ((bitsOf 10 (s.cx c 0 32 16)).map fun f => opPieces (s.ctxOper c) f (s.ctxElems c)).foldl max 0
  ((s.contributors c chunk).length * (1 + p) + 63) / 64 * 64

/-- Granules and arrival entries a logical core's chunks hold. -/
def State.coreUse (s : State) (l : Nat) : Nat × Nat :=
  let ks := s.ser.chunks.filter fun k => k.lcore = l
  ((ks.map (·.granules)).sum, (ks.map (·.entries)).sum)

/-- What opening a chunk would claim: the cause of a refusal, or the chunk context (R170, R171). -/
def State.openChunk (s : State) (p : Pkt) (l : Nat) : Except Nat Chunk × State :=
  let c := p.ctx
  let gran := if hasTally (s.ctxOper c) then s.cx c 1 0 7 else 0
  let need := s.arrivalNeed c p.chunk
  let use := s.coreUse l
  let a := s.overCap (s.ctxSlice c) 0 1
  let b := a.2.overCap (s.ctxSlice c) 1 gran
  match (if (s.physOf l).isNone then none else s.freeSlot l) with
  | none => (.error 3, s)
  | some i =>
    if 64 < use.1 + gran then (.error 4, s)
    else if 262144 < use.2 + need then (.error 5, s)
    else if a.1 || (gran ≠ 0 && b.1) then (.error 6, b.2)
    else (.ok { ctx := c, chunk := p.chunk, lcore := l, slot := some i, gen := s.gen8 l i, state := 1, openAt := s.fclk, openCyc := s.cyc,
                group := s.ctxN c, fromOne := s.contributor? c p.chunk, toOne := s.recipient? c p.chunk,
                slice := s.ctxSlice c, operation := s.ctxOper c, op := s.ctxOp c, fmt := s.ctxFmt c, retention := s.ctxRet c,
                ledger := s.ctxLedger c, elems := s.ctxElems c, step := s.ldgStep (s.ctxLedger c), granules := gran,
                owes := (s.contributors c p.chunk).length, entries := need }, b.2)

/-- The ledger lines of a REDUCE_UPDATE chunk, in ascending record order (R214). -/
def State.chunkLines (s : State) (k : Chunk) : List LdgLine :=
  let n := k.ledger
  let nn := s.rd LDG_PCOUNT_param_count 0 n
  let bank := s.ldgActive n
  (s.chunkBlocks k).flatMap fun b => (List.range (ldgB (s.rd LDG_CFG_layout 0 n) / 4)).map fun f =>
    { ctx := k.ctx, chunk := k.chunk, gen := k.gen, ledger := n, bank := bank, addr := s.ldgAddr n bank (b * 1024) f, n := min 1024 (nn - b * 1024) }

/-- Enter a chunk context: a record of an ended convoy with its key is replaced; counted; the first chunk of a step marks its ledger dirty (R261); a REDUCE_UPDATE chunk queues its prefetch (R214). -/
def State.enterChunk (s : State) (k : Chunk) : State :=
  let cs : List Chunk := (s.ser.chunks.filter fun x => !(x.ctx = k.ctx && x.chunk = k.chunk)) ++ [k]
  let s := { s with ser := { s.ser with chunks := cs } }
  let s := s.cnt SRG_OPEN_count
  let s := if s.ctxLdg k.ctx then s.wr LDG_STATE_dirty 1 0 k.ledger else s
  if k.operation ≠ 5 then s else
  match s.physOf k.lcore with
  | none => s
  | some p => s.setCore p { s.core p with reqs := (s.core p).reqs ++ s.chunkLines k }

/-- Statistics record of a member (R175). -/
def State.statsAdd (s : State) (blk m last late lag : Nat) : State :=
  let i := blk * 1024 + m
  let w := s.tget TB_STATS 0 i 0
  s.tset TB_STATS 0 i 0 (min 65535 (fld w 0 16 + last) ||| min 65535 (fld w 16 16 + late) <<< 16 ||| max (fld w 32 32) (min (2 ^ 32 - 1) lag) <<< 32)

/-- A contributor's entry counts every piece of its format (R172). -/
def Chunk.memberDone (k : Chunk) (m : Nat) : Bool :=
  bit (k.memEnt m) 15 && fld (k.memEnt m) 0 11 = opPieces k.operation (fld (k.memEnt m) 11 4) k.elems

/-- A FILLING chunk whose every contributor is complete becomes COMPLETE, with the last-arrival statistics (R169, R175). -/
def State.checkComplete (s : State) (c chunk : Nat) : State :=
  match s.chunk? c chunk with
  | none => s
  | some k =>
    let ms := k.contributors
    if k.state ≠ 2 || !ms.all k.memberDone then s else
    let s := s.setChunk { k with state := 3, stamp := s.cyc, compAt := s.fclk }
    if s.cx c 3 40 1 = 0 then s else
    let blk := s.cx c 3 32 8
    let s := s.statsAdd blk k.lastM 1 0 0
    ms.foldl (fun s m => s.statsAdd blk m 0 0 ((k.doneAt.getD k.openAt m - k.openAt) / NS)) s

/-- Count a piece into a chunk's arrival store and hand it to AQ; without tally it is copied into POOL_STAGE and its cells are freed (R172, R213). -/
def State.countPiece (s : State) (k : Chunk) (x : Flight) : State :=
  let p := x.pkt
  let q := p.seq % 65536
  let e := k.memEnt p.member
  let e' := 1 <<< 15 ||| p.fmt <<< 11 ||| (fld e 0 11 + 1)
  let tally := hasTally k.operation
  let k : Chunk := { k with
                    mem := k.mem.put p.member e', pcs := k.pcs.put (p.member * 64 + q) (1 <<< 15 ||| p.e2e % 2 ^ 15), arriving := k.arriving + 1,
                    lastM := p.member, state := if tally then k.state else max k.state 2,
                    copies := if tally then k.copies else k.copies ++ [{ member := p.member, piece := q, fmt := p.fmt, pkt := p }] }
  let k : Chunk := if k.memberDone p.member then { k with doneAt := k.doneAt.put p.member s.fclk } else k
  let s := s.setChunk k
  let s := if tally then s.setFlight { x with admitted := true } else s.dropFlight x
  let ent : AqEnt := { ctx := k.ctx, chunk := k.chunk, gen := k.gen, member := p.member, piece := q, fmt := p.fmt, pkt := p, flight := if tally then some x.id else none }
  let s := match s.physOf k.lcore with
    | some ph => s.setCore ph { s.core ph with aq := (s.core ph).aq ++ [ent] }
    | none => s
  s.checkComplete k.ctx k.chunk

/-- Check 7: a piece received before is a duplicate or conflicts (R173). -/
def State.dupPiece (s : State) (k : Chunk) (x : Flight) (seen : Nat) : State :=
  let p := x.pkt
  let s := s.dropFlight x
  if seen % 2 ^ 15 = p.e2e % 2 ^ 15 then s.cnt SRG_DUP_count else
  let s := s.poisonChunk k
  let s := ((((s.cnt SRG_CONFLICT_count).wr SRG_CONFLICT_LOC_ctx p.ctx).wr SRG_CONFLICT_LOC_member p.member).wr SRG_CONFLICT_LOC_attempt p.attempt).wr SRG_CONFLICT_LOC_valid 1
  ((s.wr SRG_CONFLICT_LOC_chunk p.chunk).irq 12 5).nak p x.pipe 7

/-- Checks 6 and 7, and the count of a piece that passes them. A copy that finds no POOL_STAGE buffer leaves the packet waiting (R141). -/
def State.joinChunk (s : State) (x : Flight) (l : Nat) : State :=
  let p := x.pkt
  let old := match s.chunk? p.ctx p.chunk with | some k => if k.live then some k else none | none => none
  let take := fun (s : State) (k : Chunk) (new : Bool) =>
    if hasTally k.operation then (if new then s.enterChunk k else s).countPiece k x
    else
      let r := s.takeStage k 2
      match r.1 with
      | none => r.2
      | some k => (if new then r.2.enterChunk k else r.2.setChunk k).countPiece k x
  if (s.physOf l).isNone then (s.dropFlight x).noRes p x.pipe 3 else
  match old with
  | some k =>
    let seen := k.pcs.getD 0 (p.member * 64 + p.seq % 65536)
    if bit seen 15 then s.dupPiece k x seen else take s k false
  | none =>
    let r := s.openChunk p l
    match r.1 with
    | .error cause => (r.2.dropFlight x).noRes p x.pipe cause
    | .ok k => take r.2 k true

/-- A contribution at a logical core's port (R167). -/
def State.contribution (s : State) (l : Nat) : State :=
  match s.headLocal (.serai l) with
  | none => s
  | some x =>
    let p := x.pkt
    if p.kind ≠ 1 then s else
    let aq := match s.physOf l with | some ph => (s.core ph).aq.length | none => 0
    if 32 ≤ aq ∨ s.ser.fencing.contains l then s
    else if !s.arriveSlice p then ((s.dropFlight x).cnt SRG_DROP_SLICE_count).nak p x.pipe 3
    else if !s.arriveForm p then (s.dropFlight x).cnt SRG_MALFORMED_count
    else if e2eOf p.payload ≠ p.e2e then ((s.dropFlight x).cnt SRG_E2E_BAD_count).nak p x.pipe 5
    else match s.arriveLate p with
    | some why =>
      let s := (s.dropFlight x).cnt SRG_LATE_count
      let s := (((s.wr SRG_LATE_LOC_ctx p.ctx).wr SRG_LATE_LOC_member p.member).wr SRG_LATE_LOC_attempt p.attempt).wr SRG_LATE_LOC_valid 1
      ((s.wr SRG_LATE_LOC_chunk p.chunk).irq 12 4).nak p x.pipe why
    | none =>
      if !s.ctxActive p.ctx then (s.dropFlight x).noRes p x.pipe 1
      else if s.ctxBase p.ctx + s.ctxLen p.ctx ≤ p.chunk ∨ s.ctxFloor p.ctx + s.ctxAhead p.ctx ≤ p.chunk then (s.dropFlight x).noRes p x.pipe 2
      else s.joinChunk x l

/-- CONTRIBUTION_ARRIVAL (R167). -/
def execContributionArrival (l : Nat) (s : State) : Host.Outcome State Fault Refusal := act s (s.atPort (l % 64) fun s => s.contribution (l % 64))

/-! Deadlines (R174, R176, R169). -/

/-- A chunk's straggler deadline (R174, R175). -/
def State.straggle (s : State) (c chunk : Nat) : State :=
  match s.chunk? c chunk with
  | none => s
  | some k =>
    let ns := s.cx c 2 0 32
    if ns = 0 || !(k.state = 1 || k.state = 2) || k.straggled || decide (s.fclk < k.openAt + ns * NS) then s else
    let s := ((s.setChunk { k with straggled := true }).cnt SRG_STRAGGLE_count).irq 12 2
    let late := k.contributors.filter fun m => !k.memberDone m
    let s := if s.cx c 3 40 1 = 1 then late.foldl (fun s m => s.statsAdd (s.cx c 3 32 8) m 0 1 0) s else s
    if s.flag SRG_STRAGGLE_POLICY_policy then s.telStraggler c k.slice chunk k.openAt late.length else s

/-- STRAGGLE_DEADLINE (R174). -/
def execStraggleDeadline (ctx chunk : Nat) (s : State) : Host.Outcome State Fault Refusal := act s (s.straggle (ctx % 65536) chunk)

/-- A chunk's hard timeout (R176). One that a contribution made COMPLETE in the cycle the timeout falls in is not aborted (R178). -/
def State.chunkTimeout (s : State) (c chunk : Nat) : State :=
  match s.chunk? c chunk with
  | none => s
  | some k =>
    let due := k.openAt + s.cx c 2 32 32 * 1000 * NS
    let inTime := k.state = 3 && decide (due ≤ k.compAt) && decide (k.compAt < due + s.clkStep)
    if !(1 ≤ k.state && k.state ≤ 3) || decide (s.fclk < due) || inTime then s else s.abort k 1

/-- CHUNK_TIMEOUT (R176). -/
def execChunkTimeout (ctx chunk : Nat) (s : State) : Host.Outcome State Fault Refusal := act s (s.chunkTimeout (ctx % 65536) chunk)

/-- A WINDOW-retained chunk's time ends (R169). -/
def State.retainExpiry (s : State) (c chunk : Nat) : State :=
  match s.chunk? c chunk with
  | none => s
  | some k =>
    if k.state ≠ 6 || k.retention ≠ 1 || decide (s.fclk < k.retAt + s.cx c 3 0 32 * 1000 * NS) then s else (s.release k).finish c

/-- RETAIN_EXPIRY (R169). -/
def execRetainExpiry (ctx chunk : Nat) (s : State) : Host.Outcome State Fault Refusal := act s (s.retainExpiry (ctx % 65536) chunk)

/-! Results. -/

/-- Re-serves of a logical core that found no cell are tried again, and NAKs waiting for a pend entry take one that is free (R141, R276). -/
def State.pumpNaks (s : State) (l : Nat) : State :=
  let ks := s.ser.chunks.filter fun k => k.lcore = l && k.state = 6 && !k.naks.isEmpty
  let s := ks.foldl (fun s k => s.actHeld k.ctx k.chunk) s
  let w := s.ser.waiting.filter fun x => x.outCore = 128 + l
  w.foldl (fun s x =>
    match s.chunk? x.pkt.ctx x.pkt.chunk with
    | some k =>
      if k.state = 6 && (k.pend.contains (some x.pkt.member) || (pendAdd k.pend x.pkt.member).isSome) then
        ({ s with ser := { s.ser with waiting := s.ser.waiting.filter fun y => y.id ≠ x.id } }).reserveNak k x
      else s
    | none => s) s

/-- The head of EQ goes out (R179, R180, R216, R280): EMITTING at the first piece, retention as it is sent, every recipient in order; with no cell free the rest waits. `ue` names segments whose staged words are uncorrectable. -/
def State.sendPiece (s : State) (ph ue : Nat) : State :=
  match (s.core ph).eq with
  | [] => s
  | e :: _ =>
    match s.liveChunk e.ctx e.chunk e.gen with
    | none => s.sweepCore ph
    | some k =>
      let n := pieceCount k.fmt k.elems e.piece.p
      let b := if k.operation = 4 then [] else e.piece.bytes k.fmt n
      let segs := 2 ^ segCount b.length - 1
      let pm := (e.piece.poison ||| ue ||| (if k.poison then segs else 0)) &&& segs
      let first := !k.pm[e.piece.p]?.isSome
      let s := if first && ue &&& segs ≠ 0 then s.cnt MEM_ONDIE_UE_count 0 0 0 (popc 16 (ue &&& segs)) else s
      let s := if first then
          let k' := { k with state := 5, pm := k.pm ++ [pm] }
          let s := s.setChunk k'
          let s := if e.piece.p = 0 then s.retainOpen k' else s
          s.retainPiece ((s.chunk? k.ctx k.chunk).getD k') e.piece.p b pm
        else s
      let ms := k.recipients.drop e.sent
      let r := ms.foldl (fun (stop, n, s) m =>
        if stop then (true, n, s) else
        match s.route k.ctx m with
        | none => (false, n + 1, s)
        | some rt =>
          let k1 := (s.chunk? k.ctx k.chunk).getD k
          let t := s.sendResult k1 e.piece.p m 0 b (k1.pm.getD e.piece.p 0) rt (k.lcore / 4)
          if t.1 = .again then (true, n, t.2) else (false, n + 1, t.2)) (false, e.sent, s)
      let s := r.2.2
      let x := s.core ph
      if r.1 then s.setCore ph { x with eq := { e with sent := r.2.1 } :: x.eq.drop 1 } else
      let s := s.setCore ph { x with eq := x.eq.drop 1 }
      let k1 := (s.chunk? k.ctx k.chunk).getD k
      let s := (s.freeStage [] (k1.emit.take 1) []).setChunk { k1 with emit := k1.emit.drop 1, sent := k1.sent + 1 }
      s.tryEnd k.ctx k.chunk

/-- No ON_EMIT of the chunk is left: every piece not yet fed was released (R221, R258). -/
def Chunk.emitDone (k : Chunk) : Bool := ((List.range k.pieces).filter (k.next ≤ ·)).all fun p => k.relP.any (·.p = p)

/-- When the last ON_EMIT has ended the tally granules are freed and a nonzero status is captured (R221, R240). -/
def State.emitEnd (s : State) (c chunk : Nat) : State :=
  match s.chunk? c chunk with
  | none => s
  | some k =>
    if k.phase ≠ 4 || !k.emitDone then s else
    let s := s.setChunk { k with phase := 5, granules := 0, acc := [] }
    match s.physOf k.lcore with
    | none => s
    | some p =>
      if k.stm.status = 0 then s else
      let r := k.stm.record
      let s := (((s.wr SRI_XSTAT_ctx c p).wr SRI_XSTAT_status k.stm.status p).wr SRI_XSTAT_valid 1 p).wr SRI_XSTAT_chunk chunk p
      let s := (s.wr SRI_XREC0_rec_lo (r % 2 ^ 64) p).wr SRI_XREC1_rec_hi (r / 2 ^ 64) p
      if k.stm.status &&& s.rd SRI_CTRL_xmask p ≠ 0 then s.irq (0x80 + p) 0 else s

/-- Released pieces whose turn has come enter EQ while it has room, one entry being kept for the piece of a running ON_EMIT (R212, R258). -/
def State.feed (s : State) (c chunk : Nat) : Nat → State
  | 0 => s
  | f + 1 =>
    match s.chunk? c chunk with
    | none => s
    | some k =>
      match s.physOf k.lcore with
      | none => s
      | some p =>
        let x := s.core p
        if (k.phase = 4 || k.phase = 5) && x.eq.length + (if x.inv.any (·.entry = 3) then 1 else 0) < 32 then
          match k.relP.find? (·.p = k.next) with
          | some q =>
            let s := s.setChunk { k with next := k.next + 1, relP := k.relP.filter fun y => y.p ≠ q.p }
            (s.setCore p { x with eq := x.eq ++ [{ ctx := c, chunk := chunk, gen := k.gen, piece := q }] }).feed c chunk f
          | none => s
        else s

/-- The emit engine of a physical core: the head of EQ, or what waits to be re-served. -/
def State.emitStep (s : State) (ph ue : Nat) : State :=
  let s := if s.rd SRI_STATE_state ph = 3 then s.sendPiece ph ue else s
  let s := (s.ser.chunks.filter fun k => k.live && !k.relP.isEmpty && s.physOf k.lcore = some ph).foldl (fun s k => s.feed k.ctx k.chunk 64) s
  if s.rd SRI_STATE_lcore_valid ph = 1 then s.pumpNaks (s.rd SRI_STATE_lcore ph) else s

/-- RESULT_PIECE_SEND (R216). -/
def execResultPieceSend (core ue : Nat) (s : State) : Host.Outcome State Fault Refusal := act s (s.emitStep (core % 68) ue)

/-- A kind 3 packet at a core port that is not about a norm partial (R81, R182, R183). -/
def State.resultNak (s : State) (l : Nat) : State :=
  match s.headLocal (.serai l) with
  | none => s
  | some x =>
    let p := x.pkt
    if p.kind ≠ 3 then s else
    match ackRead p with
    | none => (s.dropFlight x).cnt SRG_MALFORMED_count
    | some (code, reason, rk) =>
      if code = 1 ∧ rk = 6 then s
      else
        let s := s.dropFlight x
        if e2eOf p.payload ≠ p.e2e ∨ code ≠ 1 then s
        else if reason = 0 ∨ 10 < reason then s.cnt SRG_MALFORMED_count
        else match s.chunk? p.ctx p.chunk with
        | none => s.reserveMiss p x.pipe
        | some k =>
          if k.state = 6 then s.reserveNak k x
          else if k.state = 4 || k.state = 5 then s.setChunk { k with naks := k.naks ++ [x] }
          else s.reserveMiss p x.pipe

/-- RESULT_NAK (R182). -/
def execResultNak (l : Nat) (s : State) : Host.Outcome State Fault Refusal := act s (s.atPort (l % 64) fun s => s.resultNak (l % 64))

/-! SRG table commands (R185). -/

/-- A command of SRG completes (R115, R185): 0 OK, 1 NOT_FOUND, 2 BUSY, 3 INVALID, 5 PARITY. -/
def State.srgDone (s : State) (st : Nat) : State := ((s.wr SRG_TSTAT_busy 0).wr SRG_TSTAT_status st).irq 12 0

/-- Load SRG_TDATA from word 0 on. -/
def State.srgLoad (s : State) (l : List Nat) : State := l.zipIdx.foldl (fun s (v, w) => s.wr SRG_TDATA_data v 0 w) s

/-- SRG_TKEY.index. -/
def State.srgIdx (s : State) : Nat := s.rd SRG_TKEY_index

/-- READ (R185, R293). -/
def State.srgRead (s : State) (table : Nat) : State :=
  let i := s.srgIdx
  match table with
  | 0 => (s.srgLoad ((List.range 8).map fun w => s.tget TB_CTX 0 i w)).srgDone (if s.ctxBad i then 5 else 0)
  | 1 => (s.srgLoad [s.tget TB_MEMBER 0 i 0]).srgDone (if s.isBad TB_MEMBER 0 i 0 16 then 5 else 0)
  | 3 => if 256 ≤ i then s.srgDone 3 else (s.srgLoad [s.tget TB_STATS 0 (i * 1024 + s.rd SRG_TKEY_member) 0]).srgDone 0
  | 4 => (s.srgLoad [s.tget TB_BCTREE 0 (i % 4096) 0]).srgDone (if s.isBad TB_BCTREE 0 (i % 4096) 0 16 then 5 else 0)
  | _ => s.srgDone 3

/-- WRITE (R160, R162, R293, R392). -/
def State.srgWrite (s : State) (table : Nat) : State :=
  let i := s.srgIdx
  let d := fun w => s.rd SRG_TDATA_data 0 w
  match table with
  | 0 =>
    let w := fun j => ctxMask j (d j)
    if s.ctxActive i || s.sliceState (s.ctxSlice i) = 2 || s.sliceState (fld (w 0) 8 12) = 2 then s.srgDone 2
    else if ctxInvalid w then s.srgDone 3
    else (s.ctxStore i ((List.range 8).map fun j => if j = 5 then w 5 ||| s.ctxFloor i <<< 32 else w j)).srgDone 0
  | 1 =>
    let v := fld (d 0) 0 41
    if s.memberBusy i then s.srgDone 2
    else if fld v 38 2 = 3 then s.srgDone 3
    else (((s.coverMod 0x06 i (s.tget TB_MEMBER 0 i 0) v).tset TB_MEMBER 0 i 0 v).mend TB_MEMBER 0 i 0).srgDone 0
  | 4 =>
    let sl := i % 4096
    if s.sliceState sl = 2 then s.srgDone 2
    else (((s.coverSl sl 0x27 0 (s.tget TB_BCTREE 0 sl 0) (d 0)).tset TB_BCTREE 0 sl 0 (d 0)).mend TB_BCTREE 0 sl 0).srgDone 0
  | _ => s.srgDone 3

/-- SEARCH of CHUNK (R185). -/
def State.chunkSearch (s : State) (table : Nat) : State :=
  if table ≠ 2 then s.srgDone 3 else
  match s.chunk? s.srgIdx (s.rd SRG_TKEY_chunk) with
  | none => s.srgDone 1
  | some k =>
    let done := (k.contributors.filter k.memberDone).length
    (s.srgLoad [k.state ||| k.reason <<< 4 ||| k.lcore <<< 8 ||| (if k.poison then 1 else 0) <<< 14,
      k.openAt / NS % 10 ^ 9 * 65536 + k.openAt / 2 ^ 32 % 65536, done]).srgDone 0

/-- A refused start of R220. -/
def State.kernelAbsent (s : State) (c : Nat) : State :=
  (((((s.cnt SRG_KERR_count).wr SRG_KERR_LOC_code 0x28).wr SRG_KERR_LOC_kernel (s.ctxKernel c)).wr SRG_KERR_LOC_ctx c)).wr SRG_KERR_LOC_valid 1

/-- The kernel of an index. -/
def State.kernel? (s : State) (i : Nat) : Option Kernel := s.ser.kernels.find? fun k => k.idx = i

/-- Why a start that needs a ledger is refused, if it is (R249). -/
def State.startCause (s : State) (c : Nat) : Option Nat :=
  let n := s.ctxLedger c
  let r := s.rd LDG_ROUND_next_round 0 n
  let st := s.ldgStep n % 65536
  let mine := s.ser.norms.any fun x => x.state = 0 && x.ctx = c && x.ledger = n && x.step = st && x.round = r
  let others := s.ser.norms.filter fun x => x.state = 0 && x.ctx ≠ c && x.ledger = n && x.step = st && x.round = r
  if !s.ctxLdg c then none
  else if !s.flag LDG_CFG_enable 0 n then some 1
  else if s.flag LDG_CFG_lock 0 n then some 2
  else if s.ctxOper c = 5 && !mine && 64 ≤ s.ser.norms.length - others.length then some 3
  else if s.ctxOper c = 5 && 65536 ≤ r then some 4
  else if s.flag LDG_STATE_fault 0 n then some 5
  else none

/-- A REDUCE_UPDATE convoy takes its round: a PENDING slot with its key is joined, those of other contexts are freed, or a slot is claimed (R250, R253). -/
def State.takeRound (s : State) (c : Nat) : State :=
  let n := s.ctxLedger c
  let r := s.rd LDG_ROUND_next_round 0 n
  let st := s.ldgStep n % 65536
  let s := s.wr LDG_ROUND_next_round (r + 1) 0 n
  let other := fun (x : NormSlot) => x.state = 0 && x.ctx ≠ c && x.ledger = n && x.step = st && x.round = r
  let late := ((s.ser.norms.filter other).map (·.peers.length)).sum
  let s := s.setNorms (s.ser.norms.filter fun x => !other x)
  let s := if late = 0 then s else s.cnt LDG_NORM_LATE_count 0 0 0 late
  let x : NormSlot := { ctx := c, step := st, round := r, ledger := n, slice := s.ctxSlice c, base := s.ctxBase c, len := s.ctxLen c, state := 1 }
  match s.normOf n c x.key (·.state = 0) with
  | some y => s.setNorm { x with slot := y.slot, total := y.total, peers := y.peers }
  | none => s.claimNorm x

/-- A convoy start (R164, R220, R249, R389): 0 started, 2 BUSY, 3 INVALID. -/
def State.startConvoy (s : State) (c : Nat) : Nat × State :=
  if !s.ctxValid c || s.ctxActive c || s.sliceState (s.ctxSlice c) ≠ 1 then (2, s) else
  let ok := match s.kernel? (s.ctxKernel c) with | some k => bit k.ops (s.ctxOper c) | none => false
  if !ok then (3, s.kernelAbsent c) else
  match s.startCause c with
  | some cause => (3, (((s.cnt LDG_START_REFUSED_count).wr LDG_START_LOC_ctx c).wr LDG_START_LOC_cause cause).wr LDG_START_LOC_valid 1)
  | none =>
    let s := s.ctxPut c 1 (setFld (s.tget TB_CTX 0 c 1) 7 1 1)
    let s := s.ctxPut c 5 (setFld (s.tget TB_CTX 0 c 5) 32 32 (s.ctxBase c))
    (0, if s.ctxOper c = 5 then s.takeRound c else s)

/-- Abort every open chunk of a context (R185). -/
def State.abortCtx (s : State) (c reason : Nat) (quiet : Bool := false) : State :=
  (s.ser.chunks.filter fun k => k.ctx = c && k.live).foldl (fun s k =>
    match s.chunk? c k.chunk with
    | some k => if k.live then s.abort k reason quiet else s
    | none => s) s

/-- ABORT of CTX or CHUNK (R185). -/
def State.srgAbort (s : State) (table : Nat) : State :=
  match table with
  | 0 => (s.abortCtx s.srgIdx 2).srgDone 0
  | 2 => match s.chunk? s.srgIdx (s.rd SRG_TKEY_chunk) with
    | some k => (if k.live || k.state = 6 then s.abort k 2 else s).srgDone 0
    | none => s.srgDone 0
  | _ => s.srgDone 3

/-- RELEASE of CTX (R185). -/
def State.srgRelease (s : State) (table : Nat) : State :=
  if table ≠ 0 then s.srgDone 3 else
  let c := s.srgIdx
  (((s.ser.chunks.filter fun k => k.ctx = c && k.state = 6 && decide (k.chunk < s.rd SRG_TKEY_chunk)).foldl (fun s k => s.release k) s).finish c).srgDone 0

/-- CLEAR of STATS (R185). -/
def State.srgClear (s : State) (table : Nat) : State :=
  let i := s.srgIdx
  if table ≠ 3 ∨ 256 ≤ i then s.srgDone 3
  else ((List.range 1024).foldl (fun s m => s.tset TB_STATS 0 (i * 1024 + m) 0 0) s).srgDone 0

/-- A write of SRG_TCMD runs at once (R185). -/
def State.srgTcmd (s : State) (op table : Nat) : State :=
  match op with
  | 1 => s.srgRead table
  | 2 => s.srgWrite table
  | 3 => s.chunkSearch table
  | 4 => if table ≠ 0 then s.srgDone 3 else let r := s.startConvoy s.srgIdx; r.2.srgDone r.1
  | 5 => s.srgAbort table
  | 6 => s.srgRelease table
  | 7 => s.srgClear table
  | _ => s.srgDone 3

/-- A host write of SRG_TCMD. -/
def srgCmd (op table : Nat) (s : State) : Host.Outcome State Fault Refusal := hostWrite s 12 0x200 fun s => s.srgTcmd op (table % 16)

/-- SRG_READ (R185). -/
def execSrgRead (table : Nat) (s : State) : Host.Outcome State Fault Refusal := srgCmd 1 table s
/-- SRG_WRITE (R160, R162). -/
def execSrgWrite (table : Nat) (s : State) : Host.Outcome State Fault Refusal := srgCmd 2 table s
/-- CHUNK_SEARCH (R185). -/
def execChunkSearch (table : Nat) (s : State) : Host.Outcome State Fault Refusal := srgCmd 3 table s
/-- START (R164). -/
def execStart (table : Nat) (s : State) : Host.Outcome State Fault Refusal := srgCmd 4 table s
/-- ABORT (R185). -/
def execAbort (table : Nat) (s : State) : Host.Outcome State Fault Refusal := srgCmd 5 table s
/-- RELEASE (R185). -/
def execRelease (table : Nat) (s : State) : Host.Outcome State Fault Refusal := srgCmd 6 table s
/-- CLEAR (R185). -/
def execClear (table : Nat) (s : State) : Host.Outcome State Fault Refusal := srgCmd 7 table s

/-- PHASE_START, action class 9 (R51, R164). -/
def execPhaseStart (u : Nat) (s : State) : Host.Outcome State Fault Refusal :=
  act s (s.effect (u % 32) 9 fun e s => let r := s.startConvoy (e.arg % 65536); (r.2, r.1 = 0))

end Sys2Proof.Machine
end

