-- ==== Sys2Proof/Machine/Norm.lean ====
section
/-! DEFINITION. The norm collective: slots, partials and their log, retries, faults (R250 to R256). -/

namespace Sys2Proof.Machine

/-- Peers of a ledger's norm group: every member but the module itself (R250). -/
def State.peers (s : State) (n : Nat) : List Nat :=
  (List.range (s.rd LDG_NORM_GRP_norm_count 0 n)).filter (· ≠ s.rd LDG_NORM_GRP_self_index 0 n)

/-- Where the last attempt of a round's partial to a peer is held. -/
def partKey (n key m : Nat) : Nat := (n * 2 ^ 32 + key % 2 ^ 32) * 1024 + m

/-- Send the partial of a round to peer `m`, with attempt one more than before (R251, R254); with no cell free it is tried again (R141). -/
def State.sendPartial (s : State) (n ctx key m : Nat) (b : List Byte) : State :=
  match s.memberRoute (s.rd LDG_NORM_GRP_member_base 0 n + m) with
  | none => s
  | some (ep, wb, hc) =>
    let ak := partKey n key m
    let att := match s.ser.partAtt.get? ak with | some a => (a + 1) % 8 | none => 0
    let f := s.takeFree 4
    let l := s.owner ctx key
    let p : Pkt := { kind := 6, tc := 1, slice := s.ctxSlice ctx, dst := ep, waybill := wb, hopCount := hc, seq := f.1 % 2 ^ 32, ctx := ctx,
                     member := s.rd LDG_NORM_GRP_self_index 0 n, attempt := att, chunk := key, fmt := 9, payload := b }
    let r := f.2.originate p (l / 4) (128 + l) .stall
    match r.1 with
    | .again => { r.2 with ser := { r.2.ser with resend := r.2.ser.resend ++ [{ ledger := n, ctx := ctx, key := key, member := m, due := r.2.cyc, asked := false }] } }
    | .handed => { r.2 with ser := { r.2.ser with partAtt := r.2.ser.partAtt.put ak att } }
    | .dropped => r.2

/-- Byte address of a round's entry in the sent-partial log (R259). -/
def State.logAddr (s : State) (n round : Nat) : Nat := s.ldgRsv n + 0x800000 + 64 * round

/-- Write a partial into the sent-partial log (R251, R259). -/
def State.logPartial (s : State) (n ctx round : Nat) (b : List Byte) : State :=
  s.writeRes (s.logAddr n round) (wordsOf (b ++ leBytes 4 ctx ++ leBytes 4 (s.ldgStep n)) fun _ => false)

/-- The partial of a round of the current step, if the log holds it (R254). -/
def State.findPartial (s : State) (n ctx key : Nat) : Option (List Byte) × State :=
  let r := s.readRes (s.logAddr n (key % 65536)) 12
  let b := bytesOf r.1
  let ok := key / 65536 = s.ldgStep n % 65536 && !r.1.any (·.2) && leNat ((b.drop 40).take 4) % 65536 = ctx && leNat ((b.drop 44).take 4) = s.ldgStep n
  (if ok then some (b.take 40) else none, r.2)

/-- A slot that is OWN_DONE with every peer's partial is FINAL (R251). -/
def State.normFinal (s : State) (x : NormSlot) : State :=
  if x.state ≠ 2 || !(s.peers x.ledger).all (fun m => (x.peers.get? m).isSome) then s else
  let s := s.setNorm { x with state := 3, since := s.cyc }
  if x.total.has aNAN || x.total.has aPINF || x.total.has aNINF || decide (2 ^ 319 ≤ x.total.x.natAbs) then s.cnt LDG_NORM_NONFINITE_count else s

/-- A chunk's NRMS (R251, R256). -/
def State.normAdd (s : State) (k : Chunk) (a : Accum) : State :=
  match s.chunkNorm k with
  | none => s
  | some x =>
    match x.map.get? k.chunk with
    | some b => if b.readExp.1 = a.readExp.1 then s.cnt LDG_NORM_DUP_count else (s.normFault x).finish x.ctx
    | none =>
      if x.state = 4 then s else
      let x : NormSlot := { x with map := x.map.put k.chunk a, own := x.own.join a, total := x.total.join a }
      if x.map.length < x.len then s.setNorm x else
      let x : NormSlot := { x with state := 2, since := s.cyc, retryAt := s.cyc + usCyc (s.rd LDG_NORM_CFG_retry_us) }
      let s := s.setNorm x
      let b := leBytes 40 x.own.readExp.1
      let s := (s.peers x.ledger).foldl (fun s m =>
        ({ s with ser := { s.ser with partAtt := s.ser.partAtt.del (partKey x.ledger x.key m) } }).sendPartial x.ledger x.ctx x.key m b) s
      (s.logPartial x.ledger x.ctx x.round b).normFinal x

/-- A step number modulo 2^16 lies before another. -/
def stepBefore (a b : Nat) : Bool := let d := (b + 65536 - a % 65536) % 65536; d ≠ 0 && d < 32768

/-- Check 4 of R252: the slot, claimed PENDING where it may be; or LATE (0) or NO_RESOURCE (1). -/
def State.normSlotFor (s : State) (n ctx key slice : Nat) : Except Nat NormSlot × State :=
  let st := key / 65536
  let r := key % 65536
  match s.normOf n ctx key (fun _ => true) with
  | some x => (.ok x, s)
  | none =>
    let cur := s.ldgStep n % 65536
    let nxt := s.rd LDG_ROUND_next_round 0 n
    if stepBefore st cur ∨ (st = cur ∧ r < nxt) then (.error 0, s)
    else if st = cur ∧ r = nxt ∧ s.ser.norms.length < 64 then
      let x : NormSlot := { ctx := ctx, step := st, round := r, ledger := n, slice := slice, slot := lowestFree (s.ser.norms.map (·.slot)) 64 0 }
      (.ok x, s.claimNorm x)
    else (.error 1, s)

/-- A norm partial at a core port (R252). A marked one only sets PSN in the total (R86, R198). -/
def State.normArrive (s : State) (l : Nat) : State :=
  match s.headLocal (.serai l) with
  | none => s
  | some x =>
    let p := x.pkt
    if p.kind ≠ 6 || s.ser.fencing.contains l then s else
    let s := s.dropFlight x
    let c := p.ctx
    let n := s.ctxLedger c
    if !s.ctxValid c || s.ctxBad c || s.ctxSlice c ≠ p.slice || s.ctxOper c ≠ 5 then (s.cnt LDG_NORM_BAD_count).nak p x.pipe 3
    else if p.fmt ≠ 9 || p.length ≠ 40 || !(s.peers n).contains p.member then s.cnt LDG_NORM_BAD_count
    else if e2eOf p.payload ≠ p.e2e then (s.cnt LDG_NORM_BAD_count).nak p x.pipe 5
    else
      let r := s.normSlotFor n c p.chunk p.slice
      let s := r.2
      match r.1 with
      | .error 0 => s.cnt LDG_NORM_LATE_count
      | .error _ => (s.cnt LDG_NORM_NORES_count).nak p x.pipe 9
      | .ok y =>
        let bits := leNat p.payload
        if y.state = 4 then s.cnt LDG_NORM_LATE_count else
        match y.peers.get? p.member with
        | some old => if old = bits then s.cnt LDG_NORM_DUP_count else ((s.cnt LDG_NORM_CONFLICT_count).normFault y).finish y.ctx
        | none =>
          let part := (({} : Accum).add 0 (decodeExp bits) (p.poisonMap % 2 = 1)).1
          let y : NormSlot := { y with peers := y.peers.put p.member bits, total := y.total.join part }
          (s.setNorm y).normFinal y

/-- NORM_PARTIAL_ARRIVAL (R252). -/
def execNormPartialArrival (l : Nat) (s : State) : Host.Outcome State Fault Refusal := act s (s.atPort (l % 64) fun s => s.normArrive (l % 64))

/-- Partials asked for again and partials that found no cell go out when due; OWN_DONE slots ask the peers whose partial is missing (R254). -/
def State.normRetry (s : State) : State :=
  let due := s.ser.resend.filter fun x => x.due ≤ s.cyc
  let s := { s with ser := { s.ser with resend := s.ser.resend.filter fun x => s.cyc < x.due } }
  let s := due.foldl (fun s x =>
    let r := s.findPartial x.ledger x.ctx x.key
    match r.1 with
    | some b => r.2.sendPartial x.ledger x.ctx x.key x.member b
    | none => if x.asked then r.2.cnt LDG_NORM_LATE_count else r.2) s
  (s.ser.norms.filter fun x => x.state = 2 && decide (x.retryAt ≤ s.cyc)).foldl (fun s x =>
    let s := ((s.peers x.ledger).filter fun m => (x.peers.get? m).isNone).foldl (fun s m => s.normNak x.ledger x.ctx x.key m 8) s
    s.setNorm { x with retryAt := s.cyc + usCyc (s.rd LDG_NORM_CFG_retry_us) }) s

/-- NORM_RETRY (R254). -/
def execNormRetry (s : State) : Host.Outcome State Fault Refusal := act s s.normRetry

/-- The member of a norm group an endpoint is. -/
def State.peerOf (s : State) (n ep : Nat) : Option Nat :=
  (s.peers n).find? fun m => match s.memberRoute (s.rd LDG_NORM_GRP_member_base 0 n + m) with | some r => r.1 = ep | none => false

/-- A NAK with ref_kind 6 other than ABORTED (R254): PORT_LOST is answered from the sent-partial log at once, NO_RESOURCE in the same way after retry_us. -/
def State.normRequest (s : State) (l : Nat) : State :=
  match s.headLocal (.serai l) with
  | none => s
  | some x =>
    let p := x.pkt
    if p.kind ≠ 3 then s else
    match ackRead p with
    | some (1, reason, 6) =>
      if reason = 10 then s else
      let s := s.dropFlight x
      if e2eOf p.payload ≠ p.e2e then s else
      let n := s.ctxLedger p.ctx
      match s.peerOf n p.src with
      | none => s.cnt LDG_NORM_LATE_count
      | some m =>
        if reason = 9 then
          let q : NormSend := { ledger := n, ctx := p.ctx, key := p.chunk, member := m, due := s.cyc + usCyc (s.rd LDG_NORM_CFG_retry_us), asked := true }
          { s with ser := { s.ser with resend := s.ser.resend ++ [q] } }
        else if reason ≠ 8 then s.cnt LDG_NORM_LATE_count
        else
          let r := s.findPartial n p.ctx p.chunk
          match r.1 with
          | none => r.2.cnt LDG_NORM_LATE_count
          | some b => r.2.sendPartial n p.ctx p.chunk m b
    | _ => s

/-- NORM_PARTIAL_REQUEST (R254). -/
def execNormPartialRequest (l : Nat) (s : State) : Host.Outcome State Fault Refusal := act s (s.atPort (l % 64) fun s => s.normRequest (l % 64))

/-- A NAK ABORTED with ref_kind 6 (R253, R255). -/
def State.normAbort (s : State) (l : Nat) : State :=
  match s.headLocal (.serai l) with
  | none => s
  | some x =>
    let p := x.pkt
    if p.kind ≠ 3 then s else
    match ackRead p with
    | some (1, 10, 6) =>
      let s := s.dropFlight x
      if e2eOf p.payload ≠ p.e2e then s else
      match s.normOf (s.ctxLedger p.ctx) p.ctx p.chunk (fun y => y.state ≠ 0 && y.state ≠ 4) with
      | some y => (s.normFault y).finish y.ctx
      | none => s.cnt LDG_NORM_LATE_count
    | _ => s

/-- NORM_ABORT_NAK (R255). -/
def execNormAbortNak (l : Nat) (s : State) : Host.Outcome State Fault Refusal := act s (s.atPort (l % 64) fun s => s.normAbort (l % 64))

/-- Slots that have been OWN_DONE for timeout_us fail (R255). -/
def State.normTimeout (s : State) : State :=
  (s.ser.norms.filter fun x => x.state = 2 && decide (x.since + usCyc (s.rd LDG_NORM_CFG_timeout_us) ≤ s.cyc)).foldl (fun s x =>
    (((s.cnt LDG_NORM_TIMEOUT_count).irq 14 4).normFault x).finish x.ctx) s

/-- NORM_TIMEOUT (R255). -/
def execNormTimeout (s : State) : Host.Outcome State Fault Refusal := act s s.normTimeout

end Sys2Proof.Machine
end

