-- ==== Sys2Proof/Machine/Kern.lean ====
section
/-! DEFINITION. The kernel store, the dispatch of invocations, watchdog, fences and spares (R217 to R225, R233 to R239). -/

namespace Sys2Proof.Machine

/-! Loading (R217 to R220). -/

/-- What an opcode's fields may hold (R219, R226, R230): largest register or function codes of d, a, b, c; whether it takes a predicate; the bits of mod it uses. -/
structure OpSpec where
  d : Nat := 0
  a : Nat := 0
  b : Nat := 0
  c : Nat := 0
  pred : Bool := false
  mod : Nat := 0
deriving DecidableEq, Repr

/-- The opcodes of R230; none for a reserved one. -/
def opSpec (op : Nat) : Option OpSpec :=
  match op with
  | 0x00 => some {}
  | 0x08 => some {}
  | 0x09 => some {}
  | 0x0A => some { a := 15, b := 15, c := 6, mod := 0xFFFF }
  | 0x0B => some { a := 7, mod := 0xFFFF0003 }
  | 0x10 => some { d := 31, a := 15, c := 7, pred := true, mod := 0xF000FFFF }
  | 0x20 => some { a := 31, b := 15, pred := true, mod := 0xFE00FFFF }
  | 0x21 => some { d := 7, a := 31, c := 15, pred := true, mod := 0xFC00FFFF }
  | 0x22 => some { d := 7, a := 31, b := 31, c := 15, pred := true, mod := 0xFF00FFFF }
  | 0x23 => some { d := 7 }
  | 0x24 => some { d := 7, a := 7 }
  | 0x30 => some { d := 31, b := 15, c := 15, pred := true, mod := 0xFF00FFFF }
  | 0x31 => some { d := 31, a := 7, c := 15, pred := true, mod := 0xFF00FFFF }
  | 0x38 => some { d := 31, a := 31, b := 15, c := 15, pred := true, mod := 0xFFF0FFFF }
  | 0x40 => some { d := 31, a := 31, b := 31, c := 31, pred := true, mod := 0xFC000000 }
  | 0x41 => some { d := 31, a := 31, b := 31, c := 31, pred := true, mod := 0xFC000000 }
  | 0x42 => some { d := 31, a := 31, b := 31, c := 31, pred := true, mod := 0xFC000000 }
  | 0x43 => some { d := 31, a := 31, b := 31, c := 31, pred := true, mod := 0xFC000000 }
  | 0x44 => some { d := 31, a := 31, b := 31, c := 31, pred := true, mod := 0xFC000000 }
  | 0x45 => some { d := 31, a := 31, b := 31, c := 31, pred := true, mod := 0xFC000000 }
  | 0x46 => some { d := 31, a := 31, b := 31, c := 31, pred := true, mod := 0xFC000000 }
  | 0x47 => some { d := 31, a := 31, b := 31, c := 31, pred := true, mod := 0xFC000000 }
  | 0x50 => some { d := 31, a := 31, b := 31, pred := true, mod := 0xFFFFFFFF }
  | 0x51 => some { d := 31, a := 31, b := 31, pred := true, mod := 0xFFFFFFFF }
  | 0x52 => some { d := 31, a := 31, b := 31, pred := true, mod := 0xFFFFFFFF }
  | 0x53 => some { d := 31, a := 31, b := 31, c := 3, pred := true, mod := 0xFFFFFFFF }
  | 0x54 => some { d := 31, a := 31, b := 31, c := 2, pred := true, mod := 0xFFFFFFFF }
  | 0x55 => some { d := 31, pred := true, mod := 0xFFFFFFFF }
  | 0x56 => some { d := 31, a := 15, pred := true }
  | 0x57 => some { d := 31, a := 31, b := 31, c := 7, pred := true }
  | 0x58 => some { d := 7, a := 31, b := 31, c := 6, pred := true, mod := 0xFFFFFFFF }
  | 0x59 => some { d := 7, a := 31, b := 31, c := 7, pred := true }
  | 0x5A => some { d := 7, a := 7, b := 7, c := 6 }
  | 0x60 => some { d := 15, a := 15, b := 15, mod := 0xFFFFFFFF }
  | 0x61 => some { d := 15, a := 15, b := 15, mod := 0xFFFFFFFF }
  | 0x62 => some { d := 15, a := 15, b := 15, mod := 0xFFFFFFFF }
  | 0x63 => some { d := 15, a := 15, b := 15, c := 3, mod := 0xFFFFFFFF }
  | 0x64 => some { d := 15, a := 15, b := 15, c := 2, mod := 0xFFFFFFFF }
  | 0x65 => some { d := 15, c := 1, mod := 0xFFFFFFFF }
  | 0x66 => some { d := 15, a := 31, mod := 0x7F }
  | 0x67 => some { d := 31, a := 15, pred := true }
  | 0x68 => some { d := 15, a := 7, c := 6 }
  | 0x70 => some { d := 31, a := 15, pred := true, mod := 0x3800FFFF }
  | 0x71 => some { a := 31, b := 15, pred := true, mod := 0x3000FFFF }
  | 0x78 => some { a := 7 }
  | 0x79 => some { d := 7 }
  | 0x80 => some { d := 7, a := 31, b := 15, pred := true, mod := 0xFE00FFFF }
  | _ => none

/-- Formats, modes and registers that only some settings of an instruction allow (R219, R230). -/
def opBadForm (w : Nat) : Bool :=
  let op := fld w 56 8
  let a := fld w 46 5
  let b := fld w 41 5
  let f := fld w 28 4
  match op with
  | 0x0B => fld w 0 2 = 3
  | 0x10 => 9 ≤ f
  | 0x20 => 10 ≤ f || (bit w 25 && f = 9) || (!bit w 25 && 15 < a)
  | 0x21 => 9 ≤ f
  | 0x22 => 9 ≤ f || 9 ≤ fld w 24 4
  | 0x30 => 9 ≤ f || 5 ≤ fld w 25 3
  | 0x31 => 3 ≤ f || 5 ≤ fld w 25 3
  | 0x38 => 9 ≤ f || 9 ≤ fld w 24 4 || 5 ≤ fld w 21 3
  | 0x80 => 10 ≤ f || (fld w 26 2 ≤ 1 && bit w 25 != decide (f = 9)) || (bit w 25 && 15 < a)
  | _ => 0x40 ≤ op && op ≤ 0x47 && bit w 28 && decide (15 < b)

/-- The fault of one instruction of a kernel of `n` (R219, R239): 0 none, 3 BAD_OPCODE, 4 BAD_FIELD, 5 BAD_TARGET. -/
def instrFault (n w : Nat) : Nat :=
  match opSpec (fld w 56 8) with
  | none => 3
  | some o =>
    if o.d < fld w 51 5 ∨ o.a < fld w 46 5 ∨ o.b < fld w 41 5 ∨ o.c < fld w 36 5 ∨ (!o.pred && fld w 32 4 ≠ 0)
        ∨ fld w 0 32 &&& (o.mod ^^^ 0xFFFFFFFF) ≠ 0 ∨ opBadForm w then 4
    else if (fld w 56 8 = 0x0A ∧ n ≤ fld w 0 16) ∨ (fld w 56 8 = 0x0B ∧ n ≤ fld w 16 16) then 5
    else 0

/-- A kernel command completes (R218). -/
def State.kDone (s : State) (code idx : Nat) : State := (((s.wr SRG_KSTAT_busy 0).wr SRG_KSTAT_code code).wr SRG_KSTAT_index idx).irq 12 11

/-- The index is named by a context with an active convoy (R218). -/
def State.kBusy (s : State) (i : Nat) : Bool := (List.range 65536).any fun c => s.ctxActive c && s.ctxKernel c = i

/-- The first gap of `n` instruction slots in the kernel store. -/
def kernelGap (ks : List Kernel) (n : Nat) : Option Nat :=
  let cand := 0 :: ks.map fun k => k.base + k.code.length
  let ok := cand.filter fun b => b + n ≤ 131072 && ks.all fun k => decide (b + n ≤ k.base) || decide (k.base + k.code.length ≤ b)
  ok.foldl (fun m b => match m with | none => some b | some x => some (min x b)) none

/-- Show the kernel store. -/
def State.setKernels (s : State) (ks : List Kernel) : State :=
  let s := { s with ser := { s.ser with kernels := ks } }
  (s.wr SRG_KSTORE_free (131072 - (ks.map (·.code.length)).sum)).wr SRG_KSTORE_kernels ks.length

/-- Give a physical core its resident kernels (R220, R240). -/
def State.setImem (s : State) (p : Nat) (l : List Nat) : State :=
  let used := (l.map fun i => match s.kernel? i with | some k => k.code.length | none => 0).sum
  ((s.setCore p { s.core p with imem := l }).wr SRI_IMEM_free (8192 - used) p).wr SRI_IMEM_resident l.length p

/-- A kernel leaves the store and every instruction memory (R220). -/
def State.dropKernel (s : State) (i : Nat) : State :=
  let s := (List.range 68).foldl (fun s p => if (s.core p).imem.contains i then s.setImem p ((s.core p).imem.filter (· ≠ i)) else s) s
  s.setKernels (s.ser.kernels.filter fun k => k.idx ≠ i)

/-- LOAD (R217 to R219, R239, R450). -/
def State.kLoad (s : State) : State :=
  let i := s.rd SRG_KKEY_kernel
  let a := s.rd SRG_KLOAD_ADDR_addr * 64
  if s.kBusy i then s.kDone 8 0 else
  let h := s.readRes a 16
  let s := h.2
  let hb := bytesOf h.1
  let at_ := fun o n => leNat ((hb.drop o).take n)
  let n := at_ 8 4
  if h.1.any (·.2) then s.kDone 1 0
  else if at_ 0 4 ≠ 0x4B414D55 ∨ at_ 4 4 ≠ 1 ∨ n = 0 ∨ 8192 < n ∨ fld (at_ 0x14 4) 6 26 ≠ 0 ∨ at_ 0x1C 36 ≠ 0 then s.kDone 2 0 else
  let r := s.readRes a ((64 + 8 * n + 29792) / 4)
  let s := r.2
  let img := bytesOf r.1
  if r.1.any (·.2) ∨ !Config.slhDsaVerify 256 s.secu.kernelKey (img.take (64 + 8 * n)) (img.drop (64 + 8 * n)) then s.kDone 1 0
  else if at_ 0x18 4 < s.rd SEC_MIN_kernel_min then s.kDone 9 0 else
  let code := (List.range n).map fun j => leNat ((img.drop (64 + 8 * j)).take 8)
  match code.zipIdx.find? fun (w, _) => instrFault n w ≠ 0 with
  | some (w, j) => s.kDone (instrFault n w) j
  | none =>
    let k : Kernel := { idx := i, base := 0, onArrive := at_ 0x0C 2, onComplete := at_ 0x0E 2, onNorm := at_ 0x10 2, onEmit := at_ 0x12 2,
                        ops := fld (at_ 0x14 4) 0 6, ver := at_ 0x18 4, code := code, digest := shake256 img 32 }
    if n ≤ k.onArrive ∨ n ≤ k.onComplete ∨ n ≤ k.onEmit ∨ (n ≤ k.onNorm ∧ (k.onNorm ≠ 0xFFFF ∨ bit k.ops 5)) then s.kDone 6 0 else
    let rest := s.ser.kernels.filter fun x => x.idx ≠ i
    match kernelGap rest n with
    | none => s.kDone 7 0
    | some b =>
      if 256 ≤ rest.length then s.kDone 7 0
      else let s := s.dropKernel i; (s.setKernels (s.ser.kernels ++ [{ k with base := b }])).kDone 0 0

/-- LOAD (R218). -/
def execLoad (s : State) : Host.Outcome State Fault Refusal := hostWrite s 12 0x628 fun s => s.kLoad

/-- UNLOAD (R218, R220). -/
def State.kUnload (s : State) : State :=
  let i := s.rd SRG_KKEY_kernel
  if s.kBusy i then s.kDone 8 0 else (s.dropKernel i).kDone 0 0

/-- UNLOAD (R218). -/
def execUnload (s : State) : Host.Outcome State Fault Refusal := hostWrite s 12 0x628 fun s => s.kUnload

/-- INFO (R241). -/
def State.kInfo (s : State) : State :=
  let k := s.kernel? (s.rd SRG_KKEY_kernel)
  let g := fun (f : Kernel → Nat) => match k with | some k => f k | none => 0
  let s := (s.wr SRG_KINFO_loaded (g fun _ => 1)).wr SRG_KINFO_count (g fun k => k.code.length)
  ((s.wr SRG_KINFO_ops (g (·.ops))).wr SRG_KINFO_ver (g (·.ver))).kDone 0 0

/-- INFO (R241). -/
def execInfo (s : State) : Host.Outcome State Fault Refusal := hostWrite s 12 0x628 fun s => s.kInfo

/-! Invocations (R221, R222). -/

/-- The core is ACTIVE and runs no invocation: its logical core. -/
def State.idleCore (s : State) (p : Nat) : Option Nat :=
  if s.rd SRI_STATE_state p = 3 && (s.core p).inv.isNone && s.rd SRI_STATE_lcore_valid p = 1 then some (s.rd SRI_STATE_lcore p) else none

/-- Chunks waiting for ON_NORM on a logical core (R221). -/
def State.wantNorm (s : State) (l : Nat) : List Chunk :=
  s.ser.chunks.filter fun k => k.lcore = l && k.live && k.operation = 5 && k.phase = 2 && (match s.chunkNorm k with | some x => x.state = 3 | none => false)

/-- Chunks waiting for ON_EMIT. -/
def State.wantEmit (s : State) (l : Nat) (eqLen : Nat) : List Chunk :=
  s.ser.chunks.filter fun k => k.lcore = l && k.live && k.phase = 4 && decide (k.next < k.pieces) && !k.relP.any (·.p = k.next) && decide (eqLen < 32)

/-- Chunks waiting for ON_COMPLETE. -/
def State.wantComplete (s : State) (l : Nat) : List Chunk :=
  s.ser.chunks.filter fun k => k.lcore = l && k.state = 3 && k.phase = 0 && k.arriving = 0

/-- The chunk eligible first; of equals the lowest slot (R221). -/
def firstChunk (f : Chunk → Nat) (l : List Chunk) : Option Chunk :=
  l.foldl (fun b k => match b with
    | none => some k
    | some x => if f k < f x ∨ (f k = f x ∧ k.slot.getD 0 < x.slot.getD 0) then some k else some x) none

/-- The cycle at which ON_NORM of a chunk became eligible. -/
def State.normStamp (s : State) (k : Chunk) : Nat := match s.chunkNorm k with | some x => max k.stamp x.since | none => k.stamp

/-- Drop from the front until the sizes of the rest fit in `room`. -/
def dropToFit (size : Nat → Nat) (room : Nat) : List Nat → List Nat
  | [] => []
  | j :: l => if ((j :: l).map size).sum ≤ room then j :: l else dropToFit size room l

/-- The kernel is brought into instruction memory, least recently used kernels leaving (R220). -/
def State.residentFor (s : State) (p i : Nat) : State :=
  let size := fun j => match s.kernel? j with | some k => k.code.length | none => 0
  let im := (s.core p).imem
  if im.contains i then s.setImem p ((im.filter (· ≠ i)) ++ [i])
  else
    let keep := dropToFit size (8192 - size i) im
    (s.cnt SRI_IMEM_MISS_count p).setImem p (keep ++ [i])

/-- All lanes of a predicate. -/
def allOnes : Nat := 2 ^ 128 - 1

/-- Begin an invocation of a chunk (R222). -/
def State.invoke (s : State) (p : Nat) (k : Chunk) (entry piece fmt first count : Nat) (ent : Option AqEnt) : State :=
  match s.kernel? (s.ctxKernel k.ctx) with
  | none => s
  | some kn =>
    let s := (s.residentFor p kn.idx).cnt SRI_INVOKE_count p
    let pc := match entry with | 0 => kn.onArrive | 1 => kn.onComplete | 2 => kn.onNorm | _ => kn.onEmit
    let late := entry ≠ 0
    let xs : List Nat := [k.ctx, k.chunk, piece, match ent with | some e => e.member | none => 0, fmt ||| count <<< 8 ||| first <<< 28,
      if late then k.stm.status else 0, if late then k.stm.record % 2 ^ 64 else 0, if late then k.stm.record / 2 ^ 64 else 0, 0, 0, 0, 0] ++ k.persist
    let x : SMap Nat := xs.zipIdx.foldl (fun m (v, i) => m.set 0 i v) []
    let i : Inv := { ctx := k.ctx, chunk := k.chunk, gen := k.gen, entry := entry, pc := pc, kernel := kn.idx, start := s.cyc, id := s.ser.invs, arrive := ent,
                     piece := piece, fmt := fmt, first := first, count := count, x := x, k := [(0, allOnes)] }
    let s := { s with ser := { s.ser with invs := s.ser.invs + 1 } }
    s.setCore p { s.core p with inv := some i }

/-- Elements of result or contribution piece `q` and its first element. -/
def Chunk.span (k : Chunk) (f q : Nat) : Nat × Nat := if k.operation = 4 then (0, 0) else (q * pieceElems f, pieceCount f k.elems q)

/-- A start of an invocation; a core asleep wakes for it instead (R474). -/
def State.atRun (s : State) (p : Nat) (f : State → State) : State :=
  let t := f s
  if s.coreAsleep p then (if (t.core p).inv.isSome && (s.core p).inv.isNone then s.wakeCore p true else s) else t

/-- ON_ARRIVE: the entry at the head of AQ (R221); a stale one is discarded (R215). -/
def State.onArrive (s : State) (p : Nat) : State :=
  let s := s.sweepCore p
  match s.idleCore p with
  | none => s
  | some l =>
    if !((s.wantNorm l).isEmpty && (s.wantEmit l (s.core p).eq.length).isEmpty && (s.wantComplete l).isEmpty) then s else
    match (s.core p).aq with
    | [] => s
    | e :: r =>
      match s.liveChunk e.ctx e.chunk e.gen with
      | none => s
      | some k =>
        let s := s.setCore p { s.core p with aq := r }
        let k := if k.state = 1 then { k with state := 2 } else k
        let s := (s.setChunk k).checkComplete k.ctx k.chunk
        let sp := k.span e.fmt e.piece
        s.invoke p ((s.chunk? k.ctx k.chunk).getD k) 0 e.piece e.fmt sp.1 sp.2 (some e)

/-- ON_ARRIVE (R221). -/
def execOnArrive (core : Nat) (s : State) : Host.Outcome State Fault Refusal := act s (s.atRun (core % 68) fun s => s.onArrive (core % 68))

/-- ON_COMPLETE: the chunk enters FINALIZING (R221). -/
def State.onComplete (s : State) (p : Nat) : State :=
  match s.idleCore p with
  | none => s
  | some l =>
    if !((s.wantNorm l).isEmpty && (s.wantEmit l (s.core p).eq.length).isEmpty) then s else
    match firstChunk (·.stamp) (s.wantComplete l) with
    | none => s
    | some k =>
      let k : Chunk := { k with state := 4, phase := 1 }
      (s.setChunk k).invoke p k 1 0 k.fmt 0 (if k.operation = 4 then 0 else k.elems) none

/-- ON_COMPLETE (R221). -/
def execOnComplete (core : Nat) (s : State) : Host.Outcome State Fault Refusal := act s (s.atRun (core % 68) fun s => s.onComplete (core % 68))

/-- ON_NORM (R221). -/
def State.onNorm (s : State) (p : Nat) : State :=
  match s.idleCore p with
  | none => s
  | some l =>
    match firstChunk s.normStamp (s.wantNorm l) with
    | none => s
    | some k =>
      let k : Chunk := { k with phase := 3 }
      (s.setChunk k).invoke p k 2 0 k.fmt 0 k.elems none

/-- ON_NORM (R221). -/
def execOnNorm (core : Nat) (s : State) : Host.Outcome State Fault Refusal := act s (s.atRun (core % 68) fun s => s.onNorm (core % 68))

/-- ON_EMIT for the next result piece that was not released (R221); chunks that waited on a full EQ become eligible together. -/
def State.onEmit (s : State) (p : Nat) : State :=
  match s.idleCore p with
  | none => s
  | some l =>
    if !(s.wantNorm l).isEmpty then s else
    match firstChunk (fun k => max k.stamp (s.core p).eqFree) (s.wantEmit l (s.core p).eq.length) with
    | none => s
    | some k => let sp := k.span k.fmt k.next; s.invoke p k 3 k.next k.fmt sp.1 sp.2 none

/-- ON_EMIT (R221). -/
def execOnEmit (core : Nat) (s : State) : Host.Outcome State Fault Refusal := act s (s.atRun (core % 68) fun s => s.onEmit (core % 68))

/-! The end of an invocation. -/

/-- A kernel fault is recorded and the chunk poisoned (R225). -/
def State.kernelFault (s : State) (i : Inv) (code : Nat) : State :=
  let s := (((s.cnt SRG_KERR_count).wr SRG_KERR_LOC_code code).wr SRG_KERR_LOC_kernel i.kernel).wr SRG_KERR_LOC_pc i.pc
  let s := (((s.wr SRG_KERR_LOC_entry i.entry).wr SRG_KERR_LOC_ctx i.ctx).wr SRG_KERR_LOC_valid 1).wr SRG_KERR_CHUNK_chunk i.chunk
  let s := s.irq 12 10
  match s.liveChunk i.ctx i.chunk i.gen with
  | some k => s.poisonChunk k
  | none => s

/-- What follows the end of an invocation (R213, R221). -/
def State.invDone (s : State) (p : Nat) (i : Inv) : State :=
  let s := s.setCore p { s.core p with inv := none }
  match s.liveChunk i.ctx i.chunk i.gen with
  | none => s
  | some k =>
    match i.entry with
    | 0 =>
      let s := match i.arrive.bind (·.flight) with
        | some f => match s.flight f with | some x => s.dropFlight x | none => s
        | none => s
      s.setChunk { k with arriving := k.arriving - 1, stamp := s.cyc }
    | 1 => ((s.setChunk { k with phase := if k.operation = 5 then 2 else 4, stamp := s.cyc }).emitEnd i.ctx i.chunk)
    | 2 => ((s.setChunk { k with phase := 4, stamp := s.cyc }).emitEnd i.ctx i.chunk).feed i.ctx i.chunk 64
    | _ =>
      let q := (i.cur.getD { p := i.piece })
      let s := s.setCore p { s.core p with eq := (s.core p).eq ++ [{ ctx := i.ctx, chunk := i.chunk, gen := i.gen, piece := q }] }
      ((s.setChunk { k with next := k.next + 1, stamp := s.cyc }).emitEnd i.ctx i.chunk).feed i.ctx i.chunk 64

/-- A fault ends the invocation at the faulting instruction (R225). An ON_EMIT's piece goes out with what it holds; one that holds no staging buffer yet waits for one (R141). -/
def State.faultInv (s : State) (p : Nat) (i : Inv) (code : Nat) : State :=
  match s.liveChunk i.ctx i.chunk i.gen with
  | some k =>
    if i.entry = 3 ∧ i.cur.isNone then
      let r := s.claimStage k 1
      if r.1 then (r.2.kernelFault i code).invDone p i else r.2
    else (s.kernelFault i code).invDone p i
  | none => (s.kernelFault i code).invDone p i

/-- An invocation that has run max_cycles cycles ends with WATCHDOG (R225). -/
def State.watchdog (s : State) (p : Nat) : State :=
  match (s.core p).inv with
  | none => s
  | some i => if s.cyc < i.start + s.rd SRG_KCFG_max_cycles then s else s.faultInv p i 0x20

/-- WATCHDOG (R225). -/
def execWatchdog (core : Nat) (s : State) : Host.Outcome State Fault Refusal := act s (s.watchdog (core % 68))

/-! Fences and spares (R233 to R238). -/

/-- Physical cores in state SPARE that are not OFF, ascending (R474). -/
def State.spares (s : State) : List Nat := (List.range 68).filter fun p => s.rd SRI_STATE_state p = 2 && s.rd PAGE_PWR_state (0x80 + p) ≠ 3

/-- Show the number of spares. -/
def State.showSpares (s : State) : State := s.wr SRG_SPARES_count ((List.range 68).filter fun p => s.rd SRI_STATE_state p = 2).length

/-- A SPARE core takes a logical core (R235, R238). -/
def State.mapCore (s : State) (l p : Nat) : State :=
  let s := ((s.wr SRI_STATE_state 3 p).wr SRI_STATE_lcore l p).wr SRI_STATE_lcore_valid 1 p
  let s := if s.coreAsleep p then s.wakeCore p true else s
  ((s.wr SRG_REMAP_phys p 0 l).wr SRG_REMAP_valid 1 0 l).showSpares

/-- A fence of a physical core (R234, R235): steps 1 to 3 at once; the port reopens by CORE_PORT_REOPEN. -/
def State.fence (s : State) (p cause : Nat) : State :=
  let active := s.rd SRI_STATE_state p = 3
  let l := s.rd SRI_STATE_lcore p
  let s := ((s.wr SRI_STATE_state 4 p).wr SRI_STATE_lcore_valid 0 p).cnt SRG_FENCE_CNT_count
  let s := (((s.wr SRG_FENCE_LOC_phys p).wr SRG_FENCE_LOC_lcore (if active then l else 0)).wr SRG_FENCE_LOC_cause cause).wr SRG_FENCE_LOC_valid 1
  if !active then (s.wr SRG_FENCE_LOC_chunks 0).showSpares else
  let ks := s.ser.chunks.filter fun k => k.lcore = l && k.live
  let s := { s with ser := { s.ser with fencing := s.ser.fencing ++ [l] } }
  let s := ks.foldl (fun s k => s.abortOne k 4) s
  let s := { s with ser := { s.ser with chunks := s.ser.chunks.filter fun x => !ks.any fun k => k.ctx = x.ctx && k.chunk = x.chunk } }
  let s := (s.setCore p {}).setImem p []
  let s := s.wr SRG_FENCE_LOC_chunks ks.length
  match s.spares with
  | q :: _ => s.mapCore l q
  | [] => ((s.wr SRG_REMAP_valid 0 0 l).showSpares).irq 12 9

/-- A write of SRG_FENCE_CMD (R234). -/
def State.fenceCmd (s : State) (w : Wr) : State :=
  let s := s.w1c SRG_FENCE_CMD_refused w
  let p := w.ones 0 7
  if w.ones 8 1 = 0 then s
  else if 68 ≤ p ∨ !(s.rd SRI_STATE_state p = 2 || s.rd SRI_STATE_state p = 3) then s.wr SRG_FENCE_CMD_refused 1
  else s.fence p 4

/-- FENCE_CMD (R234). -/
def execFenceCmd (w : Wr) (s : State) : Host.Outcome State Fault Refusal := hostWrite s 12 0x608 fun s => s.fenceCmd w

/-- An invocation still running 1,024 cycles after its watchdog fault fences its core (R234). -/
def State.hang (s : State) (p : Nat) : State :=
  match (s.core p).inv with
  | none => s
  | some i => if s.rd SRI_STATE_state p ≠ 3 ∨ s.cyc < i.start + s.rd SRG_KCFG_max_cycles + 1024 then s else s.fence p 3

/-- HANG (R234). -/
def execHang (core : Nat) (s : State) : Host.Outcome State Fault Refusal := act s (s.hang (core % 68))

/-- An error in a core's private storage (R234): a correctable one is counted and raised, an uncorrectable one fences the core. -/
def State.coreEcc (s : State) (p : Nat) (ue : Bool) : State :=
  if !ue then (s.cnt SRI_ECC_CORR_count p).irq (0x80 + p) 1
  else if s.rd SRI_STATE_state p = 3 then s.fence p 2
  else s

/-- CORE_ECC_ERROR (R234). -/
def execCoreEccError (core : Nat) (ue : Bool) (s : State) : Host.Outcome State Fault Refusal := act s (s.coreEcc (core % 68) ue)

/-- The port of a fenced logical core reopens (R235). -/
def State.portReopen (s : State) (l : Nat) : State :=
  if !s.ser.fencing.contains l then s else
  ({ s with ser := { s.ser with fencing := s.ser.fencing.filter (· ≠ l) } }).irq 12 8

/-- CORE_PORT_REOPEN (R235). -/
def execCorePortReopen (l : Nat) (s : State) : Host.Outcome State Fault Refusal := act s (s.portReopen (l % 64))

/-- A write of SRI_CTRL (R238): `bist` sets, and stays until a self-test of the core ends (R11; DESIGN CHOICE, log entry 90). -/
def State.sriCtrl (s : State) (p : Nat) (w : Wr) : State :=
  let s := s.put SRI_CTRL_xmask w p
  let s := if w.ones 0 1 = 1 then s.wr SRI_CTRL_bist 1 p else s
  if w.ones 0 1 = 1 ∧ s.rd SRI_STATE_state p = 4 then s.wr SRI_STATE_state 1 p else s

/-- BIST (R238). -/
def execBist (core : Nat) (w : Wr) (s : State) : Host.Outcome State Fault Refusal :=
  hostWrite s (0x80 + core % 68) 0x100 fun s => s.sriCtrl (core % 68) w

/-- The logical cores no physical core holds, ascending. -/
def State.unmapped (s : State) : List Nat := (List.range 64).filter fun l => !s.flag SRG_REMAP_valid 0 l

/-- A self-test ends (R238): code 0 is a pass. One that finds a failure in an ACTIVE core fences it (R234). -/
def State.bistDone (s : State) (p code : Nat) : State :=
  if s.rd SRI_STATE_state p = 3 ∧ code ≠ 0 then (s.wr SRI_STATE_bist_code code p).fence p 1 else
  if s.rd SRI_STATE_state p ≠ 1 then s else
  let s := s.wr SRI_CTRL_bist 0 p
  let s := ((s.wr SRI_STATE_bist_code code p).wr SRI_STATE_state (if code = 0 then 2 else 5) p).showSpares
  let s := match s.unmapped, s.spares with
    | l :: _, q :: _ =>
      let s := s.mapCore l q
      { s with ser := { s.ser with fencing := s.ser.fencing.filter (· ≠ l) } }
    | _, _ => s
  s.irq (0x80 + p) 2

/-- BIST_DONE (R238). -/
def execBistDone (core code : Nat) (s : State) : Host.Outcome State Fault Refusal := act s (s.bistDone (core % 68) (code % 256))

end Sys2Proof.Machine
end

