-- ==== Sys2Proof/Machine/Umak.lean ====
section
/-! DEFINITION. The Umak instructions (R223 to R232, R246, R251, R257, R258). A command names the physical core; it acts when the instruction at the running invocation's index is of its opcode. -/

namespace Sys2Proof.Machine

/-- What one instruction does: a fault (R239), a stall, or the next state with the invocation's registers. -/
inductive UStep where
  | fault (code : Nat) (s : State)
  | stall (s : State)
  | go (s : State) (i : Inv)
deriving DecidableEq, Repr

/-- The instruction a core's invocation is at, if it is of opcode `op`. -/
def State.fetchU (s : State) (p op : Nat) : Option (Inv × Nat) :=
  if s.rd SRI_STATE_state p ≠ 3 then none else
  match (s.core p).inv with
  | none => none
  | some i =>
    match (s.kernel? i.kernel).bind fun k => k.code[i.pc]? with
    | some w => if fld w 56 8 = op then some (i, w) else none
    | none => none

/-- Run one instruction of opcode `op` on core `p` (R223, R225, R490). -/
def State.umak (s : State) (p op : Nat) (f : State → Inv → Nat → UStep) : State :=
  match s.fetchU p op with
  | none => s
  | some (i, w) =>
    match f s i w with
    | .stall s => s.event (0x80 + p) 0x11
    | .fault c s => (s.event (0x80 + p) 0x10).faultInv p i c
    | .go s i => (s.event (0x80 + p) 0x10).setCore p { (s.event (0x80 + p) 0x10).core p with inv := some i }

/-! Fields and registers (R211, R226, R229). -/

/-- d. -/
def uD (w : Nat) : Nat := fld w 51 5
/-- a. -/
def uA (w : Nat) : Nat := fld w 46 5
/-- b. -/
def uB (w : Nat) : Nat := fld w 41 5
/-- c. -/
def uC (w : Nat) : Nat := fld w 36 5
/-- imm, mod[15:0]. -/
def uImm (w : Nat) : Nat := fld w 0 16
/-- fmt, mod[31:28]. -/
def uFmt (w : Nat) : Nat := fld w 28 4

/-- The next instruction. -/
def Inv.next (i : Inv) : Inv := { i with pc := i.pc + 1 }

/-- A lane of V: its 32 bits and its poison tag. -/
def Inv.lane (i : Inv) (r l : Nat) : Nat × Bool := let v := i.v.getD 0 (r * 128 + l); (fld v 0 32, bit v 32)

/-- A scalar and its poison tag. -/
def Inv.sx (i : Inv) (r : Nat) : Nat × Bool := let v := i.x.getD 0 r; (fld v 0 64, bit v 64)

/-- Write a scalar. -/
def Inv.setX (i : Inv) (r v : Nat) (t : Bool) : Inv := { i with x := i.x.set 0 r (v % 2 ^ 64 + (if t then 2 ^ 64 else 0)) }

/-- A predicate. -/
def Inv.pk (i : Inv) (r : Nat) : Nat := i.k.getD 0 r

/-- Write a predicate. -/
def Inv.setK (i : Inv) (r v : Nat) : Inv := { i with k := i.k.set 0 r v }

/-- A kernel accumulator. -/
def Inv.kacc (i : Inv) (r : Nat) : KAcc := i.ka.getD {} r

/-- Write a kernel accumulator. -/
def Inv.setKa (i : Inv) (r : Nat) (a : KAcc) : Inv := { i with ka := i.ka.set {} r a }

/-- The active lanes (R227). -/
def Inv.active (i : Inv) (w : Nat) : List Nat := (List.range 128).filter fun l => !bit w 32 || bit (i.pk (fld w 33 3)) l

/-- Write lanes of a vector register: lane, value, tag. -/
def Inv.setV (i : Inv) (r : Nat) (ls : List (Nat × Nat × Bool)) : Inv :=
  { i with v := ls.foldl (fun m (l, v, t) => m.set 0 (r * 128 + l) (v % 2 ^ 32 + (if t then 2 ^ 32 else 0))) i.v }

/-- Write lanes of a predicate. -/
def Inv.setKLanes (i : Inv) (r : Nat) (ls : List (Nat × Bool)) : Inv :=
  i.setK r (ls.foldl (fun m (l, b) => setFld m l 1 (if b then 1 else 0)) (i.pk r))

/-- A 64-bit base plus imm plus the lane. -/
def elemIx (x imm l : Nat) : Nat := (x + imm + l) % 2 ^ 64

/-- The live chunk of an invocation. -/
def State.invChunk (s : State) (i : Inv) : Chunk := (s.liveChunk i.ctx i.chunk i.gen).getD { ctx := i.ctx, chunk := i.chunk, lcore := 0 }

/-! Control (R224, R230). -/

/-- NOP. -/
def uNop (s : State) (i : Inv) (_ : Nat) : UStep := .go s i.next

/-- NOP (R230). -/
def execNop (core : Nat) (s : State) : Host.Outcome State Fault Refusal := act s (s.umak (core % 68) 0x00 uNop)

/-- END (R222, R224): the persistent words are saved; an ON_EMIT that wrote nothing yet takes its staging buffer; an ON_COMPLETE of REDUCE_UPDATE without NRMS is a fault (R248). -/
def State.endU (s : State) (p : Nat) : State :=
  match s.fetchU p 0x08 with
  | none => s
  | some (i, _) =>
    match s.liveChunk i.ctx i.chunk i.gen with
    | none => s.invDone p i
    | some k =>
      let r := if i.entry = 3 ∧ i.cur.isNone then s.claimStage k 1 else (true, s)
      if !r.1 then r.2.event (0x80 + p) 0x11 else
      let s := r.2.event (0x80 + p) 0x10
      let k := (s.liveChunk i.ctx i.chunk i.gen).getD k
      let s := s.setChunk { k with persist := (List.range 4).map fun j => i.x.getD 0 (12 + j) }
      let s := if i.entry = 1 ∧ k.operation = 5 ∧ !i.normed then s.kernelFault i 0x23 else s
      s.invDone p i

/-- END (R224). -/
def execCmdEnd (core : Nat) (s : State) : Host.Outcome State Fault Refusal := act s (s.endU (core % 68))

/-- BAR: waits for the invocation's stores (R224). -/
def uBar (p : Nat) (s : State) (i : Inv) (_ : Nat) : UStep := if (s.core p).sq.any (·.inv = i.id) then .stall s else .go s i.next

/-- BAR (R224). -/
def execBar (core : Nat) (s : State) : Host.Outcome State Fault Refusal := act s (s.umak (core % 68) 0x09 (uBar (core % 68)))

/-- Conditions of BR and ICMP: EQ, NE, LT, GE signed, LTU, GEU, always. -/
def condOk (c bits a b : Nat) : Bool :=
  match c with
  | 0 => a = b
  | 1 => a ≠ b
  | 2 => decide (toSigned bits a < toSigned bits b)
  | 3 => decide (toSigned bits b ≤ toSigned bits a)
  | 4 => a < b
  | 5 => b ≤ a
  | _ => true

/-- BR; condition 6, always, uses neither operand. -/
def uBr (s : State) (i : Inv) (w : Nat) : UStep :=
  let a := i.sx (uA w)
  let b := i.sx (uB w)
  if uC w ≠ 6 && (a.2 || b.2) then .fault 0x25 s else .go s { i with pc := if condOk (uC w) 64 a.1 b.1 then uImm w else i.pc + 1 }

/-- BR (R230). -/
def execBr (core : Nat) (s : State) : Host.Outcome State Fault Refusal := act s (s.umak (core % 68) 0x0A uBr)

/-- BRK. -/
def uBrk (s : State) (i : Inv) (w : Nat) : UStep :=
  let k := i.pk (uA w)
  let t := match fld w 0 2 with | 0 => decide (k ≠ 0) | 1 => decide (k = 0) | _ => decide (k = allOnes)
  .go s { i with pc := if t then fld w 16 16 else i.pc + 1 }

/-- BRK (R230). -/
def execBrk (core : Nat) (s : State) : Host.Outcome State Fault Refusal := act s (s.umak (core % 68) 0x0B uBrk)

/-! Pieces and accumulation (R196 to R200, R228 to R230). -/

/-- The element of a held contribution (R213): container and poison, or none where it does not exist. -/
def Chunk.heldElem (k : Chunk) (e : Nat) : Option (Nat × Bool) :=
  match k.copies with
  | [] => none
  | c :: _ =>
    let pe := pieceElems c.fmt
    if k.elems ≤ e ∨ k.operation = 4 then none
    else (k.copies.find? fun x => x.piece = e / pe && x.member = c.member).map fun x => elemAt c.fmt x.pkt.payload x.pkt.poisonMap (e % pe)

/-- LDC. -/
def uLdc (s : State) (i : Inv) (w : Nat) : UStep :=
  let k := s.invChunk i
  let a := i.sx (uA w)
  let held := i.entry = 3 && !hasTally k.operation
  let f := if held then (match k.copies with | c :: _ => c.fmt | [] => uFmt w) else i.fmt
  if !(i.entry = 0 || held) then .fault 0x26 s
  else if uFmt w ≠ f then .fault 0x24 s
  else if a.2 then .fault 0x25 s
  else
    let ls := (i.active w).map fun l =>
      let e := elemIx a.1 (uImm w) l
      (l, if held then k.heldElem e
        else if e < i.count then i.arrive.map fun t => elemAt f t.pkt.payload t.pkt.poisonMap e else none)
    let i' := i.setV (uD w) (ls.map fun (l, o) => match o with
      | none => (l, 0, false)
      | some (v, psn) => (l, if psn then 0 else v, psn))
    let i' := i'.setKLanes (uC w) (ls.map fun (l, o) => (l, match o with | some (_, psn) => !psn | none => false))
    .go s i'.next

/-- LDC (R230). -/
def execLdc (core : Nat) (s : State) : Host.Outcome State Fault Refusal := act s (s.umak (core % 68) 0x10 uLdc)

/-- Errors met in tally storage (R405, R410): `ce` corrected words; an uncorrectable one, given as element, granule and word, sets PSN of its accumulator. -/
def State.tallyErrs (s : State) (k : Chunk) (ue : List (Nat × Nat × Nat)) (ce : Nat) : State :=
  let s := if ce = 0 then s else s.cnt TLY_CE_count 0 0 0 ce
  ue.foldl (fun s (e, g, wd) =>
    match s.chunk? k.ctx k.chunk with
    | none => s
    | some k =>
      if k.elems ≤ e ∨ k.granules = 0 then s else
      let s := s.setChunk { k with acc := k.acc.set {} e ((k.acc.getD {} e).mark aPSN 0) }
      let s := (((s.cnt TLY_UE_count).wr TLY_LOC_lcore k.lcore).wr TLY_LOC_granule g).wr TLY_LOC_index (e % 1024)
      ((s.wr TLY_LOC_word wd).wr TLY_LOC_valid 1).irq 13 0) s

/-- Add a value into a tally element, with its status in the chunk's stream. -/
def Chunk.addAt (k : Chunk) (op e : Nat) (v : Num) (psn : Bool) : Chunk :=
  let r := (k.acc.getD {} e).add op v psn
  { k with acc := k.acc.set {} e r.1, stm := if r.2 = 0 then k.stm else k.stm.note r.2 e }

/-- The operator of ACX and ACXK: mod[27:26], 3 the context's. -/
def accOp (k : Chunk) (w : Nat) : Nat := if fld w 26 2 = 3 then k.op else fld w 26 2

/-- ACX. -/
def uAcx (ue : List (Nat × Nat × Nat)) (ce : Nat) (s : State) (i : Inv) (w : Nat) : UStep :=
  let src := bit w 25
  let x := i.sx (if src then uB w else uA w)
  let f := uFmt w
  if i.entry ≠ 0 then .fault 0x26 s
  else if !hasTally (s.invChunk i).operation then .fault 0x27 s
  else if !src ∧ f ≠ i.fmt then .fault 0x24 s
  else if x.2 then .fault 0x25 s
  else if src ∧ (i.active w).any (fun l => i.count ≤ elemIx x.1 (uImm w) l) then .fault 0x22 s
  else
    let s := s.tallyErrs (s.invChunk i) ue ce
    let k := s.invChunk i
    let op := accOp k w
    let k := (i.active w).foldl (fun k l =>
      let e := elemIx x.1 (uImm w) l
      if src then let v := i.lane (uA w) l; k.addAt op e (decodeNum f v.1) v.2
      else if e < i.count then
        match i.arrive with
        | some t => let v := elemAt f t.pkt.payload t.pkt.poisonMap e; k.addAt op (i.first + e) (decodeAny f v.1) v.2
        | none => k
      else k) k
    .go (s.setChunk k) i.next

/-- ACX (R230). -/
def execAcx (core : Nat) (ue : List (Nat × Nat × Nat)) (ce : Nat) (s : State) : Host.Outcome State Fault Refusal :=
  act s (s.umak (core % 68) 0x20 (uAcx ue ce))

/-- ACXK. -/
def uAcxk (s : State) (i : Inv) (w : Nat) : UStep :=
  let x := i.sx (uC w)
  if x.2 then .fault 0x25 s else
  let op := accOp (s.invChunk i) w
  let a := (i.active w).foldl (fun (a : KAcc) l =>
    let v := i.lane (uA w) l
    let r := a.acc.add op (decodeNum (uFmt w) v.1) v.2
    { acc := r.1, stm := if r.2 = 0 then a.stm else a.stm.note r.2 (elemIx x.1 (uImm w) l) }) (i.kacc (uD w))
  .go s (i.setKa (uD w) a).next

/-- ACXK (R230). -/
def execAcxk (core : Nat) (s : State) : Host.Outcome State Fault Refusal := act s (s.umak (core % 68) 0x21 uAcxk)

/-- ACXP. -/
def uAcxp (s : State) (i : Inv) (w : Nat) : UStep :=
  let x := i.sx (uC w)
  if x.2 then .fault 0x25 s else
  let a := (i.active w).foldl (fun (a : KAcc) l =>
    let u := i.lane (uA w) l
    let v := i.lane (uB w) l
    let r := a.acc.addProd (decodeNum (fld w 28 4) u.1) (decodeNum (fld w 24 4) v.1) (u.2 || v.2)
    { acc := r.1, stm := if r.2 = 0 then a.stm else a.stm.note r.2 (elemIx x.1 (uImm w) l) }) (i.kacc (uD w))
  .go s (i.setKa (uD w) a).next

/-- ACXP (R200). -/
def execAcxp (core : Nat) (s : State) : Host.Outcome State Fault Refusal := act s (s.umak (core % 68) 0x22 uAcxp)

/-- KCLR. -/
def uKclr (s : State) (i : Inv) (w : Nat) : UStep := .go s (i.setKa (uD w) {}).next

/-- KCLR (R230). -/
def execKclr (core : Nat) (s : State) : Host.Outcome State Fault Refusal := act s (s.umak (core % 68) 0x23 uKclr)

/-- KADD. -/
def uKadd (s : State) (i : Inv) (w : Nat) : UStep :=
  let d := i.kacc (uD w)
  let a := i.kacc (uA w)
  .go s (i.setKa (uD w) { acc := d.acc.join a.acc, stm := d.stm.join a.stm }).next

/-- KADD (R230). -/
def execKadd (core : Nat) (s : State) : Host.Outcome State Fault Refusal := act s (s.umak (core % 68) 0x24 uKadd)

/-! Reads (R203 to R207, R229). -/

/-- A seed is used, and its tag with it, only by DSR (R203, R229). -/
def seedTag (rnd : Nat) (sd : Nat × Bool) : Bool := rnd = 4 && sd.2

/-- Note the status of read lanes in a stream: element and status bits. -/
def Stm.notes (t : Stm) (l : List (Nat × Nat)) : Stm := l.foldl (fun t (e, st) => if st = 0 then t else t.note st e) t

/-- RDX. -/
def uRdx (ue : List (Nat × Nat × Nat)) (ce : Nat) (s : State) (i : Inv) (w : Nat) : UStep :=
  let k := s.invChunk i
  let x := i.sx (uB w)
  let sd := i.sx (uC w)
  let f := uFmt w
  let act := i.active w
  if i.entry = 0 then .fault 0x26 s
  else if !hasTally k.operation then .fault 0x27 s
  else if x.2 then .fault 0x25 s
  else if isMx f ∧ (x.1 + uImm w) % 32 ≠ 0 then .fault 0x21 s
  else if act.any (fun l => k.elems ≤ elemIx x.1 (uImm w) l) then .fault 0x22 s
  else
    let s := s.tallyErrs k ue ce
    let k := s.invChunk i
    let accs := (List.range 128).map fun l => if act.contains l then k.acc.getD {} (elemIx x.1 (uImm w) l) else {}
    let out := readLanes f (accs.map (·.resolve)) (fld w 25 3) (bit w 24)
      ((List.range 128).map fun l => dsr k.ctx k.chunk (elemIx x.1 (uImm w) l) sd.1)
    let i' := i.setV (uD w) (act.map fun l => (l, (out.getD l (0, 0)).1, seedTag (fld w 25 3) sd || (accs.getD l {}).has aPSN))
    let k := { k with stm := k.stm.notes (act.map fun l => (elemIx x.1 (uImm w) l, (out.getD l (0, 0)).2)) }
    .go (s.setChunk k) i'.next

/-- RDX (R203). -/
def execRdx (core : Nat) (ue : List (Nat × Nat × Nat)) (ce : Nat) (s : State) : Host.Outcome State Fault Refusal :=
  act s (s.umak (core % 68) 0x30 (uRdx ue ce))

/-- RDXK. -/
def uRdxk (s : State) (i : Inv) (w : Nat) : UStep :=
  let a := i.kacc (uA w)
  let sd := i.sx (uC w)
  let o := (readLanes (uFmt w) [a.acc.resolve] (fld w 25 3) (bit w 24) [dsr i.ctx i.chunk (uImm w) sd.1]).getD 0 (0, 0)
  let i' := i.setV (uD w) ((i.active w).map fun l => (l, o.1, seedTag (fld w 25 3) sd || a.acc.has aPSN))
  .go s (i'.setKa (uA w) { a with stm := if o.2 = 0 then a.stm else a.stm.note o.2 (uImm w) }).next

/-- RDXK (R203). -/
def execRdxk (core : Nat) (s : State) : Host.Outcome State Fault Refusal := act s (s.umak (core % 68) 0x31 uRdxk)

/-- CVT. -/
def uCvt (s : State) (i : Inv) (w : Nat) : UStep :=
  let k := s.invChunk i
  let x := i.sx (uB w)
  let sd := i.sx (uC w)
  let fin := fld w 28 4
  let fo := fld w 24 4
  let act := i.active w
  if x.2 then .fault 0x25 s
  else if (isMx fin || isMx fo) ∧ (x.1 + uImm w) % 32 ≠ 0 then .fault 0x21 s
  else
    let accs := (List.range 128).map fun l =>
      if !act.contains l then ({} : Accum) else
      let v := i.lane (uA w) l
      if v.2 then ({} : Accum).mark aPSN 0 else Accum.ofNum (decodeNum fin v.1)
    let out := readLanes fo (accs.map (·.resolve)) (fld w 21 3) (bit w 20)
      ((List.range 128).map fun l => dsr i.ctx i.chunk (elemIx x.1 (uImm w) l) sd.1)
    let i' := i.setV (uD w) (act.map fun l => (l, (out.getD l (0, 0)).1, seedTag (fld w 21 3) sd || (i.lane (uA w) l).2))
    .go (s.setChunk { k with stm := k.stm.notes (act.map fun l => (elemIx x.1 (uImm w) l, (out.getD l (0, 0)).2)) }) i'.next

/-- CVT (R203). -/
def execCvt (core : Nat) (s : State) : Host.Outcome State Fault Refusal := act s (s.umak (core % 68) 0x38 uCvt)

/-! FP32 (R231, R232). -/

/-- An operand negated by its bit of mod. -/
def negIf (b : Bool) (v : Nat) : Nat := if b then v ^^^ 0x80000000 else v

/-- A lane operation on FP32 containers a, b, c with its flags; `n` operands are used. -/
def uFp (n : Nat) (f : Nat → Nat → Nat → Nat → Nat × Nat) (s : State) (i : Inv) (w : Nat) : UStep :=
  let rnd := fld w 26 2
  let r := (i.active w).foldl (fun (ls, fl) l =>
    let a := i.lane (uA w) l
    let b := if bit w 28 then (let x := i.sx (uB w); (x.1 % 2 ^ 32, x.2)) else i.lane (uB w) l
    let c := i.lane (uC w) l
    let o := f (negIf (bit w 31) a.1) (negIf (bit w 30) b.1) (negIf (bit w 29) c.1) rnd
    (ls ++ [(l, o.1, a.2 || (decide (2 ≤ n) && b.2) || (decide (3 ≤ n) && c.2))], fl ||| o.2)) (([] : List (Nat × Nat × Bool)), i.fps)
  .go s ({ (i.setV (uD w) r.1) with fps := r.2 }).next

/-- FADD (R231). -/
def execFadd (core : Nat) (s : State) : Host.Outcome State Fault Refusal := act s (s.umak (core % 68) 0x40 (uFp 2 fun a b _ r => fAdd a b r))
/-- FMUL (R231). -/
def execFmul (core : Nat) (s : State) : Host.Outcome State Fault Refusal := act s (s.umak (core % 68) 0x41 (uFp 2 fun a b _ r => fMul a b r))
/-- FMA (R231). -/
def execFma (core : Nat) (s : State) : Host.Outcome State Fault Refusal := act s (s.umak (core % 68) 0x42 (uFp 3 fFma))
/-- FMIN (R231). -/
def execFmin (core : Nat) (s : State) : Host.Outcome State Fault Refusal := act s (s.umak (core % 68) 0x43 (uFp 2 fun a b _ _ => fExt true a b))
/-- FMAX (R231). -/
def execFmax (core : Nat) (s : State) : Host.Outcome State Fault Refusal := act s (s.umak (core % 68) 0x44 (uFp 2 fun a b _ _ => fExt false a b))
/-- DIV (R231). -/
def execDiv (core : Nat) (s : State) : Host.Outcome State Fault Refusal := act s (s.umak (core % 68) 0x45 (uFp 2 fun a b _ r => fDiv a b r))
/-- SQRT (R231). -/
def execSqrt (core : Nat) (s : State) : Host.Outcome State Fault Refusal := act s (s.umak (core % 68) 0x46 (uFp 1 fun a _ _ r => fSqrt a r))
/-- RSQ (R232). -/
def execRsq (core : Nat) (s : State) : Host.Outcome State Fault Refusal := act s (s.umak (core % 68) 0x47 (uFp 1 fun a _ _ r => fRsq a r))

/-! Integers (R230). -/

/-- mod[30:0] sign-extended to `n` bits. -/
def ibValue (w n : Nat) : Nat := ofSigned n (toSigned 31 (fld w 0 31))

/-- AND, OR, XOR, ANDN on `n` bits. -/
def logicF (c n a b : Nat) : Nat :=
  match c with
  | 0 => a &&& b
  | 1 => a ||| b
  | 2 => a ^^^ b
  | _ => a &&& (b ^^^ (2 ^ n - 1))

/-- SHL, SHR, SAR on `n` bits, by b mod n. -/
def shiftF (c n a b : Nat) : Nat :=
  let k := b % n
  match c with
  | 0 => (a <<< k) % 2 ^ n
  | 1 => a >>> k
  | _ => ofSigned n (toSigned n a >>> k)

/-- A lane operation on integers. -/
def uInt (f : Nat → Nat → Nat → Nat) (s : State) (i : Inv) (w : Nat) : UStep :=
  .go s (i.setV (uD w) ((i.active w).map fun l =>
    let a := i.lane (uA w) l
    let b := if bit w 31 then (ibValue w 32, false) else i.lane (uB w) l
    (l, f (uC w) a.1 b.1 % 2 ^ 32, a.2 || b.2))).next

/-- IADD (R230). -/
def execIadd (core : Nat) (s : State) : Host.Outcome State Fault Refusal := act s (s.umak (core % 68) 0x50 (uInt fun _ a b => a + b))
/-- ISUB (R230). -/
def execIsub (core : Nat) (s : State) : Host.Outcome State Fault Refusal := act s (s.umak (core % 68) 0x51 (uInt fun _ a b => a + 2 ^ 32 - b))
/-- IMUL (R230). -/
def execImul (core : Nat) (s : State) : Host.Outcome State Fault Refusal := act s (s.umak (core % 68) 0x52 (uInt fun _ a b => a * b))
/-- ILOG (R230). -/
def execIlog (core : Nat) (s : State) : Host.Outcome State Fault Refusal := act s (s.umak (core % 68) 0x53 (uInt fun c a b => logicF c 32 a b))
/-- ISH (R230). -/
def execIsh (core : Nat) (s : State) : Host.Outcome State Fault Refusal := act s (s.umak (core % 68) 0x54 (uInt fun c a b => shiftF c 32 a b))

/-- IMOVI. -/
def uImovi (s : State) (i : Inv) (w : Nat) : UStep := .go s (i.setV (uD w) ((i.active w).map fun l => (l, fld w 0 32, false))).next

/-- IMOVI (R230). -/
def execImovi (core : Nat) (s : State) : Host.Outcome State Fault Refusal := act s (s.umak (core % 68) 0x55 uImovi)

/-- LANE. -/
def uLane (s : State) (i : Inv) (w : Nat) : UStep :=
  let x := i.sx (uA w)
  .go s (i.setV (uD w) ((i.active w).map fun l => (l, (x.1 + l) % 2 ^ 32, x.2))).next

/-- LANE (R230). -/
def execLane (core : Nat) (s : State) : Host.Outcome State Fault Refusal := act s (s.umak (core % 68) 0x56 uLane)

/-- SEL. -/
def uSel (s : State) (i : Inv) (w : Nat) : UStep :=
  .go s (i.setV (uD w) ((i.active w).map fun l => (l, if bit (i.pk (uC w)) l then i.lane (uA w) l else i.lane (uB w) l))).next

/-- SEL (R230). -/
def execSel (core : Nat) (s : State) : Host.Outcome State Fault Refusal := act s (s.umak (core % 68) 0x57 uSel)

/-- A comparison of lanes into a predicate: a poisoned lane gives 0 and sets PSN in the chunk's status (R229); the element its record takes is not stated (log entry 1). -/
def uCmp (f : Nat → Nat → Bool) (ib : Bool) (s : State) (i : Inv) (w : Nat) : UStep :=
  let ls := (i.active w).map fun l =>
    let a := i.lane (uA w) l
    let b := if ib && bit w 31 then (ibValue w 32, false) else i.lane (uB w) l
    (l, a.2 || b.2, f a.1 b.1)
  let i' := i.setKLanes (uD w) (ls.map fun (l, t, v) => (l, !t && v))
  if ls.any (fun x => x.2.1) then
    let r := s.takeFree 7
    let k := r.2.invChunk i
    .go (r.2.setChunk { k with stm := k.stm.note sPSN (r.1 % 65536) }) i'.next
  else .go s i'.next

/-- ICMP. -/
def uIcmp (s : State) (i : Inv) (w : Nat) : UStep := uCmp (condOk (uC w) 32) true s i w

/-- ICMP (R230). -/
def execIcmp (core : Nat) (s : State) : Host.Outcome State Fault Refusal := act s (s.umak (core % 68) 0x58 uIcmp)

/-- FP32 conditions: EQ, NE, LT, GE, LE, GT, unordered, ordered. -/
def fcond (c a b : Nat) : Bool :=
  if isNaN32 a || isNaN32 b then c = 1 || c = 6 else
  let val := fun (x : Num) => match x with | .fin n m => ((0 : Int), signed n m) | .inf n => (if n then -1 else 1, 0) | .nan => (0, 0)
  let x := val (f32 a)
  let y := val (f32 b)
  let lt := keyLt x y
  let gt := keyLt y x
  match c with
  | 0 => !lt && !gt
  | 1 => lt || gt
  | 2 => lt
  | 3 => !lt
  | 4 => !gt
  | 5 => gt
  | 6 => false
  | _ => true

/-- FCMP. -/
def uFcmp (s : State) (i : Inv) (w : Nat) : UStep := uCmp (fcond (uC w)) false s i w

/-- FCMP (R230). -/
def execFcmp (core : Nat) (s : State) : Host.Outcome State Fault Refusal := act s (s.umak (core % 68) 0x59 uFcmp)

/-- KOP. -/
def uKop (s : State) (i : Inv) (w : Nat) : UStep :=
  let a := i.pk (uA w)
  let b := i.pk (uB w)
  .go s (i.setK (uD w) (match uC w with
    | 4 => a ^^^ allOnes
    | 5 => allOnes
    | 6 => 0
    | c => logicF c 128 a b)).next

/-- KOP (R230). -/
def execKop (core : Nat) (s : State) : Host.Outcome State Fault Refusal := act s (s.umak (core % 68) 0x5A uKop)

/-! Scalars (R230). -/

/-- A scalar operation. -/
def uScalar (f : Nat → Nat → Nat → Nat) (s : State) (i : Inv) (w : Nat) : UStep :=
  let a := i.sx (uA w)
  let b := if bit w 31 then (ibValue w 64, false) else i.sx (uB w)
  .go s (i.setX (uD w) (f (uC w) a.1 b.1) (a.2 || b.2)).next

/-- XADD (R230). -/
def execXadd (core : Nat) (s : State) : Host.Outcome State Fault Refusal := act s (s.umak (core % 68) 0x60 (uScalar fun _ a b => a + b))
/-- XSUB (R230). -/
def execXsub (core : Nat) (s : State) : Host.Outcome State Fault Refusal := act s (s.umak (core % 68) 0x61 (uScalar fun _ a b => a + 2 ^ 64 - b))
/-- XMUL (R230). -/
def execXmul (core : Nat) (s : State) : Host.Outcome State Fault Refusal := act s (s.umak (core % 68) 0x62 (uScalar fun _ a b => a * b))
/-- XLOG (R230). -/
def execXlog (core : Nat) (s : State) : Host.Outcome State Fault Refusal := act s (s.umak (core % 68) 0x63 (uScalar fun c a b => logicF c 64 a b))
/-- XSH (R230). -/
def execXsh (core : Nat) (s : State) : Host.Outcome State Fault Refusal := act s (s.umak (core % 68) 0x64 (uScalar fun c a b => shiftF c 64 a b))

/-- XMOVI: hi 0 loads the sign-extended immediate, hi 1 replaces the upper half. -/
def uXmovi (s : State) (i : Inv) (w : Nat) : UStep :=
  let d := i.sx (uD w)
  if uC w = 0 then .go s (i.setX (uD w) (ofSigned 64 (toSigned 32 (fld w 0 32))) false).next
  else .go s (i.setX (uD w) (setFld d.1 32 32 (fld w 0 32)) d.2).next

/-- XMOVI (R230). -/
def execXmovi (core : Nat) (s : State) : Host.Outcome State Fault Refusal := act s (s.umak (core % 68) 0x65 uXmovi)

/-- XGET. -/
def uXget (s : State) (i : Inv) (w : Nat) : UStep := let v := i.lane (uA w) (fld w 0 7); .go s (i.setX (uD w) v.1 v.2).next

/-- XGET (R230). -/
def execXget (core : Nat) (s : State) : Host.Outcome State Fault Refusal := act s (s.umak (core % 68) 0x66 uXget)

/-- XPUT. -/
def uXput (s : State) (i : Inv) (w : Nat) : UStep :=
  let x := i.sx (uA w)
  .go s (i.setV (uD w) ((i.active w).map fun l => (l, x.1 % 2 ^ 32, x.2))).next

/-- XPUT (R230). -/
def execXput (core : Nat) (s : State) : Host.Outcome State Fault Refusal := act s (s.umak (core % 68) 0x67 uXput)

/-- XSTS. -/
def uXsts (s : State) (i : Inv) (w : Nat) : UStep :=
  let k := (i.kacc (uA w)).stm
  let c := (s.invChunk i).stm
  let v := match uC w with
    | 0 => i.fps
    | 1 => k.status
    | 2 => k.record % 2 ^ 64
    | 3 => k.record / 2 ^ 64
    | 4 => c.status
    | 5 => c.record % 2 ^ 64
    | _ => c.record / 2 ^ 64
  let i' : Inv := if uC w = 0 then { i with fps := 0 } else i
  .go s (i'.setX (uD w) v false).next

/-- XSTS (R230). -/
def execXsts (core : Nat) (s : State) : Host.Outcome State Fault Refusal := act s (s.umak (core % 68) 0x68 uXsts)

/-! The ledger (R245, R246). -/

/-- The ledger word of an element: parameter and address in bank `k`, or none where it is out of range. -/
def State.ldgElem (s : State) (c : Chunk) (bank f e : Nat) : Option (Nat × Nat) :=
  let p := c.chunk * c.elems + e
  if c.elems ≤ e ∨ s.rd LDG_PCOUNT_param_count 0 c.ledger ≤ p ∨ !ldgHas (s.rd LDG_CFG_layout 0 c.ledger) f then none
  else some (p, s.ldgAddr c.ledger bank p f)

/-- The word of an address in a core's fetched lines. -/
def lineWord (ls : List LdgLine) (c : Chunk) (bank a : Nat) : Option (Nat × Bool) :=
  (ls.find? fun x => x.ctx = c.ctx && x.chunk = c.chunk && x.gen = c.gen && x.ledger = c.ledger && x.bank = bank && decide (x.addr ≤ a) && decide (a < x.addr + 4 * x.n)).map
    fun x => x.words.getD ((a - x.addr) / 4) (0, false)

/-- The line that holds the word of a parameter: first byte and words. -/
def State.lineOf (s : State) (n bank p f : Nat) : Nat × Nat :=
  (s.ldgAddr n bank (p / 1024 * 1024) f, min 1024 (s.rd LDG_PCOUNT_param_count 0 n - p / 1024 * 1024))

/-- Demand the lines an LDL lacks, ahead of every prefetch; a line of the inactive bank is read as the LDL issues (R214, R246). -/
def State.demand (s : State) (p : Nat) (c : Chunk) (bank : Nat) (live : Bool) (need : List (Nat × Nat)) : State :=
  need.eraseDups.foldl (fun s (a, n) =>
    let x := s.core p
    let same := fun (y : LdgLine) => y.ctx = c.ctx && y.chunk = c.chunk && y.gen = c.gen && y.bank = bank && y.addr = a
    if x.reqs.any (fun y => same y && y.want) then s else
    let r := if live then ([], s) else s.readWords (a / 4) n 0
    let l : LdgLine := { ctx := c.ctx, chunk := c.chunk, gen := c.gen, ledger := c.ledger, bank := bank, addr := a, n := n, want := true, words := r.1 }
    let rs := x.reqs.filter fun y => !same y
    r.2.setCore p { r.2.core p with reqs := rs.filter (·.want) ++ [l] ++ rs.filter fun y => !y.want }) s

/-- LDL. -/
def uLdl (p : Nat) (s : State) (i : Inv) (w : Nat) : UStep :=
  let c := s.invChunk i
  let n := c.ledger
  let f := fld w 28 2
  let b := fld w 27 1
  let x := i.sx (uA w)
  let ls := i.active w
  if c.operation ≠ 5 then .fault 0x23 s
  else if f = 3 ∧ b = 1 then
    .go s (i.setV (uD w) (ls.map fun l => (l, if l % 16 = 15 then s.ldgStep n % 2 ^ 32 else s.rd LDG_PARAM_CUR_word 0 n (l % 16), false))).next
  else if x.2 then .fault 0x25 s
  else
    let bank := if b = 0 then s.ldgActive n else 1 - s.ldgActive n
    let es := ls.map fun l => (l, s.ldgElem c bank f (elemIx x.1 (uImm w) l))
    if es.any (fun y => y.2.isNone) then .fault 0x22 s else
    let ws := es.filterMap fun (l, o) => o.map fun (q, a) => (l, q, lineWord (s.core p).lines c bank a)
    let miss := ws.filterMap fun (_, q, o) => if o.isNone then some (s.lineOf n bank q f) else none
    if miss ≠ [] then .stall (s.demand p c bank (b = 0) miss) else
    let bad := (ws.filter fun (_, _, o) => match o with | some (_, t) => t | none => false).length
    let s := if bad = 0 then s else (s.cnt LDG_POISON_READ_count 0 0 0 bad).irq 14 5
    let core := s.core p
    let s := if b = 0 then s else s.setCore p { core with lines := core.lines.filter fun y => !(y.ctx = c.ctx && y.chunk = c.chunk && y.bank = bank && y.ledger = n) }
    .go s (i.setV (uD w) (ws.map fun (l, _, o) => match o with
      | some (v, t) => (l, if t then 0x7FC00000 else v, t)
      | none => (l, 0, false))).next

/-- LDL (R246). -/
def execLdl (core : Nat) (s : State) : Host.Outcome State Fault Refusal := act s (s.umak (core % 68) 0x70 (uLdl (core % 68)))

/-- STL: through SQ into the inactive bank. -/
def uStl (p : Nat) (s : State) (i : Inv) (w : Nat) : UStep :=
  let c := s.invChunk i
  let f := fld w 28 2
  let x := i.sx (uB w)
  if c.operation ≠ 5 then .fault 0x23 s
  else if x.2 then .fault 0x25 s
  else
    let es := (i.active w).map fun l => (l, s.ldgElem c (1 - s.ldgActive c.ledger) f (elemIx x.1 (uImm w) l))
    if es.any (fun y => y.2.isNone) then .fault 0x22 s
    else if 32 ≤ (s.core p).sq.length then .stall s
    else
      let ws := es.filterMap fun (l, o) => o.map fun (_, a) => let v := i.lane (uA w) l; (a, v.1, v.2)
      let e : SqEnt := { ctx := c.ctx, chunk := c.chunk, gen := c.gen, inv := i.id, ledger := c.ledger, words := ws }
      .go (s.setCore p { s.core p with sq := (s.core p).sq ++ [e] }) i.next

/-- STL (R246). -/
def execStl (core : Nat) (s : State) : Host.Outcome State Fault Refusal := act s (s.umak (core % 68) 0x71 (uStl (core % 68)))

/-- NRMS. -/
def uNrms (s : State) (i : Inv) (w : Nat) : UStep :=
  let c := s.invChunk i
  if i.entry ≠ 1 then .fault 0x26 s
  else if c.operation ≠ 5 then .fault 0x23 s
  else .go ((s.setChunk { c with nrms := some (i.kacc (uA w)).acc }).normAdd c (i.kacc (uA w)).acc) ({ i with normed := true }).next

/-- NRMS (R251): its NORM fault may end the invocation with the chunk. -/
def State.nrmsU (s : State) (p : Nat) : State :=
  let t := s.umak p 0x78 uNrms
  t.sweepCore p

/-- NRMS (R251). -/
def execNrms (core : Nat) (s : State) : Host.Outcome State Fault Refusal := act s (s.nrmsU (core % 68))

/-- NRMW. -/
def uNrmw (s : State) (i : Inv) (w : Nat) : UStep :=
  if i.entry ≠ 2 then .fault 0x26 s else
  let t := match s.chunkNorm (s.invChunk i) with | some x => x.total | none => {}
  .go s (i.setKa (uD w) { acc := t }).next

/-- NRMW (R230). -/
def execNrmw (core : Nat) (s : State) : Host.Outcome State Fault Refusal := act s (s.umak (core % 68) 0x79 uNrmw)

/-! EMIT (R228 to R230, R257, R258). -/

/-- Bits of poison_map of the segments that bytes [a, a + n) touch. -/
def segBits (a n : Nat) : Nat := if n = 0 then 0 else ofBits ((List.range ((a + n - 1) / 256 - a / 256 + 1)).map (a / 256 + ·))

/-- Write one container at element `e` of a piece. -/
def Piece.write (q : Piece) (f e v : Nat) (t : Bool) : Piece :=
  let w := fmtBits f
  let pm := if !t then 0 else if isMx f then
      let base := e / 32 * blockBytes f
      let lo := w * (e % 32)
      segBits (base + 1 + lo / 8) ((lo + w - 1) / 8 - lo / 8 + 1)
    else segBits (w / 8 * e) (w / 8)
  { q with el := q.el.set 0 e (v % 2 ^ w), poison := q.poison ||| pm }

/-- Write the scale of block `b` of a piece. -/
def Piece.scale (q : Piece) (f b v : Nat) (t : Bool) : Piece :=
  { q with sc := q.sc.set 0 b v, poison := q.poison ||| (if t then segBits (b * blockBytes f) 1 else 0) }

/-- What EMIT writes: lane, element of the chunk or piece, value, tag; and the blocks' scales, each from its block's first lane. -/
structure EmitData where
  els : List (Nat × Nat × Bool) := []
  scs : List (Nat × Nat × Bool) := []
  st : List (Nat × Nat) := []
deriving DecidableEq, Repr

/-- Collect what EMIT writes, at elements base + lane. -/
def emitData (i : Inv) (k : Chunk) (w : Nat) : EmitData :=
  let f := uFmt w
  let b := (i.sx (uB w)).1
  let act := i.active w
  if bit w 25 then
    let a := (i.sx (uA w)).1
    let rs := act.map fun l =>
      let c := k.acc.getD {} (elemIx a (uImm w) l)
      let r := c.readExp
      (elemIx b (uImm w) l, r.1, c.has aPSN, elemIx a (uImm w) l, r.2)
    { els := rs.map fun (e, v, t, _, _) => (e, v, t), st := rs.map fun (_, _, _, e, st) => (e, st) }
  else
    { els := act.map fun l => let v := i.lane (uA w) l; (elemIx b (uImm w) l, v.1, v.2)
      scs := if !isMx f then [] else ((List.range 4).filter fun j => act.any fun l => l / 32 = j).map fun j =>
        let v := i.lane (uA w) (32 * j); (elemIx b (uImm w) (32 * j), fld v.1 8 8, v.2) }

/-- Write EMIT's data into a piece whose first element has index `o`. -/
def Piece.fill (q : Piece) (f o : Nat) (d : EmitData) : Piece :=
  let q := d.els.foldl (fun q (e, v, t) => q.write f (e - o) v t) q
  d.scs.foldl (fun q (e, v, t) => q.scale f ((e - o) / 32) v t) q

/-- EMIT's data that falls in [o, o + n). -/
def EmitData.within (d : EmitData) (o n : Nat) : EmitData :=
  { els := d.els.filter fun (e, _, _) => o ≤ e && e < o + n, scs := d.scs.filter fun (e, _, _) => o ≤ e && e < o + n }

/-- Faults common to modes 0 and 1, against `lim` elements. -/
def emitFault (i : Inv) (k : Chunk) (w lim : Nat) : Option Nat :=
  let x := i.sx (uB w)
  let a := i.sx (uA w)
  let act := i.active w
  if uFmt w ≠ k.fmt then some 0x24
  else if x.2 || (bit w 25 && a.2) then some 0x25
  else if bit w 25 && !hasTally k.operation then some 0x27
  else if isMx (uFmt w) && (x.1 + uImm w) % 32 ≠ 0 then some 0x21
  else if act.any (fun l => lim ≤ elemIx x.1 (uImm w) l) || (bit w 25 && act.any fun l => k.elems ≤ elemIx a.1 (uImm w) l) then some 0x22
  else none

/-- EMIT mode 0: into the current result piece, whose staging buffer the first EMIT takes, stalling until it can (R141). -/
def uEmit (ue : List (Nat × Nat × Nat)) (ce : Nat) (s : State) (i : Inv) (w : Nat) : UStep :=
  let k := s.invChunk i
  if i.entry ≠ 3 then .fault 0x26 s else
  match emitFault i k w i.count with
  | some c => .fault c s
  | none =>
    let r := if i.cur.isNone then s.claimStage k 1 else (true, s)
    if !r.1 then .stall r.2 else
    let s := if bit w 25 then r.2.tallyErrs k ue ce else r.2
    let k := s.invChunk i
    let d := emitData i k w
    let q := (i.cur.getD { p := i.piece }).fill (uFmt w) 0 d
    .go (s.setChunk { k with stm := k.stm.notes d.st }) ({ i with cur := some q }).next

/-- Pieces a mode 1 EMIT writes to (R257). -/
def emitPieces (f : Nat) (d : EmitData) : List Nat := (d.els.map fun (e, _, _) => e / pieceElems f).eraseDups

/-- EMIT mode 1 (R257). -/
def uSpec (ue : List (Nat × Nat × Nat)) (ce : Nat) (s : State) (i : Inv) (w : Nat) : UStep :=
  let k := s.invChunk i
  if i.entry ≠ 1 ∧ i.entry ≠ 2 then .fault 0x26 s else
  match emitFault i k w k.elems with
  | some c => .fault c s
  | none =>
    let s := if bit w 25 then s.tallyErrs k ue ce else s
    let k := s.invChunk i
    let d := emitData i k w
    let new := (emitPieces k.fmt d).filter fun p => !k.specP.any (·.p = p)
    let r := new.foldl (fun (ok, t) _ => if !ok then (false, t) else t.claimStage (t.invChunk i) 0) (true, s)
    if !r.1 then .go (s.allocFail false 4096) (i.setK (uD w) 0).next else
    let k := r.2.invChunk i
    let pe := pieceElems k.fmt
    let ps := (k.specP ++ new.map fun p => ({ p := p } : Piece)).map fun q => q.fill k.fmt (q.p * pe) (d.within (q.p * pe) pe)
    .go (r.2.setChunk { k with specP := ps, stm := k.stm.notes d.st }) (i.setK (uD w) allOnes).next

/-- EMIT mode 2: the staged pieces are released, moving to the emit count (R258). -/
def uRelease (s : State) (i : Inv) (w : Nat) : UStep :=
  let k := s.invChunk i
  if i.entry ≠ 1 ∧ i.entry ≠ 2 then .fault 0x26 s
  else if uFmt w ≠ k.fmt then .fault 0x24 s else
  let n := k.spec.length
  let s := (s.wr BPM_STAGE_USE_spec (s.rd BPM_STAGE_USE_spec - n)).wr BPM_STAGE_USE_emit (s.rd BPM_STAGE_USE_emit + n)
  .go ((s.setChunk { k with relP := k.relP ++ k.specP, specP := [], spec := [], emit := k.emit ++ k.spec }).cnt LDG_SPEC_COMMIT_count) i.next

/-- EMIT mode 3: the staged pieces are freed (R258). -/
def uFree (s : State) (i : Inv) (w : Nat) : UStep :=
  let k := s.invChunk i
  if i.entry ≠ 1 ∧ i.entry ≠ 2 then .fault 0x26 s
  else if uFmt w ≠ k.fmt then .fault 0x24 s else
  .go (((s.freeStage k.spec [] []).setChunk { k with specP := [], spec := [] }).cnt LDG_SPEC_UNDO_count) i.next

/-- An EMIT of the given mode runs; one of another mode is another row's. -/
def emitMode (m : Nat) (f : State → Inv → Nat → UStep) (p : Nat) (s : State) : State :=
  match s.fetchU p 0x80 with
  | some (_, w) => if fld w 26 2 = m then s.umak p 0x80 f else s
  | none => s

/-- EMIT, mode 0 (R230). -/
def execEmit (core : Nat) (ue : List (Nat × Nat × Nat)) (ce : Nat) (s : State) : Host.Outcome State Fault Refusal :=
  act s (emitMode 0 (uEmit ue ce) (core % 68) s)
/-- EMIT, mode 1 (R257). -/
def execEmitSpeculative (core : Nat) (ue : List (Nat × Nat × Nat)) (ce : Nat) (s : State) : Host.Outcome State Fault Refusal :=
  act s (emitMode 1 (uSpec ue ce) (core % 68) s)
/-- EMIT, mode 2 (R258). -/
def execEmitRelease (core : Nat) (s : State) : Host.Outcome State Fault Refusal := act s (emitMode 2 uRelease (core % 68) s)
/-- EMIT, mode 3 (R258). -/
def execEmitFree (core : Nat) (s : State) : Host.Outcome State Fault Refusal := act s (emitMode 3 uFree (core % 68) s)

/-! Lines and stores. -/

/-- The next line arrives: demanded lines first, prefetched ones while the buffer has a free line of 32; a demand takes the place of the oldest prefetched line (R212, R214). -/
def State.lineFetched (s : State) (p : Nat) : State :=
  let s := s.sweepCore p
  let x := s.core p
  if s.rd SRI_STATE_state p ≠ 3 then s else
  match x.reqs with
  | [] => s
  | r :: rest =>
    let t := if r.words ≠ [] then (r.words, s) else s.readWords (r.addr / 4) r.n 0
    let l : LdgLine := { r with words := t.1 }
    if x.lines.length < 32 then t.2.setCore p { t.2.core p with reqs := rest, lines := x.lines ++ [l] }
    else if r.want then
      let keep := match x.lines.findIdx? (fun y => !y.want) with | some j => x.lines.eraseIdx j | none => x.lines.drop 1
      t.2.setCore p { t.2.core p with reqs := rest, lines := keep ++ [l] }
    else s

/-- LEDGER_LINE_FETCHED (R214). -/
def execLedgerLineFetched (core : Nat) (s : State) : Host.Outcome State Fault Refusal := act s (s.lineFetched (core % 68))

/-- The head of SQ is accepted by the GDDR7 controller (R224, R261): its words are written, the ledger is dirty, and a chunk that has been sent may leave EMITTING (R216). -/
def State.stlAccepted (s : State) (p : Nat) : State :=
  let s := s.sweepCore p
  if s.rd SRI_STATE_state p ≠ 3 then s else
  match (s.core p).sq with
  | [] => s
  | e :: rest =>
    let s := s.setCore p { s.core p with sq := rest }
    let s := e.words.foldl (fun s (a, v, t) => s.writeWords (a / 4) [(v, t)] 0) s
    (s.wr LDG_STATE_dirty 1 0 e.ledger).tryEnd e.ctx e.chunk

/-- STL_ACCEPTED (R224). -/
def execStlAccepted (core : Nat) (s : State) : Host.Outcome State Fault Refusal := act s (s.stlAccepted (core % 68))

end Sys2Proof.Machine
end

