-- ==== Sys2Proof/Machine/Ldg.lean ====
section
/-! DEFINITION. Ledgers: configuration, the flip, the commands (R244, R247, R259 to R264). -/

namespace Sys2Proof.Machine

/-! Configuration (R244). -/

/-- A ledger register as the module datum covers it: index 0 CFG with lock as zero, 1 BASE, 2 BANK, 3 PCOUNT, 4 NORM_GRP (R377). -/
def State.ldgWord (s : State) (n j : Nat) : Nat :=
  match j with
  | 0 => wordOf (fun d => s.rd d 0 n) [LDG_CFG_enable, LDG_CFG_layout]
  | 1 => wordOf (fun d => s.rd d 0 n) [LDG_BASE_base]
  | 2 => wordOf (fun d => s.rd d 0 n) [LDG_BANK_bank_bytes]
  | 3 => wordOf (fun d => s.rd d 0 n) [LDG_PCOUNT_param_count]
  | _ => wordOf (fun d => s.rd d 0 n) [LDG_NORM_GRP_member_base, LDG_NORM_GRP_norm_count, LDG_NORM_GRP_self_index]

/-- Cover the change of a ledger register. -/
def State.ldgCover (s t : State) (n j : Nat) : State := t.coverMod 0x07 (n * 8 + j) (s.ldgWord n j) (t.ldgWord n j)

/-- The ledger partition: first byte and past the last (R400). -/
def State.ledgerRange (s : State) : Nat × Nat :=
  let b := s.rd MEM_PART_BASE_base 0 0 * 2 ^ 24
  (b, b + s.rd MEM_PART_SIZE_size 0 0 * 2 ^ 24)

/-- Why an enable is refused: 3 INVALID, 7 OVERLAP (R244). -/
def State.enableBad (s : State) (n layout : Nat) : Option Nat :=
  let b := ldgB layout
  let nn := s.rd LDG_PCOUNT_param_count 0 n
  let base := s.ldgBank n 0
  let bb := s.ldgBankBytes n
  if layout = 3 ∨ bb < nn / 1024 * 1024 * b + nn % 1024 * b ∨ base < s.ledgerRange.1 ∨ s.ledgerRange.2 < base + 2 * bb then some 3
  else if (List.range 16).any (fun m => m ≠ n && s.flag LDG_CFG_enable 0 m && meets base (2 * bb) (s.ldgBank m 0) (2 * s.ldgBankBytes m)) then some 7
  else none

/-- A convoy of a context naming the ledger is active. -/
def State.ldgConvoy (s : State) (n : Nat) : Bool := (List.range 65536).any fun c => s.ctxActive c && s.ctxLdg c && s.ctxLedger c = n

/-- A ledger's norm slots of some kind are freed. -/
def State.freeNorms (s : State) (n : Nat) (all : Bool) : State :=
  s.setNorms (s.ser.norms.filter fun x => !(x.ledger = n && (all || x.state = 0)))

/-- A write of LDG_CFG[n] (R244). -/
def State.ldgCfg (s : State) (n : Nat) (w : Wr) : State :=
  let was := s.flag LDG_CFG_enable 0 n
  let en := w.merge 0 1 (s.rd LDG_CFG_enable 0 n) = 1
  let lay := w.merge 2 2 (s.rd LDG_CFG_layout 0 n)
  let refuse := fun (s : State) => s.irq 14 6
  let s1 := s.put LDG_CFG_lock w 0 n
  if was then
    let s2 := if lay ≠ s.rd LDG_CFG_layout 0 n then refuse s1 else s1
    if en then s2
    else if s.ldgConvoy n then refuse s2
    else (s.ldgCover (s2.wr LDG_CFG_enable 0 0 n) n 0).freeNorms n false
  else
    let s2 := s1.wr LDG_CFG_layout lay 0 n
    let s3 := s.ldgCover s2 n 0
    if !en then s3 else
    match s3.enableBad n lay with
    | some r => refuse (((s3.wr LDG_CFG_ERR_ledger n).wr LDG_CFG_ERR_reason r).wr LDG_CFG_ERR_valid 1)
    | none => ((s3.ldgCover (s3.wr LDG_CFG_enable 1 0 n) n 0).clearCover n).wr LDG_ROUND_next_round 0 0 n

/-- LDG_CFG_WRITE (R244). -/
def execLdgCfgWrite (n : Nat) (w : Wr) (s : State) : Host.Outcome State Fault Refusal :=
  hostWrite s 14 (0x1000 + 0x200 * (n % 16)) fun s => s.ldgCfg (n % 16) w

/-- A write of LDG_BASE, LDG_BANK, LDG_PCOUNT or LDG_NORM_GRP (index 1 to 4): ignored while the ledger is enabled (R244). -/
def State.ldgRegWrite (s : State) (n j : Nat) (w : Wr) : State :=
  if s.flag LDG_CFG_enable 0 n then s.irq 14 6 else
  let t := match j with
    | 1 => s.put LDG_BASE_base w 0 n
    | 2 => s.put LDG_BANK_bank_bytes w 0 n
    | 3 => s.put LDG_PCOUNT_param_count w 0 n
    | _ => ((s.put LDG_NORM_GRP_member_base w 0 n).put LDG_NORM_GRP_norm_count w 0 n).put LDG_NORM_GRP_self_index w 0 n
  s.ldgCover t n j

/-! The flip (R260 to R262). -/

/-- PARAM_NEXT into PARAM_CUR, words 0 to 14 (R247). -/
def State.loadParam (s : State) (n : Nat) : State :=
  (List.range 15).foldl (fun s w => s.wr LDG_PARAM_CUR_word (s.rd LDG_PARAM_NEXT_word 0 n w) 0 n w) s

/-- A chunk of the ledger is open (OPEN to EMITTING), or a store of one waits. -/
def State.ldgOpen (s : State) (n : Nat) : Bool :=
  s.ser.chunks.any (fun k => k.live && k.ledger = n && (k.operation = 5 || k.retention = 2))
    || s.ser.cores.any (fun x => x.2.sq.any (·.ledger = n))

/-- Condition 3 OPEN of R260 fails. -/
def State.ldgBusy (s : State) (n : Nat) : Bool := s.ldgConvoy n || s.ldgOpen n

/-- Why a flip is refused, in the order of R260. -/
def State.flipCause (s : State) (n : Nat) : Option Nat :=
  if !s.flag LDG_CFG_enable 0 n then some 4
  else if s.flag LDG_CFG_lock 0 n then some 5
  else if s.flag LDG_STATE_fault 0 n then some 1
  else if (s.covered n).length ≠ s.ldgBlocks n then some 2
  else if s.ldgBusy n then some 3
  else none

/-- The STEP-retained chunks of a ledger enter RELEASED: all of them by an accepted flip, those of one step by an ABANDON, which raises no step fault (R261, R264). -/
def State.releaseStep (s : State) (n : Nat) (only : Option Nat) : State :=
  let ks := s.ser.chunks.filter fun k => k.state = 6 && k.retention = 2 && k.ledger = n && (match only with | some st => decide (k.step = st) | none => true)
  ks.foldl (fun s k => (s.release k only.isNone only.isSome).finish k.ctx) s

/-- Lines prefetched from bank `b` of a ledger are dropped (R215). -/
def State.dropLines (s : State) (n b : Nat) : State :=
  (List.range 68).foldl (fun s p =>
    let x := s.core p
    let old := fun (l : LdgLine) => l.ledger = n && l.bank = b && !l.want
    let m := (x.lines.filter old).length
    if x.lines.isEmpty && x.reqs.isEmpty then s else
    let s := s.setCore p { x with lines := x.lines.filter fun l => !old l, reqs := x.reqs.filter fun l => !old l }
    if m = 0 then s else s.cnt SRI_PREFETCH_DROP_count p 0 0 m) s

/-- A flip (R260, R261): accepted, or refused with its reason. -/
def State.flip (s : State) (n : Nat) : State × Option Nat :=
  match s.flipCause n with
  | some r =>
    let s := (((s.wr LDG_FLIP_LAST_ledger n).wr LDG_FLIP_LAST_reason r).wr LDG_FLIP_LAST_step (s.ldgStep n)).wr LDG_FLIP_LAST_valid 1
    ((s.cnt LDG_FLIP_REJECT_count).irq 14 2, some r)
  | none =>
    let old := s.ldgActive n
    let s := (s.wr LDG_STATE_active (1 - old) 0 n).wr LDG_STATE_step (s.ldgStep n + 1) 0 n
    let s := (s.loadParam n).releaseStep n none
    let s := ((s.clearCover n).wr LDG_ROUND_next_round 0 0 n).wr LDG_STATE_dirty 0 0 n
    let s := ((s.wr LDG_STATE_revert_ok 1 0 n).freeNorms n true).dropLines n old
    ((s.cnt LDG_FLIPS_count).irq 14 1, none)

/-- LEDGER_FLIP, action class 10 (R51, R261). -/
def execLedgerFlip (u : Nat) (s : State) : Host.Outcome State Fault Refusal :=
  act s (s.effect (u % 32) 10 fun e s => let r := s.flip (e.arg % 16); (r.1, r.2.isNone))

/-! Commands (R264). -/

/-- A command completes: 0 OK, 3 INVALID, 7 REFUSED with its reason. -/
def State.ldgDone (s : State) (st reason : Nat) : State :=
  (((s.wr LDG_CMD_STAT_busy 0).wr LDG_CMD_STAT_status st).wr LDG_CMD_STAT_reason reason).irq 14 0

/-- FLIP (R260). -/
def State.ldgFlip (s : State) (n : Nat) : State :=
  let r := s.flip n
  match r.2 with
  | some c => r.1.ldgDone 7 c
  | none => r.1.ldgDone 0 0

/-- The step before, modulo 2^32. -/
def stepBack (x : Nat) : Nat := if x = 0 then 0xFFFFFFFF else x - 1

/-- REVERT (R264). -/
def State.ldgRevert (s : State) (n : Nat) : State :=
  if s.flag LDG_STATE_dirty 0 n || !s.flag LDG_STATE_revert_ok 0 n then s.ldgDone 7 6
  else if s.ldgBusy n then s.ldgDone 7 3
  else
    let s := (s.wr LDG_STATE_active (1 - s.ldgActive n) 0 n).wr LDG_STATE_step (stepBack (s.ldgStep n)) 0 n
    ((s.wr LDG_STATE_revert_ok 0 0 n).clearCover n).ldgDone 0 0

/-- ABANDON (R264). -/
def State.ldgAbandon (s : State) (n : Nat) : State :=
  let ks := s.ser.chunks.filter fun k => k.live && k.ledger = n && (k.operation = 5 || k.retention = 2)
  let s := s.freeNorms n true
  let s := ks.foldl (fun s k => match s.chunk? k.ctx k.chunk with | some k => if k.live then s.abort k 2 true else s | none => s) s
  let s := s.releaseStep n (some (s.ldgStep n))
  (((s.clearCover n).wr LDG_STATE_fault 0 0 n).wr LDG_ROUND_next_round 0 0 n).ldgDone 0 0

/-- Copy one block from the active to the inactive bank (R264). -/
def State.copyBlock (s : State) (n b : Nat) : State :=
  let nn := s.rd LDG_PCOUNT_param_count 0 n
  let r := min 1024 (nn - b * 1024)
  let act := s.ldgActive n
  let words := r * (ldgB (s.rd LDG_CFG_layout 0 n) / 4)
  let t := s.readWords (s.ldgAddr n act (b * 1024) 0 / 4) words 0
  (t.2.writeWords (s.ldgAddr n (1 - act) (b * 1024) 0 / 4) t.1 0).coverBlock n b

/-- COPY_FWD (R264). -/
def State.ldgCopy (s : State) (n : Nat) : State :=
  let a := s.rd LDG_CMD_ARG_arg
  let b0 := fld a 0 32
  let m := fld a 32 32
  if s.ldgOpen n then s.ldgDone 7 3
  else if s.ldgBlocks n < b0 + m then s.ldgDone 3 0
  else ((List.range m).foldl (fun s i => s.copyBlock n (b0 + i)) s).ldgDone 0 0

/-- SET_STATE (R264). -/
def State.ldgSet (s : State) (n : Nat) : State :=
  if !s.flag LDG_CFG_lock 0 n then s.ldgDone 7 5 else
  let a := s.rd LDG_CMD_ARG_arg
  let s := (s.wr LDG_STATE_active (fld a 0 1) 0 n).wr LDG_STATE_step (fld a 32 32) 0 n
  ((s.wr LDG_STATE_revert_ok 0 0 n).clearCover n).ldgDone 0 0

/-- LOAD_PARAM (R264). -/
def State.ldgLoad (s : State) (n : Nat) : State := if s.ldgBusy n then s.ldgDone 7 3 else (s.loadParam n).ldgDone 0 0

/-- A write of LDG_CMD runs at once (R264). -/
def State.ldgCmd (s : State) (op n : Nat) : State :=
  match op with
  | 1 => s.ldgFlip n
  | 2 => s.ldgRevert n
  | 3 => s.ldgAbandon n
  | 4 => s.ldgCopy n
  | 5 => s.ldgSet n
  | 6 => s.ldgLoad n
  | _ => s.ldgDone 3 0

/-- A host write of LDG_CMD. -/
def ldgCmdWrite (f : State → State) (s : State) : Host.Outcome State Fault Refusal := hostWrite s 14 0x100 f

/-- FLIP (R260). -/
def execFlip (n : Nat) (s : State) : Host.Outcome State Fault Refusal := ldgCmdWrite (fun s => s.ldgFlip (n % 16)) s
/-- REVERT (R264). -/
def execRevert (n : Nat) (s : State) : Host.Outcome State Fault Refusal := ldgCmdWrite (fun s => s.ldgRevert (n % 16)) s
/-- ABANDON (R264). -/
def execAbandon (n : Nat) (s : State) : Host.Outcome State Fault Refusal := ldgCmdWrite (fun s => s.ldgAbandon (n % 16)) s
/-- COPY_FWD (R264). -/
def execCopyFwd (n : Nat) (s : State) : Host.Outcome State Fault Refusal := ldgCmdWrite (fun s => s.ldgCopy (n % 16)) s
/-- SET_STATE (R264). -/
def execSetState (n : Nat) (s : State) : Host.Outcome State Fault Refusal := ldgCmdWrite (fun s => s.ldgSet (n % 16)) s
/-- LOAD_PARAM (R264). -/
def execLoadParam (n : Nat) (s : State) : Host.Outcome State Fault Refusal := ldgCmdWrite (fun s => s.ldgLoad (n % 16)) s

end Sys2Proof.Machine
end

