-- ==== Sys2Proof/Machine/Bcast.lean ====
section
/-! DEFINITION. The launch broadcast (R283 to R289). -/

namespace Sys2Proof.Machine

/-- The same broadcast: slice, ctx, seq (R283). -/
def BcEnt.hasKey (e : BcEnt) (p : Pkt) : Bool := e.pkt.slice = p.slice && e.pkt.ctx = p.ctx && e.pkt.seq = p.seq

/-- Two entries of one key. -/
def BcEnt.same (e f : BcEnt) : Bool := e.hasKey f.pkt

/-- Give the broadcast table its entries, the OPEN ones counted. -/
def State.setBc (s : State) (l : List BcEnt) : State :=
  ({ s with ser := { s.ser with bcast := l } }).wr SRG_BC_ACTIVE_open (l.filter fun (e : BcEnt) => e.isOpen).length

/-- Replace an entry. -/
def State.putBc (s : State) (e : BcEnt) : State := s.setBc (s.ser.bcast.map fun x => if x.same e then e else x)

/-- A targeted packet for this module (R79, R284); one with a hop_count above 3, which R79 rules out without an action, is taken alike (DESIGN CHOICE, log entry 88). -/
def State.bcTargeted (s : State) (p : Pkt) : Bool := p.bcTarget = 1 && p.dst = s.self

/-- The children of a broadcast (R284): BC_TREE of its slice, or the mask of waybill entries 4 to 7, less the arrival fibre. A parity error leaves the entry's children all unreachable and counts (R293). -/
def State.bcKids (s : State) (p : Pkt) (arr : Option Nat) : Nat × Bool :=
  let bad := !s.bcTargeted p && s.isBad TB_BCTREE 0 p.slice 0 16
  let m := if s.bcTargeted p then (List.range 4).foldl (fun v i => v ||| (p.waybill.getD (4 + i) 0) <<< (16 * i)) 0 else s.tget TB_BCTREE 0 p.slice 0
  (match arr with | some lp => setFld m (s.portFibre lp) 1 0 | none => m, bad)

/-- The lowest-numbered eligible port of a fibre whose egress bitmap admits the slice (R284). -/
def State.bcPort (s : State) (f sl : Nat) : Option Nat × State :=
  (((lanesOf f).filterMap s.lanePort).eraseDups.mergeSort (· ≤ ·)).foldl (fun (r : Option Nat × State) lp =>
    match r.1 with
    | some _ => r
    | none =>
      let t := r.2.lpParity (f / 4) lp
      if !t.eligible (f / 4) lp then (none, t) else
      let a := t.admits TB_ADMIT_EG (f / 4) lp sl
      (if a.1 then some lp else none, a.2)) (none, s)

/-- One copy of a broadcast (R284): toward child fibre `f`, the packet as it arrived, stamped with its slice's epoch (R105, R114); at 64 its payload, to the host path. Whether it could go, where no buffer was free none: it waits for one (DESIGN CHOICE, log entry 88). -/
def State.bcCopy (s : State) (p : Pkt) (pipe f : Nat) : Option Bool × State :=
  let n := cellCount p.length
  if f = 64 then
    match s.takeShared n with
    | some (b, t) => (some true, t.enter (consume p) pipe 191 none 0 .host b p.hopPtr)
    | none => (none, s.allocFail false 256)
  else
    let r := s.bcPort f p.slice
    match r.1 with
    | none => (some false, r.2)
    | some lp =>
      match r.2.takeShared n with
      | some (b, t) => (some true, t.enter { p with epoch := t.rd FWD_SLICE_EPOCH_cur_epoch 0 p.slice } pipe 191 none 0 (.lp lp) b p.hopPtr true)
      | none => (none, r.2.allocFail false 256)

/-- A copy that finds no buffer waits. -/
def State.bcWait (s : State) (p : Pkt) (pipe f : Nat) : State := { s with ser := { s.ser with bcWait := s.ser.bcWait ++ [(p, pipe, f)] } }

/-- Send a copy to every child (R284). Answers the children that no port reaches. -/
def State.bcCopies (s : State) (p : Pkt) (pipe kids : Nat) (bad : Bool) : Nat × State :=
  (bitsOf 64 kids).foldl (fun (dead, s) f =>
    if bad then (setFld dead f 1 1, s) else
    let r := s.bcCopy p pipe f
    match r.1 with
    | some true => (dead, r.2)
    | some false => (setFld dead f 1 1, r.2)
    | none => (dead, r.2.bcWait p pipe f)) (0, s)

/-- Answer one parent (R286): an ACK with ref_kind 4 toward the packet's src, routed by the return table of the pipeline that received that parent's copy (R114), or on the host path. -/
def State.bcAck (s : State) (p : Pkt) (pipe : Nat) (par : Option Nat) : State :=
  let f := s.takeFree 4
  let q : Pkt := { kind := 3, tc := 1, slice := p.slice, dst := p.src, seq := f.1 % 2 ^ 32, ctx := p.ctx, member := p.member, attempt := p.attempt,
                   chunk := p.chunk, payload := ackPayload 0 0 [] p.seq p.src 4 1 }
  match par with
  | some lp =>
    let r := f.2.answerRoute (f.2.portFibre lp / 4) p.src
    (r.2.originate { q with waybill := r.1.1, hopCount := r.1.2 } (f.2.portFibre lp / 4) 191 .lost).2
  | none => (f.2.originate { q with waybill := [0xC001], hopCount := 0 } pipe 191 .lost).2

/-- A broadcast report is sent; with no cell free it is tried again each cell time (R141). -/
def State.sendReport (s : State) (q : Pkt) (pipe : Nat) : State :=
  let r := s.originate q pipe 191 .stall
  if r.1 = .again then { r.2 with ser := { r.2.ser with reports := r.2.ser.reports ++ [(q, pipe)] } } else r.2

/-- An entry closes (R286): every parent is answered, and children missing are reported to the broadcast's source. -/
def State.bcClose (s : State) (e : BcEnt) : State :=
  let late := e.kids &&& (e.answered ^^^ (2 ^ 64 - 1)) &&& (e.dead ^^^ (2 ^ 64 - 1))
  let miss := late ||| (e.dead &&& e.kids)
  let s := s.putBc { e with isOpen := false, closedAt := s.cyc }
  let s := if late = 0 then s else s.cnt SRG_BC_CHILD_TO_count 0 0 0 (popc 64 late)
  let s := e.parents.foldl (fun s par => s.bcAck e.pkt e.pipe par) s
  if miss = 0 && !s.flag SRG_BC_CFG_report_all then s else
  let q := s.answerPkt e.pkt e.pipe 2 0 (leBytes 8 miss)
  let s := q.2.sendReport q.1 e.pipe
  let s := ((s.cnt SRG_BC_REPORT_count).wr SRG_BC_LOC_ctx e.pkt.ctx).wr SRG_BC_LOC_slice e.pkt.slice
  let s := ((s.wr SRG_BC_LOC_seq e.pkt.seq).wr SRG_BC_LOC_valid 1).wr SRG_BC_MISSING_fibres miss
  if miss = 0 then s else s.irq 12 12

/-- An OPEN entry whose children have all answered or are unreachable closes. -/
def State.bcCheck (s : State) (e : BcEnt) : State :=
  if e.isOpen && (e.kids &&& (e.answered ^^^ (2 ^ 64 - 1)) &&& (e.dead ^^^ (2 ^ 64 - 1))) = 0 then s.bcClose e else s

/-- Copies and reports that wait for buffer are tried again (R141); a copy handed over restarts the wait for the children. -/
def State.bcRetry (s : State) : State :=
  let l := s.ser.bcWait
  let rs := s.ser.reports
  if l.isEmpty && rs.isEmpty then s else
  let s : State := { s with ser := { s.ser with bcWait := [], reports := [] } }
  let s := l.foldl (fun s (p, pipe, f) =>
    match s.ser.bcast.find? (fun e => e.hasKey p && e.isOpen) with
    | none => s
    | some e =>
      let r := s.bcCopy p pipe f
      match r.1 with
      | none => r.2.bcWait p pipe f
      | some ok =>
        let e : BcEnt := { e with lastAt := s.cyc, dead := if ok || f = 64 then e.dead else setFld e.dead f 1 1 }
        (r.2.putBc e).bcCheck e) s
  rs.foldl (fun s (q, pipe) => s.sendReport q pipe) s

/-- Room for a new entry: a free one, or the oldest CLOSED one (R283). -/
def State.bcRoom (s : State) : Option State :=
  if s.ser.bcast.length < 256 then some s
  else
    let old := (s.ser.bcast.filter fun e => !e.isOpen).foldl (fun (b : Option BcEnt) e => match b with
      | none => some e
      | some x => if e.closedAt < x.closedAt then some e else some x) none
    old.map fun e => s.setBc (s.ser.bcast.filter fun x => !x.same e)

/-- The payload goes to the host path too (R284). -/
def State.bcLocal (s : State) (p : Pkt) (pipe : Nat) : State :=
  if fld (p.waybill.getD p.hopPtr 0) 0 1 = 0 then s else
  let r := s.bcCopy p pipe 64
  if r.1.isNone then r.2.bcWait p pipe 64 else r.2

/-- A broadcast reaches the launch-broadcast function (R283, R284, R287). The packet is taken with its type 3 entry current, as each child is to find it. -/
def State.bcArrive (s : State) : State :=
  match s.headLocal .bcast with
  | none => s
  | some x =>
    let p : Pkt := { x.pkt with hopPtr := if x.pkt.wbDone = 1 then x.pkt.hopPtr else x.pkt.hopPtr - 1, wbDone := 0 }
    let s := s.dropFlight x
    if !s.flag SRG_BC_CFG_enable then s.cnt SRG_BC_DROP_count else
    match s.ser.bcast.find? (·.hasKey p) with
    | some e =>
      let s := s.cnt SRG_BC_DUP_count
      if e.isOpen then s.putBc { e with parents := if e.parents.contains x.arr then e.parents else e.parents ++ [x.arr] }
      else if s.bcTargeted p then
        let k := s.bcKids p x.arr
        let r := s.bcCopies p x.pipe k.1 k.2
        let e' : BcEnt := { e with pkt := p, pipe := x.pipe, isOpen := true, parents := [x.arr], kids := k.1, answered := 0, dead := r.1, lastAt := s.cyc }
        (r.2.putBc e').bcCheck e'
      else s.bcAck p x.pipe x.arr
    | none =>
      match s.bcRoom with
      | none => s.cnt SRG_BC_DROP_count
      | some s =>
        let k := s.bcKids p x.arr
        let s := if k.2 then s.cnt SRG_BC_DROP_count else s
        let r := (s.cnt SRG_BC_RX_count).bcCopies p x.pipe k.1 k.2
        let s := r.2.bcLocal p x.pipe
        let e : BcEnt := { pkt := p, pipe := x.pipe, isOpen := true, parents := [x.arr], kids := k.1, dead := r.1, lastAt := s.cyc }
        (s.setBc (s.ser.bcast ++ [e])).bcCheck e

/-- BROADCAST_ARRIVAL (R284). -/
def execBroadcastArrival (s : State) : Host.Outcome State Fault Refusal := act s s.bcArrive

/-- The entry that consumes an ACK of a broadcast arriving on port `lp` (R285). -/
def State.bcAckEntry (s : State) (p : Pkt) (lp : Nat) : Option BcEnt :=
  let w := leNat (p.payload.take 16)
  if p.kind ≠ 3 ∨ p.length < 16 ∨ fld w 0 8 ≠ 0 ∨ fld w 88 4 ≠ 4 then none
  else s.ser.bcast.find? fun e => e.pkt.slice = p.slice && e.pkt.ctx = p.ctx && e.pkt.seq = fld w 32 32 && bit e.kids (s.portFibre lp)

/-- An ACK consumed by the launch-broadcast function (R285); a malformed one is discarded and counted (R81). -/
def State.bcAckRx (s : State) (e : BcEnt) (p : Pkt) (lp : Nat) : State :=
  if (ackRead p).isNone then s.cnt SRG_MALFORMED_count
  else if e.isOpen then
    let e : BcEnt := { e with answered := e.answered ||| 1 <<< s.portFibre lp }
    (s.putBc e).bcCheck e
  else s.cnt SRG_BC_LATE_ACK_count

/-- Entries whose children have had child_timeout_us since the last copy close (R286). -/
def State.childTimeout (s : State) : State :=
  let t := usCyc (max 1 (s.rd SRG_BC_CFG_child_timeout_us))
  (s.ser.bcast.filter fun e => e.isOpen && decide (e.lastAt + t ≤ s.cyc) && !s.ser.bcWait.any fun w => e.hasKey w.1).foldl (fun s e => s.bcClose e) s

/-- CHILD_TIMEOUT (R286). -/
def execChildTimeout (s : State) : Host.Outcome State Fault Refusal := act s s.childTimeout

/-- CLOSED entries are freed hold_ms after they closed (R283). -/
def State.bcHold (s : State) : State :=
  s.setBc (s.ser.bcast.filter fun e => e.isOpen || decide (s.cyc < e.closedAt + msCyc (s.rd SRG_BC_CFG_hold_ms)))

/-- BC_HOLD_EXPIRY (R283). -/
def execBcHoldExpiry (s : State) : Host.Outcome State Fault Refusal := act s s.bcHold

end Sys2Proof.Machine
end

