-- ==== Sys2Proof/Machine/Ingress.lean ====
section
/-! DEFINITION. A packet received on a lane: the checks of R75, the pipeline of R92, the policer of R149. -/

namespace Sys2Proof.Machine

/-- The kinds and the classes they may use (R68). A kind 3 may use TC1 or the class of a packet it can answer: TC0 and TC4 to TC7. -/
def kindTcOk (kind tc : Nat) : Bool :=
  match kind with
  | 0 => 4 ≤ tc
  | 1 => tc = 2
  | 2 => tc = 3
  | 3 => tc ≠ 2 && tc ≠ 3
  | 4 => tc = 1
  | 5 => tc = 0
  | 6 => tc = 1
  | _ => false

/-- The waybill of a received packet fails check 5 (R73). -/
def waybillBad (p : Pkt) : Bool :=
  let e := p.waybill.getD p.hopPtr 0
  p.wbDone = 1 || p.hopCount < p.hopPtr || (fld e 14 2 = 2 && dimBad e)

/-- Checks 2 to 5 of R75 in order, on a packet of so many bytes and, where a word of its stored header is uncorrectable (R78), none of them trusted: the counter and, where a NAK may answer, its reason. -/
def arrivalCheck (hdrUe : Bool) (p : Pkt) (bytes : Nat) : Option (RegD × Option Nat) :=
  if hdrUe ∨ p.ver ≠ 2 ∨ 4096 < p.length ∨ bytes ≠ wireLen p.length then some (FWD_DROP_HDR_count, none)
  else if p.calcHdrCrc ≠ p.hdrCrc then some (FWD_DROP_HDR_count, none)
  else if !kindTcOk p.kind p.tc then some (FWD_DROP_KIND_count, some 1)
  else if waybillBad p then some (FWD_DROP_WAYBILL_count, some 2)
  else none

/-- A policer brought up to date: tokens gained since, up to its bursts (R148). Tokens are in 1/16000 byte, so a rate of 1 Mb/s gains 1 per core cycle. -/
def polNow (w0 w1 : Nat) (x : Pol) (cyc : Nat) : Pol :=
  let dt := cyc - x.at_
  { tc := min (fld w1 0 24 * 16000) (x.tc + fld w0 0 22 * dt), tp := min (fld w1 24 24 * 16000) (x.tp + fld w0 22 22 * dt), at_ := cyc }

/-- The two-rate three-colour policer of R149: the colour and the tokens left. -/
def polColour (w0 colour b : Nat) (x : Pol) : Nat × Pol :=
  let n := b * 16000
  let aware := bit w0 45
  if aware ∧ 2 ≤ colour then (2, x)
  else if x.tp < n then (2, x)
  else if (aware ∧ colour = 1) ∨ x.tc < n then (1, { x with tp := x.tp - n })
  else (0, { x with tp := x.tp - n, tc := x.tc - n })

/-- The policer of a packet's slice and class (R148, R149): its colour, or a drop. A parity error turns it off for the packet (R159). -/
def State.police (s : State) (p : Pkt) : Option Pkt × State :=
  let i := p.slice * 8 + p.tc
  if s.isBad TB_POLICER 0 i 0 16 || s.isBad TB_POLICER 0 i 1 16 then (some p, (s.cnt QSH_PARITY_count).irq 11 3) else
  let w0 := s.tget TB_POLICER 0 i 0
  let w1 := s.tget TB_POLICER 0 i 1
  if !bit w0 44 then (some p, s) else
  let r := polColour w0 p.colour (wireLen p.length) (polNow w0 w1 (s.qsh.pol.getD {} i) s.cyc)
  let s := { s with qsh := { s.qsh with pol := s.qsh.pol.put i r.2 } }
  if r.1 = 2 ∧ !bit w0 46 then (none, s.cnt QSH_DROP_POL_count) else (some { p with colour := r.1 }, s)

/-- Steps 6 to 9 of R92 and the policer for a packet received on port `lp`, whose cells are held: it is entered, or dropped with its NAK. An ACK of a broadcast is consumed in place of step 9 (R285). -/
def State.pipeline (s : State) (lp pipe vc : Nat) (p : Pkt) (bufs : List Nat) : State :=
  let n := cellCount p.length
  let drop := fun (s : State) => (s.freeBufs 0 bufs).returnCredit lp vc n
  let a := s.admits TB_ADMIT_IN pipe lp p.slice
  let s := a.2
  if !a.1 then (drop (s.cnt FWD_DROP_SLICE_count pipe)).nak p pipe 3 else
  let cur := s.rd FWD_SLICE_EPOCH_cur_epoch 0 p.slice
  let fromEnd := s.flag LP_CFG_nbr_class 0 lp
  if !fromEnd ∧ p.epoch ≠ cur ∧ !s.flag FWD_SLICE_EPOCH_draining 0 p.slice then (drop (s.cnt FWD_DROP_EPOCH_count pipe)).nak p pipe 4 else
  let p := if fromEnd then { p with epoch := cur } else p
  let s := s.learn pipe lp p.src p.slice
  match s.bcAckEntry p lp with
  | some e => (drop s).bcAckRx e p lp
  | none =>
  let r := s.resolve 9 pipe p
  match r.1 with
  | .error (c, why) => (drop (r.2.cnt c pipe)).nak p pipe why
  | .ok (d, q) =>
    let g := r.2.police q
    match g.1 with
    | none => drop g.2
    | some q => g.2.enter q pipe (g.2.inCoreOf lp) (some lp) vc d bufs p.hopPtr

/-- A packet whose lane or port failed before its trailer arrived (R125): counted, and where the port is still up its replay is asked for (R332). -/
def State.cutShort (s : State) (lp : Nat) : State :=
  let s := s.cnt XBR_IN_PARTIAL_count
  if s.flag LP_CFG_link_up 0 lp then s.askReplay lp else s

/-- A packet the link layer has accepted, as its bytes stand before the trailer's reserved part is dropped (R62, R92): counted against its virtual channel's credit, given cells, checked and sent through the pipeline. -/
def State.accepted (s : State) (lp : Nat) (r : RxPkt) (raw : List Byte) : State :=
  let pipe := s.portFibre lp / 4
  let p := Pkt.ofBytes raw
  let n := (raw.length + 247) / 256
  let vc := vcOf p.tc (1 - s.portDir lp)
  let x := s.rx lp
  let got := x.recv.getD vc 0 + n
  let s := if 17 + x.count.getD vc 0 < got then s.cnt LNK_CREDIT_OVF_count (s.portFibre lp / 8) else s
  let s := s.setRx lp { x with recv := x.recv.set vc got }
  match s.takeVc lp vc n with
  | none => (s.allocFail false 256).returnCredit lp vc n
  | some (bufs, s) =>
    if s.isBad TB_LPCFG 0 lp 0 pipe then ((s.parityErr pipe 5 lp).freeBufs 0 bufs).returnCredit lp vc n else
    match arrivalCheck r.hdrUe p raw.length with
    | some (c, why) =>
      let s := ((s.cnt c pipe).freeBufs 0 bufs).returnCredit lp vc n
      match why with
      | none => s
      | some w => s.nak p pipe w
    | none => s.pipeline lp pipe vc (p.withPoison (p.poisonMap ||| r.ueSegs)) bufs

/-- What has arrived on the lanes of port `lp`: where it completes a packet that the link layer accepts, that packet comes in (R92). -/
def State.ingress (s : State) (lp : Nat) (r : RxPkt) : State :=
  if r.cut then s.cutShort lp
  else if s.portService lp = [] then s else
  let l := (s.spoil r.newBad).linkRx lp r
  match l.1 with
  | some raw => l.2.accepted lp r raw
  | none => l.2

/-- INGRESS_PACKET (R92). -/
def execIngressPacket (lp : Nat) (r : RxPkt) (s : State) : Host.Outcome State Fault Refusal := act s (s.ingress (lp % 1024) r)

/-- BROADCAST_ACK (R285): a received packet that the launch-broadcast function consumes; any other packet is INGRESS_PACKET's. -/
def execBroadcastAck (lp : Nat) (r : RxPkt) (s : State) : Host.Outcome State Fault Refusal :=
  act s (if ((s.linkRx (lp % 1024) r).1.any fun raw => (s.bcAckEntry (Pkt.ofBytes raw) (lp % 1024)).isSome) then s.ingress (lp % 1024) r else s)

end Sys2Proof.Machine
end

