-- ==== Sys2Proof/Machine/Queue.lean ====
section
/-! DEFINITION. Egress queues: admission, spill, shapers, gates, the scheduler, the QSH tables (R134 to R139, R144 to R154, R158, R159). -/

namespace Sys2Proof.Machine

/-! Queue contents. -/

/-- On-die cells an egress queue holds: those that have crossed to it and are not yet sent (R139), and those admitted to it in this cycle (R137). -/
def State.queueCells (s : State) (q : Nat) : Nat :=
  ((s.flights.filter fun x => x.queue = q && (match x.dest, x.loc with
    | .lp _, .voq => x.admitted && x.admAt = s.cyc
    | .lp _, .reseq => true
    | .lp _, .fence => true
    | .lp _, .queue => true
    | _, _ => false)).map (·.cells)).sum

/-- Q + n ≤ α × F with α = 2^k (R137). -/
def alphaFits (k : Int) (q n f : Nat) : Bool :=
  if k < 0 then (q + n) * 2 ^ (-k).toNat ≤ f else q + n ≤ f * 2 ^ k.toNat

/-- k of a class and colour (R137). -/
def State.alphaK (s : State) (tc colour : Nat) : Int :=
  let k := toSigned 4 (fld (s.rd QSH_ALPHA_k) (4 * tc) 4)
  if bit (s.rd QSH_LOSSLESS_lossless) tc then k else max (-6) (k - (min colour 2 : Nat))

/-- Egress admission of `n` cells of a packet to queue `q` (R137). -/
def State.admitted (s : State) (q : Nat) (p : Pkt) (n : Nat) : Bool := alphaFits (s.alphaK p.tc p.colour) (s.queueCells q) n s.sharedFree

/-- A class waits instead of dropping (R138). -/
def State.lossless (s : State) (tc : Nat) : Bool := bit (s.rd QSH_LOSSLESS_lossless) tc

/-- The class group of a class: 0 is highest (R145). -/
def State.classGroup (s : State) (tc : Nat) : Nat := fld (s.rd QSH_CLASS_GROUP_group) (3 * tc) 3

/-! Order (R134, R135). -/

/-- The fence bucket of a packet. -/
def fenceBucket (p : Pkt) : Nat := crc32c (flowKey p 0 0) % 65536

/-- A packet that must keep its order: fenced, or of a strict class; a re-routed one need not (R272). -/
def State.ordered (s : State) (x : Flight) : Bool := x.reroute.isNone && (x.pkt.fence = 1 || bit (s.rd XBR_ORDER_strict) x.pkt.tc)

/-- A packet completed step 9 before another: in an earlier cycle, or on a lower pipeline (R133). -/
def Flight.before (y x : Flight) : Bool := y.order < x.order || (y.order = x.order && y.id < x.id)

/-- An earlier packet of the bucket is still in the module: one delivered counts until its consumer has taken it. -/
def State.earlier (s : State) (x : Flight) : Bool :=
  s.flights.any fun y => !(y.loc = .local && y.admitted) && y.before x && fenceBucket y.pkt = fenceBucket x.pkt

/-- Where a packet goes after reassembly: onto its egress queue, or to its local consumer. -/
def Dest.place : Dest → Loc
  | .lp _ => .queue
  | _ => .local

/-- Place a packet last at its output, held there if it keeps order and an earlier one of its bucket is present (R134, R135). -/
def State.placeQueue (s : State) (x : Flight) : State :=
  if s.ordered x && s.earlier x then (s.moveFlight x .fence).cnt XBR_FENCE_HOLD_count else s.moveFlight x x.dest.place

/-- Held packets whose earlier ones have all gone are released where they stand (R134). -/
def State.fenceRelease (s : State) : State :=
  { s with flights := s.flights.map fun (x : Flight) => if x.loc = .fence && !(s.ordered x && s.earlier x) then { x with loc := x.dest.place } else x }

/-- FENCE_RELEASE (R134). -/
def execFenceRelease (s : State) : Host.Outcome State Fault Refusal := act s s.fenceRelease

/-! The egress slice check (R92 step 10, R104). -/

/-- The pipeline that makes the check: the one fixed for a packet the module sends on its own account (R114), else the one that serves the port. -/
def State.egressPipe (s : State) (x : Flight) (lp : Nat) : Nat := if x.own && !x.ans then x.pipe else s.portFibre lp / 4

/-- The check, as its pipeline reads the bitmap. -/
def State.egressSlice (s : State) (x : Flight) (lp : Nat) : Bool × State :=
  let pipe := s.egressPipe x lp
  if x.own && !x.byHost && x.pkt.kind = 3 && s.sliceState x.pkt.slice ≠ 1 then (true, s)
  else s.admits TB_ADMIT_EG pipe lp x.pkt.slice

/-- A packet that a lost port's fibre gave back passes the check: only now has it the outcome that LNK_REROUTE counts (R271). -/
def State.countReroute (s : State) (x : Flight) : State := match x.reroute with | some e => s.cnt LNK_REROUTE_count e | none => s

/-- A packet fails the check: dropped, counted on the page of the pipeline that made it, answered with a NAK. -/
def State.dropEgress (s : State) (x : Flight) (lp : Nat) : State :=
  ((s.dropFlight x).cnt FWD_DROP_SLICE_EG_count (s.egressPipe x lp)).nak x.pkt x.pipe 3

/-! Uncorrectable words in the packet buffer (R78, R407). -/

/-- The poisoned words of a packet marked in its header: poison_map bits of their segments, and poison_any (R78). -/
def Flight.marked (x : Flight) : Flight :=
  { x with pkt := x.pkt.withPoison (x.poison.foldl (fun m w => m ||| 1 <<< ((w - 8) / 32)) x.pkt.poisonMap), poison := [] }

/-- Words of a stored packet found in error, by 64-bit word, 0 to 7 the header: each is counted. From 1,024 on they stand for words corrected on the way (R405), the others are uncorrectable: a header word drops the packet, others are poisoned (R127). None where the packet is gone. -/
def State.strikePacket (s : State) (x : Flight) (words : List Nat) : Option Flight × State :=
  let ce := words.filter (1024 ≤ ·)
  let words := words.filter (· < 1024)
  let s := if ce = [] then s else s.cnt MEM_ONDIE_CE_count 0 0 0 ce.length
  let s := if words = [] then s else s.cnt MEM_ONDIE_UE_count 0 0 0 words.length
  if words.any (· < 8) then (none, (s.dropFlight x).cnt FWD_DROP_HDR_count x.pipe)
  else if words = [] then (some x, s)
  else
    let x' : Flight := { x with poison := x.poison ++ words }
    (some x', s.setFlight x')

/-! Spill (R153, R154). -/

/-- Bytes a packet takes in a spill buffer: header and padded payload. -/
def spillBytes (p : Pkt) : Nat := 64 + pad8 p.length

/-- A queue's spill chain, first buffer first. -/
def State.chain (s : State) (q : Nat) : List SpillBuf := s.qsh.chain.getD [] q

/-- Give a queue its chain. -/
def State.setChain (s : State) (q : Nat) (l : List SpillBuf) : State := { s with qsh := { s.qsh with chain := s.qsh.chain.set [] q l } }

/-- Bytes a core cycle may move between spill and the buffer: 10 GB/s is 5 bytes in half a nanosecond. -/
def State.spillRate (s : State) : Nat := 5 * min 100 (s.rd QSH_SPILL_CTRL_rate)

/-- The spill rate leaves room now. -/
def State.spillFree (s : State) : Bool := s.spillRate ≠ 0 && s.qsh.spillFree ≤ s.cyc

/-- Use the spill rate for `n` bytes. -/
def State.useSpill (s : State) (n : Nat) : State :=
  { s with qsh := { s.qsh with spillFree := max s.cyc s.qsh.spillFree + (n + s.spillRate - 1) / s.spillRate } }

/-- The class spills. -/
def State.spills (s : State) (tc : Nat) : Bool := 4 ≤ tc && bit (s.rd QSH_SPILL_CTRL_en) (tc - 4)

/-- A new buffer of POOL_SPILL at the end of a chain (R140). -/
def State.freshSpill (s : State) (q n : Nat) (c : List SpillBuf) : Option (Nat × Nat) × State :=
  match s.alloc true 65536 1 with
  | none => (none, s.allocFail true 65536)
  | some (l, s) =>
    let i := l.headD 0
    (some (i, 0), s.setChain q (c ++ [{ buf := i, used := n, left := 1 }]))

/-- Room at the end of a chain for `n` bytes: the buffer and the offset. None, whatever room the last buffer has, while POOL_SPILL is empty or the chain holds max_chain buffers (R154). -/
def State.spillRoom (s : State) (q n : Nat) : Option (Nat × Nat) × State :=
  let c := s.chain q
  if s.rd QSH_SPILL_CHAIN_max_chain ≤ c.length then (none, s)
  else if s.rd BPM_POOL_free 0 2 = 0 then (none, s.allocFail true 65536)
  else
  match c.getLast? with
  | some b =>
    if b.used + n ≤ 65536 then (some (b.buf, b.used), s.setChain q (c.dropLast ++ [{ b with used := b.used + n, left := b.left + 1 }]))
    else s.freshSpill q n c
  | none => s.freshSpill q n c

/-- Append a packet at its input to the chain of queue `q`; it waits while the rate is used up. -/
def State.spill (s : State) (x : Flight) (lp q : Nat) : State :=
  if !s.spillFree then s.setFlight { x with queue := q, waited := true } else
  let a := s.egressSlice x lp
  if !a.1 then a.2.dropEgress x lp else
  let n := spillBytes x.pkt
  let r := (a.2.countReroute x).spillRoom q n
  match r.1 with
  | none => ((r.2.dropFlight x).cnt QSH_SPILL_FAIL_count).irq 11 2
  | some (b, off) =>
    let s := (r.2.writeBytes (r.2.bufAddr 2 b + off) x.pkt.bytes 2).useSpill n
    ((s.moveFlight { x with queue := q, admitted := true, waited := false, bufs := [] } (.spill b off)).freeBufs 0 x.bufs).giveCredit x

/-- The spill chain gives up one packet of buffer `b`; an empty buffer returns to its pool. -/
def State.unchain (s : State) (q b : Nat) : State :=
  let c := (s.chain q).map fun (e : SpillBuf) => if e.buf = b then { e with left := e.left - 1 } else e
  let gone := c.filter fun e => e.left = 0
  let s := s.setChain q (c.filter fun e => e.left ≠ 0)
  s.freeBufs 2 (gone.map (·.buf))

/-- Read a packet back from spill memory: none where a header word is uncorrectable; uncorrectable payload words poison their segments (R154). -/
def State.unspill (s : State) (x : Flight) (b off : Nat) : Option Pkt × State :=
  let n := spillBytes x.pkt
  let a := s.bufAddr 2 b + off
  let r := s.readWords (a / 4) (n / 4) 2
  let bs := bytesOf r.1
  if (r.1.take 16).any (·.2) then (none, r.2) else
  let m := (r.1.drop 16).zipIdx.foldl (fun m (w, i) => if w.2 then m ||| 1 <<< (i / 64) else m) 0
  let p := Pkt.ofImage (leNat (bs.take 64)) ((bs.drop 64).take x.pkt.length)
  (some (p.withPoison (p.poisonMap ||| m)), r.2)

/-- A packet of a slice under purge is dropped at the head of a queue, or as it is read back; an answer the module sends is not (R104, R391). -/
def State.purged (s : State) (x : Flight) : Bool := s.sliceState x.pkt.slice = 2 && !(x.own && !x.byHost && x.pkt.kind = 3)

/-- Read the first packet of a chain back (R153): below on_die_resume, admitted again, with cells and rate to spare. -/
def State.readback (s : State) (q : Nat) : State :=
  match s.flights.find? (fun x => x.queue = q && x.loc.spilled) with
  | none => s
  | some x =>
    match x.loc with
    | .spill b off =>
      if !s.spillFree || s.rd QSH_SPILL_MARKS_on_die_resume ≤ s.queueCells q then s else
      let gone := fun (s : State) => ({ s with flights := s.flights.filter fun y => y.id ≠ x.id }).unchain q b
      if s.purged x then (gone (s.useSpill (spillBytes x.pkt))).cnt DTM_PURGE_DROP_count
      else if !s.admitted q x.pkt x.cells then s
      else match s.takeShared x.cells with
        | none => s.allocFail false 256
        | some (bufs, t) =>
          let r := (t.useSpill (spillBytes x.pkt)).unspill x b off
          match r.1 with
          | none => ((gone r.2).freeBufs 0 bufs).cnt FWD_DROP_HDR_count x.pipe
          | some p => (r.2.unchain q b).placeQueue { x with pkt := p, bufs := bufs }
    | _ => s

/-- SPILL_READBACK (R153). -/
def execSpillReadback (q : Nat) (s : State) : Host.Outcome State Fault Refusal := act s (s.readback (q % 262144))

/-! Shapers (R147). -/

/-- Bring a queue's bucket `n` cell times forward; it is kept in units of 1/1600 byte, so that 1 Mb/s gains 1. -/
def State.shape (s : State) (n q w0 : Nat) : State :=
  if fld w0 0 22 = 0 then s else
  { s with qsh := { s.qsh with bucket := s.qsh.bucket.set 0 q (min ((fld w0 24 24 * 1600 : Nat) : Int) (s.qsh.bucket.getD 0 q + ((n * fld w0 0 22 : Nat) : Int))) } }

/-- The buckets gain for the cell times passed since the last tick. -/
def State.shaperTick (s : State) : State :=
  let n := (s.cyc - s.qsh.tickAt) / 10
  if n = 0 then s else
  let s := { s with qsh := { s.qsh with tickAt := s.qsh.tickAt + 10 * n } }
  (s.tbl.filter fun (k, _) => k / 16 / 2 ^ 25 = TB_SHAPER && k % 16 = 0).foldl (fun s (k, w0) => s.shape n (k / 16 % 2 ^ 24) w0) s

/-- SHAPER_TICK (R147). -/
def execShaperTick (s : State) : Host.Outcome State Fault Refusal := act s s.shaperTick

/-- A shaper entry fails parity (R159). -/
def State.shaperBad (s : State) (q : Nat) : Bool := s.isBad TB_SHAPER 0 q 0 16

/-- A queue's shaper conforms: off, or its bucket at zero or above. -/
def State.conforms (s : State) (q : Nat) : Bool :=
  s.shaperBad q || fld (s.tget TB_SHAPER 0 q 0) 0 22 = 0 || 0 ≤ s.qsh.bucket.getD 0 q

/-- A packet sent from a queue takes its counted length from the bucket. -/
def State.chargeShaper (s : State) (q len : Nat) : State :=
  let w0 := s.tget TB_SHAPER 0 q 0
  if s.shaperBad q || fld w0 0 22 = 0 then s else
  { s with qsh := { s.qsh with bucket := s.qsh.bucket.set 0 q (s.qsh.bucket.getD 0 q - ((len : Int) + toSigned 9 (fld w0 48 9)) * 1600) } }

/-! Gates (R150 to R152). -/

/-- A port's gate list in force. -/
def State.gate (s : State) (lp : Nat) : Gate := s.qsh.gate.getD {} lp

/-- Give a port its gate list. -/
def State.setGate (s : State) (lp : Nat) (g : Gate) : State := { s with qsh := { s.qsh with gate := s.qsh.gate.set {} lp g } }

/-- The entries of a bank before the first of zero duration: duration in half nanoseconds and mask (R150). -/
def State.gateList (s : State) (lp b : Nat) : List (Nat × Nat) :=
  (((List.range 64).map fun e => s.tget TB_TGATE b (lp * 64 + e) 0).map fun w => (fld w 0 24, fld w 24 8)).takeWhile fun e => e.1 ≠ 0

/-- Some entry of the list, its end included, fails parity. -/
def State.gateBad (s : State) (lp b : Nat) : Bool :=
  (List.range (min 64 ((s.gateList lp b).length + 1))).any fun e => s.isBad TB_TGATE b (lp * 64 + e) 0 16

/-- The list a port's classes are held to now: empty opens every class. -/
def State.gates (s : State) (lp : Nat) : List (Nat × Nat) :=
  let g := s.gate lp
  if !g.running || s.gateBad lp g.bank then [] else s.gateList lp g.bank

/-- Cycle time of a list in half nanoseconds. -/
def cycleTime (l : List (Nat × Nat)) : Nat := (l.map (·.1)).sum

/-- The entry of a list at `t` half nanoseconds into its cycle, and where that entry ends. -/
def entryAt : List (Nat × Nat) → Nat → Nat → Nat → Nat × Nat
  | [], i, e, _ => (i, e)
  | (d, _) :: r, i, e, t => if t < e + d then (i, e + d) else entryAt r (i + 1) (e + d) t

/-- The port's gate brought to the entry that holds at this instant. -/
def State.gateNow (s : State) (lp : Nat) : State :=
  let g := s.gate lp
  let l := s.gateList lp g.bank
  if !g.running || l.isEmpty then s else
  let cyc := cycleTime l
  let x := (((s.fclk : Int) - (g.base : Int)) / ((2 ^ 47 : Nat) : Int))
  let t := (x % (cyc : Int)).toNat
  let a := entryAt l 0 0 t
  let start : Int := (g.base : Int) + (x - (t : Int)) * ((2 ^ 47 : Nat) : Int)
  s.setGate lp { g with entry := a.1, entryEnd := (start + ((a.2 * 2 ^ 47 : Nat) : Int)).toNat }

/-- GATE_ENTRY_CHANGE (R150). -/
def execGateEntryChange (lp : Nat) (s : State) : Host.Outcome State Fault Refusal := act s (s.gateNow (lp % 1024))

/-- Time a class's window still lasts at entry `e` ending at `fin`, in clock units (R152). -/
def windowLeft (l : List (Nat × Nat)) (e fin now tc : Nat) : Nat :=
  let cyc := cycleTime l * 2 ^ 47
  if l.all (fun x => bit x.2 tc) then cyc
  else if !bit ((l.getD e (0, 0)).2) tc then 0
  else
    let next := ((l.drop (e + 1)) ++ l.take (e + 1)).takeWhile fun x => bit x.2 tc
    min cyc ((fin - now) + cycleTime next * 2 ^ 47)

/-- The class's gate is open. -/
def State.gateOpen (s : State) (lp tc : Nat) : Bool :=
  let l := s.gates lp
  l.isEmpty || bit ((l.getD (s.gate lp).entry (0, 0)).2) tc

/-- The longest window of a class in half nanoseconds. -/
def maxWindow (l : List (Nat × Nat)) (tc : Nat) : Nat :=
  if l.all (fun x => bit x.2 tc) then cycleTime l
  else ((l ++ l).foldl (fun (r : Nat × Nat) x => if bit x.2 tc then (max r.1 (r.2 + x.1), r.2 + x.1) else (r.1, 0)) (0, 0)).1

/-- What the head of a queue of port `lp` needs of its window. -/
def State.needHalf (s : State) (lp : Nat) (p : Pkt) : Nat :=
  sendHalf (wireLen p.length + fld (s.tget TB_TGCFG 0 lp 0) 8 8) (s.portService lp).length

/-- The head fits in the time left (R152). -/
def State.gateFits (s : State) (lp : Nat) (p : Pkt) : Bool :=
  let l := s.gates lp
  let g := s.gate lp
  l.isEmpty || s.needHalf lp p * 2 ^ 47 ≤ windowLeft l g.entry g.entryEnd s.fclk p.tc

/-- A swap (R151): the bank is selected and restarts at entry 0; a packet still being sent past its new window is counted. -/
def State.gateSwap (s : State) (lp b : Nat) : State × Bool :=
  if !bit (s.tget TB_TGCFG 0 lp 0) 0 then (s, false) else
  let l := s.gateList lp b
  let fin := s.fclk + (l.getD 0 (0, 0)).1 * 2 ^ 47
  let s := s.setGate lp { running := true, bank := b, entry := 0, entryEnd := fin, base := s.fclk }
  let l := s.gates lp
  match s.qsh.sendEnd.get? lp with
  | some (tc, e) => (if !l.isEmpty && s.fclk < e && s.fclk + windowLeft l 0 fin s.fclk tc < e then s.cnt QSH_TG_OVERRUN_count else s, true)
  | none => (s, true)

/-- TGATE_SWAP, action class 5 (R51, R151). -/
def execTgateSwap (u : Nat) (s : State) : Host.Outcome State Fault Refusal :=
  act s (s.effect (u % 32) 5 fun e s => s.gateSwap (fld e.arg 0 10) (fld e.arg 10 1))

/-! The scheduler (R145). -/

/-- The egress queues of a port that hold packets, ascending. -/
def State.portQueues (s : State) (lp : Nat) : List Nat :=
  ((s.flights.filterMap fun x => if x.dest = .lp lp ∧ (x.loc = .queue ∨ x.loc = .fence) then some x.queue else none).eraseDups).mergeSort (· ≤ ·)

/-- The head packet of a queue. -/
def State.qhead (s : State) (q : Nat) : Option Flight := s.flights.find? fun x => x.queue = q && (x.loc = .queue || x.loc = .fence)

/-- A queue may be served (R145). -/
def State.qEligible (s : State) (lp q : Nat) : Bool :=
  match s.qhead q with
  | none => false
  | some x =>
    x.loc = .queue && s.conforms q && s.gateOpen lp x.pkt.tc && s.gateFits lp x.pkt
      && x.cells ≤ s.credits lp (vcOf x.pkt.tc (s.portDir lp)) && (s.tx lp).up && !(s.portSend lp).isEmpty

/-- Weight of a queue: WRR by class and group. -/
def State.weight (s : State) (q : Nat) : Nat := fld (s.tget TB_WRR 0 (q % 256) 0) 0 8

/-- Class of a queue. -/
def queueTc (q : Nat) : Nat := q / 32 % 8

/-- The queues in cyclic order after `c`. -/
def cyclicAfter (l : List Nat) (c : Nat) : List Nat := l.filter (c < ·) ++ l.filter (· ≤ c)

/-- Wire length of a queue's head. -/
def State.headLen (s : State) (q : Nat) : Nat := match s.qhead q with | some x => wireLen x.pkt.length | none => 0

/-- Deficit round robin: visit the queues in turn, each gaining its quantum, until one's deficit covers its head. -/
def State.drrPick (s : State) : List Nat → State × Option Nat
  | [] => (s, none)
  | q :: r =>
    let d := s.qsh.deficit.getD 0 q + s.weight q * 256
    let s := { s with qsh := { s.qsh with deficit := s.qsh.deficit.set 0 q d } }
    if s.headLen q ≤ d then (s, some q) else State.drrPick s r

/-- Serve a class group: the queue now to be served goes on while its deficit lasts; else the round moves on; queues of weight 0 only when none other is eligible. -/
def State.serveGroup (s : State) (lp g : Nat) (el : List Nat) : Option Nat × State :=
  let key := lp * 8 + g
  let r := s.qsh.drr.getD {} key
  let w := el.filter fun q => s.weight q ≠ 0
  let keep := fun (s : State) (q : Nat) => { s with qsh := { s.qsh with drr := s.qsh.drr.put key { cur := q, added := true } } }
  if w = [] then
    match cyclicAfter el r.cur with
    | [] => (none, s)
    | q :: _ => (some q, keep s q)
  else if r.added && w.contains r.cur && s.headLen r.cur ≤ s.qsh.deficit.getD 0 r.cur then (some r.cur, s)
  else
    let o := cyclicAfter w r.cur
    let p := s.drrPick ((List.replicate 18 o).flatten)
    match p.2 with
    | some q => (some q, keep p.1 q)
    | none => (none, p.1)

/-- The first class group with an eligible queue is served. -/
def State.serve (s : State) (lp : Nat) (el : List Nat) : Option Nat × State :=
  match (List.range 8).find? (fun g => el.any fun q => s.classGroup (queueTc q) = g) with
  | none => (none, s)
  | some g => s.serveGroup lp g (el.filter fun q => s.classGroup (queueTc q) = g)

/-- A queue that empties has its deficit reset. -/
def State.emptied (s : State) (q : Nat) : State :=
  if (s.qhead q).isNone then { s with qsh := { s.qsh with deficit := s.qsh.deficit.set 0 q 0 } } else s

/-- Heads of a slice under purge are dropped. -/
def State.purgeHeads (s : State) (lp : Nat) : Nat → State
  | 0 => s
  | f + 1 =>
    match (s.portQueues lp).findSome? (fun q => match s.qhead q with | some x => if s.purged x then some x else none | none => none) with
    | none => s
    | some x => (((s.dropFlight x).emptied x.queue).cnt DTM_PURGE_DROP_count).purgeHeads lp f

/-- Parity errors met, and heads that fit no window, are counted (R152, R159). -/
def State.headChecks (s : State) (lp : Nat) : State :=
  let g := s.gate lp
  let qs := s.portQueues lp
  let s := if g.running && qs ≠ [] && s.gateBad lp g.bank then (s.cnt QSH_PARITY_count).irq 11 3 else s
  qs.foldl (fun s q =>
    let s := if s.shaperBad q then (s.cnt QSH_PARITY_count).irq 11 3 else s
    match s.qhead q with
    | none => s
    | some x =>
      let l := s.gates lp
      if l.isEmpty || x.noFit || s.needHalf lp x.pkt ≤ maxWindow l x.pkt.tc then s
      else ((s.setFlight { x with noFit := true }).cnt QSH_TG_NOFIT_count).irq 11 1) s

/-- The scheduler of a port serves one packet (R145): handed to the link layer, its cells freed, shaper and deficit charged, counted, its age measured. `ue` are words of it found uncorrectable as it is read. -/
def State.dequeue (s : State) (lp : Nat) (ue : List Nat) : State :=
  let s := (s.gateNow lp).purgeHeads lp s.flights.length
  let s := s.headChecks lp
  let r := s.serve lp ((s.portQueues lp).filter (s.qEligible lp))
  match r.1 with
  | none => s
  | some q =>
    match r.2.qhead q with
    | none => s
    | some x =>
      let a := r.2.strikePacket x ue
      match a.1 with
      | none => a.2.emptied q
      | some x =>
        let x := x.marked
        match a.2.handTx lp x (vcOf x.pkt.tc (s.portDir lp)) with
        | none => s
        | some t =>
          let len := wireLen x.pkt.length
          let t := (t.dropFlight x).chargeShaper q len
          let d := t.qsh.deficit.getD 0 q
          let fin := t.fclk + sendHalf len (t.portService lp).length * 2 ^ 47
          let t := { t with qsh := { t.qsh with deficit := t.qsh.deficit.set 0 q (d - len), sendEnd := t.qsh.sendEnd.put lp (x.pkt.tc, fin) } }
          let t := (t.event 11 0x10 (some x.pkt.tc)).event 11 0x11 (some x.pkt.tc) len
          (t.ageSample x.pkt).emptied q

/-- EGRESS_DEQUEUE (R145). -/
def execEgressDequeue (lp : Nat) (ue : List Nat) (s : State) : Host.Outcome State Fault Refusal := act s (s.dequeue (lp % 1024) ue)

/-! Published loads (R146). -/

/-- Cells queued for a logical port in all its classes: those that have crossed to it (R139). -/
def State.portCells (s : State) (lp : Nat) : Nat :=
  ((s.flights.filter fun x => x.dest = .lp lp && (match x.loc with | .reseq => true | .fence => true | .queue => true | _ => false)).map (·.cells)).sum

/-- The ports packets are held for. -/
def State.heldPorts (s : State) : List Nat := (s.flights.filterMap fun x => match x.dest with | .lp n => some n | _ => none).eraseDups

/-- The whole set of loads is replaced, once in 40 cycles. -/
def State.loadRefresh (s : State) : State :=
  if s.cyc < s.qsh.loadAt + 40 then s else
  { s with qsh := { s.qsh with load := s.heldPorts.foldl (fun m p => SMap.set 0 p (s.portCells p) m) [], loadAt := s.cyc } }

/-- LOAD_REFRESH (R146). -/
def execLoadRefresh (s : State) : Host.Outcome State Fault Refusal := act s s.loadRefresh

/-! Tables (R159). -/

/-- A QSH command completes: 0 OK, 2 BUSY, 3 INVALID, 5 PARITY. -/
def State.qshDone (s : State) (st : Nat) : State := ((s.wr QSH_TSTAT_busy 0).wr QSH_TSTAT_status st).irq 11 0

/-- The store's table and number of entries of a code. -/
def qshTable (t : Nat) : Option (Nat × Nat) :=
  match t with
  | 0 => some (TB_SHAPER, 262144)
  | 1 => some (TB_WRR, 256)
  | 2 => some (TB_POLICER, 32768)
  | 3 => some (TB_TGATE, 65536)
  | 4 => some (TB_TGCFG, 1024)
  | 5 => some (TB_QGMAP, 4096)
  | _ => none

/-- Words of an entry as READ returns them. -/
def State.qshEntry (s : State) (t tb b k : Nat) : List Nat :=
  match t with
  | 0 => [s.tget tb 0 k 0, ofSigned 32 (s.qsh.bucket.getD 0 k / 1600)]
  | 2 => [s.tget tb 0 k 0, s.tget tb 0 k 1]
  | 3 => [s.tget tb b k 0]
  | 4 => let g := s.gate k; [s.tget tb 0 k 0 ||| (if g.running then g.bank else 0) <<< 1 ||| (if g.running then 1 else 0) <<< 2]
  | 5 => [s.qgroup k]
  | _ => [s.tget tb 0 k 0]

/-- READ of a QSH table. -/
def State.qshRead (s : State) (t b : Nat) : State :=
  let k := s.rd QSH_TKEY_key
  match qshTable t with
  | none => s.qshDone 3
  | some (tb, n) =>
    if n ≤ k then s.qshDone 3 else
    let b := if t = 3 then b else 0
    let s' := (s.qshEntry t tb b k).zipIdx.foldl (fun s (v, w) => s.wr QSH_TDATA_data v 0 w) s
    s'.qshDone (if s.isBad tb b k 0 16 || s.isBad tb b k 1 16 then 5 else 0)

/-- Write a policer: covered by its slice's datum; both buckets start full (R148, R378). -/
def State.policerStore (s : State) (k w0 w1 : Nat) : State :=
  let sl := k / 8
  let s := s.coverSl sl 0x25 (k % 8 * 2) (s.tget TB_POLICER 0 k 0) w0
  let s := s.coverSl sl 0x25 (k % 8 * 2 + 1) (s.tget TB_POLICER 0 k 1) w1
  let s := (s.tset TB_POLICER 0 k 0 w0).tset TB_POLICER 0 k 1 w1
  { s with qsh := { s.qsh with pol := s.qsh.pol.set {} k (if w0 = 0 ∧ w1 = 0 then {} else { tc := fld w1 0 24 * 16000, tp := fld w1 24 24 * 16000, at_ := s.cyc }) } }

/-- Stage a word of a slice table: the store keeps staged XOR in force, bit 64 marking a written word (R370). -/
def State.stageWord (s : State) (tb k w v : Nat) : State :=
  { s with stgT := s.stgT.set 0 (tkey tb 0 k w) (v ^^^ s.tget tb 0 k w ||| 1 <<< 64) }

/-- WRITE of a QSH table. -/
def State.qshWrite (s : State) (t b : Nat) : State :=
  let k := s.rd QSH_TKEY_key
  let d0 := s.rd QSH_TDATA_data 0 0
  let d1 := s.rd QSH_TDATA_data 0 1
  match qshTable t with
  | none => s.qshDone 3
  | some (tb, n) =>
    if n ≤ k then s.qshDone 3 else
    match t with
    | 0 =>
      let w := fld d0 0 22 ||| fld d0 24 24 <<< 24 ||| fld d0 48 9 <<< 48
      if toSigned 9 (fld d0 48 9) < -64 then s.qshDone 3 else
      let s := ((s.tset tb 0 k 0 w).mend tb 0 k 0)
      ({ s with qsh := { s.qsh with bucket := s.qsh.bucket.set 0 k ((fld w 24 24 * 1600 : Nat) : Int) } }).qshDone 0
    | 1 => ((s.tset tb 0 k 0 (fld d0 0 8)).mend tb 0 k 0).qshDone 0
    | 2 =>
      if fld d0 22 22 < fld d0 0 22 then s.qshDone 3
      else if s.sliceState (k / 8) = 2 then s.qshDone 2
      else (((s.policerStore k (fld d0 0 47) (fld d1 0 48)).mend tb 0 k 0).mend tb 0 k 1).qshDone 0
    | 3 =>
      let g := s.gate (k / 64)
      if g.running && g.bank = b then s.qshDone 2
      else ((s.tset tb b k 0 (fld d0 0 32)).mend tb b k 0).qshDone 0
    | 4 =>
      let s := (s.tset tb 0 k 0 (fld d0 0 1 ||| fld d0 8 8 <<< 8)).mend tb 0 k 0
      (if bit d0 0 then s else s.setGate k { s.gate k with running := false }).qshDone 0
    | _ =>
      if s.sliceState k = 2 then s.qshDone 2
      else (s.stageWord tb k 0 (fld d0 0 5 ^^^ qgDefault k)).qshDone 0

/-- A write of QSH_TCMD: the command runs at once (R115, R159). -/
def State.qshTcmd (s : State) (op t b : Nat) : State :=
  match op with
  | 1 => s.qshRead t b
  | 2 => s.qshWrite t b
  | _ => s.qshDone 3

/-- QSH_READ (R159). -/
def execQshRead (table bank : Nat) (s : State) : Host.Outcome State Fault Refusal :=
  hostWrite s 11 0x200 fun s => s.qshTcmd 1 (table % 16) (bank % 2)

/-- QSH_WRITE (R159). -/
def execQshWrite (table bank : Nat) (s : State) : Host.Outcome State Fault Refusal :=
  hostWrite s 11 0x200 fun s => s.qshTcmd 2 (table % 16) (bank % 2)

end Sys2Proof.Machine
end

