-- ==== Sys2Proof/Machine/Reroute.lean ====
section
/-! DEFINITION. Packets of a logical port that went down, routed again (R271, R272, R359). -/

namespace Sys2Proof.Machine

/-- The exit a waybill leads to is a spray set (R271). -/
def State.exitSpray (s : State) : Nat → Pkt → Bool
  | 0, _ => false
  | f + 1, p =>
    let e := p.waybill.getD p.hopPtr 0
    match fld e 14 2 with
    | 1 => true
    | 2 =>
      match s.dimHop p.dst (fld e 3 3) (fld e 0 3) with
      | some d => fld (s.tget TB_DIM p.epoch (p.slice * 512 + d * 64 + fld p.dst (dimField d).1 (dimField d).2) 0) 14 2 = 2
      | none => if p.hopPtr = p.hopCount then false else s.exitSpray f (consume p)
    | _ => false

/-- What becomes of a packet routed again. -/
inductive Again where
  | later | routed | dropped
deriving DecidableEq, Repr

/-- Route a packet of lost port `lp` again (R271): as it stood when received, with the bank of its epoch. It takes its cells as a packet received on the port would, and waits where there are none (R272). -/
def State.reroute (s : State) (x : Flight) (lp : Nat) : Again × State :=
  let f := s.portFibre lp
  let pipe := f / 4
  let vc := vcOf x.pkt.tc (1 - s.portDir lp)
  let p : Pkt := { x.pkt with hopPtr := x.hop0, wbDone := 0 }
  let lost := fun (s : State) (d : RegD) (n why : Nat) => (Again.dropped, (s.cnt d n).nak p x.pipe why)
  if p.epoch ≠ s.rd FWD_SLICE_EPOCH_cur_epoch 0 p.slice ∧ !s.flag FWD_SLICE_EPOCH_draining 0 p.slice then lost s FWD_DROP_EPOCH_count pipe 4
  else if !s.vcRoom lp vc x.cells || s.avail 0 < x.cells then (.later, s.allocFail false 256)
  else
    let r := s.resolve 9 pipe p
    match r.1 with
    | .error (c, why) => if c = FWD_DROP_NOPORT_count then lost r.2 LNK_REROUTE_DROP_count (f / 8) 8 else lost r.2 c pipe why
    | .ok (d, q) =>
      if !s.exitSpray 9 p then lost r.2 LNK_REROUTE_DROP_count (f / 8) 8 else
      match r.2.takeVc lp vc x.cells with
      | none => (.later, r.2.allocFail false 256)
      | some (bufs, t) =>
        let t := t.enter q x.pipe (if s.bypassed f then s.pipeCore pipe else 2 * f) (some lp) vc d bufs x.hop0 x.own x.ans
        let t : State := { t with flights := t.flights.map fun (y : Flight) => if y.id + 1 = t.nextId then { y with reroute := some (f / 8), byHost := x.byHost } else y }
        (.routed, t)

/-- Packets of a lost port are routed again in the given order; those without buffer wait (R272). -/
def State.rerouteAll (s : State) (l : List Flight) : State :=
  l.foldl (fun s x =>
    match x.dest with
    | .lp lp =>
      let r := s.reroute x lp
      match r.1 with
      | .later => { r.2 with link := { r.2.link with rer := r.2.link.rer ++ [x] } }
      | _ => r.2
    | _ => s) s

/-- Waiting packets are tried again each cell time (R272). -/
def State.retryReroutes (s : State) : State :=
  let l := s.link.rer
  if l.isEmpty then s else ({ s with link := { s.link with rer := [] } }).rerouteAll l

end Sys2Proof.Machine
end

