-- ==== Sys2Proof/Machine/Ring.lean ====
section
/-! DEFINITION. Command rings and the host path's queues as the crossbar sees them: which ring runs, what it has to serve, which receive queue takes a packet (R436, R444, R445, R452). -/

namespace Sys2Proof.Machine

/-- A ring outside its registers. -/
def State.ring_ (s : State) (q : Nat) : HifRing := s.hif.rings.getD {} q

/-- Descriptors of a BAR2 ring (R436). -/
def State.ringSize (s : State) (q : Nat) : Nat :=
  let n := s.rd HIF_RQ_CFG_size_log q
  2 ^ (if 4 ≤ n ∧ n ≤ 16 then n else 4)

/-- A BAR2 ring runs: enabled, not stopped by the link, bus master, firmware running (R423, R436, R460). -/
def State.ringOn (s : State) (q : Nat) : Bool :=
  s.flag HIF_RQ_CFG_enable q && !(s.ring_ q).stopped && s.busMaster && !s.noFirmware

/-- The slot after `i`. -/
def State.slotNext (s : State) (q i : Nat) : Nat := (i + 1) % s.ringSize q

/-- The host path runs: its enable, firmware. -/
def State.hostPathOn (s : State) : Bool := s.flag HIF_HP_CFG_enable && !s.noFirmware

/-- A ring of the host path has a descriptor to serve. -/
def State.hpReady (s : State) (q : Nat) : Bool := s.hostPathOn && s.ringOn q && s.rd HIF_RQ_HEAD_head q ≠ s.rd HIF_RQ_TAIL_tail q

/-- Free descriptors of a receive queue (R445). -/
def State.rxFree (s : State) (q : Nat) : Nat := if s.hpReady q then (s.rd HIF_RQ_TAIL_tail q + s.ringSize q - s.rd HIF_RQ_HEAD_head q) % s.ringSize q else 0

/-- A kind 5 packet the management function consumes (R452). -/
def isMgmt (p : Pkt) : Bool :=
  p.kind = 5 && 16 ≤ p.payload.length &&
    (let typ := leNat ((p.payload.drop 4).take 1)
     (1 ≤ typ && typ ≤ 0x13) || bit (leNat (p.payload.take 4)) 31)

/-- The type byte of a management packet. -/
def mgmtType (p : Pkt) : Nat := leNat ((p.payload.drop 4).take 1)

/-- The receive queue of a packet for the host path (R445, R452). -/
def rxQueue (p : Pkt) : Nat := if p.kind = 5 then 24 else 24 + p.tc % 8

end Sys2Proof.Machine
end

