-- ==== Sys2Proof/Machine/Xbar.lean ====
section
/-! DEFINITION. The crossbar: admission at the inputs, matching, cells handed over, resequencing, plane faults (R125 to R133, R138). -/

namespace Sys2Proof.Machine

/-! Egress admission of waiting packets (R137, R138). -/

/-- An earlier packet of the same virtual output queue waits for admission. -/
def State.blocked (s : State) (x : Flight) : Bool :=
  (s.flights.takeWhile fun y => y.id ≠ x.id).any fun y =>
    y.loc = .voq && y.inCore = x.inCore && y.outCore = x.outCore && y.pkt.tc = x.pkt.tc && !y.admitted && (match y.dest with | .lp _ => true | _ => false)

/-- Judge a packet bound for a logical port (R137, R138, R153). -/
def State.judge (s : State) (x : Flight) (lp : Nat) : State :=
  if s.blocked x then s else
  let tc := x.pkt.tc
  let g := if x.waited then (x.queue % 32, s) else s.queueGroup x.pkt.slice
  let s := g.2
  let q := queueNo lp tc g.1
  let fits := s.admitted q x.pkt x.cells
  let beyond : Bool := s.rd QSH_SPILL_MARKS_on_die_max < s.queueCells q + x.cells
  let wait := fun (s : State) =>
    let s := if x.waited then s else s.cnt QSH_DT_WAIT_count
    s.setFlight { x with queue := q, waited := true }
  if !fits && s.lossless tc then wait s
  else if (s.spills tc && (!fits || beyond)) || (fits && !(s.chain q).isEmpty) then s.spill x lp q
  else if fits then s.setFlight { x with queue := q, admitted := true, waited := false, admAt := s.cyc }
  else (s.dropFlight x).cnt QSH_DROP_DT_count

/-- All waiting packets are judged, by ascending input core port, then in order of arrival; with no plane enabled they wait (R131). -/
def State.judgeAll (s : State) : State :=
  if s.rd XBR_CTRL_plane_en = 0 then s else
  let l := (s.flights.filter fun x => x.loc = .voq && !x.admitted && (match x.dest with | .lp _ => true | _ => false)).mergeSort fun a b => decide (a.inCore ≤ b.inCore)
  l.foldl (fun s x => match x.dest with | .lp n => s.judge x n | _ => s) s

/-! Requests. -/

/-- A Serai core port takes packets while its arrival queue has room for them (R137, R212). -/
def State.coreRoom (s : State) (l : Nat) : Bool :=
  let aq := match s.physOf l with | some p => (s.core p).aq.length | none => 0
  let on := (s.flights.filter fun x => x.dest = .serai l && !x.admitted && (x.loc ≠ .voq || x.handed ≠ 0)).length
  aq + on < 32 && !s.ser.fencing.contains l

/-- The host path takes packets while a receive queue has descriptors for them, and one that then waits for a descriptor (R137, R445, log entry 89); the management function takes its own as they come. -/
def State.hostRoom (s : State) (x : Flight) : Bool :=
  isMgmt x.pkt || decide ((s.flights.filter fun y => y.dest = .host && !y.admitted && !isMgmt y.pkt && rxQueue y.pkt = rxQueue x.pkt && (y.loc ≠ .voq || y.handed ≠ 0)).length
    < max 1 (s.rxFree (rxQueue x.pkt)))

/-- A packet whose cells may be handed to planes (R129, R137). -/
def State.ready (s : State) (x : Flight) : Bool :=
  x.loc = .voq && s.coreOpen x.inCore && s.coreOpen x.outCore && (match x.dest with
    | .lp _ => x.admitted
    | .serai l => !s.ser.fencing.contains l && (x.handed ≠ 0 || s.coreRoom l)
    | .host => x.handed ≠ 0 || s.hostRoom x
    | .bcast => false)

/-- The first packet of a virtual output queue (R128, R130). -/
def State.voqHead (s : State) (i o tc : Nat) : Option Flight :=
  s.flights.find? fun x => x.loc = .voq && x.inCore = i && x.outCore = o && x.pkt.tc = tc && x.dest ≠ .bcast

/-- Requests of this cell time: input, output, priority of the highest class group (R129). -/
def State.requests (s : State) : List (Nat × Nat × Nat) :=
  let keys := (s.flights.filterMap fun x => if x.loc = .voq && x.dest ≠ .bcast then some (x.inCore, x.outCore, x.pkt.tc) else none).eraseDups
  keys.foldl (fun l (i, o, tc) =>
    match s.voqHead i o tc with
    | some x =>
      if s.ready x then
        let g := s.classGroup tc
        if l.any (fun r => r.1 = i && r.2.1 = o) then l.map fun (a, b, c) => if a = i ∧ b = o then (a, b, min c g) else (a, b, c)
        else l ++ [(i, o, g)]
      else l
    | none => l) []

/-- The best of a list of (port, priority): highest priority, then first at or after the pointer. -/
def pickPort (ptr : Nat) : List (Nat × Nat) → Option (Nat × Nat)
  | [] => none
  | a :: r =>
    match pickPort ptr r with
    | none => some a
    | some b => if b.2 < a.2 ∨ (b.2 = a.2 ∧ (b.1 + 192 - ptr) % 192 < (a.1 + 192 - ptr) % 192) then some b else some a

/-- One iteration of request, grant and accept on plane `p` (R129); accepts of the first move pointers (R130). -/
def State.matchStep (s : State) (p : Nat) (first : Bool) (rs : List (Nat × Nat × Nat)) (m : List (Nat × Nat)) : State × List (Nat × Nat) :=
  let free := rs.filter fun r => !(m.any fun e => e.1 = r.1 || e.2 = r.2.1)
  let outs := (free.map (·.2.1)).eraseDups
  let grants : List (Nat × Nat × Nat) := outs.filterMap fun o =>
    (pickPort (s.xbr.grant.getD 0 (p * 192 + o)) ((free.filter fun r => r.2.1 = o).map fun r => (r.1, r.2.2))).map fun a => (a.1, o, a.2)
  let ins := (grants.map (·.1)).eraseDups
  ins.foldl (fun (r : State × List (Nat × Nat)) i =>
    match pickPort (s.xbr.accept.getD 0 (p * 192 + i)) ((grants.filter fun g => g.1 = i).map fun g => (g.2.1, g.2.2)) with
    | none => r
    | some (o, _) =>
      let t := if first then { r.1 with xbr := { r.1.xbr with grant := r.1.xbr.grant.set 0 (p * 192 + o) ((i + 1) % 192),
                                                              accept := r.1.xbr.accept.set 0 (p * 192 + i) ((o + 1) % 192) } } else r.1
      (t, r.2 ++ [(i, o)])) (s, m)

/-- The match of plane `p` (R129). -/
def State.matchPlane (s : State) (p : Nat) (rs : List (Nat × Nat × Nat)) : State × List (Nat × Nat) :=
  let a := s.matchStep p true rs []
  let b := a.1.matchStep p false rs a.2
  b.1.matchStep p false rs b.2

/-! Cells. -/

/-- The packet whose cell a matched pair takes: of the virtual output queues of the highest class group, one is taken; which of equals is not stated (log entry 1). -/
def State.pickCell (s : State) (i o : Nat) : Option Flight × State :=
  let l := ((List.range 8).filterMap fun tc => s.voqHead i o tc).filter s.ready
  let g := l.foldl (fun m x => min m (s.classGroup x.pkt.tc)) 8
  match l.filter (fun x => s.classGroup x.pkt.tc = g) with
  | [] => (none, s)
  | [x] => (some x, s)
  | x :: r => let f := s.takeFree 8; ((x :: r)[f.1 % (r.length + 1)]?, f.2)

/-- A packet's last cell has been handed over: its cells count at its output, its credits return (R139). -/
def State.crossed (s : State) (x : Flight) : State :=
  (s.moveFlight x .reseq).giveCredit x

/-- The cell of pair (i, o) is handed to plane `p` with the next pair sequence number (R127, R128); a lost one is missed at the output (R132). -/
def State.handCell (s : State) (p i o : Nat) (lost : Bool) : State :=
  let r := s.pickCell i o
  match r.1 with
  | none => r.2
  | some x =>
    let s := r.2
    let q := s.xbr.seq.getD 0 (i * 192 + o)
    let miss := s.xbr.miss.map fun (e : MissCell) => if e.inp = i && e.out = o && e.later.isNone && !lost then { e with later := some s.cyc } else e
    let miss := if lost then miss ++ [{ inp := i, out := o, seq := q, flight := x.id }] else miss
    let s : State := { s with xbr := { s.xbr with seq := s.xbr.seq.set 0 (i * 192 + o) ((q + 1) % 65536), miss := miss } }
    let s := s.event 9 (0x10 + p) (some x.pkt.tc)
    let x : Flight := { x with handed := x.handed + 1, lastSeq := q }
    if x.cells ≤ x.handed then s.crossed x else s.setFlight x

/-- One cell time (R128, R129): packets are judged; each enabled plane matches; cells are handed over in ascending plane order. `lost` are cells lost by plane and input; `ue` are words of waiting packets found uncorrectable as they are read, by packet and 64-bit word; `bad` are table words that fail parity from now on. -/
def State.cellTime (s : State) (lost ue : List (Nat × Nat)) (bad : List Nat) : State :=
  if s.cyc < s.xbr.at_ + 10 then s else
  let s : State := { s with xbr := { s.xbr with at_ := s.cyc } }
  let s := (s.spoil bad).retryReroutes.bcRetry.judgeAll
  let ids := (ue.map (·.1)).eraseDups
  let s := ids.foldl (fun s i => match s.flight i with
    | some x => if x.loc = .voq then (s.strikePacket x ((ue.filter fun e => e.1 = i).map (·.2))).2 else s
    | none => s) s
  let rs := s.requests
  let r := (bitsOf 5 (s.rd XBR_CTRL_plane_en)).foldl (fun (r : State × List (Nat × Nat × Nat)) p =>
    let m := r.1.matchPlane p rs
    (m.1, r.2 ++ m.2.map fun e => (p, e.1, e.2))) (s, [])
  r.2.foldl (fun s (p, i, o) => s.handCell p i o (lost.contains (p, i))) r.1

/-- CROSSBAR_CELL_TIME (R128). -/
def execCrossbarCellTime (lost ue : List (Nat × Nat)) (bad : List Nat) (s : State) : Host.Outcome State Fault Refusal :=
  act s (s.cellTime lost ue bad)

/-! Outputs. -/

/-- A sequence number lies before another, modulo 2^16. -/
def pairBefore (a b : Nat) : Bool := a ≠ b && (b + 65536 - a) % 65536 < 32768

/-- The first packet of a pair whose cells have all been handed over is complete when no cell before its last is missing (R132): a local consumer gets it; a logical port's egress queue, after the egress slice check (R104). The poison bits its cells brought are marked in its header (R78, R127). -/
def State.reassembled (s : State) (i o : Nat) : State :=
  match s.flights.find? (fun x => x.loc = .reseq && x.inCore = i && x.outCore = o) with
  | none => s
  | some x =>
    if s.xbr.miss.any (fun e => e.inp = i && e.out = o && (e.seq = x.lastSeq || pairBefore e.seq x.lastSeq)) then s else
    let x := x.marked
    match x.dest with
    | .lp lp =>
      let a := s.egressSlice x lp
      if a.1 then (a.2.countReroute x).placeQueue x else a.2.dropEgress x lp
    | _ => s.placeQueue { x with admitted := false }

/-- PACKET_REASSEMBLED (R104, R132). -/
def execPacketReassembled (i o : Nat) (s : State) : Host.Outcome State Fault Refusal := act s (s.reassembled (i % 192) (o % 192))

/-- A missing cell not come within timeout_ns of a later one: every packet of the pair that holds a missing cell is dropped (R132). -/
def State.reseqTimeout (s : State) (i o : Nat) : State :=
  let t := nsCyc (max 100 (s.rd XBR_RESEQ_timeout_ns))
  let l := s.xbr.miss.filter fun e => e.inp = i && e.out = o
  match l with
  | [] => s
  | e :: _ =>
    if !(match e.later with | some c => decide (c + t ≤ s.cyc) | none => false) then s else
    let ids := (l.map (·.flight)).eraseDups
    let s : State := { s with xbr := { s.xbr with miss := s.xbr.miss.filter fun e => !(e.inp = i && e.out = o) } }
    ids.foldl (fun s id => match s.flight id with
      | some x => (((s.dropFlight x).cnt XBR_RESEQ_LOST_count).irq 9 1).nak x.pkt x.pipe 8
      | none => s) s

/-- RESEQ_TIMEOUT (R132). -/
def execReseqTimeout (i o : Nat) (s : State) : Host.Outcome State Fault Refusal := act s (s.reseqTimeout (i % 192) (o % 192))

/-- A plane fault is counted, marked and raised; the plane stays in use (R131). -/
def State.planeFault (s : State) (p : Nat) : State :=
  ((s.cnt XBR_PLANE_ERR_count).wr XBR_PLANE_STATUS_plane_err (s.rd XBR_PLANE_STATUS_plane_err ||| 1 <<< p)).irq 9 0

/-- PLANE_FAULT (R131). -/
def execPlaneFault (p : Nat) (s : State) : Host.Outcome State Fault Refusal := act s (s.planeFault (p % 5))

end Sys2Proof.Machine
end

