-- ==== Sys2Proof/Machine/Lane.lean ====
section
/-! DEFINITION. Lanes and logical ports: coming into service, leaving it, ports going up and down, retry and credit messages and timers (R270, R323, R324, R331 to R339, R343, R346). -/

namespace Sys2Proof.Machine

/-- PAGE_IRQ_STATUS of an engine's LNK page. -/
def State.lnkIrq (s : State) (f b : Nat) : State := s.irq (0x38 + f / 8) b

/-- Set a lane's state. -/
def State.setLane (s : State) (l v : Nat) : State := s.wrLane LNK_LANE_state v l

/-- Set a lane's last cause (R337). -/
def State.setCause (s : State) (l v : Nat) : State := s.wrLane LNK_LANE_cause v l

/-- The lane's cause. -/
def State.cause (s : State) (l : Nat) : Nat := s.rdLane LNK_LANE_cause l

/-- The fibre has a lane in READY or SERVICE other than `l`. -/
def State.otherLit (s : State) (l : Nat) : Bool := (lanesOf (l / 16)).any fun m => m ≠ l && s.laneCarries m

/-- Send LANE_NOTICE for a lane: 0 leaving, 1 rejoining; only on an EXPECTED fibre with minor 1 or more (R338). -/
def State.laneNotice (s : State) (l v : Nat) : State :=
  if s.noticeOk (l / 16) then s.sendLmf (l / 16) { typ := 0x33, body := [l % 16, v] } else s

/-- Announce that a READY lane rejoins (R335, R338). -/
def State.rejoin (s : State) (l : Nat) : State :=
  if s.noticeOk (l / 16) then (s.laneNotice l 1).setLaneX l { s.laneX l with sentRej := true } else s

/-- The absence timer of a fibre starts where no lane is lit and it is not running (R344). -/
def State.startTimer (s : State) (f : Nat) : State :=
  let x := s.fib f
  if s.lit f || x.timer.isSome then s else s.setFib f { x with timer := some s.cyc, gone := false }

/-- A lane goes to TRAIN; the absence timer of its fibre starts where no lane is lit and it is not running (R344). -/
def State.toTrain (s : State) (l : Nat) : State :=
  let f := l / 16
  (s.setLane l laneTRAIN).startTimer f

/-! Ports. -/

/-- A port goes up: retry sequences, blocks and credits start afresh in both directions (R335). -/
def State.portUp (s : State) (lp : Nat) : State :=
  let s := s.wr LP_CFG_link_up 1 0 lp
  (s.setTx lp { up := true, ackAt := s.cyc }).setRx lp { ackAt := s.cyc, sentAt := s.cyc }

/-- A port goes down: link_up clears, credit state is discarded, and every packet not acknowledged is routed again in retry-sequence order (R271, R336). -/
def State.portDown (s : State) (lp : Nat) : State :=
  if !s.flag LP_CFG_link_up 0 lp then s else
  let l := (s.tx lp).held.map (·.fl)
  let s := ((s.wr LP_CFG_link_up 0 0 lp).setTx lp {}).setRx lp {}
  s.rerouteAll l

/-- Send again on the surviving lanes every packet held from the oldest with a block in the bank of a lane that left; those that had been sent are counted (R270, R338). -/
def State.laneResend (s : State) (lp : Nat) (gone : List Nat) : State :=
  let t := s.tx lp
  match t.held.filter fun h => t.blocks.any fun b => gone.contains b.lane && seqLe b.first h.seq && seqLe h.seq b.last with
  | [] => s
  | o :: _ =>
    let l := t.held.filter fun h => seqLe o.seq h.seq && (!seqLe t.cur h.seq || (h.seq = t.cur && t.off ≠ 0))
    (s.setTx lp (t.again (if seqLe t.cur o.seq then t.cur else o.seq))).cnt LNK_LANE_RESEND_count (s.portFibre lp / 8) 0 0 l.length

/-! Leaving service. -/

/-- A lane leaves SERVICE counted toward its flap limit (R324): whether it becomes FAILED. -/
def State.flap (s : State) (l : Nat) (free : Bool) : Bool × State :=
  if free then (false, s) else
  let x := s.laneX l
  let fl := (x.flaps.filter fun c => s.cyc < c + 2000000000) ++ [s.cyc]
  let n := s.rd LNK_ERR_CFG_flap_max (l / 128)
  (n ≠ 0 && n ≤ fl.length, s.setLaneX l { x with flaps := fl })

/-- A lane's readiness to rejoin is forgotten. -/
def State.forget (s : State) (l : Nat) : State := s.setLaneX l { s.laneX l with sentRej := false, gotRej := false, frames := 0 }

/-- One lane of READY or SERVICE leaves for `cause` (R337, R338): counted, raised, announced; it goes to TRAIN, or OFF for `off`, or FAILED at its flap limit. -/
def State.leaveOne (s : State) (l cause : Nat) (off free : Bool) : State :=
  let was := s.lane l
  let s := if cause = 6 then s else s.laneNotice l 0
  let s := s.forget l
  let r := if was = laneSERVICE then s.flap l free else (false, s)
  let s := r.2.setCause l cause
  let s := if off then s.setLane l laneOFF else if r.1 then (s.setLane l laneFAILED).lnkIrq (l / 16) 1 else s.setLane l laneTRAIN
  (s.cnt LNK_LANE_DOWN_count (l / 128)).lnkIrq (l / 16) 0

/-- Lanes of READY or SERVICE leave together for one cause (R337, R338): each port that loses lanes re-sends on those it keeps (R270), or goes down (R271). -/
def State.leave (s : State) (ls : List Nat) (cause : Nat) (off : Bool := false) (free : Bool := false) : State :=
  let ls := ls.filter s.laneCarries
  let svc := ls.filter fun l => s.lane l = laneSERVICE
  let ps := (svc.filterMap s.lanePort).eraseDups
  let s := ls.foldl (fun s l => s.leaveOne l cause off free) s
  let s := (((ls.filter fun l => s.lane l = laneTRAIN).map (· / 16)).eraseDups).foldl State.startTimer s
  ps.foldl (fun s p => if s.portService p = [] then s.portDown p else s.laneResend p svc) s

/-- A loss of light after a neighbour's bypass does not count toward the flap limit: from C + d − 8 ns to C + d + 200 µs (R362). -/
def State.losFree (s : State) (f : Nat) : Bool :=
  (s.fib f).cuts.any fun k => k.c + s.mldClk f ≤ s.fclk + 8 * NS && s.fclk ≤ k.c + s.mldClk f + 200000 * NS

/-- The entry of a lane map, as a table for parity. -/
def TB_LANEMAP : Nat := 35

/-- Causes 1 to 4 of R337 hold of a lane: 1, the received power `x`, in 2^-24 mW, lies below −los_dbm; 2, two frame markers have not come in a row; 3, ucw_max uncorrectable codewords came within the last 1 ms; 4, the BER `x` over the last 1 ms, in units of 10^-8, lies above ber_max. -/
def State.causeHolds (s : State) (l cause x : Nat) : Bool :=
  let e := l / 128
  match cause with
  | 1 => x ^ 10 * 10 ^ s.rd LNK_ERR_CFG_los_dbm e < 2 ^ 240
  | 2 => 13600 < 7 * (s.cyc - (s.laneX l).markAt)
  | 3 => s.rd LNK_ERR_CFG_ucw_max e ≤ ((s.laneX l).ucw.filter fun c => s.cyc < c + msCyc 1).length
  | _ => 1000 * s.rd LNK_ERR_CFG_ber_max e < x

/-- The pre-FEC BER of a lane over the last 1 ms is shown, saturating (R348). -/
def State.setBer (s : State) (l x : Nat) : State := s.wrLane LNK_LANE_ber (min x 65535) l

/-- Lanes leave for causes their receivers find, each with what the receiver measures: 1 LOS, 2 FRAME, 3 UCW, 4 BER, none of them inside a receive hold window (R337); 8 for a parity error in the lane's map entry (R350). -/
def State.laneCause (s : State) (lx : List (Nat × Nat)) (cause : Nat) : State :=
  let lx := lx.map fun x => (x.1 % 1024, x.2)
  let ls := lx.map (·.1)
  if cause = 8 then
    let s := s.spoil (ls.map fun l => tkey TB_LANEMAP 0 l 0 * 32 + 16)
    let s := (ls.map (· / 16)).eraseDups.foldl (fun s f => s.lnkIrq f 3) s
    s.leave ls 8
  else if 1 ≤ cause ∧ cause ≤ 4 then
    let s := if cause = 4 then lx.foldl (fun s x => s.setBer x.1 x.2) s else s
    let ls := (lx.filter fun x => !s.laneRxHeld x.1 && s.causeHolds x.1 cause x.2).map (·.1)
    let a := ls.filter fun l => cause = 1 && s.losFree (l / 16)
    let b := ls.filter fun l => !(cause = 1 && s.losFree (l / 16))
    (s.leave a cause false true).leave b cause
  else s

/-- LANE_LEAVE_SERVICE (R337). -/
def execLaneLeaveService (lanes : List (Nat × Nat)) (cause : Nat) (s : State) : Host.Outcome State Fault Refusal := act s (s.laneCause lanes cause)

/-! Coming into service. -/

/-- The rejoin of R335 is complete. -/
def State.rejoined (s : State) (l : Nat) : Bool :=
  let x := s.laneX l
  if s.noticeOk (l / 16) then x.sentRej && x.gotRej else 3 ≤ x.frames

/-- A READY lane that has completed the rejoin on an EXPECTED fibre enters SERVICE; its port goes up with the first (R335). -/
def State.enterService (s : State) (l : Nat) : State :=
  if s.lane l ≠ laneREADY || s.trv (l / 16) ≠ 2 || !s.rejoined l then s else
  match s.lanePort l with
  | none => s
  | some p =>
    if s.isBad TB_LANEMAP 0 l 0 16 then s else
    let s := s.setLane l laneSERVICE
    if s.flag LP_CFG_link_up 0 p then s else s.portUp p

/-- LANE_SERVICE_ENTRY (R335). -/
def execLaneServiceEntry (lane : Nat) (s : State) : Host.Outcome State Fault Refusal := act s (s.enterService (lane % 1024))

/-- A received LANE_NOTICE of a lane whose fibre is EXPECTED with minor 1 or more (R346): leaving, or rejoining. -/
def State.noticeRx (s : State) (l v : Nat) : State :=
  if v = 0 then (s.setLaneX l { s.laneX l with gotRej := false }).leave [l] 6
  else s.setLaneX l { s.laneX l with gotRej := true }

/-- A received LANE_NOTICE: held while the fibre is not EXPECTED, ignored toward minor 0 (R346). -/
def State.laneNoticeRx (s : State) (l v : Nat) : State :=
  let f := l / 16
  if s.bypassed f then s else
  if s.trv f ≠ 2 then s.setLaneX l { s.laneX l with held := some v }
  else if s.noticeOk f then s.noticeRx l v
  else s

/-- LANE_NOTICE (R346). -/
def execLaneNotice (f line state : Nat) (s : State) : Host.Outcome State Fault Refusal :=
  act s (if 16 ≤ line then s else s.laneNoticeRx (f % 64 * 16 + line) (state % 2))

/-! Traverse states (R343). -/

/-- The ports with a lane on a fibre. -/
def State.fibrePorts (s : State) (f : Nat) : List Nat := ((lanesOf f).filterMap s.lanePort).eraseDups

/-- A fibre leaves EXPECTED: link_up clears on its ports, its lanes return to READY, its packets are routed again (R345). -/
def State.leaveExpected (s : State) (f : Nat) : State :=
  let s := (lanesOf f).foldl (fun s l => (if s.lane l = laneSERVICE then s.setLane l laneREADY else s).forget l) s
  (s.fibrePorts f).foldl (fun s p => s.portDown p) s

/-- A fibre becomes EXPECTED: READY lanes announce that they rejoin, held notices act; with minor 0 they are discarded (R338, R346). -/
def State.becomeExpected (s : State) (f : Nat) : State :=
  let s := (lanesOf f).foldl (fun s l => s.setLaneX l { s.laneX l with frames := 0 }) s
  let s := (lanesOf f).foldl (fun s l => if s.lane l = laneREADY then s.rejoin l else s) s
  (lanesOf f).foldl (fun s l =>
    match (s.laneX l).held with
    | none => s
    | some v =>
      let s := s.setLaneX l { s.laneX l with held := none }
      if s.noticeOk f then s.noticeRx l v else s) s

/-- Report a fibre's state to the neighbour: the probe number echoed where no probe is answered is not stated (log entry 1). -/
def State.sendTrvState (s : State) (f : Nat) (echo : Option Nat) : State :=
  if !s.flag TRV_CTRL_enable then s else
  match echo with
  | some n => s.sendLmf f { typ := 3, body := [s.trv f, n] }
  | none => let r := s.takeFree 10; r.2.sendLmf f { typ := 3, body := [s.trv f, r.1 % 2 ^ 32] }

/-- A fibre takes a Traverse state: raised, counted, announced to the neighbour, acted on (R343 to R345). -/
def State.setTrv (s : State) (f v : Nat) (minor : Nat := 0) : State :=
  let old := s.trv f
  if old = v then (if v = 2 then s.wr TRV_FIBRE_minor minor 0 f else s) else
  let s := s.wr TRV_FIBRE_state v 0 f
  let s := if v = 2 then s.wr TRV_FIBRE_minor minor 0 f else s
  let s := s.irq 7 0
  let s := if v = 4 then s.irq 7 2 else if v = 5 then s.irq 7 1 else if v = 6 then s.irq 7 3 else if v = 3 then s.irq 7 4 else s
  let s := if (v = 4 ∨ v = 5) ∧ ¬(old = 4 ∨ old = 5) then s.cnt TRV_MISMATCH_count else s
  let s := if old = 2 then s.leaveExpected f else s
  let s := if v = 7 then s else s.sendTrvState f none
  if v = 2 then s.becomeExpected f else s

/-- A TRAIN lane with its rings locked has found symbol, FEC and frame lock; with a pre-FEC BER of 2.4 × 10^-4 or less over 100 µs, `ber` in units of 10^-8, it is READY (R324). The first lit lane of a fibre starts its evaluation afresh (R344); on an EXPECTED fibre it announces the rejoin. -/
def State.laneReady (s : State) (l ber : Nat) : State :=
  let f := l / 16
  if s.lane l ≠ laneTRAIN || !(s.laneX l).rings || 24000 < ber then s else
  let s := s.setBer l ber
  let fresh := !s.otherLit l
  let s := s.setLane l laneREADY
  let s := s.setLaneX l { s.laneX l with frames := 0, readyAt := s.cyc, markAt := s.cyc }
  let s := if fresh && s.flag TRV_CTRL_enable && s.trv f ≠ 7 then
      (s.setFib f { s.fib f with probeAt := none, identAt := none, gone := false }).setTrv f 1
    else s
  if s.trv f = 2 then s.rejoin l else s

/-- LANE_READY (R324). -/
def execLaneReady (r : LaneLock) (s : State) : Host.Outcome State Fault Refusal := act s (s.laneReady (r.lane % 1024) r.ber)

/-! Commands on lanes (R324). -/

/-- LNK_LANE_CMD DISABLE: OFF with cause HOST, from any state; a RETRAIN that waits for the rings is off too. -/
def State.laneDisable (s : State) (l : Nat) : State :=
  let s := s.setLaneX l { s.laneX l with waking := false }
  if s.laneCarries l then s.leave [l] 7 true else (s.setLane l laneOFF).setCause l 7

/-- LNK_LANE_CMD RETRAIN: a lane of TRAIN, READY or SERVICE leaves for TRAIN with cause HOST, counted, raised and announced (R324, R337). -/
def State.laneRetrain (s : State) (l : Nat) : State :=
  let st := s.lane l
  if st = laneFAILED || (st = laneOFF && s.cause l = 7) then
    if s.bypassed (l / 16) then s
    else if s.idleAsked (l / 16) || s.rd PAGE_PWR_req (0x30 + l / 128) = 2 then (s.setLane l laneOFF).setCause l 12
    else if (s.laneX l).rings then s.toTrain l
    else s.setLaneX l { s.laneX l with waking := true }
  else if st = laneTRAIN then s.leaveOne l 7 false true
  else if s.laneCarries l then s.leave [l] 7
  else s

/-- A write of LNK_LANE_CMD: 1 DISABLE, 2 RETRAIN. -/
def State.laneCmd (s : State) (e lane op : Nat) : State :=
  match op with
  | 1 => s.laneDisable (e * 128 + lane)
  | 2 => s.laneRetrain (e * 128 + lane)
  | _ => s

/-- DISABLE (R324). -/
def execDisable (e lane : Nat) (s : State) : Host.Outcome State Fault Refusal :=
  hostWrite s (0x38 + e % 8) 0x120 fun s => s.laneDisable (e % 8 * 128 + lane % 128)

/-- RETRAIN (R324). -/
def execRetrain (e lane : Nat) (s : State) : Host.Outcome State Fault Refusal :=
  hostWrite s (0x38 + e % 8) 0x120 fun s => s.laneRetrain (e % 8 * 128 + lane % 128)

/-! Retry and credit (R331 to R336). -/

/-- An LMF that names a logical port acts where the port has a lane on the fibre; else it is discarded and counted (R331). -/
def State.portLmf (s : State) (f lp : Nat) (g : State → State) : State :=
  if (s.fibrePorts f).contains lp then g s else s.cnt LNK_LMF_BAD_count (f / 8)

/-- retry_max replays in a row have brought no advance (R333). -/
def State.replaysSpent (s : State) (lp : Nat) : Bool := max 1 (s.rd LNK_CFG_retry_max (s.portFibre lp / 8)) ≤ (s.tx lp).replays

/-- Every lane of a port leaves with cause PORT_FAULT (R333). -/
def State.portFault (s : State) (lp : Nat) : State :=
  ((s.cnt LNK_PORT_FAULT_count (s.portFibre lp / 8)).lnkIrq (s.portFibre lp) 2).leave (s.portLanes lp) 10

/-- A RETRY_REQ for sequence `q` (R333): the replay, ignored where `q` is not held; PORT_FAULT where it shows that retry_max replays in a row brought no advance. -/
def State.reqTx (s : State) (lp q : Nat) : State :=
  if !(s.tx lp).held.any (fun h => h.seq = q) then s.cnt LNK_REQ_IGNORED_count (s.portFibre lp / 8)
  else if s.replaysSpent lp then s.portFault lp
  else s.replay lp q

/-- RETRY_ACK (R333). -/
def execRetryAck (f lp q : Nat) (s : State) : Host.Outcome State Fault Refusal :=
  act s (s.portLmf (f % 64) (lp % 1024) fun s => s.ackTx (lp % 1024) (q % 2 ^ 32))

/-- RETRY_REQ (R333). -/
def execRetryReq (f lp q : Nat) (s : State) : Host.Outcome State Fault Refusal :=
  act s (s.portLmf (f % 64) (lp % 1024) fun s => s.reqTx (lp % 1024) (q % 2 ^ 32))

/-- Cumulative credit counts received, modulo 2^16 (R336). -/
def State.creditRx (s : State) (lp : Nat) (cs : List Nat) : State :=
  let t := s.tx lp
  s.setTx lp { t with count := (List.range 16).map fun v =>
    let o := t.count.getD v 0
    o + (cs.getD v 0 % 65536 + 65536 - o % 65536) % 65536 }

/-- CREDIT (R336). -/
def execCredit (f lp : Nat) (counts : List Nat) (s : State) : Host.Outcome State Fault Refusal :=
  act s (s.portLmf (f % 64) (lp % 1024) fun s => s.creditRx (lp % 1024) counts)

/-- A port that is up. -/
def State.isUp (s : State) (lp : Nat) : Bool := s.flag LP_CFG_link_up 0 lp

/-- RETRY_ACK_TIMER: an acknowledgement after an advance, and every 10 µs (R331). -/
def execRetryAckTimer (lp : Nat) (s : State) : Host.Outcome State Fault Refusal :=
  let lp := lp % 1024
  let x := s.rx lp
  act s (if s.isUp lp && (x.advAt.isSome || decide (x.ackAt + usCyc 10 ≤ s.cyc)) then s.sendAck lp else s)

/-- A transmit hold window is open on a fibre (R341); none applies on a bypassed fibre or one that sends no symbols (R320). -/
def State.txHeld (s : State) (f : Nat) : Bool :=
  !s.bypassed f && (lanesOf f).any s.laneSends && (s.fib f).txHold.any fun h => h.from_ ≤ s.fclk

/-- The oldest packet held has waited retry_to_us with no advance (R333): a replay, or after retry_max of them PORT_FAULT. -/
def State.retryTimeout (s : State) (lp : Nat) : State :=
  let t := s.tx lp
  let e := s.portFibre lp / 8
  match t.held with
  | [] => s
  | h :: _ =>
    if !s.isUp lp || s.txHeld (s.portFibre lp) || s.cyc < t.ackAt + usCyc (max 1 (s.rd LNK_CFG_retry_to_us e)) then s
    else if s.replaysSpent lp then s.portFault lp
    else s.replay lp h.seq

/-- RETRY_TIMEOUT (R333). -/
def execRetryTimeout (lp : Nat) (s : State) : Host.Outcome State Fault Refusal := act s (s.retryTimeout (lp % 1024))

/-- No replay-start block came within req_us: the RETRY_REQ goes again (R332). -/
def State.reqTimeout (s : State) (lp : Nat) : State :=
  match (s.rx lp).req with
  | none => s
  | some c =>
    let f := s.portFibre lp
    if s.txHeld f || s.cyc < c + usCyc (max 1 (s.rd LNK_CFG_req_us (f / 8))) then s else s.askReplay lp

/-- RETRY_REQ_TIMEOUT (R332). -/
def execRetryReqTimeout (lp : Nat) (s : State) : Host.Outcome State Fault Refusal := act s (s.reqTimeout (lp % 1024))

/-- Secure a further step of cells for a virtual channel, where R336 allows it. -/
def State.grantVc (s : State) (lp vc : Nat) : State :=
  let e := s.portFibre lp / 8
  let x := s.rx lp
  let st := s.rd LNK_CREDIT_CFG_grant_step e
  let g := x.grant.getD vc 0
  if 16 ≤ vc || s.sharedFree < s.rd LNK_CREDIT_CFG_grant_min e || s.sharedFree < st || s.rd LNK_CREDIT_CFG_vc_max e < g + st then s
  else s.setRx lp { x with grant := x.grant.set vc (g + st), count := x.count.set vc (x.count.getD vc 0 + st) }

/-- Credits are granted to the virtual channels chosen, and reported when a count changed, no more often than credit_ns, and every 10 µs (R336). -/
def State.creditTimer (s : State) (lp : Nat) (vcs : List Nat) : State :=
  if !s.isUp lp then s else
  let s := vcs.foldl (fun s v => s.grantVc lp v) s
  let x := s.rx lp
  let e := s.portFibre lp / 8
  if (x.count ≠ x.sent && x.sentAt + nsCyc (s.rd LNK_CFG_credit_ns e) ≤ s.cyc) || x.sentAt + usCyc 10 ≤ s.cyc then s.sendCredit lp else s

/-- CREDIT_TIMER (R336): `grants` are the virtual channels the receiver chooses to secure cells for. -/
def execCreditTimer (lp : Nat) (grants : List Nat) (s : State) : Host.Outcome State Fault Refusal := act s (s.creditTimer (lp % 1024) grants)

end Sys2Proof.Machine
end

