-- ==== Sys2Proof/Machine/Trav.lean ====
section
/-! DEFINITION. Traverse and the plat (R342 to R347, R349, R350). -/

namespace Sys2Proof.Machine

/-- The plat, as a table for parity. -/
def TB_PLAT : Nat := 34

/-- The fields of the four words of a plat entry (R349). -/
def platFields : List (List RegD) :=
  [[TRV_PLAT_present, TRV_PLAT_nbr_class, TRV_PLAT_direction, TRV_PLAT_nbr_fibre, TRV_PLAT_nbr_endpoint], [TRV_PLAT_nbr_serial],
   [TRV_PLAT_datum_lo], [TRV_PLAT_datum_hi]]

/-- Word `w` of a fibre's plat entry in force. -/
def State.platWord (s : State) (f w : Nat) : Nat := wordOf (fun d => s.rd d 0 f) (platFields.getD w [])

/-- Word `w` of a fibre's plat entry in the staged copy. -/
def State.platStaged (s : State) (f w : Nat) : Nat := wordOf (fun d => s.rdStg d 0 f) (platFields.getD w [])

/-- Put a word into force, covered by the module datum (R377). -/
def State.platPut (s : State) (f w v : Nat) : State :=
  let s := s.coverMod 0x02 (f * 4 + w) (s.platWord f w) v
  (platFields.getD w []).foldl (fun s d => s.wr d (fld v d.lo d.w) 0 f) s

/-- Put a word into the staged copy. -/
def State.platStage (s : State) (f w v : Nat) : State :=
  (platFields.getD w []).foldl (fun (s : State) d =>
    let x := fld v d.lo d.w
    { s with stg := if x = s.rd d 0 f then s.stg.del (d.key 0 f 0) else s.stg.put (d.key 0 f 0) x }) s

/-- A plat entry fails parity. -/
def State.platBad (s : State) (f : Nat) : Bool := (List.range 4).any fun w => s.isBad TB_PLAT 0 f w 16

/-- The plat foresees a neighbour on a fibre. -/
def State.present (s : State) (f : Nat) : Bool := s.flag TRV_PLAT_present 0 f

/-- The identity last received on `f` equals the plat entry of `g` (R345). -/
def State.identFits (s : State) (f g : Nat) : Bool :=
  (s.fib f).ident && s.present g && s.rd TRV_FIBRE_seen_serial 0 f = s.rd TRV_PLAT_nbr_serial 0 g
    && s.rd TRV_FIBRE_seen_fibre 0 f = s.rd TRV_PLAT_nbr_fibre 0 g && s.rd TRV_FIBRE_seen_endpoint 0 f = s.rd TRV_PLAT_nbr_endpoint 0 g

/-- Record a fibre's partner, or candidate. -/
def State.setPartner (s : State) (f : Nat) (g : Option Nat) : State :=
  match g with
  | some g => (s.wr TRV_FIBRE_partner g 0 f).wr TRV_FIBRE_partner_valid 1 0 f
  | none => (s.wr TRV_FIBRE_partner 0 0 f).wr TRV_FIBRE_partner_valid 0 0 f

/-- Both fibres become CROSSED, each the other's partner (R345 rule 4). -/
def State.cross (s : State) (f g : Nat) : State :=
  (((s.setPartner f (some g)).setPartner g (some f)).setTrv f 5).setTrv g 5

/-- Evaluate a fibre by R345, where Traverse is enabled (R344); a parity error in an entry that the evaluation reads, its own from rule 2 on and every other from rule 4 on, gives QUARANTINE and raises (R350). -/
def State.evalFibre (s : State) (f : Nat) : State :=
  if !s.flag TRV_CTRL_enable || !(s.fib f).ident || s.trv f = 7 then s else
  if s.rd TRV_FIBRE_seen_major 0 f ≠ s.rd LNK_VERSION_major (f / 8) then (s.setPartner f none).setTrv f 6
  else if s.platBad f then ((s.setPartner f none).irq 7 0).setTrv f 4
  else if !s.present f then
    (s.setPartner f none).setTrv f 4
  else if s.identFits f f then (s.setPartner f none).setTrv f 2 (min (s.rd LNK_VERSION_minor (f / 8)) (s.rd TRV_FIBRE_seen_minor 0 f))
  else if (List.range 64).any s.platBad then ((s.setPartner f none).irq 7 0).setTrv f 4
  else
    let l := (List.range 64).filter fun g => g ≠ f && s.identFits f g
    match l.find? (fun g => s.identFits g f && s.trv g ≠ 7) with
    | some g => s.cross f g
    | none => (s.setPartner f l.head?).setTrv f 4

/-- Fibres whose candidate partner is `g` try rule 4 again (R345). -/
def State.evalWaiting (s : State) (g : Nat) : State :=
  (List.range 64).foldl (fun s f =>
    if f ≠ g && s.trv f = 4 && s.flag TRV_FIBRE_partner_valid 0 f && s.rd TRV_FIBRE_partner 0 f = g && s.identFits f g && s.identFits g f
    then s.cross f g else s) s

/-- The datum of a received TRV_IDENT is held against the plat's expected one; the state is not changed by it (R345). A re-evaluation without a TRV_IDENT compares no datum (DEDUCED, log entry 43). -/
def State.checkDatum (s : State) (f : Nat) : State :=
  let dlo := s.rd TRV_PLAT_datum_lo 0 f
  let dhi := s.rd TRV_PLAT_datum_hi 0 f
  if !s.platBad f && s.present f && (dlo ≠ 0 || dhi ≠ 0) && (dlo ≠ s.rd TRV_FIBRE_seen_datum_lo 0 f || dhi ≠ s.rd TRV_FIBRE_seen_datum_hi 0 f) then
    ((s.cnt TRV_DATUM_MISMATCH_count).wr TRV_FIBRE_datum_bad 1 0 f).irq 7 5
  else s

/-- A received TRV_IDENT is recorded and evaluated (R345). -/
def State.identRx (s : State) (f : Nat) (i : Ident) : State :=
  if !s.flag TRV_CTRL_enable || s.bypassed f then s else
  let s := s.cnt TRV_IDENT_RX_count
  let s := (s.wr TRV_FIBRE_seen_serial i.serial 0 f).wr TRV_FIBRE_seen_endpoint i.endpoint 0 f
  let s := ((s.wr TRV_FIBRE_seen_fibre i.fibre 0 f).wr TRV_FIBRE_seen_major i.major 0 f).wr TRV_FIBRE_seen_minor i.minor 0 f
  let s := (s.wr TRV_FIBRE_seen_datum_lo (i.datum % 2 ^ 64) 0 f).wr TRV_FIBRE_seen_datum_hi (i.datum / 2 ^ 64) 0 f
  let s := s.setFib f { s.fib f with identAt := some s.cyc, timer := none, gone := false, ident := true }
  ((s.checkDatum f).evalFibre f).evalWaiting f

/-- TRV_IDENT (R345). -/
def execTrvIdent (f : Nat) (i : Ident) (s : State) : Host.Outcome State Fault Refusal := act s (s.identRx (f % 64) i)

/-- A received TRV_PROBE is answered with TRV_IDENT and TRV_STATE (R344). -/
def State.probeRx (s : State) (f n : Nat) : State :=
  if !s.flag TRV_CTRL_enable || s.bypassed f then s else
  let s := s.sendLmf f { typ := 2, body := [s.rd TRV_SERIAL_serial, f, s.rd LNK_VERSION_major (f / 8), s.rd LNK_VERSION_minor (f / 8), s.self, s.dtm.module] }
  s.sendTrvState f (some n)

/-- TRV_PROBE (R344). -/
def execTrvProbe (f endpoint number : Nat) (s : State) : Host.Outcome State Fault Refusal :=
  act s (if endpoint < 2 ^ 24 then s.probeRx (f % 64) (number % 2 ^ 32) else s)

/-- TRV_STATE (R344): the neighbour's state for the fibre is reported; no register or rule of the module takes it. -/
def execTrvState (_f _st _echo : Nat) (s : State) : Host.Outcome State Fault Refusal := act s s

/-- Interval of probes in core cycles (R344). -/
def State.probeEvery (s : State) (f : Nat) : Nat :=
  if s.trv f = 1 then usCyc (max 1 (s.rd TRV_CTRL_probe_us)) else msCyc (max 1 (s.rd TRV_CTRL_keep_ms))

/-- A TRV_PROBE falls due on a fibre with a lane READY or in SERVICE. -/
def State.probeTimer (s : State) (f : Nat) : State :=
  let x := s.fib f
  let due : Bool := match x.probeAt with | none => true | some c => decide (c + s.probeEvery f ≤ s.cyc)
  if !s.flag TRV_CTRL_enable || s.trv f = 7 || !s.lit f || !due then s else
  (s.setFib f { x with probeNo := (x.probeNo + 1) % 2 ^ 32, probeAt := some s.cyc }).sendLmf f { typ := 1, body := [s.self, x.probeNo] }

/-- PROBE_TIMER (R344). -/
def execProbeTimer (f : Nat) (s : State) : Host.Outcome State Fault Refusal := act s (s.probeTimer (f % 64))

/-- A fibre goes without a neighbour: ABSENT, with its ports' consent withdrawn (R97), or NONE (R344). -/
def State.goAbsent (s : State) (f : Nat) : State :=
  let s := s.setFib f { s.fib f with timer := none, identAt := none, gone := true }
  if !s.present f then s.setTrv f 0
  else if s.trv f = 3 then s
  else
    let s := (s.setTrv f 3).cnt TRV_ABSENT_count
    (s.fibrePorts f).foldl (fun s p => if s.flag LP_CFG_auto_absent 0 p then (s.wr LP_CFG_elig 0 0 p).irq (0x40 + f / 4) 4 else s) s

/-- No identity within absent_ms of the timer's start, or within three keep_ms intervals of the last one (R344); a fibre that a commit has given a neighbour after its timer ran out goes too. -/
def State.absentTimeout (s : State) (f : Nat) : State :=
  if !s.flag TRV_CTRL_enable || s.trv f = 7 then s else
  let x := s.fib f
  let a : Bool := match x.timer with | some c => decide (c + msCyc (max 1 (s.rd TRV_CTRL_absent_ms)) ≤ s.cyc) | none => false
  let b : Bool := match x.identAt with | some c => s.lit f && decide (c + 3 * msCyc (max 1 (s.rd TRV_CTRL_keep_ms)) ≤ s.cyc) | none => false
  let c := x.gone && s.trv f = 0 && s.present f
  if a || b || c then s.goAbsent f else s

/-- ABSENT_TIMEOUT (R344). -/
def execAbsentTimeout (f : Nat) (s : State) : Host.Outcome State Fault Refusal := act s (s.absentTimeout (f % 64))

/-- A TRV command completes: 0 OK, 3 INVALID. -/
def State.trvDone (s : State) (st : Nat) : State := ((s.wr TRV_CMD_STAT_busy 0).wr TRV_CMD_STAT_status st).irq 7 6

/-- ACCEPT_CROSS: the plat entries of a CROSSED fibre and its partner change places, in force and staged, and both are evaluated (R347). -/
def State.acceptCross (s : State) (f : Nat) : State :=
  if s.trv f ≠ 5 then s.trvDone 3 else
  let g := s.rd TRV_FIBRE_partner 0 f
  let force := (List.range 4).map fun w => (s.platWord f w, s.platWord g w)
  let staged := (List.range 4).map fun w => (s.platStaged f w, s.platStaged g w)
  let s := force.zipIdx.foldl (fun s ((a, b), w) => (s.platPut f w b).platPut g w a) s
  let s := staged.zipIdx.foldl (fun s ((a, b), w) => (s.platStage f w b).platStage g w a) s
  let s := (s.evalFibre f).evalFibre g
  s.trvDone 0

/-- REEVAL: back to PROBING, probed anew (R347); with Traverse held the fibre keeps its state (R344). -/
def State.reeval (s : State) (f : Nat) : State :=
  if s.trv f = 7 then s.trvDone 3 else
  if !s.flag TRV_CTRL_enable then s.trvDone 0 else
  ((s.setFib f { s.fib f with probeAt := none }).setTrv f 1).trvDone 0

/-- A write of TRV_CMD: 1 ACCEPT_CROSS, 2 REEVAL; another op does nothing but report INVALID. -/
def State.trvCmd (s : State) (op f : Nat) : State :=
  match op with
  | 1 => s.acceptCross f
  | 2 => s.reeval f
  | _ => s.trvDone 3

/-- ACCEPT_CROSS (R347). -/
def execAcceptCross (f : Nat) (s : State) : Host.Outcome State Fault Refusal := hostWrite s 7 0x118 fun s => s.acceptCross (f % 64)

/-- REEVAL (R347). -/
def execReeval (f : Nat) (s : State) : Host.Outcome State Fault Refusal := hostWrite s 7 0x118 fun s => s.reeval (f % 64)

/-- A write of TRV_CTRL; when enable returns to 1 the timers start afresh (R344). -/
def State.trvCtrl (s : State) (w : Wr) : State :=
  let was := s.flag TRV_CTRL_enable
  let s := (((s.put TRV_CTRL_enable w).put TRV_CTRL_probe_us w).put TRV_CTRL_keep_ms w).put TRV_CTRL_absent_ms w
  if was || !s.flag TRV_CTRL_enable then s else
  (List.range 64).foldl (fun s f =>
    let x := s.fib f
    s.setFib f { x with probeAt := some s.cyc, timer := x.timer.map fun _ => s.cyc, identAt := x.identAt.map fun _ => s.cyc }) s

/-- TRV_CTRL_WRITE (R344). -/
def execTrvCtrlWrite (w : Wr) (s : State) : Host.Outcome State Fault Refusal := hostWrite s 7 0x100 fun s => s.trvCtrl w

end Sys2Proof.Machine
end

