-- ==== Sys2Proof/Machine/Optics.lean ====
section
/-! DEFINITION. Optical engines: rings, combs, monitors, fade, announced changes and their hold windows (R298, R303 to R322, R341). -/

namespace Sys2Proof.Machine

/-- PAGE_IRQ_STATUS of an engine's OPX page. -/
def State.opxIrq (s : State) (e b : Nat) : State := s.irq (0x30 + e) b

/-- The two fibres of an engine's comb pair. -/
def pairFibres (e p : Nat) : List Nat := [8 * e + 2 * p, 8 * e + 2 * p + 1]

/-- The comb that lights a fibre. -/
def State.fibreComb (s : State) (f : Nat) : Nat := s.rd OPX_FIBRE_comb (f / 8) (f % 8)

/-- The lane carried on λ16 of a fibre; 31 for none (R298). -/
def State.spareLane (s : State) (f : Nat) : Nat := s.rd OPX_FIBRE_spare_lane (f / 8) (f % 8)

/-- A comb lights some fibre of its engine. -/
def State.lights (s : State) (e c : Nat) : Bool := (List.range 8).any fun j => s.fibreComb (8 * e + j) = c

/-! Rings. -/

/-- Both rings of a lane hold lock. -/
def State.ringsOk (s : State) (l : Nat) : Bool :=
  let f := l / 16
  (s.ring (f / 8) (modRing f (s.rdLane LNK_LANE_line l))).lock = 0 && (s.ring (f / 8) (dropRing f (s.rxLine l))).lock = 0

/-- The lane a ring serves, if any. -/
def State.ringLane (s : State) (e r : Nat) : Option Nat :=
  let f := 8 * e + r / 34
  let l := r % 17
  if r % 34 < 17 then (lanesOf f).find? fun m => s.rdLane LNK_LANE_line m = l
  else (lanesOf f).find? fun m => s.rxLine m = l

/-- A lane's rings are looked at again: locked, a lane waiting for them goes to TRAIN. -/
def State.lookRings (s : State) (l : Nat) : State :=
  let ok := s.ringsOk l
  let x := s.laneX l
  let s := s.setLaneX l { x with rings := ok }
  if ok && x.waking then (s.setLaneX l { s.laneX l with waking := false }).toTrain l else s

/-- A ring leaves lock: its lane leaves for `cause` (R307, R308). -/
def State.dropLock (s : State) (e r cause : Nat) (x : Ring) : State :=
  let s := s.setRing e r x
  match s.ringLane e r with
  | none => s
  | some l => (s.leave [l] cause).lookRings l

/-- RING_LOCK_LOSS: a ring of an engine loses lock, reaches an OUT entry, or its entry fails parity (R307, R322). -/
def State.ringLoss (s : State) (e r : Nat) (out : Bool) : State :=
  let x := s.ring e r
  if x.lock = 1 ∨ x.lock = 2 then s else s.dropLock e r 5 { x with lock := 1, out := out, sweep := false }

/-- RING_LOCK_LOSS (R307). -/
def execRingLockLoss (e ring : Nat) (out : Bool) (s : State) : Host.Outcome State Fault Refusal := act s (s.ringLoss (e % 8) (ring % 272) out)

/-- The temperature a ring's sensor reads, in 1/16 °C (R296). -/
def State.ringTemp (s : State) (e r : Nat) : Int :=
  s.rdI (match r / 34 / 2 with | 0 => OPX_TEMP_t0 | 1 => OPX_TEMP_t1 | 2 => OPX_TEMP_t2 | _ => OPX_TEMP_t3) e

/-- A host read of a tap, asked for while the tap was busy, begins to integrate (R303). -/
def State.monStart (s : State) (e : Nat) (f : Nat → Bool) : State :=
  match s.opt.mon.get? e with
  | some (tap, n, none) => if f tap then { s with opt := { s.opt with mon := s.opt.mon.put e (tap, n, some s.cyc) } } else s
  | _ => s

/-- An OPX command completes: 0 OK, 3 INVALID. -/
def State.opxDone (s : State) (e st : Nat) : State := (s.wr OPX_CMD_STAT_busy 0 e).wr OPX_CMD_STAT_status st e

/-- A ring that was lost or swept has held lock for 10 µs: what the sweep measured is recorded, with the temperature it was measured at; a relock is counted; SWEEP_RING of it is done (R306 to R308, R321). -/
def State.ringBack (s : State) (e r offset order up down : Nat) : State :=
  let x := s.ring e r
  if x.lock ≠ 1 then s else
  let lane := s.ringLane e r
  let s := s.setRing e r { x with offset := offset % 65536, order := order % 4, up := up % 256, down := down % 256,
                                  lock := if lane.isSome && !s.bypassed (8 * e + r / 34) then 0 else 3, out := false, sweep := false,
                                  up0 := up % 256, down0 := down % 256, temp0 := s.ringTemp e r }
  let s := s.monStart e (· = 85 + r)
  let s := if x.sweep && s.flag OPX_CMD_STAT_busy e && s.rd OPX_RING_KEY_ring e = r && (s.opt.avg.get? e).isNone then s.opxDone e 0 else s
  let s := if x.sweep then s else
    let s := (s.cnt OPX_RELOCK_count e).opxIrq e 9
    if x.out then s.cnt OPX_HEADROOM_EXC_count e else s
  match lane with
  | none => s
  | some l => s.lookRings l

/-- RING_RELOCKED (R307). -/
def execRingRelocked (e ring offset order up down : Nat) (s : State) : Host.Outcome State Fault Refusal :=
  act s (s.ringBack (e % 8) (ring % 272) offset order up down)

/-- A hold window is open on a fibre of an engine (R320). -/
def State.engineHeld (s : State) (e : Nat) : Bool := (List.range 8).any fun j => s.txHeld (8 * e + j)

/-- A ring is swept: its lane leaves for the while (R308). -/
def State.sweep (s : State) (e r : Nat) : State :=
  let x := s.ring e r
  (s.cnt OPX_RECAL_SWEEPS_count e).dropLock e r 9 { x with lock := 1, sweep := true }

/-- A ring of an engine is being swept. -/
def State.sweeping (s : State) (e : Nat) : Bool := s.opt.rings.any fun (k, x) => k / 272 = e && x.sweep

/-- RECAL_SWEEP: the rings one at a time, each once in a period, evenly spaced over it, which ring comes next not being stated; or early when a ring's headroom is short; deferred inside a hold window (R306, R308, R320). -/
def State.recal (s : State) (e r : Nat) : State :=
  let x := s.ring e r
  let p := s.rd OPX_RECAL_period_s e
  let step := (if p = 0 then 60 else p) * 2000000000
  let done := s.opt.swept.getD [] e
  let turn := s.flag OPX_CTRL_recal_en e && decide (step ≤ 272 * (s.cyc - s.opt.sweepAt.getD 0 e)) && !done.contains r
  let early := decide (min x.up x.down < s.rd OPX_RECAL_early_c e)
  if x.lock = 1 || s.sweeping e || s.engineHeld e || !(turn || early) then s else
  let s : State := if turn then { s with opt := { s.opt with sweepAt := s.opt.sweepAt.put e s.cyc } } else s
  let now := if done.contains r then done else r :: done
  let s : State := { s with opt := { s.opt with swept := s.opt.swept.put e (if 272 ≤ now.length then [] else now) } }
  s.sweep e r

/-- RECAL_SWEEP (R308). -/
def execRecalSweep (e ring : Nat) (s : State) : Host.Outcome State Fault Refusal := act s (s.recal (e % 8) (ring % 272))

/-- Feed-forward entry `i` of a ring: production's value plus the offset calibration measured (R304). -/
def State.ffEntry (s : State) (e r i : Nat) : Int := (Config.flash 25 ((e * 272 + r) * 64 + i) % 65536 : Nat) + toSigned 16 (s.ring e r).offset

/-- The code interpolated at a temperature in 1/16 °C (R304), times 2160, the 1/16 °C between the ends of the table: entry i stands at −160 + 2160 i / 63. -/
def State.ffCode (s : State) (e r : Nat) (t : Int) : Int :=
  let x := (max 0 (min 2160 (t + 160))).toNat * 63
  let i := min 62 (x / 2160)
  let fr : Int := (x - i * 2160 : Nat)
  s.ffEntry e r i * (2160 - fr) + s.ffEntry e r (i + 1) * fr

/-- Headroom remaining at temperature `t` (R306): what the last sweep left, less the way the temperature has gone since, in whole degrees, none below 0 (DESIGN CHOICE, log entry 86). -/
def Ring.room (x : Ring) (t : Int) : Nat × Nat :=
  let n := fun (v : Int) => min 255 (v / 16).toNat
  (n (16 * x.up0 - (t - x.temp0)), n (16 * x.down0 + (t - x.temp0)))

/-- Entry `i` of a ring's table is marked OUT: its temperature, −160 + 2160 i / 63 in 1/16 °C, lies outside the headroom of the order chosen at the last sweep (R304, R306). -/
def Ring.outEntry (x : Ring) (i : Nat) : Bool :=
  let t : Int := 2160 * i - 160 * 63
  63 * (x.temp0 + 16 * x.up0) < t || t < 63 * (x.temp0 - 16 * x.down0)

/-- At temperature `t` a ring has reached an OUT entry: it stands at one or beyond (R307). -/
def Ring.atOut (x : Ring) (t : Int) : Bool :=
  (List.range 64).any fun i => x.outEntry i && (let v : Int := 2160 * i - 160 * 63; if x.temp0 * 63 ≤ v then v ≤ 63 * t else 63 * t ≤ v)

/-- HEATER_UPDATE, every 10 µs: each ring's heater takes the interpolated code plus its loop's correction, and its headroom follows the temperature; which of the two nearest codes a value between them takes is not stated (log entry 1). A ring whose entry fails parity, or that reaches an OUT entry, relocks with a fresh sweep (R304, R306, R307, R322). -/
def State.heaters (s : State) (e : Nat) (temps : List Nat) (dith : List Int) (bad : List Nat) : State :=
  if (s.opt.heatAt.get? e).any fun c => decide (s.cyc < c + usCyc 10) then s else
  let s : State := { s with opt := { s.opt with heatAt := s.opt.heatAt.put e s.cyc } }
  let t := fun i => temps.getD i 0 % 65536
  let s := (((s.wr OPX_TEMP_t0 (t 0) e).wr OPX_TEMP_t1 (t 1) e).wr OPX_TEMP_t2 (t 2) e).wr OPX_TEMP_t3 (t 3) e
  let s := bad.foldl (fun s r => s.ringLoss e (r % 272) false) s
  (List.range 272).foldl (fun s r =>
    if 2 ≤ s.rd PWR_FIBRE_state 0 (8 * e + r / 34) then s else
    let temp := toSigned 16 (t (r / 34 / 2))
    let c := s.ffCode e r temp
    let f := if c % 2160 = 0 then (0, s) else s.takeFree 11
    let code := c / 2160 + ((f.1 % 2 : Nat) : Int) + dith.getD r 0
    let x := s.ring e r
    let h := x.room temp
    let s := f.2.setRing e r { x with heater := ofSigned 16 code, up := h.1, down := h.2 }
    if x.atOut temp then s.ringLoss e r true else s) s

/-- HEATER_UPDATE (R304). -/
def execHeaterUpdate (e : Nat) (temps : List Nat) (dither : List Int) (bad : List Nat) (s : State) : Host.Outcome State Fault Refusal :=
  act s (s.heaters (e % 8) temps dither bad)

/-! Monitors (R303). -/

/-- Integration time in core cycles. -/
def monCyc (i : Nat) : Nat := [2000, 20000, 200000, 2000000].getD i 2000

/-- A tap integrates for the module itself: a comb-line tap for the fade evaluations, a ring's for its lock loop while it acquires lock (R303, R311). -/
def State.tapBusy (s : State) (e tap : Nat) : Bool :=
  if tap < 85 then s.flag OPX_CTRL_fade_en e && !s.flag OPX_STATUS_no_baseline e else (s.ring e (tap - 85)).lock = 1

/-- A write of OPX_MON_CMD starts an integration, once the tap's own for a fade evaluation or lock loop has ended. -/
def State.monCmd (s : State) (e tap int : Nat) : State :=
  if 356 < tap then s else
  { s with opt := { s.opt with mon := s.opt.mon.put e (tap, monCyc int, if s.tapBusy e tap then none else some s.cyc) } }

/-- MON_CMD (R303). -/
def execMonCmd (e tap int : Nat) (s : State) : Host.Outcome State Fault Refusal :=
  hostWrite s (0x30 + e % 8) 0x170 fun s => s.monCmd (e % 8) (tap % 512) (int % 4)

/-- The integration has ended. -/
def State.monDone (s : State) (e power : Nat) : State :=
  match s.opt.mon.get? e with
  | some (_, n, some c) =>
    if s.cyc < c + n then s else
    let s : State := { s with opt := { s.opt with mon := s.opt.mon.del e } }
    ((s.wr OPX_MON_DATA_power power e).wr OPX_MON_DATA_valid 1 e).opxIrq e 8
  | _ => s

/-- MON_DONE (R303). -/
def execMonDone (e power : Nat) (s : State) : Host.Outcome State Fault Refusal := act s (s.monDone (e % 8) power)

/-- BASELINE: the 85 comb-line taps are averaged over 100 ms, the command running meanwhile (R311, R321); a command while one runs is ignored (DESIGN CHOICE, log entry 86). -/
def State.baseline (s : State) (e : Nat) (powers : List Nat) (flashOk : Bool) : State :=
  if s.flag OPX_CMD_STAT_busy e then s else
  ({ s with opt := { s.opt with avg := s.opt.avg.put e (s.cyc + msCyc 100, powers, flashOk) } } : State).wr OPX_CMD_STAT_busy 1 e

/-- An engine's average is complete: recorded and written to boot flash; a write that fails keeps the baseline in force (R311, R322). -/
def State.baselineEnd (s : State) (e : Nat) (powers : List Nat) (flashOk : Bool) : State :=
  let s : State := { s with opt := { s.opt with avg := s.opt.avg.del e } }
  if !flashOk then s.opxDone e 3 else
  let s : State := { s with opt := { s.opt with base := (List.range 85).foldl (fun m i => m.put (e * 85 + i) (powers.getD i 0 % 2 ^ 40)) s.opt.base } }
  (s.wr OPX_STATUS_no_baseline 0 e).opxDone e 0

/-- The averages whose 100 ms have passed. -/
def State.tickBaselines (s : State) : State :=
  (s.opt.avg.filter fun x => decide (x.2.1 ≤ s.cyc)).foldl (fun s x => s.baselineEnd x.1 x.2.2.1 x.2.2.2) s

/-- SWEEP_RING of the ring in OPX_RING_KEY: the command runs until the ring holds lock again (R308, R321). -/
def State.sweepRing (s : State) (e : Nat) : State :=
  let r := s.rd OPX_RING_KEY_ring e
  if s.flag OPX_CMD_STAT_busy e then s
  else if 272 ≤ r then s.opxDone e 3
  else
    let s := if (s.ring e r).lock = 1 then s.setRing e r { s.ring e r with sweep := true } else s.sweep e r
    s.wr OPX_CMD_STAT_busy 1 e

/-- BASELINE (R311): `powers` are what the taps integrate. -/
def execBaseline (e : Nat) (powers : List Nat) (flashOk : Bool) (s : State) : Host.Outcome State Fault Refusal :=
  hostWrite s (0x30 + e % 8) 0x128 fun s => s.baseline (e % 8) powers flashOk

/-- SWEEP_RING (R308). -/
def execSweepRing (e : Nat) (s : State) : Host.Outcome State Fault Refusal := hostWrite s (0x30 + e % 8) 0x128 fun s => s.sweepRing (e % 8)

/-! Combs (R310, R314). -/

/-- What CS4 shows as fit: locked, on, its comb fade short of PLAN (R314). -/
def State.refit (s : State) (e : Nat) : State :=
  let fit := s.flag OPX_COMB_lock e 4 && !s.flag OPX_COMB_off e 4 && fld (s.opt.fades.getD {} (e * 90 + 89)).reached 1 3 = 0
  s.wr OPX_COMB_fit (if fit then 1 else 0) e 4

/-- CS4 serves some pair of its engine. -/
def State.spareBusy (s : State) (e : Nat) : Bool := s.lights e 4

/-! Announced changes (R315 to R318). -/

/-- The fibres a change moves. -/
def OptChg.fibres (c : OptChg) : List Nat := if c.kind = 0 then pairFibres c.eng c.pair else [c.fibre]

/-- Length of a transmit hold window in clock units. -/
def holdLen : Nat := 256 * NS

/-- The change's hold window would overlap one announced on a fibre of it. -/
def State.holdClash (s : State) (c : OptChg) : Bool :=
  c.fibres.any fun f => !s.bypassed f && (s.fib f).txHold.any fun h => h.from_ < c.c + holdLen && c.c < h.until_

/-- Why an announcement is refused, 0 for none, in the order of R315's table. -/
def State.chgRefusal (s : State) (c : OptChg) : Nat :=
  let busy := if c.kind = 0 then s.opt.chgs.any fun x => x.kind = 0 && x.eng = c.eng else s.opt.chgs.any fun x => x.kind = 1 && x.fibre = c.fibre
  if c.c < s.fclk + 150000 * NS then 1
  else if busy || s.holdClash c then 2
  else if c.kind = 0 then
    if 4 < c.to_ || (c.to_ = 4 && c.from_ = 4) || (c.to_ < 4 && c.from_ ≠ 4) then 3
    else if c.to_ = 4 && (!s.flag OPX_COMB_fit c.eng 4 || s.spareBusy c.eng) then 4 else 0
  else if 16 ≤ c.line then 3
  else if s.spareLane c.fibre ≠ 31 && s.spareLane c.fibre ≠ c.line then 4
  else 0

/-- Show the outcome of the last change. -/
def State.chgStat (s : State) (e st reason : Nat) : State := (s.wr OPX_CHG_STAT_state st e).wr OPX_CHG_STAT_reason reason e

/-- A refused announcement or rejected effect is counted and raised. -/
def State.chgRefuse (s : State) (e st reason : Nat) : State := ((s.chgStat e st reason).cnt OPX_CHG_REJECT_count e).opxIrq e 7

/-- A clock value as the two instant fields of R89. -/
def instFields (t : Nat) : List Nat := [t / (10 ^ 9 * NS), t / NS % 10 ^ 9 * 2 + t / 2 ^ 47 % 2]

/-- The notice of a change on a fibre; `off` withdraws it (R316). -/
def OptChg.notice (c : OptChg) (f : Nat) (off : Bool) : Lmf :=
  if c.kind = 0 then
    { typ := 0x30, body := [c.id, c.eng, c.from_, if off then c.from_ else c.to_, ofBits ((pairFibres c.eng c.pair).map (· % 8))] ++ instFields c.c }
  else { typ := 0x31, body := [c.id, f, if off then 0x1F else c.line] ++ instFields c.c }

/-- Replace a change's record, found by its notice ID. -/
def State.putChg (s : State) (c : OptChg) : State := { s with opt := { s.opt with chgs := s.opt.chgs.map fun x => if x.id = c.id then c else x } }

/-- Send a change's notice on a fibre where one is due: the first at once, two more 10 µs apart, on a lit fibre, while the instant lies far enough ahead (R316, R319, R320). -/
def State.chgNotice (s : State) (id f : Nat) : State :=
  match s.opt.chgs.find? (·.id = id) with
  | none => s
  | some c =>
    let n := c.sent.getD 0 f
    let due : Bool := match c.sentAt.get? f with | none => true | some t => decide (t + usCyc 10 ≤ s.cyc)
    if 3 ≤ n || !due || s.bypassed f || !s.lit f || c.c < s.fclk + s.mldClk f + 8 * NS then s else
    ((s.putChg { c with sent := c.sent.put f (n + 1), sentAt := c.sentAt.put f s.cyc }).sendLmf f (c.notice f false)).cnt OPX_NOTICE_TX_count (f / 8)

/-- Lanes a change holds on a fibre (R341). -/
def OptChg.lanes (c : OptChg) (f : Nat) : List Nat := if c.kind = 0 then lanesOf f else [f * 16 + c.line]

/-- Accept an announcement: recorded, its hold windows set, its first notices sent (R315, R316, R318). -/
def State.chgAccept (s : State) (c : OptChg) : State :=
  let c : OptChg := { c with id := s.opt.nextId }
  let s : State := { s with opt := { s.opt with chgs := s.opt.chgs ++ [c], nextId := (s.opt.nextId + 1) % 65536 } }
  let s := ((s.chgStat c.eng 1 0).wr OPX_CHG_STAT_notice_id c.id c.eng).wr OPX_CHG_STAT_by_fw (if c.byFw then 1 else 0) c.eng
  c.fibres.foldl (fun s f =>
    let h : HoldWin := { id := c.id, from_ := c.c, until_ := c.c + holdLen, lanes := c.lanes f }
    (s.setFib f { s.fib f with txHold := (s.fib f).txHold ++ [h] }).chgNotice c.id f) s

/-- The change OPX_CHG_CFG and OPX_CHG_SEC/NS describe. A changeover to CS4 is of the pair of the fibre field; one to a pair's own comb is of that pair. -/
def State.chgAsked (s : State) (e : Nat) : OptChg :=
  let kind := s.rd OPX_CHG_CFG_kind e
  let to_ := s.rd OPX_CHG_CFG_to_comb e
  let j := s.rd OPX_CHG_CFG_fibre e
  let pair := if to_ < 4 then to_ else j / 2
  { kind := kind, eng := e, pair := pair, fibre := 8 * e + j, from_ := s.fibreComb (8 * e + 2 * pair), to_ := to_, line := s.rd OPX_CHG_CFG_line e,
    c := clkOf (s.rd OPX_CHG_SEC_sec e) (s.rd OPX_CHG_NS_ns e) (s.rd OPX_CHG_NS_half e), id := 0 }

/-- ANNOUNCE: accepted, or refused with its reason (R315). -/
def State.announce (s : State) (e : Nat) : State :=
  let c := s.chgAsked e
  let why := s.chgRefusal c
  if why = 0 then s.chgAccept c else (s.chgRefuse e 3 why).wr OPX_CHG_STAT_by_fw 0 e

/-- A change is taken off its fibres: hold windows and record go. -/
def State.chgGone (s : State) (c : OptChg) : State :=
  let s : State := { s with opt := { s.opt with chgs := s.opt.chgs.filter fun x => x.id ≠ c.id } }
  c.fibres.foldl (fun s f => s.setFib f { s.fib f with txHold := (s.fib f).txHold.filter fun h => h.id ≠ c.id }) s

/-- WITHDRAW: the announced change that OPX_CHG_CFG names is cancelled, a replacing notice sent where one had gone (R316). -/
def State.withdrawChg (s : State) (e : Nat) : State :=
  let a := s.chgAsked e
  match s.opt.chgs.find? (fun c => c.eng = e && c.kind = a.kind && !c.begun && (if a.kind = 0 then c.pair = a.pair && c.to_ = a.to_ else c.fibre = a.fibre && c.line = a.line)) with
  | none => s
  | some c =>
    let s := (s.chgGone c).chgStat e 0 0
    c.fibres.foldl (fun s f =>
      if c.sent.getD 0 f = 0 then s else (s.sendLmf f (c.notice f true)).cnt OPX_NOTICE_TX_count e) s

/-- A write of OPX_CHG_CMD: 1 ANNOUNCE, 2 WITHDRAW. -/
def State.chgCmd (s : State) (e op : Nat) : State :=
  match op with
  | 1 => s.announce e
  | 2 => s.withdrawChg e
  | _ => s

/-- ANNOUNCE (R315). -/
def execAnnounce (e : Nat) (s : State) : Host.Outcome State Fault Refusal := hostWrite s (0x30 + e % 8) 0x158 fun s => s.announce (e % 8)

/-- CHANGE_WITHDRAW (R316). -/
def execChangeWithdraw (e : Nat) (s : State) : Host.Outcome State Fault Refusal := hostWrite s (0x30 + e % 8) 0x158 fun s => s.withdrawChg (e % 8)

/-- The effect point lies between the announced instant and 8 ns after it (R317). -/
def State.onTime (s : State) (c : OptChg) : Bool := c.c ≤ s.fclk && s.fclk ≤ c.c + 8 * NS

/-- A COMB_CHANGE effect (R317). -/
def State.combChange (s : State) (e comb : Nat) : State × Bool :=
  match s.opt.chgs.find? (fun c => c.kind = 0 && c.eng = e && c.to_ = comb && !c.begun && s.onTime c) with
  | none => (s.chgRefuse e 4 5, false)
  | some c =>
    if c.to_ = 4 && !s.flag OPX_COMB_fit e 4 then (s.chgRefuse e 4 4, false)
    else (s.putChg { c with begun := true }, true)

/-- COMB_CHANGE, action class 7 (R51, R317). -/
def execCombChange (u : Nat) (s : State) : Host.Outcome State Fault Refusal :=
  act s (s.effect (u % 32) 7 fun e s => s.combChange (fld e.arg 0 3) (fld e.arg 4 3))

/-- A LINE_MIGRATE effect (R317, R320): not where its notice could not be sent. -/
def State.lineMigrate (s : State) (f line : Nat) : State × Bool :=
  match s.opt.chgs.find? (fun c => c.kind = 1 && c.fibre = f && c.line = line && !c.begun && s.onTime c) with
  | none => (s.chgRefuse (f / 8) 4 5, false)
  | some c =>
    if !s.bypassed f && c.sent.getD 0 f = 0 then (s.chgRefuse (f / 8) 4 5, false)
    else (s.putChg { c with begun := true }, true)

/-- LINE_MIGRATE, action class 8 (R51, R317). -/
def execLineMigrate (u : Nat) (s : State) : Host.Outcome State Fault Refusal :=
  act s (s.effect (u % 32) 8 fun e s => s.lineMigrate (fld e.arg 0 6) (fld e.arg 8 5))

/-- A change that began is done at the end of its window (R318): the pair's comb, or the lane's line, with the rings parked and unparked. -/
def State.chgDone (s : State) (c : OptChg) : State :=
  if !c.begun then s else
  let s := (s.chgStat c.eng 2 0).opxIrq c.eng 6
  if c.kind = 0 then
    (c.fibres.foldl (fun s f => s.wr OPX_FIBRE_comb c.to_ (f / 8) (f % 8)) s).cnt OPX_CHANGEOVER_count c.eng
  else
    let f := c.fibre
    let back := s.spareLane f = c.line
    let old := if back then 16 else c.line
    let new := if back then c.line else 16
    let s := (s.wr OPX_FIBRE_spare_lane (if back then 31 else c.line) (f / 8) (f % 8)).wrLane LNK_LANE_line new (f * 16 + c.line)
    let s := s.setRing c.eng (modRing f old) { s.ring c.eng (modRing f old) with lock := 3 }
    (s.setRing c.eng (modRing f new) { s.ring c.eng (modRing f new) with lock := if s.bypassed f then 3 else 0 }).cnt OPX_LINE_MIGRATE_count c.eng

/-- Retry timers of a fibre's ports did not advance in the window of 512 cycles that began at cycle `w`: each moves on by the part of it that it ran in (R333). -/
def State.shiftTimers (s : State) (f w : Nat) : State :=
  let moved := fun (c : Nat) => c + (w + 512 - max c w)
  (s.fibrePorts f).foldl (fun s p =>
    let s := s.setTx p { s.tx p with ackAt := moved (s.tx p).ackAt }
    s.setRx p { s.rx p with req := (s.rx p).req.map moved }) s

/-- The hold windows of an engine that have ended: changes are done, data goes again (R318, R341). -/
def State.holdEnd (s : State) (e : Nat) : State :=
  (s.opt.chgs.filter fun c => c.eng = e && decide (c.c + holdLen ≤ s.fclk)).foldl (fun s c =>
    let held := c.fibres.filter s.txHeld
    let s := (s.chgDone c).chgGone c
    held.foldl (fun s f => s.shiftTimers f (s.cyc - (s.fclk - c.c) / 2 ^ 47)) s) s

/-! The module's own changes (R59, R310, R312). -/

/-- The change an action of the module stands for: class 7 with engine, comb and, at bit 8, pair; class 8 with fibre and line. -/
def State.chgOwn (s : State) (cls arg t : Nat) : OptChg :=
  if cls = 7 then
    let e := fld arg 0 3
    let p := fld arg 8 2
    { kind := 0, eng := e, pair := p, from_ := s.fibreComb (8 * e + 2 * p), to_ := fld arg 4 3, c := t, id := 0, byFw := true }
  else { kind := 1, eng := fld arg 3 3, fibre := fld arg 0 6, line := fld arg 8 5, c := t, id := 0, byFw := true }

/-- The argument a firmware unit carries for it. -/
def chgArg (cls arg : Nat) : Nat := if cls = 7 then fld arg 0 7 else arg

/-- Announce and arm a change of the module's own at the first free instant at least `lead` ahead, or wait for a unit (R59). -/
def State.ownChange (s : State) (cls arg lead : Nat) : State :=
  match s.ownSlot lead with
  | none => s.ownWait { cls := cls, arg := arg, lead := lead }
  | some (n, t) =>
    let c := s.chgOwn cls arg t
    let why := s.chgRefusal c
    if why ≠ 0 then (s.chgRefuse c.eng 3 why).wr OPX_CHG_STAT_by_fw 1 c.eng
    else (s.chgAccept c).armOwn n cls (chgArg cls arg) t 0 1

/-- An active comb is replaced by CS4, where R314 allows it; else no_spare. -/
def State.toSpare (s : State) (e c lead : Nat) : State :=
  if s.opt.chgs.any (fun x => x.kind = 0 && x.eng = e && x.pair = c) || s.fwq.any (fun a => a.cls = 7 && fld a.arg 0 3 = e && fld a.arg 8 2 = c) then s
  else if !s.flag OPX_COMB_fit e 4 || s.spareBusy e then s.opxIrq e 4
  else s.ownChange 7 (e ||| 4 <<< 4 ||| c <<< 8) lead

/-- COMB_LOCK_LOSS: counted, raised; a relock attempt starts (R310). -/
def State.combLoss (s : State) (e c : Nat) : State :=
  if !s.flag OPX_COMB_lock e c then s else
  let s := ((s.wr OPX_COMB_lock 0 e c).cnt OPX_LOCK_LOSS_count e).opxIrq e 5
  let s : State := { s with opt := { s.opt with relock := s.opt.relock.put (e * 8 + c) (s.cyc + usCyc (s.rd OPX_CTRL_relock_us e)) } }
  s.refit e

/-- COMB_LOCK_LOSS (R310). -/
def execCombLockLoss (e comb : Nat) (s : State) : Host.Outcome State Fault Refusal := act s (s.combLoss (e % 8) (comb % 5))

/-- A comb that is on acquires lock (R310). -/
def State.combLocked (s : State) (e c : Nat) : State :=
  if s.flag OPX_COMB_lock e c || s.flag OPX_COMB_off e c || s.rd PAGE_PWR_state (0x30 + e) = 3 && !s.pwr.wakeE.contains e then s else
  let s := s.wr OPX_COMB_lock 1 e c
  ({ s with opt := { s.opt with relock := s.opt.relock.del (e * 8 + c) } }).refit e

/-- COMB_LOCKED (R310). -/
def execCombLocked (e comb : Nat) (s : State) : Host.Outcome State Fault Refusal := act s (s.combLocked (e % 8) (comb % 5))

/-- An active comb still unlocked after relock_us is changed over to CS4 with a lead of 150 µs (R310). -/
def State.relockTimeout (s : State) (e c : Nat) : State :=
  match s.opt.relock.get? (e * 8 + c) with
  | none => s
  | some t =>
    if s.cyc < t then s else
    let s : State := { s with opt := { s.opt with relock := s.opt.relock.del (e * 8 + c) } }
    if c < 4 && !s.flag OPX_COMB_lock e c && s.fibreComb (8 * e + 2 * c) = c then s.toSpare e c (150000 * NS) else s

/-- COMB_RELOCK_TIMEOUT (R310). -/
def execCombRelockTimeout (e comb : Nat) (s : State) : Host.Outcome State Fault Refusal := act s (s.relockTimeout (e % 8) (comb % 5))

/-- A write of OPX_COMB.off: refused while the comb lights a fibre (R321). -/
def State.combOff (s : State) (e c : Nat) (w : Wr) : State :=
  let v := w.merge 1 1 (s.rd OPX_COMB_off e c)
  if v = 1 && s.lights e c then s.opxDone e 3
  else if v = 1 then (((s.wr OPX_COMB_off 1 e c).wr OPX_COMB_lock 0 e c)).refit e
  else (s.wr OPX_COMB_off 0 e c).refit e

/-- COMB_OFF_WRITE (R321). -/
def execCombOffWrite (e comb : Nat) (w : Wr) (s : State) : Host.Outcome State Fault Refusal :=
  hostWrite s (0x30 + e % 8) (0x200 + 8 * (comb % 5)) fun s => s.combOff (e % 8) (comb % 5) w

/-! Fade (R311 to R314). -/

/-- 10 log10(P / B) lies at or below −t / 10 dB. -/
def fadeLow (p b t : Nat) : Bool := p ^ 100 * 10 ^ t ≤ b ^ 100

/-- 10 log10(P / B) lies at or above −t / 10 + h / 10 dB. -/
def fadeHigh (p b t h : Nat) : Bool := b ^ 100 * 10 ^ (h - t) ≤ p ^ 100 * 10 ^ (t - h)

/-- 1000 log10(P / B) is at least `n`. -/
def fadeGe (p b : Nat) (n : Int) : Bool :=
  if n < 0 then b ^ 1000 ≤ p ^ 1000 * 10 ^ (-n).toNat else b ^ 1000 * 10 ^ n.toNat ≤ p ^ 1000

/-- The largest n in [lo, lo + 2^k) with 1000 log10(P / B) ≥ n, taken to hold at lo. -/
def fadeFloor (p b : Nat) : Nat → Int → Int
  | 0, lo => lo
  | k + 1, lo => if fadeGe p b (lo + 2 ^ k) then fadeFloor p b k (lo + 2 ^ k) else fadeFloor p b k lo

/-- The four thresholds of an engine in 0.1 dB. -/
def State.fadeThr (s : State) (e i : Nat) : Nat :=
  s.rd (match i with | 0 => OPX_FADE_THR_warn | 1 => OPX_FADE_THR_plan | 2 => OPX_FADE_THR_force | _ => OPX_FADE_THR_out) e

/-- One evaluation of a comb or line: two in a row reach or clear a threshold (R311). -/
def State.fadeStep (s : State) (e p b : Nat) (x : Fade) : Fade :=
  let low := ofBits ((List.range 4).filter fun i => fadeLow p b (s.fadeThr e i))
  let high := ofBits ((List.range 4).filter fun i => fadeHigh p b (s.fadeThr e i) (s.rd OPX_FADE_THR_hyst e))
  { reached := (x.reached ||| (x.low &&& low)) &&& ((x.high &&& high) ^^^ 15), low := low, high := high }

/-- FORCE reached for a line of a comb: its lane migrates to λ16 on both fibres the comb lights, where λ16 is free (R312 to R314). -/
def State.forceLine (s : State) (e c line : Nat) : State :=
  if 16 ≤ line then s else
  (List.range 8).foldl (fun s j =>
    let f := 8 * e + j
    if s.fibreComb f ≠ c || s.spareLane f = line || s.opt.chgs.any (fun x => x.kind = 1 && x.fibre = f && x.line = line) then s
    else if s.spareLane f ≠ 31 then s.opxIrq e 4
    else s.ownChange 8 (f ||| line <<< 8) (1000000 * NS)) s

/-- A threshold is reached (R312): the alert, what shows it, and at FORCE the module's own change. -/
def State.fadeAct (s : State) (e c line i : Nat) : State :=
  let s := ((s.wr OPX_FADE_LOC_comb c e).wr OPX_FADE_LOC_line line e).wr OPX_FADE_LOC_threshold (i + 1) e
  let s := (s.wr OPX_FADE_LOC_valid 1 e).opxIrq e i
  if i ≠ 2 || !s.flag OPX_CTRL_auto_force e then s
  else if line ≠ 31 then s.forceLine e c line
  else if c = 4 then (if s.lights e 4 then s.opxIrq e 4 else s)
  else if s.fibreComb (8 * e + 2 * c) = c then s.toSpare e c (1000000 * NS)
  else s

/-- The 17 lines of a comb are evaluated, with the comb's own fade before them (R311, R313). Which of its two neighbours a fade between them shows is not stated, nor what a comb without light shows (log entry 1). -/
def State.fadeComb (s : State) (e c : Nat) (powers : List Nat) : State :=
  let p := fun l => powers.getD (17 * c + l) 0
  let b := fun l => s.opt.base.getD 0 (e * 85 + 17 * c + l)
  let sp := ((List.range 17).map p).sum
  let sb := ((List.range 17).map b).sum
  if sb = 0 then s else
  let key := e * 90 + 85 + c
  let old := s.opt.fades.getD {} key
  let new := s.fadeStep e sp sb old
  let lo := fadeFloor sp sb 16 (-32768)
  let fr := if sp ≠ 0 && fadeGe sp sb lo && sp ^ 1000 * 10 ^ (-lo).toNat = sb ^ 1000 * 10 ^ lo.toNat then (0, s) else s.takeFree 9
  let val := if sp = 0 then toSigned 16 (fr.1 % 65536) else min 32767 (lo + ((fr.1 % 2 : Nat) : Int))
  let top := ((List.range 4).filter fun i => bit new.reached i).foldl (fun m i => max m (i + 1)) 0
  let s : State := { fr.2 with opt := { fr.2.opt with fades := fr.2.opt.fades.set {} key new } }
  let s := ((s.wr OPX_COMB_fade (ofSigned 16 val) e c).wr OPX_COMB_fade_state top e c)
  let s := if c = 4 then s.refit e else s
  let s := ((List.range 4).filter fun i => bit new.reached i && !bit old.reached i).foldl (fun s i => s.fadeAct e c 31 i) s
  (List.range 17).foldl (fun s l =>
    if b l = 0 then s else
    let k := e * 90 + 17 * c + l
    let o := s.opt.fades.getD {} k
    let n := s.fadeStep e (p l) (b l) o
    let s : State := { s with opt := { s.opt with fades := s.opt.fades.set {} k n } }
    ((List.range 4).filter fun i => bit n.reached i && !bit o.reached i && !bit new.reached i).foldl (fun s i => s.fadeAct e c l i) s) s

/-- FADE_EVALUATION: the comb-line taps integrated over 1 ms (R311). -/
def State.fadeEval (s : State) (e : Nat) (powers : List Nat) : State :=
  if !s.flag OPX_CTRL_fade_en e || s.flag OPX_STATUS_no_baseline e || s.cyc < s.opt.fadeAt.getD 0 e + 2000000 then s else
  let s : State := { s with opt := { s.opt with fadeAt := s.opt.fadeAt.put e s.cyc } }
  ((List.range 5).foldl (fun s c => s.fadeComb e c powers) s).monStart e (· < 85)

/-- FADE_EVALUATION (R311). -/
def execFadeEvaluation (e : Nat) (powers : List Nat) (s : State) : Host.Outcome State Fault Refusal := act s (s.fadeEval (e % 8) powers)

/-! Notices received (R319, R91). -/

/-- A changeover or line notice received on a fibre: its receive hold window is set, replaced or withdrawn; one that comes too late is discarded. -/
def State.windowRx (s : State) (f id c : Nat) (lanes : List Nat) (line : Option Nat) (off : Bool) : State :=
  if s.bypassed f then s else
  let d := s.mldClk f
  if c < s.fclk + d + 8 * NS then s.cnt LNK_LMF_LATE_count (f / 8) else
  let x := s.fib f
  -- a notice replaces the earlier one of its ID where it came before that one's instant, which opens at C + d − 8 ns (R91)
  let rest := x.rxHold.filter fun h => !(h.id = id && !h.isOpen && s.fclk + d < h.from_ + 8 * NS)
  let h : HoldWin := { id := id, from_ := c + d - 8 * NS, until_ := c + d + 264 * NS, lanes := lanes, line := line }
  (s.setFib f { x with rxHold := if off then rest else rest ++ [h] }).cnt OPX_NOTICE_RX_count (f / 8)

/-- CHANGEOVER_NOTICE (R319). -/
def execChangeoverNotice (f id fromComb toComb sec nsHalf : Nat) (s : State) : Host.Outcome State Fault Refusal :=
  let f := f % 64
  act s (s.windowRx f (id % 65536) (clkOf sec (nsHalf / 2) (nsHalf % 2)) (lanesOf f) none (fromComb = toComb))

/-- LINE_NOTICE (R319). -/
def execLineNotice (f id line sec nsHalf : Nat) (s : State) : Host.Outcome State Fault Refusal :=
  let f := f % 64
  act s (s.windowRx f (id % 65536) (clkOf sec (nsHalf / 2) (nsHalf % 2)) [f * 16 + line % 16] (some (line % 16)) (16 ≤ line))

/-- Receive hold windows of a fibre whose start has come open (R319). -/
def State.rxOpen (s : State) (f : Nat) : State :=
  let x := s.fib f
  s.setFib f { x with rxHold := x.rxHold.map fun (h : HoldWin) => if h.from_ ≤ s.fclk then { h with isOpen := true } else h }

/-- RX_HOLD_OPEN (R319). -/
def execRxHoldOpen (f : Nat) (s : State) : Host.Outcome State Fault Refusal := act s (s.rxOpen (f % 64))

/-- A migrating lane's receiver moves onto D16 at C + d + 128 ns, or back to its own ring if it stands there (R319). -/
def State.rxSwitch (s : State) (f : Nat) : State :=
  let x := s.fib f
  match x.rxHold.find? (fun h => h.line.isSome && !h.moved && h.from_ + 136 * NS ≤ s.fclk) with
  | none => s
  | some h =>
    let m := h.line.getD 0
    let s := s.setFib f { x with rxHold := x.rxHold.map fun (y : HoldWin) => if y.id = h.id then { y with moved := true } else y,
                                 rxSpare := if x.rxSpare = some m then none else some m }
    let old := if x.rxSpare = some m then 16 else m
    let new := if x.rxSpare = some m then m else 16
    let s := s.setRing (f / 8) (dropRing f old) { s.ring (f / 8) (dropRing f old) with lock := 3 }
    s.setRing (f / 8) (dropRing f new) { s.ring (f / 8) (dropRing f new) with lock := 0 }

/-- RX_MIGRATE_SWITCH (R319). -/
def execRxMigrateSwitch (f : Nat) (s : State) : Host.Outcome State Fault Refusal := act s (s.rxSwitch (f % 64))

/-- Receive hold windows of a fibre that have ended close (R319); missing markers are counted afresh from there (R337, R341). -/
def State.rxClose (s : State) (f : Nat) : State :=
  let x := s.fib f
  let ls := (x.rxHold.filter fun h => h.until_ ≤ s.fclk).flatMap (·.lanes)
  ls.foldl (fun s l => s.setLaneX l { s.laneX l with markAt := s.cyc }) (s.setFib f { x with rxHold := x.rxHold.filter fun h => s.fclk < h.until_ })

/-- RX_HOLD_CLOSE (R319). -/
def execRxHoldClose (f : Nat) (s : State) : Host.Outcome State Fault Refusal := act s (s.rxClose (f % 64))

end Sys2Proof.Machine
end

