-- ==== Sys2Proof/Machine/Bypass.lean ====
section
/-! DEFINITION. Optical circuit bypass, as the module that carries a circuit and as a neighbour of one (R351 to R369). -/

namespace Sys2Proof.Machine

/-- BYP_PERMIT, as a table for parity. -/
def TB_PERMIT : Nat := 36
/-- The stored mesh state, as a table for parity. -/
def TB_MESH : Nat := 37

/-- PAGE_IRQ_STATUS of BYP. -/
def State.bypIrq (s : State) (b : Nat) : State := s.irq 8 b

/-- A fibre's state: 0 NORMAL, 1 DRAINING, 2 QUIET, 3 BYPASSED (R368). -/
def State.bypState (s : State) (f : Nat) : Nat := s.rd BYP_FIBRE_state 0 f

/-- Set a fibre's state. -/
def State.setByp (s : State) (f v : Nat) : State := s.wr BYP_FIBRE_state v 0 f

/-- A circuit whose stored state can be read leads from `i` to `o`. -/
def State.circuit (s : State) (i o : Nat) : Bool :=
  s.flag BYP_CIRCUIT_valid 0 i && s.rd BYP_CIRCUIT_output 0 i = o && !s.isBad TB_MESH 0 i 0 16

/-- An input feeds a readable circuit. -/
def State.inUse (s : State) (i : Nat) : Bool := s.flag BYP_CIRCUIT_valid 0 i && !s.isBad TB_MESH 0 i 0 16

/-- An output is fed by a readable circuit. -/
def State.outUse (s : State) (o : Nat) : Bool := (List.range 64).any fun i => s.circuit i o

/-- Some readable circuit takes the fibre's input or output (R352). -/
def State.inCircuit (s : State) (f : Nat) : Bool := s.inUse f || s.outUse f

/-- Replace a preparation, found by its fibres. -/
def State.putPrep (s : State) (p : BypPrep) : State :=
  { s with byp := { s.byp with preps := s.byp.preps.map fun x => if x.a = p.a ∧ x.b = p.b then p else x } }

/-- Take a preparation out. -/
def State.delPrep (s : State) (p : BypPrep) : State :=
  { s with byp := { s.byp with preps := s.byp.preps.filter fun x => !(x.a = p.a && x.b = p.b) } }

/-- Show the pending bits of an input. -/
def State.setPending (s : State) (i : Nat) (on isSet : Bool) : State :=
  (s.wr BYP_CIRCUIT_pending (if on then 1 else 0) 0 i).wr BYP_CIRCUIT_pending_set (if on && isSet then 1 else 0) 0 i

/-- Ports of a fibre take no new packets, or take them again (R358). -/
def State.bar (s : State) (f : Nat) (on : Bool) : State :=
  { s with byp := { s.byp with barred := if on then (if s.byp.barred.contains f then s.byp.barred else s.byp.barred ++ [f]) else s.byp.barred.filter (· ≠ f) } }

/-- A fibre returns to NORMAL. -/
def State.bypNormal (s : State) (f : Nat) : State := (s.setByp f 0).bar f false

/-- A BYP command completes: 0 OK, 3 INVALID, 7 REFUSED with a reason (R356, R368). -/
def State.bypDone (s : State) (st reason : Nat) : State :=
  let s := ((s.wr BYP_CMD_STAT_busy 0).wr BYP_CMD_STAT_status st).wr BYP_CMD_STAT_reason reason
  let s := s.bypIrq 0
  if st = 0 then s else (s.cnt BYP_REJECT_count).bypIrq 3

/-- quiet_ns in clock units; below 1,000 it acts as 1,000. -/
def State.quietClk (s : State) : Nat := max 1000 (s.rd BYP_CFG_quiet_ns) * NS

/-! Preparing (R356, R357). -/

/-- Why a PREPARE is refused, 0 for none, in the order of R356's table. -/
def State.prepRefusal (s : State) (p : BypPrep) : Nat :=
  let set := p.isSet
  let taken := fun f => s.bypState f ≠ 0 && !(s.bypState f = 3 && !s.inCircuit f)
  let slave := s.flag TIM_STATE_slave_valid && (s.rd TIM_STATE_slave_port = p.a || s.rd TIM_STATE_slave_port = p.b)
  if !s.flag BYP_CTRL_enable then 7
  else if p.a = p.b || (set && p.todo.any fun d => !bit (s.rd BYP_PERMIT_outputs 0 d.1) d.2 || s.isBad TB_PERMIT 0 d.1 0 16) then 3
  else if set && (taken p.a || taken p.b || p.todo.any fun d => s.inUse d.1 || s.outUse d.2) then 2
  else if !set && (p.todo.any (fun d => !s.circuit d.1 d.2) || s.byp.preps.any fun x => x.a = p.a || x.b = p.a || x.a = p.b || x.b = p.b) then 2
  else if set && slave then 4
  else if p.c < s.fclk + max (max 50 (s.rd BYP_CFG_lead_us) * 1000 * NS) (s.quietClk + 50000 * NS) then 1
  else if set && s.idleFw.isNone then 5
  else 0

/-- The BYPASS_NOTICE of a preparation on a fibre (R89). -/
def BypPrep.notice (p : BypPrep) (f : Nat) (on : Bool) : Lmf :=
  { typ := 0x32, body := [p.id, f, if on then 1 else 0] ++ instFields p.c }

/-- Send a notice on a fibre where one is due: three in all, 10 µs apart (R357). -/
def State.bypNotice (s : State) (p : BypPrep) (f : Nat) : State :=
  match s.byp.preps.find? (fun x => x.a = p.a && x.b = p.b) with
  | none => s
  | some p =>
    let n := p.sent.getD 0 f
    let due : Bool := match p.sentAt.get? f with | none => true | some t => decide (t + usCyc 10 ≤ s.cyc)
    if !p.isSet || 3 ≤ n || !due || !s.lit f || s.bypassed f then s else
    ((s.putPrep { p with sent := p.sent.put f (n + 1), sentAt := p.sentAt.put f s.cyc }).sendLmf f (p.notice f true)).cnt BYP_NOTICE_TX_count

/-- The preparation BYP_CMD_ARG, BYP_CMD_SEC and BYP_CMD_NS name. -/
def State.prepAsked (s : State) : BypPrep :=
  let a := s.rd BYP_CMD_ARG_fibre_a
  let b := s.rd BYP_CMD_ARG_fibre_b
  { a := a, b := b, isSet := s.flag BYP_CMD_ARG_set, c := clkOf (s.rd BYP_CMD_SEC_sec) (s.rd BYP_CMD_NS_ns) (s.rd BYP_CMD_NS_half),
    todo := if s.flag BYP_CMD_ARG_duplex then [(a, b), (b, a)] else [(a, b)] }

/-- PREPARE (R356, R357): a set drains both fibres, arms the quiet point and sends notices. -/
def State.prepare (s : State) : State :=
  let p := s.prepAsked
  let why := s.prepRefusal p
  if why ≠ 0 then s.bypDone 7 why else
  let s := p.todo.foldl (fun s d => s.setPending d.1 true p.isSet) s
  if !p.isSet then ({ s with byp := { s.byp with preps := s.byp.preps ++ [p] } } : State).bypDone 0 0 else
  let n := s.idleFw.getD 31
  let p : BypPrep := { p with id := s.byp.nextId, unit := some n, quietAt := p.c - s.quietClk }
  let s : State := { s with byp := { s.byp with preps := s.byp.preps ++ [p], nextId := (s.byp.nextId + 1) % 65536 } }
  let s := [p.a, p.b].foldl (fun s f => (s.setByp f 1).bar f true) s
  let s := s.armOwn n 13 0 (p.c - s.quietClk) 0 1
  let s := (s.bypNotice p p.a).bypNotice p p.b
  (s.wr BYP_CMD_STAT_notice_id p.id).bypDone 0 0

/-- WITHDRAW: cancels the preparation of the fibres named, before its quiet point (R357). -/
def State.bypWithdraw (s : State) : State :=
  let q := s.prepAsked
  match s.byp.preps.find? (fun x => x.a = q.a && x.b = q.b) with
  | none => s.bypDone 3 0
  | some p =>
    if p.quiet || (p.isSet && decide (p.quietAt ≤ s.fclk)) || p.done ≠ [] then s.bypDone 7 6 else
    let s := p.todo.foldl (fun s d => s.setPending d.1 false false) (s.delPrep p)
    if !p.isSet then s.bypDone 0 0 else
    let s := [p.a, p.b].foldl (fun s f =>
      let s := s.bypNormal f
      if p.sent.getD 0 f = 0 then s else (s.sendLmf f (p.notice f false)).cnt BYP_NOTICE_TX_count) s
    let s := match p.unit with
      | some n => if s.armed n then (s.cancelUnit n).reDepth else s
      | none => s
    s.bypDone 0 0

/-- A write of BYP_CMD: 1 PREPARE, 2 WITHDRAW. -/
def State.bypCmd (s : State) (op : Nat) : State :=
  match op with
  | 1 => s.prepare
  | 2 => s.bypWithdraw
  | _ => s.bypDone 3 0

/-- PREPARE (R356). -/
def execPrepare (s : State) : Host.Outcome State Fault Refusal := hostWrite s 8 0x110 fun s => s.prepare

/-- BYPASS_WITHDRAW (R357). -/
def execBypassWithdraw (s : State) : Host.Outcome State Fault Refusal := hostWrite s 8 0x110 fun s => s.bypWithdraw

/-- A notice of a change or of a bypass is sent again on a fibre (R316, R357). -/
def State.noticeResend (s : State) (f : Nat) : State :=
  let s := (s.opt.chgs.filter fun c => c.fibres.contains f).foldl (fun s c => s.chgNotice c.id f) s
  (s.byp.preps.filter fun p => p.a = f || p.b = f).foldl (fun s p => s.bypNotice p f) s

/-- NOTICE_RESEND (R316, R357). -/
def execNoticeResend (f : Nat) (s : State) : Host.Outcome State Fault Refusal := act s (s.noticeResend (f % 64))

/-! The quiet point (R359). -/

/-- A packet queued for a fibre that goes quiet is taken out of the buffer and routed again. -/
def State.requeue (s : State) (x : Flight) : State :=
  let r : Option Pkt × State := match x.loc with
    | .spill b off => let u := s.unspill x b off; (u.1, u.2.unchain x.queue b)
    | _ => (some x.pkt, s)
  let s := r.2.dropFlight x
  match r.1 with
  | none => s.cnt FWD_DROP_HDR_count x.pipe
  | some p => (s.cnt BYP_REQUEUE_count).rerouteAll [{ x with pkt := p }]

/-- Both fibres of a preparation go QUIET; every packet still queued for their ports is routed again. -/
def State.quietPoint (s : State) (p : BypPrep) : State :=
  let s := [p.a, p.b].foldl (fun s f => s.setByp f 2) (s.putPrep { p with quiet := true })
  let ps := s.fibrePorts p.a ++ s.fibrePorts p.b
  (s.flights.filter fun x => match x.dest with | .lp n => ps.contains n | _ => false).foldl (fun s x => s.requeue x) s

/-- A FW_NOTICE effect interrupts the housekeeping processors with its code; the unit of a preparation marks its quiet point (R51, R359). -/
def State.fwNotice (s : State) (u code : Nat) : State × Bool :=
  let s := s.emit (.fwInt code)
  match s.byp.preps.find? (fun p => p.unit = some u && !p.quiet) with
  | some p => (s.quietPoint p, true)
  | none => (s, true)

/-- FW_NOTICE, action class 13 (R51). -/
def execFwNotice (u : Nat) (s : State) : Host.Outcome State Fault Refusal := act s (s.effect (u % 32) 13 fun e s => s.fwNotice e.unit (fld e.arg 0 32))

/-! Effects (R360, R364). -/

/-- Packets that still wait at the core ports of a fibre in bypass, which carry no cells, begin again at another (R365; DESIGN CHOICE, log entry 85). -/
def State.clearInputs (s : State) (f : Nat) : State :=
  { s with flights := s.flights.map fun (x : Flight) => if x.loc = .voq && x.inCore / 2 = f then { x with inCore := s.pipeCore (f / 4), handed := 0 } else x }

/-- A fibre enters bypass: its lanes go OFF with cause BYPASS, its ports down, Traverse BYPASSED, its rings parked; packets not acknowledged are counted and routed again (R360, R365). -/
def State.enterBypass (s : State) (f : Nat) : State :=
  if s.bypState f = 3 then s else
  let n := ((s.fibrePorts f).map fun p => (s.tx p).held.length).sum
  let s := s.cnt BYP_UNACKED_count 0 0 0 n
  let s := ((s.setByp f 3).bar f true).clearInputs f
  let s := s.leave (lanesOf f) 11 true
  let s := (lanesOf f).foldl (fun s l => if s.lane l = laneFAILED then s else (s.setLane l laneOFF).setCause l 11) s
  let s := (List.range 34).foldl (fun s i =>
    let r := 34 * (f % 8) + i
    let x := s.ring (f / 8) r
    if x.lock = 0 then s.setRing (f / 8) r { x with lock := 3 } else s) s
  let s := s.setPtp f { s.ptp f with hist := [], reqs := [] }
  s.setTrv f 7

/-- A fibre leaves bypass: its lanes go from OFF to TRAIN, Traverse to PROBING (R364); a fibre asked to be in IDLE stays OFF for it. -/
def State.leaveBypass (s : State) (f : Nat) : State :=
  let s := s.bypNormal f
  let s := (lanesOf f).foldl (fun s l =>
    let s := (if s.rd PWR_FIBRE_state 0 f < 2 then s.lockLane l else s).lookRings l
    if s.lane l ≠ laneOFF || s.cause l ≠ 11 then s
    else if s.idleAsked f || s.rd PAGE_PWR_req (0x30 + f / 8) = 2 then s.setCause l 12
    else s.toTrain l) s
  s.setTrv f 1

/-- A BYPASS_SET effect (R360, R364). The last direction of a clear raises clear_done at once. -/
def State.bypassSet (s : State) (i o : Nat) (set : Bool) : State × Bool :=
  match s.byp.preps.find? (fun p => p.isSet = set && p.todo.contains (i, o) && p.c + 12 * NS ≤ s.fclk && s.fclk ≤ p.c + 20 * NS) with
  | none => ((s.cnt BYP_REJECT_count).bypIrq 3, false)
  | some p =>
    if !s.flag BYP_CTRL_enable then ((s.cnt BYP_REJECT_count).bypIrq 3, false) else
    let s := (s.putPrep { p with todo := p.todo.filter (· ≠ (i, o)), done := p.done ++ [(i, o)] }).setPending i false false
    if set then
      let s := ((s.wr BYP_CIRCUIT_output o 0 i).wr BYP_CIRCUIT_valid 1 0 i).mend TB_MESH 0 i 0
      (((s.enterBypass p.a).enterBypass p.b).cnt BYP_SET_DONE_count, true)
    else
      let s := ((s.wr BYP_CIRCUIT_output 0 0 i).wr BYP_CIRCUIT_valid 0 0 i).cnt BYP_CLEAR_DONE_count
      let s := [p.a, p.b].foldl (fun s f => if s.inCircuit f then s else s.leaveBypass f) s
      (if p.todo.all (· = (i, o)) then (s.delPrep p).bypIrq 2 else s, true)

/-- BYPASS_SET, action class 6 (R51, R360). -/
def execBypassSet (u : Nat) (s : State) : Host.Outcome State Fault Refusal :=
  act s (s.effect (u % 32) 6 fun e s => s.bypassSet (fld e.arg 0 6) (fld e.arg 8 6) (bit e.arg 16))

/-- After C + 20 ns a direction not matched is dropped, which raises missed for a set that becomes simplex, or the whole preparation lapses (R360, R364). -/
def State.lapse (s : State) : State :=
  (s.byp.preps.filter fun p => p.todo ≠ [] && decide (p.c + 20 * NS < s.fclk)).foldl (fun s p =>
    let s := p.todo.foldl (fun s d => s.setPending d.1 false false) s
    let s := s.cnt BYP_MISSED_count
    if p.done ≠ [] then (if p.isSet then (s.bypIrq 5).putPrep { p with todo := [] } else s.delPrep p)
    else
      let s := s.delPrep p
      if p.isSet then (s.bypNormal p.a).bypNormal p.b else s) s

/-- PREPARATION_LAPSE (R360). -/
def execPreparationLapse (s : State) : Host.Outcome State Fault Refusal := act s s.lapse

/-- The last direction of a set has settled (R360). -/
def State.meshSettled (s : State) : State :=
  (s.byp.preps.filter fun p => p.todo = [] && p.done ≠ []).foldl (fun s p => (s.delPrep p).bypIrq 1) s

/-- MESH_SETTLED (R360). -/
def execMeshSettled (s : State) : Host.Outcome State Fault Refusal := act s s.meshSettled

/-! A neighbour's bypass (R362). -/

/-- A received BYPASS_NOTICE: kept or withdrawn, in place of an earlier one of its ID whose instant has not come (R91); one that comes too late is discarded. -/
def State.bypNoticeRx (s : State) (f id c : Nat) (on : Bool) : State :=
  if s.bypassed f then s else
  let d := s.mldClk f
  if c < s.fclk + d + 2000 * NS then s.cnt LNK_LMF_LATE_count (f / 8) else
  let x := s.fib f
  let rest := x.cuts.filter fun k => !(k.id = id && !k.done && decide (s.fclk < k.c)) && decide (s.fclk ≤ k.c + d + 200000 * NS)
  (s.setFib f { x with cuts := if on then rest ++ [{ id := id, c := c }] else rest }).cnt BYP_NOTICE_RX_count

/-- BYPASS_NOTICE (R362). -/
def execBypassNotice (f id set sec nsHalf : Nat) (s : State) : Host.Outcome State Fault Refusal :=
  act s (s.bypNoticeRx (f % 64) (id % 65536) (clkOf sec (nsHalf / 2) (nsHalf % 2)) (set % 2 = 1))

/-- At C + d the fibre's lanes leave as for FAR_END and Traverse returns to PROBING (R362). -/
def State.farCut (s : State) (f : Nat) : State :=
  let x := s.fib f
  let d := s.mldClk f
  if !(x.cuts.any fun k => !k.done && decide (k.c + d ≤ s.fclk)) then s else
  let s := s.setFib f { x with cuts := x.cuts.map fun (k : ByCut) => if k.c + d ≤ s.fclk then { k with done := true } else k }
  let s := s.leave (lanesOf f) 6
  if s.flag TRV_CTRL_enable && s.trv f ≠ 7 then s.setTrv f 1 else s

/-- BYPASS_FAR_END_CUT (R362). -/
def execBypassFarEndCut (f : Nat) (s : State) : Host.Outcome State Fault Refusal := act s (s.farCut (f % 64))

/-! Watching the mesh (R366, R369). -/

/-- A power in 2^-24 mW lies below −`dbm` dBm. -/
def belowDbm (p dbm : Nat) : Bool := p ^ 10 * 10 ^ dbm < 2 ^ 240

/-- INPUT_POWER_SAMPLE: every input's power, integrated over the millisecond since the last sample; two low readings in a row of an input in a circuit raise input_los (R366). -/
def State.inputPower (s : State) (powers : List Nat) : State :=
  if s.byp.powAt.any fun c => decide (s.cyc < c + msCyc 1) then s else
  let p := fun f => powers.getD f 0 % 2 ^ 40
  let low := (List.range 64).filter fun f => s.flag BYP_CIRCUIT_valid 0 f && belowDbm (p f) (s.rd LNK_ERR_CFG_los_dbm (f / 8))
  let hit := low.any s.byp.low.contains
  let s := (List.range 64).foldl (fun s f => s.wr BYP_INPOW_power (p f) 0 f) s
  let s : State := { s with byp := { s.byp with low := low, powAt := some s.cyc } }
  if hit then s.bypIrq 4 else s

/-- INPUT_POWER_SAMPLE (R366). -/
def execInputPowerSample (powers : List Nat) (s : State) : Host.Outcome State Fault Refusal := act s (s.inputPower powers)

/-- A parity error in the stored state of a circuit in force (R369): counted and raised, the mesh left as it is driven. -/
def State.meshParity (s : State) (i : Nat) : State :=
  if !s.flag BYP_CIRCUIT_valid 0 i then s else ((s.spoil [tkey TB_MESH 0 i 0 * 32 + 16]).cnt BYP_PARITY_count).bypIrq 3

/-- MESH_PARITY_ERROR (R369). -/
def execMeshParityError (input : Nat) (s : State) : Host.Outcome State Fault Refusal := act s (s.meshParity (input % 64))

/-! The module's own actions that wait for a unit (R59). -/

/-- Try a waiting action again, as far ahead of the present as its chapter asks. -/
def State.ownAgain (s : State) (a : FwAction) : State :=
  if a.cls = 12 then s.telArm
  else s.ownChange a.cls a.arg a.lead

/-- At each whole microsecond the oldest waiting action is tried while a unit is idle (R59). -/
def State.ownRetry (s : State) : State :=
  match s.fwq with
  | [] => s
  | a :: r => if s.idleFw.isSome && s.atMicro then ({ s with fwq := r } : State).ownAgain a else s

/-- FW_UNIT_RETRY (R59). -/
def execFwUnitRetry (s : State) : Host.Outcome State Fault Refusal := act s s.ownRetry

end Sys2Proof.Machine
end

