-- ==== Sys2Proof/Machine/Power.lean ====
section
/-! DEFINITION. Power states and wake-ups, GDDR7 self-refresh, temperature and supply, clocks, the ends of hold windows (R318, R464 to R481). -/

namespace Sys2Proof.Machine

/-! Power requests (R469, R471). -/

/-- A request or an enable refused: counted and located with reason 1 UNSUPPORTED, 2 ACTIVE_CORE, 3 BUSY, 4 CLKEN. -/
def State.pwrRefuse (s : State) (pg req reason : Nat) : State :=
  let s := (((s.cnt PWR_REFUSE_CNT_count).wr PWR_REFUSE_LOC_page pg).wr PWR_REFUSE_LOC_req req).wr PWR_REFUSE_LOC_reason reason
  s.wr PWR_REFUSE_LOC_valid 1

/-- A fibre's lanes stop: those of READY or SERVICE leave with cause IDLE, those in TRAIN go OFF; FAILED lanes stay (R337, R473). -/
def State.darkFibre (s : State) (f : Nat) : State :=
  let s := s.leave (lanesOf f) 12 true
  (lanesOf f).foldl (fun s l => if s.lane l = laneTRAIN then (s.setLane l laneOFF).setCause l 12 else s) s

/-- The end of a fibre's fill, kept with each of its lanes (R473). -/
def State.fillEnd (s : State) (f : Nat) (c : Option Nat) : State :=
  (lanesOf f).foldl (fun s l => s.setLaneX l { s.laneX l with fillEnd := c }) s

/-- The fibre is no longer waking. -/
def State.noWake (s : State) (f : Nat) : State := { s with pwr := { s.pwr with wakeF := s.pwr.wakeF.filter (· ≠ f) } }

/-- Lanes that IDLE or OFF had put OFF go to TRAIN (R473). -/
def State.trainFibre (s : State) (f : Nat) : State :=
  (lanesOf f).foldl (fun s l =>
    let s := s.setLaneX l { s.laneX l with rings := s.ringsOk l }
    if s.lane l = laneOFF && s.cause l = 12 then (if (s.laneX l).rings then s.toTrain l else s.setLaneX l { s.laneX l with waking := true }) else s) s

/-- A fibre follows what is asked of it (R471, R473). -/
def State.fibreIdle (s : State) (f : Nat) : State :=
  if s.rd PAGE_PWR_state (0x30 + f / 8) = 3 then s else
  let d := s.rd PWR_FIBRE_state 0 f
  let fill := (s.laneX (16 * f)).fillEnd.isSome
  if s.idleAsked f then
    if d ≠ 0 || fill then s
    else if s.pwr.wakeF.contains f then (s.noWake f).setFibre f 1
    else (s.darkFibre f).fillEnd f (some (s.cyc + 1000))
  else if d = 2 then s.wakeFibre f
  else if d = 1 || fill then
    let s := (s.fillEnd f none).setFibre f 0
    { s with pwr := { s.pwr with wakeF := (s.pwr.wakeF.filter (· ≠ f)) ++ [f] } }
  else s

/-- An engine goes OFF: lanes, rings, receivers and combs off; bypassed fibres keep their mesh light (R471). -/
def State.engineOff (s : State) (e : Nat) : State :=
  let s := (List.range 8).foldl (fun s j =>
    let f := 8 * e + j
    ((((s.darkFibre f).fillEnd f none).ringsOff f).noWake f).wr PWR_FIBRE_state 3 0 f) s
  let s := (List.range 5).foldl (fun s c => s.wr OPX_COMB_lock 0 e c) s
  let s : State := { s with opt := { s.opt with relock := s.opt.relock.filter fun x => x.1 / 8 ≠ e }, pwr := { s.pwr with wakeE := s.pwr.wakeE.filter (· ≠ e) } }
  (s.wr PAGE_PWR_state 3 (0x30 + e)).refit e

/-- A request for an engine is taken. -/
def State.engineReq (s : State) (e v : Nat) : State :=
  let s := s.wr PAGE_PWR_req v (0x30 + e)
  if v = 2 then (if s.rd PAGE_PWR_state (0x30 + e) = 3 && !s.pwr.wakeE.contains e then s else s.engineOff e)
  else if s.rd PAGE_PWR_state (0x30 + e) = 3 then
    if s.pwr.wakeE.contains e then s else { s with pwr := { s.pwr with wakeE := s.pwr.wakeE ++ [e] } }
  else (List.range 8).foldl (fun s j => s.fibreIdle (8 * e + j)) s

/-- A request for a Serai core is taken (R471, R474). -/
def State.coreReq (s : State) (p v : Nat) : State :=
  let s := s.wr PAGE_PWR_req v (0x80 + p)
  let d := s.rd PAGE_PWR_state (0x80 + p)
  if v = 2 then
    let s : State := { s with pwr := { s.pwr with wakeC := s.pwr.wakeC.filter (· ≠ p), demand := s.pwr.demand.filter (· ≠ p) } }
    ((s.setCore p {}).setImem p []).wr PAGE_PWR_state 3 (0x80 + p)
  else if d = 3 then s.wakeCore p false
  else if v = 0 && d ≠ 0 then s.wakeCore p true
  else s

/-- A request of ON, IDLE or OFF for a page: the state after it, and whether it was accepted (R471). -/
def State.pwrReq (s : State) (pg v : Nat) : State × Bool :=
  let no := fun (reason : Nat) => ((s.pwrRefuse pg v reason).irq 3 0, false)
  let yes := fun (s : State) => (s.reDepth, true)
  if pg ≤ 5 then (s, true)
  else if !pageAssigned pg then (s, false)
  else if v = 3 then no 1
  else if 0x30 ≤ pg && pg ≤ 0x37 then yes (s.engineReq (pg - 0x30) v)
  else if 0x80 ≤ pg then
    let st := s.rd SRI_STATE_state (pg - 0x80)
    if v = 2 && !(st = 2 || st = 4 || st = 5) then no 2 else yes (s.coreReq (pg - 0x80) v)
  else if pg = 8 then
    if v = 1 then no 1
    else if v = 2 && (s.flag BYP_CTRL_enable || s.byp.preps ≠ [] || (List.range 64).any fun i => s.flag BYP_CIRCUIT_valid 0 i) then no 3
    else yes ((s.wr PAGE_PWR_req v 8).wr PAGE_PWR_state (if v = 2 then 3 else 0) 8)
  else if v = 0 then yes s
  else no 1

/-- A write of PAGE_PWR. -/
def State.pwrWrite (s : State) (pg : Nat) (w : Wr) : State :=
  if !w.hits 0 2 then s else (s.pwrReq pg (w.merge 0 2 (s.rd PAGE_PWR_req pg))).1

/-- PAGE_PWR_WRITE (R471). -/
def execPagePwrWrite (pg : Nat) (w : Wr) (s : State) : Host.Outcome State Fault Refusal :=
  hostWrite s (pg % 256) 0x28 fun s => s.pwrWrite (pg % 256) w

/-- An engine of an optical page. -/
def pageEngine (pg : Nat) : Option Nat := if 0x30 ≤ pg ∧ pg ≤ 0x37 then some (pg - 0x30) else none

/-- A POWER_STATE effect: inside a hold window of the engine it is held to the window's end (R320, R471). -/
def State.powerState (s : State) (pg v : Nat) : State × Bool :=
  match pageEngine pg with
  | some e => if v ≠ 3 && s.engineHeld e then ({ s with pwr := { s.pwr with held := s.pwr.held ++ [(pg, v)] } }, true) else s.pwrReq pg v
  | none => s.pwrReq pg v

/-- POWER_STATE, action class 11 (R51, R471). -/
def execPowerState (u : Nat) (s : State) : Host.Outcome State Fault Refusal :=
  act s (s.effect (u % 32) 11 fun e s => s.powerState (fld e.arg 0 8) (fld e.arg 8 2))

/-- The hold windows of an engine that have ended, and the power requests held for them (R318, R320). -/
def State.holdOver (s : State) (e : Nat) : State :=
  let s := s.holdEnd e
  if s.engineHeld e then s else
  let l := s.pwr.held.filter fun x => x.1 = 0x30 + e
  let s : State := { s with pwr := { s.pwr with held := s.pwr.held.filter fun x => x.1 ≠ 0x30 + e } }
  l.foldl (fun s x => (s.pwrReq x.1 x.2).1) s

/-- HOLD_END (R318). -/
def execHoldEnd (e : Nat) (s : State) : Host.Outcome State Fault Refusal := act s (s.holdOver (e % 8))

/-- A write of PAGE_CLKEN (R429, R469). -/
def State.clkenWrite (s : State) (pg : Nat) (w : Wr) : State :=
  if pg ≤ 5 || !w.hits 0 1 then s
  else if w.ones 0 1 = 1 then s.wr PAGE_CLKEN_en 1 pg
  else if s.rd PAGE_PWR_state pg = 3 then s.wr PAGE_CLKEN_en 0 pg
  else s.pwrRefuse pg 0 4

/-- PAGE_CLKEN_WRITE (R469). -/
def execPageClkenWrite (pg : Nat) (w : Wr) (s : State) : Host.Outcome State Fault Refusal :=
  hostWrite s (pg % 256) 8 fun s => s.clkenWrite (pg % 256) w

/-- A write of PWR_FIBRE. -/
def State.pwrFibreWrite (s : State) (f : Nat) (w : Wr) : State := ((s.put PWR_FIBRE_idle w 0 f).fibreIdle f).reDepth

/-- PWR_FIBRE_WRITE (R471). -/
def execPwrFibreWrite (f : Nat) (w : Wr) (s : State) : Host.Outcome State Fault Refusal :=
  hostWrite s 3 (0x1000 + 8 * (f % 64)) fun s => s.pwrFibreWrite (f % 64) w

/-! Depth (R473 to R476). -/

/-- A fibre's fill ends; modulation stops, and the depth is chosen (R473, R475). -/
def State.fillOver (s : State) (f : Nat) : State :=
  match (s.laneX (16 * f)).fillEnd with
  | none => s
  | some c => if s.cyc < c then s else ((s.fillEnd f none).setFibre f 1).reFibre f

/-- IDLE_FILL_END (R473). -/
def execIdleFillEnd (f : Nat) (s : State) : Host.Outcome State Fault Refusal := act s (s.fillOver (f % 64))

/-- A targeting unit's instant lies within the lead (R476). -/
def within (t : Option Nat) (us : Nat) : Bool := match t with | none => false | some x => decide (x ≤ us * 1000 * NS)

/-- A block in deep idle whose targeting unit comes within the lead starts to wake (R476). -/
def State.deepWake (s : State) (core : Bool) (i : Nat) : State :=
  if core then
    if s.rd PAGE_PWR_state (0x80 + i) = 2 && within (s.tNext fun n => s.targetsCore n i) (s.rd PWR_IDLE_CFG_serai_lead_us) then s.wakeCore i false else s
  else if s.rd PWR_FIBRE_state 0 i = 2 && within (s.tNext fun n => s.targetsFibre n i) (s.rd PWR_IDLE_CFG_lane_lead_us) then s.wakeFibre i else s

/-- DEEP_IDLE_WAKE (R476): a Serai physical core, or a fibre. -/
def execDeepIdleWake (core : Bool) (i : Nat) (s : State) : Host.Outcome State Fault Refusal := act s (s.deepWake core (if core then i % 68 else i % 64))

/-- A Serai core in IDLE whose queues have been empty for serai_hold_ns takes its depth; a packet at its port keeps it awake (R474, R477). -/
def State.seraiIdle (s : State) (p : Nat) : State :=
  let wait : Bool := s.rd SRI_STATE_lcore_valid p = 1 && (s.headLocal (.serai (s.rd SRI_STATE_lcore p))).isSome
  if s.rd PAGE_PWR_req (0x80 + p) ≠ 1 || s.coreAsleep p || (s.core p).busy || wait
    || s.cyc < s.pwr.busyAt.getD 0 p + nsCyc (s.rd PWR_IDLE_CFG2_serai_hold_ns) then s
  else (s.wr PAGE_PWR_state 1 (0x80 + p)).reCore p

/-- SERAI_IDLE_HOLD_END (R474). -/
def execSeraiIdleHoldEnd (core : Nat) (s : State) : Host.Outcome State Fault Refusal := act s (s.seraiIdle (core % 68))

/-- A fibre has woken: from deep idle its rings hold lock again; it is in shallow idle, or its lanes go to TRAIN (R472, R476). -/
def State.fibreWoken (s : State) (f : Nat) : State :=
  if !s.pwr.wakeF.contains f then s else
  let s := s.noWake f
  let s := if s.rd PWR_FIBRE_state 0 f = 2 && !s.bypassed f then (lanesOf f).foldl (fun s l => s.lockLane l) s else s
  let s := (lanesOf f).foldl (fun s l => s.setLaneX l { s.laneX l with rings := s.ringsOk l }) s
  if s.idleAsked f then s.setFibre f 1 else (s.setFibre f 0).trainFibre f

/-- An engine has woken from OFF: combs locked, rings swept, lanes in TRAIN or in IDLE (R472). -/
def State.engineWoken (s : State) (e : Nat) : State :=
  if !s.pwr.wakeE.contains e || !s.clocked (0x30 + e) then s else
  let s := (List.range 5).foldl (fun s c => s.combLocked e c) s
  let s : State := { s with pwr := { s.pwr with wakeE := s.pwr.wakeE.filter (· ≠ e) } }
  let s := s.wr PAGE_PWR_state 0 (0x30 + e)
  (List.range 8).foldl (fun s j =>
    let f := 8 * e + j
    let s := if s.bypassed f then s else (lanesOf f).foldl (fun s l => s.lockLane l) s
    let s := (lanesOf f).foldl (fun s l => s.setLaneX l { s.laneX l with rings := s.ringsOk l }) s
    if s.idleAsked f then (s.setFibre f 1).reFibre f else (s.setFibre f 0).trainFibre f) s

/-- A Serai core has woken: to shallow idle ahead of its cairn, else issuing (R472, R476). -/
def State.coreWoken (s : State) (p : Nat) : State :=
  if !s.pwr.wakeC.contains p || !s.clocked (0x80 + p) then s else
  let shallow := s.rd PAGE_PWR_state (0x80 + p) = 2 && s.rd PAGE_PWR_req (0x80 + p) = 1 && !s.pwr.demand.contains p
  let s : State := { s with pwr := { s.pwr with wakeC := s.pwr.wakeC.filter (· ≠ p), demand := s.pwr.demand.filter (· ≠ p), busyAt := s.pwr.busyAt.put p s.cyc } }
  s.wr PAGE_PWR_state (if shallow then 1 else 0) (0x80 + p)

/-- WAKE_COMPLETE (R472): of a fibre's lanes (0), an engine (1) or a Serai core (2). -/
def State.wakeDone (s : State) (kind i : Nat) : State :=
  match kind with
  | 0 => s.fibreWoken (i % 64)
  | 1 => s.engineWoken (i % 8)
  | _ => s.coreWoken (i % 68)

/-- WAKE_COMPLETE (R472). -/
def execWakeComplete (kind i : Nat) (s : State) : Host.Outcome State Fault Refusal := act s (s.wakeDone (kind % 3) i)

/-! GDDR7 self-refresh (R478). -/

/-- A command of PWR_CMD completes: 0 OK, 7 REFUSED with a reason. -/
def State.pwrDone (s : State) (st reason : Nat) : State :=
  (((s.wr PWR_CMD_STAT_busy 0).wr PWR_CMD_STAT_status st).wr PWR_CMD_STAT_reason reason).irq 3 3

/-- An active convoy, a buffer of POOL_SPILL or POOL_RETAIN, or a DMA copy needs the devices. -/
def State.srefBusy (s : State) : Bool :=
  s.used 2 ≠ [] || s.used 3 ≠ [] || (List.range 4).any (fun c => s.flag HIF_DMA_CTRL_busy 0 c)
    || (List.range 65536).any fun c => s.ctxActive c && s.ctxLdg c && s.flag LDG_CFG_enable 0 (s.ctxLedger c)

/-- MEM_STATUS.sref of every MEM page. -/
def State.setSref (s : State) (v : Nat) : State := (List.range 12).foldl (fun s n => s.wr MEM_STATUS_sref v n) s

/-- SREF_ENTER: refused while something needs the devices (R478). -/
def State.srefEnter (s : State) : State := if s.srefBusy then s.pwrDone 7 3 else (s.setSref 1).pwrDone 0 0

/-- SREF_EXIT (R478). -/
def State.srefExit (s : State) : State := (s.setSref 0).pwrDone 0 0

/-- A write of PWR_CMD: 1 SREF_ENTER, 2 SREF_EXIT. -/
def State.pwrCmd (s : State) (op : Nat) : State :=
  match op with
  | 1 => s.srefEnter
  | 2 => s.srefExit
  | _ => s

/-- SREF_ENTER (R478). -/
def execSrefEnter (s : State) : Host.Outcome State Fault Refusal := hostWrite s 3 0x138 fun s => s.srefEnter

/-- SREF_EXIT (R478). -/
def execSrefExit (s : State) : Host.Outcome State Fault Refusal := hostWrite s 3 0x138 fun s => s.srefExit

/-! Temperature and supply (R479 to R481, R503, R509). -/

/-- The level of ALERT_N: asserted while temp_warn or vin_range stands, and while the reference is lost (R468, R481). -/
def State.alert (s : State) : Bool := s.pins.refLost || s.rd PAGE_IRQ_STATUS_bits 3 / 2 % 4 ≠ 0

/-- The hottest of the 16 junction sensors, in 1/16 °C, signed (R479). -/
def State.tempSample (s : State) (tj : Int) (sensor : Nat) : State :=
  let s := (s.wrI PWR_TJ_tj_max tj).wr PWR_TJ_sensor sensor
  if 16 * (s.rd PWR_TEMP_CFG_warn_c : Int) < tj then s.irq 3 1 else s

/-- Readings of the junction sensors stand 100 µs apart (R479). -/
def State.tempDue (s : State) : Bool := s.pwr.tempAt.all fun c => decide (c + usCyc 100 ≤ s.cyc)

/-- TEMP_SAMPLE (R479). -/
def execTempSample (tj : Int) (sensor : Nat) (s : State) : Host.Outcome State Fault Refusal :=
  act s (if s.tempDue then ({ s with pwr := { s.pwr with tempAt := some s.cyc } } : State).tempSample tj (sensor % 16) else s)

/-- A reading of VIN36 in millivolts, 10 mA units and watts, with the hottest power-stage sensor: two in a row outside 32 V to 40 V raise vin_range (R481). -/
def State.vinSample (s : State) (mv cur watts temp : Nat) : State :=
  let bad : Bool := mv < 32000 || 40000 < mv
  let was := s.pins.vinOut
  let s : State := { s with pins := { s.pins with vin := [mv, cur, watts, temp], vinOut := bad } }
  if !s.alive then s else
  let s := ((s.wr PWR_VIN_mv mv).wr PWR_VIN_current cur).wr PWR_VIN_watts watts
  if bad && was then s.irq 3 2 else s

/-- Readings of the power stage stand 1 ms apart; before the PLLs have locked the module has no count of time (R481). -/
def State.vinDue (s : State) : Bool := !s.clkOn || s.pwr.vinAt.all fun c => decide (c + msCyc 1 ≤ s.cyc)

/-- VIN_SAMPLE (R481): the power stage reads while its rails are up, PERST_N low or not (R509). -/
def execVinSample (mv cur watts temp : Nat) (s : State) : Host.Outcome State Fault Refusal :=
  .next (if s.pins.pwrGood && s.vinDue then
    ({ s with pwr := { s.pwr with vinAt := if s.clkOn then some s.cyc else none } } : State).vinSample mv cur watts temp else s)

/-- SMBUS_READ (R509): READ_VIN, READ_IIN, READ_PIN or READ_TEMPERATURE_1, by `what` from 0; a write is refused. -/
def execSmbusRead (what : Nat) (write : Bool) (s : State) : Host.Outcome State Fault Refusal :=
  .next (if write then s else s.emit (.pmbus (s.pins.vin.getD (what % 4) 0)))

/-! Clocks (R464 to R466, R468, R470). -/

/-- A write of CLK_CMD: the dividers in CLK_DIV come into force. -/
def State.clkCmd (s : State) (w : Wr) : State :=
  if w.ones 0 1 = 1 then { s with rbusDiv := s.rd CLK_DIV_rbus_div, tbusDiv := s.rd CLK_DIV_tbus_div } else s

/-- APPLY (R464). -/
def execApply (s : State) : Host.Outcome State Fault Refusal := hostWrite s 2 0x128 fun s => s.clkCmd { v := 1 }

/-- A write of CLK_OBS: CLKOBS takes the ball TPO3 shares with it, or is refused (R46, R470). -/
def State.clkObs (s : State) (w : Wr) : State :=
  let was := s.flag CLK_OBS_enable
  let now : Bool := w.merge 0 1 (s.rd CLK_OBS_enable) = 1
  let own := s.rd TIM_PIN_OWN_tpo3_owner
  let s := (s.put CLK_OBS_sel w).put CLK_OBS_div_n w
  if now && !was then
    if own = 1 then ((s.wr CLK_OBS_enable 0).wr CLK_OBS_status 1).irq 2 2
    else
      let s : State := { s with tim := { s.tim with obsAt := if own = 0 then some s.cyc else s.tim.obsAt } }
      ((s.wr CLK_OBS_enable 1).wr CLK_OBS_status 0).wr TIM_PIN_OWN_tpo3_owner 2
  else if was && !now then (s.wr CLK_OBS_enable 0).wr TIM_PIN_OWN_tpo3_owner 0
  else s

/-- CLK_OBS_WRITE (R470). -/
def execClkObsWrite (w : Wr) (s : State) : Host.Outcome State Fault Refusal := hostWrite s 2 0x130 fun s => s.clkObs w

/-- LOCK_LOSS (R468): a loss of lock that clears within 1 µs. -/
def execLockLoss (s : State) : Host.Outcome State Fault Refusal := act s ((s.cnt CLK_LOCK_LOSS_count).irq 2 0)

/-- A condition of R466 holds the trim: no SLAVE fibre, its chosen lane not in SERVICE, or the fibre bypassed. -/
def State.flockBar (s : State) : Bool :=
  let f := s.rd TIM_STATE_slave_port
  let l := s.rd CLK_FLOCK_line
  !s.flag TIM_STATE_slave_valid || s.bypassed f
    || !(lanesOf f).any fun m => s.rdLane LNK_LANE_line m = l && s.lane m = laneSERVICE

/-- What CLKOBS drives on TPO3: the number of its clock, 24 to 31 acting as 0, and what divides it (R470). -/
def State.obsClock (s : State) : Option (Nat × Nat) :=
  if s.flag CLK_OBS_enable then some (if s.rd CLK_OBS_sel < 24 then s.rd CLK_OBS_sel else 0, 2 ^ (s.rd CLK_OBS_div_n + 1)) else none

/-- The fine trim moves toward `t` ppb: no further than ±200 ppm, and by no more than 10 ppm per second, which is 1 ppb in 200,000 core cycles (R465). -/
def State.trimTo (s : State) (t : Int) : State :=
  let old := s.rdI CLK_TRIM_trim_ppb
  let m : Int := ((s.cyc - s.pwr.trimAt) / 200000 : Nat)
  let new := max (-200000) (min 200000 (max (old - m) (min (old + m) t)))
  if new = old then s else ({ s with pwr := { s.pwr with trimAt := s.cyc } } : State).wrI CLK_TRIM_trim_ppb new

/-- With flock clear the trim slews back (R466) to 0, the value CLK_TRIM has before any steering (DESIGN CHOICE, log entry 95). -/
def State.slewBack (s : State) : State := if s.flag CLK_CTRL_flock || s.rd CLK_TRIM_trim_ppb = 0 then s else s.trimTo 0

/-- The trim is held (R466); `trim` is the value steering last asked for, in ppb. -/
def State.flockHold (s : State) (trim : Int) : State :=
  if !s.flag CLK_CTRL_flock || s.flag CLK_STATUS_flock_hold || !s.flockBar then s
  else ((((s.trimTo trim).wr CLK_STATUS_flock_hold 1).wr CLK_STATUS_flock_active 0).cnt CLK_FLOCK_HOLD_count).irq 2 1

/-- FLOCK_HOLD (R466). -/
def execFlockHold (trim : Int) (s : State) : Host.Outcome State Fault Refusal := act s (s.flockHold trim)

/-- A start-of-frame mark of the chosen lane: steering goes on (R465, R466); `trim` is the value it asks for. -/
def State.flockResume (s : State) (trim : Int) : State :=
  if !s.flag CLK_CTRL_flock || s.flockBar then s
  else ((s.trimTo trim).wr CLK_STATUS_flock_hold 0).wr CLK_STATUS_flock_active 1

/-- FLOCK_RESUME (R466). -/
def execFlockResume (trim : Int) (s : State) : Host.Outcome State Fault Refusal := act s (s.flockResume trim)

/-- A write of CLK_CTRL: steering ends with flock (R465, R466). -/
def State.clkCtrl (s : State) (w : Wr) : State :=
  let was := s.flag CLK_CTRL_flock
  let s := (s.put CLK_CTRL_trim_en w).put CLK_CTRL_flock w
  if s.flag CLK_CTRL_flock then s else
  let s : State := { s with pwr := { s.pwr with trimAt := if was then s.cyc else s.pwr.trimAt } }
  (s.wr CLK_STATUS_flock_hold 0).wr CLK_STATUS_flock_active 0

/-! The test access port (R510). -/

/-- The next state of the test access port of IEEE 1149.1, which R510 names (PRESUMED, log entry 40): 0 Test-Logic-Reset, 1 Run-Test/Idle, 2 Select, 3 Capture, 4 Shift, 5 Exit1, 6 Pause, 7 Exit2, 8 Update of the data column, 9 to 15 the same of the instruction column. -/
def tapNext (t : Nat) (tms : Bool) : Nat :=
  match t with
  | 0 => if tms then 0 else 1
  | 1 => if tms then 2 else 1
  | 2 => if tms then 9 else 3
  | 3 => if tms then 5 else 4
  | 4 => if tms then 5 else 4
  | 5 => if tms then 8 else 6
  | 6 => if tms then 7 else 6
  | 7 => if tms then 8 else 4
  | 8 => if tms then 2 else 1
  | 9 => if tms then 0 else 10
  | 10 => if tms then 12 else 11
  | 11 => if tms then 12 else 11
  | 12 => if tms then 15 else 13
  | 13 => if tms then 14 else 13
  | 14 => if tms then 15 else 11
  | _ => if tms then 2 else 1

/-- One edge of TCK with TRST_N and TMS: held in reset while TRST_N is low; what TDO shows while it shifts is not stated (log entry 1). -/
def State.tapEdge (s : State) (trst tms : Bool) : State :=
  if !trst then { s with pins := { s.pins with tap := 0 } } else
  let t := s.pins.tap
  let s : State := { s with pins := { s.pins with tap := tapNext t tms } }
  if t = 4 ∨ t = 11 then let r := s.takeFree 12; r.2.emit (.tdo (r.1 % 2)) else s

/-- BOUNDARY_SCAN (R510). -/
def execBoundaryScan (trst tms : Bool) (s : State) : Host.Outcome State Fault Refusal := .next (s.tapEdge trst tms)

end Sys2Proof.Machine
end

