-- ==== Sys2Proof/Machine/Datum.lean ====
section
/-! DEFINITION. Configuration commits, the datum recomputed, beacons and their checks, slices and purges (R323, R370 to R397). -/

namespace Sys2Proof.Machine

/-! Staged groups (R370). -/

/-- The staged fields of a group: 0 LANE_MAP, 1 PLAT, 2 BYP_PERMIT, 3 MEMMAP, each with its instances of page and index. -/
def stagedFields (g : Nat) : List (RegD × Nat × Nat) :=
  match g with
  | 0 => (List.range 8).flatMap fun e => (List.range 128).flatMap fun i => [(LNK_LANE_MAP_port, e, i), (LNK_LANE_MAP_valid, e, i)]
  | 1 => ((List.range 64).flatMap fun f => platFields.flatten.map fun d => (d, 0, f)) ++ [(TRV_SELF_endpoint, 0, 0)]
  | 2 => (List.range 64).map fun f => (BYP_PERMIT_outputs, 0, f)
  | 3 => (List.range 4).flatMap fun p => [(MEM_PART_BASE_base, 0, p), (MEM_PART_SIZE_size, 0, p)]
  | _ => []

/-- A field of a group holds a staged change. -/
def State.hasStaged (s : State) (x : RegD × Nat × Nat) : Bool := (s.stg.get? (x.1.key x.2.1 x.2.2 0)).isSome

/-- DTM_STAGED (R370). -/
def State.stagedGroups (s : State) : Nat := ofBits ((List.range 4).filter fun g => (stagedFields g).any s.hasStaged)

/-- A value goes to a field's staged copy; one equal to the value in force stages nothing. -/
def State.stage (s : State) (d : RegD) (v n i : Nat) : State :=
  let x := v % 2 ^ d.w
  { s with stg := if x = s.rd d n i then s.stg.del (d.key n i 0) else s.stg.put (d.key n i 0) x }

/-- A group's staged copy becomes equal to the values in force. -/
def State.unstage (s : State) (g : Nat) : State := { s with stg := (stagedFields g).foldl (fun m x => m.del (x.1.key x.2.1 x.2.2 0)) s.stg }

/-- The groups of a mask that exist. -/
def groupsOf (m : Nat) : List Nat := (List.range 4).filter fun g => bit m g

/-! Commit checks (R323, R372). -/

/-- The port of a lane in the staged map. -/
def State.stagedPort (s : State) (l : Nat) : Option Nat :=
  if s.rdStg LNK_LANE_MAP_valid (l / 128) (l % 128) = 1 then some (s.rdStg LNK_LANE_MAP_port (l / 128) (l % 128)) else none

/-- The staged lane map breaks R323: a port on two fibres, or an enabled port without a lane. -/
def State.mapBad (s : State) : Bool :=
  let ps := allLanes.filterMap fun l => (s.stagedPort l).map fun p => (p, l / 16)
  let clash := ps.any fun x => ps.any fun y => x.1 = y.1 && x.2 ≠ y.2
  clash || (List.range 1024).any fun p => s.flag LP_CFG_enable 0 p && !ps.any fun x => x.1 = p

/-- Base and end of a partition in the staged copy, in units of 16 MiB. -/
def State.stagedPart (s : State) (p : Nat) : Nat × Nat :=
  let b := s.rdStg MEM_PART_BASE_base 0 p
  (b, b + s.rdStg MEM_PART_SIZE_size 0 p)

/-- Two staged partitions overlap, or one ends beyond the data space. -/
def State.partBad (s : State) : Bool :=
  let a := (List.range 4).map s.stagedPart
  let full := a.filter fun x => x.1 < x.2
  full.any (fun x => memTop < x.2 * 2 ^ 24)
    || (List.range full.length).any fun i => (List.range i).any fun j =>
      let x := full.getD i (0, 0)
      let y := full.getD j (0, 0)
      x.1 < y.2 && y.1 < x.2

/-- A bank of an enabled ledger would lie outside the staged ledger partition (R244). -/
def State.bankOut (s : State) : Bool :=
  let p := s.stagedPart 0
  (List.range 16).any fun n => s.flag LDG_CFG_enable 0 n && [0, 1].any fun k =>
    s.ldgBank n k < p.1 * 2 ^ 24 || p.2 * 2 ^ 24 < s.ldgBank n k + s.ldgBankBytes n

/-- A pool in use would be re-formed. -/
def State.poolMoved (s : State) : Bool :=
  let moved := fun p => s.rdStg MEM_PART_BASE_base 0 p ≠ s.rd MEM_PART_BASE_base 0 p || s.rdStg MEM_PART_SIZE_size 0 p ≠ s.rd MEM_PART_SIZE_size 0 p
  (moved 2 && s.used 2 ≠ []) || (moved 1 && s.used 3 ≠ [])

/-- Why a commit of the groups `m` is refused, 0 for none: the lowest reason that holds (R372); `par` names groups in which a staged word fails parity. -/
def State.commitCause (s : State) (m par : Nat) : Nat :=
  if 16 ≤ m || (bit m 0 && s.mapBad) then 1
  else if bit m 3 && s.partBad then 2
  else if bit m 3 && s.bankOut then 3
  else if bit m 3 && s.poolMoved then 4
  else if m &&& par ≠ 0 then 5
  else 0

/-! Commits (R373). -/

/-- A word of the lane map in force, as the module datum covers it. -/
def State.mapWord (s : State) (l : Nat) : Nat := wordOf (fun d => s.rd d (l / 128) (l % 128)) [LNK_LANE_MAP_port, LNK_LANE_MAP_valid]

/-- Lanes that a commit leaves in no port stay READY, carrying LMFs (R339). -/
def State.stayReady (s : State) (ls : List Nat) (old : State) : State :=
  let s := ls.foldl (fun s l => if s.lane l = laneTRAIN then s.setLane l laneREADY else s) s
  ((ls.map (· / 16)).eraseDups).foldl (fun s f => if s.lit f then s.setFib f { s.fib f with timer := (old.fib f).timer } else s) s

/-- READY lanes that the commit adds to a port announce the rejoin of R335 where none stands since they left (DEDUCED, log entry 42). -/
def State.joinReady (s : State) (ls : List Nat) : State :=
  ls.foldl (fun s l => if s.lane l = laneREADY && (s.lanePort l).isSome && !(s.laneX l).sentRej then s.rejoin l else s) s

/-- The staged lane map comes into force: lanes moved out of their port leave service first (R323, R339). -/
def State.commitMap (s : State) : State :=
  let moved := allLanes.filter fun l => (s.lanePort l).isSome && s.stagedPort l ≠ s.lanePort l
  let gone := moved.filter fun l => (s.stagedPort l).isNone && s.laneCarries l
  let t := (s.leave moved 8).stayReady gone s
  let t := allLanes.foldl (fun (t : State) l =>
    let e := l / 128
    let i := l % 128
    if !(t.hasStaged (LNK_LANE_MAP_port, e, i) || t.hasStaged (LNK_LANE_MAP_valid, e, i)) then t else
    let old := t.mapWord l
    let u := ((t.wr LNK_LANE_MAP_port (t.rdStg LNK_LANE_MAP_port e i) e i).wr LNK_LANE_MAP_valid (t.rdStg LNK_LANE_MAP_valid e i) e i).mend TB_LANEMAP 0 l 0
    u.coverMod 0x01 l old (u.mapWord l)) t
  (t.unstage 0).joinReady (allLanes.filter fun l => s.lanePort l ≠ s.stagedPort l)

/-- The staged plat comes into force, and every fibre whose entry changed is evaluated again (R342). -/
def State.commitPlat (s : State) : State :=
  let changed := (List.range 64).filter fun f => platFields.flatten.any fun d => s.hasStaged (d, 0, f)
  let t := changed.foldl (fun (t : State) f => (List.range 4).foldl (fun t w => (t.platPut f w (t.platStaged f w)).mend TB_PLAT 0 f w) t) s
  let v := t.rdStg TRV_SELF_endpoint
  let t := (t.coverMod 0x02 256 (t.rd TRV_SELF_endpoint) v).wr TRV_SELF_endpoint v
  changed.foldl (fun t f => t.evalFibre f) (t.unstage 1)

/-- The staged permits come into force (R367). -/
def State.commitPermit (s : State) : State :=
  ((List.range 64).foldl (fun (t : State) f =>
    if !t.hasStaged (BYP_PERMIT_outputs, 0, f) then t else
    let v := t.rdStg BYP_PERMIT_outputs 0 f
    ((t.coverMod 0x03 f (t.rd BYP_PERMIT_outputs 0 f) v).wr BYP_PERMIT_outputs v 0 f).mend TB_PERMIT 0 f 0) s).unstage 2

/-- Buffers of POOL_SPILL and POOL_RETAIN that the partitions in force hold (R402). -/
def State.partBufs (s : State) (p : Nat) : Nat :=
  let n := s.rd MEM_PART_SIZE_size 0 p * 2 ^ 24
  if p = 2 then min 524288 (n / 65536) else min 65536 (n / 1048576)

/-- The staged partitions come into force; the pools of those that changed are formed anew (R402). -/
def State.commitParts (s : State) : State :=
  let moved := fun p => s.rdStg MEM_PART_BASE_base 0 p ≠ s.rd MEM_PART_BASE_base 0 p || s.rdStg MEM_PART_SIZE_size 0 p ≠ s.rd MEM_PART_SIZE_size 0 p
  let word := fun (t : State) (d : RegD) p => t.rd d 0 p <<< d.lo
  let put := fun (t : State) (d : RegD) p i =>
    let u := t.wr d (t.rdStg d 0 p) 0 p
    u.coverMod 0x04 i (word t d p) (word u d p)
  let t := (List.range 4).foldl (fun t p => put (put t MEM_PART_BASE_base p (2 * p)) MEM_PART_SIZE_size p (2 * p + 1)) s
  let t := if moved 2 then t.wr BPM_POOL_free (t.partBufs 2) 0 2 else t
  let t := if moved 1 then t.wr BPM_POOL_free (t.partBufs 1) 0 3 else t
  t.unstage 3

/-- One named group comes into force. -/
def State.commitGroup (s : State) (g : Nat) : State :=
  match g with
  | 0 => s.commitMap
  | 1 => s.commitPlat
  | 2 => s.commitPermit
  | _ => s.commitParts

/-- A refused commit, of groups or of a slice (R372, R389). -/
def State.commitReject (s : State) (m sl reason : Nat) (cairn : Bool) : State :=
  let s := (((s.cnt DTM_COMMIT_REJECT_count).wr DTM_COMMIT_LAST_groups m).wr DTM_COMMIT_LAST_reason reason).wr DTM_COMMIT_LAST_by_cairn (if cairn then 1 else 0)
  ((s.wr DTM_COMMIT_LAST_slice sl).wr DTM_COMMIT_LAST_valid 1).irq 6 1

/-- A commit of groups: all or nothing (R372, R373); the reason of its refusal, 0 where it is accepted. -/
def State.commit (s : State) (m par : Nat) (cairn : Bool) : Nat × State :=
  let why := s.commitCause m par
  if why ≠ 0 then
    let s := if bit m 0 && s.mapBad then
        (List.range 8).foldl (fun s e => if (stagedFields 0).any (fun x => x.2.1 = e && s.hasStaged x) then s.irq (0x38 + e) 3 else s) s
      else s
    (why, s.commitReject m 0 why cairn)
  else
    let s := (groupsOf m).foldl State.commitGroup s
    let s := s.wr DTM_EPOCH_cur (s.rd DTM_EPOCH_next)
    let s := (s.wr DTM_EXPECT_lo (s.rd DTM_EXPECT_NEXT_lo)).wr DTM_EXPECT_hi (s.rd DTM_EXPECT_NEXT_hi)
    let s := s.cnt DTM_COMMITS_count
    let s : State := { s with dtm := { s.dtm with grace := s.cyc + usCyc (s.rd DTM_CFG_grace_us) } }
    (0, s.irq 6 0)

/-- CFG_COMMIT, action class 2 (R51, R371). -/
def execCfgCommit (u par : Nat) (s : State) : Host.Outcome State Fault Refusal :=
  act s (s.effect (u % 32) 2 fun e s => let r := s.commit (fld e.arg 0 16) par true; (r.2, r.1 = 0))

/-- A DTM command completes: 0 OK, 3 INVALID, 7 REFUSED, with a reason. -/
def State.dtmDone (s : State) (st reason : Nat) : State := ((s.wr DTM_CMD_STAT_busy 0).wr DTM_CMD_STAT_status st).wr DTM_CMD_STAT_reason reason

/-- DISCARD (R374). -/
def State.discard (s : State) (m : Nat) : State := if 16 ≤ m then s.dtmDone 3 1 else ((groupsOf m).foldl State.unstage s).dtmDone 0 0

/-! Slices (R388, R389). -/

/-- A word of a slice's staged settings comes into force, and has good parity again; the store holds staged XOR in force, bit 64 marking a word that was written. -/
def State.applyDiff (s : State) (sl t idx w code i : Nat) (covered : Bool) : State :=
  let x := s.stgT.getD 0 (tkey t 0 idx w)
  if x = 0 then s else
  let d := x % 2 ^ 64
  let old := s.tget t 0 idx w
  let s := if covered then s.coverSl sl code i old (old ^^^ d) else s
  let s : State := { s with stgT := s.stgT.del (tkey t 0 idx w) }
  (s.tset t 0 idx w (old ^^^ d)).mend t 0 idx w

/-- A slice's bit of a staged admission word, and its mark of having been written, taken out. -/
def clearStaged (d sl : Nat) : Nat := setFld (setFld d (sl % 64) 1 0) (64 + sl % 64) 1 0

/-- A slice's written bit of an admission word comes into force, and the word has good parity again. -/
def State.applyBit (s : State) (sl t lp code : Nat) : State :=
  let k := lp * 64 + sl / 64
  let key := tkey t 0 k 0
  let d := s.stgT.getD 0 key
  if !bit d (64 + sl % 64) then s else
  let old := s.tget t 0 k 0
  let v := fld old (sl % 64) 1
  let n := v ^^^ fld d (sl % 64) 1
  let s := s.coverSl sl code lp v n
  let s : State := { s with stgT := s.stgT.set 0 key (clearStaged d sl) }
  (s.tset t 0 k 0 (setFld old (sl % 64) 1 n)).mend t 0 k 0

/-- A slice's staged settings come into force. -/
def State.applySlice (s : State) (sl : Nat) : State :=
  let s := (List.range 1024).foldl (fun s lp => (s.applyBit sl TB_ADMIT_IN lp 0x22).applyBit sl TB_ADMIT_EG lp 0x23) s
  let s := (s.applyDiff sl TB_QGMAP sl 0 0x24 0 true).applyDiff sl TB_QUOTA sl 0 0x28 0 true
  (List.range 5).foldl (fun s w => s.applyDiff sl TB_EXPECT sl w 0 0 false) s

/-- A slice's staged settings are discarded. -/
def State.dropStaged (s : State) (sl : Nat) : State :=
  let m := (List.range 1024).foldl (fun m lp =>
    [TB_ADMIT_IN, TB_ADMIT_EG].foldl (fun m t => let key := tkey t 0 (lp * 64 + sl / 64) 0; SMap.set 0 key (clearStaged (SMap.getD 0 key m) sl) m) m) s.stgT
  let m := (SMap.del (tkey TB_QGMAP 0 sl 0) m)
  let m := SMap.del (tkey TB_QUOTA 0 sl 0) m
  { s with stgT := (List.range 5).foldl (fun m w => SMap.del (tkey TB_EXPECT 0 sl w) m) m }

/-- A slice has staged changes (R395). -/
def State.sliceStaged (s : State) (sl : Nat) : Bool :=
  s.stgT.any fun (k, v) =>
    let t := k / 16 / 2 ^ 25
    let i := k / 16 % 2 ^ 24
    if t = TB_ADMIT_IN ∨ t = TB_ADMIT_EG then i % 64 = sl / 64 && bit v (sl % 64)
    else (t = TB_QGMAP || t = TB_QUOTA || t = TB_EXPECT) && i = sl && v % 2 ^ 64 ≠ 0

/-- A SLICE_COMMIT (R389): whether it is accepted. -/
def State.sliceCommit (s : State) (sl : Nat) (cairn : Bool) : State × Bool :=
  let st := s.sliceState sl
  if st = 2 then (s.commitReject 0 sl 6 cairn, false) else
  let s := s.applySlice sl
  let s := if st = 0 then (s.wr FWD_SLICE_EPOCH_cur_epoch 1 0 sl).setSliceState sl 1 else s
  let w := s.tget TB_SLICE 0 sl 0
  let s := s.tset TB_SLICE 0 sl 0 (setFld w 32 32 (fld w 32 32 + 1))
  ((s.sliceGrace sl).irq 6 4, true)

/-- SLICE_COMMIT, action class 4 (R51, R389). -/
def execSliceCommit (u : Nat) (s : State) : Host.Outcome State Fault Refusal :=
  act s (s.effect (u % 32) 4 fun e s => s.sliceCommit (fld e.arg 0 12) true)

/-! Purges (R290, R391). -/

/-- Ports whose ingress bitmap in force admits the slice and no other slice that is IN_FORCE. -/
def State.onlyPorts (s : State) (sl : Nat) : List Nat :=
  (List.range 1024).filter fun lp =>
    bit (s.tget TB_ADMIT_IN 0 (lp * 64 + sl / 64) 0) (sl % 64)
      && !(List.range 64).any fun j => (bitsOf 64 (s.tget TB_ADMIT_IN 0 (lp * 64 + j) 0)).any fun b => j * 64 + b ≠ sl && s.sliceState (j * 64 + b) = 1

/-- The collective contexts of a slice that hold something. -/
def State.sliceCtxs (s : State) (sl : Nat) : List Nat :=
  ((s.tbl.filterMap fun (k, _) => if k / 16 / 2 ^ 25 = TB_CTX then some (k / 16 % 2 ^ 24) else none).eraseDups).filter fun c => s.ctxSlice c = sl

/-- Serai's part of a purge: every chunk in progress aborted with reason PURGE, retained ones released, the norm convoys cut short failed (R255), broadcast entries freed, the slice's contexts cleared (R290, R391). -/
def State.purgeSerai (s : State) (sl : Nat) : State :=
  let ks := (s.sliceChunks sl).filter (·.live)
  let nf := (ks.filter (·.operation = 5)).filterMap s.chunkNorm
  let s := ks.foldl (fun s k => s.abortOne k 3) s
  let s := ((s.sliceChunks sl).filter fun k => k.state = 6).foldl (fun s k => s.release k false true) s
  let s := nf.foldl (fun s x => match s.ser.norms.find? (·.same x) with | some y => s.normFault y | none => s) s
  let s := ((s.sliceChunks sl).map (·.ctx)).eraseDups.foldl (fun s c => s.finish c) s
  let s := s.setBc (s.ser.bcast.filter fun e => e.pkt.slice ≠ sl)
  (s.sliceCtxs sl).foldl (fun s c => s.ctxStore c (List.replicate 8 0)) s

/-- Steps 1 to 3 of a purge (R391). -/
def State.purge (s : State) (sl : Nat) : State :=
  if s.sliceState sl ≠ 1 then s.dtmDone 7 6 else
  let ports := s.onlyPorts sl
  let s := (s.setSliceState sl 2).dropStaged sl
  let s := s.purgeSerai sl
  let s := (List.range 16).foldl (fun s p => s.retFlush p fun e => fld e 34 12 = sl || ports.contains (fld e 24 10)) s
  s.dtmDone 0 0

/-- The tables of a slice return to reset values. -/
def State.clearSlice (s : State) (sl : Nat) : State :=
  let s := (List.range 1024).foldl (fun s lp => [TB_ADMIT_IN, TB_ADMIT_EG].foldl (fun s t =>
    let k := lp * 64 + sl / 64
    s.tset t 0 k 0 (setFld (s.tget t 0 k 0) (sl % 64) 1 0)) s) s
  let owned := fun (k : Nat) =>
    let t := k / 16 / 2 ^ 25
    let b := k / 16 / 2 ^ 24 % 2
    let i := k / 16 % 2 ^ 24
    (t = TB_DIM && i / 512 = sl) || (t = TB_SPRAY && fld (s.tget TB_SPRAY b i 0) 0 12 = sl) || (t = TB_POLICER && i / 8 = sl)
      || ((t = TB_BCTREE || t = TB_QGMAP || t = TB_QUOTA || t = TB_EXPECT) && i = sl)
  { s with tbl := s.tbl.filter fun x => !owned x.1, bad := s.bad.filter fun x => !owned (x / 32) }

/-- Steps 5 and 6 of a purge, once no packet of the slice is held and no chunk of it is left (R391). -/
def State.purgeDone (s : State) (sl : Nat) : State :=
  if s.sliceState sl ≠ 2 || s.flights.any (fun x => x.pkt.slice = sl) || s.link.rer.any (fun x => x.pkt.slice = sl)
    || (s.sliceChunks sl).any (fun k => k.live || k.state = 6) then s else
  let s := s.clearSlice sl
  let s := ((s.wr FWD_SLICE_EPOCH_cur_epoch 0 0 sl).wr FWD_SLICE_EPOCH_draining 0 0 sl).wr FWD_SLICE_EPOCH_flip_rejected 0 0 sl
  let s : State := { s with fwd := { s.fwd with drainEnd := s.fwd.drainEnd.del sl }, qsh := { s.qsh with pol := s.qsh.pol.filter fun x => x.1 / 8 ≠ sl },
                            dtm := { s.dtm with sums := s.dtm.sums.del sl, checks := s.dtm.checks.filter fun c => !(c.kind = 2 && c.subj = sl) } }
  (s.setSliceState sl 0).irq 6 5

/-- PURGE_COMPLETE (R391). -/
def execPurgeComplete (sl : Nat) (s : State) : Host.Outcome State Fault Refusal := act s (s.purgeDone (sl % 4096))

/-! The datum recomputed (R376 to R381). -/

/-- The words the module datum covers, as code, index and value (R377). -/
def State.moduleWords (s : State) : List (Nat × Nat × Nat) :=
  (allLanes.map fun l => (0x01, l, s.mapWord l))
    ++ ((List.range 64).flatMap fun f => (List.range 4).map fun w => (0x02, f * 4 + w, s.platWord f w)) ++ [(0x02, 256, s.rd TRV_SELF_endpoint)]
    ++ ((List.range 64).map fun f => (0x03, f, s.rd BYP_PERMIT_outputs 0 f))
    ++ ((List.range 4).flatMap fun p => [(0x04, 2 * p, s.rd MEM_PART_BASE_base 0 p <<< 24), (0x04, 2 * p + 1, s.rd MEM_PART_SIZE_size 0 p <<< 24)])
    ++ ((List.range 1024).map fun p => (0x05, p, lpCovered (s.lpWord p)))
    ++ (s.tbl.filterMap fun (k, v) => if k / 16 / 2 ^ 25 = TB_MEMBER ∧ k % 16 = 0 then some (0x06, k / 16 % 2 ^ 24, v) else none)
    ++ ((List.range 16).flatMap fun n => (List.range 5).map fun j => (0x07, n * 8 + j, s.ldgWord n j))
    ++ [(0x08, 0, s.rd FWD_SPRAY_MODE_mode), (0x08, 1, wordOf (fun d => s.rd d) [FWD_HASH_CFG_use_ctx, FWD_HASH_CFG_salt]), (0x08, 2, s.rd XBR_ORDER_strict),
        (0x08, 3, s.rd QSH_ALPHA_k), (0x08, 4, s.rd QSH_LOSSLESS_lossless), (0x08, 5, s.rd QSH_CLASS_GROUP_group)]
    ++ ((List.range 64).map fun f => (0x09, f, wordOf (fun d => s.rd d 0 f) [TIM_PORT_role, TIM_PORT_asym]))

/-- The module datum computed afresh. -/
def State.moduleAfresh (s : State) : Nat := (s.moduleWords.map fun (c, i, v) => coverHash (coverAddr c 0 0 i) v).sum % 2 ^ 128

/-- What a table word adds to the sums of a slice: the slice, which sum (0 unbanked, 1 bank 0, 2 bank 1), code, index and value (R378). -/
def State.sliceWord (s : State) (k v : Nat) : List (Nat × Nat × Nat × Nat × Nat) :=
  let t := k / 16 / 2 ^ 25
  let b := k / 16 / 2 ^ 24 % 2
  let i := k / 16 % 2 ^ 24
  let w := k % 16
  if t = TB_DIM then [(i / 512, b + 1, 0x20, i % 512, v)]
  else if t = TB_SPRAY then [(fld (s.tget TB_SPRAY b i 0) 0 12, b + 1, 0x21, i * 12 + w, v)]
  else if t = TB_ADMIT_IN then (bitsOf 64 v).map fun j => (i % 64 * 64 + j, 0, 0x22, i / 64, 1)
  else if t = TB_ADMIT_EG then (bitsOf 64 v).map fun j => (i % 64 * 64 + j, 0, 0x23, i / 64, 1)
  else if t = TB_QGMAP then [(i, 0, 0x24, 0, v)]
  else if t = TB_POLICER then [(i / 8, 0, 0x25, i % 8 * 2 + w, v)]
  else if t = TB_CTX then [(s.ctxSlice i, 0, 0x26, i * 8 + w, ctxCovered w v)]
  else if t = TB_BCTREE then [(i, 0, 0x27, 0, v)]
  else if t = TB_QUOTA then [(i, 0, 0x28, 0, v)]
  else []

/-- The sums of every slice computed afresh; a slice not listed sums to zero. -/
def State.slicesAfresh (s : State) : SMap SliceSum :=
  (s.tbl.flatMap fun (k, v) => s.sliceWord k v).foldl (fun m (sl, which, c, i, v) =>
    let x := SMap.getD {} sl m
    let h := coverHash (coverAddr c sl (if which = 2 then 1 else 0) i) v
    SMap.set {} sl (match which with
      | 0 => { x with u := (x.u + h) % 2 ^ 128 }
      | 1 => { x with b0 := (x.b0 + h) % 2 ^ 128 }
      | _ => { x with b1 := (x.b1 + h) % 2 ^ 128 }) m) []

/-- Tables with covered words, for parity met by the walk. -/
def coveredTables : List Nat :=
  [TB_DIM, TB_SPRAY, TB_ADMIT_IN, TB_ADMIT_EG, TB_QGMAP, TB_POLICER, TB_CTX, TB_BCTREE, TB_QUOTA, TB_LPCFG, TB_MEMBER, TB_PLAT, TB_LANEMAP, TB_PERMIT]

/-- Covered words that fail parity in some copy. -/
def State.badCovered (s : State) : Nat := ((s.bad.map (· / 32)).eraseDups.filter fun k => coveredTables.contains (k / 16 / 2 ^ 25)).length

/-- A datum that differed is counted and located. -/
def State.datumDiffers (s : State) (module : Bool) (sl : Nat) : State :=
  let s := (s.cnt DTM_RECOMPUTE_DIFF_count).wr DTM_RECOMPUTE_LOC_valid 1
  if module then s.wr DTM_RECOMPUTE_LOC_module 1 else s.wr DTM_RECOMPUTE_LOC_slice sl

/-- The walk ends: datums are compared and replaced (R381). -/
def State.walkEnd (s : State) : State :=
  if !s.dtm.walking then s else
  let m := s.moduleAfresh
  let ss := s.slicesAfresh
  let t : State := { s with dtm := { s.dtm with module := m, sums := ss, walking := false } }
  let diff := (List.range 4096).filter fun sl => s.sliceDatum sl ≠ t.sliceDatum sl
  let u := t.cnt DTM_PARITY_count 0 0 0 s.badCovered
  let u := if m ≠ s.dtm.module ∨ diff ≠ [] then u.wr DTM_RECOMPUTE_LOC_module 0 else u
  let u := if m ≠ s.dtm.module then u.datumDiffers true 0 else u
  let u := diff.foldl (fun u sl => u.datumDiffers false sl) u
  (if m ≠ s.dtm.module ∨ diff ≠ [] then u.irq 6 6 else u).dtmDone 0 0

/-- RECOMPUTE_END (R381). -/
def execRecomputeEnd (s : State) : Host.Outcome State Fault Refusal := act s s.walkEnd

/-! Commands. -/

/-- COMMIT: OK, or REFUSED with its reason (R371). -/
def State.dtmCommit (s : State) (par : Nat) : State :=
  let r := s.commit (s.rd DTM_CMD_ARG_groups) par false
  if r.1 = 0 then r.2.dtmDone 0 0 else r.2.dtmDone 7 r.1

/-- SLICE_COMMIT: OK, or REFUSED with reason 6 (R389). -/
def State.dtmSlice (s : State) : State :=
  let r := s.sliceCommit (s.rd DTM_CMD_ARG_slice) false
  if r.2 then r.1.dtmDone 0 0 else r.1.dtmDone 7 6

/-- RECOMPUTE begins (R381). -/
def State.recompute (s : State) : State := ({ s with dtm := { s.dtm with walking := true } } : State).wr DTM_CMD_STAT_busy 1

/-- A write of DTM_CMD: 1 COMMIT, 2 DISCARD, 3 SLICE_COMMIT, 4 SLICE_PURGE, 6 RECOMPUTE; the rest are INVALID. -/
def State.dtmCmd (s : State) (op par : Nat) : State :=
  match op with
  | 1 => s.dtmCommit par
  | 2 => s.discard (s.rd DTM_CMD_ARG_groups)
  | 3 => s.dtmSlice
  | 4 => s.purge (s.rd DTM_CMD_ARG_slice)
  | 6 => s.recompute
  | _ => s.dtmDone 3 1

/-- COMMIT (R371): `par` names groups in which a staged word fails parity. -/
def execCommit (par : Nat) (s : State) : Host.Outcome State Fault Refusal := hostWrite s 6 0x120 fun s => s.dtmCommit par

/-- DISCARD (R374). -/
def execDiscard (s : State) : Host.Outcome State Fault Refusal := hostWrite s 6 0x120 fun s => s.discard (s.rd DTM_CMD_ARG_groups)

/-- DTM_CMD SLICE_COMMIT (R389). -/
def execDtmSliceCommit (s : State) : Host.Outcome State Fault Refusal := hostWrite s 6 0x120 fun s => s.dtmSlice

/-- SLICE_PURGE (R391). -/
def execSlicePurge (s : State) : Host.Outcome State Fault Refusal := hostWrite s 6 0x120 fun s => s.purge (s.rd DTM_CMD_ARG_slice)

/-- RECOMPUTE (R381). -/
def execRecompute (s : State) : Host.Outcome State Fault Refusal := hostWrite s 6 0x120 fun s => s.recompute

/-- A read of DTM_MODULE_LO copies the upper half of the datum (R380). -/
def State.readModuleLo (s : State) : State := (s.wr DTM_MODULE_HI_datum_hi (s.dtm.module / 2 ^ 64)).emit (.readData (s.dtm.module % 2 ^ 64))

/-- DTM_MODULE_LO_READ (R380). -/
def execDtmModuleLoRead (s : State) : Host.Outcome State Fault Refusal := hostRead s 6 0x140 fun s => s.readModuleLo

/-! Checks (R384, R396, R397). -/

/-- A check of a kind and subject: the second difference in a row after the grace raises it, an agreement clears it. -/
def State.check (s : State) (kind subj : Nat) (differs counts : Bool) : State :=
  let c := (s.dtm.checks.find? fun c => c.kind = kind && c.subj = subj).getD { kind := kind, subj := subj, differed := false, raised := false }
  let rest := s.dtm.checks.filter fun x => !(x.kind = kind && x.subj = subj)
  let put := fun (l : List Check) (s : State) => ({ s with dtm := { s.dtm with checks := l } } : State)
  if !differs then put rest s
  else if !counts then put (rest ++ [{ c with differed := false }]) s
  else if c.differed && !c.raised then
    let s := put (rest ++ [{ c with raised := true }]) s
    let s := s.cnt (match kind with | 1 => DTM_SELF_MISMATCH_count | 2 => DTM_SLICE_MISMATCH_count | 3 => DTM_NBR_MISMATCH_count | _ => DTM_EPOCH_MISMATCH_count)
    let s := ((s.wr DTM_MISMATCH_LOC_kind kind).wr DTM_MISMATCH_LOC_fibre (if 3 ≤ kind then subj else 0)).wr DTM_MISMATCH_LOC_slice (if kind = 2 then subj else 0)
    (s.wr DTM_MISMATCH_LOC_valid 1).irq 6 2
  else put (rest ++ [{ c with differed := true }]) s

/-- DTM_MISMATCH_STATE: the kinds raised. -/
def State.mismatchKinds (s : State) : Nat := ofBits ((s.dtm.checks.filter (·.raised)).map (·.kind - 1))

/-- The epoch grace of the module, or of a slice, is over. -/
def State.graceOver (s : State) (sl : Option Nat) : Bool :=
  decide ((match sl with | none => s.dtm.grace | some x => s.dtm.sgrace.getD 0 x) ≤ s.cyc)

/-- The module datum expected. -/
def State.expect (s : State) : Nat := s.rd DTM_EXPECT_lo + s.rd DTM_EXPECT_hi * 2 ^ 64

/-- The module's own checks: kind 1, and kind 2 of every slice in force (R384). A parity error in an expectation counts as agreement. -/
def State.ownChecks (s : State) : State :=
  if !s.flag DTM_CTRL_check_en then s else
  let s := if s.flag DTM_EXPECT_CTRL_valid then s.check 1 0 (s.dtm.module ≠ s.expect) (s.graceOver none) else s
  ((List.range 4096).filter fun sl => s.sliceState sl = 1).foldl (fun s sl =>
    let e := s.rd FWD_SLICE_EPOCH_cur_epoch 0 sl
    if (List.range 5).any (fun w => s.isBad TB_EXPECT 0 sl w 16) then (s.cnt DTM_PARITY_count).check 2 sl false true
    else if !bit (s.tget TB_EXPECT 0 sl 4) e then s
    else
      let want := s.tget TB_EXPECT 0 sl (2 * e) + s.tget TB_EXPECT 0 sl (2 * e + 1) * 2 ^ 64
      s.check 2 sl (s.sliceDatum sl ≠ want) (s.graceOver none && s.graceOver (some sl))) s

/-! Beacons (R382, R383, R386, R387). -/

/-- The 64 bytes of a beacon body, with the log's marks at 0x2C (R89, R386). -/
def beaconBytes (b : Beacon) (mark : Nat) : List Byte :=
  leBytes 8 b.serial ++ leBytes 8 b.time ++ leBytes 8 b.epoch ++ leBytes 16 b.datum ++ leBytes 4 b.slice ++ leBytes 4 mark ++ leBytes 16 b.sdatum

/-- Write an entry of the beacon log (R386): a full ring's oldest is overwritten and counted. -/
def State.logBeacon (s : State) (b : Beacon) (mark : Nat) : State :=
  if !s.flag DTM_LOG_CTRL_enable then s else
  let n := 2 ^ s.rd DTM_LOG_CTRL_size_log
  let h := s.rd DTM_LOG_CTRL_head
  let s := s.writeRes (s.rd DTM_LOG_BASE_base * 64 + 64 * (h % n)) (wordsOf (beaconBytes b mark) fun _ => false)
  let s := s.wr DTM_LOG_CTRL_head (h + 1)
  let s := if n ≤ s.dtm.logged then s.cnt DTM_LOG_OVERRUN_count else s
  { s with dtm := { s.dtm with logged := s.dtm.logged + 1 } }

/-- The next slice in force after `c`, ascending with wrap; slice 0 where none is. -/
def State.nextSlice (s : State) (c : Nat) : Nat :=
  let l := (List.range 4096).filter fun sl => s.sliceState sl = 1
  match l.find? (c < ·) with
  | some x => x
  | none => l.headD 0

/-- The module's beacon now, naming slice `sl`. -/
def State.beacon (s : State) (sl : Nat) : Beacon :=
  { serial := s.rd TRV_SERIAL_serial, time := s.origin, epoch := s.rd DTM_EPOCH_cur, datum := s.dtm.module, slice := sl, sdatum := s.sliceDatum sl }

/-- Length of a beacon interval in core cycles. -/
def State.beaconCyc (s : State) : Nat := usCyc (max 100 (s.rd DTM_CFG_beacon_us))

/-- An interval of the module's own ends on a fibre (R387): without a beacon, on a fibre held EXPECTED through it, it counts. An entry of 0 says that the interval does not count: a beacon came in it, or the fibre was not EXPECTED at its start. -/
def State.beaconSilent (s : State) (f : Nat) : State :=
  if s.trv f ≠ 2 then { s with dtm := { s.dtm with silent := s.dtm.silent.put f 0 } } else
  if s.dtm.silent.get? f = some 0 then { s with dtm := { s.dtm with silent := s.dtm.silent.del f } } else
  let n := s.dtm.silent.getD 0 f + 1
  let s : State := { s with dtm := { s.dtm with silent := s.dtm.silent.put f n } }
  if n = max 1 (s.rd DTM_CFG_loss_n) then (s.cnt DTM_BEACON_LOSS_count).irq 6 3 else s

/-- BEACON_INTERVAL: beacons of one snapshot on every lit fibre not bypassed, the log's own entry, the module's checks, fibres that stay silent (R382 to R387). With beacon_en = 0 the intervals go on and no beacon is made (DEDUCED, log entry 70). -/
def State.beaconInterval (s : State) : State :=
  let due : Bool := match s.dtm.beaconAt with | none => true | some c => decide (c + s.beaconCyc ≤ s.cyc)
  if !due then s else
  let sl := s.nextSlice s.dtm.beaconSlice
  let b := s.beacon sl
  let s : State := { s with dtm := { s.dtm with beaconAt := some s.cyc, beaconSlice := sl } }
  let s := if !s.flag DTM_CTRL_beacon_en then s else
    ((List.range 64).foldl (fun s f =>
      if s.lit f && !s.bypassed f then
        (s.sendLmf f { typ := 0x20, body := [b.serial, b.time, b.epoch, b.datum, b.slice, b.sdatum] }).cnt DTM_BEACON_TX_count
      else s) s).logBeacon b 0x8000
  (List.range 64).foldl State.beaconSilent s.ownChecks

/-- BEACON_INTERVAL (R382). -/
def execBeaconInterval (s : State) : Host.Outcome State Fault Refusal := act s s.beaconInterval

/-- A received beacon (R383, R384). -/
def State.beaconRx (s : State) (f : Nat) (b : Beacon) : State :=
  if s.bypassed f then s else
  let s := (((s.wr DTM_NBR_epoch b.epoch 0 f).wr DTM_NBR_slice b.slice 0 f).wr DTM_NBR_time b.time 0 f).wr DTM_NBR_datum_lo b.datum 0 f
  let s := ((s.wr DTM_NBR_datum_hi (b.datum / 2 ^ 64) 0 f).wr DTM_NBR_sdatum_lo b.sdatum 0 f).wr DTM_NBR_sdatum_hi (b.sdatum / 2 ^ 64) 0 f
  let s := (s.cnt DTM_BEACON_RX_count).logBeacon { b with time := b.time % 2 ^ 48, epoch := b.epoch % 2 ^ 32, slice := b.slice % 4096 } f
  let s : State := { s with dtm := { s.dtm with silent := s.dtm.silent.put f 0 } }
  if s.trv f ≠ 2 || !s.flag DTM_CTRL_check_en then s else
  let want := s.rd TRV_PLAT_datum_lo 0 f + s.rd TRV_PLAT_datum_hi 0 f * 2 ^ 64
  let s := if want = 0 then s else s.check 3 f (b.datum % 2 ^ 128 ≠ want) (s.graceOver none)
  s.check 4 f (b.epoch % 2 ^ 32 ≠ s.rd DTM_EPOCH_cur) (s.graceOver none)

/-- DATUM_BEACON (R383). -/
def execDatumBeacon (f : Nat) (b : Beacon) (s : State) : Host.Outcome State Fault Refusal := act s (s.beaconRx (f % 64) b)

/-- Graces that have ended are forgotten (R385). -/
def State.graceEnd (s : State) : State :=
  { s with dtm := { s.dtm with grace := if s.dtm.grace ≤ s.cyc then 0 else s.dtm.grace, sgrace := s.dtm.sgrace.filter fun x => s.cyc < x.2 } }

/-- GRACE_END (R385). -/
def execGraceEnd (s : State) : Host.Outcome State Fault Refusal := act s s.graceEnd

/-! DTM tables (R395). -/

/-- A DTM table command completes: 0 OK, 2 BUSY, 3 INVALID, 5 PARITY. -/
def State.dtmTDone (s : State) (st : Nat) : State := ((s.wr DTM_TSTAT_busy 0).wr DTM_TSTAT_status st).irq 6 7

/-- Load DTM_TDATA from word 0 on. -/
def State.dtmLoad (s : State) (l : List Nat) : State := l.zipIdx.foldl (fun s (v, w) => s.wr DTM_TDATA_data v 0 w) s

/-- READ. -/
def State.dtmRead (s : State) (table : Nat) : State :=
  let sl := s.rd DTM_TKEY_slice
  let par := fun (t n : Nat) => (List.range n).any fun w => s.isBad t 0 sl w 16
  match table with
  | 0 =>
    let w := s.tget TB_SLICE 0 sl 0
    let d := s.sliceDatum sl
    (s.dtmLoad [setFld w 2 1 (if s.sliceStaged sl then 1 else 0), d % 2 ^ 64, d / 2 ^ 64]).dtmTDone 0
  | 1 => let bad := par TB_QUOTA 1; ((if bad then s.cnt DTM_PARITY_count else s).dtmLoad [s.tget TB_QUOTA 0 sl 0]).dtmTDone (if bad then 5 else 0)
  | 2 => (s.dtmLoad [s.sliceUse sl 0 ||| s.sliceUse sl 1 <<< 16 ||| s.sliceUse sl 2 <<< 32]).dtmTDone 0
  | 3 => let bad := par TB_EXPECT 5; ((if bad then s.cnt DTM_PARITY_count else s).dtmLoad ((List.range 5).map (s.tget TB_EXPECT 0 sl))).dtmTDone (if bad then 5 else 0)
  | _ => s.dtmTDone 3

/-- A word goes to a slice table's staged copy. -/
def State.dtmStage (s : State) (t sl w v : Nat) : State := { s with stgT := s.stgT.set 0 (tkey t 0 sl w) (v ^^^ s.tget t 0 sl w ||| 1 <<< 64) }

/-- WRITE (R390, R392, R395). -/
def State.dtmWrite (s : State) (table : Nat) : State :=
  let sl := s.rd DTM_TKEY_slice
  let d := fun w => s.rd DTM_TDATA_data 0 w
  if table ≠ 1 ∧ table ≠ 3 then s.dtmTDone 3
  else if s.sliceState sl = 2 then s.dtmTDone 2
  else if table = 1 then
    let c := fld (d 0) 0 14
    let g := fld (d 0) 16 13
    let m := fld (d 0) 32 15
    if 8192 < c ∨ 4096 < g ∨ 16384 < m then s.dtmTDone 3 else (s.dtmStage TB_QUOTA sl 0 (c ||| g <<< 16 ||| m <<< 32)).dtmTDone 0
  else ((List.range 5).foldl (fun s w => s.dtmStage TB_EXPECT sl w (if w = 4 then d w % 4 else d w)) s).dtmTDone 0

/-- A write of DTM_TCMD: 1 READ, 2 WRITE. -/
def State.dtmTcmd (s : State) (op table : Nat) : State :=
  match op with
  | 1 => s.dtmRead table
  | 2 => s.dtmWrite table
  | _ => s.dtmTDone 3

/-- DTM_READ (R395). -/
def execDtmRead (table : Nat) (s : State) : Host.Outcome State Fault Refusal := hostWrite s 6 0x300 fun s => s.dtmRead (table % 16)

/-- DTM_WRITE (R395). -/
def execDtmWrite (table : Nat) (s : State) : Host.Outcome State Fault Refusal := hostWrite s 6 0x300 fun s => s.dtmWrite (table % 16)

end Sys2Proof.Machine
end

