-- ==== Sys2Proof/Machine/Sec.lean ====
section
/-! DEFINITION. Flash and boot, attestation, SEC commands, in-band sessions (R447 to R458, R461). -/

namespace Sys2Proof.Machine

/-! Firmware images (R448). -/

/-- Bytes of a firmware slot (R447). -/
def slotBytes : Nat := 2 ^ 24

/-- Bytes of an SLH-DSA-SHAKE-256s signature (R448). -/
def fwSigBytes : Nat := 29792

/-- A firmware image verified as far as the image alone tells (R448). -/
def fwVerify (img : List Byte) : FwRead :=
  let at_ := fun o n => leNat ((img.drop o).take n)
  let n := 256 + at_ 8 4
  if at_ 0 4 ≠ 0x4D524946 ∨ at_ 4 4 ≠ 1 ∨ at_ 0x90 112 ≠ 0 ∨ img.length ≠ n + fwSigBytes then { code := 1 }
  else if shake256 ((img.drop 0x10).take 64) 32 ≠ Config.romKeyHash then { code := 2 }
  else if !Config.slhDsaVerify 256 ((img.drop 0x10).take 64) (img.take n) (img.drop n) then { code := 3 }
  else { code := 0, secVer := at_ 0xC 4, kernelKey := (img.drop 0x50).take 64, digest := shake256 img 32 }

/-- Why a slot's image is not accepted, in the codes of SEC_BOOT_STATUS; 0 if it is (R448). -/
def fwRefuse (fwMin : Nat) (r : FwRead) : Nat := if r.code ≠ 0 then r.code else if r.secVer < fwMin then 4 else 0

/-- A slot's contents as read at start-up or staged since. -/
def State.slot (s : State) (i : Nat) : FwRead := (s.secu.slots.getD i none).getD { code := 1 }

/-- The minimums and the anchors show in their registers (R461). -/
def State.showRegion (s : State) (fwMin kernelMin : Nat) (anchors : List Nat) : State :=
  let s := (s.wr SEC_MIN_fw_min fwMin).wr SEC_MIN_kernel_min kernelMin
  (List.range 16).foldl (fun s i => s.wr SEC_ANCHOR_hash (anchors.getD i 0) 0 (i / 4) (i % 4)) s

/-! Attestation (R451). -/

/-- The eight-byte words of a digest or key. -/
def words8 (bs : List Byte) : List Nat := (List.range (bs.length / 8)).map fun i => leNat ((bs.drop (8 * i)).take 8)

/-- The firmware digest in SEC_FW_DIGEST. -/
def State.fwDigest (s : State) : List Byte := leWords 8 ((List.range 4).map fun w => s.rd SEC_FW_DIGEST_digest 0 w)

/-- The loaded kernels in ascending index (R451). -/
def kernelsByIdx (ks : List Kernel) : List Kernel := (List.range 256).filterMap fun i => ks.find? fun k => k.idx = i

/-- The kernel digest of R451. -/
def State.kernelDigest (s : State) : List Byte :=
  shake256 ((kernelsByIdx s.ser.kernels).flatMap fun k => leBytes 2 k.idx ++ k.digest) 32

/-- The first 152 bytes of the report (R451). -/
def State.reportHead (s : State) (nonce : List Byte) : List Byte :=
  leBytes 8 (0x54535441 + (1 <<< 32)) ++ leBytes 8 (s.rd TRV_SERIAL_serial) ++ (nonce ++ List.replicate 32 0).take 32 ++ s.fwDigest
    ++ s.kernelDigest ++ leBytes 16 s.dtm.module ++ leBytes 8 (s.rd DTM_EPOCH_cur) ++ leBytes 8 s.sec ++ leBytes 8 s.ns

/-- The attestation report (R451): its fields, the measurement, the signature. -/
def State.report (s : State) (nonce : List Byte) : List Byte :=
  let h := s.reportHead nonce
  let m := h ++ shake256 h 32
  m ++ Config.slhDsaSign m

/-! Sessions (R452 to R456). -/

/-- SEC_SESS shows the sessions. -/
def State.setSess (s : State) (l : List Sess) : State :=
  let s : State := { s with secu := { s.secu with sess := l } }
  s.wr SEC_SESS_open l.length

/-- The in-band messages not of the given sessions, and the rings without their untaken descriptors (R456). -/
def State.dropMsgs (s : State) (ids : List Nat) : State :=
  let gone := (s.hif.msgs.filter fun m => ids.contains m.sess).map (·.no)
  let ok : RingEnt → Bool := fun e => match e.msg with | some n => !gone.contains n | none => true
  let rings : SMap HifRing := s.hif.rings.map fun (q, (r : HifRing)) => (q, { r with desc := r.desc.filter ok })
  { s with hif := { s.hif with rings := rings, msgs := s.hif.msgs.filter fun m => !ids.contains m.sess } }

/-- Sessions end: their messages' answers are not sent (R456). Ending one that was established raises session_closed. -/
def State.endSess (s : State) (ids : List Nat) : State :=
  let gone := s.secu.sess.filter fun x => ids.contains x.id
  let s := (s.dropMsgs ids).setSess (s.secu.sess.filter fun x => !ids.contains x.id)
  let s : State := { s with secu := { s.secu with frags := s.secu.frags.filter fun f => !ids.contains f.sess } }
  if gone.any (·.confirmed) then s.irq 1 3 else s

/-- The session of an ID. -/
def State.sessOf (s : State) (id : Nat) : Option Sess := s.secu.sess.find? fun x => x.id = id

/-- Replace a session's record. -/
def State.putSess (s : State) (x : Sess) : State :=
  { s with secu := { s.secu with sess := s.secu.sess.map fun y => if y.id = x.id then x else y } }

/-- The tag of a payload without its tag (R454). -/
def mgmtTag (key bs : List Byte) : List Byte := kmac256 key bs 16 (asciiBytes "Genric mgmt tag")

/-- One fragment's payload (R452). -/
def mgmtPayload (sess typ idx cnt ctr : Nat) (body : List Byte) (key : Option (List Byte)) : List Byte :=
  let p := leBytes 4 sess ++ leBytes 4 (typ ||| idx <<< 8 ||| cnt <<< 16) ++ leBytes 8 ctr ++ body
  match key with
  | some k => p ++ mgmtTag k p
  | none => p

/-- The module sends a message to `dst` (R452): fragments on TC0 of kind 5, routed by the return table (R114). -/
def State.sendMgmt (s : State) (pipe dst slice sess typ : Nat) (body : List Byte) : State :=
  let f := if sess = 0 then 4080 else 4064
  let n := max 1 ((body.length + f - 1) / f)
  if 255 < n then s else
  let x := s.sessOf sess
  let tx := match x with | some x => x.tx | none => 0
  if 2 ^ 64 - 1 < tx + n then s.endSess [sess] else
  let key := x.map (·.keyOut)
  let s := (List.range n).foldl (fun (s : State) i =>
    let r := s.answerRoute pipe dst
    let q := r.2.takeFree 4
    let pl := mgmtPayload sess typ i n (if sess = 0 then 0 else tx + 1 + i) ((body.drop (f * i)).take f) key
    (q.2.originate { kind := 5, tc := 0, slice := slice, dst := dst, waybill := r.1.1, hopCount := r.1.2, seq := q.1 % 2 ^ 32, payload := pl } pipe (q.2.pipeCore pipe) .lost true).2) s
  match x with
  | some x => s.putSess { x with tx := tx + n }
  | none => s

/-- The first management packet not yet taken. -/
def State.headMgmt (s : State) : Option Flight :=
  s.flights.find? fun x => x.loc = .local && !x.admitted && x.dest = .host && isMgmt x.pkt

/-- A fragment joins its message; the whole body is answered once the last has come (R452). -/
def State.fragAdd (s : State) (src sess typ idx cnt ctr : Nat) (body : List Byte) : Option (List Byte) × State :=
  let mine : Frag → Bool := fun f => f.src = src && f.sess = sess && f.typ = typ
  let old := s.secu.frags.find? mine
  let rest := s.secu.frags.filter fun f => !mine f
  let s : State := { s with secu := { s.secu with frags := rest } }
  let have_ : Option (List Byte) :=
    if idx = 0 then some [] else
    match old with
    | some f => if f.got = idx && f.cnt = cnt && (sess = 0 || ctr = f.ctr + 1) then some f.body else none
    | none => none
  match have_ with
  | none => (none, s)
  | some b =>
    if idx + 1 = cnt then (some (b ++ body), s)
    else if cnt ≤ idx then (none, s)
    else (none, { s with secu := { s.secu with frags := s.secu.frags ++ [⟨src, sess, typ, cnt, idx + 1, ctr, b ++ body⟩] } })

/-- A tagged packet is judged (R454): its session if it is accepted. -/
def State.judgeTag (s : State) (sess ctr : Nat) (pl : List Byte) : Option Sess × State :=
  match s.sessOf sess with
  | none => (none, s.cnt SEC_TAG_BAD_count)
  | some x =>
    if pl.length < 32 ∨ mgmtTag x.keyIn (pl.take (pl.length - 16)) ≠ pl.drop (pl.length - 16) then (none, s.cnt SEC_TAG_BAD_count)
    else if ctr ≤ x.rx then (none, s.cnt SEC_REPLAY_count)
    else
      let x : Sess := { x with rx := ctr, last := s.cyc }
      (some x, s.putSess x)

/-- The management function takes the first packet if it is of type `typ`; `f` acts on a whole message: the packet, its session (none for a handshake), its body. A packet whose payload check fails is discarded. -/
def State.mgmtTake (s : State) (typ : Nat) (f : Pkt → Nat → Option Sess → List Byte → State → State) : State :=
  match s.headMgmt with
  | none => s
  | some x =>
    let p := x.pkt
    if mgmtType p ≠ typ then s else
    let s := s.dropFlight x
    if s.noFirmware || p.e2e ≠ e2eOf p.payload then s else
    let sess := leNat (p.payload.take 4)
    let idx := leNat ((p.payload.drop 5).take 1)
    let cnt := leNat ((p.payload.drop 6).take 1)
    let ctr := leNat ((p.payload.drop 8).take 8)
    if sess = 0 then
      let r := s.fragAdd p.src 0 typ idx cnt 0 (p.payload.drop 16)
      match r.1 with
      | some b => f p x.pipe none b r.2
      | none => r.2
    else
      let j := s.judgeTag sess ctr p.payload
      match j.1 with
      | none => j.2
      | some y =>
        let r := j.2.fragAdd p.src sess typ idx cnt ctr ((p.payload.drop 16).take (p.payload.length - 32))
        match r.1 with
        | some b => f p x.pipe (some y) b r.2
        | none => r.2

/-- A SESS_INIT refused (R453): counted, raised, and answered while sessions are enabled. -/
def State.sessRefuse (s : State) (p : Pkt) (pipe reason : Nat) : State :=
  let s := (s.cnt SEC_AUTH_FAIL_count).irq 1 1
  if s.flag SEC_IB_CTRL_enable then s.sendMgmt pipe p.src p.slice 0 5 (leBytes 1 reason) else s

/-- A session ID with bit 31 set that no session has (R452, log entry 1). -/
def sessId (used : List Nat) (v : Nat) : Nat → Nat
  | 0 => 2 ^ 31 + v % 2 ^ 31
  | n + 1 => if used.contains (2 ^ 31 + v % 2 ^ 31) then sessId used (v + 1) n else 2 ^ 31 + v % 2 ^ 31

/-- A whole SESS_INIT (R453, R454). -/
def State.sessInit (s : State) (p : Pkt) (pipe : Nat) (b : List Byte) : State :=
  let pk := (b.drop 1600).take 32
  let hash := shake256 pk 32
  let anchored := (List.range 4).any fun a => hash == leWords 8 ((List.range 4).map fun w => s.rd SEC_ANCHOR_hash 0 a w)
  if !s.flag SEC_IB_CTRL_enable then s.sessRefuse p pipe 3
  else if b.length ≠ 18720 ∨ !anchored then s.sessRefuse p pipe 1
  else if !Config.slhDsaVerify 128 pk (shake256 (b.take 1632) 32) (b.drop 1632) then s.sessRefuse p pipe 1
  else if s.rd SEC_IB_CTRL_max_sessions ≤ s.secu.sess.length then s.sessRefuse p pipe 2 else
  let f := s.takeFree 13
  let g := f.2.takeFree 14
  let h := g.2.takeFree 15
  let s := h.2
  let id := sessId (s.secu.sess.map (·.id)) f.1 8
  let kem := Config.mlKemEncaps (b.take 1568) g.1
  let head := leBytes 4 id ++ kem.1 ++ leBytes 32 h.1 ++ Config.identityKey
  let acc := head ++ Config.slhDsaSign (shake256 (b ++ head) 32)
  let t := shake256 (b ++ acc) 32
  let s := s.setSess (s.secu.sess ++ [{ id := id, keyIn := kmac256 kem.2 t 32 (asciiBytes "Genric mgmt f2m"),
                                        keyOut := kmac256 kem.2 t 32 (asciiBytes "Genric mgmt m2f"), at_ := s.cyc, last := s.cyc }])
  s.sendMgmt pipe p.src p.slice 0 2 acc

/-- SESS_INIT (R453). -/
def execSessInit (s : State) : Host.Outcome State Fault Refusal :=
  act s (s.mgmtTake 1 fun p pipe x b s => if x.isNone then s.sessInit p pipe b else s)

/-- SESS_CONFIRM (R453): the session is established. -/
def execSessConfirm (s : State) : Host.Outcome State Fault Refusal :=
  act s (s.mgmtTake 3 fun _ _ x _ s =>
    match x with
    | some x => if x.confirmed then s else (s.putSess { x with confirmed := true }).irq 1 2
    | none => s)

/-- SESS_CLOSE (R456). -/
def execSessClose (s : State) : Host.Outcome State Fault Refusal :=
  act s (s.mgmtTake 4 fun _ _ x _ s =>
    match x with
    | some x => s.endSess [x.id]
    | none => s)

/-- CERT_REQ (R453): an empty body asks for the chain. -/
def execCertReq (s : State) : Host.Outcome State Fault Refusal :=
  act s (s.mgmtTake 6 fun p pipe x b s =>
    if x.isNone && b.isEmpty && s.flag SEC_IB_CTRL_enable then s.sendMgmt pipe p.src p.slice 0 6 Config.certChain else s)

/-- ATTEST_REQ (R455). -/
def execAttestReq (s : State) : Host.Outcome State Fault Refusal :=
  act s (s.mgmtTake 0x12 fun p pipe x b s =>
    match x with
    | some x => if x.confirmed && b.length = 32 then s.sendMgmt pipe p.src p.slice x.id 0x13 (s.report b) else s
    | none => s)

/-- SESSION_CONFIRM_TIMEOUT (R453): sessions without SESS_CONFIRM within 1 s are discarded. -/
def execSessionConfirmTimeout (s : State) : Host.Outcome State Fault Refusal :=
  act s (s.endSess ((s.secu.sess.filter fun x => !x.confirmed && x.at_ + msCyc 1000 ≤ s.cyc).map (·.id)))

/-- SESSION_IDLE_TIMEOUT (R456): sessions with no valid message for idle_s end. -/
def execSessionIdleTimeout (s : State) : Host.Outcome State Fault Refusal :=
  act s (s.endSess ((s.secu.sess.filter fun x => x.confirmed && x.last + msCyc (1000 * s.rd SEC_IB_CTRL_idle_s) ≤ s.cyc).map (·.id)))

/-! SEC commands (R458). -/

/-- A SEC command ends: SEC_CMD_STAT and cmd_done (R458). -/
def State.secDone (s : State) (st reason : Nat) (bytes : Nat := 0) : State :=
  ((((s.wr SEC_CMD_STAT_busy 0).wr SEC_CMD_STAT_status st).wr SEC_CMD_STAT_reason reason).wr SEC_CMD_STAT_bytes bytes).irq 1 0

/-- The command's argument. -/
def State.secArg (s : State) (lo n : Nat) : Nat := fld (s.rd SEC_CMD_ARG_arg) lo n

/-- Bytes written to host memory at SEC_CMD_ADDR. -/
def State.secOut (s : State) (bs : List Byte) : State := s.emit (.hostWr (s.rd SEC_CMD_ADDR_addr) bs false)

/-- A command that moves host memory: none without Bus Master Enable (R423). -/
def State.secDma (s : State) (f : State → State) : State := if s.busMaster then f s else s.secDone 3 0

/-- ATTEST (R451). -/
def State.secAttest (s : State) (nonce : List Byte) : State := s.secDma fun s => (s.secOut (s.report nonce)).secDone 0 0

/-- The slot FW_STAGE writes (R458). -/
def State.stageSlot (s : State) : Nat := if s.noFirmware then s.secu.boot else 1 - s.rd SEC_BOOT_STATUS_slot

/-- FW_STAGE (R458): the image is copied and verified; a wrong size copies nothing. -/
def State.secStage (s : State) (bytes : List Byte) : State :=
  s.secDma fun s =>
    let n := s.secArg 0 32
    let img := (bytes ++ List.replicate (n - bytes.length) 0).take n
    if slotBytes < n ∨ n < 256 + fwSigBytes then s.secDone 7 3 else
    let r := fwVerify img
    let s : State := { s with secu := { s.secu with slots := s.secu.slots.set s.stageSlot (some r) } }
    if r.code ≠ 0 then s.secDone 7 1
    else if r.secVer < s.secu.fwMin then s.secDone 7 2
    else s.secDone 0 0

/-- SET_BOOT_SLOT (R458). -/
def State.secBoot (s : State) : State :=
  let i := s.secArg 0 1
  if fwRefuse s.secu.fwMin (s.slot i) = 0 then
    let s : State := { s with secu := { s.secu with boot := i } }
    s.secDone 0 0
  else s.secDone 7 4

/-- RAISE_MIN (R457, R458). -/
def State.secRaise (s : State) : State :=
  let f := s.secArg 0 32
  let k := s.secArg 32 32
  if f < s.rd SEC_MIN_fw_min ∨ k < s.rd SEC_MIN_kernel_min then s.secDone 7 5
  else if s.rd SEC_BOOT_STATUS_security_ver < f then s.secDone 7 6
  else
    let s : State := { s with secu := { s.secu with fwMin := f, kernelMin := k } }
    ((s.wr SEC_MIN_fw_min f).wr SEC_MIN_kernel_min k).secDone 0 0

/-- An anchor takes the words of a hash. -/
def State.setAnchor (s : State) (ws : List Nat) : State :=
  let a := s.secArg 0 2
  let l := (List.range 4).foldl (fun l w => l.set (4 * a + w) (ws.getD w 0)) s.secu.anchors
  let s : State := { s with secu := { s.secu with anchors := l } }
  ((List.range 4).foldl (fun (s : State) w => s.wr SEC_ANCHOR_hash (ws.getD w 0) 0 a w) s).secDone 0 0

/-- SET_ANCHOR (R458). -/
def State.secAnchor (s : State) (hash : List Byte) : State := s.secDma fun s => s.setAnchor (words8 ((hash ++ List.replicate 32 0).take 32))

/-- CLEAR_ANCHOR (R458). -/
def State.secClear (s : State) : State := s.setAnchor []

/-- CERT_READ (R458). -/
def State.secCert (s : State) : State :=
  s.secDma fun s =>
    if s.secArg 0 32 < Config.certChain.length then s.secDone 7 3
    else (s.secOut Config.certChain).secDone 0 0 Config.certChain.length

/-- CLOSE_SESSIONS (R456, R458). -/
def State.secClose (s : State) : State := (s.endSess (s.secu.sess.map (·.id))).secDone 0 0

/-- A write of SEC_CMD (R458). -/
def State.secCmd (s : State) (op : Nat) (bytes : List Byte) : State :=
  match op with
  | 1 => s.secAttest bytes
  | 2 => s.secStage bytes
  | 3 => s.secBoot
  | 4 => s.secRaise
  | 5 => s.secAnchor bytes
  | 6 => s.secClear
  | 7 => s.secCert
  | 8 => s.secClose
  | _ => s.secDone 3 0

/-- ATTEST (R451): the nonce is what host memory holds at buffer offset 0x10. -/
def execAttest (nonce : List Byte) (s : State) : Host.Outcome State Fault Refusal := hostWrite s 1 0x130 fun s => s.secAttest nonce

/-- FW_STAGE (R458): the image is what host memory holds. -/
def execFwStage (image : List Byte) (s : State) : Host.Outcome State Fault Refusal := hostWrite s 1 0x130 fun s => s.secStage image

/-- SET_BOOT_SLOT (R458). -/
def execSetBootSlot (s : State) : Host.Outcome State Fault Refusal := hostWrite s 1 0x130 fun s => s.secBoot

/-- RAISE_MIN (R458). -/
def execRaiseMin (s : State) : Host.Outcome State Fault Refusal := hostWrite s 1 0x130 fun s => s.secRaise

/-- SET_ANCHOR (R458): the hash is what host memory holds. -/
def execSetAnchor (hash : List Byte) (s : State) : Host.Outcome State Fault Refusal := hostWrite s 1 0x130 fun s => s.secAnchor hash

/-- CLEAR_ANCHOR (R458). -/
def execClearAnchor (s : State) : Host.Outcome State Fault Refusal := hostWrite s 1 0x130 fun s => s.secClear

/-- CERT_READ (R458). -/
def execCertRead (s : State) : Host.Outcome State Fault Refusal := hostWrite s 1 0x130 fun s => s.secCert

/-- CLOSE_SESSIONS (R458). -/
def execCloseSessions (s : State) : Host.Outcome State Fault Refusal := hostWrite s 1 0x130 fun s => s.secClose

end Sys2Proof.Machine
end

