-- ==== Sys2Proof/Machine/Hif.lean ====
section
/-! DEFINITION. The host interface but for running descriptors: page interrupts, command rings and their completions, the host path, DMA, the CXL attachment (R421 to R446, R459, R460). -/

namespace Sys2Proof.Machine

/-! Page interrupts. -/

/-- A host write of PAGE_IRQ_STATUS or PAGE_IRQ_MASK; the vector goes out again while an unmasked bit is set (R434). -/
def State.irqWrite (s : State) (pg : Nat) (mask : Bool) (w : Wr) : State :=
  let s := if mask then s.put PAGE_IRQ_MASK_mask w pg else s.w1c PAGE_IRQ_STATUS_bits w pg
  if s.irqPend pg ≠ 0 then s.sendVec pg else s

/-- PAGE_IRQ_WRITE (R434). -/
def execPageIrqWrite (pg : Nat) (mask : Bool) (w : Wr) (s : State) : Host.Outcome State Fault Refusal :=
  hostWrite s (pg % 256) (if mask then 0x20 else 0x18) fun s => s.irqWrite (pg % 256) mask w

/-! Refused reads. -/

/-- Why a read of BAR4's alias page is refused (R427, R430): ALIAS without the user-read bit, GATED, UNASSIGNED. -/
def State.aliasCause (s : State) (k off : Nat) : Option Nat :=
  if !pageAssigned k then some 1
  else if off < 0x40 ∨ 0xC0 ≤ off then none
  else if !bit (s.rd PMC_USER_READ_pages 0 (k / 64)) (k % 64) then some 2
  else s.accessCause k off

/-- Why a read of `size` bytes at an offset of a BAR's page is refused, if it is (R430). -/
def State.readCause (s : State) (bar pg off size : Nat) : Option Nat :=
  if (size ≠ 4 ∧ size ≠ 8) ∨ off % size ≠ 0 then some 3
  else if bar = 0 then s.accessCause pg off
  else if bar = 2 then (if 32 ≤ pg then some 1 else if s.noFirmware then some 0 else none)
  else s.aliasCause pg off

/-- Why a write of `size` bytes at an offset of a BAR's page is refused, if it is (R430); BAR4 ignores the writes it does not refuse (R427). -/
def State.writeCause (s : State) (bar pg off size : Nat) : Option Nat :=
  if (size ≠ 4 ∧ size ≠ 8) ∨ off % size ≠ 0 then some 3
  else if bar = 0 then s.accessCause pg off
  else if bar = 2 then (if 32 ≤ pg then some 1 else if s.noFirmware then some 0 else none)
  else if pageAssigned pg then none
  else some 1

/-- BUS_MASTER_ENABLE (R423): the function's Memory Space Enable and Bus Master Enable bits as the host writes them. -/
def execBusMasterEnable (mem master : Bool) (s : State) : Host.Outcome State Fault Refusal :=
  act s { s with memSpace := mem, busMaster := master }

/-- CXL_LINK_CHANGE (R460): the link trains or retrains. -/
def execCxlLinkChange (width rate : Nat) (flit : Bool) (s : State) : Host.Outcome State Fault Refusal :=
  act s ((((s.wr HIF_LINK_width width).wr HIF_LINK_rate rate).wr HIF_LINK_flit (if flit then 1 else 0)).irq 0 3)

/-! Rings. -/

/-- A write to a BAR2 page: refused beyond the last ring, and while no firmware runs (R430, R448). -/
def State.ringAccess (s : State) (q off : Nat) (f : State → State) : State :=
  if 32 ≤ q then s.refuseAccess q off true 1
  else if s.noFirmware then s.refuseAccess q off true 0
  else f (s.event 0 4)

/-- Replace a ring's record; HIF_RQ_STAT.running shows a descriptor in progress. -/
def State.setHring (s : State) (q : Nat) (r : HifRing) : State :=
  let s : State := { s with hif := { s.hif with rings := s.hif.rings.set {} q r } }
  if q < 32 then s.wr HIF_RQ_STAT_running (if r.run.isSome then 1 else 0) q else s

/-- Bytes of a descriptor, and offset and width of its completion word (R435, R440, R444, R445). -/
def ringShape (q : Nat) : Nat × Nat × Nat := if q < 16 then (128, 0x18, 8) else if q < 24 then (32, 0x0C, 4) else (32, 0x08, 4)

/-- Host address of a slot. -/
def State.slotAddr (s : State) (q i : Nat) : Nat := s.rd HIF_RQ_BASE_base q * 128 + i * (ringShape q).1

/-- A write into host memory. -/
def State.toHost (s : State) (addr : Nat) (bs : List Byte) : State := s.emit (.hostWr (addr % 2 ^ 64) bs false)

/-- HIF_RQ_STAT takes a completion. -/
def State.ringStat (s : State) (q res idx : Nat) : State :=
  ((s.wr HIF_RQ_STAT_last_result res q).wr HIF_RQ_STAT_last_index idx q).wr HIF_RQ_STAT_done_count (s.rd HIF_RQ_STAT_done_count q + 1) q

/-- A nonzero result of a command ring is counted and raised (R459, R460). -/
def State.ringErr (s : State) (res : Nat) : State := if res = 0 then s else (s.cnt HIF_CMD_ERR_count).irq 0 1

/-- A failure at the CXL link stops a ring at a slot (R460). -/
def State.ringStop (s : State) (q idx : Nat) : State :=
  let s := s.setHring q { s.ring_ q with desc := [], run := none, wrote := false, stopped := true }
  (s.wr HIF_RQ_HEAD_head idx q).irq 0 1

/-- The slots from the head up to the tail. -/
def slotsTo (size tail : Nat) : Nat → Nat → List Nat
  | 0, _ => []
  | f + 1, i => if i = tail then [] else i :: slotsTo size tail f ((i + 1) % size)

/-- The descriptors a reset aborts send the ring's vector (R434): those of a command ring with their irq flag set, as far as they were fetched (log entry 94), those of a host-path ring. -/
def State.abortVec (s : State) (q : Nat) : Bool :=
  s.flag HIF_RQ_CFG_irq_en q && (if q < 16 then (s.ring_ q).desc.any fun e => bit (leNat (e.raw.take 4)) 24
    else s.rd HIF_RQ_HEAD_head q ≠ s.rd HIF_RQ_TAIL_tail q)

/-- A ring reset ends (R443): ABORTED into the descriptors left, head and tail zero. -/
def State.ringClear (s : State) (q : Nat) : State :=
  let size := s.ringSize q
  let (_, off, n) := ringShape q
  let s := if !s.busMaster then s else
    (slotsTo size (s.rd HIF_RQ_TAIL_tail q) size (s.rd HIF_RQ_HEAD_head q)).foldl (fun (s : State) i =>
      let s := s.toHost (s.slotAddr q i + off) (leBytes n (1 ||| 6 <<< 1))
      let s := s.ringStat q 6 i
      if q < 16 then s.ringErr 6 else s) s
  let s := if s.busMaster && s.abortVec q then s.sendVec (256 + q) else s
  let s := s.setHring q { s.ring_ q with desc := [], stopped := false, reset := false }
  (s.wr HIF_RQ_HEAD_head 0 q).wr HIF_RQ_TAIL_tail 0 q

/-- A write of HIF_RQ_CMD: reset waits for the descriptor in progress (R443). -/
def State.ringCmd (s : State) (q : Nat) (w : Wr) : State :=
  if w.ones 0 1 = 0 then s else
  if (s.ring_ q).run.isSome then s.setHring q { s.ring_ q with reset := true } else s.ringClear q

/-- RING_RESET (R443). -/
def execRingReset (q : Nat) (w : Wr) (s : State) : Host.Outcome State Fault Refusal :=
  hostAct s (s.ringAccess (q % 65536) 0x28 fun s => s.ringCmd (q % 65536) w)

/-- A write of HIF_RQ_CFG; clearing enable stops taking descriptors, and lets a stopped ring run again (R443, R460). -/
def State.ringCfg (s : State) (q : Nat) (w : Wr) : State :=
  let s := (((s.put HIF_RQ_CFG_enable w q).put HIF_RQ_CFG_size_log w q).put HIF_RQ_CFG_prio w q).put HIF_RQ_CFG_irq_en w q
  if s.flag HIF_RQ_CFG_enable q then s else s.setHring q { s.ring_ q with desc := [], stopped := false }

/-- A write of HIF_RQ_TAIL; a value beyond the ring is ignored and raised (R460). -/
def State.doorbell (s : State) (q : Nat) (w : Wr) : State :=
  if !w.hits 0 16 then s else
  let v := w.merge 0 16 (s.rd HIF_RQ_TAIL_tail q)
  if s.ringSize q ≤ v then s.irq 0 1 else s.wr HIF_RQ_TAIL_tail v q

/-- DOORBELL (R437). -/
def execDoorbell (q : Nat) (w : Wr) (s : State) : Host.Outcome State Fault Refusal :=
  hostAct s (s.ringAccess (q % 65536) 0x10 fun s => s.doorbell (q % 65536) w)

/-- A write to any BAR2 page. -/
def State.ringWrite (s : State) (q off : Nat) (w : Wr) : State :=
  s.ringAccess q off fun s =>
    if off = 0 then s.put HIF_RQ_BASE_base w q
    else if off = 8 then s.ringCfg q w
    else if off = 0x10 then s.doorbell q w
    else if off = 0x28 then s.ringCmd q w
    else s

/-- Bytes of `b` in `l` at `o`. -/
def overlay (l : List Byte) (o : Nat) (b : List Byte) : List Byte := l.take o ++ b ++ l.drop (o + b.length)

/-- A completed descriptor of an in-band message joins its answer; the last one sends it (R455). -/
def State.ibDone (s : State) (n : Nat) (raw : List Byte) : State :=
  match s.hif.msgs.find? fun m => m.no = n with
  | none => s
  | some m =>
    let m : IbMsg := { m with todo := m.todo - 1, done := m.done ++ raw }
    if m.todo = 0 then
      let s : State := { s with hif := { s.hif with msgs := s.hif.msgs.filter fun (x : IbMsg) => x.no ≠ n } }
      s.sendMgmt m.pipe m.dst m.slice m.sess 0x11 m.done
    else { s with hif := { s.hif with msgs := s.hif.msgs.map fun (x : IbMsg) => if x.no = n then m else x } }

/-- The descriptor in progress on a command ring completes (R442, R443): words read back, completion word, counts, vector. `lost` names the rings whose completion write fails at the CXL link. -/
def State.ringDone (s : State) (q res poll : Nat) (reads lost : List Nat) : State :=
  let r := s.ring_ q
  match r.run with
  | none => s
  | some e =>
    let word := leBytes 8 (1 ||| res <<< 1 ||| (poll % 2 ^ 32) <<< 32)
    if 32 ≤ q then
      let s := (s.setHring q { r with run := none, wrote := false }).ringErr res
      match e.msg with
      | some n => s.ibDone n (overlay (overlay e.raw 0x20 (leWords 8 reads)) 0x18 word)
      | none => s
    else if lost.contains q then s.ringStop q r.idx
    else
      let a := s.slotAddr q r.idx
      let s := if reads.isEmpty then s else s.toHost (a + 0x20) (leWords 8 reads)
      let s := (s.toHost (a + 0x18) word).setHring q { r with run := none, wrote := false }
      let s := (s.ringStat q res r.idx).ringErr res
      let s := if bit (leNat (e.raw.take 4)) 24 && s.flag HIF_RQ_CFG_irq_en q then s.sendVec (256 + q) else s
      if r.reset then s.ringClear q else s

/-! The host path. -/

/-- A host-path descriptor completes: its completion words, the head, the vector. -/
def State.hpDone (s : State) (q res : Nat) (words : List Nat) (lost : Bool) : State :=
  let i := s.rd HIF_RQ_HEAD_head q
  if lost then s.ringStop q i else
  let s := (s.toHost (s.slotAddr q i + (ringShape q).2.1) (leWords 4 words)).wr HIF_RQ_HEAD_head (s.slotNext q i) q
  let s := s.ringStat q res i
  if s.flag HIF_RQ_CFG_irq_en q then s.sendVec (256 + q) else s

/-- Checks 2 to 5 of R75 on a packet the host sends, and its kind and byte count (R444): the counter of the first failure. -/
def hostCheck (count : Nat) (p : Pkt) : Option RegD :=
  if p.ver ≠ 2 ∨ 4096 < p.length ∨ count ≠ 64 + pad8 p.length then some FWD_DROP_HDR_count
  else if p.calcHdrCrc ≠ p.hdrCrc then some FWD_DROP_HDR_count
  else if !(p.kind = 0 || p.kind = 3 || p.kind = 5) || !kindTcOk p.kind p.tc then some FWD_DROP_KIND_count
  else if waybillBad p then some FWD_DROP_WAYBILL_count
  else none

/-- A host packet is refused: counted on FWD00 and on HIF, and reported (R444). -/
def State.hostDrop (s : State) (q : Nat) (c : RegD) (lost : Bool) : State :=
  (((s.cnt c).cnt HIF_HP_TX_DROP_count).irq 0 2).hpDone q 3 [1 ||| 3 <<< 1] lost

/-- A TXQ's packet is checked, stamped, resolved and entered (R444); without cells its descriptor stays pending (R141). -/
def State.hostSend (s : State) (q count : Nat) (p : Pkt) (lost : Bool) : State :=
  match hostCheck count p with
  | some c => s.hostDrop q c lost
  | none =>
    if !s.sharedRoom (cellCount p.length) then s.allocFail false 256 else
    let p := (p.withPoison p.poisonMap)
    let r := s.resolve 9 0 { p with epoch := s.rd FWD_SLICE_EPOCH_cur_epoch 0 p.slice }
    match r.1 with
    | .error (c, _) => r.2.hostDrop q c lost
    | .ok (d, p) =>
      match r.2.takeShared (cellCount p.length) with
      | none => r.2.allocFail false 256
      | some (b, t) =>
        let t := t.enter p 0 191 none 0 d b 0 true
        let t : State := { t with flights := t.flights.map fun (y : Flight) => if y.id + 1 = t.nextId then { y with byHost := true } else y }
        t.hpDone q 0 [1] lost

/-- HOST_PATH_SEND (R444): TXQ `n`, the byte count of its descriptor, the packet its buffer holds, the (TXQ, tc) of the packets ready on the other TXQs, and whether the completion write fails at the link. -/
def execHostPathSend (n count : Nat) (p : Pkt) (others : List (Nat × Nat)) (lost : Bool) (s : State) : Host.Outcome State Fault Refusal :=
  let q := 16 + n % 8
  let waits := others.any fun o => o.1 % 8 ≠ n % 8 && s.hpReady (16 + o.1 % 8) && o.2 < p.tc
  act s (if s.hpReady q && !waits then s.hostSend q (count % 8192) p lost else s)

/-- The first packet waiting for a receive queue. -/
def State.headRx (s : State) (q : Nat) : Option Flight :=
  s.flights.find? fun x => x.loc = .local && !x.admitted && x.dest = .host && !isMgmt x.pkt && rxQueue x.pkt = q

/-- Types the management function acts on; it discards the others (R452 to R456). -/
def mgmtKnown (t : Nat) : Bool := [1, 3, 4, 6, 0x10, 0x12].contains t

/-- A packet is written to its receive queue's buffer `buf` (R445). Its arrival port where it came on none is not stated (log entry 1). -/
def State.hostDeliver (s : State) (q buf : Nat) (lost : Bool) : State :=
  match s.headRx q with
  | none => s
  | some x =>
    if !s.hpReady q then s else
    let p := x.pkt
    let f := s.takeFree 16
    let port := match x.arr with | some lp => lp | none => f.1 % 1024
    let s := (match x.arr with | some _ => s | none => f.2).dropFlight x
    let s := s.toHost buf (p.hdrBytes ++ p.payload)
    s.hpDone q 0 [1 ||| (64 + p.length) <<< 4 ||| port <<< 17, p.poisonMap ||| p.poisonAny <<< 16] lost

/-- HOST_PATH_DELIVERY (R445): RXQ `n`, the buffer its descriptor names, whether the completion write fails at the link. A management packet of a type without a meaning is discarded here. -/
def execHostPathDelivery (n buf : Nat) (lost : Bool) (s : State) : Host.Outcome State Fault Refusal :=
  let s' := match s.headMgmt with
    | some x => if mgmtKnown (mgmtType x.pkt) then s else s.mgmtTake (mgmtType x.pkt) fun _ _ _ _ s => s
    | none => s
  act s (s'.hostDeliver (24 + n % 8) buf lost)

/-- RX_WAIT_TIMEOUT (R445): the first packet waiting for RXQ `n` is dropped once it has waited rx_wait_us without a descriptor. -/
def execRxWaitTimeout (n : Nat) (s : State) : Host.Outcome State Fault Refusal :=
  let q := 24 + n % 8
  act s (match s.headRx q with
    | some x =>
      if !s.hpReady q && x.since + usCyc (s.rd HIF_HP_CFG_rx_wait_us) ≤ s.cyc then ((s.dropFlight x).cnt HIF_HP_RX_DROP_count).irq 0 2 else s
    | none => s)

/-! DMA. -/

/-- A channel ends (R446). -/
def State.dmaEnd (s : State) (c st : Nat) : State :=
  let s : State := { s with hif := { s.hif with dma := s.hif.dma.del c } }
  ((((s.wr HIF_DMA_CTRL_go 0 0 c).wr HIF_DMA_CTRL_busy 0 0 c).wr HIF_DMA_CTRL_status st 0 c)).sendVec (288 + c)

/-- A write of HIF_DMA[c]_CTRL; go starts a copy unless one runs, and reads 1 while it runs (R11, R446). -/
def State.dmaCtrl (s : State) (c : Nat) (w : Wr) : State :=
  let s := s.put HIF_DMA_CTRL_dir w 0 c
  if w.ones 0 1 = 0 ∨ s.flag HIF_DMA_CTRL_busy 0 c then s else
  let d : DmaRun := { host := s.rd HIF_DMA_HOST_addr 0 c * 64, dev := s.rd HIF_DMA_DEV_addr 0 c * 64, len := s.rd HIF_DMA_LEN_len 0 c * 64,
                      toHost := s.flag HIF_DMA_CTRL_dir 0 c }
  if memTop < d.dev + d.len then s.dmaEnd c 3 else
  let s : State := { s with hif := { s.hif with dma := s.hif.dma.put c d } }
  (s.wr HIF_DMA_CTRL_go 1 0 c).wr HIF_DMA_CTRL_busy 1 0 c

/-- DMA_GO (R446). -/
def execDmaGo (c : Nat) (w : Wr) (s : State) : Host.Outcome State Fault Refusal :=
  hostWrite s 0 (0x218 + 0x20 * (c % 4)) fun s => s.dmaCtrl (c % 4) w

/-- One line of a copy to the host. -/
def dmaOut (d : DmaRun) (s : State) (i : Nat) : Bool × State :=
  let r := s.readLine (d.dev / 64 + i) 3
  (r.1.2, r.2.emit (.hostWr ((d.host + 64 * i) % 2 ^ 64) r.1.1 r.1.2))

/-- One line of a copy from the host. -/
def dmaIn (d : DmaRun) (bytes : List Byte) (bad : Bool) (s : State) (i : Nat) : State :=
  s.writeWords ((d.dev + 64 * i) / 4) ((List.range 16).map fun j => (leNat ((bytes.drop (64 * i + 4 * j)).take 4), bad)) 3

/-- The copy of a channel is made and ends (R446). -/
def State.dmaDone (s : State) (c : Nat) (bytes : List Byte) (bad : List Nat) (errs : List (Nat × Nat)) : State :=
  match s.hif.dma.get? c with
  | none => s
  | some d =>
    if !s.busMaster then s else
    let s := s.strike errs
    let n := d.len / 64
    if d.toHost then
      let r := (List.range n).foldl (fun (a : Bool × State) i => let r := dmaOut d a.2 i; (a.1 || r.1, r.2)) (false, s)
      r.2.dmaEnd c (if r.1 then 4 else 0)
    else
      let s := (List.range n).foldl (fun (s : State) i => dmaIn d bytes (bad.contains i) s i) s
      s.dmaEnd c (if (List.range n).any (bad.contains ·) then 4 else 0)

/-- DMA_DONE (R446): the bytes host memory holds and its poisoned lines (for a copy from the host), errors that have struck the store. -/
def execDmaDone (c : Nat) (bytes : List Byte) (bad : List Nat) (errs : List (Nat × Nat)) (s : State) : Host.Outcome State Fault Refusal :=
  act s (s.dmaDone (c % 4) bytes bad errs)

end Sys2Proof.Machine
end

