-- ==== Sys2Proof/Machine/Bus.lean ====
section
/-! DEFINITION. Reads and writes of registers by address: every register of the map by its access code (R11), registers with an effect of their own by that effect (R428 to R432). What a rung command or a descriptor writes goes the same way as a host write (R441). -/

namespace Sys2Proof.Machine

/-! Which register an offset names. -/

/-- The element indexes at which a field's register has an offset. -/
def RegD.at_ (d : RegD) (off : Nat) : Option (Nat × Nat) :=
  if off < d.base then none else
  let r := off - d.base
  let i := if d.stride = 0 then 0 else r / d.stride
  let r := if d.stride = 0 then r else r % d.stride
  let j := if d.stride2 = 0 then 0 else r / d.stride2
  let r := if d.stride2 = 0 then r else r % d.stride2
  if r = 0 ∧ i < d.cnt ∧ j < d.cnt2 then some (i, j) else none

/-- The registers of FWD that act on FWD00 alone (R123). -/
def fwd00Only (off : Nat) : Bool := [0x108, 0x110, 0x118, 0x128, 0x300, 0x308, 0x310, 0x318].contains off || 0x8000 ≤ off

/-- The fields of a page at an offset, each with its element indexes. -/
def fieldsAt (pg off : Nat) : List (RegD × Nat × Nat) :=
  let ds := if off < 0xC0 then regsPAGE
    else if 0x40 < pg ∧ pg ≤ 0x4F ∧ fwd00Only off then []
    else if 0x20 < pg ∧ pg ≤ 0x2B ∧ 0x400 ≤ off then []
    else pageRegs pg
  ds.filterMap fun d => (d.at_ off).map fun x => (d, x.1, x.2)

/-- The instance a page is of the block whose registers it holds; the header's registers count pages. -/
def pageInst (pg off : Nat) : Nat := if off < 0xC0 then pg else pg - blockPage pg

/-! Reads. -/

/-- The three characters of a block's code (R428, R432). -/
def blockCode (pg : Nat) : Nat :=
  let names := ["HIF", "SEC", "CLK", "PWR", "TIM", "CRN", "DTM", "TRV", "BYP", "XBR", "BPM", "QSH", "SRG", "TLY", "LDG", "PMC", "TEL"]
  let n := if pg ≤ 0x10 then names.getD pg "" else if blockPage pg = 0x20 then "MEM" else if blockPage pg = 0x30 then "OPX"
    else if blockPage pg = 0x38 then "LNK" else if blockPage pg = 0x40 then "FWD" else "SRI"
  leNat (asciiBytes n)

/-- Some receive hold window of a fibre is open. -/
def State.rxHeldOpen (s : State) (f : Nat) : Bool := (s.fib f).rxHold.any (·.isOpen)

/-- The OPX_RING register of the ring in OPX_RING_KEY (R322). -/
def State.ringWord (s : State) (e : Nat) : Nat :=
  let r := s.ring e (s.rd OPX_RING_KEY_ring e)
  r.heater ||| r.offset <<< 16 ||| r.order <<< 32 ||| r.lock <<< 34 ||| r.up <<< 40 ||| r.down <<< 48

/-- Header registers derived from others (R428, R429). -/
def State.pageDerived (s : State) (pg off : Nat) : Option Nat :=
  if off = 0 then some (blockCode pg ||| (pg - blockPage pg) <<< 24 ||| pg <<< 32 ||| 1 <<< 40 ||| 0xA1 <<< 48)
  else if off = 8 ∧ pg ≤ 5 then some 1
  else if off = 0x10 then
    some (s.rd PAGE_STATUS_ready pg ||| (if s.rd PAGE_IRQ_STATUS_bits pg = 0 then 0 else 2) ||| (if s.clocked pg then 0 else 4))
  else none

/-- The pages with an overflow flag, 64 of them from 64 w on (R492). -/
def State.ovfSum (s : State) (w : Nat) : Nat :=
  ofBits ((List.range 64).filter fun i => pageAssigned (64 * w + i) && s.rd PAGE_CNT_OVF_ovf (64 * w + i) ≠ 0)

/-- Registers that show what the state holds elsewhere. FWD_SLICE_EPOCH.drain_left_us is rounded up to whole microseconds, a rounding the spec does not give (DESIGN CHOICE, log entry 87). -/
def State.derived (s : State) (pg off : Nat) : Option Nat :=
  if off < 0xC0 then s.pageDerived pg off else
  let e := pg - 0x30
  let f := (off - 0x240) / 8
  let n := (off - 0x1000) / 0x200
  if pg = 5 ∧ 0x1000 ≤ off ∧ off % 0x40 = 0x28 then
    let n := (off - 0x1000) / 0x40
    some ((if s.armed n then 1 else 0) ||| s.rd CRN_U_CTRL_irq_en 0 n <<< 2 ||| s.rd CRN_U_CTRL_owner 0 n <<< 8)
  else if pg = 6 ∧ off = 0x118 then some s.stagedGroups
  else if pg = 6 ∧ off = 0x178 then some s.mismatchKinds
  else if pg = 10 ∧ off = 0x170 then some (s.reserved ||| (s.reserved - s.reserveUsed) <<< 32)
  else if pg = 13 ∧ off = 0x118 then some (s.ser.chunks.map (·.granules)).sum
  else if pg = 14 ∧ 0x1000 ≤ off ∧ off < 0x3000 ∧ (off - 0x1000) % 0x200 = 0x28 then some ((s.covered n).length ||| s.ldgBlocks n <<< 32)
  else if pg = 14 ∧ 0x1000 ≤ off ∧ off < 0x3000 ∧ (off - 0x1000) % 0x200 = 0x1F8 then some (s.ldgStep n % 2 ^ 32)
  else if pg = 15 ∧ off = 0x100 then some s.cyc
  else if pg = 15 ∧ 0x130 ≤ off ∧ off < 0x150 then some (s.ovfSum ((off - 0x130) / 8))
  else if 0x30 ≤ pg ∧ pg ≤ 0x37 ∧ off = 0x188 then some (s.ringWord e)
  else if 0x30 ≤ pg ∧ pg ≤ 0x37 ∧ 0x240 ≤ off ∧ off < 0x280 then
    some ((fieldsAt pg off).foldl (fun v (d, i, j) => v ||| s.rd d e i j <<< d.lo) 0
      ||| (if s.txHeld (8 * e + f) then 1 <<< 9 else 0) ||| (if s.rxHeldOpen (8 * e + f) then 1 <<< 10 else 0))
  else if pg = 0x40 ∧ off = 0x300 then
    some (s.rd FWD_SHADOW_CTRL_enable ||| (if s.shadowOn then 2 else 0) ||| s.rd FWD_SHADOW_CTRL_pass_count <<< 32)
  else if pg = 0x40 ∧ 0x8000 ≤ off then
    let sl := (off - 0x8000) / 8
    some (s.rd FWD_SLICE_EPOCH_cur_epoch 0 sl ||| s.rd FWD_SLICE_EPOCH_draining 0 sl <<< 1 ||| s.rd FWD_SLICE_EPOCH_flip_rejected 0 sl <<< 2
      ||| (if s.flag FWD_SLICE_EPOCH_draining 0 sl then (s.fwd.drainEnd.getD 0 sl - s.cyc + 1999) / 2000 else 0) <<< 32)
  else if 0x80 ≤ pg ∧ off = 0x110 then
    let c := s.core (pg - 0x80)
    some (c.aq.length ||| c.lines.length <<< 8 ||| c.sq.length <<< 16 ||| c.eq.length <<< 24)
  else none

/-- Words of the MSI-X table and pending bits (R433). -/
def State.msixRead (s : State) (off : Nat) : Nat :=
  if off < 0xC000 then s.msixWord ((off - 0x4000) / 16) ((off - 0x4000) / 8 % 2)
  else ofBits ((List.range 64).filter fun i => s.pba.contains ((off - 0xC000) / 8 * 64 + i))

/-- What a register reads, without the effect of reading it; a write-only field reads 0. -/
def State.regValue (s : State) (pg off : Nat) : Nat :=
  match s.derived pg off with
  | some v => v
  | none =>
    if pg = 0 ∧ 0x4000 ≤ off ∧ off < 0xC100 then s.msixRead off else
    (fieldsAt pg off).foldl (fun v (d, i, j) => if d.acc = .wo then v else v ||| s.rd d (pageInst pg off) i j <<< d.lo) 0

/-- The read clears its RC fields in the bytes it reaches (R11, R431); the lowest free count starts again at the present one. -/
def State.rcClear (s : State) (pg off : Nat) (z : WSize) : State :=
  (fieldsAt pg off).foldl (fun s (d, i, j) =>
    if d.acc ≠ .rc ∨ (z.mask >>> d.lo) % 2 ^ d.w = 0 then s
    else if d = BPM_POOL_low_water then s.wr d (s.rd BPM_POOL_free 0 i) 0 i
    else s.wr d 0 (pageInst pg off) i j) s

/-- A served read of a register: its 64 bits, and the state after. -/
def State.regRead (s : State) (pg off : Nat) (z : WSize) : Nat × State :=
  if pg = 4 ∧ off = 0x110 then s.readNow
  else if pg = 4 ∧ (off = 0x308 ∨ off = 0x328) then s.readTcap ((off - 0x308) / 0x20) z
  else if pg = 6 ∧ off = 0x140 then (s.dtm.module % 2 ^ 64, s.wr DTM_MODULE_HI_datum_hi (s.dtm.module / 2 ^ 64))
  else (s.regValue pg off, s.rcClear pg off z)

/-- A BAR0 read as a descriptor makes it (R441): none where R430 refuses it. -/
def State.busRead (s : State) (pg off : Nat) : Option Nat × State :=
  match s.accessCause pg off with
  | some c => (none, s.refuseAccess pg off false c)
  | none => let r := (s.event pg 4).regRead pg off .w8; (some r.1, r.2)

/-- RC_READ (R11): a host read of a register at an 8-byte offset of a BAR0 page. -/
def execRcRead (pg off : Nat) (z : WSize) (s : State) : Host.Outcome State Fault Refusal :=
  let off := off % 65536 / 8 * 8
  hostRead s (pg % 256) off fun s => let r := s.regRead (pg % 256) off z; r.2.emit (.readData (WSize.part z r.1))

/-- A register of a BAR2 ring page (R436). -/
def State.ringValue (s : State) (q off : Nat) : Nat :=
  regsRQ0.foldl (fun v d => if d.base = off ∧ d.acc ≠ .wo then v ||| s.rd d q <<< d.lo else v) 0

/-- The part of a 64-bit register that a read of 4 or 8 bytes at an offset reaches (R431). -/
def readSize (off size : Nat) : WSize := if size = 8 then .w8 else if off % 8 = 4 then .hi4 else .lo4

/-- What a served read of a BAR's page returns, and the state after: a register of BAR0, of a ring page, or of the page an alias shows; other alias offsets read 0 (R427). -/
def State.barRead (s : State) (bar pg off : Nat) (z : WSize) : Nat × State :=
  if bar = 0 then (s.event pg 4).regRead pg off z
  else if bar = 2 then (s.ringValue pg (off % 4096), s.event 0 4)
  else (if off < 0xC0 then s.regValue pg off else 0, s)

/-- A host read of `size` bytes at an offset of a page of BAR 0, 2 or 4: refused with Completer Abort (R430), or served (R427, R431, R436). -/
def State.hostLoad (s : State) (bar pg off size : Nat) : State :=
  match s.readCause bar pg off size with
  | some c => s.refuseRead pg off c
  | none =>
    let z := readSize off size
    let r := s.barRead bar pg (off / 8 * 8) z
    r.2.emit (.readData (WSize.part z r.1))

/-- REFUSED_READ (R430): BAR 0, 2 or 4, the page within it, offset and size; a read that is not refused is served. -/
def execRefusedRead (bar pg off size : Nat) (s : State) : Host.Outcome State Fault Refusal :=
  hostAct s (s.hostLoad bar (pg % 65536) (off % 65536) size)

/-! Writes. -/

/-- A written field by its access code: RW stored, or staged with its group (R370); W1C cleared; the others ignored (R11). -/
def State.plainField (s : State) (n : Nat) (w : Wr) (x : RegD × Nat × Nat) : State :=
  let (d, i, j) := x
  match d.acc with
  | .rw =>
    if d.grp = 0 then s.put d w n i j
    else if w.hits d.lo d.w then s.stage d (w.merge d.lo d.w (s.rdStg d n i)) n i else s
  | .w1c => s.w1c d w n i j
  | _ => s

/-- A write of a register without an effect of its own. -/
def State.plainWrite (s : State) (pg off : Nat) (w : Wr) : State :=
  (fieldsAt pg off).foldl (fun s x => s.plainField (pageInst pg off) w x) s

/-- The value of a register of one word of the module datum (R377). -/
def State.coverReg (s t : State) (idx : Nat) (ds : List RegD) : State :=
  t.coverMod 0x08 idx (wordOf (fun d => s.rd d) ds) (wordOf (fun d => t.rd d) ds)

/-- The class settings of R377: their index and fields. -/
def classSetting (pg off : Nat) : Option (Nat × List RegD) :=
  if pg = 0x40 ∧ off = 0x110 then some (0, [FWD_SPRAY_MODE_mode])
  else if pg = 0x40 ∧ off = 0x118 then some (1, [FWD_HASH_CFG_use_ctx, FWD_HASH_CFG_salt])
  else if pg = 9 ∧ off = 0x108 then some (2, [XBR_ORDER_strict])
  else if pg = 11 ∧ off = 0x100 then some (3, [QSH_ALPHA_k])
  else if pg = 11 ∧ off = 0x108 then some (4, [QSH_LOSSLESS_lossless])
  else if pg = 11 ∧ off = 0x110 then some (5, [QSH_CLASS_GROUP_group])
  else none

/-- A plain write, added to the module datum where it covers the register. -/
def State.coveredWrite (s : State) (pg off : Nat) (w : Wr) : State :=
  let t := s.plainWrite pg off w
  match classSetting pg off with
  | some (i, ds) => s.coverReg t i ds
  | none => t

/-- Every class's k lies within −6 to +3 (R158). -/
def alphaOk (v : Nat) : Bool := (List.range 8).all fun t => fld v (4 * t) 4 ≤ 3 || 10 ≤ fld v (4 * t) 4

/-- A write of QSH_ALPHA: refused as a whole with a k out of range (R158). -/
def State.alphaWrite (s : State) (w : Wr) : State := if alphaOk (w.merge 0 32 (s.rd QSH_ALPHA_k)) then s.coveredWrite 11 0x100 w else s

/-- A write of a register of a page's header (R428, R434, R469, R471, R487, R488). -/
def State.headWrite (s : State) (pg off : Nat) (w : Wr) : State :=
  if off = 8 then s.clkenWrite pg w
  else if off = 0x18 then s.irqWrite pg false w
  else if off = 0x20 then s.irqWrite pg true w
  else if off = 0x28 then s.pwrWrite pg w
  else if off = 0x98 then s.cntCtrlWrite pg w
  else if off = 0x88 ∨ off = 0x90 then (s.holdSel pg).plainWrite pg off w
  else s.plainWrite pg off w

/-- A write of the MSI-X table; a vector unmasked with its pending bit set is sent (R433, R434). -/
def State.msixWrite (s : State) (off : Nat) (w : Wr) : State :=
  if 0xC000 ≤ off then s else
  let v := (off - 0x4000) / 16
  let k := (off - 0x4000) / 8 % 2
  let x := w.merge 0 64 (s.msixWord v k)
  let s : State := { s with msix := s.msix.set (if k = 0 then 0 else 1 <<< 32) (2 * v + k) x }
  if s.pba.contains v && !bit (s.msixWord v 1) 32 then ({ s with pba := s.pba.filter (· ≠ v) } : State).sendVec v else s

/-- HIF. -/
def State.hifWrite (s : State) (off : Nat) (w : Wr) : State :=
  if 0x4000 ≤ off ∧ off < 0xC100 then s.msixWrite off w
  else if 0x200 ≤ off ∧ off < 0x280 ∧ off % 0x20 = 0x18 then s.dmaCtrl ((off - 0x200) / 0x20) w
  else s.plainWrite 0 off w

/-- TIM. -/
def State.timWrite (s : State) (off : Nat) (w : Wr) : State :=
  if off = 0x100 then s.timCtrl w
  else if off = 0x130 then
    (match w.ones 0 2 with
     | 1 => s.clkSet
     | 2 => s.stepClock (s.rdI TIM_STEP_ADJ_adj * 2 ^ 32)
     | _ => s)
  else if off = 0x140 then s.timRate w
  else if 0x200 ≤ off ∧ off < 0x220 then s.tpoCfg ((off - 0x200) / 8) w
  else if 0x400 ≤ off ∧ off < 0x600 then s.timPort ((off - 0x400) / 8) w
  else s.plainWrite 4 off w

/-- CRN. -/
def State.crnWrite (s : State) (off : Nat) (w : Wr) : State :=
  if off = 0x100 then s.crnCtrlWrite w
  else if 0x1000 ≤ off ∧ off < 0x1800 then
    let n := (off - 0x1000) / 0x40
    let r := (off - 0x1000) % 0x40 / 8
    if r < 5 then s.crnUnitWrite n r w
    else if r = 5 then s.crnCtrlUnit n (w.ones 0 1 = 1) (w.ones 1 1 = 1) (w.merge 2 1 (s.rd CRN_U_CTRL_irq_en 0 n) = 1)
    else s
  else s.plainWrite 5 off w

/-- DTM. `par` names groups whose staged words fail parity. -/
def State.dtmWr (s : State) (off : Nat) (w : Wr) (par : Nat) : State :=
  if off = 0x120 then (if w.hits 0 4 then s.dtmCmd (w.ones 0 4) par else s)
  else if off = 0x300 then (if w.hits 0 4 then s.dtmTcmd (w.ones 0 4) (w.ones 4 4) else s)
  else s.plainWrite 6 off w

/-- CLK and PWR; a change of the idle settings chooses depths anew (R473). -/
def State.clkPwrWrite (s : State) (pg off : Nat) (w : Wr) : State :=
  if pg = 2 then
    (if off = 0x100 then s.clkCtrl w else if off = 0x128 then s.clkCmd w else if off = 0x130 then s.clkObs w else s.plainWrite 2 off w)
  else if off = 0x138 then (if w.hits 0 4 then s.pwrCmd (w.ones 0 4) else s)
  else if 0x1000 ≤ off ∧ off < 0x1200 then s.pwrFibreWrite ((off - 0x1000) / 8) w
  else (s.plainWrite 3 off w).reDepth

/-- SRG. -/
def State.srgWr (s : State) (off : Nat) (w : Wr) : State :=
  if off = 0x200 then (if w.hits 0 4 then s.srgTcmd (w.ones 0 4) (w.ones 4 4) else s)
  else if off = 0x608 then s.fenceCmd w
  else if off = 0x628 then
    (match w.ones 0 4 with
     | 1 => s.kLoad
     | 2 => s.kUnload
     | 3 => s.kInfo
     | _ => s)
  else s.plainWrite 12 off w

/-- LDG. -/
def State.ldgWr (s : State) (off : Nat) (w : Wr) : State :=
  let n := (off - 0x1000) / 0x200
  let r := (off - 0x1000) % 0x200
  if off = 0x100 then (if w.hits 0 4 then s.ldgCmd (w.ones 0 4) (w.ones 8 4) else s)
  else if 16 ≤ n then s
  else if 0x1000 ≤ off ∧ r = 0 then s.ldgCfg n w
  else if 0x1000 ≤ off ∧ (r = 8 ∨ r = 0x10 ∨ r = 0x18) then s.ldgRegWrite n (r / 8) w
  else if 0x1000 ≤ off ∧ r = 0x30 then s.ldgRegWrite n 4 w
  else s.plainWrite 14 off w

/-- Engine `e`; `env` holds the powers a BASELINE measures. -/
def State.opxWrite (s : State) (e off : Nat) (w : Wr) (env : Env) : State :=
  if off = 0x128 then
    (match w.ones 0 4 with
     | 1 => s.baseline e env.nums env.ok
     | 2 => s.sweepRing e
     | _ => if w.hits 0 4 then s.opxDone e 3 else s)
  else if off = 0x158 then s.chgCmd e (w.ones 0 2)
  else if off = 0x170 then (if w.hits 0 9 then s.monCmd e (w.ones 0 9) (w.ones 10 2) else s)
  else if 0x200 ≤ off ∧ off < 0x228 then s.combOff e ((off - 0x200) / 8) w
  else s.plainWrite (0x30 + e) off w

/-- MEM00's command register (R408). -/
def State.memCmd (s : State) (op : Nat) : State :=
  match op with
  | 1 => s.rewrite
  | 2 => s.zero
  | _ => s.memDone 3

/-- Blocks with one command register each. -/
def State.blockWrite (s : State) (pg off : Nat) (w : Wr) (env : Env) : State :=
  if pg = 1 ∧ off = 0x130 then (if w.hits 0 4 then s.secCmd (w.ones 0 4) env.bytes else s)
  else if pg = 7 ∧ off = 0x100 then s.trvCtrl w
  else if pg = 7 ∧ off = 0x118 then (if w.hits 0 2 then s.trvCmd (w.ones 0 2) (w.ones 8 6) else s)
  else if pg = 8 ∧ off = 0x110 then s.bypCmd (w.ones 0 2)
  else if pg = 11 ∧ off = 0x100 then s.alphaWrite w
  else if pg = 11 ∧ off = 0x200 then (if w.hits 0 4 then s.qshTcmd (w.ones 0 4) (w.ones 4 4) (w.ones 8 1) else s)
  else if pg = 15 ∧ off = 0x108 then s.pmcCmd w
  else if pg = 16 ∧ (off = 0x100 ∨ off = 0x108) then s.telWrite off w
  else if pg = 0x20 ∧ off = 0x458 then (if w.hits 0 4 then s.memCmd (w.ones 0 4) else s)
  else if 0x38 ≤ pg ∧ pg ≤ 0x3F ∧ off = 0x120 then s.laneCmd (pg - 0x38) (w.ones 0 7) (w.ones 8 2)
  else if 0x40 ≤ pg ∧ pg ≤ 0x4F ∧ off = 0x120 then s.seedWrite (pg - 0x40) w
  else if 0x40 ≤ pg ∧ pg ≤ 0x4F ∧ off = 0x200 then
    (if w.hits 0 4 then s.fwdTcmd (pg - 0x40) (w.ones 0 4) (w.ones 4 4) (w.ones 8 1) (w.ones 9 1 = 1 && pg = 0x40) else s)
  else if 0x80 ≤ pg ∧ off = 0x100 then s.sriCtrl (pg - 0x80) w
  else s.coveredWrite pg off w

/-- A served write of a register, with its effect. -/
def State.regWrite (s : State) (pg off : Nat) (w : Wr) (env : Env) : State :=
  if off < 0xC0 then s.headWrite pg off w
  else if pg = 0 then s.hifWrite off w
  else if pg = 2 ∨ pg = 3 then s.clkPwrWrite pg off w
  else if pg = 4 then s.timWrite off w
  else if pg = 5 then s.crnWrite off w
  else if pg = 6 then s.dtmWr off w (env.nums.headD 0)
  else if pg = 12 then s.srgWr off w
  else if pg = 14 then s.ldgWr off w
  else if 0x30 ≤ pg ∧ pg ≤ 0x37 then s.opxWrite (pg - 0x30) off w env
  else s.blockWrite pg off w env

/-- A BAR0 write as a descriptor makes it (R441): whether it was served. -/
def State.busWrite (s : State) (pg off : Nat) (w : Wr) (env : Env) : Bool × State :=
  match s.accessCause pg off with
  | some c => (false, s.refuseAccess pg off true c)
  | none => (true, s.writeServed pg off fun s => s.regWrite pg off w env)

/-- The 64-bit image of a write of 4 or 8 bytes at an offset (R431). -/
def wrAt (off size v : Nat) : Wr :=
  if size = 8 then { v := v } else if off % 8 = 4 then { v := (v % 2 ^ 32) <<< 32, sz := .hi4 } else { v := v % 2 ^ 32, sz := .lo4 }

/-- A host write of `size` bytes at an offset of a page of BAR 0, 2 or 4: refused, ignored by BAR4, or carried out (R427, R430, R431). -/
def State.hostStore (s : State) (bar pg off size v : Nat) (env : Env) : State :=
  match s.writeCause bar pg off size with
  | some c => s.refuseAccess pg off true c
  | none =>
    let w := wrAt off size v
    if bar = 0 then (s.busWrite pg (off / 8 * 8) w env).2
    else if bar = 2 then s.ringWrite pg (off % 4096 / 8 * 8) w
    else s

/-- REGISTER_WRITE (R11): a host write to a page of BAR 0, 2 or 4. `env` is what the register's effect meets, if it has one. -/
def execRegisterWrite (bar pg off size v : Nat) (env : Env) (s : State) : Host.Outcome State Fault Refusal :=
  hostAct s (s.hostStore bar (pg % 65536) (off % 65536) size v env)

end Sys2Proof.Machine
end

