-- ==== Sys2Proof/Machine/HifCmd.lean ====
section
/-! DEFINITION. Command descriptors: fetched, taken by priority, run and completed, from the rings and from in-band messages (R435 to R443, R455). -/

namespace Sys2Proof.Machine

/-! Descriptors (R440). -/

/-- A little-endian field of a descriptor. -/
def rawAt (raw : List Byte) (o n : Nat) : Nat := leNat ((raw.drop o).take n)

/-- The descriptor its 128 bytes hold (R440). -/
def descOf (raw : List Byte) : Desc :=
  let w := rawAt raw 0 4
  { opcode := fld w 0 8, page := fld w 8 8, nWr := fld w 16 4, nRd := fld w 20 4, irq := bit w 24, fence := bit w 25,
    statOff := rawAt raw 4 2, rdOff := rawAt raw 6 2, wrOffs := (List.range 8).map fun i => rawAt raw (8 + 2 * i) 2,
    tkey := rawAt raw 8 8, tcmd := rawAt raw 0x10 8, words := (List.range 12).map fun i => rawAt raw (0x20 + 8 * i) 8 }

end Sys2Proof.Machine

namespace Sys2Proof

/-- The register writes a descriptor makes, in order (R441). -/
def Desc.writes (d : Desc) : List (Nat × Nat) :=
  if d.opcode = 4 then
    [(d.statOff + 0x10, d.tkey)] ++ (List.range d.nWr).map (fun i => (d.statOff + 0x20 + 8 * i, d.words.getD i 0)) ++ [(d.statOff, d.tcmd)]
  else if d.opcode = 1 ∨ d.opcode = 3 then (List.range d.nWr).map fun i => (d.wrOffs.getD i 0, d.words.getD i 0)
  else []

/-- The registers a descriptor reads back (R441). -/
def Desc.reads (d : Desc) : List Nat :=
  if d.opcode = 4 then (List.range d.nRd).map fun i => d.statOff + 0x20 + 8 * i
  else if d.opcode = 2 ∨ d.opcode = 3 then (List.range d.nRd).map fun i => d.rdOff + 8 * i
  else []

/-- The register a descriptor polls (R441): the low half of word 0x04 is stat_off of EXEC and the base of TABLE. -/
def Desc.poll (d : Desc) : Nat := if d.opcode = 4 then d.statOff + 8 else d.statOff

/-- BAD_DESC (R441, R442): a reserved opcode, a count too large, an offset that is not a multiple of 8. -/
def Desc.bad (d : Desc) : Bool :=
  4 < d.opcode
    || (d.opcode ≠ 0 && ((if d.opcode = 4 then 12 else 8) < d.nWr || 12 < d.nRd))
    || d.writes.any (fun x => x.1 % 8 ≠ 0) || d.reads.any (· % 8 ≠ 0) || (d.opcode = 3 && d.statOff % 8 ≠ 0)

/-- A descriptor sets DTM_CMD.op to a command that another class of ring runs (R439). -/
def Desc.wrongRing (d : Desc) (q : Nat) : Bool :=
  d.page = 6 && d.writes.any fun x => x.1 = 0x120 &&
    (match x.2 % 16 with
     | 1 | 2 | 3 => q ≠ 0 && q ≠ 32
     | 4 => q ≠ 1 && q ≠ 33
     | _ => false)

end Sys2Proof

namespace Sys2Proof.Machine

/-- An in-band descriptor names a page it may not reach (R455). -/
def State.ibDenied (s : State) (q : Nat) (d : Desc) : Bool :=
  32 ≤ q && (d.page < 2 || !bit (s.rd SEC_IB_PAGEMASK_pages 0 (d.page / 64)) (d.page % 64))

/-! The command processor (R437 to R439). -/

/-- Priority of a command ring (R435). -/
def State.ringPrio (s : State) (q : Nat) : Nat :=
  if q = 0 ∨ q = 32 then 8 else if q = 1 ∨ q = 33 then 0
  else max 1 (if q = 34 then s.rd HIF_CMD_CFG_ib_prio else s.rd HIF_RQ_CFG_prio q)

/-- Every command taken has completed. -/
def State.ringsIdle (s : State) : Bool := s.hif.rings.all fun x => x.2.run.isNone

/-- A ring has a descriptor that may be taken: the one before it has completed, and for a fence all taken on any ring (R437, R438). -/
def State.ringReady (s : State) (q : Nat) : Bool :=
  let r := s.ring_ q
  r.run.isNone && !r.reset && (32 ≤ q || s.ringOn q) &&
    (match r.desc with
     | e :: _ => !(descOf e.raw).fence || s.ringsIdle
     | [] => false)

/-- The command rings in the order in which equal priorities are served: CMQ0 before IBQ0, CMQ1 before IBQ1, the others in turn after the one served last (R438). -/
def ringOrder (last : Nat) : List Nat :=
  let l := (List.range 14).map (· + 2) ++ [34]
  [0, 32] ++ l.filter (last < ·) ++ l.filter (· ≤ last) ++ [1, 33]

/-- The ring served next. -/
def State.nextRing (s : State) : Option Nat :=
  ((ringOrder s.hif.last).filter s.ringReady).foldl (fun b q =>
    match b with
    | some p => if s.ringPrio p < s.ringPrio q then some q else b
    | none => some q) none

/-- Take the first descriptor of a ring. What is refused unread or unrun completes at once: POISON, BAD_DESC, IB_DENIED, WRONG_RING (R439, R442, R455). -/
def State.takeOne (s : State) (q : Nat) (lost : List Nat) : State :=
  let r := s.ring_ q
  match r.desc with
  | [] => s
  | e :: t =>
    let i := if q < 32 then s.rd HIF_RQ_HEAD_head q else 0
    let s := s.setHring q { r with desc := t, run := some e, idx := i, wrote := false, since := s.cyc, polled := 0 }
    let s := if q < 32 then s.wr HIF_RQ_HEAD_head (s.slotNext q i) q else s
    let s : State := if q = 34 ∨ (2 ≤ q ∧ q < 16) then { s with hif := { s.hif with last := q } } else s
    let d := descOf e.raw
    if e.poison then s.ringDone q 5 0 [] lost
    else if d.bad then s.ringDone q 1 0 [] lost
    else if s.ibDenied q d then (s.cnt SEC_IB_DENY_count).ringDone q 7 0 [] lost
    else if d.wrongRing q then s.ringDone q 2 0 [] lost
    else s

/-- The command processor serves the rings: at most one descriptor is taken in a core cycle (R438). -/
def State.ringServe (s : State) (lost : List Nat) : State :=
  if s.hif.tookAt = some s.cyc then s else
  match s.nextRing with
  | some q => ({ s with hif := { s.hif with tookAt := some s.cyc } } : State).takeOne q lost
  | none => s

/-- The slot fetched next on a BAR2 ring, if one is posted. -/
def State.fetchSlot (s : State) (q : Nat) : Option Nat :=
  let n := s.ringSize q
  let h := s.rd HIF_RQ_HEAD_head q
  let k := (s.ring_ q).desc.length
  if k < (s.rd HIF_RQ_TAIL_tail q + n - h % n) % n then some ((h + k) % n) else none

/-- DESCRIPTOR_FETCH (R437): the next posted descriptor of CMQ `q`, as host memory holds it; `poison` when it was fetched poisoned, `fail` when the fetch failed at the link, `lost` names rings whose completion write fails. -/
def execDescriptorFetch (q : Nat) (raw : List Byte) (poison fail : Bool) (lost : List Nat) (s : State) : Host.Outcome State Fault Refusal :=
  let q := q % 16
  act s (if !s.ringOn q then s else
    match s.fetchSlot q with
    | none => s
    | some i =>
      if fail then s.ringStop q i else
      let r := s.ring_ q
      (s.setHring q { r with desc := r.desc ++ [{ raw := (raw ++ List.replicate 128 0).take 128, poison := poison }] }).ringServe lost)

/-! Running (R441, R442). -/

/-- The writes of a descriptor, up to the first that R430 refuses. -/
def State.descWrites (s : State) (pg : Nat) (env : Env) : List (Nat × Nat) → Bool × State
  | [] => (true, s)
  | (o, v) :: t =>
    let r := s.busWrite pg o { v := v } env
    if r.1 then r.2.descWrites pg env t else (false, r.2)

/-- The reads of a descriptor, up to the first that R430 refuses. -/
def State.descReads (s : State) (pg : Nat) : List Nat → Bool × List Nat × State
  | [] => (true, [], s)
  | o :: t =>
    let r := s.busRead pg o
    match r.1 with
    | none => (false, [], r.2)
    | some v => let u := r.2.descReads pg t; (u.1, v :: u.2.1, u.2.2)

/-- The descriptor in progress reads back and completes. -/
def State.descFinish (s : State) (q : Nat) (d : Desc) (poll : Nat) (lost : List Nat) : State :=
  let r := s.descReads d.page d.reads
  r.2.2.ringDone q (if r.1 then 0 else 3) poll r.2.1 lost

/-- One poll of the descriptor in progress: it finishes once bit 0 reads 0. -/
def State.descPoll (s : State) (q : Nat) (d : Desc) (lost : List Nat) : State :=
  let r := s.busRead d.page d.poll
  match r.1 with
  | none => r.2.ringDone q 3 0 [] lost
  | some v =>
    if bit v 0 then r.2.setHring q { r.2.ring_ q with polled := v } else r.2.descFinish q d v lost

/-- The descriptor in progress on ring `q` runs, if its opcode is `op`: its writes once, then, where it polls, one poll each time. -/
def State.descRun (s : State) (q op : Nat) (env : Env) (lost : List Nat) : State :=
  let r := s.ring_ q
  match r.run with
  | none => s
  | some e =>
    let d := descOf e.raw
    if d.opcode ≠ op ∨ (q < 16 ∧ !s.busMaster) then s
    else if r.wrote then (s.descPoll q d lost).ringServe lost
    else
      let w := s.descWrites d.page env d.writes
      let s := w.2
      if !w.1 then (s.ringDone q 3 0 [] lost).ringServe lost
      else if op = 3 ∨ op = 4 then ((s.setHring q { s.ring_ q with wrote := true }).descPoll q d lost).ringServe lost
      else (s.descFinish q d 0 lost).ringServe lost

/-- A number of a command ring: CMQ0 to CMQ15, or 32 to 34. -/
def ringNo (q : Nat) : Nat := if 32 ≤ q then 32 + q % 3 else q % 16

/-- A command of the processor: the registers it reaches are unspecified while the dividers break R464. -/
def ringAct (s t : State) : Host.Outcome State Fault Refusal :=
  if s.alive then (if s.busOk then .next t else .fault .busUnspecified) else .next s

/-- DESC_NOP (R441). -/
def execDescNop (q : Nat) (lost : List Nat) (s : State) : Host.Outcome State Fault Refusal :=
  ringAct s (s.descRun (ringNo q) 0 {} lost)

/-- DESC_WRITE (R441); `env` is what the writes' effects meet. -/
def execDescWrite (q : Nat) (env : Env) (lost : List Nat) (s : State) : Host.Outcome State Fault Refusal :=
  ringAct s (s.descRun (ringNo q) 1 env lost)

/-- DESC_READ (R441). -/
def execDescRead (q : Nat) (lost : List Nat) (s : State) : Host.Outcome State Fault Refusal :=
  ringAct s (s.descRun (ringNo q) 2 {} lost)

/-- EXEC (R441): the writes and the first poll, then one poll each time it is given again. -/
def execCmdExec (q : Nat) (env : Env) (lost : List Nat) (s : State) : Host.Outcome State Fault Refusal :=
  ringAct s (s.descRun (ringNo q) 3 env lost)

/-- TABLE (R441): as EXEC, on a table command block. -/
def execTable (q : Nat) (env : Env) (lost : List Nat) (s : State) : Host.Outcome State Fault Refusal :=
  ringAct s (s.descRun (ringNo q) 4 env lost)

/-- POLL_TIMEOUT (R442): poll_ms after the descriptor was taken. -/
def execPollTimeout (q : Nat) (lost : List Nat) (s : State) : Host.Outcome State Fault Refusal :=
  let q := ringNo q
  let r := s.ring_ q
  act s (if r.run.isSome && r.wrote && r.since + msCyc (max 1 (s.rd HIF_CMD_CFG_poll_ms)) ≤ s.cyc && (32 ≤ q || s.busMaster)
    then (s.ringDone q 4 r.polled [] lost).ringServe lost else s)

/-! In-band commands (R455). -/

/-- A whole MGMT_CMD of an established session: its descriptors join the ring it names; without any it is answered at once. A body of another shape is discarded. -/
def State.mgmtCmd (s : State) (p : Pkt) (pipe : Nat) (x : Sess) (b : List Byte) (lost : List Nat) : State :=
  let ring := leNat (b.take 1)
  let n := (b.length - 16) / 128
  if !x.confirmed || b.length < 16 || b.length ≠ 16 + 128 * n || 31 < n || 2 < ring || leNat ((b.drop 1).take 15) ≠ 0 then s
  else if n = 0 then s.sendMgmt pipe p.src p.slice x.id 0x11 []
  else
    let m : IbMsg := { no := s.hif.nextMsg, sess := x.id, dst := p.src, slice := p.slice, pipe := pipe, todo := n }
    let s : State := { s with hif := { s.hif with msgs := s.hif.msgs ++ [m], nextMsg := m.no + 1 } }
    let r := s.ring_ (32 + ring)
    let es : List RingEnt := (List.range n).map fun i => { raw := (b.drop (16 + 128 * i)).take 128, msg := some m.no }
    (s.setHring (32 + ring) { r with desc := r.desc ++ es }).ringServe lost

/-- MGMT_CMD (R455). -/
def execMgmtCmd (lost : List Nat) (s : State) : Host.Outcome State Fault Refusal :=
  act s (s.mgmtTake 0x10 fun p pipe x b s =>
    match x with
    | some x => s.mgmtCmd p pipe x b lost
    | none => s)

end Sys2Proof.Machine
end

