-- ==== Sys2Proof/Machine/Phy.lean ====
section
/-! DEFINITION. What the lanes send: one codeword in every codeword slot, with the frames, control codewords, link management frames, data blocks and fill of R325 to R330, R340 and R341. -/

namespace Sys2Proof.Machine

/-- The codeword slot of a core cycle: slots of 170/7 ns, 340/7 core cycles, counted from the cycle the clocks start, alike on all fibres (R325, R326, log entry 84). -/
def slotOf (cyc : Nat) : Nat := cyc * 7 / 340

/-- The place in its frame of 20 of what a line sends in a slot: 0 for its control codeword, which line l sends at index l (R326). -/
def framePlace (slot line : Nat) : Nat := (slot + 20 - line % 20) % 20

/-- Lanes of a port that can take a data block in a slot: they may send, stand at no control codeword and have room in their retry bank (R326, R334). -/
def State.blockLanes (s : State) (lp slot : Nat) : List Nat :=
  (s.portSend lp).filter fun l => framePlace slot (s.rdLane LNK_LANE_line l) ≠ 0 && decide ((s.tx lp).bank l < 102)

/-- bref of a lane's control codeword (R328): the number its next data block has where every lane of the port takes one in each data slot (DEDUCED, log entry 84). -/
def State.brefOf (s : State) (lp l slot : Nat) : Nat :=
  (s.tx lp).block + ((s.blockLanes lp slot).filter fun m => l < m).length + ((s.blockLanes lp (slot + 1)).filter fun m => m < l).length

/-- The first packet that begins at or after byte `n` of what has still to go; `q` where none does (R328). -/
def firstFrom : List HeldPkt → Nat → Nat → Nat → Nat
  | [], _, _, q => q
  | h :: t, at_, n, q => if n ≤ at_ then h.seq else firstFrom t (at_ + wireLen h.fl.pkt.length) n q

/-- sref of a control codeword (R328): the retry sequence of the first packet that begins in block `bref` or later. -/
def PortTx.srefOf (x : PortTx) (bref : Nat) : Nat :=
  let n := (bref - x.block) * 640
  match x.todo with
  | [] => x.seq
  | h :: t => if x.off = 0 then firstFrom (h :: t) 0 n x.seq else firstFrom t (wireLen h.fl.pkt.length - x.off) n x.seq

/-- The bytes of a waiting LMF as it departs on a fibre, with the next lmf_seq (R87, R90). -/
def State.departLmf (s : State) (f : Nat) (m : Lmf) : List Byte × State :=
  let b := if 0x10 ≤ m.typ && m.typ ≤ 0x14 then s.ptpBody f m.typ m.body else (lmfBody m.typ m.body, s)
  let x := b.2.fib f
  (lmfFrame m.typ f x.lmfSeq b.1, b.2.setFib f { x with lmfSeq := (x.lmfSeq + 1) % 2 ^ 32 })

/-- Up to four waiting LMFs of a fibre leave in a control codeword (R330). -/
def State.takeLmfs (s : State) (f : Nat) : List (List Byte) × State :=
  let w := (s.fib f).wait
  (w.take 4).foldl (fun a m => let r := a.2.departLmf f m; (a.1 ++ [r.1], r.2)) ([], s.setFib f { s.fib f with wait := w.drop 4 })

/-- The control codeword of a lane in a slot: LMFs only in READY and SERVICE (R324, R328, R330). -/
def State.controlTx (s : State) (l slot : Nat) : Nat × State :=
  let f := l / 16
  let x := s.laneX l
  let r := if s.laneCarries l then s.takeLmfs f else ([], s)
  let up := s.lanePort l |>.filter fun p => (s.tx p).up
  let b := match up with | some p => s.brefOf p l slot | none => 0
  let q := match up with | some p => (s.tx p).srefOf b | none => 0
  let w : CtrlWord := { frame := x.frame, line := s.rdLane LNK_LANE_line l, lane := l % 16, fibre := f, state := s.lane l, bref := b % 2 ^ 32,
                        sref := q, port := (s.lanePort l).getD 0, portValid := (s.lanePort l).isSome, slots := r.1 }
  (message 0 127 0 (CtrlWord.block w), r.2)

/-- The next data block of the lane's port, where the lane can take one in this slot and one is ready; fill else (R329, R334, R340). -/
def State.dataTx (s : State) (l slot : Nat) : Nat × State :=
  match s.lanePort l with
  | none => (fillMessage, s)
  | some p =>
    if (s.blockLanes p slot).contains l then
      match (s.tx p).cut l with
      | some (m, x) => (m, s.setTx p x)
      | none => (fillMessage, s)
    else (fillMessage, s)

/-- Codewords sent are counted: data by event 0x10, fill by 0x11 (R490). -/
def State.cwEvent (s : State) (l : Nat) (control : Bool) (m : Nat) : State :=
  if control then s else s.event (0x38 + l / 128) (if m = fillMessage then 0x11 else 0x10)

/-- A lane sends the codeword of a slot (R325, R326): its control codeword, data, or fill, which also stands in every slot of a transmit hold window while frame numbers go on (R341). The scrambling stream runs from the last marker sent; from the frame's start where none was sent lately (log entry 80). -/
def State.laneTx (s : State) (slot l : Nat) : State :=
  let line := s.rdLane LNK_LANE_line l
  let i := framePlace slot line
  let held := s.laneHeld l
  let x := s.laneX l
  let k := match x.markSlot with | some m => if slot < m + 60 then slot - m else i | none => i
  let r := if held then (fillMessage, s) else if i = 0 then s.controlTx l slot else s.dataTx l slot
  let place := if i = 0 && !held then 0 else k
  let y := r.2.laneX l
  let s := if i = 0 then r.2.setLaneX l { y with frame := (y.frame + 1) % 65536, markSlot := if held then y.markSlot else some slot } else r.2
  (s.cwEvent l (i = 0 && !held) r.1).emit (.codeword l line ((codeword place r.1).flatMap pam4))

/-- The lanes send their codewords as a new slot begins. -/
def State.slotTx (s : State) : State :=
  let k := slotOf s.cyc
  if slotOf (s.cyc - 1) = k then s else (allLanes.filter s.laneSends).foldl (fun s l => s.laneTx k l) s

end Sys2Proof.Machine
end

