-- ==== Sys2Proof/Machine/Start.lean ====
section
/-! DEFINITION. Start-up, and what ends the module's run: PERST_N, the reference, the trip, the supply (R233, R416, R447, R448, R457, R467, R468, R480, R482 to R484, R503). -/

namespace Sys2Proof.Machine

/-! The end of a run. -/

/-- What boot flash and the replay-protected region hold (R447, R457). -/
def SecSt.kept (x : SecSt) : SecSt :=
  { slots := x.slots, boot := x.boot, fwMin := x.fwMin, kernelMin := x.kernelMin, anchors := x.anchors }

/-- Every state but boot flash is lost (R28, R484); the pins and what has left the module stay. -/
def State.lose (s : State) (pins : PinSt) : State :=
  { pending := s.pending, free := s.free, out := s.out, alive := false, pins := { pins with ready := false },
    secu := s.secu.kept, opt := { base := s.opt.base } }

/-- PERST_N asserted (R484). -/
def State.perstLow (s : State) : State := if s.pins.pwrGood then s.lose { s.pins with perst := true } else { s with pins := { s.pins with perst := true } }

/-- PERST_ASSERT (R484). -/
def execPerstAssert (s : State) : Host.Outcome State Fault Refusal := .next s.perstLow

/-- REFERENCE_LOSS (R468): READY falls, ALERT_N is asserted, light and clocks stop. -/
def execReferenceLoss (s : State) : Host.Outcome State Fault Refusal :=
  act s (s.lose { s.pins with refLost := true })

/-- THERMAL_TRIP (R480): the comparators need no firmware and no register. -/
def execThermalTrip (s : State) : Host.Outcome State Fault Refusal :=
  .next (if s.pins.pwrGood then s.lose { s.pins with trip := true } else s)

/-- SUPPLY_STOP (R503): PWR_GOOD and READY fall. -/
def execSupplyStop (s : State) : Host.Outcome State Fault Refusal :=
  .next (if s.pins.pwrGood then s.lose { s.pins with pwrGood := false, vinOut := false } else s)

/-- SOFT_START (R503): VIN36 has risen through 31.5 V and the rails regulate; THERM_TRIP_N ended with VIN36 (R480). -/
def execSoftStart (s : State) : Host.Outcome State Fault Refusal :=
  .next (if s.pins.pwrGood then s else { s with pins := { s.pins with pwrGood := true, trip := false } })

/-! Start-up. -/

/-- A page's ready flag. -/
def State.pageReady (s : State) (pg : Nat) : State := s.wr PAGE_STATUS_ready 1 pg

/-- Pages brought up: clocked, and ready unless named in `bad`. -/
def State.bringUp (s : State) (pgs bad : List Nat) : State :=
  pgs.foldl (fun s pg => let s := s.wr PAGE_CLKEN_en 1 pg; if bad.contains pg then s else s.pageReady pg) s

/-- PWR_START shows the step begun and the time since t0 in milliseconds (R486). -/
def State.startStep (s : State) (n : Nat) (x : StartUpIn) : State :=
  (s.wr PWR_START_step n).wr PWR_START_elapsed_ms ((40000 * 2 ^ (x.lockdly % 8) + x.elapsed) / 2000000)

/-- The pages READY waits for (R483). -/
def readyPages : List Nat := (List.range 0x80).filter pageAssigned

/-- The sequence stops (R483): the first page not ready, and a cause whose code is not stated (log entry 1). -/
def State.startFail (s : State) : State :=
  let f := s.takeFree 17
  let pg := (readyPages.find? fun pg => !f.2.flag PAGE_STATUS_ready pg).getD 0
  ((f.2.wr PWR_START_failed 1).wr PWR_START_fail_page pg).wr PWR_START_fail_code (1 + f.1 % 255)

/-- Pages whose block a failing checker serves (R416): GDDR7 controllers, the pools, tally, Serai, the tables. -/
def checkerPages (m : Nat) : List Nat :=
  (bitsOf 12 m).map (0x20 + ·) ++ (if bit m 12 || bit m 13 then [10] else []) ++ (if bit m 14 then [13] else [])
    ++ (if bit m 15 then [12] else []) ++ (if bit m 16 then [6, 7, 8, 11] ++ (List.range 16).map (0x40 + ·) else [])

/-- Step 4: the checkers (R416). -/
def State.selfTest (s : State) (m : Nat) : State :=
  let s := ((((((s.wr MEM_SELFTEST_ctrl m).wr MEM_SELFTEST_pbuf (fld m 12 1)).wr MEM_SELFTEST_stage (fld m 13 1)).wr MEM_SELFTEST_tally (fld m 14 1)).wr
    MEM_SELFTEST_serai (fld m 15 1)).wr MEM_SELFTEST_parity (fld m 16 1))
  if m % 2 ^ 17 = 0 then s else s.irq 0x20 3

/-- The replay-protected region as the boot ROM takes it (R457); what a rejected one leaves is not stated (log entry 1). -/
def State.region (s : State) (ok : Bool) : (Nat × Nat × Nat × List Nat) × State :=
  if ok then ((s.secu.boot, s.secu.fwMin, s.secu.kernelMin, s.secu.anchors), s) else
  let a := s.takeFree 18
  let b := a.2.takeFree 19
  let c := b.2.takeFree 26
  let l := (List.range 16).foldl (fun (l, (s : State)) _ => let f := s.takeFree 27; (l ++ [f.1 % 2 ^ 64], f.2)) ([], c.2)
  ((a.1 % 2, b.1 % 2 ^ 32, c.1 % 2 ^ 32, l.1), l.2)

/-- Step 6, the boot ROM (R448): the slot the region names, else the other. -/
def State.boot (s : State) (x : StartUpIn) : State :=
  let read := fun i => if !x.flashOk then { code := 5 } else (s.secu.slots.getD i none).getD (x.slots.getD i { code := 1 })
  let slots := [read 0, read 1]
  let s : State := if x.flashOk then { s with secu := { s.secu with slots := slots.map some } } else s
  let r := s.region x.regionOk
  let (b, fwMin, kernelMin, anchors) := r.1
  let s := r.2.showRegion fwMin kernelMin anchors
  let at_ := fun i => slots.getD i { code := 1 }
  let ok := fun i => fwRefuse fwMin (at_ i) = 0
  let run := fun (s : State) i =>
    let f := at_ i
    let s := (((s.wr SEC_BOOT_STATUS_slot i).wr SEC_BOOT_STATUS_booted 1).wr SEC_BOOT_STATUS_code (if x.regionOk then 0 else 4)).wr SEC_BOOT_STATUS_security_ver f.secVer
    let s : State := { s with secu := { s.secu with kernelKey := f.kernelKey } }
    (words8 f.digest).zipIdx.foldl (fun s (v, w) => s.wr SEC_FW_DIGEST_digest v 0 w) s
  if ok b then run s b
  else if ok (1 - b) then run s (1 - b)
  else (({ s with noFirmware := true } : State).wr SEC_BOOT_STATUS_slot b).wr SEC_BOOT_STATUS_code (fwRefuse fwMin (at_ b))

/-- A pipeline's seed (R99, R123). -/
def State.seed (s : State) (n : Nat) : State :=
  let v := leNat ((shake256 (leBytes 8 (s.rd TRV_SERIAL_serial) ++ leBytes 1 n) 64).take 8)
  s.seedWrite n { v := if v = 0 then 1 else v }

/-- Baselines read back (R311): those a BASELINE command wrote, else those of production if it wrote any. -/
def State.baselines (s : State) (prod : Bool) : State :=
  (List.range 8).foldl (fun (s : State) e =>
    if (s.opt.base.get? (e * 85)).isSome then s
    else if prod then { s with opt := { s.opt with base := (List.range 85).foldl (fun m i => m.put (e * 85 + i) (Config.flash 28 (e * 85 + i) % 2 ^ 40)) s.opt.base } }
    else s.wr OPX_STATUS_no_baseline 1 e) s

/-- Step 6, the firmware: identity, seeds, cairn units, pools, baselines; the blocks but for memory, optics, links and Serai come up; the crossbar's page and Serai's are not ready before steps 10 and 9 have loaded them (R13). -/
def State.firmware (s : State) (x : StartUpIn) : State :=
  let s := s.wr TRV_SERIAL_serial (Config.flash 0 0 % 2 ^ 64)
  let s := (List.range 16).foldl State.seed s
  let s := (List.range 32).foldl (fun (s : State) n => s.wr CRN_U_CTRL_owner (if s.isFw n then 1 else 0) 0 n) s
  let s := [1048576, 16384, s.partBufs 2, s.partBufs 1].zipIdx.foldl (fun (s : State) (v, p) => (s.wr BPM_POOL_free v 0 p).wr BPM_POOL_low_water v 0 p) s
  let s := (((s.wrI PWR_TJ_tj_max x.tj).wr PWR_TJ_sensor x.tjSensor).vinSample (x.vin.getD 0 0) (x.vin.getD 1 0) (x.vin.getD 2 0) (x.vin.getD 3 0)).pageReady 3
  let s := s.pageReady 5
  let s := (s.baselines x.flashBaseline).bringUp ((List.range 11).map (· + 6) ++ (List.range 16).map (0x40 + ·)) (checkerPages x.checkerFail ++ [9, 12])
  { s with dtm := { s.dtm with module := s.moduleAfresh, sums := [] } }

/-- Step 7: the devices train (R482); a device that fails shows a nonzero code. -/
def State.trainMem (s : State) (x : StartUpIn) : State :=
  let s := (List.range 12).foldl (fun (s : State) n =>
    if x.memFail.contains n then (s.wr MEM_STATUS_trained 0 n).wr MEM_STATUS_train_code (1 + x.trainCode.getD n 0 % 255) n
    else (s.wr MEM_STATUS_trained 1 n).wr MEM_STATUS_train_code 0 n) s
  s.bringUp ((List.range 12).map (0x20 + ·)) (x.memFail.map (0x20 + ·) ++ checkerPages x.checkerFail)

/-- Step 8: the combs and lanes of one engine; CS4 serves the first pair whose comb failed, if it is fit (R483). -/
def State.opticsUp (s : State) (x : StartUpIn) (e : Nat) : State :=
  let bad := fun c => x.combFail.contains (e * 5 + c)
  let t := fun i => x.temps.getD (4 * e + i) 0 % 65536
  let s := (((s.wr OPX_TEMP_t0 (t 0) e).wr OPX_TEMP_t1 (t 1) e).wr OPX_TEMP_t2 (t 2) e).wr OPX_TEMP_t3 (t 3) e
  let s := ((List.range 5).foldl (fun (s : State) c => s.wr OPX_COMB_lock (if bad c then 0 else 1) e c) s).refit e
  let s := (List.range 8).foldl (fun (s : State) j => s.wr OPX_FIBRE_comb (j / 2) e j) s
  let s := match (List.range 4).find? bad with
    | some c => if s.flag OPX_COMB_fit e 4 then ((s.wr OPX_FIBRE_comb 4 e (2 * c)).wr OPX_FIBRE_comb 4 e (2 * c + 1)) else s
    | none => s
  let s := (List.range 128).foldl (fun (s : State) i =>
    let l := e * 128 + i
    let s := s.wrLane LNK_LANE_line (i % 16) l
    if x.laneFail.contains l then
      let s := s.setRing e (modRing (l / 16) (i % 16)) { s.ring e (modRing (l / 16) (i % 16)) with lock := 2 }
      ((s.setLaneX l { s.laneX l with rings := false }).setLane l laneFAILED).lnkIrq (l / 16) 1
    else s.toTrain l) s
  s.wr OPX_STATUS_cal_done 1 e

/-- Step 9: self-test and remap of the Serai cores (R233). A failing core's code is not stated (log entry 1). -/
def State.seraiUp (s : State) (x : StartUpIn) : State :=
  let s := (List.range 68).foldl (fun (s : State) p =>
    let s := s.wr PAGE_CLKEN_en 1 (0x80 + p)
    if x.coreFail.contains p then
      let f := s.takeFree 29
      (f.2.wr SRI_STATE_state 5 p).wr SRI_STATE_bist_code (1 + f.1 % 255) p
    else s.wr SRI_STATE_state 2 p) s
  let good := fun p => !x.coreFail.contains p
  let own := (List.range 64).filter good
  let s := own.foldl (fun s l => s.mapCore l l) s
  let gaps := (List.range 64).filter fun l => !good l
  let s := (gaps.zip ((List.range 4).map (64 + ·) |>.filter good)).foldl (fun s x => s.mapCore x.1 x.2) s
  let s := ((List.range 68).filter good).foldl (fun (s : State) p => s.pageReady (0x80 + p)) s.showSpares
  let s := if (checkerPages x.checkerFail).contains 12 then s else s.pageReady 12
  if s.unmapped.isEmpty then s else s.irq 12 9

/-- Step 10: the planes tested, every page clocked; READY once every page but Serai's is ready (R469, R483). -/
def State.startEnd (s : State) (x : StartUpIn) : State :=
  let s := (s.wr XBR_PLANE_STATUS_plane_ok x.planeOk).pageReady 9
  let s := ((List.range 256).filter pageAssigned).foldl (fun (s : State) pg => s.wr PAGE_CLKEN_en 1 pg) s
  if readyPages.all fun pg => s.flag PAGE_STATUS_ready pg then
    let s := (s.wr PWR_START_ready 1).irq 3 4
    { s with pins := { s.pins with ready := true } }
  else s.startFail

/-- Steps 7 to 10. -/
def State.startRest (s : State) (x : StartUpIn) : State :=
  let s := (s.startStep 7 x).trainMem x
  if !x.memFail.isEmpty then s.startFail else
  let s := (List.range 8).foldl (fun s e => s.opticsUp x e) (s.startStep 8 x)
  let s := s.bringUp ((List.range 16).map (0x30 + ·)) (checkerPages x.checkerFail)
  let s := (s.startStep 9 x).seraiUp x
  (s.startStep 10 x).startEnd x

/-- The sequence of R482 from the release of PERST_N on. -/
def State.startUp (s : State) (x : StartUpIn) : State :=
  let s : State := { s with alive := true, pins := { s.pins with perst := false, refLost := !x.refOk } }
  if !x.refOk then { s with alive := false } else
  let s := ((s.wr CLK_STRAP_lockdly x.lockdly).wr CLK_STATUS_ref_ok 1).pageReady 0
  let s := s.startStep 3 x
  if !x.pllOk then s.startFail else
  let s := ((s.wr CLK_STATUS_core_lock 1).wr CLK_STATUS_mem_lock 1).wr CLK_STATUS_opt_lock 1
  let s : State := { s with clkOn := true, cyc := x.elapsed, fclk := x.elapsed * s.clkStep % clkWrap }
  let s := ([2, 4].foldl State.pageReady s).selfTest x.checkerFail
  let s := ((s.startStep 6 x).boot x).pageReady 1
  if s.noFirmware then s.startFail else
  (s.firmware x).startRest x

/-- PERST_N can be released with effect: power good, not tripped; it was asserted, or the module stands as after reset. -/
def State.canStart (s : State) : Bool :=
  s.pins.pwrGood && !s.pins.trip && (s.pins.perst || (s.alive && !s.clkOn && s.rd PWR_START_step = 0))

/-- START_UP (R482). -/
def execStartUp (x : StartUpIn) (s : State) : Host.Outcome State Fault Refusal := .next (if s.canStart then s.startUp x else s)

end Sys2Proof.Machine
end

