-- ==== Sys2Proof/Machine/Recv.lean ====
section
/-! DEFINITION. Control codewords received, and the link management frames in them, passed on in lmf_seq order (R87, R88, R328, R330). -/

namespace Sys2Proof.Machine

/-- The types of R89. -/
def lmfKnown (t : Nat) : Bool := [0x01, 0x02, 0x03, 0x10, 0x11, 0x12, 0x13, 0x14, 0x20, 0x30, 0x31, 0x32, 0x33, 0x40, 0x41, 0x48].contains t

/-- An instant in a notice's body from field `i` on: seconds, then nanoseconds above the half (R89). -/
def noticeAt (b : List Nat) (i : Nat) : Nat := clkOf (b.getD i 0 % 2 ^ 48) (b.getD (i + 1) 0 / 2 % 2 ^ 30) (b.getD (i + 1) 0 % 2)

/-- The consumer of an LMF takes it (R89): the fields of its body in the order of R89, or the IEEE 1588 message it carries (R90), of which those of another domain than 0 are ignored (log entry 81). -/
def State.lmfPass (s : State) (f typ : Nat) (b : List Byte) : State :=
  let l := lmfFields typ b
  let g := fun i => l.getD i 0
  let ptp := fun (t : State) => if ptpDomain b = 0 then t else s
  match typ with
  | 0x01 => if g 0 < 2 ^ 24 then s.probeRx f (g 1) else s
  | 0x02 => s.identRx f { serial := g 0, fibre := g 1, major := g 2, minor := g 3, endpoint := g 4, datum := g 5 }
  | 0x10 => ptp (s.syncRx f (((beNat ((b.drop 34).take 6)) * 10 ^ 9 + beNat ((b.drop 40).take 4)) * 65536 : Nat) (ptpCorr b))
  | 0x11 => s.followUpRx f
  | 0x12 => ptp (s.pdelayReqRx f (ptpSeq b) (ptpSource b))
  | 0x13 => ptp (if beNat ((b.drop 44).take 10) = s.portIdentity f then s.pdelayRespRx f (ptpSeq b) (ptpCorr b) else s)
  | 0x14 => ptp (s.announceRx f (beNat ((b.drop 53).take 8)) (beNat ((b.drop 48).take 1)))
  | 0x20 => s.beaconRx f { serial := g 0, time := g 1 % 2 ^ 48, epoch := g 2, datum := g 3, slice := g 4 % 4096, sdatum := g 5 }
  | 0x30 => s.windowRx f (g 0) (noticeAt l 6) (lanesOf f) none (g 2 = g 3)
  | 0x31 => s.windowRx f (g 0) (noticeAt l 3) [f * 16 + g 2 % 16] (some (g 2 % 16)) (16 ≤ g 2)
  | 0x32 => s.bypNoticeRx f (g 0) (noticeAt l 3) (g 2 % 2 = 1)
  | 0x33 => if 16 ≤ g 0 % 32 then s else s.laneNoticeRx (f * 16 + g 0 % 32) (g 1 % 2)
  | 0x40 => s.portLmf f (g 0 % 1024) fun s => s.ackTx (g 0 % 1024) (g 1)
  | 0x41 => s.portLmf f (g 0 % 1024) fun s => s.reqTx (g 0 % 1024) (g 1)
  | 0x48 => s.portLmf f (g 0 % 1024) fun s => s.creditRx (g 0 % 1024) (l.drop 1)
  | _ => s

/-- Checks 2 and 3 of R88, then the consumer. -/
def State.lmfTake (s : State) (f : Nat) (m : LmfSlot) : State :=
  if m.lver ≠ 1 then s.cnt LNK_LMF_BAD_count (f / 8)
  else if !lmfKnown m.typ then s.cnt LNK_LMF_UNKNOWN_count (f / 8)
  else s.lmfPass f m.typ m.body

/-- Pass on the held LMFs that follow without a gap. -/
def State.lmfDrain (s : State) (f : Nat) : Nat → State
  | 0 => s
  | n + 1 =>
    let x := s.fib f
    match x.rxHeld with
    | (m, c) :: t =>
      if x.rxExp = some m.seq then
        let s := s.setFib f { x with rxHeld := t, rxExp := some ((m.seq + 1) % 2 ^ 32) }
        (s.lmfTake f m).lmfDrain f n
      else let _ := c; s
    | [] => s

/-- Put a held LMF in its place in sequence order. -/
def heldInsert (m : LmfSlot) (c : Nat) : List (LmfSlot × Nat) → List (LmfSlot × Nat)
  | [] => [(m, c)]
  | x :: t => if seqLe x.1.seq m.seq then x :: heldInsert m c t else (m, c) :: x :: t

/-- An LMF that passed check 1 takes its place in the sequence (R330): a later one waits for the missing one; one that comes after its place has been passed is passed on at once (log entry 60). -/
def State.lmfRx (s : State) (f : Nat) (m : LmfSlot) : State :=
  let x := s.fib f
  match x.rxExp with
  | some e =>
    if e = m.seq then ((s.setFib f { x with rxExp := some ((m.seq + 1) % 2 ^ 32) }).lmfTake f m).lmfDrain f 256
    else if seqLe e m.seq then s.setFib f { x with rxHeld := heldInsert m s.cyc x.rxHeld }
    else s.lmfTake f m
  | none => ((s.setFib f { x with rxExp := some ((m.seq + 1) % 2 ^ 32) }).lmfTake f m).lmfDrain f 256

/-- A received LMF slot (R88, R330): empty where all its bytes are zero, discarded and counted where lmf_crc fails. -/
def State.slotRx (s : State) (f : Nat) (b : List Byte) : State :=
  if b.all (· = 0) then s else
  match LmfSlot.ofFrame b with
  | none => s.cnt LNK_LMF_BAD_count (f / 8)
  | some m => s.lmfRx f m

/-- A received control codeword on a lane that is READY or in SERVICE here: the sender's frames in a row at READY or SERVICE (R335), its port number (R331), its LMFs. -/
def State.ctrlWord (s : State) (l : Nat) (w : CtrlWord) : State :=
  if !s.laneCarries l then s else
  let f := l / 16
  let x := s.laneX l
  let counts : Bool := s.lane l = laneREADY && s.trv f = 2 && (w.state = laneREADY || w.state = laneSERVICE)
  let row : Bool := match x.lastFrame with | some p => decide (w.frame = (p + 1) % 65536) | none => false
  let x := { x with frames := if !counts then 0 else if row then x.frames + 1 else 1, lastFrame := some w.frame,
                    farPort := if w.portValid then some w.port else x.farPort, markAt := s.cyc }
  w.slots.foldl (fun s b => s.slotRx f b) (s.setLaneX l x)

/-- CONTROL_CODEWORD (R328): the 544 symbols a lane received at a frame's first place. An uncorrectable codeword carries nothing; neither does one without the frame marker (R326, R348). -/
def State.controlRx (s : State) (l : Nat) (sym : List Nat) : State :=
  let w := decodeWord 0 sym
  let s := s.fecCount l w
  match w with
  | none => s
  | some (m, _) =>
    match CtrlWord.ofBlock (msgBlock m) with
    | some c => if msgKind m = 0 then s.ctrlWord l c else s
    | none => s

/-- CONTROL_CODEWORD (R328): its message symbols and its check symbols. -/
def execControlCodeword (lane : Nat) (msg chk : List Nat) (s : State) : Host.Outcome State Fault Refusal :=
  act s (s.controlRx (lane % 1024) (msg ++ chk))

/-- The LMFs held 100 ns for a missing one are passed on (R330). -/
def State.lmfLate (s : State) (f : Nat) : State :=
  let x := s.fib f
  match x.rxHeld with
  | (m, c) :: _ => if s.cyc < c + nsCyc 100 then s else (s.setFib f { x with rxExp := some m.seq }).lmfDrain f 256
  | [] => s

/-- LMF_REORDER_TIMEOUT (R330). -/
def execLmfReorderTimeout (f : Nat) (s : State) : Host.Outcome State Fault Refusal := act s (s.lmfLate (f % 64))

end Sys2Proof.Machine
end

