-- ==== Sys2Proof/Machine/Dispatch.lean ====
section
/-! DEFINITION. The dispatcher: one arm per command, each a direct call of its meaning. -/

namespace Sys2Proof.Machine

/-- The effect of a command on everything but the queue of waiting commands. -/
def exec (i : Instr) (s : State) : Host.Outcome State Fault Refusal :=
  match i with
  | .readTimNowNs z => Sys2Proof.Machine.execReadTimNowNs z s
  | .ptpSync f t1 corr => Sys2Proof.Machine.execPtpSync f t1 corr s
  | .ptpFollowUp f => Sys2Proof.Machine.execPtpFollowUp f s
  | .ptpPdelayReq f m => Sys2Proof.Machine.execPtpPdelayReq f m s
  | .ptpPdelayResp f m => Sys2Proof.Machine.execPtpPdelayResp f m s
  | .ptpAnnounce f gm clockClass => Sys2Proof.Machine.execPtpAnnounce f gm clockClass s
  | .syncTransmit f => Sys2Proof.Machine.execSyncTransmit f s
  | .pdelayTransmit f => Sys2Proof.Machine.execPdelayTransmit f s
  | .announceTransmit f => Sys2Proof.Machine.execAnnounceTransmit f s
  | .pdelayTimeout f => Sys2Proof.Machine.execPdelayTimeout f s
  | .syncLoss => Sys2Proof.Machine.execSyncLoss s
  | .cmdSet => Sys2Proof.Machine.execCmdSet s
  | .cmdStep => Sys2Proof.Machine.execCmdStep s
  | .timPortWrite p w => Sys2Proof.Machine.execTimPortWrite p w s
  | .timCtrlWrite w => Sys2Proof.Machine.execTimCtrlWrite w s
  | .timRateWrite w => Sys2Proof.Machine.execTimRateWrite w s
  | .timTpoCfgWrite n w => Sys2Proof.Machine.execTimTpoCfgWrite n w s
  | .tpoWidthEnd n => Sys2Proof.Machine.execTpoWidthEnd n s
  | .tcapEdge m rising => Sys2Proof.Machine.execTcapEdge m rising s
  | .tcapHoldoffEnd m => Sys2Proof.Machine.execTcapHoldoffEnd m s
  | .timTcapNsRead m z => Sys2Proof.Machine.execTimTcapNsRead m z s
  | .rcRead pg off z => Sys2Proof.Machine.execRcRead pg off z s
  | .arm n irqEn alsoCancel => Sys2Proof.Machine.execArm n irqEn alsoCancel s
  | .armEffect n => Sys2Proof.Machine.execArmEffect n s
  | .cancel n irqEn => Sys2Proof.Machine.execCancel n irqEn s
  | .crnUnitRegisterWrite n which w => Sys2Proof.Machine.execCrnUnitRegisterWrite n which w s
  | .crnCtrlWrite w => Sys2Proof.Machine.execCrnCtrlWrite w s
  | .cairnFire n => Sys2Proof.Machine.execCairnFire n s
  | .fwUnitRetry => Sys2Proof.Machine.execFwUnitRetry s
  | .event u => Sys2Proof.Machine.execEvent u s
  | .tpoEdge u => Sys2Proof.Machine.execTpoEdge u s
  | .cfgCommit u par => Sys2Proof.Machine.execCfgCommit u par s
  | .tableFlip u => Sys2Proof.Machine.execTableFlip u s
  | .sliceCommit u => Sys2Proof.Machine.execSliceCommit u s
  | .tgateSwap u => Sys2Proof.Machine.execTgateSwap u s
  | .bypassSet u => Sys2Proof.Machine.execBypassSet u s
  | .combChange u => Sys2Proof.Machine.execCombChange u s
  | .lineMigrate u => Sys2Proof.Machine.execLineMigrate u s
  | .phaseStart u => Sys2Proof.Machine.execPhaseStart u s
  | .ledgerFlip u => Sys2Proof.Machine.execLedgerFlip u s
  | .powerState u => Sys2Proof.Machine.execPowerState u s
  | .snapshot u => Sys2Proof.Machine.execSnapshot u s
  | .fwNotice u => Sys2Proof.Machine.execFwNotice u s
  | .ingressPacket lp r => Sys2Proof.Machine.execIngressPacket lp r s
  | .fenceRelease => Sys2Proof.Machine.execFenceRelease s
  | .crossbarCellTime lost ue bad => Sys2Proof.Machine.execCrossbarCellTime lost ue bad s
  | .packetReassembled inp out => Sys2Proof.Machine.execPacketReassembled inp out s
  | .reseqTimeout inp out => Sys2Proof.Machine.execReseqTimeout inp out s
  | .planeFault plane => Sys2Proof.Machine.execPlaneFault plane s
  | .egressDequeue lp ue => Sys2Proof.Machine.execEgressDequeue lp ue s
  | .shaperTick => Sys2Proof.Machine.execShaperTick s
  | .gateEntryChange lp => Sys2Proof.Machine.execGateEntryChange lp s
  | .loadRefresh => Sys2Proof.Machine.execLoadRefresh s
  | .spillReadback q => Sys2Proof.Machine.execSpillReadback q s
  | .drainExpiry sl => Sys2Proof.Machine.execDrainExpiry sl s
  | .ageTick n => Sys2Proof.Machine.execAgeTick n s
  | .fwdSeedWrite n w => Sys2Proof.Machine.execFwdSeedWrite n w s
  | .fwdRead n table bank => Sys2Proof.Machine.execFwdRead n table bank s
  | .fwdWrite n table bank => Sys2Proof.Machine.execFwdWrite n table bank s
  | .search n table => Sys2Proof.Machine.execSearch n table s
  | .cmdNext n table => Sys2Proof.Machine.execCmdNext n table s
  | .flushByPort n table all => Sys2Proof.Machine.execFlushByPort n table all s
  | .flushBySlice n table all => Sys2Proof.Machine.execFlushBySlice n table all s
  | .insert n table all => Sys2Proof.Machine.execInsert n table all s
  | .delete n table all => Sys2Proof.Machine.execDelete n table all s
  | .repair n table bank => Sys2Proof.Machine.execRepair n table bank s
  | .shadowComparePass => Sys2Proof.Machine.execShadowComparePass s
  | .qshRead table bank => Sys2Proof.Machine.execQshRead table bank s
  | .qshWrite table bank => Sys2Proof.Machine.execQshWrite table bank s
  | .contributionArrival l => Sys2Proof.Machine.execContributionArrival l s
  | .straggleDeadline ctx chunk => Sys2Proof.Machine.execStraggleDeadline ctx chunk s
  | .chunkTimeout ctx chunk => Sys2Proof.Machine.execChunkTimeout ctx chunk s
  | .retainExpiry ctx chunk => Sys2Proof.Machine.execRetainExpiry ctx chunk s
  | .resultPieceSend core ue => Sys2Proof.Machine.execResultPieceSend core ue s
  | .resultNak l => Sys2Proof.Machine.execResultNak l s
  | .srgRead table => Sys2Proof.Machine.execSrgRead table s
  | .srgWrite table => Sys2Proof.Machine.execSrgWrite table s
  | .chunkSearch table => Sys2Proof.Machine.execChunkSearch table s
  | .start table => Sys2Proof.Machine.execStart table s
  | .abort table => Sys2Proof.Machine.execAbort table s
  | .release table => Sys2Proof.Machine.execRelease table s
  | .clear table => Sys2Proof.Machine.execClear table s
  | .load => Sys2Proof.Machine.execLoad s
  | .unload => Sys2Proof.Machine.execUnload s
  | .info => Sys2Proof.Machine.execInfo s
  | .onArrive core => Sys2Proof.Machine.execOnArrive core s
  | .onComplete core => Sys2Proof.Machine.execOnComplete core s
  | .onNorm core => Sys2Proof.Machine.execOnNorm core s
  | .onEmit core => Sys2Proof.Machine.execOnEmit core s
  | .nop core => Sys2Proof.Machine.execNop core s
  | .cmdEnd core => Sys2Proof.Machine.execCmdEnd core s
  | .bar core => Sys2Proof.Machine.execBar core s
  | .br core => Sys2Proof.Machine.execBr core s
  | .brk core => Sys2Proof.Machine.execBrk core s
  | .ldc core => Sys2Proof.Machine.execLdc core s
  | .acx core ue ce => Sys2Proof.Machine.execAcx core ue ce s
  | .acxk core => Sys2Proof.Machine.execAcxk core s
  | .acxp core => Sys2Proof.Machine.execAcxp core s
  | .kclr core => Sys2Proof.Machine.execKclr core s
  | .kadd core => Sys2Proof.Machine.execKadd core s
  | .rdx core ue ce => Sys2Proof.Machine.execRdx core ue ce s
  | .rdxk core => Sys2Proof.Machine.execRdxk core s
  | .cvt core => Sys2Proof.Machine.execCvt core s
  | .fadd core => Sys2Proof.Machine.execFadd core s
  | .fmul core => Sys2Proof.Machine.execFmul core s
  | .fma core => Sys2Proof.Machine.execFma core s
  | .fmin core => Sys2Proof.Machine.execFmin core s
  | .fmax core => Sys2Proof.Machine.execFmax core s
  | .div core => Sys2Proof.Machine.execDiv core s
  | .sqrt core => Sys2Proof.Machine.execSqrt core s
  | .rsq core => Sys2Proof.Machine.execRsq core s
  | .iadd core => Sys2Proof.Machine.execIadd core s
  | .isub core => Sys2Proof.Machine.execIsub core s
  | .imul core => Sys2Proof.Machine.execImul core s
  | .ilog core => Sys2Proof.Machine.execIlog core s
  | .ish core => Sys2Proof.Machine.execIsh core s
  | .imovi core => Sys2Proof.Machine.execImovi core s
  | .lane core => Sys2Proof.Machine.execLane core s
  | .sel core => Sys2Proof.Machine.execSel core s
  | .icmp core => Sys2Proof.Machine.execIcmp core s
  | .fcmp core => Sys2Proof.Machine.execFcmp core s
  | .kop core => Sys2Proof.Machine.execKop core s
  | .xadd core => Sys2Proof.Machine.execXadd core s
  | .xsub core => Sys2Proof.Machine.execXsub core s
  | .xmul core => Sys2Proof.Machine.execXmul core s
  | .xlog core => Sys2Proof.Machine.execXlog core s
  | .xsh core => Sys2Proof.Machine.execXsh core s
  | .xmovi core => Sys2Proof.Machine.execXmovi core s
  | .xget core => Sys2Proof.Machine.execXget core s
  | .xput core => Sys2Proof.Machine.execXput core s
  | .xsts core => Sys2Proof.Machine.execXsts core s
  | .ldl core => Sys2Proof.Machine.execLdl core s
  | .stl core => Sys2Proof.Machine.execStl core s
  | .nrms core => Sys2Proof.Machine.execNrms core s
  | .nrmw core => Sys2Proof.Machine.execNrmw core s
  | .emit core ue ce => Sys2Proof.Machine.execEmit core ue ce s
  | .emitSpeculative core ue ce => Sys2Proof.Machine.execEmitSpeculative core ue ce s
  | .emitRelease core => Sys2Proof.Machine.execEmitRelease core s
  | .emitFree core => Sys2Proof.Machine.execEmitFree core s
  | .ledgerLineFetched core => Sys2Proof.Machine.execLedgerLineFetched core s
  | .watchdog core => Sys2Proof.Machine.execWatchdog core s
  | .hang core => Sys2Proof.Machine.execHang core s
  | .coreEccError core ue => Sys2Proof.Machine.execCoreEccError core ue s
  | .fenceCmd w => Sys2Proof.Machine.execFenceCmd w s
  | .corePortReopen l => Sys2Proof.Machine.execCorePortReopen l s
  | .bist core w => Sys2Proof.Machine.execBist core w s
  | .bistDone core code => Sys2Proof.Machine.execBistDone core code s
  | .ldgCfgWrite n w => Sys2Proof.Machine.execLdgCfgWrite n w s
  | .normPartialArrival l => Sys2Proof.Machine.execNormPartialArrival l s
  | .normRetry => Sys2Proof.Machine.execNormRetry s
  | .normPartialRequest l => Sys2Proof.Machine.execNormPartialRequest l s
  | .normAbortNak l => Sys2Proof.Machine.execNormAbortNak l s
  | .normTimeout => Sys2Proof.Machine.execNormTimeout s
  | .flip n => Sys2Proof.Machine.execFlip n s
  | .revert n => Sys2Proof.Machine.execRevert n s
  | .abandon n => Sys2Proof.Machine.execAbandon n s
  | .copyFwd n => Sys2Proof.Machine.execCopyFwd n s
  | .setState n => Sys2Proof.Machine.execSetState n s
  | .loadParam n => Sys2Proof.Machine.execLoadParam n s
  | .broadcastArrival => Sys2Proof.Machine.execBroadcastArrival s
  | .broadcastAck lp r => Sys2Proof.Machine.execBroadcastAck lp r s
  | .childTimeout => Sys2Proof.Machine.execChildTimeout s
  | .bcHoldExpiry => Sys2Proof.Machine.execBcHoldExpiry s
  | .heaterUpdate e temps dither bad => Sys2Proof.Machine.execHeaterUpdate e temps dither bad s
  | .ringLockLoss e ring out => Sys2Proof.Machine.execRingLockLoss e ring out s
  | .ringRelocked e ring offset order up down => Sys2Proof.Machine.execRingRelocked e ring offset order up down s
  | .recalSweep e ring => Sys2Proof.Machine.execRecalSweep e ring s
  | .combLockLoss e comb => Sys2Proof.Machine.execCombLockLoss e comb s
  | .combRelockTimeout e comb => Sys2Proof.Machine.execCombRelockTimeout e comb s
  | .fadeEvaluation e powers => Sys2Proof.Machine.execFadeEvaluation e powers s
  | .baseline e powers flashOk => Sys2Proof.Machine.execBaseline e powers flashOk s
  | .sweepRing e => Sys2Proof.Machine.execSweepRing e s
  | .monCmd e tap int => Sys2Proof.Machine.execMonCmd e tap int s
  | .monDone e power => Sys2Proof.Machine.execMonDone e power s
  | .announce e => Sys2Proof.Machine.execAnnounce e s
  | .changeWithdraw e => Sys2Proof.Machine.execChangeWithdraw e s
  | .noticeResend f => Sys2Proof.Machine.execNoticeResend f s
  | .holdEnd e => Sys2Proof.Machine.execHoldEnd e s
  | .combOffWrite e comb w => Sys2Proof.Machine.execCombOffWrite e comb w s
  | .changeoverNotice f id fromComb toComb sec nsHalf => Sys2Proof.Machine.execChangeoverNotice f id fromComb toComb sec nsHalf s
  | .lineNotice f id line sec nsHalf => Sys2Proof.Machine.execLineNotice f id line sec nsHalf s
  | .rxHoldOpen f => Sys2Proof.Machine.execRxHoldOpen f s
  | .rxMigrateSwitch f => Sys2Proof.Machine.execRxMigrateSwitch f s
  | .rxHoldClose f => Sys2Proof.Machine.execRxHoldClose f s
  | .disable e lane => Sys2Proof.Machine.execDisable e lane s
  | .retrain e lane => Sys2Proof.Machine.execRetrain e lane s
  | .laneReady r => Sys2Proof.Machine.execLaneReady r s
  | .laneServiceEntry lane => Sys2Proof.Machine.execLaneServiceEntry lane s
  | .laneLeaveService lanes cause => Sys2Proof.Machine.execLaneLeaveService lanes cause s
  | .laneNotice f line state => Sys2Proof.Machine.execLaneNotice f line state s
  | .controlCodeword lane msg chk => Sys2Proof.Machine.execControlCodeword lane msg chk s
  | .lmfReorderTimeout f => Sys2Proof.Machine.execLmfReorderTimeout f s
  | .retryAck f lp q => Sys2Proof.Machine.execRetryAck f lp q s
  | .retryReq f lp q => Sys2Proof.Machine.execRetryReq f lp q s
  | .retryAckTimer lp => Sys2Proof.Machine.execRetryAckTimer lp s
  | .retryTimeout lp => Sys2Proof.Machine.execRetryTimeout lp s
  | .retryReqTimeout lp => Sys2Proof.Machine.execRetryReqTimeout lp s
  | .credit f lp counts => Sys2Proof.Machine.execCredit f lp counts s
  | .creditTimer lp grants => Sys2Proof.Machine.execCreditTimer lp grants s
  | .probeTimer f => Sys2Proof.Machine.execProbeTimer f s
  | .trvProbe f endpoint number => Sys2Proof.Machine.execTrvProbe f endpoint number s
  | .trvIdent f ident => Sys2Proof.Machine.execTrvIdent f ident s
  | .trvState f st echo => Sys2Proof.Machine.execTrvState f st echo s
  | .absentTimeout f => Sys2Proof.Machine.execAbsentTimeout f s
  | .acceptCross f => Sys2Proof.Machine.execAcceptCross f s
  | .reeval f => Sys2Proof.Machine.execReeval f s
  | .trvCtrlWrite w => Sys2Proof.Machine.execTrvCtrlWrite w s
  | .prepare => Sys2Proof.Machine.execPrepare s
  | .bypassWithdraw => Sys2Proof.Machine.execBypassWithdraw s
  | .preparationLapse => Sys2Proof.Machine.execPreparationLapse s
  | .bypassNotice f id set sec nsHalf => Sys2Proof.Machine.execBypassNotice f id set sec nsHalf s
  | .bypassFarEndCut f => Sys2Proof.Machine.execBypassFarEndCut f s
  | .inputPowerSample powers => Sys2Proof.Machine.execInputPowerSample powers s
  | .meshParityError input => Sys2Proof.Machine.execMeshParityError input s
  | .commit par => Sys2Proof.Machine.execCommit par s
  | .discard => Sys2Proof.Machine.execDiscard s
  | .dtmSliceCommit => Sys2Proof.Machine.execDtmSliceCommit s
  | .slicePurge => Sys2Proof.Machine.execSlicePurge s
  | .purgeComplete sl => Sys2Proof.Machine.execPurgeComplete sl s
  | .recompute => Sys2Proof.Machine.execRecompute s
  | .recomputeEnd => Sys2Proof.Machine.execRecomputeEnd s
  | .dtmModuleLoRead => Sys2Proof.Machine.execDtmModuleLoRead s
  | .beaconInterval => Sys2Proof.Machine.execBeaconInterval s
  | .datumBeacon f b => Sys2Proof.Machine.execDatumBeacon f b s
  | .graceEnd => Sys2Proof.Machine.execGraceEnd s
  | .dtmRead table => Sys2Proof.Machine.execDtmRead table s
  | .dtmWrite table => Sys2Proof.Machine.execDtmWrite table s
  | .hostMemRead a errs => Sys2Proof.Machine.execHostMemRead a errs s
  | .hostMemWrite a bytes mask poison => Sys2Proof.Machine.execHostMemWrite a bytes mask poison s
  | .scrubBlock errs => Sys2Proof.Machine.execScrubBlock errs s
  | .rewrite => Sys2Proof.Machine.execRewrite s
  | .zero => Sys2Proof.Machine.execZero s
  | .identifyMemoryDevice => Sys2Proof.Machine.execIdentifyMemoryDevice s
  | .getPoisonList => Sys2Proof.Machine.execGetPoisonList s
  | .injectPoison a => Sys2Proof.Machine.execInjectPoison a s
  | .clearPoison a bytes => Sys2Proof.Machine.execClearPoison a bytes s
  | .registerWrite bar pg off size v env => Sys2Proof.Machine.execRegisterWrite bar pg off size v env s
  | .pageIrqWrite pg mask w => Sys2Proof.Machine.execPageIrqWrite pg mask w s
  | .doorbell q w => Sys2Proof.Machine.execDoorbell q w s
  | .descriptorFetch q raw poison fail lost => Sys2Proof.Machine.execDescriptorFetch q raw poison fail lost s
  | .descNop q lost => Sys2Proof.Machine.execDescNop q lost s
  | .descWrite q env lost => Sys2Proof.Machine.execDescWrite q env lost s
  | .descRead q lost => Sys2Proof.Machine.execDescRead q lost s
  | .cmdExec q env lost => Sys2Proof.Machine.execCmdExec q env lost s
  | .table q env lost => Sys2Proof.Machine.execTable q env lost s
  | .pollTimeout q lost => Sys2Proof.Machine.execPollTimeout q lost s
  | .ringReset q w => Sys2Proof.Machine.execRingReset q w s
  | .hostPathSend n count p others lost => Sys2Proof.Machine.execHostPathSend n count p others lost s
  | .hostPathDelivery n buf lost => Sys2Proof.Machine.execHostPathDelivery n buf lost s
  | .rxWaitTimeout n => Sys2Proof.Machine.execRxWaitTimeout n s
  | .dmaGo c w => Sys2Proof.Machine.execDmaGo c w s
  | .dmaDone c bytes bad errs => Sys2Proof.Machine.execDmaDone c bytes bad errs s
  | .cxlLinkChange width rate flit => Sys2Proof.Machine.execCxlLinkChange width rate flit s
  | .attest nonce => Sys2Proof.Machine.execAttest nonce s
  | .fwStage image => Sys2Proof.Machine.execFwStage image s
  | .setBootSlot => Sys2Proof.Machine.execSetBootSlot s
  | .raiseMin => Sys2Proof.Machine.execRaiseMin s
  | .setAnchor hash => Sys2Proof.Machine.execSetAnchor hash s
  | .clearAnchor => Sys2Proof.Machine.execClearAnchor s
  | .certRead => Sys2Proof.Machine.execCertRead s
  | .closeSessions => Sys2Proof.Machine.execCloseSessions s
  | .sessInit => Sys2Proof.Machine.execSessInit s
  | .sessConfirm => Sys2Proof.Machine.execSessConfirm s
  | .sessClose => Sys2Proof.Machine.execSessClose s
  | .certReq => Sys2Proof.Machine.execCertReq s
  | .mgmtCmd lost => Sys2Proof.Machine.execMgmtCmd lost s
  | .attestReq => Sys2Proof.Machine.execAttestReq s
  | .sessionConfirmTimeout => Sys2Proof.Machine.execSessionConfirmTimeout s
  | .sessionIdleTimeout => Sys2Proof.Machine.execSessionIdleTimeout s
  | .apply => Sys2Proof.Machine.execApply s
  | .clkObsWrite w => Sys2Proof.Machine.execClkObsWrite w s
  | .referenceLoss => Sys2Proof.Machine.execReferenceLoss s
  | .lockLoss => Sys2Proof.Machine.execLockLoss s
  | .flockHold trim => Sys2Proof.Machine.execFlockHold trim s
  | .flockResume trim => Sys2Proof.Machine.execFlockResume trim s
  | .pagePwrWrite pg w => Sys2Proof.Machine.execPagePwrWrite pg w s
  | .pageClkenWrite pg w => Sys2Proof.Machine.execPageClkenWrite pg w s
  | .pwrFibreWrite f w => Sys2Proof.Machine.execPwrFibreWrite f w s
  | .idleFillEnd f => Sys2Proof.Machine.execIdleFillEnd f s
  | .deepIdleWake core idx => Sys2Proof.Machine.execDeepIdleWake core idx s
  | .seraiIdleHoldEnd core => Sys2Proof.Machine.execSeraiIdleHoldEnd core s
  | .srefEnter => Sys2Proof.Machine.execSrefEnter s
  | .srefExit => Sys2Proof.Machine.execSrefExit s
  | .tempSample tj sensor => Sys2Proof.Machine.execTempSample tj sensor s
  | .thermalTrip => Sys2Proof.Machine.execThermalTrip s
  | .vinSample mv cur watts temp => Sys2Proof.Machine.execVinSample mv cur watts temp s
  | .softStart => Sys2Proof.Machine.execSoftStart s
  | .supplyStop => Sys2Proof.Machine.execSupplyStop s
  | .startUp x => Sys2Proof.Machine.execStartUp x s
  | .perstAssert => Sys2Proof.Machine.execPerstAssert s
  | .counterClear pg w => Sys2Proof.Machine.execCounterClear pg w s
  | .clearAll => Sys2Proof.Machine.execClearAll s
  | .telCtrlWrite cfg w => Sys2Proof.Machine.execTelCtrlWrite cfg w s
  | .smbusRead what write => Sys2Proof.Machine.execSmbusRead what write s
  | .stlAccepted core => Sys2Proof.Machine.execStlAccepted core s
  | .combLocked e comb => Sys2Proof.Machine.execCombLocked e comb s
  | .wakeComplete kind idx => Sys2Proof.Machine.execWakeComplete kind idx s
  | .meshSettled => Sys2Proof.Machine.execMeshSettled s
  | .busMasterEnable mem master => Sys2Proof.Machine.execBusMasterEnable mem master s
  | .refusedRead bar pg off size => Sys2Proof.Machine.execRefusedRead bar pg off size s
  | .boundaryScan trst tms => Sys2Proof.Machine.execBoundaryScan trst tms s

end Sys2Proof.Machine
end

