-- ==== Sys2Proof/Machine/Tick.lean ====
section
/-! DEFINITION. What one core cycle does by itself: the clock advances (R30), the lanes send (R325), baselines are averaged (R311), the fine trim slews (R466), the cycle counters count (R487, R490, R499) and the command processor takes a descriptor (R438). -/

namespace Sys2Proof.Machine

/-- The assigned pages (R432). -/
def assignedPages : List Nat := (List.range 256).filter pageAssigned

/-- A cycle in which some lossless packet waits under R138 (event 0x12 of QSH, R490). -/
def State.tickWaits (s : State) : State :=
  let w := fun (tc : Nat) => s.flights.any fun x => x.loc = .voq && x.waited && x.pkt.tc = tc && s.lossless tc
  let l := (List.range 8).filter w
  if l = [] then s else s.evCount 11 (fun v => !bit v 15 && fld v 0 8 = 0x12 && (!bit v 11 || l.contains (fld v 8 3))) 1

/-- A clocked page's cycle counter and its cycle events (R487, R490). -/
def State.tickPage (s : State) (pg : Nat) : State :=
  if s.clocked pg then
    let s := (s.wr PAGE_CYCLES_cycles (s.rd PAGE_CYCLES_cycles pg + 1) pg).event pg 1
    let d := s.rd PAGE_PWR_state pg
    let s := if d = 1 then s.event pg 2 else if d = 2 then s.event pg 3 else s
    if pg = 11 then s.tickWaits
    else if 0x80 ≤ pg && pg ≤ 0xC3 && (s.core (pg - 0x80)).aq.isEmpty && (s.core (pg - 0x80)).inv.isNone then s.event pg 0x12
    else s
  else s

/-- One core cycle (log entry 5): nothing while the clocks are stopped; the fabric clock runs once the PLLs have locked (R30), and a codeword slot that begins in it is sent. A descriptor is taken in it if one is ready, and none was taken in it yet. -/
def State.tick (s : State) : State :=
  if s.alive && s.clkOn then
    let s := { s with fclk := (s.fclk + s.clkStep) % clkWrap, cyc := s.cyc + 1 }
    (assignedPages.foldl State.tickPage s.slotTx.tickBaselines.slewBack).ringServe []
  else s

end Sys2Proof.Machine
end

