-- ==== Sys2Proof/Safety.lean ====
section
/-! DEFINITION. What a safe run is, and the words the claims use. -/

namespace Sys2Proof

/-- A run of `n` steps from `s` meets neither a fault nor a refusal. -/
def safeRun (n : Nat) (s : Machine.State) : Prop := ∃ t, Host.Core.run core n s = .next t

namespace Machine

/-- A host access to the register at `off` of BAR0 page `pg` is answered (R423), has a specified value (R464) and is not refused (R430, R448). -/
def State.served (s : State) (pg off : Nat) : Prop :=
  s.alive = true ∧ s.memSpace = true ∧ s.busOk = true ∧ s.accessCause pg off = none

/-- Core `core` stands at an instruction word `w` of opcode `op` in its running invocation `i` (R221, R223). -/
def State.atInstr (s : State) (core op : Nat) (i : Inv) (w : Nat) : Prop :=
  s.alive = true ∧ core < 68 ∧ s.fetchU core op = some (i, w)

/-- The instruction issued: the issue event counts and the invocation goes on with registers `i` (R223). -/
def State.issued (s : State) (core : Nat) (i : Inv) : State :=
  (s.event (0x80 + core) 0x10).setCore core { (s.event (0x80 + core) 0x10).core core with inv := some i }

/-- The instruction met fault `c` (R225, R239). -/
def State.faulted (s : State) (core : Nat) (i : Inv) (c : Nat) : State := (s.event (0x80 + core) 0x10).faultInv core i c

/-- The instruction waits this cycle (R223). -/
def State.stalled (s : State) (core : Nat) : State := s.event (0x80 + core) 0x11

/-- The instruction moves on and changes nothing but its destination's active lanes, whose container and tag are `f` of the lane (R227, R229). -/
def Inv.laneWrite (i i' : Inv) (w : Nat) (f : Nat → Nat × Bool) : Prop :=
  { i' with v := i.v } = i.next ∧
  ∀ r l, l < 128 → i'.lane r l = if r = uD w ∧ l ∈ i.active w then ((f l).1 % 2 ^ 32, (f l).2) else i.lane r l

/-- The instruction moves on and changes nothing but one scalar register, which takes `v` and the tag `t`. -/
def Inv.scalarWrite (i i' : Inv) (w v : Nat) (t : Bool) : Prop :=
  { i' with x := i.x } = i.next ∧ i'.sx (uD w) = (v % 2 ^ 64, t) ∧ ∀ r, r ≠ uD w → i'.sx r = i.sx r

/-- The instruction moves on and changes nothing but one predicate, which takes `v`. -/
def Inv.predWrite (i i' : Inv) (w v : Nat) : Prop :=
  { i' with k := i.k } = i.next ∧ i'.pk (uD w) = v ∧ ∀ r, r ≠ uD w → i'.pk r = i.pk r

/-- The instruction moves on and changes nothing but kernel accumulator `d`, which takes `a`. -/
def Inv.accWrite (i i' : Inv) (d : Nat) (a : KAcc) : Prop :=
  { i' with ka := i.ka } = i.next ∧ i'.kacc d = a ∧ ∀ r, r ≠ d → i'.kacc r = i.kacc r

/-- A lane's operand b of the integer operations: mod[30:0] sign-extended when mod[31] is 1, otherwise the lane of Vb (R230). -/
def Inv.laneB (i : Inv) (w l : Nat) : Nat × Bool := if bit w 31 then (ibValue w 32, false) else i.lane (uB w) l

/-- The scalar operand b: mod[30:0] sign-extended when mod[31] is 1, otherwise Xb (R230). -/
def Inv.scalarB (i : Inv) (w : Nat) : Nat × Bool := if bit w 31 then (ibValue w 64, false) else i.sx (uB w)

/-- An FP32 lane's operands a, b, c after mod[31:28], with the tags of the lanes read (R231). -/
def Inv.fpArgs (i : Inv) (w l : Nat) : (Nat × Bool) × (Nat × Bool) × (Nat × Bool) :=
  let b := if bit w 28 then ((i.sx (uB w)).1 % 2 ^ 32, (i.sx (uB w)).2) else i.lane (uB w) l
  ((negIf (bit w 31) (i.lane (uA w) l).1, (i.lane (uA w) l).2), (negIf (bit w 30) b.1, b.2), (negIf (bit w 29) (i.lane (uC w) l).1, (i.lane (uC w) l).2))

/-- Command `c` runs an instruction of opcode `op` that issues and writes the active lanes of Vd with `f`, and nothing else. -/
def writesLanes (c : Instr) (core op : Nat) (f : Inv → Nat → Nat → Nat × Bool) : Prop :=
  ∀ (s : State) (i : Inv) (w : Nat), s.atInstr core op i w → ∃ i' : Inv, exec c s = .next (s.issued core i') ∧ i.laneWrite i' w (f i w)

/-- Command `c` runs an FP32 operation: the active lanes of Vd take its result, the invocation's flags gain every active lane's, and nothing else changes (R231). -/
def writesFp (c : Instr) (core op : Nat) (f : Inv → Nat → Nat → Nat × Bool) (flags : Inv → Nat → Nat → Nat) : Prop :=
  ∀ (s : State) (i : Inv) (w : Nat), s.atInstr core op i w → ∃ i' : Inv, exec c s = .next (s.issued core { i' with fps := (i.active w).foldl (fun m l => m ||| flags i w l) i.fps }) ∧
    i.laneWrite i' w (f i w)

/-- Command `c` runs an instruction of opcode `op` that issues and writes Xd with `f`, and nothing else. -/
def writesScalar (c : Instr) (core op : Nat) (f : Inv → Nat → Nat × Bool) : Prop :=
  ∀ (s : State) (i : Inv) (w : Nat), s.atInstr core op i w → ∃ i' : Inv, exec c s = .next (s.issued core i') ∧ i.scalarWrite i' w (f i w).1 (f i w).2

end Machine

/-- Every field of the packet's header fits its width of R65, the waybill has its eight entries, and the reserved bits stand where R65 reserves them. -/
def Pkt.fits (p : Pkt) : Prop :=
  p.ver < 2 ^ 4 ∧ p.kind < 2 ^ 4 ∧ p.tc < 2 ^ 3 ∧ p.epoch < 2 ∧ p.fence < 2 ∧ p.poisonAny < 2 ∧ p.colour < 2 ^ 2 ∧ p.length < 2 ^ 16 ∧
  p.slice < 2 ^ 12 ∧ p.hopPtr < 2 ^ 3 ∧ p.hopCount < 2 ^ 3 ∧ p.wbDone < 2 ∧ p.bcTarget < 2 ∧ p.src < 2 ^ 24 ∧ p.dst < 2 ^ 24 ∧
  p.waybill.length = 8 ∧ (∀ e ∈ p.waybill, e < 2 ^ 16) ∧ p.seq < 2 ^ 32 ∧ p.ctx < 2 ^ 16 ∧ p.member < 2 ^ 10 ∧ p.attempt < 2 ^ 3 ∧
  p.chunk < 2 ^ 32 ∧ p.fmt < 2 ^ 4 ∧ p.op < 2 ^ 4 ∧ p.poisonMap < 2 ^ 16 ∧ p.originTime < 2 ^ 48 ∧ p.e2e < 2 ^ 32 ∧ p.hdrCrc < 2 ^ 32 ∧
  p.rsv &&& Machine.rsvMask = p.rsv

end Sys2Proof
end

