-- ==== Sys2Proof/Certificates/Slice0/Obligations.lean ====
section
/-! DEFINITION. The statements for the provers. -/

open Sys2Proof Sys2Proof.Machine

/-- A step takes the command at the front of the queue and carries it out on the state with the queue's rest; with nothing waiting one core cycle passes (log entry 5: what the block does of itself at a clock edge). -/
def Obligations.StepRunsFrontCommand : Prop :=
  (∀ (c : Instr) (s : State), step { s with pending := c :: s.pending } = exec c s) ∧
  (∀ s : State, s.pending = [] → step s = .next s.tick)

/-- R28, R44, R372, R413, R484: the machine right after reset, the values the model's register list gives (those of the spec's register tables; where they give none, log entry 2). Every register reads its reset value, staged values equal those in force, every byte of GDDR7 reads zero with good check bits, no table entry, packet, command, unit or effect is there, the clocks stand still, and the invariant of StepKeepsInvariant holds. -/
def Obligations.ResetState : Prop :=
  (∀ (d : RegD) (n i j : Nat), State.reset.rd d n i j = d.reset i ∧ State.reset.rdStg d n i j = d.reset i) ∧
  (∀ t u k w, State.reset.tget t u k w = tdef t w ∧ ∀ c, State.reset.isBad t u k w c = false) ∧ (∀ a, State.reset.byte a = 0) ∧ (∀ w, State.reset.syn w = 0 ∧ State.reset.granValid w = false) ∧
  State.reset.pending = [] ∧ State.reset.flights = [] ∧ State.reset.effs = [] ∧ State.reset.out = [] ∧ State.reset.hif.rings = [] ∧ State.reset.secu.sess = [] ∧ State.reset.ser.kernels = [] ∧
  (∀ n, State.reset.armed n = false) ∧ State.reset.clkOn = false ∧ State.reset.tick = State.reset ∧ (∀ l, State.reset.lane l = laneOFF) ∧
  Memory.wf State.reset.mem.data = true ∧ State.reset.fclk < clkWrap

/-- R2, R398, R413: every step keeps the form of the machine's data, whatever state it starts in and whatever command is in front. GDDR7's listed bytes stay in their one canonical form (addresses strictly rising, no listed byte equal to the zero an unlisted address reads as), fabric time stays below its range of 2^48 s, and a command carried out leaves the rest of the queue as it was. -/
def Obligations.StepKeepsInvariant : Prop :=
  (∀ s t : State, Memory.wf s.mem.data = true → step s = .next t → Memory.wf t.mem.data = true) ∧
  (∀ s t : State, s.fclk < clkWrap → step s = .next t → t.fclk < clkWrap) ∧
  (∀ s t : State, step s = .next t → t.pending = s.pending.tail)

/-- R65, R66: the 64 header bytes of a packet. Every 64 header bytes come back from the fields they are read into, reserved bits included, and every packet whose fields fit is read back from its own 64 bytes. -/
def Obligations.HeaderImageRoundTrips : Prop :=
  (∀ bs payload : List Byte, bs.length = 64 → (Pkt.ofImage (leNat bs) payload).hdrBytes = bs) ∧
  (∀ p : Pkt, p.fits → Pkt.ofImage (leNat p.hdrBytes) p.payload = p)

/-- R11, R423, R464, R468, R480, R484: which steps stop. No command is refused; a command ends in a fault only where the dividers in force break R464 and the module is alive, and in every other state it answers a next state. While the module's clocks are stopped by PERST_N, the reference, the trip or the supply, a command other than one of the pins, the power stage and start-up changes nothing. -/
def Obligations.CommandsCompleteAndDeadModuleRests : Prop :=
  (∀ (c : Instr) (s : State), s.busOk = true ∨ s.alive = false → ∃ t, exec c s = .next t) ∧
  (∀ (c : Instr) (s : State) (r : Refusal), exec c s ≠ .refused r) ∧
  (∀ (c : Instr) (s : State) (f : Fault), exec c s = .fault f → f = .busUnspecified ∧ s.busOk = false ∧ s.alive = true) ∧
  (∀ (c : Instr) (s : State), s.alive = false →
    (∀ mv cur watts temp, c ≠ .vinSample mv cur watts temp) → (∀ what w, c ≠ .smbusRead what w) → (∀ trst tms, c ≠ .boundaryScan trst tms) → (∀ x, c ≠ .startUp x) →
    c ≠ .perstAssert → c ≠ .thermalTrip → c ≠ .supplyStop → c ≠ .softStart → exec c s = .next s)

/-- R34 to R40: the time ports. With its interval passed, a MASTER queues an LMF of its own for a Sync and for an Announce, every port that is not DISABLED one for a Pdelay_Req, each under its own sequence number; a Pdelay_Req is answered under its own, with the time it came in. As they leave, a Sync is given the clock's time and a Pdelay_Req's time is kept. A Sync on the SLAVE port gives TIM_OFFSET (in ps, within one of the exact value) and TIM_MLD before the servo acts; a Pdelay_Resp completes the request of its sequence number: a mean link delay within 10 ns of the average joins the last 16 and becomes TIM_PORT_MLD, another is discarded and counted; a Follow_Up is discarded and counted; an Announce is kept for information; a Pdelay_Req three intervals old is given up and counted; LOCKED without a Sync for three intervals becomes HOLDOVER with TIM_RATE as it stands. -/
def Obligations.TimePortsExchange : Prop :=
  ((∀ (s : State) (f : Nat), s.alive = true → f < 64 → s.bypassed f = false → s.role f = 1 → s.due (s.ptp f).syncAt (s.rdI TIM_INTERVALS_log_sync) = true →
    exec (.syncTransmit f) s = .next ((s.setPtp f { s.ptp f with syncAt := some s.cyc, syncSeq := ((s.ptp f).syncSeq + 1) % 65536 }).sendLmf f
      { typ := 0x10, body := [(s.ptp f).syncSeq] })) ∧
  (∀ (s : State) (f : Nat), s.alive = true → f < 64 → s.bypassed f = false → s.role f ≠ 0 → s.due (s.ptp f).pdelayAt (s.rdI TIM_INTERVALS_log_pdelay) = true →
    exec (.pdelayTransmit f) s = .next ((s.setPtp f { s.ptp f with pdelayAt := some s.cyc, pdelaySeq := ((s.ptp f).pdelaySeq + 1) % 65536 }).sendLmf f
      { typ := 0x12, body := [(s.ptp f).pdelaySeq] })) ∧
  (∀ (s : State) (f : Nat), s.alive = true → f < 64 → s.bypassed f = false → s.role f = 1 → s.due (s.ptp f).announceAt (s.rdI TIM_INTERVALS_log_announce) = true →
    exec (.announceTransmit f) s = .next ((s.setPtp f { s.ptp f with announceAt := some s.cyc, announceSeq := ((s.ptp f).announceSeq + 1) % 65536 }).sendLmf f
      { typ := 0x14, body := [(s.ptp f).announceSeq] })) ∧
  (∀ (s : State) (f : Nat) (m : PtpMsg), s.alive = true → f < 64 → m.seq < 65536 → m.src < 2 ^ 80 → s.bypassed f = false → s.role f ≠ 0 →
    exec (.ptpPdelayReq f m) s = .next (s.sendLmf f { typ := 0x13, body := [s.fclk / 2 ^ 32, m.seq, m.src] })) ∧
  (∀ (s : State) (f q : Nat), (s.ptpBody f 0x10 [q]).1.drop 34 = ptpTime (s.fclk / 2 ^ 32) ∧ (s.ptpBody f 0x10 [q]).2 = s ∧
    ((s.ptpBody f 0x12 [q]).2.ptp f).reqs = (s.t16, s.cyc, q) :: (s.ptp f).reqs)) ∧
  ((∀ (s : State) (f : Nat) (t1 corr : Int), s.alive = true → f < 64 → s.bypassed f = false → s.role f = 2 →
    ∃ (u : State) (p : Int),
      exec (.ptpSync f t1 corr) s = .next (if u.rd TIM_STATE_state = 4 then u else
        (if u.rd TIM_STATE_state = 0 ∨ u.rd TIM_STATE_state = 3 then u.setTimState 1 else u).servo
          ((s.t16 - t1 - corr) * 1000 - (s.rdI TIM_PORT_MLD_mld_ps 0 f + s.rdI TIM_PORT_asym 0 f) * 65536)) ∧
      u.rd TIM_OFFSET_offset_ps = ofSigned 32 p ∧
      ((s.t16 - t1 - corr) * 1000 - (s.rdI TIM_PORT_MLD_mld_ps 0 f + s.rdI TIM_PORT_asym 0 f) * 65536 - p * 65536).natAbs < 65536 ∧
      u.rd TIM_MLD_mld_ps = ofSigned 32 (s.rdI TIM_PORT_MLD_mld_ps 0 f) ∧ u.tim.lastSync = s.cyc ∧ u.fclk = s.fclk) ∧
  (∀ (s : State) (f seq c : Nat) (corr t1p : Int) (m : PtpMsg), s.alive = true → f < 64 → m.seq = seq → m.corr = corr → seq < 65536 → s.bypassed f = false → s.role f ≠ 0 →
    (s.ptp f).reqs.find? (fun q => q.2.2 = seq) = some (t1p, c, seq) →
    (¬((s.ptp f).hist.length ≠ 0 ∧ 20 * 65536 * (s.ptp f).hist.length < (((s.ptp f).hist.length : Int) * (s.t16 - t1p - corr) - (s.ptp f).hist.sum).natAbs) →
    ∃ (t : State) (p : Int), exec (.ptpPdelayResp f m) s = .next t ∧ (t.ptp f).reqs = (s.ptp f).reqs.filter (fun q => q.2.2 ≠ seq) ∧
      (t.ptp f).hist = ((s.t16 - t1p - corr) :: (s.ptp f).hist).take 16 ∧ t.rd TIM_PORT_MLD_mld_ps 0 f = ofSigned 32 p ∧ (s.role f = 2 → t.rd TIM_MLD_mld_ps = ofSigned 32 p) ∧
      ((t.ptp f).hist.sum * 1000 - p * (65536 * (2 * (t.ptp f).hist.length : Nat))).natAbs < 65536 * (2 * (t.ptp f).hist.length)) ∧
    ((s.ptp f).hist.length ≠ 0 → 20 * 65536 * (s.ptp f).hist.length < (((s.ptp f).hist.length : Int) * (s.t16 - t1p - corr) - (s.ptp f).hist.sum).natAbs →
      exec (.ptpPdelayResp f m) s = .next ((s.setPtp f { s.ptp f with reqs := (s.ptp f).reqs.filter (fun q => q.2.2 ≠ seq) }).cnt TIM_RX_DISCARD_count))) ∧
  (∀ (s : State) (f : Nat), s.alive = true → f < 64 → s.bypassed f = false →
    exec (.ptpFollowUp f) s = .next (s.cnt TIM_RX_DISCARD_count)) ∧
  (∀ (s : State) (f gm cl : Nat), s.alive = true → f < 64 → s.bypassed f = false → s.role f = 2 →
    exec (.ptpAnnounce f gm cl) s = .next { s with tim := { s.tim with gm := some (gm, cl) } }) ∧
  (∀ (s : State) (f c q : Nat) (t1p : Int), s.alive = true → f < 64 → (s.ptp f).reqs.getLast? = some (t1p, c, q) →
    s.passed c (s.rdI TIM_INTERVALS_log_pdelay) 3 = true →
    exec (.pdelayTimeout f) s = .next ((s.setPtp f { s.ptp f with reqs := (s.ptp f).reqs.dropLast }).cnt TIM_PDELAY_TIMEOUT_count)) ∧
  (∀ (s : State), s.alive = true → s.rd TIM_STATE_state = 2 → s.passed s.tim.lastSync (s.rdI TIM_INTERVALS_log_sync) 3 = true →
    ∃ t, exec .syncLoss s = .next t ∧ t.rd TIM_STATE_state = 3 ∧ t.rd TIM_RATE_rate = s.rd TIM_RATE_rate ∧ t.fclk = s.fclk))

/-- R31, R35, R41, R42, R46, R60: the host's accesses to fabric time. A read of TIM_NOW_NS returns the time and copies the seconds of the same edge; SET puts TIM_SET_* into the clock and STEP adds TIM_STEP_ADJ (a step out of the clock's range is refused); TIM_RATE is clamped, and ignored while the servo owns it; a second SLAVE is refused. -/
def Obligations.TimeHostAccesses : Prop :=
  (∀ (s : State) (z : WSize), s.served 4 0x110 →
    ∃ t, exec (.readTimNowNs z) s = .next t ∧ t.rd TIM_NOW_SEC_sec = s.sec % 2 ^ 48 ∧
      t.out.getLast? = some (.readData (WSize.part z (s.ns * 65536 + s.frac)))) ∧
  (∀ (s : State), s.served 4 0x130 → s.rd TIM_SET_NS_ns_frac / 65536 < 10 ^ 9 →
    exec .cmdSet s = .next ((s.event 4 4).setClock (s.rd TIM_SET_SEC_sec * 10 ^ 9 * NS + s.rd TIM_SET_NS_ns_frac * 2 ^ 32))) ∧
  (∀ (s : State), s.served 4 0x130 → 0 ≤ (s.fclk : Int) + s.rdI TIM_STEP_ADJ_adj * 2 ^ 32 →
    (s.fclk : Int) + s.rdI TIM_STEP_ADJ_adj * 2 ^ 32 < clkWrap →
    exec .cmdStep s = .next (((s.event 4 4).setClock ((s.fclk : Int) + s.rdI TIM_STEP_ADJ_adj * 2 ^ 32).toNat).irq 4 1)) ∧
  (∀ (s : State), s.served 4 0x130 → (s.fclk : Int) + s.rdI TIM_STEP_ADJ_adj * 2 ^ 32 < 0 ∨ (clkWrap : Int) ≤ (s.fclk : Int) + s.rdI TIM_STEP_ADJ_adj * 2 ^ 32 →
    exec .cmdStep s = .next ((s.event 4 4).wr TIM_STATUS_step_refused 1)) ∧
  (∀ (s : State) (w : Wr), s.served 4 0x140 → s.flag TIM_CTRL_servo_en = false →
    ∃ t, exec (.timRateWrite w) s = .next t ∧
      t.rd TIM_RATE_rate = ofSigned 64 (clampRate (toSigned 64 (w.merge 0 64 (s.rd TIM_RATE_rate)))) ∧ t.fclk = s.fclk) ∧
  (∀ (s : State) (w : Wr), s.served 4 0x140 → s.flag TIM_CTRL_servo_en = true → exec (.timRateWrite w) s = .next (s.event 4 4)) ∧
  (∀ (s : State) (w : Wr), s.served 4 0x100 →
    ∃ t, exec (.timCtrlWrite w) s = .next t ∧ t.rd TIM_CTRL_servo_en = w.merge 1 1 (s.rd TIM_CTRL_servo_en) ∧
      (t.rd TIM_CTRL_mode = 1 → t.rd TIM_STATE_state = 4) ∧ (t.rd TIM_CTRL_mode ≠ 1 → t.rd TIM_STATE_state ≠ 4)) ∧
  (∀ (s : State) (p : Nat) (w : Wr), p < 64 → s.served 4 (0x400 + 8 * p) → ¬(w.merge 0 2 (s.rd TIM_PORT_role 0 p) = 2 ∧ s.rd TIM_PORT_role 0 p ≠ 2 ∧ s.slaves ≠ []) →
    ∃ t, exec (.timPortWrite p w) s = .next t ∧ t.rd TIM_PORT_role 0 p = w.merge 0 2 (s.rd TIM_PORT_role 0 p) ∧
      t.rd TIM_PORT_asym 0 p = w.merge 32 32 (s.rd TIM_PORT_asym 0 p)) ∧
  (∀ (s : State) (p : Nat) (w : Wr), p < 64 → s.served 4 (0x400 + 8 * p) → w.merge 0 2 (s.rd TIM_PORT_role 0 p) = 2 → s.rd TIM_PORT_role 0 p ≠ 2 → s.slaves ≠ [] →
    exec (.timPortWrite p w) s = .next ((s.event 4 4).wr TIM_STATUS_role_refused 1))

/-- R45 to R48: pulse outputs and captures. The pin goes back to inactive when its width has passed; an enabled edge starts a 20 ns hold-off and, with room, records the fabric time of the sampling edge less 4 ns and raises; with the FIFO full it is counted and raises, in the hold-off it is counted; a read of the upper half or the whole pops the oldest capture with its seconds. A write of TIM_TPO_CFG: width, polarity and enable take the bytes written. Pin TPO3 is shared with CLK_OBS: enabling TPO3 makes TPO its owner, unless CLK_OBS owns it since an earlier cycle: then the enable bit reads 0 and the status CONFLICT; where CLK_OBS took it in this very cycle TPO becomes the owner and CLK_OBS is refused. Disabling TPO3 releases a pin that TPO owns. -/
def Obligations.PulsesAndCaptures : Prop :=
  (∀ (s : State) (n e : Nat), s.alive = true → n < 4 → s.tim.tpoEnd.getD n none = some e → e ≤ s.cyc →
    exec (.tpoWidthEnd n) s = .next (({ s with tim := { s.tim with tpoEnd := s.tim.tpoEnd.set n none } } : State).emit (.tpo n (s.tpoLevel n false)))) ∧
  (∀ (s u : State) (m : Nat) (rising : Bool), s.alive = true → m < 2 →
    s.flag TIM_TCAP_CFG_enable 0 m = true → bit (s.rd TIM_TCAP_CFG_edge 0 m) (if rising then 0 else 1) = true →
    (s.tim.holdEnd.getD m none).any (s.cyc < ·) = false → u = { s with tim := { s.tim with holdEnd := s.tim.holdEnd.set m (some (s.cyc + 40)) } } →
    ((s.tim.fifo.getD m []).length < 4 → exec (.tcapEdge m rising) s = .next (({ u with tim := { u.tim with fifo := s.tim.fifo.set m (s.tim.fifo.getD m [] ++
      [(rising, (s.fclk + clkWrap - 4 * NS) % clkWrap / (10 ^ 9 * NS),
        (s.fclk + clkWrap - 4 * NS) % clkWrap / NS % 10 ^ 9 * 65536 + (s.fclk + clkWrap - 4 * NS) % clkWrap / 2 ^ 32 % 65536)]) } } : State).irq 4 (2 + m))) ∧
    (4 ≤ (s.tim.fifo.getD m []).length → exec (.tcapEdge m rising) s = .next ((u.cnt TIM_TCAP_OVF_count 0 m).irq 4 4))) ∧
  (∀ (s : State) (m : Nat) (rising : Bool), s.alive = true → m < 2 →
    s.flag TIM_TCAP_CFG_enable 0 m = true → bit (s.rd TIM_TCAP_CFG_edge 0 m) (if rising then 0 else 1) = true →
    (s.tim.holdEnd.getD m none).any (s.cyc < ·) = true →
    exec (.tcapEdge m rising) s = .next (s.cnt TIM_TCAP_OVF_count 0 m)) ∧
  (∀ (s : State) (m e : Nat), s.alive = true → m < 2 → s.tim.holdEnd.getD m none = some e → e ≤ s.cyc →
    exec (.tcapHoldoffEnd m) s = .next { s with tim := { s.tim with holdEnd := s.tim.holdEnd.set m none } }) ∧
  (∀ (s : State) (m : Nat) (z : WSize) (r : Bool) (sec nf : Nat) (q : List (Bool × Nat × Nat)), m < 2 → z ≠ .lo4 → s.served 4 (0x308 + 0x20 * m) →
    s.tim.fifo.getD m [] = (r, sec, nf) :: q → m < s.tim.fifo.length →
    ∃ t, exec (.timTcapNsRead m z) s = .next t ∧ t.tim.fifo.getD m [] = q ∧ t.rd TIM_TCAP_SEC_sec 0 m = sec % 2 ^ 48 ∧
      t.out.getLast? = some (.readData (WSize.part z (2 ^ 63 + (if r then 2 ^ 62 else 0) + nf)))) ∧
  (∀ (s : State) (n : Nat) (w : Wr), n < 3 → s.served 4 (0x200 + 8 * n) →
    ∃ t, exec (.timTpoCfgWrite n w) s = .next t ∧ t.rd TIM_TPO_CFG_enable 0 n = w.merge 0 1 (s.rd TIM_TPO_CFG_enable 0 n) ∧
      t.rd TIM_TPO_CFG_polarity 0 n = w.merge 1 1 (s.rd TIM_TPO_CFG_polarity 0 n) ∧ t.rd TIM_TPO_CFG_width 0 n = w.merge 8 24 (s.rd TIM_TPO_CFG_width 0 n)) ∧
  (∀ (s u : State) (w : Wr), s.served 4 0x218 → u = (((s.event 4 4).put TIM_TPO_CFG_polarity w 0 3).put TIM_TPO_CFG_width w 0 3).put TIM_TPO_CFG_enable w 0 3 →
    (s.rd TIM_TPO_CFG_enable 0 3 = 0 → w.merge 0 1 0 = 1 → s.rd TIM_PIN_OWN_tpo3_owner = 2 → s.tim.obsAt ≠ some s.cyc →
      exec (.timTpoCfgWrite 3 w) s = .next ((u.wr TIM_TPO_CFG_enable 0 0 3).wr TIM_TPO_CFG_status 1 0 3)) ∧
    (s.rd TIM_TPO_CFG_enable 0 3 = 0 → w.merge 0 1 0 = 1 → s.rd TIM_PIN_OWN_tpo3_owner = 2 → s.tim.obsAt = some s.cyc →
      exec (.timTpoCfgWrite 3 w) s = .next (((((u.wr CLK_OBS_enable 0).wr CLK_OBS_status 1).irq 2 2).wr TIM_PIN_OWN_tpo3_owner 1).wr TIM_TPO_CFG_status 0 0 3)) ∧
    (s.rd TIM_TPO_CFG_enable 0 3 = 0 → w.merge 0 1 0 = 1 → s.rd TIM_PIN_OWN_tpo3_owner ≠ 2 →
      exec (.timTpoCfgWrite 3 w) s = .next ((u.wr TIM_PIN_OWN_tpo3_owner 1).wr TIM_TPO_CFG_status 0 0 3)) ∧
    (s.rd TIM_TPO_CFG_enable 0 3 = 1 → w.merge 0 1 1 = 0 → s.rd TIM_PIN_OWN_tpo3_owner = 1 →
      exec (.timTpoCfgWrite 3 w) s = .next (u.wr TIM_PIN_OWN_tpo3_owner 0)) ∧
    (w.merge 0 1 (s.rd TIM_TPO_CFG_enable 0 3) = s.rd TIM_TPO_CFG_enable 0 3 → exec (.timTpoCfgWrite 3 w) s = .next u))

/-- R53 to R57, R59: arming, cancelling and settings of a cairn unit. An arm of a host unit makes it ARMED at once, clears its counts and flags and is judged 4 cycles later: then it is watched, or fires, late where an earlier edge had reached its instant. CANCEL ends an armed unit and stores irq_en; settings are stored while the unit is not ARMED. A write to a unit of the firmware, to an ARMED unit's settings, an arm of an ARMED unit or with cancel, and settings that cannot be armed are refused; a write of CRN_CTRL with more than 32 firmware units or that would give an ARMED unit another owner is refused as a whole, one that moves no ARMED unit is stored. A waiting action of the module's own is tried again at a whole microsecond. -/
def Obligations.CairnUnitsArmAndCancel : Prop :=
  (∀ (s : State) (n : Nat) (irqEn : Bool), n < 32 → s.served 5 (0x1028 + 0x40 * n) → s.isFw n = false → s.armed n = false → s.armInvalid n = false →
    ∃ t : State, exec (.arm n irqEn false) s = .next t.reDepth ∧ t.armed n = true ∧ t.cu n = { effAt := s.cyc + 4 } ∧
      t.rd CRN_U_STATUS_fire_count 0 n = 0 ∧ t.rd CRN_U_STATUS_late 0 n = 0 ∧ t.rd CRN_U_STATUS_result 0 n = 0 ∧
      t.rd CRN_U_STATUS_refused 0 n = 0 ∧ t.rd CRN_U_CTRL_irq_en 0 n = (if irqEn then 1 else 0) ∧ t.effs = s.effs) ∧
  (∀ (s : State) (n : Nat) (irqEn alsoCancel : Bool), n < 32 → s.served 5 (0x1028 + 0x40 * n) →
    s.isFw n = true ∨ alsoCancel = true ∨ s.armed n = true →
    exec (.arm n irqEn alsoCancel) s = .next ((s.event 5 4).refuseUnit n)) ∧
  (∀ (s : State) (n : Nat) (irqEn : Bool), n < 32 → s.served 5 (0x1028 + 0x40 * n) → s.isFw n = false → s.armed n = true →
    exec (.cancel n irqEn) s = .next ((((s.event 5 4).cancelUnit n).reDepth).wr CRN_U_CTRL_irq_en (if irqEn then 1 else 0) 0 n)) ∧
  (∀ (s : State) (n : Nat) (irqEn : Bool), n < 32 → s.served 5 (0x1028 + 0x40 * n) → s.isFw n = false → s.armed n = false →
    exec (.cancel n irqEn) s = .next ((s.event 5 4).wr CRN_U_CTRL_irq_en (if irqEn then 1 else 0) 0 n)) ∧
  (∀ (s : State) (n : Nat) (irqEn : Bool), n < 32 → s.served 5 (0x1028 + 0x40 * n) → s.isFw n = true → exec (.cancel n irqEn) s = .next ((s.event 5 4).refuseUnit n)) ∧
  (∀ (s : State) (n : Nat) (irqEn : Bool), n < 32 → s.served 5 (0x1028 + 0x40 * n) → s.isFw n = false → s.armed n = false → s.armInvalid n = true →
    exec (.arm n irqEn false) s = .next (((s.event 5 4).refuseUnit n).wr CRN_U_STATUS_result 3 0 n)) ∧
  (∀ (s : State) (n : Nat), s.alive = true → n < 32 → s.armed n = true → (s.cu n).judged = false → (s.cu n).effAt ≤ s.cyc → s.fclk < s.instant n →
    exec (.armEffect n) s = .next (s.setCu n { s.cu n with judged := true })) ∧
  (∀ (s : State) (n : Nat), s.alive = true → n < 32 → s.armed n = true → (s.cu n).judged = false → (s.cu n).effAt ≤ s.cyc → s.instant n ≤ s.fclk →
    exec (.armEffect n) s = .next (((s.setCu n { s.cu n with judged := true }).fire n (decide (s.instant n + s.clkStep ≤ s.fclk)) false).reDepth)) ∧
  (∀ (s : State) (n : Nat) (w : Wr), n < 32 → s.isFw n = false → s.armed n = false → (∀ k, k < 5 → s.served 5 (0x1000 + 0x40 * n + 8 * k)) →
    exec (.crnUnitRegisterWrite n 0 w) s = .next ((s.event 5 4).put CRN_U_SEC_sec w 0 n) ∧
    exec (.crnUnitRegisterWrite n 1 w) s = .next (((s.event 5 4).put CRN_U_NS_ns w 0 n).put CRN_U_NS_half w 0 n) ∧
    exec (.crnUnitRegisterWrite n 2 w) s = .next ((s.event 5 4).put CRN_U_PERIOD_period w 0 n) ∧
    exec (.crnUnitRegisterWrite n 3 w) s = .next ((s.event 5 4).put CRN_U_COUNT_count w 0 n) ∧
    exec (.crnUnitRegisterWrite n 4 w) s = .next (((s.event 5 4).put CRN_U_ACTION_class w 0 n).put CRN_U_ACTION_arg w 0 n)) ∧
  (∀ (s : State) (n k : Nat) (w : Wr), n < 32 → k < 5 → s.isFw n = true ∨ s.armed n = true → s.served 5 (0x1000 + 0x40 * n + 8 * k) →
    exec (.crnUnitRegisterWrite n k w) s = .next ((s.event 5 4).refuseUnit n)) ∧
  (∀ (s : State) (w : Wr), s.served 5 0x100 → w.merge 0 6 (s.rd CRN_CTRL_fw_units) ≤ 32 →
    (∀ n, n < 32 → s.armed n = true → (32 ≤ n + s.rd CRN_CTRL_fw_units ↔ 32 ≤ n + w.merge 0 6 (s.rd CRN_CTRL_fw_units))) →
    ∃ t : State, exec (.crnCtrlWrite w) s = .next t ∧ t.rd CRN_CTRL_fw_units = w.merge 0 6 (s.rd CRN_CTRL_fw_units) ∧
      t.rd CRN_CTRL_quiet_ns = (w.merge CRN_CTRL_quiet_ns.lo CRN_CTRL_quiet_ns.w (s.rd CRN_CTRL_quiet_ns)) % 2 ^ CRN_CTRL_quiet_ns.w) ∧
  (∀ (s : State) (w : Wr) (n : Nat), s.served 5 0x100 → n < 32 → 32 < w.merge 0 6 (s.rd CRN_CTRL_fw_units) ∨
      s.armed n = true ∧ ¬(32 ≤ n + s.rd CRN_CTRL_fw_units ↔ 32 ≤ n + w.merge 0 6 (s.rd CRN_CTRL_fw_units)) →
    exec (.crnCtrlWrite w) s = .next (((s.event 5 4).cnt CRN_REFUSE_CNT_count).irq 5 32)) ∧
  (∀ (s : State) (a : FwAction) (r : List FwAction), s.alive = true → s.fwq = a :: r → s.idleFw ≠ none → s.atMicro = true →
    exec .fwUnitRetry s = .next (({ s with fwq := r } : State).ownAgain a))

/-- R49, R50, R51, R56: an armed unit whose instant is reached counts a firing, is DONE when its count is used up (a one-shot after one), and schedules its action's effect after the latency of its class. -/
def Obligations.CairnFireSchedulesItsEffect : Prop :=
  ∀ (s : State) (n limit : Nat), s.alive = true → n < 32 → s.armed n = true → (s.cu n).judged = true → s.nextInst n ≤ s.fclk →
    limit = (if s.uperiod n = 0 then 1 else s.rd CRN_U_COUNT_count 0 n) → limit = 0 ∨ (s.cu n).k < limit →
    ∃ t : State, exec (.cairnFire n) s = .next t.reDepth ∧ (t.cu n).k = (s.cu n).k + 1 ∧
      t.rd CRN_U_STATUS_fire_count 0 n = ((s.cu n).k + 1) % 2 ^ CRN_U_STATUS_fire_count.w ∧
      t.ust n = (if limit = (s.cu n).k + 1 then 2 else 1) ∧
      t.effs = effInsert { unit := n, cls := s.rd CRN_U_ACTION_class 0 n, arg := s.rd CRN_U_ACTION_arg 0 n, due := s.cyc + crnLatency (s.rd CRN_U_ACTION_class 0 n) } s.effs ∧
      t.rd CRN_U_STATUS_late 0 n = 0 ∧ t.fclk = s.fclk ∧ t.flights = s.flights

/-- R51, R52, R57: an effect that has become due, and stands first in the order of effects, is taken from that order, reaches the target of its class with its arguments, and the unit's result shows whether the target accepted it. EVENT raises the unit's bit of CRN; TPO_EDGE drives an enabled pin active for its width, an active one for its width afresh without an edge; COMMIT, TABLE_FLIP, SLICE_COMMIT, the gate swap, the changes of light, the start of a phase, the ledger's flip, POWER_STATE, SNAPSHOT and FW_NOTICE run the operations of their targets. -/
def Obligations.CairnEffectsReachTheirTargets : Prop :=
  ∀ (s : State) (u : Nat), s.alive = true → u < 32 →
    (∀ e, s.effDue u 0 = some e → exec (.event u) s = .next ((s.popEff.irq 5 u).setResult u true)) ∧
    (∀ e, s.effDue u 1 = some e → s.flag TIM_TPO_CFG_enable 0 (e.arg % 4) = true → s.tim.tpoEnd.getD (e.arg % 4) none = none →
      exec (.tpoEdge u) s = .next ((({ s.popEff with tim := { s.tim with tpoEnd := s.tim.tpoEnd.set (e.arg % 4) (some (s.cyc + max 1 (s.rd TIM_TPO_CFG_width 0 (e.arg % 4)))) } } : State).emit (.tpo (e.arg % 4) (s.tpoLevel (e.arg % 4) true))).setResult u true)) ∧
    (∀ e x, s.effDue u 1 = some e → s.flag TIM_TPO_CFG_enable 0 (e.arg % 4) = true → s.tim.tpoEnd.getD (e.arg % 4) none = some x →
      exec (.tpoEdge u) s = .next (({ s.popEff with tim := { s.tim with tpoEnd := s.tim.tpoEnd.set (e.arg % 4) (some (s.cyc + max 1 (s.rd TIM_TPO_CFG_width 0 (e.arg % 4)))) } } : State).setResult u true)) ∧
    (∀ e, s.effDue u 1 = some e → s.flag TIM_TPO_CFG_enable 0 (e.arg % 4) = false → exec (.tpoEdge u) s = .next (s.popEff.setResult u false)) ∧
    (∀ e par, s.effDue u 2 = some e → exec (.cfgCommit u par) s = .next ((s.popEff.commit (fld e.arg 0 16) par true).2.setResult u
      ((s.popEff.commit (fld e.arg 0 16) par true).1 = 0))) ∧
    (∀ e, s.effDue u 3 = some e → exec (.tableFlip u) s = .next ((s.popEff.tableFlip (e.arg % 4096)).1.setResult u (s.popEff.tableFlip (e.arg % 4096)).2)) ∧
    (∀ e, s.effDue u 4 = some e → exec (.sliceCommit u) s = .next ((s.popEff.sliceCommit (fld e.arg 0 12) true).1.setResult u
      (s.popEff.sliceCommit (fld e.arg 0 12) true).2)) ∧
    (∀ e, s.effDue u 5 = some e → exec (.tgateSwap u) s = .next ((s.popEff.gateSwap (fld e.arg 0 10) (fld e.arg 10 1)).1.setResult u
      (s.popEff.gateSwap (fld e.arg 0 10) (fld e.arg 10 1)).2)) ∧
    (∀ e, s.effDue u 6 = some e → exec (.bypassSet u) s = .next ((s.popEff.bypassSet (fld e.arg 0 6) (fld e.arg 8 6) (bit e.arg 16)).1.setResult u
      (s.popEff.bypassSet (fld e.arg 0 6) (fld e.arg 8 6) (bit e.arg 16)).2)) ∧
    (∀ e, s.effDue u 7 = some e → exec (.combChange u) s = .next ((s.popEff.combChange (fld e.arg 0 3) (fld e.arg 4 3)).1.setResult u
      (s.popEff.combChange (fld e.arg 0 3) (fld e.arg 4 3)).2)) ∧
    (∀ e, s.effDue u 8 = some e → exec (.lineMigrate u) s = .next ((s.popEff.lineMigrate (fld e.arg 0 6) (fld e.arg 8 5)).1.setResult u
      (s.popEff.lineMigrate (fld e.arg 0 6) (fld e.arg 8 5)).2)) ∧
    (∀ e, s.effDue u 9 = some e → exec (.phaseStart u) s = .next ((s.popEff.startConvoy (e.arg % 65536)).2.setResult u
      ((s.popEff.startConvoy (e.arg % 65536)).1 = 0))) ∧
    (∀ e, s.effDue u 10 = some e → exec (.ledgerFlip u) s = .next ((s.popEff.flip (e.arg % 16)).1.setResult u (s.popEff.flip (e.arg % 16)).2.isNone)) ∧
    (∀ e, s.effDue u 11 = some e → exec (.powerState u) s = .next ((s.popEff.powerState (fld e.arg 0 8) (fld e.arg 8 2)).1.setResult u
      (s.popEff.powerState (fld e.arg 0 8) (fld e.arg 8 2)).2)) ∧
    (∀ e, s.effDue u 12 = some e → exec (.snapshot u) s = .next (s.popEff.snapshot.1.setResult u s.popEff.snapshot.2)) ∧
    (∀ e, s.effDue u 13 = some e → exec (.fwNotice u) s = .next ((s.popEff.fwNotice e.unit (fld e.arg 0 32)).1.setResult u
      (s.popEff.fwNotice e.unit (fld e.arg 0 32)).2))

/-- R115, R117, R118: the commands on the return table of a forwarding page. SEARCH loads the entry found, with PARITY where the page's copy fails, else NOT_FOUND; NEXT the first valid entry after the cursor that fits the filters, which the cursor then names, else END; the flushes remove the valid entries of a port or of a slice that are not static; INSERT writes a static entry and reports FULL where there was no room; DELETE removes the endpoint's entry, static or not, and reports NOT_FOUND where there was none; on FWD00 both reach all 16 pipelines when asked to. A table that is not the return table, or a key beyond 24 bits, is INVALID. `u` is the state once the access has been counted. -/
def Obligations.ReturnTableCommands : Prop :=
  ∀ (s u : State) (n : Nat), n < 16 → s.served (0x40 + n) 0x200 → u = s.event (0x40 + n) 4 →
    (∀ w, u.fwdKey n < 2 ^ 24 → u.retFind n (u.fwdKey n) = some w →
      exec (.search n 0) s = .next ((u.fwdLoad n [u.retGet n (retSet (u.fwdKey n)) w]).fwdDone n
        (if u.isBad TB_RETURN 0 (retIdx n (retSet (u.fwdKey n)) w) 0 n then 5 else 0))) ∧
    (u.fwdKey n < 2 ^ 24 → u.retFind n (u.fwdKey n) = none → exec (.search n 0) s = .next (u.fwdDone n 1)) ∧
    (∀ b, b = (if u.flag FWD_TKEY_restart n = true ∨ u.rd FWD_TSTAT_cursor n = 2 ^ 32 - 1 then 0 else u.rd FWD_TSTAT_cursor n + 1) →
      (∀ i e, (u.retList n).find? (fun (i, e) => decide (b ≤ i) && (bit e 49
        && (!u.flag FWD_TKEY_f_slice n || fld e 34 12 = u.rd FWD_TKEY_slice n) && (!u.flag FWD_TKEY_f_port n || fld e 24 10 = u.rd FWD_TKEY_port n))) = some (i, e) →
        exec (.cmdNext n 0) s = .next ((((u.wr FWD_TKEY_restart 0 n).wr FWD_TSTAT_cursor i n).fwdLoad n [e]).fwdDone n 0)) ∧
      ((u.retList n).find? (fun (i, e) => decide (b ≤ i) && (bit e 49
        && (!u.flag FWD_TKEY_f_slice n || fld e 34 12 = u.rd FWD_TKEY_slice n) && (!u.flag FWD_TKEY_f_port n || fld e 24 10 = u.rd FWD_TKEY_port n))) = none →
        exec (.cmdNext n 0) s = .next ((u.wr FWD_TKEY_restart 0 n).fwdDone n 6))) ∧
    (∀ all, exec (.flushByPort n 0 all) s = .next
      (((allPipes n all).foldl (fun s p => s.retFlush p fun e => fld e 24 10 = u.rd FWD_TKEY_port n) u).fwdDone n 0)) ∧
    (∀ all, exec (.flushBySlice n 0 all) s = .next
      (((allPipes n all).foldl (fun s p => s.retFlush p fun e => fld e 34 12 = u.rd FWD_TKEY_slice n) u).fwdDone n 0)) ∧
    (∀ w, u.fwdKey n < 2 ^ 24 → (u.retFind n (u.fwdKey n) = some w ∨ u.retFind n (u.fwdKey n) = none ∧ u.retVictim n (retSet (u.fwdKey n)) = some w) →
      exec (.insert n 0 false) s = .next ((u.retPut n (retSet (u.fwdKey n)) w
        (retWord (u.fwdKey n) (fld (u.fwdData n 0) 24 10) (fld (u.fwdData n 0) 34 12) 0 1)).fwdDone n 0)) ∧
    (u.fwdKey n < 2 ^ 24 → u.retFind n (u.fwdKey n) = none → u.retVictim n (retSet (u.fwdKey n)) = none →
      exec (.insert n 0 false) s = .next (u.fwdDone n 4)) ∧
    (∀ w, u.fwdKey n < 2 ^ 24 → u.retFind n (u.fwdKey n) = some w →
      exec (.delete n 0 false) s = .next ((u.retPut n (retSet (u.fwdKey n)) w 0).fwdDone n 0)) ∧
    (∀ all, u.fwdKey n < 2 ^ 24 → u.retFind n (u.fwdKey n) = none → (all && n = 0) = false → exec (.delete n 0 all) s = .next (u.fwdDone n 1)) ∧
    (∀ table, 0 < table → table < 16 → ∀ all, exec (.search n table) s = .next (u.fwdDone n 3) ∧ exec (.cmdNext n table) s = .next (u.fwdDone n 3) ∧
      exec (.flushByPort n table all) s = .next (u.fwdDone n 3) ∧ exec (.flushBySlice n table all) s = .next (u.fwdDone n 3) ∧
      exec (.insert n table all) s = .next (u.fwdDone n 3) ∧ exec (.delete n table all) s = .next (u.fwdDone n 3)) ∧
    (2 ^ 24 ≤ u.fwdKey n → ∀ all, exec (.search n 0) s = .next (u.fwdDone n 3) ∧ exec (.insert n 0 all) s = .next (u.fwdDone n 3) ∧
      exec (.delete n 0 all) s = .next (u.fwdDone n 3)) ∧
    (n = 0 → u.fwdKey n < 2 ^ 24 →
      exec (.insert n 0 true) s = .next ((((List.range 16).foldl (fun (r : Bool × State) p =>
        match (match r.2.retFind p (u.fwdKey n) with | some w => some w | none => r.2.retVictim p (retSet (u.fwdKey n))) with
        | some w => (r.1, r.2.retPut p (retSet (u.fwdKey n)) w (retWord (u.fwdKey n) (fld (u.fwdData n 0) 24 10) (fld (u.fwdData n 0) 34 12) 0 1))
        | none => (true, r.2)) (false, u))).2.fwdDone n (if ((List.range 16).foldl (fun (r : Bool × State) p =>
        match (match r.2.retFind p (u.fwdKey n) with | some w => some w | none => r.2.retVictim p (retSet (u.fwdKey n))) with
        | some w => (r.1, r.2.retPut p (retSet (u.fwdKey n)) w (retWord (u.fwdKey n) (fld (u.fwdData n 0) 24 10) (fld (u.fwdData n 0) 34 12) 0 1))
        | none => (true, r.2)) (false, u)).1 then 4 else 0)) ∧
      exec (.delete n 0 true) s = .next ((((List.range 16).foldl (fun (r : Bool × State) p =>
        match r.2.retFind p (u.fwdKey n) with
        | some w => (true, r.2.retPut p (retSet (u.fwdKey n)) w 0)
        | none => r) (false, u))).2.fwdDone n (if ((List.range 16).foldl (fun (r : Bool × State) p =>
        match r.2.retFind p (u.fwdKey n) with
        | some w => (true, r.2.retPut p (retSet (u.fwdKey n)) w 0)
        | none => r) (false, u)).1 then 0 else 1)))

/-- R110, R116, R117, R121, R392: READ, WRITE and REPAIR of the tables of configuration. A read loads the entry and reports PARITY where the page's copy fails; an index that names no entry is INVALID; a dimension entry is stored with its slice's datum, but in a bank in use, or for a slice being purged, BUSY and unchanged; a spray set is stored when neither its old nor its new slice is so held; an admission word is staged and changes nothing in force; a port's word is stored with the module's datum. REPAIR of a dimension entry that fails parity rewrites it and leaves the datum. -/
def Obligations.ConfigurationTableCommands : Prop :=
  ∀ (s u : State) (n : Nat), n < 16 → s.served (0x40 + n) 0x200 → u = s.event (0x40 + n) 4 →
    (∀ table bank, 1 ≤ table → table < 16 → bank < 2 → fwdIdxOk table (u.fwdKey n) = true →
      exec (.fwdRead n table bank) s = .next ((u.fwdLoad n (u.fwdEntry table bank (u.fwdKey n))).fwdDone n
        (if u.fwdBad table bank (u.fwdKey n) [n] then 5 else 0))) ∧
    (∀ bank, bank < 2 → fwdIdxOk 2 (u.fwdKey n) = true → u.tblBusy (u.fwdKey n / 512) bank = false →
      exec (.fwdWrite n 2 bank) s = .next (((u.dimStore bank (u.fwdKey n) (u.fwdData n 0 % 65536) true).fwdMend 2 bank (u.fwdKey n)).fwdDone n 0)) ∧
    (∀ bank, bank < 2 → fwdIdxOk 2 (u.fwdKey n) = true → u.tblBusy (u.fwdKey n / 512) bank = true →
      exec (.fwdWrite n 2 bank) s = .next (u.fwdDone n 2)) ∧
    (∀ bank, bank < 2 → fwdIdxOk 3 (u.fwdKey n) = true →
      exec (.fwdWrite n 3 bank) s = .next ((u.admitStage TB_ADMIT_IN (u.fwdKey n) (u.fwdData n 0)).2.fwdDone n
        (u.admitStage TB_ADMIT_IN (u.fwdKey n) (u.fwdData n 0)).1) ∧
      (u.admitStage TB_ADMIT_IN (u.fwdKey n) (u.fwdData n 0)).2.tbl = u.tbl ∧ (u.admitStage TB_ADMIT_IN (u.fwdKey n) (u.fwdData n 0)).2.regs = u.regs) ∧
    (∀ bank, bank < 2 → fwdIdxOk 2 (u.fwdKey n) = true → u.fwdBad 2 bank (u.fwdKey n) (List.range 16) = true →
      ∃ v : State, exec (.repair n 2 bank) s = .next (v.fwdDone n 0) ∧ v.tget TB_DIM bank (u.fwdKey n) 0 = u.fwdData n 0 % 65536 ∧
        v.dtm = u.dtm ∧ v.isBad TB_DIM bank (u.fwdKey n) 0 n = false) ∧
    (∀ table bank, table < 16 → bank < 2 → fwdIdxOk table (u.fwdKey n) = false →
      (1 ≤ table → exec (.fwdRead n table bank) s = .next (u.fwdDone n 3)) ∧ exec (.fwdWrite n table bank) s = .next (u.fwdDone n 3) ∧ exec (.repair n table bank) s = .next (u.fwdDone n 3)) ∧
    (∀ bank, bank < 2 → u.fwdKey n < 1024 → exec (.fwdWrite n 5 bank) s = .next ((((u.lpStore (u.fwdKey n) (u.fwdData n 0)).coverMod 5 (u.fwdKey n)
      (lpCovered (u.lpWord (u.fwdKey n))) (lpCovered ((u.lpStore (u.fwdKey n) (u.fwdData n 0)).lpWord (u.fwdKey n)))).fwdMend 5 0 (u.fwdKey n)).fwdDone n 0)) ∧
    (∀ bank, bank < 2 → u.fwdKey n < 16384 → fld (u.fwdData n 0) 16 7 ≤ 64 → u.tblBusy (fld (u.tget TB_SPRAY bank (u.fwdKey n) 0) 0 12) bank = false →
      u.tblBusy (fld (u.fwdData n 0) 0 12) bank = false → exec (.fwdWrite n 1 bank) s =
        .next (((u.sprayStore bank (u.fwdKey n) ((List.range 12).map fun w => sprayMask w (u.fwdData n w)) true).fwdMend 1 bank (u.fwdKey n)).fwdDone n 0))

/-- R99, R107, R113, R122: slices change banks and finish draining; a pipeline's generator is seeded, zero taken as 1; an aging tick ages every entry that is neither static nor empty and removes those of age 2; the shadow compare runs only out of SERVICE and when enabled, entry by entry; an entry of which a copy fails parity is counted as a mismatch, and a pass that is through counts itself and starts again. -/
def Obligations.EpochsAgingSeedsAndShadow : Prop :=
  ((∀ (s : State) (u sl : Nat) (e : CrnEff), s.alive = true → u < 32 → s.effDue u 3 = some e → sl = e.arg % 4096 → s.sliceState sl = 1 →
    s.flag FWD_SLICE_EPOCH_draining 0 sl = false →
    ∃ t : State, exec (.tableFlip u) s = .next (t.setResult u true) ∧ t.rd FWD_SLICE_EPOCH_cur_epoch 0 sl = (1 - s.rd FWD_SLICE_EPOCH_cur_epoch 0 sl) % 2 ∧
      t.rd FWD_SLICE_EPOCH_draining 0 sl = 1 ∧ t.fwd.drainEnd.getD 0 sl = s.cyc + usCyc (max 10 (s.rd FWD_DRAIN_drain_us)) ∧
      t.dtm.sgrace.getD 0 sl = s.cyc + usCyc (s.rd DTM_CFG_grace_us) ∧ t.tbl = s.tbl ∧ t.flights = s.flights) ∧
  (∀ (s : State) (sl : Nat), s.alive = true → sl < 4096 → s.flag FWD_SLICE_EPOCH_draining 0 sl = true → s.fwd.drainEnd.getD 0 sl ≤ s.cyc →
    ∃ t : State, exec (.drainExpiry sl) s = .next t ∧ t.rd FWD_SLICE_EPOCH_draining 0 sl = 0 ∧
      t.rd FWD_SLICE_EPOCH_cur_epoch 0 sl = s.rd FWD_SLICE_EPOCH_cur_epoch 0 sl ∧ t.tbl = s.tbl) ∧
  (∀ (s : State) (n : Nat) (w : Wr), n < 16 → s.served (0x40 + n) 0x120 →
    ∃ t : State, exec (.fwdSeedWrite n w) s = .next t ∧ t.fwd.gen.getD 0 n =
      (if w.merge FWD_SEED_seed.lo FWD_SEED_seed.w (s.rd FWD_SEED_seed n) % 2 ^ FWD_SEED_seed.w = 0 then 1
        else w.merge FWD_SEED_seed.lo FWD_SEED_seed.w (s.rd FWD_SEED_seed n) % 2 ^ FWD_SEED_seed.w)) ∧
  (∀ (s : State) (n : Nat), s.alive = true → n < 16 → s.rd FWD_AGE_tick_ms n ≠ 0 → s.fwd.ageAt.getD 0 n + msCyc (s.rd FWD_AGE_tick_ms n) ≤ s.cyc →
    exec (.ageTick n) s = .next ((s.retList n).foldl (fun s (i, e) =>
      if bit e 49 = false ∨ bit e 48 = true then s
      else if 2 ≤ fld e 46 2 then (s.retAt n i 0).cnt FWD_RET_AGED_count n
      else s.retAt n i (setFld e 46 2 (fld e 46 2 + 1))) { s with fwd := { s.fwd with ageAt := s.fwd.ageAt.set 0 n s.cyc } }))) ∧
  (∀ (s : State), s.alive = true → s.rd FWD_TMODE_mode = 0 ∨ s.flag FWD_SHADOW_CTRL_enable = false → exec .shadowComparePass s = .next s) ∧
  (∀ (s u : State) (tb b i off : Nat), s.alive = true → s.rd FWD_TMODE_mode ≠ 0 → s.flag FWD_SHADOW_CTRL_enable = true → shadowAt s.fwd.walk = (tb, b, i, off) →
    u = s.shadowOne tb b i off (s.shadowBytes tb b i) →
    (s.fwd.walk + 1 < shadowCount → exec .shadowComparePass s = .next { u with fwd := { u.fwd with walk := s.fwd.walk + 1 } }) ∧
    (s.fwd.walk + 1 = shadowCount → exec .shadowComparePass s =
      .next (({ u with fwd := { u.fwd with walk := 0 } } : State).wr FWD_SHADOW_CTRL_pass_count (u.rd FWD_SHADOW_CTRL_pass_count + 1))) ∧
    (∀ v : State, v = (s.readRes ((s.rd FWD_SHADOW_BASE_base * 2 ^ 24 + off) / 4 * 4) (((s.shadowBytes tb b i).length + 3) / 4)).2 →
      s.fwdBad tb b i (List.range 16) = true → v.flag FWD_SHADOW_FIRST_valid = true → u = v.cnt FWD_SHADOW_MISMATCH_count))


/-- R108: the effect of a TABLE_FLIP for a slice that is still draining. The unit's result reads 2, REJECTED_TARGET; flip_rejected of the slice and bit 3 of FWD00's PAGE_IRQ_STATUS set; the slice keeps its epoch and goes on draining, and no table changes. -/
def Obligations.FlipWhileDrainingIsRejected : Prop :=
  ∀ (s : State) (u sl : Nat) (e : CrnEff), s.alive = true → u < 32 → s.effDue u 3 = some e → sl = e.arg % 4096 → s.flag FWD_SLICE_EPOCH_draining 0 sl = true →
    ∃ t : State, exec (.tableFlip u) s = .next t ∧ t.rd CRN_U_STATUS_result 0 u = 2 ∧ t.rd FWD_SLICE_EPOCH_flip_rejected 0 sl = 1 ∧ bit (t.rd PAGE_IRQ_STATUS_bits 0x40) 3 = true ∧
      t.rd FWD_SLICE_EPOCH_cur_epoch 0 sl = s.rd FWD_SLICE_EPOCH_cur_epoch 0 sl ∧ t.rd FWD_SLICE_EPOCH_draining 0 sl = s.rd FWD_SLICE_EPOCH_draining 0 sl ∧ t.tbl = s.tbl

/-- R75, R76, R92 (steps 1 to 5), R125, R139, R285: a whole packet that the receiving link layer accepts. Within its credits (beyond them it is counted), with cells and with its port's configuration word readable, it goes on to the pipeline of its port's fibre when it passes the checks, its uncorrectable segments marked poisoned; one that fails a check is counted and dropped, its cells and credit given back, and answered by a NAK where that check has a reason. Where no cells are free it is lost and its credit given back. An ACK for an open broadcast entry is such a packet (BROADCAST_ACK). Where the link layer accepts nothing, only the link layer's state changes. A packet cut off by a failing lane is counted, and its replay asked for while its port is up. -/
def Obligations.PacketArrivalIsChecked : Prop :=
  (∀ (s s1 u v : State) (lp pipe n vc : Nat) (r : RxPkt) (raw : List Byte) (p : Pkt), s.alive = true → lp < 1024 → r.cut = false → s.portService lp ≠ [] →
    (s.spoil r.newBad).linkRx lp r = (some raw, s1) → p = Pkt.ofBytes raw → pipe = s1.portFibre lp / 4 → n = (raw.length + 247) / 256 → vc = vcOf p.tc (1 - s1.portDir lp) →
    u = (if 17 + (s1.rx lp).count.getD vc 0 < (s1.rx lp).recv.getD vc 0 + n then s1.cnt LNK_CREDIT_OVF_count (s1.portFibre lp / 8) else s1) →
    v = u.setRx lp { s1.rx lp with recv := (s1.rx lp).recv.set vc ((s1.rx lp).recv.getD vc 0 + n) } →
    (∀ (bufs : List Nat) (w : State), v.takeVc lp vc n = some (bufs, w) → w.isBad TB_LPCFG 0 lp 0 pipe = false →
      (arrivalCheck r.hdrUe p raw.length = none →
        exec (.ingressPacket lp r) s = .next (w.pipeline lp pipe vc (p.withPoison (p.poisonMap ||| r.ueSegs)) bufs)) ∧
      (∀ c, arrivalCheck r.hdrUe p raw.length = some (c, none) →
        exec (.ingressPacket lp r) s = .next (((w.cnt c pipe).freeBufs 0 bufs).returnCredit lp vc n)) ∧
      (∀ c why, arrivalCheck r.hdrUe p raw.length = some (c, some why) →
        exec (.ingressPacket lp r) s = .next ((((w.cnt c pipe).freeBufs 0 bufs).returnCredit lp vc n).nak p pipe why)) ∧
      (∀ e, (s.linkRx lp r).1 = some raw → s.bcAckEntry p lp = some e → arrivalCheck r.hdrUe p raw.length = none →
        exec (.broadcastAck lp r) s = .next (w.pipeline lp pipe vc (p.withPoison (p.poisonMap ||| r.ueSegs)) bufs))) ∧
    (v.takeVc lp vc n = none → exec (.ingressPacket lp r) s = .next ((v.allocFail false 256).returnCredit lp vc n))) ∧
  (∀ (s s1 : State) (lp : Nat) (r : RxPkt), s.alive = true → lp < 1024 → r.cut = false → s.portService lp ≠ [] → (s.spoil r.newBad).linkRx lp r = (none, s1) →
    exec (.ingressPacket lp r) s = .next s1) ∧
  (∀ (s : State) (lp : Nat) (r : RxPkt), s.alive = true → lp < 1024 → r.cut = true →
    (s.cnt XBR_IN_PARTIAL_count).flag LP_CFG_link_up 0 lp = true → exec (.ingressPacket lp r) s = .next ((s.cnt XBR_IN_PARTIAL_count).askReplay lp)) ∧
  (∀ (s : State) (lp : Nat) (r : RxPkt), s.alive = true → lp < 1024 → r.cut = true →
    (s.cnt XBR_IN_PARTIAL_count).flag LP_CFG_link_up 0 lp = false → exec (.ingressPacket lp r) s = .next (s.cnt XBR_IN_PARTIAL_count))

/-- R92 (steps 6 to 9), R103, R105, R106, R149, R285: the pipeline in its order. A packet whose slice its port does not admit, or whose epoch, from another module, is neither the current nor, while draining, the old one, is counted, dropped and answered; a packet from a port to an endpoint takes the current epoch; its source is learned; an ACK for an open broadcast entry is taken by that entry; a packet whose waybill does not resolve is counted, dropped and answered with the reason found; one the policer drops gives its cells and credit back; one that resolves and that the policer passes enters the crossbar for its destination. -/
def Obligations.PipelineStepsInOrder : Prop :=
  ∀ (s s1 s2 : State) (lp pipe vc : Nat) (p p' : Pkt) (bufs : List Nat),
    (s.admits TB_ADMIT_IN pipe lp p.slice = (false, s1) →
      s.pipeline lp pipe vc p bufs = ((((s1.cnt FWD_DROP_SLICE_count pipe).freeBufs 0 bufs).returnCredit lp vc (cellCount p.length)).nak p pipe 3)) ∧
    (s.admits TB_ADMIT_IN pipe lp p.slice = (true, s1) → s1.flag LP_CFG_nbr_class 0 lp = false → p.epoch ≠ s1.rd FWD_SLICE_EPOCH_cur_epoch 0 p.slice →
      s1.flag FWD_SLICE_EPOCH_draining 0 p.slice = false →
      s.pipeline lp pipe vc p bufs = ((((s1.cnt FWD_DROP_EPOCH_count pipe).freeBufs 0 bufs).returnCredit lp vc (cellCount p.length)).nak p pipe 4)) ∧
    (s.admits TB_ADMIT_IN pipe lp p.slice = (true, s1) →
      s1.flag LP_CFG_nbr_class 0 lp = true ∨ p.epoch = s1.rd FWD_SLICE_EPOCH_cur_epoch 0 p.slice ∨ s1.flag FWD_SLICE_EPOCH_draining 0 p.slice = true →
      p' = (if s1.flag LP_CFG_nbr_class 0 lp then { p with epoch := s1.rd FWD_SLICE_EPOCH_cur_epoch 0 p.slice } else p) →
      s2 = s1.learn pipe lp p'.src p'.slice →
      (∀ e, s2.bcAckEntry p' lp = some e →
        s.pipeline lp pipe vc p bufs = ((s2.freeBufs 0 bufs).returnCredit lp vc (cellCount p.length)).bcAckRx e p' lp) ∧
      (∀ (s3 : State) (c : RegD) (why : Nat), s2.bcAckEntry p' lp = none → s2.resolve 9 pipe p' = (.error (c, why), s3) →
        s.pipeline lp pipe vc p bufs = ((((s3.cnt c pipe).freeBufs 0 bufs).returnCredit lp vc (cellCount p.length)).nak p' pipe why)) ∧
      (∀ (s3 s4 : State) (d : Dest) (q : Pkt), s2.bcAckEntry p' lp = none → s2.resolve 9 pipe p' = (.ok (d, q), s3) → s3.police q = (none, s4) →
        s.pipeline lp pipe vc p bufs = (s4.freeBufs 0 bufs).returnCredit lp vc (cellCount p.length)) ∧
      (∀ (s3 s4 : State) (d : Dest) (q q' : Pkt), s2.bcAckEntry p' lp = none → s2.resolve 9 pipe p' = (.ok (d, q), s3) → s3.police q = (some q', s4) →
        s.pipeline lp pipe vc p bufs = s4.enter q' pipe (s4.inCoreOf lp) (some lp) vc d bufs p'.hopPtr))

/-- R104, R125, R127, R128, R131, R132, R134: what moves packets inside the module. Each cell time, at least ten cycles after the last, packets that waited for buffers are tried again, waiting packets are judged, words found in error struck, and in each enabled plane one cell is handed over for each pair matched. A packet whose cells have all been handed over, none missing up to its last, is marked with what was poisoned and placed at its local consumer, or on the egress queue of its port when that port admits its slice, else dropped; a cell missing past the timeout loses its packet, which is counted, raised and answered; a plane fault is counted, marked and raised; a fenced packet goes on when no earlier packet of its order is left. -/
def Obligations.SwitchingCoreMovesPackets : Prop :=
  (∀ (s s1 s2 : State) (lost ue : List (Nat × Nat)) (bad : List Nat) (r : State × List (Nat × Nat × Nat)), s.alive = true → s.xbr.at_ + 10 ≤ s.cyc →
    s1 = ((({ s with xbr := { s.xbr with at_ := s.cyc } } : State).spoil bad).retryReroutes).bcRetry.judgeAll →
    s2 = (ue.map (·.1)).eraseDups.foldl (fun s i => match s.flight i with
      | some x => if x.loc = .voq then (s.strikePacket x ((ue.filter fun e => e.1 = i).map (·.2))).2 else s
      | none => s) s1 →
    r = (bitsOf 5 (s2.rd XBR_CTRL_plane_en)).foldl (fun (r : State × List (Nat × Nat × Nat)) p =>
      ((r.1.matchPlane p s2.requests).1, r.2 ++ (r.1.matchPlane p s2.requests).2.map fun e => (p, e.1, e.2))) (s2, []) →
    exec (.crossbarCellTime lost ue bad) s = .next (r.2.foldl (fun s (p, i, o) => s.handCell p i o (lost.contains (p, i))) r.1)) ∧
  (∀ (s : State) (i o : Nat) (x : Flight), s.alive = true → i < 192 → o < 192 →
    s.flights.find? (fun x => x.loc = .reseq && x.inCore = i && x.outCore = o) = some x →
    s.xbr.miss.any (fun e => e.inp = i && e.out = o && (e.seq = x.lastSeq || pairBefore e.seq x.lastSeq)) = false →
    (∀ l, x.dest = .serai l ∨ x.dest = .host ∨ x.dest = .bcast →
      exec (.packetReassembled i o) s = .next (s.placeQueue { x.marked with admitted := false })) ∧
    (∀ lp s1, x.dest = .lp lp → s.egressSlice x.marked lp = (true, s1) → exec (.packetReassembled i o) s = .next ((s1.countReroute x.marked).placeQueue x.marked)) ∧
    (∀ lp s1, x.dest = .lp lp → s.egressSlice x.marked lp = (false, s1) → exec (.packetReassembled i o) s = .next (s1.dropEgress x.marked lp))) ∧
  (∀ (s : State) (i o c : Nat) (e : MissCell) (x : Flight), s.alive = true → i < 192 → o < 192 →
    s.xbr.miss.filter (fun e => e.inp = i && e.out = o) = [e] → e.later = some c → c + nsCyc (max 100 (s.rd XBR_RESEQ_timeout_ns)) ≤ s.cyc →
    s.flight e.flight = some x →
    exec (.reseqTimeout i o) s = .next ((((({ s with xbr := { s.xbr with miss := s.xbr.miss.filter fun e => !(e.inp = i && e.out = o) } } : State).dropFlight x).cnt
      XBR_RESEQ_LOST_count).irq 9 1).nak x.pkt x.pipe 8)) ∧
  (∀ (s : State) (p : Nat), s.alive = true → p < 5 → exec (.planeFault p) s =
    .next (((s.cnt XBR_PLANE_ERR_count).wr XBR_PLANE_STATUS_plane_err (s.rd XBR_PLANE_STATUS_plane_err ||| 1 <<< p)).irq 9 0)) ∧
  (∀ (s : State), s.alive = true → exec .fenceRelease s = .next { s with flights := s.flights.map fun (x : Flight) =>
    if x.loc = .fence && !(s.ordered x && s.earlier x) then { x with loc := x.dest.place } else x })

/-- R145 to R147, R150, R153: what serves the egress queues. EGRESS_DEQUEUE: the scheduler's queue hands its head packet, marked with what was poisoned, to the link layer; the packet is in the module no more, its queue's shaper and deficit are charged its wire length and the time its sending ends is kept. SHAPER_TICK: the buckets gain for the cell times that have passed, and none before one has. GATE_ENTRY_CHANGE: a running list takes the entry in which the clock now stands, counted from the list's base, that entry's end with it; a list that does not run stays. LOAD_REFRESH: 40 cycles after the last, the whole set of loads is replaced by the cells now queued. SPILL_READBACK: below on_die_resume, with the spill rate and the cells to spare, the first packet of the chain is read back onto its queue; one of a slice under purge is dropped. -/
def Obligations.EgressQueuesServe : Prop :=
  (∀ (s s1 s2 s3 t a b : State) (lp q : Nat) (ue : List Nat) (x y : Flight), s.alive = true → lp < 1024 →
    s1 = ((s.gateNow lp).purgeHeads lp s.flights.length).headChecks lp →
    s1.serve lp ((s1.portQueues lp).filter (s1.qEligible lp)) = (some q, s2) → s2.qhead q = some x → s2.strikePacket x ue = (some y, s3) →
    s3.handTx lp y.marked (vcOf y.marked.pkt.tc (s1.portDir lp)) = some t → a = (t.dropFlight y.marked).chargeShaper q (wireLen y.marked.pkt.length) →
    b = { a with qsh := { a.qsh with deficit := a.qsh.deficit.set 0 q (a.qsh.deficit.getD 0 q - wireLen y.marked.pkt.length), sendEnd := a.qsh.sendEnd.put lp (y.marked.pkt.tc, a.fclk + sendHalf (wireLen y.marked.pkt.length) (a.portService lp).length * 2 ^ 47) } } →
    ∃ u : State, exec (.egressDequeue lp ue) s = .next u ∧ (∀ z ∈ u.flights, z.id ≠ y.id) ∧
      u = ((((b.event 11 0x10 (some y.marked.pkt.tc)).event 11 0x11 (some y.marked.pkt.tc) (wireLen y.marked.pkt.length)).ageSample y.marked.pkt).emptied q)) ∧
  (∀ (s : State), s.alive = true → 10 ≤ s.cyc - s.qsh.tickAt →
    exec .shaperTick s = .next ((s.tbl.filter fun (k, _) => k / 16 / 2 ^ 25 = TB_SHAPER && k % 16 = 0).foldl
      (fun s' (k, w0) => s'.shape ((s.cyc - s.qsh.tickAt) / 10) (k / 16 % 2 ^ 24) w0)
      { s with qsh := { s.qsh with tickAt := s.qsh.tickAt + 10 * ((s.cyc - s.qsh.tickAt) / 10) } })) ∧
  (∀ (s : State), s.alive = true → s.cyc - s.qsh.tickAt < 10 → exec .shaperTick s = .next s) ∧
  (∀ (s : State) (lp k i e : Nat) (l : List (Nat × Nat)), s.alive = true → lp < 1024 → (s.gate lp).running = true → l = s.gateList lp (s.gate lp).bank →
    i < l.length → cycleTime (l.take i) ≤ e → e < cycleTime (l.take (i + 1)) → (s.fclk - (s.gate lp).base) / 2 ^ 47 = k * cycleTime l + e → (s.gate lp).base ≤ s.fclk →
    exec (.gateEntryChange lp) s =
      .next (s.setGate lp { s.gate lp with entry := i, entryEnd := (s.gate lp).base + (k * cycleTime l + cycleTime (l.take (i + 1))) * 2 ^ 47 })) ∧
  (∀ (s : State) (lp : Nat), s.alive = true → lp < 1024 → (s.gate lp).running = false → exec (.gateEntryChange lp) s = .next s) ∧
  (∀ (s : State), s.alive = true → s.qsh.loadAt + 40 ≤ s.cyc →
    exec .loadRefresh s = .next { s with qsh := { s.qsh with load := s.heldPorts.foldl (fun m p => SMap.set 0 p (s.portCells p) m) [], loadAt := s.cyc } }) ∧
  (∀ (s : State), s.alive = true → s.cyc < s.qsh.loadAt + 40 → exec .loadRefresh s = .next s) ∧
  (∀ (s : State) (q b off : Nat) (x : Flight), s.alive = true → q < 262144 →
    s.flights.find? (fun x => x.queue = q && x.loc.spilled) = some x → x.loc = .spill b off → s.spillFree = true → s.queueCells q < s.rd QSH_SPILL_MARKS_on_die_resume →
    (∀ (t t' : State) (p : Pkt) (bufs : List Nat), s.purged x = false → s.admitted q x.pkt x.cells = true → s.takeShared x.cells = some (bufs, t) →
      (t.useSpill (spillBytes x.pkt)).unspill x b off = (some p, t') →
      exec (.spillReadback q) s = .next ((t'.unchain q b).placeQueue { x with pkt := p, bufs := bufs })) ∧
    (∀ t : State, t = s.useSpill (spillBytes x.pkt) → s.purged x = true →
      exec (.spillReadback q) s = .next (((({ t with flights := s.flights.filter fun y => y.id ≠ x.id } : State).unchain q b)).cnt DTM_PURGE_DROP_count)))

/-- R110, R148, R150, R159: the tables of QSH. READ loads an entry's words and reports PARITY where a stored word fails; WRITE of a shaper fills its bucket, of a policer keeps the slice's datum, of the gate list's bank in force is BUSY, of a port's gate configuration is stored, of a queue-group word is staged. A table or an entry that does not exist, a length adjustment below -64 and a peak rate below the committed one are INVALID; a policer or a queue group of a slice under purge is BUSY. `u` is the state once the access has been counted. -/
def Obligations.QueueTableCommands : Prop :=
  ∀ (s u : State) (k d0 d1 : Nat), s.served 11 0x200 → u = s.event 11 4 → k = u.rd QSH_TKEY_key → d0 = u.rd QSH_TDATA_data 0 0 → d1 = u.rd QSH_TDATA_data 0 1 →
    (∀ table bank tb n, table < 16 → bank < 2 → qshTable table = some (tb, n) → k < n →
      exec (.qshRead table bank) s = .next (((u.qshEntry table tb (if table = 3 then bank else 0) k).zipIdx.foldl (fun s (v, w) => s.wr QSH_TDATA_data v 0 w) u).qshDone
        (if u.isBad tb (if table = 3 then bank else 0) k 0 16 || u.isBad tb (if table = 3 then bank else 0) k 1 16 then 5 else 0))) ∧
    (∀ bank, bank < 2 → k < 262144 → -64 ≤ toSigned 9 (fld d0 48 9) →
      ∃ v : State, exec (.qshWrite 0 bank) s = .next (v.qshDone 0) ∧
        v.tget TB_SHAPER 0 k 0 = (fld d0 0 22 ||| fld d0 24 24 <<< 24 ||| fld d0 48 9 <<< 48) % 2 ^ 64 ∧
        v.qsh.bucket.getD 0 k = ((fld (fld d0 0 22 ||| fld d0 24 24 <<< 24 ||| fld d0 48 9 <<< 48) 24 24 * 1600 : Nat) : Int)) ∧
    (∀ bank, bank < 2 → k < 256 → exec (.qshWrite 1 bank) s = .next (((u.tset TB_WRR 0 k 0 (fld d0 0 8)).mend TB_WRR 0 k 0).qshDone 0)) ∧
    (∀ bank, bank < 2 → k < 32768 → fld d0 0 22 ≤ fld d0 22 22 → u.sliceState (k / 8) ≠ 2 →
      exec (.qshWrite 2 bank) s = .next ((((u.policerStore k (fld d0 0 47) (fld d1 0 48)).mend TB_POLICER 0 k 0).mend TB_POLICER 0 k 1).qshDone 0)) ∧
    (∀ bank, bank < 2 → k < 65536 → (u.gate (k / 64)).running = true → (u.gate (k / 64)).bank = bank → exec (.qshWrite 3 bank) s = .next (u.qshDone 2)) ∧
    (∀ bank, bank < 2 → k < 65536 → ((u.gate (k / 64)).running && (u.gate (k / 64)).bank = bank) = false →
      exec (.qshWrite 3 bank) s = .next (((u.tset TB_TGATE bank k 0 (fld d0 0 32)).mend TB_TGATE bank k 0).qshDone 0)) ∧
    (∀ bank, bank < 2 → k < 4096 → u.sliceState k ≠ 2 →
      exec (.qshWrite 5 bank) s = .next ((u.stageWord TB_QGMAP k 0 (fld d0 0 5 ^^^ qgDefault k)).qshDone 0)) ∧
    (∀ bank, bank < 2 → k < 1024 → bit d0 0 = true →
      exec (.qshWrite 4 bank) s = .next (((u.tset TB_TGCFG 0 k 0 (fld d0 0 1 ||| fld d0 8 8 <<< 8)).mend TB_TGCFG 0 k 0).qshDone 0)) ∧
    (∀ table bank, table < 16 → bank < 2 → qshTable table = none ∨ (∃ tb n, qshTable table = some (tb, n) ∧ n ≤ k) →
      exec (.qshRead table bank) s = .next (u.qshDone 3) ∧ exec (.qshWrite table bank) s = .next (u.qshDone 3)) ∧
    (∀ bank, bank < 2 → k < 262144 → toSigned 9 (fld d0 48 9) < -64 → exec (.qshWrite 0 bank) s = .next (u.qshDone 3)) ∧
    (∀ bank, bank < 2 → k < 32768 → fld d0 22 22 < fld d0 0 22 → exec (.qshWrite 2 bank) s = .next (u.qshDone 3)) ∧
    (∀ bank, bank < 2 → k < 32768 → fld d0 0 22 ≤ fld d0 22 22 → u.sliceState (k / 8) = 2 → exec (.qshWrite 2 bank) s = .next (u.qshDone 2)) ∧
    (∀ bank, bank < 2 → k < 4096 → u.sliceState k = 2 → exec (.qshWrite 5 bank) s = .next (u.qshDone 2))

/-- R167, R168, R170, R172, R173, R474: a contribution at the port of a logical core. A core asleep is woken and the packet waits; with the arrival queue full or the core being fenced it waits. Otherwise it meets the checks in their order: context and slice; form; e2e_check; lateness; a convoy running and the chunk in its range and window; a piece seen before; a new chunk is opened, or refused with the cause found. Each refusal is counted and answered as its check says. A piece that passes all is counted and handed to the arrival queue; of an operation without a tally it first takes a staging buffer, and waits where there is none. -/
def Obligations.ContributionMeetsItsChecks : Prop :=
  ∀ (s : State) (l ph : Nat) (x : Flight) (p : Pkt), s.alive = true → l < 64 → s.headLocal (.serai l) = some x → p = x.pkt → s.physOf l = some ph →
    (s.coreAsleep ph = true → exec (.contributionArrival l) s = .next (s.wakeCore ph true)) ∧
    (s.coreAsleep ph = false → p.kind = 1 → 32 ≤ (s.core ph).aq.length ∨ s.ser.fencing.contains l = true → exec (.contributionArrival l) s = .next s) ∧
    (s.coreAsleep ph = false → p.kind = 1 → (s.core ph).aq.length < 32 → s.ser.fencing.contains l = false →
      (s.arriveSlice p = false → exec (.contributionArrival l) s = .next (((s.dropFlight x).cnt SRG_DROP_SLICE_count).nak p x.pipe 3)) ∧
      (s.arriveSlice p = true → s.arriveForm p = false → exec (.contributionArrival l) s = .next ((s.dropFlight x).cnt SRG_MALFORMED_count)) ∧
      (s.arriveSlice p = true → s.arriveForm p = true → e2eOf p.payload ≠ p.e2e →
        exec (.contributionArrival l) s = .next (((s.dropFlight x).cnt SRG_E2E_BAD_count).nak p x.pipe 5)) ∧
      (∀ why u, s.arriveSlice p = true → s.arriveForm p = true → e2eOf p.payload = p.e2e → s.arriveLate p = some why →
        u = (((((s.dropFlight x).cnt SRG_LATE_count).wr SRG_LATE_LOC_ctx p.ctx).wr SRG_LATE_LOC_member p.member).wr SRG_LATE_LOC_attempt p.attempt).wr SRG_LATE_LOC_valid 1 →
        exec (.contributionArrival l) s = .next (((u.wr SRG_LATE_LOC_chunk p.chunk).irq 12 4).nak p x.pipe why)) ∧
      (s.arriveSlice p = true → s.arriveForm p = true → e2eOf p.payload = p.e2e → s.arriveLate p = none → s.ctxActive p.ctx = false →
        exec (.contributionArrival l) s = .next ((s.dropFlight x).noRes p x.pipe 1)) ∧
      (s.arriveSlice p = true → s.arriveForm p = true → e2eOf p.payload = p.e2e → s.arriveLate p = none → s.ctxActive p.ctx = true →
        (s.ctxBase p.ctx + s.ctxLen p.ctx ≤ p.chunk ∨ s.ctxFloor p.ctx + s.ctxAhead p.ctx ≤ p.chunk) →
        exec (.contributionArrival l) s = .next ((s.dropFlight x).noRes p x.pipe 2)) ∧
      (s.arriveSlice p = true → s.arriveForm p = true → e2eOf p.payload = p.e2e → s.arriveLate p = none → s.ctxActive p.ctx = true →
        p.chunk < s.ctxBase p.ctx + s.ctxLen p.ctx → p.chunk < s.ctxFloor p.ctx + s.ctxAhead p.ctx →
        (∀ k, s.chunk? p.ctx p.chunk = some k → k.live = true → bit (k.pcs.getD 0 (p.member * 64 + p.seq % 65536)) 15 = true →
          exec (.contributionArrival l) s = .next (s.dupPiece k x (k.pcs.getD 0 (p.member * 64 + p.seq % 65536)))) ∧
        (∀ k, s.chunk? p.ctx p.chunk = some k → k.live = true → bit (k.pcs.getD 0 (p.member * 64 + p.seq % 65536)) 15 = false →
          hasTally k.operation = true → exec (.contributionArrival l) s = .next (s.countPiece k x)) ∧
        (∀ k, s.chunk? p.ctx p.chunk = some k → k.live = true → bit (k.pcs.getD 0 (p.member * 64 + p.seq % 65536)) 15 = false → hasTally k.operation = false →
          (∀ k' s1, s.takeStage k 2 = (some k', s1) → exec (.contributionArrival l) s = .next ((s1.setChunk k').countPiece k' x)) ∧
          (∀ s1, s.takeStage k 2 = (none, s1) → exec (.contributionArrival l) s = .next s1)) ∧
        (∀ k k' s1 s2, s.chunk? p.ctx p.chunk = none → s.openChunk p l = (.ok k, s1) → hasTally k.operation = false → s1.takeStage k 2 = (some k', s2) →
          exec (.contributionArrival l) s = .next ((s2.enterChunk k').countPiece k' x)) ∧
        (∀ k s1, s.chunk? p.ctx p.chunk = none → s.openChunk p l = (.ok k, s1) → hasTally k.operation = true →
          exec (.contributionArrival l) s = .next ((s1.enterChunk k).countPiece k x)) ∧
        (∀ cause s1, s.chunk? p.ctx p.chunk = none → s.openChunk p l = (.error cause, s1) →
          exec (.contributionArrival l) s = .next ((s1.dropFlight x).noRes p x.pipe cause))))

/-- R169, R174, R175, R176, R178: a chunk still open past its straggler deadline is marked, counted and raised once, its late members enter the statistics where those are on, and the record goes to telemetry where the policy says so; one open past its hard timeout is aborted with reason 1, unless a contribution made it COMPLETE in the very cycle of the timeout; one RETAINED for its window is released, and its convoy ends when it was the last. -/
def Obligations.ChunkDeadlines : Prop :=
  ∀ (s : State) (c chunk : Nat) (k : Chunk), s.alive = true → c < 65536 → s.chunk? c chunk = some k →
    (∀ u v : State, (k.state = 1 ∨ k.state = 2) → k.straggled = false → s.cx c 2 0 32 ≠ 0 → k.openAt + s.cx c 2 0 32 * NS ≤ s.fclk →
      u = ((s.setChunk { k with straggled := true }).cnt SRG_STRAGGLE_count).irq 12 2 →
      v = (if u.cx c 3 40 1 = 1 then (k.contributors.filter fun m => !k.memberDone m).foldl (fun s m => s.statsAdd (s.cx c 3 32 8) m 0 1 0) u else u) →
      exec (.straggleDeadline c chunk) s = .next (if v.flag SRG_STRAGGLE_POLICY_policy
        then v.telStraggler c k.slice chunk k.openAt (k.contributors.filter fun m => !k.memberDone m).length else v)) ∧
    (1 ≤ k.state → k.state ≤ 3 → k.openAt + s.cx c 2 32 32 * 1000 * NS ≤ s.fclk →
      ¬(k.state = 3 ∧ k.openAt + s.cx c 2 32 32 * 1000 * NS ≤ k.compAt ∧ k.compAt < k.openAt + s.cx c 2 32 32 * 1000 * NS + s.clkStep) →
      exec (.chunkTimeout c chunk) s = .next (s.abort k 1)) ∧
    (k.state = 3 → k.openAt + s.cx c 2 32 32 * 1000 * NS ≤ k.compAt → k.compAt < k.openAt + s.cx c 2 32 32 * 1000 * NS + s.clkStep →
      exec (.chunkTimeout c chunk) s = .next s) ∧
    (k.state = 6 → k.retention = 1 → k.retAt + s.cx c 3 0 32 * 1000 * NS ≤ s.fclk →
      exec (.retainExpiry c chunk) s = .next ((s.release k).finish c))

/-- R141, R179, R182, R183, R216: results leave a core and their NAKs come back. The emit engine of a core that is ON sends the head of its queue, feeds the queue with released pieces and serves what waits; a piece already begun goes to its last recipient, its staging buffer is freed and the chunk may end, or it waits where no cells are free. A NAK for a retained chunk is re-served, for a chunk that is FINALIZING or EMITTING it is held, for any other it is a miss; a malformed one, or one whose reason does not exist, is counted. -/
def Obligations.ResultsAndTheirNaks : Prop :=
  (∀ (s a b : State) (core ue : Nat), s.alive = true → core < 68 → s.rd SRI_STATE_state core = 3 → a = s.sendPiece core ue →
    b = (a.ser.chunks.filter fun k => k.live && !k.relP.isEmpty && a.physOf k.lcore = some core).foldl (fun s k => s.feed k.ctx k.chunk 64) a →
    exec (.resultPieceSend core ue) s = .next (if b.rd SRI_STATE_lcore_valid core = 1 then b.pumpNaks (b.rd SRI_STATE_lcore core) else b)) ∧
  (∀ (s t t1 : State) (core ue m : Nat) (e : EqEnt) (r : List EqEnt) (k k1 k2 : Chunk) (pm : Nat) (rt : Route) (w : List Byte) (out : Sent), (s.core core).eq = e :: r →
    s.liveChunk e.ctx e.chunk e.gen = some k → k.pm[e.piece.p]? = some pm → k.recipients.drop e.sent = [m] → s.route k.ctx m = some rt →
    k1 = (s.chunk? k.ctx k.chunk).getD k → w = (if k.operation = 4 then [] else e.piece.bytes k.fmt (pieceCount k.fmt k.elems e.piece.p)) →
    s.sendResult k1 e.piece.p m 0 w (k1.pm.getD e.piece.p 0) rt (k.lcore / 4) = (out, t) →
    t1 = t.setCore core { t.core core with eq := (t.core core).eq.drop 1 } → k2 = (t1.chunk? k.ctx k.chunk).getD k →
    (out ≠ .again → s.sendPiece core ue = ((t1.freeStage [] (k2.emit.take 1) []).setChunk { k2 with emit := k2.emit.drop 1, sent := k2.sent + 1 }).tryEnd k.ctx k.chunk) ∧
    (out = .again → s.sendPiece core ue = t.setCore core { t.core core with eq := { e with sent := e.sent } :: (t.core core).eq.drop 1 })) ∧
  (∀ (s : State) (l ph : Nat) (x : Flight) (reason rk : Nat), s.alive = true → l < 64 → s.headLocal (.serai l) = some x → s.physOf l = some ph →
    s.coreAsleep ph = false → x.pkt.kind = 3 →
    (ackRead x.pkt = none → exec (.resultNak l) s = .next ((s.dropFlight x).cnt SRG_MALFORMED_count)) ∧
    (ackRead x.pkt = some (1, reason, rk) → rk ≠ 6 → e2eOf x.pkt.payload = x.pkt.e2e → 1 ≤ reason → reason ≤ 10 →
      (∀ k, (s.dropFlight x).chunk? x.pkt.ctx x.pkt.chunk = some k → k.state = 6 → exec (.resultNak l) s = .next ((s.dropFlight x).reserveNak k x)) ∧
      (∀ k, (s.dropFlight x).chunk? x.pkt.ctx x.pkt.chunk = some k → k.state = 4 ∨ k.state = 5 →
        exec (.resultNak l) s = .next ((s.dropFlight x).setChunk { k with naks := k.naks ++ [x] })) ∧
      (∀ k, (s.dropFlight x).chunk? x.pkt.ctx x.pkt.chunk = some k → k.state < 4 ∨ 6 < k.state → exec (.resultNak l) s = .next ((s.dropFlight x).reserveMiss x.pkt x.pipe)) ∧
      ((s.dropFlight x).chunk? x.pkt.ctx x.pkt.chunk = none → exec (.resultNak l) s = .next ((s.dropFlight x).reserveMiss x.pkt x.pipe))) ∧
    (ackRead x.pkt = some (1, reason, rk) → rk ≠ 6 → e2eOf x.pkt.payload = x.pkt.e2e → reason = 0 ∨ 10 < reason →
      exec (.resultNak l) s = .next ((s.dropFlight x).cnt SRG_MALFORMED_count)))

/-- R160, R162, R164, R185, R220, R249, R293: the SRG table commands. READ loads the entry of CTX, MEMBER, STATS or BCTREE, with PARITY where a stored word of it fails; WRITE stores a context that is not running and whose slices are not being purged, INVALID where it breaks a limit, a member that no running context uses, and the broadcast tree of a slice not being purged, each with its datum; SEARCH shows a chunk's state; START makes a valid context of a slice in force ACTIVE with its floor at its base when its kernel runs its operation, is BUSY for a context already running and INVALID, counted and located, where its kernel is absent; ABORT of a context or of a live or RETAINED chunk, RELEASE of retained chunks below a number and CLEAR of statistics do as they say; a table they do not know is INVALID. `u` is the state once the access has been counted. -/
def Obligations.CollectiveTableCommands : Prop :=
  ∀ (s u : State), s.served 12 0x200 → u = s.event 12 4 →
    (exec (.srgRead 0) s = .next ((u.srgLoad ((List.range 8).map fun w => u.tget TB_CTX 0 u.srgIdx w)).srgDone (if u.ctxBad u.srgIdx then 5 else 0)) ∧
     exec (.srgRead 1) s = .next ((u.srgLoad [u.tget TB_MEMBER 0 u.srgIdx 0]).srgDone (if u.isBad TB_MEMBER 0 u.srgIdx 0 16 then 5 else 0)) ∧
     (u.srgIdx < 256 → exec (.srgRead 3) s = .next ((u.srgLoad [u.tget TB_STATS 0 (u.srgIdx * 1024 + u.rd SRG_TKEY_member) 0]).srgDone 0)) ∧
     (256 ≤ u.srgIdx → exec (.srgRead 3) s = .next (u.srgDone 3)) ∧
     exec (.srgRead 4) s = .next ((u.srgLoad [u.tget TB_BCTREE 0 (u.srgIdx % 4096) 0]).srgDone (if u.isBad TB_BCTREE 0 (u.srgIdx % 4096) 0 16 then 5 else 0))) ∧
    (u.memberBusy u.srgIdx = false → fld (u.rd SRG_TDATA_data 0 0) 38 2 ≠ 3 → exec (.srgWrite 1) s =
      .next ((((u.coverMod 6 u.srgIdx (u.tget TB_MEMBER 0 u.srgIdx 0) (fld (u.rd SRG_TDATA_data 0 0) 0 41)).tset TB_MEMBER 0 u.srgIdx 0 (fld (u.rd SRG_TDATA_data 0 0) 0 41)).mend
        TB_MEMBER 0 u.srgIdx 0).srgDone 0)) ∧
    (u.memberBusy u.srgIdx = true → exec (.srgWrite 1) s = .next (u.srgDone 2)) ∧
    (u.sliceState (u.srgIdx % 4096) ≠ 2 → exec (.srgWrite 4) s = .next ((((u.coverSl (u.srgIdx % 4096) 0x27 0 (u.tget TB_BCTREE 0 (u.srgIdx % 4096) 0)
      (u.rd SRG_TDATA_data 0 0)).tset TB_BCTREE 0 (u.srgIdx % 4096) 0 (u.rd SRG_TDATA_data 0 0)).mend TB_BCTREE 0 (u.srgIdx % 4096) 0).srgDone 0)) ∧
    (u.sliceState (u.srgIdx % 4096) = 2 → exec (.srgWrite 4) s = .next (u.srgDone 2)) ∧
    (u.ctxActive u.srgIdx = false → u.sliceState (u.ctxSlice u.srgIdx) ≠ 2 → u.sliceState (fld (ctxMask 0 (u.rd SRG_TDATA_data 0 0)) 8 12) ≠ 2 →
      ctxInvalid (fun j => ctxMask j (u.rd SRG_TDATA_data 0 j)) = true → exec (.srgWrite 0) s = .next (u.srgDone 3)) ∧
    (u.ctxValid u.srgIdx = true → u.ctxActive u.srgIdx = false → u.sliceState (u.ctxSlice u.srgIdx) = 1 → u.kernel? (u.ctxKernel u.srgIdx) = none →
      exec (.start 0) s = .next ((u.kernelAbsent u.srgIdx).srgDone 3)) ∧
    (∀ table, 0 < table → table < 16 → exec (.start table) s = .next (u.srgDone 3) ∧ exec (.release table) s = .next (u.srgDone 3) ∧
      (table ≠ 2 → exec (.chunkSearch table) s = .next (u.srgDone 3)) ∧ (table ≠ 2 → exec (.abort table) s = .next (u.srgDone 3)) ∧
      (table ≠ 3 → exec (.clear table) s = .next (u.srgDone 3))) ∧
    (u.ctxActive u.srgIdx = false → u.sliceState (u.ctxSlice u.srgIdx) ≠ 2 → u.sliceState (fld (ctxMask 0 (u.rd SRG_TDATA_data 0 0)) 8 12) ≠ 2 →
      ctxInvalid (fun j => ctxMask j (u.rd SRG_TDATA_data 0 j)) = false →
      exec (.srgWrite 0) s = .next ((u.ctxStore u.srgIdx ((List.range 8).map fun j =>
        if j = 5 then ctxMask 5 (u.rd SRG_TDATA_data 0 5) ||| u.ctxFloor u.srgIdx <<< 32 else ctxMask j (u.rd SRG_TDATA_data 0 j))).srgDone 0)) ∧
    (u.ctxActive u.srgIdx = true → exec (.srgWrite 0) s = .next (u.srgDone 2)) ∧
    (∀ k, u.chunk? u.srgIdx (u.rd SRG_TKEY_chunk) = some k →
      exec (.chunkSearch 2) s = .next ((u.srgLoad [k.state ||| k.reason <<< 4 ||| k.lcore <<< 8 ||| (if k.poison then 1 else 0) <<< 14,
        k.openAt / NS % 10 ^ 9 * 65536 + k.openAt / 2 ^ 32 % 65536, (k.contributors.filter k.memberDone).length]).srgDone 0)) ∧
    (u.chunk? u.srgIdx (u.rd SRG_TKEY_chunk) = none → exec (.chunkSearch 2) s = .next (u.srgDone 1)) ∧
    (∀ k, u.ctxValid u.srgIdx = true → u.ctxActive u.srgIdx = false → u.sliceState (u.ctxSlice u.srgIdx) = 1 →
      u.kernel? (u.ctxKernel u.srgIdx) = some k → bit k.ops (u.ctxOper u.srgIdx) = true → u.ctxLdg u.srgIdx = false → u.ctxOper u.srgIdx ≠ 5 →
      ∃ v : State, exec (.start 0) s = .next (v.srgDone 0) ∧
        v = (u.ctxPut u.srgIdx 1 (setFld (u.tget TB_CTX 0 u.srgIdx 1) 7 1 1)).ctxPut u.srgIdx 5
          (setFld ((u.ctxPut u.srgIdx 1 (setFld (u.tget TB_CTX 0 u.srgIdx 1) 7 1 1)).tget TB_CTX 0 u.srgIdx 5) 32 32
            ((u.ctxPut u.srgIdx 1 (setFld (u.tget TB_CTX 0 u.srgIdx 1) 7 1 1)).ctxBase u.srgIdx))) ∧
    (u.ctxActive u.srgIdx = true → exec (.start 0) s = .next (u.srgDone 2)) ∧
    (exec (.abort 0) s = .next ((u.abortCtx u.srgIdx 2).srgDone 0)) ∧
    (∀ k, u.chunk? u.srgIdx (u.rd SRG_TKEY_chunk) = some k → k.live = true ∨ k.state = 6 → exec (.abort 2) s = .next ((u.abort k 2).srgDone 0)) ∧
    (exec (.release 0) s = .next (((u.ser.chunks.filter fun k => k.ctx = u.srgIdx && k.state = 6 && decide (k.chunk < u.rd SRG_TKEY_chunk)).foldl
      (fun s k => s.release k) u).finish u.srgIdx |>.srgDone 0)) ∧
    (u.srgIdx < 256 → exec (.clear 3) s = .next (((List.range 1024).foldl (fun v m => v.tset TB_STATS 0 (u.srgIdx * 1024 + m) 0 0) u).srgDone 0))

/-- R224, R226, R230: control and predicate instructions. NOP moves on; BAR waits for the invocation's stores; BR takes imm when its condition of two untagged scalars holds, or its condition is always, and otherwise faults on a tagged one; BRK tests a predicate for any lane, none, all; KOP combines predicates; ICMP and FCMP write the active lanes of a predicate, a tagged lane giving 0 and setting PSN in the chunk's status (the element recorded with it is a free value, log entry 1). -/
def Obligations.ControlAndPredicateInstructions : Prop :=
  ∀ (s : State) (core : Nat) (i : Inv) (w : Nat),
    (s.atInstr core 0x00 i w → exec (.nop core) s = .next (s.issued core i.next)) ∧
    (s.atInstr core 0x09 i w →
      ((∀ e ∈ (s.core core).sq, e.inv ≠ i.id) → exec (.bar core) s = .next (s.issued core i.next)) ∧
      ((∃ e ∈ (s.core core).sq, e.inv = i.id) → exec (.bar core) s = .next (s.stalled core))) ∧
    (s.atInstr core 0x0A i w →
      (uC w = 6 ∨ (i.sx (uA w)).2 = false ∧ (i.sx (uB w)).2 = false →
        exec (.br core) s = .next (s.issued core { i with pc := if condOk (uC w) 64 (i.sx (uA w)).1 (i.sx (uB w)).1 then uImm w else i.pc + 1 })) ∧
      (uC w ≠ 6 → (i.sx (uA w)).2 = true ∨ (i.sx (uB w)).2 = true → exec (.br core) s = .next (s.faulted core i 0x25))) ∧
    (s.atInstr core 0x0B i w →
      (fld w 0 2 = 0 → exec (.brk core) s = .next (s.issued core { i with pc := if i.pk (uA w) ≠ 0 then fld w 16 16 else i.pc + 1 })) ∧
      (fld w 0 2 = 1 → exec (.brk core) s = .next (s.issued core { i with pc := if i.pk (uA w) = 0 then fld w 16 16 else i.pc + 1 })) ∧
      (fld w 0 2 = 2 → exec (.brk core) s = .next (s.issued core { i with pc := if i.pk (uA w) = 2 ^ 128 - 1 then fld w 16 16 else i.pc + 1 }))) ∧
    (s.atInstr core 0x5A i w → ∃ i' : Inv, exec (.kop core) s = .next (s.issued core i') ∧
      (uC w = 0 → i.predWrite i' w (i.pk (uA w) &&& i.pk (uB w))) ∧ (uC w = 1 → i.predWrite i' w (i.pk (uA w) ||| i.pk (uB w))) ∧
      (uC w = 2 → i.predWrite i' w (i.pk (uA w) ^^^ i.pk (uB w))) ∧ (uC w = 3 → i.predWrite i' w (i.pk (uA w) &&& (i.pk (uB w) ^^^ (2 ^ 128 - 1)))) ∧
      (uC w = 4 → i.predWrite i' w (i.pk (uA w) ^^^ (2 ^ 128 - 1))) ∧ (uC w = 5 → i.predWrite i' w (2 ^ 128 - 1)) ∧ (uC w = 6 → i.predWrite i' w 0)) ∧
    (s.atInstr core 0x58 i w →
      ((∀ l ∈ i.active w, (i.lane (uA w) l).2 = false ∧ (i.laneB w l).2 = false) →
        exec (.icmp core) s = .next (s.issued core (i.setKLanes (uD w) ((i.active w).map fun l => (l, condOk (uC w) 32 (i.lane (uA w) l).1 (i.laneB w l).1))).next)) ∧
      ((∃ l ∈ i.active w, (i.lane (uA w) l).2 = true ∨ (i.laneB w l).2 = true) →
        exec (.icmp core) s = .next (((s.takeFree 7).2.setChunk
          { (s.takeFree 7).2.invChunk i with stm := ((s.takeFree 7).2.invChunk i).stm.note sPSN ((s.takeFree 7).1 % 65536) }).issued core
          (i.setKLanes (uD w) ((i.active w).map fun l =>
            (l, !((i.lane (uA w) l).2 || (i.laneB w l).2) && condOk (uC w) 32 (i.lane (uA w) l).1 (i.laneB w l).1))).next))) ∧
    (s.atInstr core 0x59 i w →
      ((∀ l ∈ i.active w, (i.lane (uA w) l).2 = false ∧ (i.lane (uB w) l).2 = false) →
        exec (.fcmp core) s = .next (s.issued core (i.setKLanes (uD w) ((i.active w).map fun l => (l, fcond (uC w) (i.lane (uA w) l).1 (i.lane (uB w) l).1))).next)) ∧
      ((∃ l ∈ i.active w, (i.lane (uA w) l).2 = true ∨ (i.lane (uB w) l).2 = true) →
        exec (.fcmp core) s = .next (((s.takeFree 7).2.setChunk
          { (s.takeFree 7).2.invChunk i with stm := ((s.takeFree 7).2.invChunk i).stm.note sPSN ((s.takeFree 7).1 % 65536) }).issued core
          (i.setKLanes (uD w) ((i.active w).map fun l =>
            (l, !((i.lane (uA w) l).2 || (i.lane (uB w) l).2) && fcond (uC w) (i.lane (uA w) l).1 (i.lane (uB w) l).1))).next)))

/-- R226, R227, R229, R230: the integer lane instructions write the active lanes of Vd and nothing else. Arithmetic is modulo 2^32, operand b a lane or the sign-extended immediate; shifts are by b modulo 32; a result is poisoned when an operand it uses is. -/
def Obligations.IntegerLaneInstructions : Prop :=
  ∀ core : Nat,
    writesLanes (.iadd core) core 0x50 (fun i w l => ((i.lane (uA w) l).1 + (i.laneB w l).1, (i.lane (uA w) l).2 || (i.laneB w l).2)) ∧
    writesLanes (.isub core) core 0x51 (fun i w l => (ofSigned 32 ((i.lane (uA w) l).1 - (i.laneB w l).1), (i.lane (uA w) l).2 || (i.laneB w l).2)) ∧
    writesLanes (.imul core) core 0x52 (fun i w l => ((i.lane (uA w) l).1 * (i.laneB w l).1, (i.lane (uA w) l).2 || (i.laneB w l).2)) ∧
    writesLanes (.ilog core) core 0x53 (fun i w l =>
      (match uC w with
        | 0 => (i.lane (uA w) l).1 &&& (i.laneB w l).1
        | 1 => (i.lane (uA w) l).1 ||| (i.laneB w l).1
        | 2 => (i.lane (uA w) l).1 ^^^ (i.laneB w l).1
        | _ => (i.lane (uA w) l).1 &&& ((i.laneB w l).1 ^^^ 0xFFFFFFFF), (i.lane (uA w) l).2 || (i.laneB w l).2)) ∧
    writesLanes (.ish core) core 0x54 (fun i w l =>
      (match uC w with
        | 0 => (i.lane (uA w) l).1 * 2 ^ ((i.laneB w l).1 % 32)
        | 1 => (i.lane (uA w) l).1 / 2 ^ ((i.laneB w l).1 % 32)
        | _ => ofSigned 32 (toSigned 32 (i.lane (uA w) l).1 / 2 ^ ((i.laneB w l).1 % 32)), (i.lane (uA w) l).2 || (i.laneB w l).2)) ∧
    writesLanes (.imovi core) core 0x55 (fun _ w _ => (fld w 0 32, false)) ∧
    writesLanes (.lane core) core 0x56 (fun i w l => ((i.sx (uA w)).1 + l, (i.sx (uA w)).2)) ∧
    writesLanes (.sel core) core 0x57 (fun i w l => if bit (i.pk (uC w)) l then i.lane (uA w) l else i.lane (uB w) l) ∧
    writesLanes (.xput core) core 0x67 (fun i w _ => i.sx (uA w))

/-- R227, R229, R231, R232: the FP32 instructions write the active lanes of Vd with the operation of a, b and c after the negations of mod[31:29] and the scalar b of mod[28], rounded by mod[27:26]; the flags of every active lane join FPS; a result is poisoned when an operand it uses is. -/
def Obligations.FloatingLaneInstructions : Prop :=
  ∀ core : Nat,
    let one := fun (f : Nat → Nat → Nat × Nat) =>
      ((fun (i : Inv) (w l : Nat) => ((f (i.fpArgs w l).1.1 (fld w 26 2)).1, (i.fpArgs w l).1.2)), fun (i : Inv) (w l : Nat) => (f (i.fpArgs w l).1.1 (fld w 26 2)).2)
    let two := fun (f : Nat → Nat → Nat → Nat × Nat) =>
      ((fun (i : Inv) (w l : Nat) => ((f (i.fpArgs w l).1.1 (i.fpArgs w l).2.1.1 (fld w 26 2)).1, (i.fpArgs w l).1.2 || (i.fpArgs w l).2.1.2)),
       fun (i : Inv) (w l : Nat) => (f (i.fpArgs w l).1.1 (i.fpArgs w l).2.1.1 (fld w 26 2)).2)
    writesFp (.fadd core) core 0x40 (two fAdd).1 (two fAdd).2 ∧ writesFp (.fmul core) core 0x41 (two fMul).1 (two fMul).2 ∧
    writesFp (.fma core) core 0x42
      (fun i w l => ((fFma (i.fpArgs w l).1.1 (i.fpArgs w l).2.1.1 (i.fpArgs w l).2.2.1 (fld w 26 2)).1, (i.fpArgs w l).1.2 || (i.fpArgs w l).2.1.2 || (i.fpArgs w l).2.2.2))
      (fun i w l => (fFma (i.fpArgs w l).1.1 (i.fpArgs w l).2.1.1 (i.fpArgs w l).2.2.1 (fld w 26 2)).2) ∧
    writesFp (.fmin core) core 0x43 (two fun a b _ => fExt true a b).1 (two fun a b _ => fExt true a b).2 ∧
    writesFp (.fmax core) core 0x44 (two fun a b _ => fExt false a b).1 (two fun a b _ => fExt false a b).2 ∧
    writesFp (.div core) core 0x45 (two fDiv).1 (two fDiv).2 ∧ writesFp (.sqrt core) core 0x46 (one fSqrt).1 (one fSqrt).2 ∧
    writesFp (.rsq core) core 0x47 (one fRsq).1 (one fRsq).2

/-- R226, R229, R230: the scalar instructions write Xd and nothing else (XSTS of FPS also clears FPS). Arithmetic is modulo 2^64; the result is poisoned when an operand it uses is; XMOVI with hi = 1 replaces the upper half and keeps the tag. -/
def Obligations.ScalarInstructions : Prop :=
  ∀ core : Nat,
    writesScalar (.xadd core) core 0x60 (fun i w => ((i.sx (uA w)).1 + (i.scalarB w).1, (i.sx (uA w)).2 || (i.scalarB w).2)) ∧
    writesScalar (.xsub core) core 0x61 (fun i w => (ofSigned 64 ((i.sx (uA w)).1 - (i.scalarB w).1), (i.sx (uA w)).2 || (i.scalarB w).2)) ∧
    writesScalar (.xmul core) core 0x62 (fun i w => ((i.sx (uA w)).1 * (i.scalarB w).1, (i.sx (uA w)).2 || (i.scalarB w).2)) ∧
    writesScalar (.xlog core) core 0x63 (fun i w =>
      (match uC w with
        | 0 => (i.sx (uA w)).1 &&& (i.scalarB w).1
        | 1 => (i.sx (uA w)).1 ||| (i.scalarB w).1
        | 2 => (i.sx (uA w)).1 ^^^ (i.scalarB w).1
        | _ => (i.sx (uA w)).1 &&& ((i.scalarB w).1 ^^^ 0xFFFFFFFFFFFFFFFF), (i.sx (uA w)).2 || (i.scalarB w).2)) ∧
    writesScalar (.xsh core) core 0x64 (fun i w =>
      (match uC w with
        | 0 => (i.sx (uA w)).1 * 2 ^ ((i.scalarB w).1 % 64)
        | 1 => (i.sx (uA w)).1 / 2 ^ ((i.scalarB w).1 % 64)
        | _ => ofSigned 64 (toSigned 64 (i.sx (uA w)).1 / 2 ^ ((i.scalarB w).1 % 64)), (i.sx (uA w)).2 || (i.scalarB w).2)) ∧
    writesScalar (.xmovi core) core 0x65 (fun i w =>
      if uC w = 0 then (ofSigned 64 (toSigned 32 (fld w 0 32)), false) else (setFld (i.sx (uD w)).1 32 32 (fld w 0 32), (i.sx (uD w)).2)) ∧
    writesScalar (.xget core) core 0x66 (fun i w => i.lane (uA w) (fld w 0 7)) ∧
    (∀ (s : State) (i : Inv) (w : Nat), s.atInstr core 0x68 i w → ∃ i' : Inv, exec (.xsts core) s = .next (s.issued core i') ∧
      (uC w = 0 → ({ i with fps := 0 } : Inv).scalarWrite i' w i.fps false) ∧
      (uC w = 1 → i.scalarWrite i' w (i.kacc (uA w)).stm.status false) ∧
      (uC w = 2 → i.scalarWrite i' w ((i.kacc (uA w)).stm.record % 2 ^ 64) false) ∧
      (uC w = 3 → i.scalarWrite i' w ((i.kacc (uA w)).stm.record / 2 ^ 64) false) ∧
      (uC w = 4 → i.scalarWrite i' w (s.invChunk i).stm.status false) ∧
      (uC w = 5 → i.scalarWrite i' w ((s.invChunk i).stm.record % 2 ^ 64) false) ∧
      (uC w = 6 → i.scalarWrite i' w ((s.invChunk i).stm.record / 2 ^ 64) false))

/-- R196, R200, R203, R229, R230, R251: the kernel accumulators. KCLR empties one; KADD adds one exactly into another; ACXK and ACXP add the active lanes' values or products, noting each status with its element, and fault on a tagged index; RDXK writes the rounded value of one into the active lanes and notes its status; NRMW, in ON_NORM, loads the norm's total. -/
def Obligations.KernelAccumulatorInstructions : Prop :=
  ∀ (s : State) (core : Nat) (i : Inv) (w : Nat),
    (s.atInstr core 0x23 i w → ∃ i' : Inv, exec (.kclr core) s = .next (s.issued core i') ∧ i.accWrite i' (uD w) {}) ∧
    (s.atInstr core 0x24 i w → ∃ i' : Inv, exec (.kadd core) s = .next (s.issued core i') ∧
      i.accWrite i' (uD w) { acc := (i.kacc (uD w)).acc.join (i.kacc (uA w)).acc, stm := (i.kacc (uD w)).stm.join (i.kacc (uA w)).stm }) ∧
    (s.atInstr core 0x21 i w →
      ((i.sx (uC w)).2 = true → exec (.acxk core) s = .next (s.faulted core i 0x25)) ∧
      ((i.sx (uC w)).2 = false → ∃ i' : Inv, exec (.acxk core) s = .next (s.issued core i') ∧
        i.accWrite i' (uD w) ((i.active w).foldl (fun (a : KAcc) l =>
          let r := a.acc.add (if fld w 26 2 = 3 then (s.invChunk i).op else fld w 26 2) (decodeNum (uFmt w) (i.lane (uA w) l).1) (i.lane (uA w) l).2
          { acc := r.1, stm := if r.2 = 0 then a.stm else a.stm.note r.2 (elemIx (i.sx (uC w)).1 (uImm w) l) }) (i.kacc (uD w))))) ∧
    (s.atInstr core 0x22 i w →
      ((i.sx (uC w)).2 = true → exec (.acxp core) s = .next (s.faulted core i 0x25)) ∧
      ((i.sx (uC w)).2 = false → ∃ i' : Inv, exec (.acxp core) s = .next (s.issued core i') ∧
        i.accWrite i' (uD w) ((i.active w).foldl (fun (a : KAcc) l =>
          let r := a.acc.addProd (decodeNum (fld w 28 4) (i.lane (uA w) l).1) (decodeNum (fld w 24 4) (i.lane (uB w) l).1) ((i.lane (uA w) l).2 || (i.lane (uB w) l).2)
          { acc := r.1, stm := if r.2 = 0 then a.stm else a.stm.note r.2 (elemIx (i.sx (uC w)).1 (uImm w) l) }) (i.kacc (uD w))))) ∧
    (s.atInstr core 0x31 i w → ∀ o : Nat × Nat,
      o = (readLanes (uFmt w) [(i.kacc (uA w)).acc.resolve] (fld w 25 3) (bit w 24) [dsr i.ctx i.chunk (uImm w) (i.sx (uC w)).1]).getD 0 (0, 0) →
      ∃ i' : Inv, exec (.rdxk core) s = .next (s.issued core { i' with
          ka := i.ka.set {} (uA w) { (i.kacc (uA w)) with stm := if o.2 = 0 then (i.kacc (uA w)).stm else (i.kacc (uA w)).stm.note o.2 (uImm w) } }) ∧
        i.laneWrite i' w (fun _ => (o.1, (decide (fld w 25 3 = 4) && (i.sx (uC w)).2) || (i.kacc (uA w)).acc.has aPSN))) ∧
    (s.atInstr core 0x79 i w →
      (i.entry ≠ 2 → exec (.nrmw core) s = .next (s.faulted core i 0x26)) ∧
      (i.entry = 2 → ∀ x, s.chunkNorm (s.invChunk i) = some x →
        ∃ i' : Inv, exec (.nrmw core) s = .next (s.issued core i') ∧ i.accWrite i' (uD w) { acc := x.total }))

/-- R196, R203 to R207, R213, R229, R230, R239, R405: the instructions that read a contribution, accumulate it or a register into the tally and read the tally and lanes in another format. LDC reads the arriving piece in ON_ARRIVE, and in ON_EMIT of an operation without a tally the held contribution; ACX adds its lanes after the tally errors the reads met are noted; RDX reads the tally, and CVT its lanes, by R203's rounding, a tagged seed tagging the result only where the rounding is stochastic. Each faults with the code of R239 outside its entry points, against the formats, on a tagged index, on a misaligned block and outside the chunk. -/
def Obligations.TallyInstructions : Prop :=
  ∀ (s : State) (core : Nat) (i : Inv) (w : Nat) (k : Chunk), k = s.invChunk i →
    (s.atInstr core 0x10 i w →
      (i.entry ≠ 0 → ¬(i.entry = 3 ∧ hasTally k.operation = false) → exec (.ldc core) s = .next (s.faulted core i 0x26)) ∧
      (i.entry = 0 → uFmt w ≠ i.fmt → exec (.ldc core) s = .next (s.faulted core i 0x24)) ∧
      (i.entry = 0 → uFmt w = i.fmt → (i.sx (uA w)).2 = true → exec (.ldc core) s = .next (s.faulted core i 0x25)) ∧
      (∀ g : Nat → Option (Nat × Bool), (i.sx (uA w)).2 = false →
        ((i.entry = 0 ∧ uFmt w = i.fmt ∧ ∃ t : AqEnt, i.arrive = some t ∧ ∀ l ∈ i.active w, g l =
            if elemIx (i.sx (uA w)).1 (uImm w) l < i.count then some (elemAt i.fmt t.pkt.payload t.pkt.poisonMap (elemIx (i.sx (uA w)).1 (uImm w) l)) else none) ∨
         (i.entry = 3 ∧ hasTally k.operation = false ∧ (∀ c ∈ k.copies.head?, uFmt w = c.fmt) ∧ ∀ l ∈ i.active w, g l = k.heldElem (elemIx (i.sx (uA w)).1 (uImm w) l))) →
        ∃ i' : Inv, exec (.ldc core) s = .next (s.issued core (i'.setKLanes (uC w) ((i.active w).map fun l => (l, match g l with | some v => !v.2 | none => false)))) ∧
          i.laneWrite i' w (fun l => match g l with | none => (0, false) | some v => (if v.2 then 0 else v.1, v.2)))) ∧
    (∀ (ue : List (Nat × Nat × Nat)) (ce : Nat) (t : State) (k' : Chunk), s.atInstr core 0x20 i w → t = s.tallyErrs k ue ce → k' = t.invChunk i →
      (i.entry ≠ 0 → exec (.acx core ue ce) s = .next (s.faulted core i 0x26)) ∧
      (i.entry = 0 → hasTally k.operation = false → exec (.acx core ue ce) s = .next (s.faulted core i 0x27)) ∧
      (i.entry = 0 → hasTally k.operation = true → bit w 25 = false →
        (uFmt w ≠ i.fmt → exec (.acx core ue ce) s = .next (s.faulted core i 0x24)) ∧
        (uFmt w = i.fmt → (i.sx (uA w)).2 = true → exec (.acx core ue ce) s = .next (s.faulted core i 0x25)) ∧
        (∀ a : AqEnt, uFmt w = i.fmt → (i.sx (uA w)).2 = false → i.arrive = some a →
          exec (.acx core ue ce) s = .next ((t.setChunk ((i.active w).foldl (fun c l =>
            if elemIx (i.sx (uA w)).1 (uImm w) l < i.count then
              c.addAt (accOp k' w) (i.first + elemIx (i.sx (uA w)).1 (uImm w) l)
                (decodeAny (uFmt w) (elemAt (uFmt w) a.pkt.payload a.pkt.poisonMap (elemIx (i.sx (uA w)).1 (uImm w) l)).1)
                (elemAt (uFmt w) a.pkt.payload a.pkt.poisonMap (elemIx (i.sx (uA w)).1 (uImm w) l)).2
            else c) k')).issued core i.next))) ∧
      (i.entry = 0 → hasTally k.operation = true → bit w 25 = true →
        ((i.sx (uB w)).2 = true → exec (.acx core ue ce) s = .next (s.faulted core i 0x25)) ∧
        ((i.sx (uB w)).2 = false → (∃ l ∈ i.active w, i.count ≤ elemIx (i.sx (uB w)).1 (uImm w) l) → exec (.acx core ue ce) s = .next (s.faulted core i 0x22)) ∧
        ((i.sx (uB w)).2 = false → (∀ l ∈ i.active w, elemIx (i.sx (uB w)).1 (uImm w) l < i.count) →
          exec (.acx core ue ce) s = .next ((t.setChunk ((i.active w).foldl (fun c l =>
            c.addAt (accOp k' w) (elemIx (i.sx (uB w)).1 (uImm w) l) (decodeNum (uFmt w) (i.lane (uA w) l).1) (i.lane (uA w) l).2) k')).issued core i.next)))) ∧
    (∀ (ue : List (Nat × Nat × Nat)) (ce : Nat) (t : State) (k' : Chunk), s.atInstr core 0x30 i w → t = s.tallyErrs k ue ce → k' = t.invChunk i →
      (i.entry = 0 → exec (.rdx core ue ce) s = .next (s.faulted core i 0x26)) ∧
      (i.entry ≠ 0 → hasTally k.operation = false → exec (.rdx core ue ce) s = .next (s.faulted core i 0x27)) ∧
      (i.entry ≠ 0 → hasTally k.operation = true →
        ((i.sx (uB w)).2 = true → exec (.rdx core ue ce) s = .next (s.faulted core i 0x25)) ∧
        ((i.sx (uB w)).2 = false → isMx (uFmt w) = true → ((i.sx (uB w)).1 + uImm w) % 32 ≠ 0 → exec (.rdx core ue ce) s = .next (s.faulted core i 0x21)) ∧
        ((i.sx (uB w)).2 = false → (isMx (uFmt w) = false ∨ ((i.sx (uB w)).1 + uImm w) % 32 = 0) →
          ((∃ l ∈ i.active w, k.elems ≤ elemIx (i.sx (uB w)).1 (uImm w) l) → exec (.rdx core ue ce) s = .next (s.faulted core i 0x22)) ∧
          ((∀ l ∈ i.active w, elemIx (i.sx (uB w)).1 (uImm w) l < k.elems) → ∀ out : List (Nat × Nat),
            out = readLanes (uFmt w)
              ((List.range 128).map fun l => (if (i.active w).contains l then k'.acc.getD {} (elemIx (i.sx (uB w)).1 (uImm w) l) else ({} : Accum)).resolve)
              (fld w 25 3) (bit w 24) ((List.range 128).map fun l => dsr k'.ctx k'.chunk (elemIx (i.sx (uB w)).1 (uImm w) l) (i.sx (uC w)).1) →
            ∃ i' : Inv, exec (.rdx core ue ce) s = .next ((t.setChunk { k' with
              stm := k'.stm.notes ((i.active w).map fun l => (elemIx (i.sx (uB w)).1 (uImm w) l, (out.getD l (0, 0)).2)) }).issued core i') ∧
            i.laneWrite i' w (fun l => ((out.getD l (0, 0)).1, (decide (fld w 25 3 = 4) && (i.sx (uC w)).2) || (k'.acc.getD {} (elemIx (i.sx (uB w)).1 (uImm w) l)).has aPSN)))))) ∧
    (s.atInstr core 0x38 i w →
      ((i.sx (uB w)).2 = true → exec (.cvt core) s = .next (s.faulted core i 0x25)) ∧
      ((i.sx (uB w)).2 = false → (isMx (fld w 28 4) = true ∨ isMx (fld w 24 4) = true) → ((i.sx (uB w)).1 + uImm w) % 32 ≠ 0 → exec (.cvt core) s = .next (s.faulted core i 0x21)) ∧
      ((i.sx (uB w)).2 = false → ((isMx (fld w 28 4) = false ∧ isMx (fld w 24 4) = false) ∨ ((i.sx (uB w)).1 + uImm w) % 32 = 0) → ∀ out : List (Nat × Nat),
        out = readLanes (fld w 24 4)
          ((List.range 128).map fun l =>
            (if !(i.active w).contains l then ({} : Accum)
             else if (i.lane (uA w) l).2 then ({} : Accum).mark aPSN 0 else Accum.ofNum (decodeNum (fld w 28 4) (i.lane (uA w) l).1)).resolve)
          (fld w 21 3) (bit w 20) ((List.range 128).map fun l => dsr i.ctx i.chunk (elemIx (i.sx (uB w)).1 (uImm w) l) (i.sx (uC w)).1) →
        ∃ i' : Inv, exec (.cvt core) s = .next ((s.setChunk { k with
            stm := k.stm.notes ((i.active w).map fun l => (elemIx (i.sx (uB w)).1 (uImm w) l, (out.getD l (0, 0)).2)) }).issued core i') ∧
          i.laneWrite i' w (fun l => ((out.getD l (0, 0)).1, (decide (fld w 21 3 = 4) && (i.sx (uC w)).2) || (i.lane (uA w) l).2))))

/-- R212, R214, R224, R229, R230, R246, R251, R261: the ledger's instructions and the completion of their accesses. LDL of the step parameters issues at once; LDL of records in fetched lines gives their words, a poisoned one as the canonical NaN, tagged, counted and raised, and an absent line is demanded while the LDL stalls; STL queues the active lanes' words for the inactive bank, waiting while SQ holds 32; NRMS, in ON_COMPLETE of REDUCE_UPDATE, adds the accumulator to the norm. Each faults outside REDUCE_UPDATE, on a tagged index and outside the chunk, the ledger or its layout. The first requested line arrives in a buffer with room; the head of SQ is written and makes the ledger dirty; neither happens in a core that is not ACTIVE. -/
def Obligations.LedgerInstructions : Prop :=
  ∀ (s : State) (core : Nat) (i : Inv) (w : Nat) (c : Chunk), c = s.invChunk i →
    (s.atInstr core 0x70 i w →
      (c.operation ≠ 5 → exec (.ldl core) s = .next (s.faulted core i 0x23)) ∧
      (c.operation = 5 → fld w 28 2 = 3 → fld w 27 1 = 1 → ∃ i' : Inv, exec (.ldl core) s = .next (s.issued core i') ∧
        i.laneWrite i' w (fun l => (if l % 16 = 15 then s.ldgStep c.ledger % 2 ^ 32 else s.rd LDG_PARAM_CUR_word 0 c.ledger (l % 16), false))) ∧
      (∀ b : Nat, b = (if fld w 27 1 = 0 then s.ldgActive c.ledger else 1 - s.ldgActive c.ledger) → c.operation = 5 → ¬(fld w 28 2 = 3 ∧ fld w 27 1 = 1) →
        ((i.sx (uA w)).2 = true → exec (.ldl core) s = .next (s.faulted core i 0x25)) ∧
        ((i.sx (uA w)).2 = false → (∃ l ∈ i.active w, s.ldgElem c b (fld w 28 2) (elemIx (i.sx (uA w)).1 (uImm w) l) = none) →
          exec (.ldl core) s = .next (s.faulted core i 0x22)) ∧
        (∀ f : Nat → Nat × Nat, (i.sx (uA w)).2 = false → (∀ l ∈ i.active w, s.ldgElem c b (fld w 28 2) (elemIx (i.sx (uA w)).1 (uImm w) l) = some (f l)) →
          ((∃ l ∈ i.active w, lineWord (s.core core).lines c b (f l).2 = none) → exec (.ldl core) s = .next ((s.demand core c b (decide (fld w 27 1 = 0))
            (((i.active w).filter fun l => (lineWord (s.core core).lines c b (f l).2).isNone).map fun l => s.lineOf c.ledger b (f l).1 (fld w 28 2))).stalled core)) ∧
          (∀ (g : Nat → Nat × Bool) (bad : Nat) (t : State), (∀ l ∈ i.active w, lineWord (s.core core).lines c b (f l).2 = some (g l)) → bad = ((i.active w).filter fun l => (g l).2).length →
            t = (if bad = 0 then s else (s.cnt LDG_POISON_READ_count 0 0 0 bad).irq 14 5) →
            ∃ i' : Inv, exec (.ldl core) s = .next ((if fld w 27 1 = 0 then t else t.setCore core { t.core core with
                lines := (t.core core).lines.filter fun y => !(y.ctx = c.ctx && y.chunk = c.chunk && y.bank = b && y.ledger = c.ledger) }).issued core i') ∧
              i.laneWrite i' w (fun l => (if (g l).2 then 0x7FC00000 else (g l).1, (g l).2)))))) ∧
    (s.atInstr core 0x71 i w →
      (c.operation ≠ 5 → exec (.stl core) s = .next (s.faulted core i 0x23)) ∧
      (c.operation = 5 → (i.sx (uB w)).2 = true → exec (.stl core) s = .next (s.faulted core i 0x25)) ∧
      (c.operation = 5 → (i.sx (uB w)).2 = false → (∃ l ∈ i.active w, s.ldgElem c (1 - s.ldgActive c.ledger) (fld w 28 2) (elemIx (i.sx (uB w)).1 (uImm w) l) = none) →
        exec (.stl core) s = .next (s.faulted core i 0x22)) ∧
      (∀ f : Nat → Nat × Nat, c.operation = 5 → (i.sx (uB w)).2 = false →
        (∀ l ∈ i.active w, s.ldgElem c (1 - s.ldgActive c.ledger) (fld w 28 2) (elemIx (i.sx (uB w)).1 (uImm w) l) = some (f l)) →
        (32 ≤ (s.core core).sq.length → exec (.stl core) s = .next (s.stalled core)) ∧
        ((s.core core).sq.length < 32 → exec (.stl core) s = .next ((s.setCore core { s.core core with sq := (s.core core).sq ++
          [{ ctx := c.ctx, chunk := c.chunk, gen := c.gen, inv := i.id, ledger := c.ledger,
             words := (i.active w).map fun l => ((f l).2, (i.lane (uA w) l).1, (i.lane (uA w) l).2) }] }).issued core i.next)))) ∧
    (s.atInstr core 0x78 i w →
      (i.entry ≠ 1 → exec (.nrms core) s = .next ((s.faulted core i 0x26).sweepCore core)) ∧
      (i.entry = 1 → c.operation ≠ 5 → exec (.nrms core) s = .next ((s.faulted core i 0x23).sweepCore core)) ∧
      (i.entry = 1 → c.operation = 5 →
        exec (.nrms core) s = .next ((((s.setChunk { c with nrms := some (i.kacc (uA w)).acc }).normAdd c (i.kacc (uA w)).acc).issued core
          ({ i with normed := true } : Inv).next).sweepCore core))) ∧
    (∀ u : State, s.alive = true → core < 68 → u = s.sweepCore core →
      (u.rd SRI_STATE_state core ≠ 3 → exec (.ledgerLineFetched core) s = .next u ∧ exec (.stlAccepted core) s = .next u) ∧
      (u.rd SRI_STATE_state core = 3 →
        ((u.core core).reqs = [] → exec (.ledgerLineFetched core) s = .next u) ∧
        (∀ (r : LdgLine) (rest : List LdgLine), (u.core core).reqs = r :: rest →
          ((u.core core).lines.length < 32 → r.words = [] →
            exec (.ledgerLineFetched core) s = .next ((u.readWords (r.addr / 4) r.n 0).2.setCore core { (u.readWords (r.addr / 4) r.n 0).2.core core with
              reqs := rest, lines := (u.core core).lines ++ [{ r with words := (u.readWords (r.addr / 4) r.n 0).1 }] })) ∧
          (32 ≤ (u.core core).lines.length → r.want = false → exec (.ledgerLineFetched core) s = .next u)) ∧
        ((u.core core).sq = [] → exec (.stlAccepted core) s = .next u) ∧
        (∀ (e : SqEnt) (rest : List SqEnt), (u.core core).sq = e :: rest →
          exec (.stlAccepted core) s = .next (((e.words.foldl (fun t x => t.writeWords (x.1 / 4) [(x.2.1, x.2.2)] 0)
            (u.setCore core { u.core core with sq := rest })).wr LDG_STATE_dirty 1 0 e.ledger).tryEnd e.ctx e.chunk))))

/-- R141, R228 to R230, R257, R258: the modes of EMIT. Mode 0, in ON_EMIT, writes lanes into the current result piece once its staging buffer is held, and waits while none is free; mode 1, in ON_COMPLETE or ON_NORM, stages speculative pieces, answering all lanes set in K[d] when their buffers were had and all clear when one was not; mode 2 releases the staged pieces, their buffers turning from speculative to emit use; mode 3 frees them. Where the lanes come from the tally its errors are noted first. Each faults outside its entry points, and where its format is not the chunk's. -/
def Obligations.EmitModes : Prop :=
  ∀ (s : State) (core : Nat) (i : Inv) (w : Nat) (k : Chunk), s.atInstr core 0x80 i w → k = s.invChunk i →
    (∀ (ue : List (Nat × Nat × Nat)) (ce : Nat), fld w 26 2 = 0 →
      (i.entry ≠ 3 → exec (.emit core ue ce) s = .next (s.faulted core i 0x26)) ∧
      (∀ c, i.entry = 3 → emitFault i k w i.count = some c → exec (.emit core ue ce) s = .next (s.faulted core i c)) ∧
      (∀ t, i.entry = 3 → emitFault i k w i.count = none → i.cur = none → s.claimStage k 1 = (false, t) → exec (.emit core ue ce) s = .next (t.stalled core)) ∧
      (∀ (t u : State) (k' : Chunk) (q : Piece), i.entry = 3 → emitFault i k w i.count = none →
        ((i.cur = some q ∧ t = s) ∨ (i.cur = none ∧ q = { p := i.piece } ∧ s.claimStage k 1 = (true, t))) →
        u = (if bit w 25 then t.tallyErrs k ue ce else t) → k' = u.invChunk i →
        exec (.emit core ue ce) s = .next ((u.setChunk { k' with stm := k'.stm.notes (emitData i k' w).st }).issued core
          ({ i with cur := some (q.fill (uFmt w) 0 (emitData i k' w)) } : Inv).next))) ∧
    (∀ (ue : List (Nat × Nat × Nat)) (ce : Nat), fld w 26 2 = 1 →
      (i.entry ≠ 1 → i.entry ≠ 2 → exec (.emitSpeculative core ue ce) s = .next (s.faulted core i 0x26)) ∧
      (∀ c, (i.entry = 1 ∨ i.entry = 2) → emitFault i k w k.elems = some c → exec (.emitSpeculative core ue ce) s = .next (s.faulted core i c)) ∧
      (∀ (u : State) (k' : Chunk) (new : List Nat) (r : Bool × State), (i.entry = 1 ∨ i.entry = 2) → emitFault i k w k.elems = none →
        u = (if bit w 25 then s.tallyErrs k ue ce else s) → k' = u.invChunk i →
        new = (emitPieces k'.fmt (emitData i k' w)).filter (fun p => !k'.specP.any (·.p = p)) →
        r = new.foldl (fun (x : Bool × State) _ => if !x.1 then (false, x.2) else x.2.claimStage (x.2.invChunk i) 0) (true, u) →
        (r.1 = false → exec (.emitSpeculative core ue ce) s = .next ((u.allocFail false 4096).issued core (i.setK (uD w) 0).next)) ∧
        (r.1 = true → exec (.emitSpeculative core ue ce) s = .next ((r.2.setChunk { r.2.invChunk i with
          specP := ((r.2.invChunk i).specP ++ new.map fun p => ({ p := p } : Piece)).map fun q =>
            q.fill (r.2.invChunk i).fmt (q.p * pieceElems (r.2.invChunk i).fmt)
              ((emitData i k' w).within (q.p * pieceElems (r.2.invChunk i).fmt) (pieceElems (r.2.invChunk i).fmt)),
          stm := (r.2.invChunk i).stm.notes (emitData i k' w).st }).issued core (i.setK (uD w) (2 ^ 128 - 1)).next)))) ∧
    (fld w 26 2 = 2 →
      (i.entry ≠ 1 → i.entry ≠ 2 → exec (.emitRelease core) s = .next (s.faulted core i 0x26)) ∧
      ((i.entry = 1 ∨ i.entry = 2) → uFmt w ≠ k.fmt → exec (.emitRelease core) s = .next (s.faulted core i 0x24)) ∧
      ((i.entry = 1 ∨ i.entry = 2) → uFmt w = k.fmt → exec (.emitRelease core) s = .next (((((s.wr BPM_STAGE_USE_spec (s.rd BPM_STAGE_USE_spec - k.spec.length)).wr BPM_STAGE_USE_emit
          (s.rd BPM_STAGE_USE_emit + k.spec.length)).setChunk { k with relP := k.relP ++ k.specP, specP := [], spec := [], emit := k.emit ++ k.spec }).cnt LDG_SPEC_COMMIT_count).issued core i.next))) ∧
    (fld w 26 2 = 3 →
      (i.entry ≠ 1 → i.entry ≠ 2 → exec (.emitFree core) s = .next (s.faulted core i 0x26)) ∧
      ((i.entry = 1 ∨ i.entry = 2) → uFmt w ≠ k.fmt → exec (.emitFree core) s = .next (s.faulted core i 0x24)) ∧
      ((i.entry = 1 ∨ i.entry = 2) → uFmt w = k.fmt → exec (.emitFree core) s = .next ((((s.freeStage k.spec [] []).setChunk { k with specP := [], spec := [] }).cnt LDG_SPEC_UNDO_count).issued core i.next)))

/-- R217 to R220, R239, R241: the commands of the kernel store. LOAD and UNLOAD of a kernel that an active convoy names are BUSY; a LOAD ends with code 1 where its header or image does not read clean or its signature fails, 2 where the header is malformed, 9 where its version is too low, an instruction's code where one is refused, 6 where an entry point is missing and 7 where it does not fit; else it is stored at its gap; UNLOAD removes the kernel from the store and from every core; INFO shows a kernel, zeros for one not loaded. `u` is the state once the access has been counted. -/
def Obligations.KernelStoreCommands : Prop :=
  ∀ (s u : State) (i : Nat), s.served 12 0x628 → u = s.event 12 4 → i = u.rd SRG_KKEY_kernel →
    (u.kBusy i = true → exec .load s = .next (u.kDone 8 0) ∧ exec .unload s = .next (u.kDone 8 0)) ∧
    (u.kBusy i = false → exec .unload s = .next ((u.dropKernel i).kDone 0 0)) ∧
    (∀ (h : List (Nat × Bool)) (u1 : State) (hb : List Byte) (n : Nat), u.kBusy i = false → u.readRes (u.rd SRG_KLOAD_ADDR_addr * 64) 16 = (h, u1) → hb = bytesOf h →
      n = leNat ((hb.drop 8).take 4) →
      (h.any (·.2) = true → exec .load s = .next (u1.kDone 1 0)) ∧
      (h.any (·.2) = false → (leNat (hb.take 4) ≠ 0x4B414D55 ∨ leNat ((hb.drop 4).take 4) ≠ 1 ∨ n = 0 ∨ 8192 < n ∨ fld (leNat ((hb.drop 0x14).take 4)) 6 26 ≠ 0 ∨
        leNat ((hb.drop 0x1C).take 36) ≠ 0) → exec .load s = .next (u1.kDone 2 0)) ∧
      (h.any (·.2) = false → leNat (hb.take 4) = 0x4B414D55 → leNat ((hb.drop 4).take 4) = 1 → 0 < n → n ≤ 8192 →
        fld (leNat ((hb.drop 0x14).take 4)) 6 26 = 0 → leNat ((hb.drop 0x1C).take 36) = 0 →
        ∀ (r : List (Nat × Bool)) (u2 : State) (img : List Byte), u1.readRes (u.rd SRG_KLOAD_ADDR_addr * 64) ((64 + 8 * n + 29792) / 4) = (r, u2) → img = bytesOf r →
          ((r.any (·.2) = true ∨ Config.slhDsaVerify 256 u2.secu.kernelKey (img.take (64 + 8 * n)) (img.drop (64 + 8 * n)) = false) → exec .load s = .next (u2.kDone 1 0)) ∧
          (r.any (·.2) = false → Config.slhDsaVerify 256 u2.secu.kernelKey (img.take (64 + 8 * n)) (img.drop (64 + 8 * n)) = true →
            (leNat ((hb.drop 0x18).take 4) < u2.rd SEC_MIN_kernel_min → exec .load s = .next (u2.kDone 9 0)) ∧
            (u2.rd SEC_MIN_kernel_min ≤ leNat ((hb.drop 0x18).take 4) → ∀ k : Kernel,
              k = { idx := i, base := 0, onArrive := leNat ((hb.drop 0x0C).take 2), onComplete := leNat ((hb.drop 0x0E).take 2), onNorm := leNat ((hb.drop 0x10).take 2), onEmit := leNat ((hb.drop 0x12).take 2), ops := fld (leNat ((hb.drop 0x14).take 4)) 0 6, ver := leNat ((hb.drop 0x18).take 4), code := (List.range n).map fun j => leNat ((img.drop (64 + 8 * j)).take 8), digest := shake256 img 32 } →
              (∀ (w j : Nat), k.code.zipIdx.find? (fun x => decide (instrFault n x.1 ≠ 0)) = some (w, j) → exec .load s = .next (u2.kDone (instrFault n w) j)) ∧
              ((∀ w ∈ k.code, instrFault n w = 0) →
                ((n ≤ k.onArrive ∨ n ≤ k.onComplete ∨ n ≤ k.onEmit ∨ (n ≤ k.onNorm ∧ (k.onNorm ≠ 0xFFFF ∨ bit k.ops 5 = true))) → exec .load s = .next (u2.kDone 6 0)) ∧
                (k.onArrive < n → k.onComplete < n → k.onEmit < n → (k.onNorm < n ∨ (k.onNorm = 0xFFFF ∧ bit k.ops 5 = false)) →
                  ((kernelGap (u2.ser.kernels.filter fun x => x.idx ≠ i) n = none ∨ 256 ≤ (u2.ser.kernels.filter fun x => x.idx ≠ i).length) → exec .load s = .next (u2.kDone 7 0)) ∧
                  (∀ b, kernelGap (u2.ser.kernels.filter fun x => x.idx ≠ i) n = some b → (u2.ser.kernels.filter fun x => x.idx ≠ i).length < 256 →
                    exec .load s = .next (((u2.dropKernel i).setKernels ((u2.dropKernel i).ser.kernels ++ [{ k with base := b }])).kDone 0 0)))))))) ∧
    (∀ k, u.kernel? i = some k → exec .info s = .next (((((u.wr SRG_KINFO_loaded 1).wr SRG_KINFO_count k.code.length).wr SRG_KINFO_ops k.ops).wr SRG_KINFO_ver k.ver).kDone 0 0)) ∧
    (u.kernel? i = none → exec .info s = .next (((((u.wr SRG_KINFO_loaded 0).wr SRG_KINFO_count 0).wr SRG_KINFO_ops 0).wr SRG_KINFO_ver 0).kDone 0 0))

/-- R141, R213, R221, R222, R224, R225, R248, R474: an idle ACTIVE core that is awake takes its work in order: ON_NORM before ON_EMIT before ON_COMPLETE before ON_ARRIVE, within one entry the chunk eligible first; a busy core begins nothing; a core asleep with work wakes. END saves the persistent words and ends the invocation, waiting in ON_EMIT for a staging buffer where it holds none; an ON_COMPLETE of REDUCE_UPDATE without NRMS faults; an END whose chunk is gone ends alone; an invocation that has run max_cycles cycles ends with WATCHDOG. -/
def Obligations.InvocationsBeginAndEnd : Prop :=
  ∀ (s : State) (core l : Nat), s.alive = true → core < 68 →
    (∀ (t : State) (e : AqEnt) (r : List AqEnt) (k k' : Chunk), s.coreAsleep core = false → t = s.sweepCore core → t.idleCore core = some l →
      t.wantNorm l = [] → t.wantEmit l (t.core core).eq.length = [] → t.wantComplete l = [] → (t.core core).aq = e :: r →
      t.liveChunk e.ctx e.chunk e.gen = some k → k' = (if k.state = 1 then { k with state := 2 } else k) →
      ∃ v : State, v = ((t.setCore core { t.core core with aq := r }).setChunk k').checkComplete k'.ctx k'.chunk ∧
        exec (.onArrive core) s = .next (v.invoke core ((v.chunk? k'.ctx k'.chunk).getD k') 0 e.piece e.fmt (k'.span e.fmt e.piece).1 (k'.span e.fmt e.piece).2 (some e))) ∧
    (∀ k, s.coreAsleep core = false → s.idleCore core = some l → s.wantNorm l = [] → s.wantEmit l (s.core core).eq.length = [] →
      firstChunk (·.stamp) (s.wantComplete l) = some k →
      exec (.onComplete core) s = .next ((s.setChunk { k with state := 4, phase := 1 }).invoke core { k with state := 4, phase := 1 } 1 0 k.fmt 0 (if k.operation = 4 then 0 else k.elems) none)) ∧
    (∀ k, s.coreAsleep core = false → s.idleCore core = some l → firstChunk s.normStamp (s.wantNorm l) = some k →
      exec (.onNorm core) s = .next ((s.setChunk { k with phase := 3 }).invoke core { k with phase := 3 } 2 0 k.fmt 0 k.elems none)) ∧
    (∀ k, s.coreAsleep core = false → s.idleCore core = some l → s.wantNorm l = [] →
      firstChunk (fun x => max x.stamp (s.core core).eqFree) (s.wantEmit l (s.core core).eq.length) = some k →
      exec (.onEmit core) s = .next (s.invoke core k 3 k.next k.fmt (k.span k.fmt k.next).1 (k.span k.fmt k.next).2 none)) ∧
    (s.coreAsleep core = false → s.idleCore core = none → exec (.onNorm core) s = .next s ∧ exec (.onEmit core) s = .next s ∧ exec (.onComplete core) s = .next s) ∧
    (s.coreAsleep core = false → (s.sweepCore core).idleCore core = none → exec (.onArrive core) s = .next (s.sweepCore core)) ∧
    (s.coreAsleep core = false → s.idleCore core = some l → s.wantNorm l ≠ [] → exec (.onEmit core) s = .next s ∧ exec (.onComplete core) s = .next s) ∧
    (s.coreAsleep core = true → (s.core core).inv = none →
      (((s.onNorm core).core core).inv ≠ none → exec (.onNorm core) s = .next (s.wakeCore core true)) ∧
      (((s.onEmit core).core core).inv ≠ none → exec (.onEmit core) s = .next (s.wakeCore core true)) ∧
      (((s.onComplete core).core core).inv ≠ none → exec (.onComplete core) s = .next (s.wakeCore core true)) ∧
      (((s.onArrive core).core core).inv ≠ none → exec (.onArrive core) s = .next (s.wakeCore core true))) ∧
    (∀ (i : Inv) (w : Nat), s.fetchU core 0x08 = some (i, w) → s.liveChunk i.ctx i.chunk i.gen = none → exec (.cmdEnd core) s = .next (s.invDone core i)) ∧
    (∀ (i : Inv) (w : Nat) (k : Chunk), s.fetchU core 0x08 = some (i, w) → s.liveChunk i.ctx i.chunk i.gen = some k →
      (∀ t u : State, ((¬(i.entry = 3 ∧ i.cur = none) ∧ t = s) ∨ (i.entry = 3 ∧ i.cur = none ∧ s.claimStage k 1 = (true, t))) →
        u = (t.event (0x80 + core) 0x10).setChunk { ((t.event (0x80 + core) 0x10).liveChunk i.ctx i.chunk i.gen).getD k with persist := (List.range 4).map fun j => i.x.getD 0 (12 + j) } →
        ((((t.event (0x80 + core) 0x10).liveChunk i.ctx i.chunk i.gen).getD k).operation = 5 → i.entry = 1 → i.normed = true) → exec (.cmdEnd core) s = .next (u.invDone core i)) ∧
      (∀ u : State, u = (s.event (0x80 + core) 0x10).setChunk { ((s.event (0x80 + core) 0x10).liveChunk i.ctx i.chunk i.gen).getD k with persist := (List.range 4).map fun j => i.x.getD 0 (12 + j) } →
        i.entry = 1 → k.operation = 5 → i.normed = false → exec (.cmdEnd core) s = .next ((u.kernelFault i 0x23).invDone core i)) ∧
      (∀ t, i.entry = 3 → i.cur = none → s.claimStage k 1 = (false, t) → exec (.cmdEnd core) s = .next (t.stalled core))) ∧
    (∀ i : Inv, (s.core core).inv = some i →
      (s.cyc < i.start + s.rd SRG_KCFG_max_cycles → exec (.watchdog core) s = .next s) ∧
      (i.start + s.rd SRG_KCFG_max_cycles ≤ s.cyc → exec (.watchdog core) s = .next (s.faultInv core i 0x20)))

/-- R233 to R238, R240, R474: fences and spares. Software fences a SPARE or ACTIVE core by number, any other target being refused; a hang 1,024 cycles after the watchdog, a failed self-test and an uncorrectable error in an ACTIVE core fence it, a correctable error is counted and raised; a fenced core's port reopens; a FENCED core is retested on the write of bist, the bit staying set until the self-test ends; a self-test that ends makes its core SPARE, mapped at once where a logical core lacks one, or FAILED. (That the bit stays set is the model's choice, log entry 90.) -/
def Obligations.FencesAndSpares : Prop :=
  ∀ (s : State),
    (∀ (w : Wr) (u : State), s.served 12 0x608 → u = (s.event 12 4).w1c SRG_FENCE_CMD_refused w →
      (w.ones 8 1 = 0 → exec (.fenceCmd w) s = .next u) ∧
      (w.ones 8 1 = 1 → w.ones 0 7 < 68 → (u.rd SRI_STATE_state (w.ones 0 7) = 2 ∨ u.rd SRI_STATE_state (w.ones 0 7) = 3) →
        exec (.fenceCmd w) s = .next (u.fence (w.ones 0 7) 4)) ∧
      (w.ones 8 1 = 1 → (68 ≤ w.ones 0 7 ∨ (u.rd SRI_STATE_state (w.ones 0 7) ≠ 2 ∧ u.rd SRI_STATE_state (w.ones 0 7) ≠ 3)) →
        exec (.fenceCmd w) s = .next (u.wr SRG_FENCE_CMD_refused 1))) ∧
    (∀ core, s.alive = true → core < 68 →
      (∀ i : Inv, (s.core core).inv = some i → s.rd SRI_STATE_state core = 3 →
        (i.start + s.rd SRG_KCFG_max_cycles + 1024 ≤ s.cyc → exec (.hang core) s = .next (s.fence core 3)) ∧
        (s.cyc < i.start + s.rd SRG_KCFG_max_cycles + 1024 → exec (.hang core) s = .next s)) ∧
      exec (.coreEccError core false) s = .next ((s.cnt SRI_ECC_CORR_count core).irq (0x80 + core) 1) ∧
      (s.rd SRI_STATE_state core = 3 → exec (.coreEccError core true) s = .next (s.fence core 2)) ∧
      (∀ code, code < 256 → code ≠ 0 → s.rd SRI_STATE_state core = 3 → exec (.bistDone core code) s = .next ((s.wr SRI_STATE_bist_code code core).fence core 1)) ∧
      (s.rd SRI_STATE_state core = 1 → ∀ (code : Nat) (v : State), code < 256 →
        v = (((s.wr SRI_CTRL_bist 0 core).wr SRI_STATE_bist_code code core).wr SRI_STATE_state (if code = 0 then 2 else 5) core).showSpares →
        (∀ l ls q qs, v.unmapped = l :: ls → v.spares = q :: qs → ∃ t : State, exec (.bistDone core code) s = .next (t.irq (0x80 + core) 2) ∧
          t = { v.mapCore l q with ser := { (v.mapCore l q).ser with fencing := (v.mapCore l q).ser.fencing.filter (· ≠ l) } }) ∧
        ((v.unmapped = [] ∨ v.spares = []) → exec (.bistDone core code) s = .next (v.irq (0x80 + core) 2)))) ∧
    (∀ (core : Nat) (w : Wr) (u : State), core < 68 → s.served (0x80 + core) 0x100 → u = (s.event (0x80 + core) 4).put SRI_CTRL_xmask w core →
      (w.ones 0 1 ≠ 1 → exec (.bist core w) s = .next u) ∧
      (w.ones 0 1 = 1 → (u.wr SRI_CTRL_bist 1 core).rd SRI_STATE_state core ≠ 4 → exec (.bist core w) s = .next (u.wr SRI_CTRL_bist 1 core)) ∧
      (w.ones 0 1 = 1 → (u.wr SRI_CTRL_bist 1 core).rd SRI_STATE_state core = 4 → exec (.bist core w) s = .next ((u.wr SRI_CTRL_bist 1 core).wr SRI_STATE_state 1 core))) ∧
    (∀ l, s.alive = true → l < 64 →
      (s.ser.fencing.contains l = true → exec (.corePortReopen l) s = .next (({ s with ser := { s.ser with fencing := s.ser.fencing.filter (· ≠ l) } } : State).irq 12 8)) ∧
      (s.ser.fencing.contains l = false → exec (.corePortReopen l) s = .next s))

/-- R244, R247, R260 to R264: the ledger's configuration and commands. A flip that the conditions of R260 admit exchanges the banks, adds 1 to the step modulo 2^32, loads the parameters, clears cover and the round and makes a revert possible; one they refuse counts, raises and shows its reason; the other commands answer OK, INVALID or REFUSED with the reason. `u` is the state once the access has been counted. -/
def Obligations.LedgerCommands : Prop :=
  ∀ (s u : State) (n : Nat), s.served 14 0x100 → u = s.event 14 4 → n < 16 →
    (∀ r, u.flipCause n = some r → exec (.flip n) s = .next (((((((u.wr LDG_FLIP_LAST_ledger n).wr LDG_FLIP_LAST_reason r).wr LDG_FLIP_LAST_step
        (u.ldgStep n)).wr LDG_FLIP_LAST_valid 1).cnt LDG_FLIP_REJECT_count).irq 14 2).ldgDone 7 r)) ∧
    (u.flipCause n = none → ∃ a b : State,
      a = (((u.wr LDG_STATE_active (1 - u.ldgActive n) 0 n).wr LDG_STATE_step (u.ldgStep n + 1) 0 n).loadParam n).releaseStep n none ∧
      b = ((((((a.clearCover n).wr LDG_ROUND_next_round 0 0 n).wr LDG_STATE_dirty 0 0 n).wr LDG_STATE_revert_ok 1 0 n).freeNorms n true).dropLines n (u.ldgActive n)).cnt LDG_FLIPS_count ∧
      exec (.flip n) s = .next ((b.irq 14 1).ldgDone 0 0)) ∧
    ((u.flag LDG_STATE_dirty 0 n = true ∨ u.flag LDG_STATE_revert_ok 0 n = false) → exec (.revert n) s = .next (u.ldgDone 7 6)) ∧
    (u.flag LDG_STATE_dirty 0 n = false → u.flag LDG_STATE_revert_ok 0 n = true → u.ldgBusy n = true → exec (.revert n) s = .next (u.ldgDone 7 3)) ∧
    (u.flag LDG_STATE_dirty 0 n = false → u.flag LDG_STATE_revert_ok 0 n = true → u.ldgBusy n = false → exec (.revert n) s = .next
      (((((u.wr LDG_STATE_active (1 - u.ldgActive n) 0 n).wr LDG_STATE_step (stepBack (u.ldgStep n)) 0 n).wr LDG_STATE_revert_ok 0 0 n).clearCover n).ldgDone 0 0)) ∧
    (∃ a b : State, a = (u.ser.chunks.filter fun k => k.live && k.ledger = n && (k.operation = 5 || k.retention = 2)).foldl (fun t k => match t.chunk? k.ctx k.chunk with
        | some k => if k.live then t.abort k 2 true else t
        | none => t) (u.freeNorms n true) ∧
      b = a.releaseStep n (some (a.ldgStep n)) ∧ exec (.abandon n) s = .next ((((b.clearCover n).wr LDG_STATE_fault 0 0 n).wr LDG_ROUND_next_round 0 0 n).ldgDone 0 0)) ∧
    (u.ldgOpen n = true → exec (.copyFwd n) s = .next (u.ldgDone 7 3)) ∧
    (u.ldgOpen n = false → u.ldgBlocks n < fld (u.rd LDG_CMD_ARG_arg) 0 32 + fld (u.rd LDG_CMD_ARG_arg) 32 32 → exec (.copyFwd n) s = .next (u.ldgDone 3 0)) ∧
    (u.ldgOpen n = false → fld (u.rd LDG_CMD_ARG_arg) 0 32 + fld (u.rd LDG_CMD_ARG_arg) 32 32 ≤ u.ldgBlocks n → exec (.copyFwd n) s = .next
      (((List.range (fld (u.rd LDG_CMD_ARG_arg) 32 32)).foldl (fun t i => t.copyBlock n (fld (u.rd LDG_CMD_ARG_arg) 0 32 + i)) u).ldgDone 0 0)) ∧
    (u.flag LDG_CFG_lock 0 n = false → exec (.setState n) s = .next (u.ldgDone 7 5)) ∧
    (u.flag LDG_CFG_lock 0 n = true → exec (.setState n) s = .next (((((u.wr LDG_STATE_active (fld (u.rd LDG_CMD_ARG_arg) 0 1) 0 n).wr LDG_STATE_step
        (fld (u.rd LDG_CMD_ARG_arg) 32 32) 0 n).wr LDG_STATE_revert_ok 0 0 n).clearCover n).ldgDone 0 0)) ∧
    (u.ldgBusy n = true → exec (.loadParam n) s = .next (u.ldgDone 7 3)) ∧
    (u.ldgBusy n = false → exec (.loadParam n) s = .next ((u.loadParam n).ldgDone 0 0))

/-- R244: a write of LDG_CFG[n]. Lock is always written; layout is written while the ledger is disabled and raises when a write would change it while enabled; disabling is refused while a convoy of the ledger is active; enabling is refused with its reason or clears cover and the round. `u` is the state once the access has been counted, `v` with lock written. -/
def Obligations.LedgerEnable : Prop :=
  ∀ (s u v : State) (n : Nat) (w : Wr), n < 16 → s.served 14 (0x1000 + 0x200 * n) → u = s.event 14 4 → v = u.put LDG_CFG_lock w 0 n →
    (u.flag LDG_CFG_enable 0 n = true → w.merge 2 2 (u.rd LDG_CFG_layout 0 n) = u.rd LDG_CFG_layout 0 n →
      (w.merge 0 1 (u.rd LDG_CFG_enable 0 n) = 1 → exec (.ldgCfgWrite n w) s = .next v) ∧
      (w.merge 0 1 (u.rd LDG_CFG_enable 0 n) ≠ 1 → u.ldgConvoy n = true → exec (.ldgCfgWrite n w) s = .next (v.irq 14 6)) ∧
      (w.merge 0 1 (u.rd LDG_CFG_enable 0 n) ≠ 1 → u.ldgConvoy n = false →
        exec (.ldgCfgWrite n w) s = .next ((u.ldgCover (v.wr LDG_CFG_enable 0 0 n) n 0).freeNorms n false))) ∧
    (u.flag LDG_CFG_enable 0 n = true → w.merge 2 2 (u.rd LDG_CFG_layout 0 n) ≠ u.rd LDG_CFG_layout 0 n →
      (w.merge 0 1 (u.rd LDG_CFG_enable 0 n) = 1 → exec (.ldgCfgWrite n w) s = .next (v.irq 14 6)) ∧
      (w.merge 0 1 (u.rd LDG_CFG_enable 0 n) ≠ 1 → u.ldgConvoy n = true → exec (.ldgCfgWrite n w) s = .next ((v.irq 14 6).irq 14 6)) ∧
      (w.merge 0 1 (u.rd LDG_CFG_enable 0 n) ≠ 1 → u.ldgConvoy n = false →
        exec (.ldgCfgWrite n w) s = .next ((u.ldgCover ((v.irq 14 6).wr LDG_CFG_enable 0 0 n) n 0).freeNorms n false))) ∧
    (u.flag LDG_CFG_enable 0 n = false → ∀ x, x = u.ldgCover (v.wr LDG_CFG_layout (w.merge 2 2 (u.rd LDG_CFG_layout 0 n)) 0 n) n 0 →
      (w.merge 0 1 (u.rd LDG_CFG_enable 0 n) ≠ 1 → exec (.ldgCfgWrite n w) s = .next x) ∧
      (∀ r, w.merge 0 1 (u.rd LDG_CFG_enable 0 n) = 1 → x.enableBad n (w.merge 2 2 (u.rd LDG_CFG_layout 0 n)) = some r →
        exec (.ldgCfgWrite n w) s = .next ((((x.wr LDG_CFG_ERR_ledger n).wr LDG_CFG_ERR_reason r).wr LDG_CFG_ERR_valid 1).irq 14 6)) ∧
      (w.merge 0 1 (u.rd LDG_CFG_enable 0 n) = 1 → x.enableBad n (w.merge 2 2 (u.rd LDG_CFG_layout 0 n)) = none →
        exec (.ldgCfgWrite n w) s = .next (((x.ldgCover (x.wr LDG_CFG_enable 1 0 n) n 0).clearCover n).wr LDG_ROUND_next_round 0 0 n)))

/-- R86, R198, R252 to R255: the norm's exchange, at an awake core port. A partial meets its checks in order and joins its slot once, a marked one setting only PSN; one that repeats is counted, one that differs from the one held fails the norm, one for a failed slot or an earlier round is LATE, one no slot can hold is answered NO_RESOURCE. A NAK PORT_LOST is answered with the partial held, NO_RESOURCE schedules it again after retry_us, ABORTED fails the slot; one that finds nothing to answer is LATE. Slots whose own sum has waited timeout_us fail and raise; when due, partials are sent again and missing ones asked for. -/
def Obligations.NormExchange : Prop :=
  (∀ (s t : State) (l ph : Nat) (x : Flight) (p : Pkt), s.alive = true → l < 64 → s.headLocal (.serai l) = some x → p = x.pkt → s.physOf l = some ph →
    s.coreAsleep ph = false → t = s.dropFlight x →
    ((p.kind ≠ 6 ∨ s.ser.fencing.contains l = true) → exec (.normPartialArrival l) s = .next s) ∧
    (p.kind = 6 → s.ser.fencing.contains l = false →
      ((t.ctxValid p.ctx = false ∨ t.ctxBad p.ctx = true ∨ t.ctxSlice p.ctx ≠ p.slice ∨ t.ctxOper p.ctx ≠ 5) →
        exec (.normPartialArrival l) s = .next ((t.cnt LDG_NORM_BAD_count).nak p x.pipe 3)) ∧
      (t.ctxValid p.ctx = true → t.ctxBad p.ctx = false → t.ctxSlice p.ctx = p.slice → t.ctxOper p.ctx = 5 →
        ((p.fmt ≠ 9 ∨ p.length ≠ 40 ∨ (t.peers (t.ctxLedger p.ctx)).contains p.member = false) → exec (.normPartialArrival l) s = .next (t.cnt LDG_NORM_BAD_count)) ∧
        (p.fmt = 9 → p.length = 40 → (t.peers (t.ctxLedger p.ctx)).contains p.member = true →
          (e2eOf p.payload ≠ p.e2e → exec (.normPartialArrival l) s = .next ((t.cnt LDG_NORM_BAD_count).nak p x.pipe 5)) ∧
          (e2eOf p.payload = p.e2e →
            (∀ r, t.normSlotFor (t.ctxLedger p.ctx) p.ctx p.chunk p.slice = (.error 0, r) → exec (.normPartialArrival l) s = .next (r.cnt LDG_NORM_LATE_count)) ∧
            (∀ r, t.normSlotFor (t.ctxLedger p.ctx) p.ctx p.chunk p.slice = (.error 1, r) →
              exec (.normPartialArrival l) s = .next ((r.cnt LDG_NORM_NORES_count).nak p x.pipe 9)) ∧
            (∀ r y, t.normSlotFor (t.ctxLedger p.ctx) p.ctx p.chunk p.slice = (.ok y, r) →
              (y.state = 4 → exec (.normPartialArrival l) s = .next (r.cnt LDG_NORM_LATE_count)) ∧
              (∀ old, y.state ≠ 4 → y.peers.get? p.member = some old → old = leNat p.payload → exec (.normPartialArrival l) s = .next (r.cnt LDG_NORM_DUP_count)) ∧
              (∀ old, y.state ≠ 4 → y.peers.get? p.member = some old → old ≠ leNat p.payload →
                exec (.normPartialArrival l) s = .next (((r.cnt LDG_NORM_CONFLICT_count).normFault y).finish y.ctx)) ∧
              (y.state ≠ 4 → y.peers.get? p.member = none → ∀ z : NormSlot,
                z = { y with peers := y.peers.put p.member (leNat p.payload), total := y.total.join (({} : Accum).add 0 (decodeExp (leNat p.payload)) (decide (p.poisonMap % 2 = 1))).1 } →
                exec (.normPartialArrival l) s = .next ((r.setNorm z).normFinal z))))))) ∧
    (∀ reason, p.kind = 3 → ackRead p = some (1, reason, 6) → reason ≠ 10 →
      (e2eOf p.payload ≠ p.e2e → exec (.normPartialRequest l) s = .next t) ∧
      (e2eOf p.payload = p.e2e → t.peerOf (t.ctxLedger p.ctx) p.src = none → exec (.normPartialRequest l) s = .next (t.cnt LDG_NORM_LATE_count)) ∧
      (∀ m, e2eOf p.payload = p.e2e → t.peerOf (t.ctxLedger p.ctx) p.src = some m →
        (reason = 9 → exec (.normPartialRequest l) s = .next { t with ser := { t.ser with resend := t.ser.resend ++
            [{ ledger := t.ctxLedger p.ctx, ctx := p.ctx, key := p.chunk, member := m, due := t.cyc + usCyc (t.rd LDG_NORM_CFG_retry_us), asked := true }] } }) ∧
        (reason ≠ 9 → reason ≠ 8 → exec (.normPartialRequest l) s = .next (t.cnt LDG_NORM_LATE_count)) ∧
        (∀ r, reason = 8 → t.findPartial (t.ctxLedger p.ctx) p.ctx p.chunk = (none, r) → exec (.normPartialRequest l) s = .next (r.cnt LDG_NORM_LATE_count)) ∧
        (∀ b r, reason = 8 → t.findPartial (t.ctxLedger p.ctx) p.ctx p.chunk = (some b, r) →
          exec (.normPartialRequest l) s = .next (r.sendPartial (t.ctxLedger p.ctx) p.ctx p.chunk m b)))) ∧
    (p.kind = 3 → ackRead p = some (1, 10, 6) →
      (e2eOf p.payload ≠ p.e2e → exec (.normAbortNak l) s = .next t) ∧
      (∀ y, e2eOf p.payload = p.e2e → t.normOf (t.ctxLedger p.ctx) p.ctx p.chunk (fun y => y.state ≠ 0 && y.state ≠ 4) = some y →
        exec (.normAbortNak l) s = .next ((t.normFault y).finish y.ctx)) ∧
      (e2eOf p.payload = p.e2e → t.normOf (t.ctxLedger p.ctx) p.ctx p.chunk (fun y => y.state ≠ 0 && y.state ≠ 4) = none →
        exec (.normAbortNak l) s = .next (t.cnt LDG_NORM_LATE_count)))) ∧
  (∀ s : State, s.alive = true →
    exec .normTimeout s = .next ((s.ser.norms.filter fun y => y.state = 2 && decide (y.since + usCyc (s.rd LDG_NORM_CFG_timeout_us) ≤ s.cyc)).foldl
      (fun t y => (((t.cnt LDG_NORM_TIMEOUT_count).irq 14 4).normFault y).finish y.ctx) s) ∧
    (∀ u : State, u = (s.ser.resend.filter fun x => decide (x.due ≤ s.cyc)).foldl (fun t x => match (t.findPartial x.ledger x.ctx x.key).1 with
        | some b => (t.findPartial x.ledger x.ctx x.key).2.sendPartial x.ledger x.ctx x.key x.member b
        | none => if x.asked then (t.findPartial x.ledger x.ctx x.key).2.cnt LDG_NORM_LATE_count else (t.findPartial x.ledger x.ctx x.key).2) { s with ser := { s.ser with resend := s.ser.resend.filter fun x => decide (s.cyc < x.due) } } →
      exec .normRetry s = .next ((u.ser.norms.filter fun y => y.state = 2 && decide (y.retryAt ≤ u.cyc)).foldl (fun t y =>
        (((t.peers y.ledger).filter fun m => (y.peers.get? m).isNone).foldl (fun v m => v.normNak y.ledger y.ctx y.key m 8) t).setNorm
          { y with retryAt := (((t.peers y.ledger).filter fun m => (y.peers.get? m).isNone).foldl (fun v m => v.normNak y.ledger y.ctx y.key m 8) t).cyc + usCyc ((((t.peers y.ledger).filter fun m => (y.peers.get? m).isNone).foldl (fun v m => v.normNak y.ledger y.ctx y.key m 8) t).rd LDG_NORM_CFG_retry_us) }) u)))

/-- R283, R284, R286, R293: the launch broadcast. With broadcasts disabled the packet is dropped and counted; a repeat adds its parent to the open entry; one of a closed entry is answered at once, or where it is targeted copied again, its entry opening; a new one is copied to its children and to the host path and takes an entry, which closes once every child has answered or is unreachable, or is dropped where none is to be had; a parity error in its tree counts and leaves its children unreachable. An open entry none of whose copies waits closes child_timeout_us after its last copy, a closed one is freed hold_ms later. -/
def Obligations.LaunchBroadcast : Prop :=
  (∀ (s t : State) (x : Flight) (p : Pkt), s.alive = true → s.headLocal .bcast = some x →
    p = { x.pkt with hopPtr := if x.pkt.wbDone = 1 then x.pkt.hopPtr else x.pkt.hopPtr - 1, wbDone := 0 } → t = s.dropFlight x →
    (t.flag SRG_BC_CFG_enable = false → exec .broadcastArrival s = .next (t.cnt SRG_BC_DROP_count)) ∧
    (t.flag SRG_BC_CFG_enable = true →
      (∀ e, t.ser.bcast.find? (·.hasKey p) = some e → e.isOpen = true →
        exec .broadcastArrival s = .next ((t.cnt SRG_BC_DUP_count).putBc { e with parents := if e.parents.contains x.arr then e.parents else e.parents ++ [x.arr] })) ∧
      (∀ e, t.ser.bcast.find? (·.hasKey p) = some e → e.isOpen = false → (t.cnt SRG_BC_DUP_count).bcTargeted p = false →
        exec .broadcastArrival s = .next ((t.cnt SRG_BC_DUP_count).bcAck p x.pipe x.arr)) ∧
      (∀ (e e' : BcEnt) (u c : State) (kids dead : Nat) (bad : Bool), t.ser.bcast.find? (·.hasKey p) = some e → e.isOpen = false → u = t.cnt SRG_BC_DUP_count → u.bcTargeted p = true →
        u.bcKids p x.arr = (kids, bad) → u.bcCopies p x.pipe kids bad = (dead, c) →
        e' = { e with pkt := p, pipe := x.pipe, isOpen := true, parents := [x.arr], kids := kids, answered := 0, dead := dead, lastAt := u.cyc } →
        exec .broadcastArrival s = .next ((c.putBc e').bcCheck e')) ∧
      (t.ser.bcast.find? (·.hasKey p) = none → t.bcRoom = none → exec .broadcastArrival s = .next (t.cnt SRG_BC_DROP_count)) ∧
      (∀ (v v' c d : State) (kids dead : Nat) (bad : Bool) (e : BcEnt), t.ser.bcast.find? (·.hasKey p) = none → t.bcRoom = some v → v.bcKids p x.arr = (kids, bad) →
        v' = (if bad then v.cnt SRG_BC_DROP_count else v) → (v'.cnt SRG_BC_RX_count).bcCopies p x.pipe kids bad = (dead, c) → d = c.bcLocal p x.pipe →
        e = { pkt := p, pipe := x.pipe, isOpen := true, parents := [x.arr], kids := kids, dead := dead, lastAt := d.cyc } →
        exec .broadcastArrival s = .next ((d.setBc (d.ser.bcast ++ [e])).bcCheck e)))) ∧
  (∀ s : State, s.alive = true →
    (s.headLocal .bcast = none → exec .broadcastArrival s = .next s) ∧
    exec .childTimeout s = .next ((s.ser.bcast.filter fun e => e.isOpen && decide (e.lastAt + usCyc (max 1 (s.rd SRG_BC_CFG_child_timeout_us)) ≤ s.cyc) && !s.ser.bcWait.any fun w => e.hasKey w.1).foldl (fun v e => v.bcClose e) s) ∧
    exec .bcHoldExpiry s = .next (s.setBc (s.ser.bcast.filter fun e => e.isOpen || decide (s.cyc < e.closedAt + msCyc (s.rd SRG_BC_CFG_hold_ms)))))

/-- R303, R304, R306 to R308, R310, R311, R314, R320 to R322: rings, heaters, combs, fade and monitors. A ring that loses lock, or is swept in its turn or for want of headroom, one at a time and outside a hold window, takes its lane out; one that regains it records what was measured; every 10 µs a heater update shows the temperatures, sets each lit ring's code plus its loop's correction and follows its headroom. A comb that loses lock is counted, raised and given relock_us, then, where it lights its pair, replaced by CS4 150 µs ahead; switching off a comb that lights a fibre is INVALID; the fade is evaluated at most once a millisecond; a monitor's integration begins once the tap is free and ends with its data valid; a baseline is averaged for 100 ms, then taken only where boot flash took it. -/
def Obligations.RingsHeatersAndCombs : Prop :=
  (∀ (s : State) (e r : Nat) (x : Ring), s.alive = true → e < 8 → r < 272 → x = s.ring e r →
    (∀ out, x.lock ≠ 1 → x.lock ≠ 2 → exec (.ringLockLoss e r out) s = .next (s.dropLock e r 5 { x with lock := 1, out := out, sweep := false })) ∧
    (∀ out, (x.lock = 1 ∨ x.lock = 2) → exec (.ringLockLoss e r out) s = .next s) ∧
    (∀ cause y, s.ringLane e r = none → s.dropLock e r cause y = s.setRing e r y) ∧
    (∀ cause y l, s.ringLane e r = some l → s.dropLock e r cause y = ((s.setRing e r y).leave [l] cause).lookRings l) ∧
    (∀ offset order up down, x.lock ≠ 1 → exec (.ringRelocked e r offset order up down) s = .next s) ∧
    (∀ offset order up down (y : Ring) (u v : State), x.lock = 1 → offset < 65536 → order < 4 → up < 256 → down < 256 →
      y = { x with offset := offset, order := order, up := up, down := down, lock := if (s.ringLane e r).isSome && !s.bypassed (8 * e + r / 34) then 0 else 3, out := false, sweep := false, up0 := up, down0 := down, temp0 := s.ringTemp e r } →
      u = (s.setRing e r y).monStart e (· = 85 + r) →
      v = (if x.sweep then (if u.flag OPX_CMD_STAT_busy e && u.rd OPX_RING_KEY_ring e = r && (u.opt.avg.get? e).isNone then u.opxDone e 0 else u)
        else if x.out then ((u.cnt OPX_RELOCK_count e).opxIrq e 9).cnt OPX_HEADROOM_EXC_count e else (u.cnt OPX_RELOCK_count e).opxIrq e 9) →
      exec (.ringRelocked e r offset order up down) s = .next (match s.ringLane e r with | none => v | some l => v.lookRings l)) ∧
    (∀ (now : List Nat) (turn : Bool), now = (if (s.opt.swept.getD [] e).contains r then s.opt.swept.getD [] e else r :: s.opt.swept.getD [] e) →
      turn = (s.flag OPX_CTRL_recal_en e && decide ((if s.rd OPX_RECAL_period_s e = 0 then 60 else s.rd OPX_RECAL_period_s e) * 2000000000 ≤ 272 * (s.cyc - s.opt.sweepAt.getD 0 e)) && !(s.opt.swept.getD [] e).contains r) →
      (x.lock ≠ 1 → s.sweeping e = false → s.engineHeld e = false → turn = true → exec (.recalSweep e r) s = .next
        (({ s with opt := { s.opt with sweepAt := s.opt.sweepAt.put e s.cyc, swept := s.opt.swept.put e (if 272 ≤ now.length then [] else now) } } : State).sweep e r)) ∧
      (x.lock ≠ 1 → s.sweeping e = false → s.engineHeld e = false → turn = false → min x.up x.down < s.rd OPX_RECAL_early_c e → exec (.recalSweep e r) s = .next
        (({ s with opt := { s.opt with swept := s.opt.swept.put e (if 272 ≤ now.length then [] else now) } } : State).sweep e r)) ∧
      (turn = false → s.rd OPX_RECAL_early_c e ≤ min x.up x.down → exec (.recalSweep e r) s = .next s)) ∧
    ((x.lock = 1 ∨ s.sweeping e = true ∨ s.engineHeld e = true) → exec (.recalSweep e r) s = .next s) ∧
    (∀ u, s.served (0x30 + e) 0x128 → u = s.event (0x30 + e) 4 →
      (u.flag OPX_CMD_STAT_busy e = true → exec (.sweepRing e) s = .next u) ∧
      (u.flag OPX_CMD_STAT_busy e = false → 272 ≤ u.rd OPX_RING_KEY_ring e → exec (.sweepRing e) s = .next (u.opxDone e 3)) ∧
      (u.flag OPX_CMD_STAT_busy e = false → u.rd OPX_RING_KEY_ring e < 272 → (u.ring e (u.rd OPX_RING_KEY_ring e)).lock = 1 → exec (.sweepRing e) s = .next
        ((u.setRing e (u.rd OPX_RING_KEY_ring e) { u.ring e (u.rd OPX_RING_KEY_ring e) with sweep := true }).wr OPX_CMD_STAT_busy 1 e)) ∧
      (u.flag OPX_CMD_STAT_busy e = false → u.rd OPX_RING_KEY_ring e < 272 → (u.ring e (u.rd OPX_RING_KEY_ring e)).lock ≠ 1 →
        exec (.sweepRing e) s = .next ((u.sweep e (u.rd OPX_RING_KEY_ring e)).wr OPX_CMD_STAT_busy 1 e))) ∧
    (∀ (temps : List Nat) (dith : List Int) (bad : List Nat),
      (∀ c, s.opt.heatAt.get? e = some c → s.cyc < c + usCyc 10 → exec (.heaterUpdate e temps dith bad) s = .next s) ∧
      ((∀ c, s.opt.heatAt.get? e = some c → c + usCyc 10 ≤ s.cyc) → ∀ u v : State, u = { s with opt := { s.opt with heatAt := s.opt.heatAt.put e s.cyc } } →
        v = (((u.wr OPX_TEMP_t0 (temps.getD 0 0 % 65536) e).wr OPX_TEMP_t1 (temps.getD 1 0 % 65536) e).wr OPX_TEMP_t2 (temps.getD 2 0 % 65536) e).wr OPX_TEMP_t3 (temps.getD 3 0 % 65536) e →
        exec (.heaterUpdate e temps dith bad) s = .next ((List.range 272).foldl (fun t q =>
          if 2 ≤ t.rd PWR_FIBRE_state 0 (8 * e + q / 34) then t else
          let temp := toSigned 16 (temps.getD (q / 34 / 2) 0 % 65536)
          let c := t.ffCode e q temp
          let f := if c % 2160 = 0 then (0, t) else t.takeFree 11
          let h := (t.ring e q).room temp
          let n := f.2.setRing e q { (t.ring e q) with heater := ofSigned 16 (c / 2160 + ((f.1 % 2 : Nat) : Int) + dith.getD q 0), up := h.1, down := h.2 }
          if (t.ring e q).atOut temp then n.ringLoss e q true else n) (bad.foldl (fun t q => t.ringLoss e (q % 272) false) v))))) ∧
  (∀ (s : State) (e c : Nat), e < 8 → c < 5 →
    (s.alive = true → s.flag OPX_COMB_lock e c = true → ∃ u : State, u = ((s.wr OPX_COMB_lock 0 e c).cnt OPX_LOCK_LOSS_count e).opxIrq e 5 ∧
      exec (.combLockLoss e c) s = .next (({ u with opt := { u.opt with relock := u.opt.relock.put (e * 8 + c) (u.cyc + usCyc (u.rd OPX_CTRL_relock_us e)) } } : State).refit e)) ∧
    (s.alive = true → s.flag OPX_COMB_lock e c = false → exec (.combLockLoss e c) s = .next s) ∧
    (s.alive = true → s.flag OPX_COMB_lock e c = false → s.flag OPX_COMB_off e c = false → (s.rd PAGE_PWR_state (0x30 + e) ≠ 3 ∨ s.pwr.wakeE.contains e = true) → ∃ u : State, u = s.wr OPX_COMB_lock 1 e c ∧
      exec (.combLocked e c) s = .next (({ u with opt := { u.opt with relock := u.opt.relock.del (e * 8 + c) } } : State).refit e)) ∧
    (s.alive = true → (s.flag OPX_COMB_lock e c = true ∨ s.flag OPX_COMB_off e c = true) → exec (.combLocked e c) s = .next s) ∧
    (s.alive = true → s.opt.relock.get? (e * 8 + c) = none → exec (.combRelockTimeout e c) s = .next s) ∧
    (s.alive = true → ∀ t, s.opt.relock.get? (e * 8 + c) = some t →
      (s.cyc < t → exec (.combRelockTimeout e c) s = .next s) ∧
      (t ≤ s.cyc → ∀ u : State, u = { s with opt := { s.opt with relock := s.opt.relock.del (e * 8 + c) } } →
        (c < 4 → u.flag OPX_COMB_lock e c = false → u.fibreComb (8 * e + 2 * c) = c → exec (.combRelockTimeout e c) s = .next (u.toSpare e c (150000 * NS))) ∧
        ((4 ≤ c ∨ u.flag OPX_COMB_lock e c = true ∨ u.fibreComb (8 * e + 2 * c) ≠ c) → exec (.combRelockTimeout e c) s = .next u))) ∧
    (∀ (u : State) (w : Wr), s.served (0x30 + e) (0x200 + 8 * c) → u = s.event (0x30 + e) 4 →
      (w.merge 1 1 (u.rd OPX_COMB_off e c) = 1 → u.lights e c = true → exec (.combOffWrite e c w) s = .next (u.opxDone e 3)) ∧
      (w.merge 1 1 (u.rd OPX_COMB_off e c) = 1 → u.lights e c = false →
        exec (.combOffWrite e c w) s = .next ((((u.wr OPX_COMB_off 1 e c).wr OPX_COMB_lock 0 e c)).refit e)) ∧
      (w.merge 1 1 (u.rd OPX_COMB_off e c) ≠ 1 → exec (.combOffWrite e c w) s = .next ((u.wr OPX_COMB_off 0 e c).refit e))) ∧
    (∀ powers, s.alive = true →
      ((s.flag OPX_CTRL_fade_en e = false ∨ s.flag OPX_STATUS_no_baseline e = true ∨ s.cyc < s.opt.fadeAt.getD 0 e + 2000000) →
        exec (.fadeEvaluation e powers) s = .next s) ∧
      (s.flag OPX_CTRL_fade_en e = true → s.flag OPX_STATUS_no_baseline e = false → s.opt.fadeAt.getD 0 e + 2000000 ≤ s.cyc →
        exec (.fadeEvaluation e powers) s = .next (((List.range 5).foldl (fun v k => v.fadeComb e k powers)
          ({ s with opt := { s.opt with fadeAt := s.opt.fadeAt.put e s.cyc } } : State)).monStart e (· < 85)))) ∧
    (∀ (powers : List Nat) (ok : Bool) (u : State), s.served (0x30 + e) 0x128 → u = s.event (0x30 + e) 4 →
      (u.flag OPX_CMD_STAT_busy e = true → exec (.baseline e powers ok) s = .next u) ∧
      (u.flag OPX_CMD_STAT_busy e = false → exec (.baseline e powers ok) s = .next
        (({ u with opt := { u.opt with avg := u.opt.avg.put e (u.cyc + msCyc 100, powers, ok) } } : State).wr OPX_CMD_STAT_busy 1 e))) ∧
    (∀ (due : Nat) (powers : List Nat) (ok : Bool) (u : State), (s.opt.avg.filter fun x => decide (x.2.1 ≤ s.cyc)) = [(e, due, powers, ok)] →
      u = { s with opt := { s.opt with avg := s.opt.avg.del e } } →
      (ok = false → s.tickBaselines = u.opxDone e 3) ∧
      (ok = true → s.tickBaselines = (({ u with opt := { u.opt with base := (List.range 85).foldl (fun m i => m.put (e * 85 + i) (powers.getD i 0 % 2 ^ 40)) u.opt.base } } : State).wr OPX_STATUS_no_baseline 0 e).opxDone e 0)) ∧
    (∀ (tap int : Nat) (u : State), s.served (0x30 + e) 0x170 → u = s.event (0x30 + e) 4 → int < 4 →
      (tap ≤ 356 → exec (.monCmd e tap int) s = .next { u with opt := { u.opt with mon := u.opt.mon.put e (tap, monCyc int, if u.tapBusy e tap then none else some u.cyc) } }) ∧
      (356 < tap → tap < 512 → exec (.monCmd e tap int) s = .next u)) ∧
    (∀ power tap n, s.alive = true →
      (s.opt.mon.get? e = some (tap, n, none) → exec (.monDone e power) s = .next s) ∧
      (∀ t, s.opt.mon.get? e = some (tap, n, some t) →
        (s.cyc < t + n → exec (.monDone e power) s = .next s) ∧
        (t + n ≤ s.cyc → ∃ u : State, u = { s with opt := { s.opt with mon := s.opt.mon.del e } } ∧
          exec (.monDone e power) s = .next (((u.wr OPX_MON_DATA_power power e).wr OPX_MON_DATA_valid 1 e).opxIrq e 8)))))

/-- R91, R315 to R320, R333, R337, R341: changes of light and their hold windows. An announcement is accepted or refused with its first reason; a withdrawal takes the change and its windows away and tells the far end where a notice had gone; a COMB_CHANGE or LINE_MIGRATE effect begins the announced change whose instant it meets, or is rejected, also where CS4 is not fit or no notice could go; the end of the window completes it, and the retry timers of the fibres held have stood still. A notice received in time sets, replaces or withdraws a receive window, which opens, moves its lane and closes at its instants; one too late is counted and discarded, one on a bypassed fibre ignored. -/
def Obligations.ChangesOfLight : Prop :=
  ∀ (s : State) (e f : Nat), e < 8 → f < 64 →
    (∀ u : State, s.served (0x30 + e) 0x158 → u = s.event (0x30 + e) 4 →
      (u.chgRefusal (u.chgAsked e) = 0 → exec (.announce e) s = .next (u.chgAccept (u.chgAsked e))) ∧
      (∀ r, u.chgRefusal (u.chgAsked e) = r → r ≠ 0 → exec (.announce e) s = .next ((u.chgRefuse e 3 r).wr OPX_CHG_STAT_by_fw 0 e)) ∧
      (∀ o, u.opt.chgs.find? (fun x => x.eng = e && x.kind = (u.chgAsked e).kind && !x.begun &&
          (if (u.chgAsked e).kind = 0 then x.pair = (u.chgAsked e).pair && x.to_ = (u.chgAsked e).to_ else x.fibre = (u.chgAsked e).fibre && x.line = (u.chgAsked e).line)) = o →
        (o = none → exec (.changeWithdraw e) s = .next u) ∧
        (∀ c, o = some c → exec (.changeWithdraw e) s = .next (c.fibres.foldl (fun v g => if c.sent.getD 0 g = 0 then v else (v.sendLmf g (c.notice g true)).cnt OPX_NOTICE_TX_count e)
          ((u.chgGone c).chgStat e 0 0))))) ∧
    (∀ k c, s.opt.chgs.find? (fun x => x.kind = 0 && x.eng = e && x.to_ = k && !x.begun && s.onTime x) = some c →
      ((c.to_ ≠ 4 ∨ s.flag OPX_COMB_fit e 4 = true) → s.combChange e k = (s.putChg { c with begun := true }, true)) ∧
      (c.to_ = 4 → s.flag OPX_COMB_fit e 4 = false → s.combChange e k = (s.chgRefuse e 4 4, false))) ∧
    (∀ k, s.opt.chgs.find? (fun x => x.kind = 0 && x.eng = e && x.to_ = k && !x.begun && s.onTime x) = none → s.combChange e k = (s.chgRefuse e 4 5, false)) ∧
    (∀ line, s.opt.chgs.find? (fun x => x.kind = 1 && x.fibre = f && x.line = line && !x.begun && s.onTime x) = none → s.lineMigrate f line = (s.chgRefuse (f / 8) 4 5, false)) ∧
    (∀ line c, s.opt.chgs.find? (fun x => x.kind = 1 && x.fibre = f && x.line = line && !x.begun && s.onTime x) = some c →
      ((s.bypassed f = true ∨ c.sent.getD 0 f ≠ 0) → s.lineMigrate f line = (s.putChg { c with begun := true }, true)) ∧
      (s.bypassed f = false → c.sent.getD 0 f = 0 → s.lineMigrate f line = (s.chgRefuse (f / 8) 4 5, false))) ∧
    (∀ k, s.alive = true → k < 32 →
      exec (.combChange k) s = .next (s.effect k 7 fun a t => t.combChange (fld a.arg 0 3) (fld a.arg 4 3)) ∧
      exec (.lineMigrate k) s = .next (s.effect k 8 fun a t => t.lineMigrate (fld a.arg 0 6) (fld a.arg 8 5))) ∧
    (∀ c, (s.opt.chgs.filter fun c => c.eng = e && decide (c.c + holdLen ≤ s.fclk)) = [c] → ∀ u : State, u = (s.chgDone c).chgGone c →
      s.holdEnd e = (c.fibres.filter s.txHeld).foldl (fun v g => v.shiftTimers g (v.cyc - (v.fclk - c.c) / 2 ^ 47)) u) ∧
    (∀ id a b sec ns c, s.alive = true → id < 65536 → c = clkOf sec (ns / 2) (ns % 2) →
      (s.bypassed f = true → exec (.changeoverNotice f id a b sec ns) s = .next s) ∧
      (s.bypassed f = false → c < s.fclk + s.mldClk f + 8 * NS → exec (.changeoverNotice f id a b sec ns) s = .next (s.cnt LNK_LMF_LATE_count (f / 8))) ∧
      (s.bypassed f = false → s.fclk + s.mldClk f + 8 * NS ≤ c →
        exec (.changeoverNotice f id a b sec ns) s = .next ((s.setFib f { s.fib f with
          rxHold := if a = b then (s.fib f).rxHold.filter fun h => !(h.id = id && !h.isOpen && s.fclk + s.mldClk f < h.from_ + 8 * NS)
            else ((s.fib f).rxHold.filter fun h => !(h.id = id && !h.isOpen && s.fclk + s.mldClk f < h.from_ + 8 * NS)) ++
              [{ id := id, from_ := c + s.mldClk f - 8 * NS, until_ := c + s.mldClk f + 264 * NS, lanes := lanesOf f, line := none }] }).cnt OPX_NOTICE_RX_count (f / 8)))) ∧
    (∀ id line sec ns c, s.alive = true → id < 65536 → c = clkOf sec (ns / 2) (ns % 2) →
      (s.bypassed f = true → exec (.lineNotice f id line sec ns) s = .next s) ∧
      (s.bypassed f = false → c < s.fclk + s.mldClk f + 8 * NS → exec (.lineNotice f id line sec ns) s = .next (s.cnt LNK_LMF_LATE_count (f / 8))) ∧
      (s.bypassed f = false → s.fclk + s.mldClk f + 8 * NS ≤ c →
        exec (.lineNotice f id line sec ns) s = .next ((s.setFib f { s.fib f with
          rxHold := if 16 ≤ line then (s.fib f).rxHold.filter fun h => !(h.id = id && !h.isOpen && s.fclk + s.mldClk f < h.from_ + 8 * NS)
            else ((s.fib f).rxHold.filter fun h => !(h.id = id && !h.isOpen && s.fclk + s.mldClk f < h.from_ + 8 * NS)) ++
              [{ id := id, from_ := c + s.mldClk f - 8 * NS, until_ := c + s.mldClk f + 264 * NS, lanes := [f * 16 + line % 16], line := some (line % 16) }] }).cnt OPX_NOTICE_RX_count (f / 8)))) ∧
    (s.alive = true →
      exec (.rxHoldOpen f) s = .next (s.setFib f { s.fib f with rxHold := (s.fib f).rxHold.map fun (h : HoldWin) => if h.from_ ≤ s.fclk then { h with isOpen := true } else h }) ∧
      (∀ u : State, u = s.setFib f { s.fib f with rxHold := (s.fib f).rxHold.filter fun h => s.fclk < h.until_ } →
        exec (.rxHoldClose f) s = .next ((((s.fib f).rxHold.filter fun h => decide (h.until_ ≤ s.fclk)).flatMap (·.lanes)).foldl (fun t l => t.setLaneX l { t.laneX l with markAt := t.cyc }) u)) ∧
      ((s.fib f).rxHold.find? (fun h => h.line.isSome && !h.moved && h.from_ + 136 * NS ≤ s.fclk) = none → exec (.rxMigrateSwitch f) s = .next s) ∧
      (∀ h m, (s.fib f).rxHold.find? (fun h => h.line.isSome && !h.moved && h.from_ + 136 * NS ≤ s.fclk) = some h → h.line = some m → ∀ (a b : Nat) (o : Option Nat),
        (((s.fib f).rxSpare = some m ∧ a = 16 ∧ b = m ∧ o = none) ∨ ((s.fib f).rxSpare ≠ some m ∧ a = m ∧ b = 16 ∧ o = some m)) →
        ∃ u v : State, u = s.setFib f { s.fib f with
            rxHold := (s.fib f).rxHold.map fun (y : HoldWin) => if y.id = h.id then { y with moved := true } else y, rxSpare := o } ∧
          v = u.setRing (f / 8) (dropRing f a) { u.ring (f / 8) (dropRing f a) with lock := 3 } ∧
          exec (.rxMigrateSwitch f) s = .next (v.setRing (f / 8) (dropRing f b) { v.ring (f / 8) (dropRing f b) with lock := 0 })))

/-- R324, R335, R337, R338, R343, R344, R346, R348, R350, R362: lanes come into service and leave it. A TRAIN lane whose rings hold lock and whose BER is 2.4e-4 or less becomes READY, the first of its fibre starting the evaluation afresh, and announces its rejoin on an EXPECTED fibre; a READY lane that has rejoined enters SERVICE, taking its port up with it; lanes leave for the causes that hold of them outside a receive hold window, or by DISABLE; RETRAIN takes a FAILED lane, or one OFF by DISABLE, back to TRAIN, and every lane in TRAIN, READY or SERVICE out of it; a LANE_NOTICE of a fibre not EXPECTED is held, of one with a minor of 1 or more acts, on a bypassed one is ignored. -/
def Obligations.LanesEnterAndLeaveService : Prop :=
  ∀ (s : State) (l f : Nat), l < 1024 → f = l / 16 →
    (s.alive = true → ∀ ber,
      (s.lane l = laneTRAIN → (s.laneX l).rings = true → ber ≤ 24000 → ∀ a u v : State, a = (s.setBer l ber).setLane l laneREADY →
        u = a.setLaneX l { a.laneX l with frames := 0, readyAt := a.cyc, markAt := a.cyc } →
        v = (if !(s.setBer l ber).otherLit l && u.flag TRV_CTRL_enable && u.trv f ≠ 7 then (u.setFib f { u.fib f with probeAt := none, identAt := none, gone := false }).setTrv f 1 else u) →
        exec (.laneReady { lane := l, ber := ber }) s = .next (if v.trv f = 2 then v.rejoin l else v)) ∧
      ((s.lane l ≠ laneTRAIN ∨ (s.laneX l).rings = false ∨ 24000 < ber) → exec (.laneReady { lane := l, ber := ber }) s = .next s)) ∧
    (s.alive = true →
      ((s.lane l ≠ laneREADY ∨ s.trv f ≠ 2 ∨ s.rejoined l = false) → exec (.laneServiceEntry l) s = .next s) ∧
      (s.lane l = laneREADY → s.trv f = 2 → s.rejoined l = true → ∀ p, s.lanePort l = some p →
        (s.isBad TB_LANEMAP 0 l 0 16 = true → exec (.laneServiceEntry l) s = .next s) ∧
        (s.isBad TB_LANEMAP 0 l 0 16 = false →
          exec (.laneServiceEntry l) s = .next (if (s.setLane l laneSERVICE).flag LP_CFG_link_up 0 p then s.setLane l laneSERVICE else (s.setLane l laneSERVICE).portUp p)))) ∧
    (s.alive = true → ∀ (lx : List (Nat × Nat)) (cause : Nat), (∀ x ∈ lx, x.1 < 1024) →
      (∀ (u : State) (ls : List Nat), 1 ≤ cause → cause ≤ 4 → u = (if cause = 4 then lx.foldl (fun v x => v.setBer x.1 x.2) s else s) →
        ls = (lx.filter fun x => !u.laneRxHeld x.1 && u.causeHolds x.1 cause x.2).map (·.1) →
        exec (.laneLeaveService lx cause) s = .next ((u.leave (ls.filter fun m => cause = 1 && u.losFree (m / 16)) cause false true).leave (ls.filter fun m => !(cause = 1 && u.losFree (m / 16))) cause)) ∧
      (cause = 8 → exec (.laneLeaveService lx cause) s = .next ((((lx.map (·.1)).map (· / 16)).eraseDups.foldl (fun v g => v.lnkIrq g 3)
        (s.spoil ((lx.map (·.1)).map fun m => tkey TB_LANEMAP 0 m 0 * 32 + 16))).leave (lx.map (·.1)) 8)) ∧
      ((cause = 0 ∨ (4 < cause ∧ cause ≠ 8)) → exec (.laneLeaveService lx cause) s = .next s)) ∧
    (∀ u v : State, s.served (0x38 + l / 128) 0x120 → u = s.event (0x38 + l / 128) 4 → v = u.setLaneX l { u.laneX l with waking := false } →
      (v.laneCarries l = true → exec (.disable (l / 128) (l % 128)) s = .next (v.leave [l] 7 true)) ∧
      (v.laneCarries l = false → exec (.disable (l / 128) (l % 128)) s = .next ((v.setLane l laneOFF).setCause l 7)) ∧
      ((u.lane l = laneFAILED ∨ (u.lane l = laneOFF ∧ u.cause l = 7)) →
        (u.bypassed f = true → exec (.retrain (l / 128) (l % 128)) s = .next u) ∧
        (u.bypassed f = false → (u.idleAsked f = true ∨ u.rd PAGE_PWR_req (0x30 + l / 128) = 2) → exec (.retrain (l / 128) (l % 128)) s = .next ((u.setLane l laneOFF).setCause l 12)) ∧
        (u.bypassed f = false → u.idleAsked f = false → u.rd PAGE_PWR_req (0x30 + l / 128) ≠ 2 →
          exec (.retrain (l / 128) (l % 128)) s = .next (if (u.laneX l).rings then u.toTrain l else u.setLaneX l { u.laneX l with waking := true }))) ∧
      (u.lane l = laneTRAIN → exec (.retrain (l / 128) (l % 128)) s = .next (u.leaveOne l 7 false true)) ∧
      ((u.lane l = laneREADY ∨ u.lane l = laneSERVICE) → exec (.retrain (l / 128) (l % 128)) s = .next (u.leave [l] 7))) ∧
    (s.alive = true → ∀ v, v < 2 →
      (s.bypassed f = true → exec (.laneNotice f (l % 16) v) s = .next s) ∧
      (s.bypassed f = false →
        (s.trv f ≠ 2 → exec (.laneNotice f (l % 16) v) s = .next (s.setLaneX l { s.laneX l with held := some v })) ∧
        (s.trv f = 2 → s.noticeOk f = true → v = 0 →
          exec (.laneNotice f (l % 16) v) s = .next ((s.setLaneX l { s.laneX l with gotRej := false }).leave [l] 6)) ∧
        (s.trv f = 2 → s.noticeOk f = true → v = 1 → exec (.laneNotice f (l % 16) v) s = .next (s.setLaneX l { s.laneX l with gotRej := true })) ∧
        (s.trv f = 2 → s.noticeOk f = false → exec (.laneNotice f (l % 16) v) s = .next s)))

/-- R331 to R333, R336: retry and credit. A RETRY_ACK releases what it covers but a packet half sent again; a RETRY_REQ replays from its sequence, or is counted where that is not held; the frames of a port without a lane on the fibre are counted as bad; an acknowledgement goes out after an advance or every 10 µs; a packet unacknowledged for retry_to_us is replayed until retry_max replays bring no advance, which faults the port; a request unanswered for req_us goes again; credit counts accumulate modulo 2^16; credits are reported after a change or every 10 µs. -/
def Obligations.RetryAndCredit : Prop :=
  ∀ (s : State) (f lp : Nat), s.alive = true → f < 64 → lp < 1024 →
    (∀ q, q < 2 ^ 32 → (s.fibrePorts f).contains lp = false →
      exec (.retryAck f lp q) s = .next (s.cnt LNK_LMF_BAD_count (f / 8)) ∧ exec (.retryReq f lp q) s = .next (s.cnt LNK_LMF_BAD_count (f / 8))) ∧
    (∀ q, q < 2 ^ 32 → (s.fibrePorts f).contains lp = true →
      (∀ keep : List HeldPkt, keep = ((s.tx lp).held.filter fun h => !seqLe h.seq q || (h.seq = (s.tx lp).cur && (s.tx lp).off ≠ 0)) →
        (keep.length ≠ (s.tx lp).held.length → exec (.retryAck f lp q) s = .next (s.setTx lp { s.tx lp with
          held := keep, blocks := (s.tx lp).blocks.filter fun b => !seqLe b.last q, ackAt := s.cyc, replays := 0, cur := if (s.tx lp).off = 0 && seqLe (s.tx lp).cur q then (q + 1) % 2 ^ 32 else (s.tx lp).cur })) ∧
        (keep.length = (s.tx lp).held.length → exec (.retryAck f lp q) s = .next s)) ∧
      ((∀ h ∈ (s.tx lp).held, h.seq ≠ q) → exec (.retryReq f lp q) s = .next (s.cnt LNK_REQ_IGNORED_count (s.portFibre lp / 8))) ∧
      ((∃ h ∈ (s.tx lp).held, h.seq = q) → s.replaysSpent lp = false → exec (.retryReq f lp q) s = .next (s.replay lp q)) ∧
      ((∃ h ∈ (s.tx lp).held, h.seq = q) → s.replaysSpent lp = true → exec (.retryReq f lp q) s = .next (s.portFault lp))) ∧
    (s.isUp lp = true → ((s.rx lp).advAt.isSome = true ∨ (s.rx lp).ackAt + usCyc 10 ≤ s.cyc) → exec (.retryAckTimer lp) s = .next (s.sendAck lp)) ∧
    ((s.isUp lp = false ∨ ((s.rx lp).advAt = none ∧ s.cyc < (s.rx lp).ackAt + usCyc 10)) → exec (.retryAckTimer lp) s = .next s) ∧
    (((s.tx lp).held = [] ∨ s.isUp lp = false ∨ s.txHeld (s.portFibre lp) = true ∨ s.cyc < (s.tx lp).ackAt + usCyc (max 1 (s.rd LNK_CFG_retry_to_us (s.portFibre lp / 8)))) →
      exec (.retryTimeout lp) s = .next s) ∧
    (∀ h r, (s.tx lp).held = h :: r → s.isUp lp = true → s.txHeld (s.portFibre lp) = false →
      (s.tx lp).ackAt + usCyc (max 1 (s.rd LNK_CFG_retry_to_us (s.portFibre lp / 8))) ≤ s.cyc →
      (s.replaysSpent lp = true → exec (.retryTimeout lp) s = .next (s.portFault lp)) ∧
      (s.replaysSpent lp = false → exec (.retryTimeout lp) s = .next (s.replay lp h.seq))) ∧
    (∀ c, (s.rx lp).req = some c → s.txHeld (s.portFibre lp) = false → c + usCyc (max 1 (s.rd LNK_CFG_req_us (s.portFibre lp / 8))) ≤ s.cyc →
      exec (.retryReqTimeout lp) s = .next (s.askReplay lp)) ∧
    (((s.rx lp).req = none ∨ s.txHeld (s.portFibre lp) = true ∨ (∃ c, (s.rx lp).req = some c ∧ s.cyc < c + usCyc (max 1 (s.rd LNK_CFG_req_us (s.portFibre lp / 8))))) →
      exec (.retryReqTimeout lp) s = .next s) ∧
    (∀ counts, (s.fibrePorts f).contains lp = true → exec (.credit f lp counts) s = .next (s.setTx lp { s.tx lp with
      count := (List.range 16).map fun v => (s.tx lp).count.getD v 0 + (counts.getD v 0 % 65536 + 65536 - (s.tx lp).count.getD v 0 % 65536) % 65536 })) ∧
    (∀ grants u, s.isUp lp = true → u = grants.foldl (fun t v => t.grantVc lp v) s →
      (((u.rx lp).count ≠ (u.rx lp).sent ∧ (u.rx lp).sentAt + nsCyc (u.rd LNK_CFG_credit_ns (u.portFibre lp / 8)) ≤ u.cyc) ∨ (u.rx lp).sentAt + usCyc 10 ≤ u.cyc →
        exec (.creditTimer lp grants) s = .next (u.sendCredit lp)) ∧
      (((u.rx lp).count = (u.rx lp).sent ∨ u.cyc < (u.rx lp).sentAt + nsCyc (u.rd LNK_CFG_credit_ns (u.portFibre lp / 8))) → u.cyc < (u.rx lp).sentAt + usCyc 10 →
        exec (.creditTimer lp grants) s = .next u)) ∧
    (∀ grants, s.isUp lp = false → exec (.creditTimer lp grants) s = .next s)

/-- R344, R345, R347: Traverse. An identity received on a fibre that is not bypassed is counted, recorded, checked and evaluated; a probe is answered with the identity and the state; a state received changes nothing; a probe falls due at its interval on a lit fibre; a fibre without an identity goes absent at its deadlines, one without a neighbour once it is given one; ACCEPT_CROSS and REEVAL complete INVALID outside their states, REEVAL with Traverse held leaves the fibre's state; when enable returns to 1 the timers start afresh. -/
def Obligations.TraverseProtocol : Prop :=
  ∀ (s : State) (f : Nat), f < 64 →
    (∀ i : Ident, s.alive = true → s.flag TRV_CTRL_enable = true → s.bypassed f = false → ∃ a b : State,
      a = ((((((s.cnt TRV_IDENT_RX_count).wr TRV_FIBRE_seen_serial i.serial 0 f).wr TRV_FIBRE_seen_endpoint i.endpoint 0 f).wr TRV_FIBRE_seen_fibre i.fibre 0 f).wr
        TRV_FIBRE_seen_major i.major 0 f).wr TRV_FIBRE_seen_minor i.minor 0 f) ∧
      b = (a.wr TRV_FIBRE_seen_datum_lo (i.datum % 2 ^ 64) 0 f).wr TRV_FIBRE_seen_datum_hi (i.datum / 2 ^ 64) 0 f ∧
      exec (.trvIdent f i) s = .next ((((b.setFib f { b.fib f with identAt := some b.cyc, timer := none, gone := false, ident := true }).checkDatum f).evalFibre f).evalWaiting f)) ∧
    (s.alive = true → (s.flag TRV_CTRL_enable = false ∨ s.bypassed f = true) → (∀ i, exec (.trvIdent f i) s = .next s) ∧ ∀ ep n, exec (.trvProbe f ep n) s = .next s) ∧
    (∀ ep n, s.alive = true → s.flag TRV_CTRL_enable = true → s.bypassed f = false → ep < 2 ^ 24 → n < 2 ^ 32 → exec (.trvProbe f ep n) s = .next ((s.sendLmf f { typ := 2, body := [s.rd TRV_SERIAL_serial, f, s.rd LNK_VERSION_major (f / 8), s.rd LNK_VERSION_minor (f / 8), s.self, s.dtm.module] }).sendTrvState f (some n))) ∧
    (∀ st echo, s.alive = true → exec (.trvState f st echo) s = .next s) ∧
    (s.alive = true →
      (s.flag TRV_CTRL_enable = true → s.trv f ≠ 7 → s.lit f = true → (∀ c, (s.fib f).probeAt = some c → c + s.probeEvery f ≤ s.cyc) →
        exec (.probeTimer f) s = .next ((s.setFib f { s.fib f with probeNo := ((s.fib f).probeNo + 1) % 2 ^ 32, probeAt := some s.cyc }).sendLmf f { typ := 1, body := [s.self, (s.fib f).probeNo] })) ∧
      ((s.flag TRV_CTRL_enable = false ∨ s.trv f = 7 ∨ s.lit f = false ∨ (∃ c, (s.fib f).probeAt = some c ∧ s.cyc < c + s.probeEvery f)) → exec (.probeTimer f) s = .next s)) ∧
    (s.alive = true → (s.flag TRV_CTRL_enable = false ∨ s.trv f = 7) → exec (.absentTimeout f) s = .next s) ∧
    (s.alive = true → s.flag TRV_CTRL_enable = true → s.trv f ≠ 7 →
      (∀ c, (s.fib f).timer = some c → c + msCyc (max 1 (s.rd TRV_CTRL_absent_ms)) ≤ s.cyc → exec (.absentTimeout f) s = .next (s.goAbsent f)) ∧
      (∀ c, (s.fib f).identAt = some c → s.lit f = true → c + 3 * msCyc (max 1 (s.rd TRV_CTRL_keep_ms)) ≤ s.cyc → exec (.absentTimeout f) s = .next (s.goAbsent f)) ∧
      ((s.fib f).gone = true → s.trv f = 0 → s.present f = true → exec (.absentTimeout f) s = .next (s.goAbsent f)) ∧
      ((s.fib f).timer = none → (s.fib f).identAt = none → (s.fib f).gone = false → exec (.absentTimeout f) s = .next s)) ∧
    (∀ u : State, s.served 7 0x118 → u = s.event 7 4 →
      (u.trv f ≠ 5 → exec (.acceptCross f) s = .next (u.trvDone 3)) ∧
      (∀ (g : Nat) (a b : State), u.trv f = 5 → g = u.rd TRV_FIBRE_partner 0 f →
        a = ((List.range 4).map fun w => (u.platWord f w, u.platWord g w)).zipIdx.foldl (fun t x => (t.platPut f x.2 x.1.2).platPut g x.2 x.1.1) u →
        b = ((List.range 4).map fun w => (u.platStaged f w, u.platStaged g w)).zipIdx.foldl (fun t x => (t.platStage f x.2 x.1.2).platStage g x.2 x.1.1) a →
        exec (.acceptCross f) s = .next (((b.evalFibre f).evalFibre g).trvDone 0)) ∧
      (u.trv f = 7 → exec (.reeval f) s = .next (u.trvDone 3)) ∧
      (u.trv f ≠ 7 → u.flag TRV_CTRL_enable = false → exec (.reeval f) s = .next (u.trvDone 0)) ∧
      (u.trv f ≠ 7 → u.flag TRV_CTRL_enable = true → exec (.reeval f) s = .next (((u.setFib f { u.fib f with probeAt := none }).setTrv f 1).trvDone 0))) ∧
    (∀ (w : Wr) (u v : State), s.served 7 0x100 → u = s.event 7 4 →
      v = (((u.put TRV_CTRL_enable w).put TRV_CTRL_probe_us w).put TRV_CTRL_keep_ms w).put TRV_CTRL_absent_ms w →
      ((u.flag TRV_CTRL_enable = true ∨ v.flag TRV_CTRL_enable = false) → exec (.trvCtrlWrite w) s = .next v) ∧
      (u.flag TRV_CTRL_enable = false → v.flag TRV_CTRL_enable = true → exec (.trvCtrlWrite w) s = .next ((List.range 64).foldl (fun t g =>
        t.setFib g { t.fib g with probeAt := some t.cyc, timer := (t.fib g).timer.map fun _ => t.cyc, identAt := (t.fib g).identAt.map fun _ => t.cyc }) v)))

/-- R88, R325, R326, R328, R330, R331, R335, R348: control codewords. The outcome of the FEC is counted; a codeword that is uncorrectable, not a control codeword or on a lane that does not carry then changes nothing; otherwise the sender's port and frames in a row are noted and its four slots are taken: an empty one is nothing, one whose check fails is counted, an LMF passes on in its turn, one ahead of its turn waits, one behind it passes at once (log entry 60); LMFs held 100 ns for a missing one are passed on. -/
def Obligations.ControlCodewords : Prop :=
  ∀ (s : State) (l f : Nat), s.alive = true → l < 1024 → f = l / 16 →
    (∀ (msg chk sym : List Nat) (u : State), sym = msg ++ chk → u = s.fecCount l (decodeWord 0 sym) →
      (decodeWord 0 sym = none → exec (.controlCodeword l msg chk) s = .next u) ∧
      (∀ m b, decodeWord 0 sym = some (m, b) →
        ((CtrlWord.ofBlock (msgBlock m) = none ∨ msgKind m ≠ 0 ∨ u.laneCarries l = false) → exec (.controlCodeword l msg chk) s = .next u) ∧
        (∀ (w : CtrlWord) (counts row : Bool), CtrlWord.ofBlock (msgBlock m) = some w → msgKind m = 0 → u.laneCarries l = true →
          counts = (u.lane l = laneREADY && u.trv f = 2 && (w.state = laneREADY || w.state = laneSERVICE)) →
          row = (match (u.laneX l).lastFrame with | some p => decide (w.frame = (p + 1) % 65536) | none => false) →
          exec (.controlCodeword l msg chk) s = .next (w.slots.foldl (fun t b => t.slotRx f b) (u.setLaneX l { u.laneX l with frames := if !counts then 0 else if row then (u.laneX l).frames + 1 else 1, lastFrame := some w.frame, farPort := if w.portValid then some w.port else (u.laneX l).farPort, markAt := u.cyc }))))) ∧
    (s.fecCount l none = (if (s.cnt LNK_LANE_FEC_uncorrectable (l / 128) (l % 128)).laneRxHeld l then s.cnt LNK_LANE_FEC_uncorrectable (l / 128) (l % 128)
      else (s.cnt LNK_LANE_FEC_uncorrectable (l / 128) (l % 128)).setLaneX l { (s.cnt LNK_LANE_FEC_uncorrectable (l / 128) (l % 128)).laneX l with
        ucw := (((s.cnt LNK_LANE_FEC_uncorrectable (l / 128) (l % 128)).laneX l).ucw.filter fun c => decide ((s.cnt LNK_LANE_FEC_uncorrectable (l / 128) (l % 128)).cyc < c + msCyc 1)) ++ [(s.cnt LNK_LANE_FEC_uncorrectable (l / 128) (l % 128)).cyc] })) ∧
    (∀ m, s.fecCount l (some (m, false)) = s ∧ s.fecCount l (some (m, true)) = (s.cnt LNK_LANE_FEC_corrected (l / 128) (l % 128)).event (0x38 + l / 128) 0x12) ∧
    (∀ b : List Byte, b.all (· = 0) = true → s.slotRx f b = s) ∧
    (∀ b : List Byte, b.all (· = 0) = false →
      (LmfSlot.ofFrame b = none → s.slotRx f b = s.cnt LNK_LMF_BAD_count (f / 8)) ∧
      (∀ m, LmfSlot.ofFrame b = some m →
        (((s.fib f).rxExp = none ∨ (s.fib f).rxExp = some m.seq) → s.slotRx f b = ((s.setFib f { s.fib f with rxExp := some ((m.seq + 1) % 2 ^ 32) }).lmfTake f m).lmfDrain f 256) ∧
        (∀ e, (s.fib f).rxExp = some e → e ≠ m.seq →
          (seqLe e m.seq = true → s.slotRx f b = s.setFib f { s.fib f with rxHeld := heldInsert m s.cyc (s.fib f).rxHeld }) ∧
          (seqLe e m.seq = false → s.slotRx f b = s.lmfTake f m)))) ∧
    (∀ m c r, (s.fib f).rxHeld = (m, c) :: r →
      (s.cyc < c + nsCyc 100 → exec (.lmfReorderTimeout f) s = .next s) ∧
      (c + nsCyc 100 ≤ s.cyc → exec (.lmfReorderTimeout f) s = .next ((s.setFib f { s.fib f with rxExp := some m.seq }).lmfDrain f 256))) ∧
    ((s.fib f).rxHeld = [] → exec (.lmfReorderTimeout f) s = .next s)

/-- R356, R357, R368: PREPARE and WITHDRAW. A preparation is refused with the first reason of R356's table that applies, each told here by its condition; an accepted clear only shows itself pending; an accepted set takes an idle firmware unit for its quiet point, drains both fibres and sends its notices. A withdrawal of no preparation is INVALID, of one whose quiet point has passed or one of whose directions has been met REFUSED with reason 6; of a clear it only takes it away; of a set it also returns both fibres to NORMAL, withdraws each notice that was sent and cancels the unit. -/
def Obligations.BypassPreparation : Prop :=
  ∀ (s u : State) (p : BypPrep), s.served 8 0x110 → u = s.event 8 4 → p = u.prepAsked →
    (∀ r, u.prepRefusal p = r → r ≠ 0 → exec .prepare s = .next (u.bypDone 7 r)) ∧
    (u.flag BYP_CTRL_enable = false → exec .prepare s = .next (u.bypDone 7 7)) ∧
    (u.flag BYP_CTRL_enable = true → ∀ perm busy lead : Prop,
      perm = (p.a = p.b ∨ p.isSet = true ∧ ∃ d ∈ p.todo, bit (u.rd BYP_PERMIT_outputs 0 d.1) d.2 = false ∨ u.isBad TB_PERMIT 0 d.1 0 16 = true) →
      busy = (p.isSet = true ∧ ((∃ f ∈ [p.a, p.b], u.bypState f ≠ 0 ∧ (u.bypState f = 3 → u.inCircuit f = true)) ∨ ∃ d ∈ p.todo, u.inUse d.1 = true ∨ u.outUse d.2 = true) ∨
        p.isSet = false ∧ ((∃ d ∈ p.todo, u.circuit d.1 d.2 = false) ∨ ∃ x ∈ u.byp.preps, x.a = p.a ∨ x.b = p.a ∨ x.a = p.b ∨ x.b = p.b)) →
      lead = (p.c < u.fclk + max (max 50 (u.rd BYP_CFG_lead_us) * 1000 * NS) (u.quietClk + 50000 * NS)) →
      (perm → exec .prepare s = .next (u.bypDone 7 3)) ∧
      (¬ perm → busy → exec .prepare s = .next (u.bypDone 7 2)) ∧
      (¬ perm → ¬ busy → p.isSet = true → u.flag TIM_STATE_slave_valid = true → (u.rd TIM_STATE_slave_port = p.a ∨ u.rd TIM_STATE_slave_port = p.b) →
        exec .prepare s = .next (u.bypDone 7 4)) ∧
      (¬ perm → ¬ busy → (p.isSet = false ∨ u.flag TIM_STATE_slave_valid = false ∨ u.rd TIM_STATE_slave_port ≠ p.a ∧ u.rd TIM_STATE_slave_port ≠ p.b) →
        (lead → exec .prepare s = .next (u.bypDone 7 1)) ∧
        (¬ lead → p.isSet = true → u.idleFw = none → exec .prepare s = .next (u.bypDone 7 5)) ∧
        (¬ lead → (p.isSet = false ∨ u.idleFw.isSome = true) → u.prepRefusal p = 0))) ∧
    (u.prepRefusal p = 0 → p.isSet = false → ∃ v : State, v = p.todo.foldl (fun t d => t.setPending d.1 true false) u ∧
      exec .prepare s = .next (({ v with byp := { v.byp with preps := v.byp.preps ++ [p] } } : State).bypDone 0 0)) ∧
    (∀ n v w d x q, u.prepRefusal p = 0 → p.isSet = true → v = p.todo.foldl (fun t d => t.setPending d.1 true true) u → v.idleFw = some n →
      q = { p with id := v.byp.nextId, unit := some n, quietAt := p.c - v.quietClk } →
      w = { v with byp := { v.byp with preps := v.byp.preps ++ [q], nextId := (v.byp.nextId + 1) % 65536 } } →
      d = (((w.setByp p.a 1).bar p.a true).setByp p.b 1).bar p.b true → x = d.armOwn n 13 0 (p.c - d.quietClk) 0 1 →
      exec .prepare s = .next ((((x.bypNotice q p.a).bypNotice q p.b).wr BYP_CMD_STAT_notice_id q.id).bypDone 0 0)) ∧
    (u.byp.preps.find? (fun x => x.a = p.a && x.b = p.b) = none → exec .bypassWithdraw s = .next (u.bypDone 3 0)) ∧
    (∀ y, u.byp.preps.find? (fun x => x.a = p.a && x.b = p.b) = some y →
      ((y.quiet = true ∨ y.isSet = true ∧ y.quietAt ≤ u.fclk ∨ y.done ≠ []) → exec .bypassWithdraw s = .next (u.bypDone 7 6)) ∧
      (y.quiet = false → y.done = [] → ∀ v, v = y.todo.foldl (fun t d => t.setPending d.1 false false) (u.delPrep y) →
        (y.isSet = false → exec .bypassWithdraw s = .next (v.bypDone 0 0)) ∧
        (y.isSet = true → u.fclk < y.quietAt → ∀ (g : State → Nat → State) w, (∀ t f, g t f = if y.sent.getD 0 f = 0 then t.bypNormal f else ((t.bypNormal f).sendLmf f (y.notice f false)).cnt BYP_NOTICE_TX_count) →
          w = g (g v y.a) y.b → (∀ n, y.unit = some n → w.armed n = true → exec .bypassWithdraw s = .next ((w.cancelUnit n).reDepth.bypDone 0 0)) ∧
            ((∀ n, y.unit = some n → w.armed n = false) → exec .bypassWithdraw s = .next (w.bypDone 0 0)))))

/-- R51, R359 to R362, R364, R366, R369: the effects of a bypass and what is watched. The quiet point stops both fibres and routes what is queued for them again; a BYPASS_SET effect without a preparation at its instant, or while the function is off, is rejected; one that meets a set writes the circuit and takes both fibres into bypass, one that meets a clear empties it, returns each fibre left in no circuit and, as the last direction, raises clear_done; directions not matched in time lapse, with the fibres of a set no direction of which was met back to NORMAL; a set whose directions have settled raises set_done; a neighbour's notice is counted as late, kept or withdrawn, and cuts the fibre at its instant; input powers are shown once a millisecond and two low readings raise; a parity error in a circuit is counted and raised; a firmware action that waits is tried at a whole microsecond while a unit is idle. -/
def Obligations.BypassEffects : Prop :=
  ∀ (s : State), s.alive = true →
    (∀ k, k < 32 → exec (.fwNotice k) s = .next (s.effect k 13 fun e t => t.fwNotice e.unit (fld e.arg 0 32)) ∧
      exec (.bypassSet k) s = .next (s.effect k 6 fun e t => t.bypassSet (fld e.arg 0 6) (fld e.arg 8 6) (bit e.arg 16))) ∧
    (∀ k code p, (s.emit (.fwInt code)).byp.preps.find? (fun p => p.unit = some k && !p.quiet) = some p →
      s.fwNotice k code = ((s.emit (.fwInt code)).quietPoint p, true)) ∧
    (∀ k code, (s.emit (.fwInt code)).byp.preps.find? (fun p => p.unit = some k && !p.quiet) = none → s.fwNotice k code = (s.emit (.fwInt code), true)) ∧
    (∀ i o set, s.byp.preps.find? (fun p => p.isSet = set && p.todo.contains (i, o) && p.c + 12 * NS ≤ s.fclk && s.fclk ≤ p.c + 20 * NS) = none →
      s.bypassSet i o set = ((s.cnt BYP_REJECT_count).bypIrq 3, false)) ∧
    (∀ i o set p, s.byp.preps.find? (fun p => p.isSet = set && p.todo.contains (i, o) && p.c + 12 * NS ≤ s.fclk && s.fclk ≤ p.c + 20 * NS) = some p →
      (s.flag BYP_CTRL_enable = false → s.bypassSet i o set = ((s.cnt BYP_REJECT_count).bypIrq 3, false)) ∧
      (s.flag BYP_CTRL_enable = true → ∀ v, v = (s.putPrep { p with todo := p.todo.filter (· ≠ (i, o)), done := p.done ++ [(i, o)] }).setPending i false false →
        (set = true → s.bypassSet i o set = ((((((v.wr BYP_CIRCUIT_output o 0 i).wr BYP_CIRCUIT_valid 1 0 i).mend TB_MESH 0 i 0).enterBypass p.a).enterBypass p.b).cnt BYP_SET_DONE_count, true)) ∧
        (set = false → ∀ (g : State → Nat → State) w, (∀ t f, g t f = if t.inCircuit f = true then t else t.leaveBypass f) →
          w = g (g (((v.wr BYP_CIRCUIT_output 0 0 i).wr BYP_CIRCUIT_valid 0 0 i).cnt BYP_CLEAR_DONE_count) p.a) p.b →
          ((∀ d ∈ p.todo, d = (i, o)) → s.bypassSet i o set = ((w.delPrep p).bypIrq 2, true)) ∧
          ((∃ d ∈ p.todo, d ≠ (i, o)) → s.bypassSet i o set = (w, true))))) ∧
    ((s.byp.preps.filter fun p => p.todo ≠ [] && decide (p.c + 20 * NS < s.fclk)) = [] → exec .preparationLapse s = .next s) ∧
    (∀ p v, (s.byp.preps.filter fun p => p.todo ≠ [] && decide (p.c + 20 * NS < s.fclk)) = [p] → v = (p.todo.foldl (fun t d => t.setPending d.1 false false) s).cnt BYP_MISSED_count →
      (p.done = [] → p.isSet = true → exec .preparationLapse s = .next (((v.delPrep p).bypNormal p.a).bypNormal p.b)) ∧
      (p.done = [] → p.isSet = false → exec .preparationLapse s = .next (v.delPrep p)) ∧
      (p.done ≠ [] → p.isSet = true → exec .preparationLapse s = .next ((v.bypIrq 5).putPrep { p with todo := [] })) ∧
      (p.done ≠ [] → p.isSet = false → exec .preparationLapse s = .next (v.delPrep p))) ∧
    ((s.byp.preps.filter fun p => p.todo = [] && p.done ≠ []) = [] → exec .meshSettled s = .next s) ∧
    (∀ p, (s.byp.preps.filter fun p => p.todo = [] && p.done ≠ []) = [p] → exec .meshSettled s = .next ((s.delPrep p).bypIrq 1)) ∧
    (∀ f id set sec ns c, f < 64 → id < 65536 → set < 2 → c = clkOf sec (ns / 2) (ns % 2) →
      (s.bypassed f = true → exec (.bypassNotice f id set sec ns) s = .next s) ∧
      (s.bypassed f = false → c < s.fclk + s.mldClk f + 2000 * NS → exec (.bypassNotice f id set sec ns) s = .next (s.cnt LNK_LMF_LATE_count (f / 8))) ∧
      (s.bypassed f = false → s.fclk + s.mldClk f + 2000 * NS ≤ c → ∀ rest, rest = ((s.fib f).cuts.filter fun k => !(k.id = id && !k.done && decide (s.fclk < k.c)) && decide (s.fclk ≤ k.c + s.mldClk f + 200000 * NS)) →
        exec (.bypassNotice f id set sec ns) s = .next ((s.setFib f { s.fib f with cuts := if set = 1 then rest ++ [{ id := id, c := c }] else rest }).cnt BYP_NOTICE_RX_count))) ∧
    (∀ f, f < 64 → ((∀ k ∈ (s.fib f).cuts, k.done = true ∨ s.fclk < k.c + s.mldClk f) → exec (.bypassFarEndCut f) s = .next s) ∧
      ((∃ k ∈ (s.fib f).cuts, k.done = false ∧ k.c + s.mldClk f ≤ s.fclk) → ∀ v, v = (s.setFib f { s.fib f with
          cuts := (s.fib f).cuts.map fun (k : ByCut) => if k.c + s.mldClk f ≤ s.fclk then { k with done := true } else k }).leave (lanesOf f) 6 →
        (v.flag TRV_CTRL_enable = true → v.trv f ≠ 7 → exec (.bypassFarEndCut f) s = .next (v.setTrv f 1)) ∧
        ((v.flag TRV_CTRL_enable = false ∨ v.trv f = 7) → exec (.bypassFarEndCut f) s = .next v))) ∧
    (∀ powers c, s.byp.powAt = some c → s.cyc < c + msCyc 1 → exec (.inputPowerSample powers) s = .next s) ∧
    (∀ powers low v w, (∀ c, s.byp.powAt = some c → c + msCyc 1 ≤ s.cyc) →
      low = ((List.range 64).filter fun f => s.flag BYP_CIRCUIT_valid 0 f && belowDbm (powers.getD f 0 % 2 ^ 40) (s.rd LNK_ERR_CFG_los_dbm (f / 8))) →
      v = (List.range 64).foldl (fun t f => t.wr BYP_INPOW_power (powers.getD f 0 % 2 ^ 40) 0 f) s →
      w = { v with byp := { v.byp with low := low, powAt := some v.cyc } } →
      ((∃ f ∈ low, f ∈ s.byp.low) → exec (.inputPowerSample powers) s = .next (w.bypIrq 4)) ∧
      ((∀ f ∈ low, f ∉ s.byp.low) → exec (.inputPowerSample powers) s = .next w)) ∧
    (∀ i, i < 64 → (s.flag BYP_CIRCUIT_valid 0 i = true → exec (.meshParityError i) s = .next (((s.spoil [tkey TB_MESH 0 i 0 * 32 + 16]).cnt BYP_PARITY_count).bypIrq 3)) ∧
      (s.flag BYP_CIRCUIT_valid 0 i = false → exec (.meshParityError i) s = .next s)) ∧
    (∀ f, f < 64 → ∃ v : State, v = (s.opt.chgs.filter fun c => c.fibres.contains f).foldl (fun t c => t.chgNotice c.id f) s ∧
      exec (.noticeResend f) s = .next ((v.byp.preps.filter fun p => p.a = f || p.b = f).foldl (fun t p => t.bypNotice p f) v)) ∧
    (s.fwq = [] → exec .fwUnitRetry s = .next s) ∧
    (∀ a r, s.fwq = a :: r →
      (s.idleFw.isSome = true → s.atMicro = true → exec .fwUnitRetry s = .next (({ s with fwq := r } : State).ownAgain a)) ∧
      ((s.idleFw = none ∨ s.atMicro = false) → exec .fwUnitRetry s = .next s))

/-- R51, R370 to R374: a commit of named groups is all or nothing. The lowest reason of R372 that holds refuses it, counted, located and raised, with nothing staged taken; a refused lane map also raises on each LNK page with a staged change of it; an accepted commit brings the groups into force, copies the epoch and the expectation, counts, starts the grace and raises. COMMIT answers OK or REFUSED with the reason; DISCARD drops what is staged of known groups and is INVALID for a reserved one. -/
def Obligations.GroupCommits : Prop :=
  ∀ (s : State) (m par : Nat),
    ((16 ≤ m ∨ bit m 0 = true ∧ s.mapBad = true) → s.commitCause m par = 1) ∧
    (m < 16 → (bit m 0 = true → s.mapBad = false) →
      (bit m 3 = true → s.partBad = true → s.commitCause m par = 2) ∧
      (bit m 3 = true → s.partBad = false → s.bankOut = true → s.commitCause m par = 3) ∧
      (bit m 3 = true → s.partBad = false → s.bankOut = false → s.poolMoved = true → s.commitCause m par = 4) ∧
      ((bit m 3 = true → s.partBad = false ∧ s.bankOut = false ∧ s.poolMoved = false) → s.commitCause m par = if m &&& par = 0 then 0 else 5)) ∧
    (∀ cairn, s.commitCause m par = 0 → ∃ a b c : State, a = (groupsOf m).foldl State.commitGroup s ∧ b = a.wr DTM_EPOCH_cur (a.rd DTM_EPOCH_next) ∧
      c = ((b.wr DTM_EXPECT_lo (b.rd DTM_EXPECT_NEXT_lo)).wr DTM_EXPECT_hi (b.rd DTM_EXPECT_NEXT_hi)).cnt DTM_COMMITS_count ∧
      s.commit m par cairn = (0, ({ c with dtm := { c.dtm with grace := c.cyc + usCyc (c.rd DTM_CFG_grace_us) } } : State).irq 6 0)) ∧
    (∀ cairn r, s.commitCause m par = r → r ≠ 0 →
      ((bit m 0 = false ∨ s.mapBad = false) → s.commit m par cairn = (r, s.commitReject m 0 r cairn)) ∧
      (∀ (g : State → Nat → State), (∀ t e, g t e = if (stagedFields 0).any (fun x => x.2.1 = e && t.hasStaged x) = true then t.irq (0x38 + e) 3 else t) →
        bit m 0 = true → s.mapBad = true → s.commit m par cairn = (r, ((List.range 8).foldl g s).commitReject m 0 r cairn))) ∧
    (∀ u, s.served 6 0x120 → u = s.event 6 4 →
      (∀ t, u.commit (u.rd DTM_CMD_ARG_groups) par false = (0, t) → exec (.commit par) s = .next (t.dtmDone 0 0)) ∧
      (∀ r t, u.commit (u.rd DTM_CMD_ARG_groups) par false = (r, t) → r ≠ 0 → exec (.commit par) s = .next (t.dtmDone 7 r)) ∧
      (16 ≤ u.rd DTM_CMD_ARG_groups → exec .discard s = .next (u.dtmDone 3 1)) ∧
      (u.rd DTM_CMD_ARG_groups < 16 → exec .discard s = .next (((groupsOf (u.rd DTM_CMD_ARG_groups)).foldl State.unstage u).dtmDone 0 0))) ∧
    (∀ k, s.alive = true → k < 32 → exec (.cfgCommit k par) s = .next (s.effect k 2 fun e t => ((t.commit (fld e.arg 0 16) par true).2, (t.commit (fld e.arg 0 16) par true).1 = 0)))

/-- R388 to R392, R395: slices. A slice in force or free takes its staged settings; the commit of a free one puts it in force at epoch 1; its commits are counted and its grace starts; a slice being purged is refused. A purge of a slice in force drops what is staged and aborts what runs, another is REFUSED with reason 6; it stays until no packet and no chunk of the slice is left, and then clears the slice's tables and its epoch and frees it. The DTM tables are read, with PARITY for a bad entry; quotas within R390's ranges and expectations are staged while the slice is not being purged; another table is INVALID. -/
def Obligations.SliceCommitsAndPurges : Prop :=
  ∀ (s : State) (sl : Nat), sl < 4096 →
    (∀ cairn, s.sliceState sl = 2 → s.sliceCommit sl cairn = (s.commitReject 0 sl 6 cairn, false)) ∧
    (∀ cairn a b, s.sliceState sl ≠ 2 → a = s.applySlice sl → b = (if s.sliceState sl = 0 then (a.wr FWD_SLICE_EPOCH_cur_epoch 1 0 sl).setSliceState sl 1 else a) →
      s.sliceCommit sl cairn = (((b.tset TB_SLICE 0 sl 0 (setFld (b.tget TB_SLICE 0 sl 0) 32 32 (fld (b.tget TB_SLICE 0 sl 0) 32 32 + 1))).sliceGrace sl).irq 6 4, true)) ∧
    (∀ k, s.alive = true → k < 32 → exec (.sliceCommit k) s = .next (s.effect k 4 fun e t => t.sliceCommit (fld e.arg 0 12) true)) ∧
    (∀ u, s.served 6 0x120 → u = s.event 6 4 →
      (∀ t, u.sliceCommit (u.rd DTM_CMD_ARG_slice) false = (t, true) → exec .dtmSliceCommit s = .next (t.dtmDone 0 0)) ∧
      (∀ t, u.sliceCommit (u.rd DTM_CMD_ARG_slice) false = (t, false) → exec .dtmSliceCommit s = .next (t.dtmDone 7 6)) ∧
      (u.sliceState (u.rd DTM_CMD_ARG_slice) ≠ 1 → exec .slicePurge s = .next (u.dtmDone 7 6)) ∧
      (∀ n v, n = u.rd DTM_CMD_ARG_slice → u.sliceState n = 1 → v = ((u.setSliceState n 2).dropStaged n).purgeSerai n →
        exec .slicePurge s = .next (((List.range 16).foldl (fun t p => t.retFlush p fun e => fld e 34 12 = n || (u.onlyPorts n).contains (fld e 24 10)) v).dtmDone 0 0))) ∧
    (s.alive = true → (s.sliceState sl ≠ 2 ∨ (∃ x ∈ s.flights, x.pkt.slice = sl) ∨ (∃ x ∈ s.link.rer, x.pkt.slice = sl) ∨ ∃ k ∈ s.sliceChunks sl, k.live = true ∨ k.state = 6) →
      exec (.purgeComplete sl) s = .next s) ∧
    (s.alive = true → s.sliceState sl = 2 → (∀ x ∈ s.flights, x.pkt.slice ≠ sl) → (∀ x ∈ s.link.rer, x.pkt.slice ≠ sl) → (∀ k ∈ s.sliceChunks sl, k.live = false ∧ k.state ≠ 6) →
      ∀ v w : State, v = (((s.clearSlice sl).wr FWD_SLICE_EPOCH_cur_epoch 0 0 sl).wr FWD_SLICE_EPOCH_draining 0 0 sl).wr FWD_SLICE_EPOCH_flip_rejected 0 0 sl →
        w = { v with fwd := { v.fwd with drainEnd := v.fwd.drainEnd.del sl }, qsh := { v.qsh with pol := v.qsh.pol.filter fun x => x.1 / 8 ≠ sl }, dtm := { v.dtm with sums := v.dtm.sums.del sl, checks := v.dtm.checks.filter fun c => !(c.kind = 2 && c.subj = sl) } } →
        exec (.purgeComplete sl) s = .next ((w.setSliceState sl 0).irq 6 5)) ∧
    (∀ (u v : State) n bad, s.served 6 0x300 → u = s.event 6 4 → n = u.rd DTM_TKEY_slice → bad = u.cnt DTM_PARITY_count →
      (exec (.dtmRead 0) s = .next ((u.dtmLoad [setFld (u.tget TB_SLICE 0 n 0) 2 1 (if u.sliceStaged n then 1 else 0), u.sliceDatum n % 2 ^ 64, u.sliceDatum n / 2 ^ 64]).dtmTDone 0)) ∧
      (u.isBad TB_QUOTA 0 n 0 16 = false → exec (.dtmRead 1) s = .next ((u.dtmLoad [u.tget TB_QUOTA 0 n 0]).dtmTDone 0)) ∧
      (u.isBad TB_QUOTA 0 n 0 16 = true → exec (.dtmRead 1) s = .next ((bad.dtmLoad [u.tget TB_QUOTA 0 n 0]).dtmTDone 5)) ∧
      (exec (.dtmRead 2) s = .next ((u.dtmLoad [u.sliceUse n 0 ||| u.sliceUse n 1 <<< 16 ||| u.sliceUse n 2 <<< 32]).dtmTDone 0)) ∧
      ((∀ w < 5, u.isBad TB_EXPECT 0 n w 16 = false) → exec (.dtmRead 3) s = .next ((u.dtmLoad ((List.range 5).map (u.tget TB_EXPECT 0 n))).dtmTDone 0)) ∧
      ((∃ w < 5, u.isBad TB_EXPECT 0 n w 16 = true) → exec (.dtmRead 3) s = .next ((bad.dtmLoad ((List.range 5).map (u.tget TB_EXPECT 0 n))).dtmTDone 5)) ∧
      (∀ k, k < 16 → 4 ≤ k → exec (.dtmRead k) s = .next (u.dtmTDone 3)) ∧
      (∀ k, k < 16 → k ≠ 1 → k ≠ 3 → exec (.dtmWrite k) s = .next (u.dtmTDone 3)) ∧
      (u.sliceState n = 2 → exec (.dtmWrite 1) s = .next (u.dtmTDone 2) ∧ exec (.dtmWrite 3) s = .next (u.dtmTDone 2)) ∧
      (u.sliceState n ≠ 2 → ∀ c g x, c = fld (u.rd DTM_TDATA_data 0 0) 0 14 → g = fld (u.rd DTM_TDATA_data 0 0) 16 13 → x = fld (u.rd DTM_TDATA_data 0 0) 32 15 →
        ((8192 < c ∨ 4096 < g ∨ 16384 < x) → exec (.dtmWrite 1) s = .next (u.dtmTDone 3)) ∧
        (c ≤ 8192 → g ≤ 4096 → x ≤ 16384 → exec (.dtmWrite 1) s = .next ((u.dtmStage TB_QUOTA n 0 (c ||| g <<< 16 ||| x <<< 32)).dtmTDone 0))) ∧
      (u.sliceState n ≠ 2 → v = (List.range 5).foldl (fun t w => t.dtmStage TB_EXPECT n w (if w = 4 then u.rd DTM_TDATA_data 0 w % 4 else u.rd DTM_TDATA_data 0 w)) u →
        exec (.dtmWrite 3) s = .next (v.dtmTDone 0)))

/-- R380 to R386: the datum and the beacons. RECOMPUTE shows busy until its walk ends, which counts words of bad parity, puts the datums computed afresh in place and counts, locates and raises each that differed; a read of the low half copies the upper half; a beacon interval that is due names the next slice, sends one snapshot on every lit fibre not bypassed and logs it while beacon_en is set, checks, and counts silent fibres (that the intervals and checks go on without beacon_en is the model's reading, log entry 70); a beacon received on a fibre not bypassed is stored, counted, logged and on an EXPECTED fibre checked against the plat and the epoch; graces that have ended are forgotten. -/
def Obligations.DatumAndBeacons : Prop :=
  ∀ (s : State),
    (∀ u, s.served 6 0x120 → u = s.event 6 4 → exec .recompute s = .next (({ u with dtm := { u.dtm with walking := true } } : State).wr DTM_CMD_STAT_busy 1)) ∧
    (s.alive = true → s.dtm.walking = false → exec .recomputeEnd s = .next s) ∧
    (s.alive = true → s.dtm.walking = true → ∀ (t u : State) m diff, m = s.moduleAfresh → t = { s with dtm := { s.dtm with module := m, sums := s.slicesAfresh, walking := false } } →
      diff = ((List.range 4096).filter fun sl => s.sliceDatum sl ≠ t.sliceDatum sl) → u = t.cnt DTM_PARITY_count 0 0 0 s.badCovered →
      (m = s.dtm.module → diff = [] → exec .recomputeEnd s = .next (u.dtmDone 0 0)) ∧
      (m = s.dtm.module → diff ≠ [] → exec .recomputeEnd s = .next (((diff.foldl (fun u sl => u.datumDiffers false sl) (u.wr DTM_RECOMPUTE_LOC_module 0)).irq 6 6).dtmDone 0 0)) ∧
      (m ≠ s.dtm.module → exec .recomputeEnd s = .next (((diff.foldl (fun u sl => u.datumDiffers false sl) ((u.wr DTM_RECOMPUTE_LOC_module 0).datumDiffers true 0)).irq 6 6).dtmDone 0 0))) ∧
    (∀ u, s.served 6 0x140 → u = s.event 6 4 →
      exec .dtmModuleLoRead s = .next ((u.wr DTM_MODULE_HI_datum_hi (u.dtm.module / 2 ^ 64)).emit (.readData (u.dtm.module % 2 ^ 64)))) ∧
    (s.alive = true → ∀ c, s.dtm.beaconAt = some c → s.cyc < c + s.beaconCyc → exec .beaconInterval s = .next s) ∧
    (s.alive = true → (∀ c, s.dtm.beaconAt = some c → c + s.beaconCyc ≤ s.cyc) → ∀ n b (g : State → Nat → State) u, n = s.nextSlice s.dtm.beaconSlice → b = s.beacon n →
      (∀ t f, g t f = if t.lit f = true ∧ t.bypassed f = false then (t.sendLmf f { typ := 0x20, body := [b.serial, b.time, b.epoch, b.datum, b.slice, b.sdatum] }).cnt DTM_BEACON_TX_count else t) →
      u = { s with dtm := { s.dtm with beaconAt := some s.cyc, beaconSlice := n } } →
      (s.flag DTM_CTRL_beacon_en = true → exec .beaconInterval s = .next ((List.range 64).foldl State.beaconSilent ((((List.range 64).foldl g u).logBeacon b 0x8000).ownChecks))) ∧
      (s.flag DTM_CTRL_beacon_en = false → exec .beaconInterval s = .next ((List.range 64).foldl State.beaconSilent u.ownChecks))) ∧
    (∀ (f : Nat) (b : Beacon), s.alive = true → f < 64 → s.bypassed f = true → exec (.datumBeacon f b) s = .next s) ∧
    (∀ (f : Nat) (b : Beacon) (u v w : State), s.alive = true → f < 64 → s.bypassed f = false →
      u = ((((s.wr DTM_NBR_epoch b.epoch 0 f).wr DTM_NBR_slice b.slice 0 f).wr DTM_NBR_time b.time 0 f).wr DTM_NBR_datum_lo b.datum 0 f) →
      v = ((((u.wr DTM_NBR_datum_hi (b.datum / 2 ^ 64) 0 f).wr DTM_NBR_sdatum_lo b.sdatum 0 f).wr DTM_NBR_sdatum_hi (b.sdatum / 2 ^ 64) 0 f).cnt DTM_BEACON_RX_count).logBeacon
        { b with time := b.time % 2 ^ 48, epoch := b.epoch % 2 ^ 32, slice := b.slice % 4096 } f →
      w = { v with dtm := { v.dtm with silent := v.dtm.silent.put f 0 } } →
      ((w.trv f ≠ 2 ∨ w.flag DTM_CTRL_check_en = false) → exec (.datumBeacon f b) s = .next w) ∧
      (w.trv f = 2 → w.flag DTM_CTRL_check_en = true → ∀ want x, want = w.rd TRV_PLAT_datum_lo 0 f + w.rd TRV_PLAT_datum_hi 0 f * 2 ^ 64 →
        x = (if want = 0 then w else w.check 3 f (b.datum % 2 ^ 128 ≠ want) (w.graceOver none)) →
        exec (.datumBeacon f b) s = .next (x.check 4 f (b.epoch % 2 ^ 32 ≠ x.rd DTM_EPOCH_cur) (x.graceOver none)))) ∧
    (s.alive = true → exec .graceEnd s = .next { s with dtm := { s.dtm with grace := if s.dtm.grace ≤ s.cyc then 0 else s.dtm.grace, sgrace := s.dtm.sgrace.filter fun x => s.cyc < x.2 } })

/-- R404, R406 to R408, R411 to R414, R424, R426: GDDR7. A line read hands over its data and whether any word of it is poisoned; a line the host marks poisoned becomes markers, other bytes are merged word by word; accesses in self-refresh are counted and not made; scrubbing, when enabled and due, handles the next block of a valid granule and completes a pass past the last; REWRITE and ZERO refuse ranges outside the data space, ZERO also one not of whole granules or in use, and do their work on the others; the mailbox commands show the identity and the poison list, inject and clear poison. -/
def Obligations.MemoryAccessesAndCommands : Prop :=
  ∀ (s : State) (a : Nat) (errs : List (Nat × Nat)) (bytes : List Byte) (mask : Nat) (poison : Bool), s.alive = true →
    (∀ r : (List Byte × Bool) × State, s.memSpace = true → a < memTop → r = (s.strike errs).readLine (a / 64) 3 →
      exec (.hostMemRead a errs) s = .next (r.2.emit (.memData (a / 64) r.1.1 r.1.2))) ∧
    (s.memSpace = true → a < memTop → s.inSref = true → exec (.hostMemWrite a bytes mask poison) s = .next s.srefAccess) ∧
    (s.memSpace = true → a < memTop → s.inSref = false → exec (.hostMemWrite a bytes mask poison) s = .next ((List.range 16).foldl (fun t i =>
      if poison then t.writeMarker (a / 64 * 16 + i) else t.writePart (a / 64 * 16 + i) (fld mask (4 * i) 4) (leNat ((bytes.drop (4 * i)).take 4))) (s.memEvent (a / 64 * 64) 64 3))) ∧
    (s.memSpace = false ∨ memTop ≤ a → exec (.hostMemRead a errs) s = .next s ∧ exec (.hostMemWrite a bytes mask poison) s = .next s) ∧
    (∀ u, u = s.strike errs → (u.flag MEM_SCRUB_CFG_enable = false ∨ u.inSref = true ∨ u.scrubDue = false ∨ u.nextValid u.mem.scrub = none ∧ u.mem.scrub = 0) → exec (.scrubBlock errs) s = .next u) ∧
    (∀ u v b, u = s.strike errs → u.flag MEM_SCRUB_CFG_enable = true → u.inSref = false → u.scrubDue = true → u.nextValid u.mem.scrub = some b → v = (u.wr MEM_SCRUB_STAT_running 1).scrubAt b →
      exec (.scrubBlock errs) s = .next { v with mem := { v.mem with scrub := b + 1, passAt := if v.mem.scrub = 0 then some v.cyc else v.mem.passAt } }) ∧
    (∀ u v : State, u = s.strike errs → u.flag MEM_SCRUB_CFG_enable = true → u.inSref = false → u.nextValid u.mem.scrub = none → u.mem.scrub ≠ 0 →
      v = u.wr MEM_SCRUB_STAT_pass_count (u.rd MEM_SCRUB_STAT_pass_count + 1) →
      exec (.scrubBlock errs) s = .next (({ v with mem := { v.mem with scrub := 0 } } : State).wr MEM_SCRUB_STAT_running 0)) ∧
    (∀ u, s.served 0x20 0x458 → u = s.event 0x20 4 →
      (memTop < u.memRange.1 + u.memRange.2 → exec .rewrite s = .next (u.memDone 3) ∧ exec .zero s = .next (u.memDone 3)) ∧
      (u.memRange.1 + u.memRange.2 ≤ memTop → u.inSref = false → exec .rewrite s = .next (((u.mem.valid.flatMap fun g => (List.range 512).map (g * 512 + ·)).foldl (fun t b =>
        if u.memRange.1 ≤ b * 128 ∧ b * 128 < u.memRange.1 + u.memRange.2 then t.scrubAt b else t) u).memDone 0)) ∧
      (u.memRange.1 + u.memRange.2 ≤ memTop → u.inSref = true → exec .rewrite s = .next (u.srefAccess.memDone 0)) ∧
      (u.memRange.1 % 65536 ≠ 0 ∨ u.memRange.2 % 65536 ≠ 0 → exec .zero s = .next (u.memDone 3)) ∧
      (u.memRange.1 % 65536 = 0 → u.memRange.2 % 65536 = 0 → u.memRange.1 + u.memRange.2 ≤ memTop →
        (u.zeroBusy u.memRange.1 u.memRange.2 = true → exec .zero s = .next (u.memDone 2)) ∧
        (u.zeroBusy u.memRange.1 u.memRange.2 = false → ∃ t : State, exec .zero s = .next (t.showPoison.memDone 0) ∧ { t with mem := u.mem } = u ∧
          (∀ x, t.byte x = if u.memRange.1 ≤ x ∧ x < u.memRange.1 + u.memRange.2 then 0 else u.byte x) ∧
          (∀ g, g ∈ t.mem.valid ↔ g ∈ u.mem.valid ∧ (65536 * g < u.memRange.1 ∨ u.memRange.1 + u.memRange.2 ≤ 65536 * g))))) ∧
    (s.memSpace = true → s.busOk = true → exec .identifyMemoryDevice s = .next (s.emit (.mailbox Config.identifyPayload)) ∧
      exec .getPoisonList s = .next (s.emit (.poisonList (s.mem.poison.map (·.1)))) ∧
      exec (.injectPoison a) s = .next (s.hostMemWrite a [] 0 true) ∧ exec (.clearPoison a bytes) s = .next (s.hostMemWrite a bytes (2 ^ 64 - 1) false))

/-- R404, R413: what a read of a word does. A word of a granule that is not valid reads as zero and counts nothing; in a valid one the syndrome decides. Zero is clean; a single check bit leaves the data as it is and a data column inverts that bit, both counted correctable; 0x7F is the marker, counted as a poison read; every other value is uncorrectable, counted and poisoned. A double-bit error of the 39 always gives an even, nonzero syndrome and is never miscorrected, and a single one always gives back the word that was stored. -/
def Obligations.SyndromesDecodeAsTabled : Prop :=
  (∀ (s : State) (w : Nat), s.granValid w = false → s.readWord w = ((0, false), s)) ∧
  (∀ (s : State) (w : Nat), s.granValid w = true →
    (s.syn w = 0 → s.readWord w = ((s.word w, false), s)) ∧
    (∀ j, j < 7 → s.syn w = 2 ^ j → s.readWord w = ((s.word w, false), s.ceSeen w (2 ^ j))) ∧
    (∀ i, i < 32 → s.syn w = eccColumns.getD i 0 → s.readWord w = ((s.word w ^^^ 2 ^ i, false), s.ceSeen w (eccColumns.getD i 0))) ∧
    (s.syn w = 0x7F → s.readWord w = ((s.word w, true), s.cnt MEM_POISON_READ_count (memDev (4 * w)))) ∧
    (s.syn w ≠ 0 → s.syn w ≠ 0x7F → (∀ j, j < 7 → s.syn w ≠ 2 ^ j) → s.syn w ∉ eccColumns → s.readWord w = ((s.word w, true), s.ueSeen w (s.syn w)))) ∧
  (∀ v i, v < 2 ^ 32 → i < 32 → eccDecode (v ^^^ 2 ^ i) (eccCheck (v ^^^ 2 ^ i) ^^^ eccCheck v) = (.corrected, v)) ∧
  (∀ v j, j < 7 → eccDecode v (eccCheck v ^^^ (eccCheck v ^^^ 2 ^ j)) = (.corrected, v)) ∧
  (∀ v x c e : Nat, v < 2 ^ 32 → x < 2 ^ 32 → c < 2 ^ 7 → popc 32 x + popc 7 c = 2 → e = eccCheck (v ^^^ x) ^^^ (eccCheck v ^^^ c) →
    weight7 e % 2 = 0 ∧ e ≠ 0 ∧ (eccDecode (v ^^^ x) e).1 ≠ .clean ∧ (eccDecode (v ^^^ x) e).1 ≠ .corrected)

/-- R11, R14, R423, R427, R430, R434, R441, R460: what reaches the host interface. A served read of BAR 0, 2 or 4 hands over the register, a refused access is counted, located and raised and, for a read, aborted; a write of 4 or 8 bytes acts on BAR0's register or BAR2's ring, BAR4 ignores it; interrupt writes clear or mask and send the vector while a bit stays, and the write's own event then leaves what it sets; the function's enables and the link's training show. Without Memory Space Enable, nothing is answered. -/
def Obligations.HostAccessesAreServedOrRefused : Prop :=
  ∀ (s : State), s.alive = true →
    (∀ mem master, exec (.busMasterEnable mem master) s = .next { s with memSpace := mem, busMaster := master }) ∧
    (∀ width rate flit, exec (.cxlLinkChange width rate flit) s = .next ((((s.wr HIF_LINK_width width).wr HIF_LINK_rate rate).wr HIF_LINK_flit (if flit then 1 else 0)).irq 0 3)) ∧
    (s.memSpace = false → ∀ bar pg off size v env z, exec (.registerWrite bar pg off size v env) s = .next s ∧ exec (.refusedRead bar pg off size) s = .next s ∧ exec (.rcRead pg off z) s = .next s) ∧
    (∀ pg w, pg < 256 →
      (s.served pg 0x20 → ∃ u : State, u = (s.event pg 4).put PAGE_IRQ_MASK_mask w pg ∧ exec (.pageIrqWrite pg true w) s = .next (if u.irqPend pg ≠ 0 then u.sendVec pg else u)) ∧
      (s.served pg 0x18 → ∃ u : State, u = s.w1c PAGE_IRQ_STATUS_bits w pg ∧ exec (.pageIrqWrite pg false w) s = .next ((if u.irqPend pg ≠ 0 then u.sendVec pg else u).event pg 4))) ∧
    (s.memSpace = true → s.busOk = true →
      (∀ pg off z, pg < 256 → off < 65536 → off % 8 = 0 →
        (∀ c, s.accessCause pg off = some c → exec (.rcRead pg off z) s = .next (s.refuseRead pg off c)) ∧
        (∀ v u, s.accessCause pg off = none → (s.event pg 4).regRead pg off z = (v, u) → exec (.rcRead pg off z) s = .next (u.emit (.readData (WSize.part z v))))) ∧
      (∀ bar pg off size, pg < 65536 → off < 65536 →
        (∀ c, s.readCause bar pg off size = some c → exec (.refusedRead bar pg off size) s = .next (s.refuseRead pg off c)) ∧
        (∀ v u, s.readCause bar pg off size = none → s.barRead bar pg (off / 8 * 8) (readSize off size) = (v, u) → exec (.refusedRead bar pg off size) s = .next (u.emit (.readData (WSize.part (readSize off size) v))))) ∧
      (∀ bar pg off size v env, pg < 65536 → off < 65536 →
        (∀ c, s.writeCause bar pg off size = some c → exec (.registerWrite bar pg off size v env) s = .next (s.refuseAccess pg off true c)) ∧
        (bar = 0 → s.writeCause bar pg off size = none → s.accessCause pg (off / 8 * 8) = none →
          (off / 8 * 8 ≠ 0x18 → off / 8 * 8 ≠ 0xA0 → exec (.registerWrite bar pg off size v env) s = .next ((s.event pg 4).regWrite pg (off / 8 * 8) (wrAt off size v) env)) ∧
          ((off / 8 * 8 = 0x18 ∨ off / 8 * 8 = 0xA0) → exec (.registerWrite bar pg off size v env) s = .next ((s.regWrite pg (off / 8 * 8) (wrAt off size v) env).event pg 4))) ∧
        (bar = 2 → s.writeCause bar pg off size = none → exec (.registerWrite bar pg off size v env) s = .next (s.ringWrite pg (off % 4096 / 8 * 8) (wrAt off size v))) ∧
        (bar = 4 → s.writeCause bar pg off size = none → exec (.registerWrite bar pg off size v env) s = .next s)) ∧
      (∀ bar pg off size, (size = 4 ∨ size = 8) → off % size = 0 →
        (bar = 0 → s.readCause bar pg off size = s.accessCause pg off ∧ s.writeCause bar pg off size = s.accessCause pg off) ∧
        (bar = 2 → 32 ≤ pg → s.readCause bar pg off size = some 1 ∧ s.writeCause bar pg off size = some 1) ∧
        (bar = 4 → s.readCause bar pg off size = s.aliasCause pg off)) ∧
      (∀ bar pg off size, (size ≠ 4 ∧ size ≠ 8) ∨ off % size ≠ 0 → s.readCause bar pg off size = some 3 ∧ s.writeCause bar pg off size = some 3))

/-- R435 to R443, R455, R460: command rings. A doorbell beyond the ring is raised, another becomes the tail; a reset aborts what is left at once, or once the descriptor in progress is done; a descriptor fetched joins its ring and the processor serves by priority, one whose fetch fails stops the ring. A descriptor in progress makes its writes, reads back and completes with result 0, or 3 at the first refused access; EXEC and TABLE poll until bit 0 reads 0, and end with 4 at the time limit. A command without its descriptor, or for one of another opcode, does nothing, as one of a host ring without bus mastering; pages past the last ring, and all without firmware, are refused. -/
def Obligations.RingsRunDescriptors : Prop :=
  ∀ (s : State), s.alive = true →
    (s.memSpace = true → s.busOk = true → ∀ q w, q < 65536 → (32 ≤ q → exec (.doorbell q w) s = .next (s.refuseAccess q 0x10 true 1) ∧ exec (.ringReset q w) s = .next (s.refuseAccess q 0x28 true 1)) ∧
      (q < 32 → s.noFirmware = true → exec (.doorbell q w) s = .next (s.refuseAccess q 0x10 true 0) ∧ exec (.ringReset q w) s = .next (s.refuseAccess q 0x28 true 0))) ∧
    (s.memSpace = true → s.busOk = true → s.noFirmware = false → ∀ q w u, q < 32 → u = s.event 0 4 →
      (∀ v, w.hits 0 16 = true → v = w.merge 0 16 (u.rd HIF_RQ_TAIL_tail q) → exec (.doorbell q w) s = .next (if u.ringSize q ≤ v then u.irq 0 1 else u.wr HIF_RQ_TAIL_tail v q)) ∧
      (w.hits 0 16 = false → exec (.doorbell q w) s = .next u) ∧
      (w.ones 0 1 = 0 → exec (.ringReset q w) s = .next u) ∧
      (w.ones 0 1 ≠ 0 → (u.ring_ q).run = none → exec (.ringReset q w) s = .next (u.ringClear q)) ∧
      (w.ones 0 1 ≠ 0 → (u.ring_ q).run ≠ none → exec (.ringReset q w) s = .next (u.setHring q { u.ring_ q with reset := true }))) ∧
    (∀ q raw poison fail lost, q < 16 → raw.length = 128 →
      (s.ringOn q = false ∨ s.fetchSlot q = none → exec (.descriptorFetch q raw poison fail lost) s = .next s) ∧
      (∀ i, s.ringOn q = true → s.fetchSlot q = some i →
        exec (.descriptorFetch q raw poison true lost) s = .next (s.ringStop q i) ∧
        exec (.descriptorFetch q raw poison false lost) s = .next ((s.setHring q { s.ring_ q with desc := (s.ring_ q).desc ++ [{ raw := raw, poison := poison }] }).ringServe lost))) ∧
    (s.busOk = true → ∀ q lost env, (q < 16 ∨ 32 ≤ q ∧ q < 35) →
      (s.ring_ (ringNo q)).run = none → exec (.descNop q lost) s = .next s ∧ exec (.descWrite q env lost) s = .next s ∧ exec (.descRead q lost) s = .next s ∧
        exec (.cmdExec q env lost) s = .next s ∧ exec (.table q env lost) s = .next s ∧ exec (.pollTimeout q lost) s = .next s) ∧
    (s.busOk = true → ∀ q n lost env e d, n = ringNo q → (s.ring_ n).run = some e → d = descOf e.raw →
      ((d.opcode ≠ 0 ∨ n < 16 ∧ s.busMaster = false) → exec (.descNop q lost) s = .next s) ∧ ((d.opcode ≠ 1 ∨ n < 16 ∧ s.busMaster = false) → exec (.descWrite q env lost) s = .next s) ∧
      ((d.opcode ≠ 2 ∨ n < 16 ∧ s.busMaster = false) → exec (.descRead q lost) s = .next s) ∧ ((d.opcode ≠ 3 ∨ n < 16 ∧ s.busMaster = false) → exec (.cmdExec q env lost) s = .next s) ∧
      ((d.opcode ≠ 4 ∨ n < 16 ∧ s.busMaster = false) → exec (.table q env lost) s = .next s) ∧ (n < 16 → s.busMaster = false → exec (.pollTimeout q lost) s = .next s)) ∧
    (s.busOk = true → ∀ q n lost env e d, n = ringNo q → (s.ring_ n).run = some e → d = descOf e.raw → (n < 16 → s.busMaster = true) → (s.ring_ n).wrote = false →
      (d.opcode = 0 → exec (.descNop q lost) s = .next ((s.ringDone n 0 0 [] lost).ringServe lost)) ∧
      (∀ u, d.opcode = 1 → s.descWrites d.page env d.writes = (true, u) → exec (.descWrite q env lost) s = .next ((u.ringDone n 0 0 [] lost).ringServe lost)) ∧
      (∀ u, d.opcode = 1 → s.descWrites d.page env d.writes = (false, u) → exec (.descWrite q env lost) s = .next ((u.ringDone n 3 0 [] lost).ringServe lost)) ∧
      (∀ ok vs u, d.opcode = 2 → s.descReads d.page d.reads = (ok, vs, u) → exec (.descRead q lost) s = .next ((u.ringDone n (if ok then 0 else 3) 0 vs lost).ringServe lost)) ∧
      (∀ u, s.descWrites d.page env d.writes = (true, u) →
        (d.opcode = 3 → exec (.cmdExec q env lost) s = .next (((u.setHring n { u.ring_ n with wrote := true }).descPoll n d lost).ringServe lost)) ∧
        (d.opcode = 4 → exec (.table q env lost) s = .next (((u.setHring n { u.ring_ n with wrote := true }).descPoll n d lost).ringServe lost))) ∧
      (∀ u, s.descWrites d.page env d.writes = (false, u) →
        (d.opcode = 3 → exec (.cmdExec q env lost) s = .next ((u.ringDone n 3 0 [] lost).ringServe lost)) ∧ (d.opcode = 4 → exec (.table q env lost) s = .next ((u.ringDone n 3 0 [] lost).ringServe lost)))) ∧
    (s.busOk = true → ∀ q n lost env e d, n = ringNo q → (s.ring_ n).run = some e → d = descOf e.raw → (n < 16 → s.busMaster = true) → (s.ring_ n).wrote = true →
      (d.opcode = 3 → exec (.cmdExec q env lost) s = .next ((s.descPoll n d lost).ringServe lost)) ∧ (d.opcode = 4 → exec (.table q env lost) s = .next ((s.descPoll n d lost).ringServe lost)) ∧
      (∀ v u, s.busRead d.page d.poll = (some v, u) → bit v 0 = true → s.descPoll n d lost = u.setHring n { u.ring_ n with polled := v }) ∧
      (∀ v u, s.busRead d.page d.poll = (some v, u) → bit v 0 = false → s.descPoll n d lost = u.descFinish n d v lost) ∧
      (∀ u, s.busRead d.page d.poll = (none, u) → s.descPoll n d lost = u.ringDone n 3 0 [] lost) ∧
      ((s.ring_ n).since + msCyc (max 1 (s.rd HIF_CMD_CFG_poll_ms)) ≤ s.cyc → exec (.pollTimeout q lost) s = .next ((s.ringDone n 4 (s.ring_ n).polled [] lost).ringServe lost)))

/-- R141, R423, R444 to R446: the host path and DMA. A TXQ's packet yields to a ready one of a higher-priority class, is checked and dropped with result 3, or waits for cells with the failed request counted, or is stamped, resolved and entered with result 0; a packet for the host goes into the buffer of its receive queue's descriptor, or is dropped once it has waited too long; a DMA channel is started and reads go and busy while it runs, is refused beyond the data space, and ends with status 0, or 4 where a line was poisoned. -/
def Obligations.HostPathAndDma : Prop :=
  ∀ (s : State), s.alive = true →
    (∀ n count p others lost q, q = 16 + n → n < 8 → count < 8192 →
      (s.hpReady q = false → exec (.hostPathSend n count p others lost) s = .next s) ∧
      ((∃ o ∈ others, o.1 % 8 ≠ n ∧ s.hpReady (16 + o.1 % 8) = true ∧ o.2 < p.tc) → exec (.hostPathSend n count p others lost) s = .next s) ∧
      (s.hpReady q = true → (∀ o ∈ others, o.1 % 8 = n ∨ s.hpReady (16 + o.1 % 8) = false ∨ p.tc ≤ o.2) →
        (∀ c, hostCheck count p = some c → exec (.hostPathSend n count p others lost) s =
          .next ((((s.cnt c).cnt HIF_HP_TX_DROP_count).irq 0 2).hpDone q 3 [1 ||| 3 <<< 1] lost)) ∧
        (hostCheck count p = none → s.sharedRoom (cellCount p.length) = false → exec (.hostPathSend n count p others lost) s = .next (s.allocFail false 256)) ∧
        (hostCheck count p = none → s.sharedRoom (cellCount p.length) = true → ∀ y r t, y = p.withPoison p.poisonMap → s.resolve 9 0 { y with epoch := s.rd FWD_SLICE_EPOCH_cur_epoch 0 y.slice } = (r, t) →
          (∀ c k, r = .error (c, k) → exec (.hostPathSend n count p others lost) s = .next (t.hostDrop q c lost)) ∧
          (∀ d z b w v, r = .ok (d, z) → t.takeShared (cellCount z.length) = some (b, w) → v = w.enter z 0 191 none 0 d b 0 true → exec (.hostPathSend n count p others lost) s =
              .next (({ v with flights := v.flights.map fun (x : Flight) => if x.id + 1 = v.nextId then { x with byHost := true } else x } : State).hpDone q 0 [1] lost))))) ∧
    (∀ n buf lost q v, q = 24 + n → n < 8 → (s.headMgmt = none → v = s) →
      (∀ x, s.headMgmt = some x → v = if mgmtKnown (mgmtType x.pkt) = true then s else s.mgmtTake (mgmtType x.pkt) fun _ _ _ _ t => t) →
      (v.headRx q = none ∨ v.hpReady q = false → exec (.hostPathDelivery n buf lost) s = .next v) ∧
      (∀ x lp, v.headRx q = some x → v.hpReady q = true → x.arr = some lp → exec (.hostPathDelivery n buf lost) s =
        .next (((v.dropFlight x).toHost buf (x.pkt.hdrBytes ++ x.pkt.payload)).hpDone q 0 [1 ||| (64 + x.pkt.length) <<< 4 ||| lp <<< 17, x.pkt.poisonMap ||| x.pkt.poisonAny <<< 16] lost)) ∧
      (∀ x, v.headRx q = some x → v.hpReady q = true → x.arr = none → ∃ lp, lp < 1024 ∧ exec (.hostPathDelivery n buf lost) s =
        .next ((((v.takeFree 16).2.dropFlight x).toHost buf (x.pkt.hdrBytes ++ x.pkt.payload)).hpDone q 0 [1 ||| (64 + x.pkt.length) <<< 4 ||| lp <<< 17, x.pkt.poisonMap ||| x.pkt.poisonAny <<< 16] lost))) ∧
    (∀ n, n < 8 → s.headRx (24 + n) = none → exec (.rxWaitTimeout n) s = .next s) ∧
    (∀ n x q, q = 24 + n → n < 8 → s.headRx q = some x →
      (s.hpReady q = false → x.since + usCyc (s.rd HIF_HP_CFG_rx_wait_us) ≤ s.cyc → exec (.rxWaitTimeout n) s = .next (((s.dropFlight x).cnt HIF_HP_RX_DROP_count).irq 0 2)) ∧
      (s.hpReady q = true ∨ s.cyc < x.since + usCyc (s.rd HIF_HP_CFG_rx_wait_us) → exec (.rxWaitTimeout n) s = .next s)) ∧
    (∀ c w u d, c < 4 → s.served 0 (0x218 + 0x20 * c) → u = (s.event 0 4).put HIF_DMA_CTRL_dir w 0 c →
      d = ({ host := u.rd HIF_DMA_HOST_addr 0 c * 64, dev := u.rd HIF_DMA_DEV_addr 0 c * 64, len := u.rd HIF_DMA_LEN_len 0 c * 64, toHost := u.flag HIF_DMA_CTRL_dir 0 c } : DmaRun) →
      (w.ones 0 1 = 0 ∨ u.flag HIF_DMA_CTRL_busy 0 c = true → exec (.dmaGo c w) s = .next u) ∧
      (w.ones 0 1 ≠ 0 → u.flag HIF_DMA_CTRL_busy 0 c = false → memTop < d.dev + d.len → exec (.dmaGo c w) s = .next (u.dmaEnd c 3)) ∧
      (w.ones 0 1 ≠ 0 → u.flag HIF_DMA_CTRL_busy 0 c = false → d.dev + d.len ≤ memTop →
        exec (.dmaGo c w) s = .next ((({ u with hif := { u.hif with dma := u.hif.dma.put c d } } : State).wr HIF_DMA_CTRL_go 1 0 c).wr HIF_DMA_CTRL_busy 1 0 c))) ∧
    (∀ c bytes bad errs, c < 4 →
      (s.hif.dma.get? c = none ∨ s.busMaster = false → exec (.dmaDone c bytes bad errs) s = .next s) ∧
      (∀ d, s.hif.dma.get? c = some d → s.busMaster = true →
        (∀ r : Bool × State, d.toHost = true → r = (List.range (d.len / 64)).foldl (fun (a : Bool × State) i => (a.1 || (dmaOut d a.2 i).1, (dmaOut d a.2 i).2)) (false, s.strike errs) →
          exec (.dmaDone c bytes bad errs) s = .next (r.2.dmaEnd c (if r.1 then 4 else 0))) ∧
        (d.toHost = false → exec (.dmaDone c bytes bad errs) s =
          .next (((List.range (d.len / 64)).foldl (fun (t : State) i => dmaIn d bytes (bad.contains i) t i) (s.strike errs)).dmaEnd c (if (List.range (d.len / 64)).any (bad.contains ·) then 4 else 0)))))

/-- R423, R448, R451, R456 to R458: the commands of SEC. Those that move host memory need the bus master; ATTEST writes the report; FW_STAGE verifies the image and keeps the reading in the inactive slot; a slot is named for the next start only while its image is accepted; minimums only rise, the firmware's no higher than what runs; anchors are set and cleared; the chain is written if the buffer holds it; all sessions close. -/
def Obligations.SecurityCommands : Prop :=
  ∀ (s u : State) (bytes : List Byte), s.served 1 0x130 → u = s.event 1 4 →
    (u.busMaster = false → exec (.attest bytes) s = .next (u.secDone 3 0) ∧ exec (.fwStage bytes) s = .next (u.secDone 3 0) ∧
      exec (.setAnchor bytes) s = .next (u.secDone 3 0) ∧ exec .certRead s = .next (u.secDone 3 0)) ∧
    (u.busMaster = true →
      (exec (.attest bytes) s = .next ((u.emit (.hostWr (u.rd SEC_CMD_ADDR_addr) (u.report bytes) false)).secDone 0 0)) ∧
      (∀ n img r t, n = u.secArg 0 32 → img = (bytes ++ List.replicate (n - bytes.length) 0).take n → r = fwVerify img → t = ({ u with secu := { u.secu with slots := u.secu.slots.set u.stageSlot (some r) } } : State) →
        ((slotBytes < n ∨ n < 256 + fwSigBytes) → exec (.fwStage bytes) s = .next (u.secDone 7 3)) ∧
        (n ≤ slotBytes → 256 + fwSigBytes ≤ n → (r.code ≠ 0 → exec (.fwStage bytes) s = .next (t.secDone 7 1)) ∧
          (r.code = 0 → r.secVer < u.secu.fwMin → exec (.fwStage bytes) s = .next (t.secDone 7 2)) ∧
          (r.code = 0 → u.secu.fwMin ≤ r.secVer → exec (.fwStage bytes) s = .next (t.secDone 0 0)))) ∧
      (exec (.setAnchor bytes) s = .next (u.setAnchor (words8 ((bytes ++ List.replicate 32 0).take 32)))) ∧
      (u.secArg 0 32 < Config.certChain.length → exec .certRead s = .next (u.secDone 7 3)) ∧
      (Config.certChain.length ≤ u.secArg 0 32 → exec .certRead s = .next ((u.emit (.hostWr (u.rd SEC_CMD_ADDR_addr) Config.certChain false)).secDone 0 0 Config.certChain.length))) ∧
    (fwRefuse u.secu.fwMin (u.slot (u.secArg 0 1)) = 0 → exec .setBootSlot s = .next (({ u with secu := { u.secu with boot := u.secArg 0 1 } } : State).secDone 0 0)) ∧
    (fwRefuse u.secu.fwMin (u.slot (u.secArg 0 1)) ≠ 0 → exec .setBootSlot s = .next (u.secDone 7 4)) ∧
    (u.secArg 0 32 < u.rd SEC_MIN_fw_min ∨ u.secArg 32 32 < u.rd SEC_MIN_kernel_min → exec .raiseMin s = .next (u.secDone 7 5)) ∧
    (u.rd SEC_MIN_fw_min ≤ u.secArg 0 32 → u.rd SEC_MIN_kernel_min ≤ u.secArg 32 32 →
      (u.rd SEC_BOOT_STATUS_security_ver < u.secArg 0 32 → exec .raiseMin s = .next (u.secDone 7 6)) ∧
      (u.secArg 0 32 ≤ u.rd SEC_BOOT_STATUS_security_ver → exec .raiseMin s =
        .next (((({ u with secu := { u.secu with fwMin := u.secArg 0 32, kernelMin := u.secArg 32 32 } } : State).wr SEC_MIN_fw_min (u.secArg 0 32)).wr SEC_MIN_kernel_min (u.secArg 32 32)).secDone 0 0))) ∧
    (exec .clearAnchor s = .next (u.setAnchor [])) ∧
    (exec .closeSessions s = .next ((u.endSess (u.secu.sess.map (·.id))).secDone 0 0)) ∧
    (∀ r, (r.code = 0 → u.secu.fwMin ≤ r.secVer → fwRefuse u.secu.fwMin r = 0) ∧ (r.code = 0 → r.secVer < u.secu.fwMin → fwRefuse u.secu.fwMin r = 4) ∧ (r.code ≠ 0 → fwRefuse u.secu.fwMin r = r.code))

/-- R452 to R456: management messages. Each command takes the first packet if it is of its type: a bad payload is dropped, a message without a session goes to its meaning whole, one of a session only with a good tag and a fresh counter. SESS_INIT is refused with reason 3 while sessions are disabled, 1 without an anchored key and a good signature, 2 past the session limit, and otherwise opens a session with its keys and is answered; SESS_CONFIRM establishes; SESS_CLOSE ends; chain, report and descriptors are answered. A session without its SESS_CONFIRM or with nothing valid within its time ends. -/
def Obligations.SessionsAndTheirMessages : Prop :=
  ∀ (s : State), s.alive = true →
    (∀ (c : Instr) (typ : Nat) (f : Pkt → Nat → Option Sess → List Byte → State → State) (lost : List Nat),
      (c = .sessInit ∧ typ = 1 ∧ f = fun p pipe x b t => if x.isNone then t.sessInit p pipe b else t) ∨
      (c = .sessConfirm ∧ typ = 3 ∧ f = fun _ _ x _ t => match x with | some x => if x.confirmed then t else (t.putSess { x with confirmed := true }).irq 1 2 | none => t) ∨
      (c = .sessClose ∧ typ = 4 ∧ f = fun _ _ x _ t => match x with | some x => t.endSess [x.id] | none => t) ∨
      (c = .certReq ∧ typ = 6 ∧ f = fun p pipe x b t => if x.isNone && b.isEmpty && t.flag SEC_IB_CTRL_enable then t.sendMgmt pipe p.src p.slice 0 6 Config.certChain else t) ∨
      (c = .attestReq ∧ typ = 0x12 ∧ f = fun p pipe x b t => match x with | some x => if x.confirmed && b.length = 32 then t.sendMgmt pipe p.src p.slice x.id 0x13 (t.report b) else t | none => t) ∨
      (c = .mgmtCmd lost ∧ typ = 0x10 ∧ f = fun p pipe x b t => match x with | some x => t.mgmtCmd p pipe x b lost | none => t) →
      (s.headMgmt = none → exec c s = .next s) ∧
      (∀ x, s.headMgmt = some x → mgmtType x.pkt ≠ typ → exec c s = .next s) ∧
      (∀ x u p sess idx cnt ctr, s.headMgmt = some x → x.pkt = p → mgmtType p = typ → u = s.dropFlight x →
        sess = leNat (p.payload.take 4) → idx = leNat ((p.payload.drop 5).take 1) → cnt = leNat ((p.payload.drop 6).take 1) → ctr = leNat ((p.payload.drop 8).take 8) →
        (u.noFirmware = true ∨ p.e2e ≠ e2eOf p.payload → exec c s = .next u) ∧
        (u.noFirmware = false → p.e2e = e2eOf p.payload →
          (∀ v, sess = 0 → u.fragAdd p.src 0 typ idx cnt 0 (p.payload.drop 16) = (none, v) → exec c s = .next v) ∧
          (∀ b v, sess = 0 → u.fragAdd p.src 0 typ idx cnt 0 (p.payload.drop 16) = (some b, v) → exec c s = .next (f p x.pipe none b v)) ∧
          (∀ v, sess ≠ 0 → u.judgeTag sess ctr p.payload = (none, v) → exec c s = .next v) ∧
          (∀ y v w, sess ≠ 0 → u.judgeTag sess ctr p.payload = (some y, v) → v.fragAdd p.src sess typ idx cnt ctr ((p.payload.drop 16).take (p.payload.length - 32)) = (none, w) → exec c s = .next w) ∧
          (∀ y v b w, sess ≠ 0 → u.judgeTag sess ctr p.payload = (some y, v) → v.fragAdd p.src sess typ idx cnt ctr ((p.payload.drop 16).take (p.payload.length - 32)) = (some b, w) →
            exec c s = .next (f p x.pipe (some y) b w))))) ∧
    (∀ p pipe b, (s.flag SEC_IB_CTRL_enable = false → s.sessInit p pipe b = s.sessRefuse p pipe 3) ∧
      (s.flag SEC_IB_CTRL_enable = true → ∀ (pk hash : List Byte) anchored, pk = (b.drop 1600).take 32 → hash = shake256 pk 32 →
        anchored = ((List.range 4).any fun a => hash == leWords 8 ((List.range 4).map fun w => s.rd SEC_ANCHOR_hash 0 a w)) →
        ((b.length ≠ 18720 ∨ anchored = false) → s.sessInit p pipe b = s.sessRefuse p pipe 1) ∧
        (b.length = 18720 → anchored = true → Config.slhDsaVerify 128 pk (shake256 (b.take 1632) 32) (b.drop 1632) = false → s.sessInit p pipe b = s.sessRefuse p pipe 1) ∧
        (b.length = 18720 → anchored = true → Config.slhDsaVerify 128 pk (shake256 (b.take 1632) 32) (b.drop 1632) = true →
          (s.rd SEC_IB_CTRL_max_sessions ≤ s.secu.sess.length → s.sessInit p pipe b = s.sessRefuse p pipe 2) ∧
          (s.secu.sess.length < s.rd SEC_IB_CTRL_max_sessions → ∀ f g h id kem head acc t v, f = s.takeFree 13 → g = f.2.takeFree 14 → h = g.2.takeFree 15 → id = sessId (h.2.secu.sess.map (·.id)) f.1 8 →
            kem = Config.mlKemEncaps (b.take 1568) g.1 → head = leBytes 4 id ++ kem.1 ++ leBytes 32 h.1 ++ Config.identityKey → acc = head ++ Config.slhDsaSign (shake256 (b ++ head) 32) → t = shake256 (b ++ acc) 32 →
            v = h.2.setSess (h.2.secu.sess ++ [{ id := id, keyIn := kmac256 kem.2 t 32 (asciiBytes "Genric mgmt f2m"), keyOut := kmac256 kem.2 t 32 (asciiBytes "Genric mgmt m2f"), at_ := h.2.cyc, last := h.2.cyc }]) →
            s.sessInit p pipe b = v.sendMgmt pipe p.src p.slice 0 2 acc)))) ∧
    (∀ sess ctr pl, (s.sessOf sess = none → s.judgeTag sess ctr pl = (none, s.cnt SEC_TAG_BAD_count)) ∧
      (∀ x, s.sessOf sess = some x → 32 ≤ pl.length → mgmtTag x.keyIn (pl.take (pl.length - 16)) = pl.drop (pl.length - 16) →
        (ctr ≤ x.rx → s.judgeTag sess ctr pl = (none, s.cnt SEC_REPLAY_count)) ∧
        (x.rx < ctr → s.judgeTag sess ctr pl = (some { x with rx := ctr, last := s.cyc }, s.putSess { x with rx := ctr, last := s.cyc }))) ∧
      (∀ x, s.sessOf sess = some x → (pl.length < 32 ∨ mgmtTag x.keyIn (pl.take (pl.length - 16)) ≠ pl.drop (pl.length - 16)) → s.judgeTag sess ctr pl = (none, s.cnt SEC_TAG_BAD_count))) ∧
    (exec .sessionConfirmTimeout s = .next (s.endSess ((s.secu.sess.filter fun x => !x.confirmed && x.at_ + msCyc 1000 ≤ s.cyc).map (·.id)))) ∧
    (exec .sessionIdleTimeout s = .next (s.endSess ((s.secu.sess.filter fun x => x.confirmed && x.last + msCyc (1000 * s.rd SEC_IB_CTRL_idle_s) ≤ s.cyc).map (·.id))))

/-- R51, R318, R320, R429, R469, R471 to R478: power requests and idle. A request is refused for what the page cannot do, an active core, or a circuit still carried; an engine, a fibre or a core asked for is put there or woken; a POWER_STATE inside an engine's window waits for its end; a page's clock stops only once it is OFF. Fills, idle holds and wakes take their effect at their time and do nothing before; self-refresh is refused while something needs the devices. -/
def Obligations.PowerRequestsIdleAndWakes : Prop :=
  ∀ (s : State),
    (∀ pg v, (pg ≤ 5 → s.pwrReq pg v = (s, true)) ∧ (5 < pg → pageAssigned pg = false → s.pwrReq pg v = (s, false)) ∧
      (5 < pg → pageAssigned pg = true → v = 3 → s.pwrReq pg v = ((s.pwrRefuse pg 3 1).irq 3 0, false)) ∧
      (0x30 ≤ pg → pg ≤ 0x37 → pageAssigned pg = true → v < 3 → s.pwrReq pg v = ((s.engineReq (pg - 0x30) v).reDepth, true)) ∧
      (0x80 ≤ pg → pageAssigned pg = true → v = 2 → s.rd SRI_STATE_state (pg - 0x80) ≠ 2 → s.rd SRI_STATE_state (pg - 0x80) ≠ 4 → s.rd SRI_STATE_state (pg - 0x80) ≠ 5 →
        s.pwrReq pg v = ((s.pwrRefuse pg 2 2).irq 3 0, false)) ∧
      (0x80 ≤ pg → pageAssigned pg = true → v < 2 → s.pwrReq pg v = ((s.coreReq (pg - 0x80) v).reDepth, true)) ∧
      (pg = 8 → v = 1 → s.pwrReq pg v = ((s.pwrRefuse 8 1 1).irq 3 0, false)) ∧
      (pg = 8 → v = 2 → (s.flag BYP_CTRL_enable = true ∨ s.byp.preps ≠ [] ∨ ∃ i < 64, s.flag BYP_CIRCUIT_valid 0 i = true) → s.pwrReq pg v = ((s.pwrRefuse 8 2 3).irq 3 0, false)) ∧
      (pg = 8 → v = 2 → s.flag BYP_CTRL_enable = false → s.byp.preps = [] → (∀ i < 64, s.flag BYP_CIRCUIT_valid 0 i = false) → s.pwrReq pg v = (((s.wr PAGE_PWR_req 2 8).wr PAGE_PWR_state 3 8).reDepth, true)) ∧
      (pg = 8 → v = 0 → s.pwrReq pg v = (((s.wr PAGE_PWR_req 0 8).wr PAGE_PWR_state 0 8).reDepth, true)) ∧
      (5 < pg → pageAssigned pg = true → pg ≠ 8 → (pg < 0x30 ∨ 0x37 < pg) → pg < 0x80 → (v = 0 → s.pwrReq pg v = (s.reDepth, true)) ∧ (v = 1 ∨ v = 2 → s.pwrReq pg v = ((s.pwrRefuse pg v 1).irq 3 0, false)))) ∧
    (∀ pg w, pg < 256 → s.served pg 0x28 → w.hits 0 2 = true → exec (.pagePwrWrite pg w) s = .next ((s.event pg 4).pwrReq pg (w.merge 0 2 ((s.event pg 4).rd PAGE_PWR_req pg))).1) ∧
    (∀ pg w, pg < 256 → s.served pg 0x28 → w.hits 0 2 = false → exec (.pagePwrWrite pg w) s = .next (s.event pg 4)) ∧
    (∀ pg w u, pg < 256 → s.served pg 8 → u = s.event pg 4 →
      (pg ≤ 5 ∨ w.hits 0 1 = false → exec (.pageClkenWrite pg w) s = .next u) ∧
      (5 < pg → w.hits 0 1 = true → w.ones 0 1 = 1 → exec (.pageClkenWrite pg w) s = .next (u.wr PAGE_CLKEN_en 1 pg)) ∧
      (5 < pg → w.hits 0 1 = true → w.ones 0 1 ≠ 1 → exec (.pageClkenWrite pg w) s = .next (if u.rd PAGE_PWR_state pg = 3 then u.wr PAGE_CLKEN_en 0 pg else u.pwrRefuse pg 0 4))) ∧
    (∀ f w, f < 64 → s.served 3 (0x1000 + 8 * f) → exec (.pwrFibreWrite f w) s = .next ((((s.event 3 4).put PWR_FIBRE_idle w 0 f).fibreIdle f).reDepth)) ∧
    (∀ u, s.served 3 0x138 → u = s.event 3 4 → exec .srefEnter s = .next (if u.srefBusy then u.pwrDone 7 3 else (u.setSref 1).pwrDone 0 0) ∧ exec .srefExit s = .next ((u.setSref 0).pwrDone 0 0)) ∧
    (s.alive = true →
      (∀ k, k < 32 → exec (.powerState k) s = .next (s.effect k 11 fun e t => t.powerState (fld e.arg 0 8) (fld e.arg 8 2))) ∧
      (∀ e v, e < 8 → v < 3 → s.engineHeld e = true → s.powerState (0x30 + e) v = ({ s with pwr := { s.pwr with held := s.pwr.held ++ [(0x30 + e, v)] } }, true)) ∧
      (∀ pg v, pageEngine pg = none → s.powerState pg v = s.pwrReq pg v) ∧ (∀ e v, e < 8 → (v = 3 ∨ s.engineHeld e = false) → s.powerState (0x30 + e) v = s.pwrReq (0x30 + e) v) ∧
      (∀ e, e < 8 → (s.holdEnd e).engineHeld e = true → exec (.holdEnd e) s = .next (s.holdEnd e)) ∧
      (∀ e u, e < 8 → u = s.holdEnd e → u.engineHeld e = false → exec (.holdEnd e) s = .next ((u.pwr.held.filter fun x => x.1 = 0x30 + e).foldl (fun t x => (t.pwrReq x.1 x.2).1)
        { u with pwr := { u.pwr with held := u.pwr.held.filter fun x => x.1 ≠ 0x30 + e } })) ∧
      (∀ f, f < 64 →
        ((s.laneX (16 * f)).fillEnd = none → exec (.idleFillEnd f) s = .next s) ∧
        (∀ c, (s.laneX (16 * f)).fillEnd = some c → s.cyc < c → exec (.idleFillEnd f) s = .next s) ∧
        (∀ c, (s.laneX (16 * f)).fillEnd = some c → c ≤ s.cyc → exec (.idleFillEnd f) s = .next (((s.fillEnd f none).setFibre f 1).reFibre f)) ∧
        exec (.deepIdleWake false f) s = .next (if s.rd PWR_FIBRE_state 0 f = 2 && within (s.tNext fun n => s.targetsFibre n f) (s.rd PWR_IDLE_CFG_lane_lead_us) then s.wakeFibre f else s) ∧
        (s.pwr.wakeF.contains f = false → exec (.wakeComplete 0 f) s = .next s) ∧ (s.pwr.wakeF.contains f = true → exec (.wakeComplete 0 f) s = .next (s.fibreWoken f))) ∧
      (∀ e, e < 8 → (s.pwr.wakeE.contains e = false → exec (.wakeComplete 1 e) s = .next s) ∧ (s.pwr.wakeE.contains e = true → exec (.wakeComplete 1 e) s = .next (s.engineWoken e))) ∧
      (∀ p, p < 68 →
        exec (.deepIdleWake true p) s = .next (if s.rd PAGE_PWR_state (0x80 + p) = 2 && within (s.tNext fun n => s.targetsCore n p) (s.rd PWR_IDLE_CFG_serai_lead_us) then s.wakeCore p false else s) ∧
        (s.rd PAGE_PWR_req (0x80 + p) ≠ 1 ∨ s.coreAsleep p = true ∨ (s.core p).busy = true → exec (.seraiIdleHoldEnd p) s = .next s) ∧
        (s.rd PAGE_PWR_req (0x80 + p) = 1 → s.coreAsleep p = false → (s.core p).busy = false → s.rd SRI_STATE_lcore_valid p = 0 → s.pwr.busyAt.getD 0 p + nsCyc (s.rd PWR_IDLE_CFG2_serai_hold_ns) ≤ s.cyc →
          exec (.seraiIdleHoldEnd p) s = .next ((s.wr PAGE_PWR_state 1 (0x80 + p)).reCore p)) ∧
        (s.pwr.wakeC.contains p = false → exec (.wakeComplete 2 p) s = .next s) ∧ (s.pwr.wakeC.contains p = true → exec (.wakeComplete 2 p) s = .next (s.coreWoken p))))

/-- R28, R46, R464 to R468, R470, R479 to R484, R503, R509, R510: clocks, sensors, pins and start-up. Readings show and warn, the junction's every 100 µs and the supply's every 1 ms; the SMBus answers the last reading; dividers, observation and steering follow their registers and lane, and the trim moves by no more than 10 ppm a second within ±200 ppm; loss of the reference, PERST_N, a trip and the supply end the run with all state but flash lost; START_UP runs its sequence, and stops at the step whose condition fails. -/
def Obligations.ClocksSensorsPinsAndStartUp : Prop :=
  ∀ (s : State),
    (s.alive = true → ∀ tj sensor, sensor < 16 →
      (∀ c, s.pwr.tempAt = some c → s.cyc < c + usCyc 100 → exec (.tempSample tj sensor) s = .next s) ∧
      ((∀ c, s.pwr.tempAt = some c → c + usCyc 100 ≤ s.cyc) → ∀ v u : State, v = { s with pwr := { s.pwr with tempAt := some s.cyc } } → u = (v.wrI PWR_TJ_tj_max tj).wr PWR_TJ_sensor sensor →
        exec (.tempSample tj sensor) s = .next (if 16 * (u.rd PWR_TEMP_CFG_warn_c : Int) < tj then u.irq 3 1 else u))) ∧
    (∀ mv cur watts temp, (s.pins.pwrGood = false ∨ s.vinDue = false → exec (.vinSample mv cur watts temp) s = .next s) ∧
      (s.pins.pwrGood = true → s.vinDue = true → ∀ bad (w u : State), bad = (decide (mv < 32000) || decide (40000 < mv)) → w = { s with pwr := { s.pwr with vinAt := if s.clkOn = true then some s.cyc else none } } →
        u = { w with pins := { w.pins with vin := [mv, cur, watts, temp], vinOut := bad } } →
        (s.alive = false → exec (.vinSample mv cur watts temp) s = .next u) ∧
        (s.alive = true → ∀ v, v = ((u.wr PWR_VIN_mv mv).wr PWR_VIN_current cur).wr PWR_VIN_watts watts →
          exec (.vinSample mv cur watts temp) s = .next (if bad && s.pins.vinOut then v.irq 3 2 else v)))) ∧
    (∀ what, what < 4 → exec (.smbusRead what false) s = .next (s.emit (.pmbus (s.pins.vin.getD what 0))) ∧ exec (.smbusRead what true) s = .next s) ∧
    (∀ tms, exec (.boundaryScan false tms) s = .next { s with pins := { s.pins with tap := 0 } } ∧
      ∀ u : State, u = { s with pins := { s.pins with tap := tapNext s.pins.tap tms } } →
        (s.pins.tap ≠ 4 → s.pins.tap ≠ 11 → exec (.boundaryScan true tms) s = .next u) ∧ (s.pins.tap = 4 ∨ s.pins.tap = 11 → ∃ b, b < 2 ∧ exec (.boundaryScan true tms) s = .next ((u.takeFree 12).2.emit (.tdo b)))) ∧
    (∀ u, s.served 2 0x128 → u = s.event 2 4 → exec .apply s = .next { u with rbusDiv := u.rd CLK_DIV_rbus_div, tbusDiv := u.rd CLK_DIV_tbus_div }) ∧
    (∀ w u v, s.served 2 0x130 → u = s.event 2 4 → v = (u.put CLK_OBS_sel w).put CLK_OBS_div_n w →
      (u.flag CLK_OBS_enable = false → w.merge 0 1 (u.rd CLK_OBS_enable) = 1 →
        (u.rd TIM_PIN_OWN_tpo3_owner = 1 → exec (.clkObsWrite w) s = .next (((v.wr CLK_OBS_enable 0).wr CLK_OBS_status 1).irq 2 2)) ∧
        (u.rd TIM_PIN_OWN_tpo3_owner ≠ 1 → ∀ x : State, x = { v with tim := { v.tim with obsAt := if u.rd TIM_PIN_OWN_tpo3_owner = 0 then some v.cyc else v.tim.obsAt } } →
          exec (.clkObsWrite w) s = .next (((x.wr CLK_OBS_enable 1).wr CLK_OBS_status 0).wr TIM_PIN_OWN_tpo3_owner 2))) ∧
      (u.flag CLK_OBS_enable = true → w.merge 0 1 (u.rd CLK_OBS_enable) ≠ 1 → exec (.clkObsWrite w) s = .next ((v.wr CLK_OBS_enable 0).wr TIM_PIN_OWN_tpo3_owner 0)) ∧
      ((w.merge 0 1 (u.rd CLK_OBS_enable) = 1 ↔ u.flag CLK_OBS_enable = true) → exec (.clkObsWrite w) s = .next v)) ∧
    (s.alive = true → exec .lockLoss s = .next ((s.cnt CLK_LOCK_LOSS_count).irq 2 0) ∧ exec .referenceLoss s = .next (s.lose { s.pins with refLost := true }) ∧
      ∀ trim,
        (s.flag CLK_CTRL_flock = true → s.flag CLK_STATUS_flock_hold = false → s.flockBar = true → exec (.flockHold trim) s =
          .next (((((s.trimTo trim).wr CLK_STATUS_flock_hold 1).wr CLK_STATUS_flock_active 0).cnt CLK_FLOCK_HOLD_count).irq 2 1)) ∧
        (s.flag CLK_CTRL_flock = false ∨ s.flag CLK_STATUS_flock_hold = true ∨ s.flockBar = false → exec (.flockHold trim) s = .next s) ∧
        (s.flag CLK_CTRL_flock = true → s.flockBar = false → exec (.flockResume trim) s =
          .next (((s.trimTo trim).wr CLK_STATUS_flock_hold 0).wr CLK_STATUS_flock_active 1)) ∧
        (s.flag CLK_CTRL_flock = false ∨ s.flockBar = true → exec (.flockResume trim) s = .next s)) ∧
    (∀ (t old m new : Int), old = s.rdI CLK_TRIM_trim_ppb → m = ((s.cyc - s.pwr.trimAt) / 200000 : Nat) → new = max (-200000) (min 200000 (max (old - m) (min (old + m) t))) →
      s.trimTo t = if new = old then s else ({ s with pwr := { s.pwr with trimAt := s.cyc } } : State).wrI CLK_TRIM_trim_ppb new) ∧
    (s.pins.pwrGood = true → exec .perstAssert s = .next (s.lose { s.pins with perst := true }) ∧ exec .thermalTrip s = .next (s.lose { s.pins with trip := true }) ∧
      exec .supplyStop s = .next (s.lose { s.pins with pwrGood := false, vinOut := false }) ∧ exec .softStart s = .next s) ∧
    (s.pins.pwrGood = false → exec .perstAssert s = .next { s with pins := { s.pins with perst := true } } ∧ exec .thermalTrip s = .next s ∧ exec .supplyStop s = .next s ∧
      exec .softStart s = .next { s with pins := { s.pins with pwrGood := true, trip := false } }) ∧
    (∀ pins, (s.lose pins).alive = false ∧ (s.lose pins).regs = [] ∧ (s.lose pins).mem = {} ∧ (s.lose pins).secu = s.secu.kept ∧ (s.lose pins).opt = { base := s.opt.base } ∧ (s.lose pins).pins = { pins with ready := false }) ∧
    (∀ x : StartUpIn, (s.canStart = false → exec (.startUp x) s = .next s) ∧
      (s.canStart = true → ∀ u v w : State, u = { s with alive := true, pins := { s.pins with perst := false, refLost := !x.refOk } } →
        (x.refOk = false → exec (.startUp x) s = .next { u with alive := false }) ∧
        (x.refOk = true → v = (((u.wr CLK_STRAP_lockdly x.lockdly).wr CLK_STATUS_ref_ok 1).pageReady 0).startStep 3 x →
          (x.pllOk = false → exec (.startUp x) s = .next v.startFail) ∧
          (x.pllOk = true → (∀ r : State, r = ((v.wr CLK_STATUS_core_lock 1).wr CLK_STATUS_mem_lock 1).wr CLK_STATUS_opt_lock 1 →
              w = (((([2, 4].foldl State.pageReady { r with clkOn := true, cyc := x.elapsed, fclk := x.elapsed * r.clkStep % clkWrap }).selfTest x.checkerFail).startStep 6 x).boot x).pageReady 1) →
            exec (.startUp x) s = .next (if w.noFirmware then w.startFail else (w.firmware x).startRest x)))))

/-- R51, R487, R492, R495 to R498: counters and telemetry. Counter control stores its settings and clears the counters named; clear_all clears every page's; a snapshot effect is rejected while telemetry is off, gives one map a cycle, and writes the levels as an entry of the ring; an entry without room or bus master is dropped and counted, another is written at the head, after a pad entry where it would wrap; enabling periodic snapshots, or a new interval, arms a unit, disabling cancels it; no level passes 15. -/
def Obligations.CountersAndTelemetry : Prop :=
  ∀ (s : State),
    (∀ pg w u, pg < 256 → s.served pg 0x98 → u = s.event pg 4 → exec (.counterClear pg w) s =
      .next ((bitsOf 8 (w.ones 24 8)).foldl (fun t i => t.wr PAGE_CNT_count 0 pg i) (((u.put PAGE_CNT_CTRL_en w pg).put PAGE_CNT_CTRL_chain w pg).put PAGE_CNT_CTRL_ovf_irq w pg))) ∧
    (s.served 15 0x108 → exec .clearAll s = .next (((List.range 256).filter pageAssigned).foldl (fun t pg => (List.range 8).foldl (fun t i => t.wr PAGE_CNT_count 0 pg i) t) (s.event 15 4))) ∧
    (∀ k, s.alive = true → k < 32 → exec (.snapshot k) s = .next (s.effect k 12 fun _ t => t.snapshot)) ∧
    (s.flag TEL_CTRL_enable = false → s.snapshot = (s, false)) ∧
    (s.flag TEL_CTRL_enable = true → s.tel.mapAt = some s.cyc → s.snapshot = (s, true)) ∧
    (∀ (u v : State) (ok : Bool), s.flag TEL_CTRL_enable = true → s.tel.mapAt ≠ some s.cyc → u = { s with tel := { s.tel with mapAt := some s.cyc } } →
      u.telEntry 1 9 [u.sec, u.nsFrac, u.self ||| u.rd TEL_CFG_shift <<< 24 ||| u.rd DTM_EPOCH_cur <<< 32, s.tel.dropped % 2 ^ 32]
        ((List.range 512).map fun i => BitVec.ofNat 8 (s.level (2 * i) + 16 * s.level (2 * i + 1))) = (ok, v) →
      s.snapshot = ((if ok then { (v.cnt TEL_SNAPS_count) with tel := { v.tel with dropped := 0 } } else v), true)) ∧
    (∀ typ n ws rest pos pad, pos = s.rd TEL_RING_HEAD_head % s.telSize → pad = (if s.telSize < pos + n then s.telSize - pos else 0) →
      ((s.busMaster = false ∨ s.telSize < s.telHeld + n + pad) → s.telEntry typ n ws rest = (false, (({ s with tel := { s.tel with dropped := s.tel.dropped + 1 } } : State).cnt TEL_RING_DROP_count).irq 16 0)) ∧
      (s.busMaster = true → s.telHeld + n + pad ≤ s.telSize → ∀ (u v : State) hdr, u = (if pad = 0 then s else s.telUnits pad (leBytes 64 (3 ||| pad <<< 8)) []) →
        hdr = leBytes 4 (typ ||| n <<< 8) ++ leBytes 4 u.tel.entry ++ leWords 8 ws → v = { u with tel := { u.tel with entry := (u.tel.entry + 1) % 2 ^ 32 } } →
        s.telEntry typ n ws rest = (true, (v.telUnits n (hdr ++ List.replicate (64 - hdr.length) 0) rest).event 16 0x10))) ∧
    (∀ cfg w u v, s.served 16 (if cfg then 0x108 else 0x100) → u = s.event 16 4 →
      v = (if cfg then (u.put TEL_CFG_interval_ns w).put TEL_CFG_shift w else ((u.put TEL_CTRL_enable w).put TEL_CTRL_auto w).put TEL_CTRL_age_en w) →
      ((v.flag TEL_CTRL_enable && v.flag TEL_CTRL_auto) = true → ((u.flag TEL_CTRL_enable && u.flag TEL_CTRL_auto) = false ∨ u.rd TEL_CFG_interval_ns ≠ v.rd TEL_CFG_interval_ns) → exec (.telCtrlWrite cfg w) s = .next v.telDisarm.telArm) ∧
      ((v.flag TEL_CTRL_enable && v.flag TEL_CTRL_auto) = true → (u.flag TEL_CTRL_enable && u.flag TEL_CTRL_auto) = true → u.rd TEL_CFG_interval_ns = v.rd TEL_CFG_interval_ns → exec (.telCtrlWrite cfg w) s = .next v) ∧
      ((v.flag TEL_CTRL_enable && v.flag TEL_CTRL_auto) = false → (u.flag TEL_CTRL_enable && u.flag TEL_CTRL_auto) = true → exec (.telCtrlWrite cfg w) s = .next v.telDisarm) ∧
      ((v.flag TEL_CTRL_enable && v.flag TEL_CTRL_auto) = false → (u.flag TEL_CTRL_enable && u.flag TEL_CTRL_auto) = false → exec (.telCtrlWrite cfg w) s = .next v)) ∧
    (∀ p, s.level p ≤ 15)
end

