-- ==== Sys2Proof/Laws/SMap.lean ====
section
/-! SUPPORT. Sparse tables: a read after a write, and the canonical form that every write keeps; GDDR7's bytes as one of them. -/

namespace Sys2Proof

set_option Elab.async false

variable {α : Type}

/-- Keys strictly rising and no value equal to what an unlisted key reads as. -/
def SMap.Canon (d : α) (m : SMap α) : Prop := m.Pairwise (fun a b => a.1 < b.1) ∧ ∀ e ∈ m, e.2 ≠ d

theorem SMap.canon_nil (d : α) : SMap.Canon d [] := ⟨List.Pairwise.nil, by simp⟩

theorem SMap.getD_del_same (d : α) (k : Nat) (m : SMap α) : SMap.getD d k (SMap.del k m) = d := by
  induction m with
  | nil => rfl
  | cons e t ih =>
    obtain ⟨k', v⟩ := e
    by_cases h : k' = k <;> simp [SMap.del, SMap.getD, h, ih]

theorem SMap.getD_del_ne (d : α) {k j : Nat} (h : j ≠ k) (m : SMap α) : SMap.getD d j (SMap.del k m) = SMap.getD d j m := by
  induction m with
  | nil => rfl
  | cons e t ih =>
    obtain ⟨k', v⟩ := e
    by_cases h1 : k' = k
    · have h2 : ¬ k' = j := fun e => h (e.symm.trans h1)
      subst h1; simp [SMap.del, SMap.getD, h2, ih]
    · simp [SMap.del, SMap.getD, h1, ih]

theorem SMap.get?_del_ne {k j : Nat} (h : j ≠ k) (m : SMap α) : SMap.get? j (SMap.del k m) = SMap.get? j m := by
  induction m with
  | nil => rfl
  | cons e t ih =>
    obtain ⟨k', v⟩ := e
    by_cases h1 : k' = k
    · have h2 : ¬ k' = j := fun e => h (e.symm.trans h1)
      subst h1; simp [SMap.del, SMap.get?, h2, ih]
    · simp [SMap.del, SMap.get?, h1, ih]

theorem SMap.get?_del_same (k : Nat) (m : SMap α) : SMap.get? k (SMap.del k m) = none := by
  induction m with
  | nil => rfl
  | cons e t ih =>
    obtain ⟨k', v⟩ := e
    by_cases h : k' = k <;> simp [SMap.del, SMap.get?, h, ih]

theorem SMap.getD_ins_same (d : α) (k : Nat) (v : α) (m : SMap α) (h : SMap.get? k m = none) : SMap.getD d k (SMap.ins k v m) = v := by
  induction m with
  | nil => simp [SMap.ins, SMap.getD]
  | cons e t ih =>
    obtain ⟨k', v'⟩ := e
    by_cases h1 : k' = k
    · simp [SMap.get?, h1] at h
    · by_cases h2 : k < k'
      · simp [SMap.ins, SMap.getD, h2]
      · simp only [SMap.get?, h1, if_false] at h
        simp [SMap.ins, SMap.getD, h1, h2, ih h]

theorem SMap.getD_ins_ne (d : α) {k j : Nat} (h : j ≠ k) (v : α) (m : SMap α) : SMap.getD d j (SMap.ins k v m) = SMap.getD d j m := by
  have hk : ¬ k = j := fun e => h e.symm
  induction m with
  | nil => simp [SMap.ins, SMap.getD, hk]
  | cons e t ih =>
    obtain ⟨k', v'⟩ := e
    by_cases h2 : k < k' <;> simp [SMap.ins, SMap.getD, h2, hk, ih]

theorem SMap.get?_ins_same (k : Nat) (v : α) (m : SMap α) (h : SMap.get? k m = none) : SMap.get? k (SMap.ins k v m) = some v := by
  induction m with
  | nil => simp [SMap.ins, SMap.get?]
  | cons e t ih =>
    obtain ⟨k', v'⟩ := e
    by_cases h1 : k' = k
    · simp [SMap.get?, h1] at h
    · by_cases h2 : k < k'
      · simp [SMap.ins, SMap.get?, h2]
      · simp only [SMap.get?, h1, if_false] at h
        simp [SMap.ins, SMap.get?, h1, h2, ih h]

theorem SMap.get?_ins_ne {k j : Nat} (h : j ≠ k) (v : α) (m : SMap α) : SMap.get? j (SMap.ins k v m) = SMap.get? j m := by
  have hk : ¬ k = j := fun e => h e.symm
  induction m with
  | nil => simp [SMap.ins, SMap.get?, hk]
  | cons e t ih =>
    obtain ⟨k', v'⟩ := e
    by_cases h2 : k < k' <;> simp [SMap.ins, SMap.get?, h2, hk, ih]

/-- A read of the key just written gives the value written. -/
@[simp] theorem SMap.getD_set_same [DecidableEq α] (d : α) (k : Nat) (v : α) (m : SMap α) : SMap.getD d k (SMap.set d k v m) = v := by
  unfold SMap.set
  split
  · next h => rw [SMap.getD_del_same, h]
  · exact SMap.getD_ins_same d k v _ (SMap.get?_del_same k m)

/-- A write leaves every other key alone. -/
theorem SMap.getD_set_ne [DecidableEq α] (d d' : α) {k j : Nat} (h : j ≠ k) (v : α) (m : SMap α) :
    SMap.getD d' j (SMap.set d k v m) = SMap.getD d' j m := by
  unfold SMap.set
  split
  · exact SMap.getD_del_ne d' h m
  · rw [SMap.getD_ins_ne d' h, SMap.getD_del_ne d' h]

@[simp] theorem SMap.get?_put_same (k : Nat) (v : α) (m : SMap α) : SMap.get? k (SMap.put k v m) = some v :=
  SMap.get?_ins_same k v _ (SMap.get?_del_same k m)

theorem SMap.get?_put_ne {k j : Nat} (h : j ≠ k) (v : α) (m : SMap α) : SMap.get? j (SMap.put k v m) = SMap.get? j m := by
  rw [SMap.put, SMap.get?_ins_ne h, SMap.get?_del_ne h]

@[simp] theorem SMap.getD_put_same (d : α) (k : Nat) (v : α) (m : SMap α) : SMap.getD d k (SMap.put k v m) = v :=
  SMap.getD_ins_same d k v _ (SMap.get?_del_same k m)

theorem SMap.getD_put_ne (d : α) {k j : Nat} (h : j ≠ k) (v : α) (m : SMap α) : SMap.getD d j (SMap.put k v m) = SMap.getD d j m := by
  rw [SMap.put, SMap.getD_ins_ne d h, SMap.getD_del_ne d h]

theorem SMap.mem_of_mem_del {k : Nat} {e : Nat × α} {m : SMap α} (h : e ∈ SMap.del k m) : e ∈ m ∧ e.1 ≠ k := by
  induction m with
  | nil => simp [SMap.del] at h
  | cons x t ih =>
    obtain ⟨k', v⟩ := x
    by_cases h1 : k' = k
    · rw [SMap.del, if_pos h1] at h
      exact ⟨List.mem_cons_of_mem _ (ih h).1, (ih h).2⟩
    · rw [SMap.del, if_neg h1] at h
      rcases List.mem_cons.mp h with h | h
      · subst h; exact ⟨List.mem_cons_self, h1⟩
      · exact ⟨List.mem_cons_of_mem _ (ih h).1, (ih h).2⟩

theorem SMap.canon_del {d : α} {m : SMap α} (k : Nat) (h : SMap.Canon d m) : SMap.Canon d (SMap.del k m) := by
  refine ⟨?_, fun e he => h.2 e (SMap.mem_of_mem_del he).1⟩
  have hp := h.1
  clear h
  induction m with
  | nil => exact List.Pairwise.nil
  | cons x t ih =>
    obtain ⟨k', v⟩ := x
    rw [List.pairwise_cons] at hp
    by_cases h1 : k' = k
    · rw [SMap.del, if_pos h1]; exact ih hp.2
    · rw [SMap.del, if_neg h1, List.pairwise_cons]
      exact ⟨fun e he => hp.1 e (SMap.mem_of_mem_del he).1, ih hp.2⟩

theorem SMap.mem_ins {k : Nat} {v : α} {e : Nat × α} {m : SMap α} (h : e ∈ SMap.ins k v m) : e = (k, v) ∨ e ∈ m := by
  induction m with
  | nil => simp [SMap.ins] at h; exact .inl h
  | cons x t ih =>
    obtain ⟨k', v'⟩ := x
    by_cases h1 : k < k'
    · simp only [SMap.ins, h1, if_true, List.mem_cons] at h
      rcases h with h | h | h
      · exact .inl h
      · exact .inr (by simp [h])
      · exact .inr (by simp [h])
    · simp only [SMap.ins, h1, if_false, List.mem_cons] at h
      rcases h with h | h
      · exact .inr (by simp [h])
      · rcases ih h with h | h
        · exact .inl h
        · exact .inr (by simp [h])

theorem SMap.canon_ins {d : α} {m : SMap α} {k : Nat} {v : α} (hv : v ≠ d) (h : SMap.Canon d m) (hk : ∀ e ∈ m, e.1 ≠ k) :
    SMap.Canon d (SMap.ins k v m) := by
  refine ⟨?_, fun e he => ?_⟩
  · have hp := h.1
    clear h
    induction m with
    | nil => simp [SMap.ins]
    | cons x t ih =>
      obtain ⟨k', v'⟩ := x
      rw [List.pairwise_cons] at hp
      by_cases h1 : k < k'
      · simp only [SMap.ins, h1, if_true]
        rw [List.pairwise_cons, List.pairwise_cons]
        refine ⟨fun e he => ?_, hp⟩
        rcases List.mem_cons.mp he with he | he
        · subst he; exact h1
        · exact Nat.lt_trans h1 (hp.1 e he)
      · simp only [SMap.ins, h1, if_false]
        rw [List.pairwise_cons]
        refine ⟨fun e he => ?_, ih (fun e he => hk e (List.mem_cons_of_mem _ he)) hp.2⟩
        rcases SMap.mem_ins he with he | he
        · subst he
          have := hk _ List.mem_cons_self
          simp only at this ⊢
          omega
        · exact hp.1 e he
  · rcases SMap.mem_ins he with he | he
    · subst he; exact hv
    · exact h.2 e he

/-- Every write keeps the canonical form. -/
theorem SMap.canon_set [DecidableEq α] {d : α} {m : SMap α} (k : Nat) (v : α) (h : SMap.Canon d m) : SMap.Canon d (SMap.set d k v m) := by
  unfold SMap.set
  split
  · exact SMap.canon_del k h
  · next hv => exact SMap.canon_ins hv (SMap.canon_del k h) fun e he => (SMap.mem_of_mem_del he).2

namespace Machine

/-- Memory.wf is the canonical form of a table whose unlisted bytes read as zero. -/
theorem Memory.wf_iff (m : List Host.Cell) : Memory.wf m = true ↔ SMap.Canon (0 : Byte) m := by
  simp [Memory.wf, SMap.Canon]

theorem Memory.wf_reset : Memory.wf State.reset.mem.data = true := by decide

/-- Storing a byte keeps GDDR7's canonical form. -/
theorem State.setByte_wf (s : State) (a : Nat) (b : Byte) (h : Memory.wf s.mem.data = true) : Memory.wf (s.setByte a b).mem.data = true :=
  (Memory.wf_iff _).mpr (SMap.canon_set a b ((Memory.wf_iff _).mp h))

/-- A byte just stored is read. -/
@[simp] theorem State.byte_setByte_same (s : State) (a : Nat) (b : Byte) : (s.setByte a b).byte a = b :=
  SMap.getD_set_same _ _ _ _

/-- Storing a byte leaves every other byte alone. -/
theorem State.byte_setByte_ne (s : State) {a c : Nat} (h : c ≠ a) (b : Byte) : (s.setByte a b).byte c = s.byte c :=
  SMap.getD_set_ne _ _ h _ _

/-- Storing a word keeps the canonical form. -/
theorem State.setWord_wf (s : State) (w v syn : Nat) (h : Memory.wf s.mem.data = true) : Memory.wf (s.setWord w v syn).mem.data = true := by
  have key : ∀ (l : List (Byte × Nat)) (s : State), Memory.wf s.mem.data = true →
      Memory.wf (l.foldl (fun s (b, i) => s.setByte (4 * w + i) b) s).mem.data = true := by
    intro l
    induction l with
    | nil => exact fun s h => h
    | cons e t ih => exact fun s h => ih _ (State.setByte_wf s _ _ h)
  exact key _ s h

end Machine

end Sys2Proof
end

