-- ==== Sys2Proof/Laws/State.lean ====
section
/-! SUPPORT. One lemma per field of State per named update: what an update of a register, a table word, the outputs or the list of spoiled words leaves alone. -/

namespace Sys2Proof.Machine

set_option Elab.async false

variable (s : State) (d : RegD) (v n i j : Nat) (x : Int) (w : Wr) (o : Out) (t b idx : Nat) (l : List Nat)

@[simp] theorem State.wr_pending : (s.wr d v n i j).pending = s.pending := rfl
@[simp] theorem State.wr_stg : (s.wr d v n i j).stg = s.stg := rfl
@[simp] theorem State.wr_tbl : (s.wr d v n i j).tbl = s.tbl := rfl
@[simp] theorem State.wr_stgT : (s.wr d v n i j).stgT = s.stgT := rfl
@[simp] theorem State.wr_bad : (s.wr d v n i j).bad = s.bad := rfl
@[simp] theorem State.wr_fclk : (s.wr d v n i j).fclk = s.fclk := rfl
@[simp] theorem State.wr_cyc : (s.wr d v n i j).cyc = s.cyc := rfl
@[simp] theorem State.wr_free : (s.wr d v n i j).free = s.free := rfl
@[simp] theorem State.wr_out : (s.wr d v n i j).out = s.out := rfl
@[simp] theorem State.wr_alive : (s.wr d v n i j).alive = s.alive := rfl
@[simp] theorem State.wr_clkOn : (s.wr d v n i j).clkOn = s.clkOn := rfl
@[simp] theorem State.wr_memSpace : (s.wr d v n i j).memSpace = s.memSpace := rfl
@[simp] theorem State.wr_busMaster : (s.wr d v n i j).busMaster = s.busMaster := rfl
@[simp] theorem State.wr_aborted : (s.wr d v n i j).aborted = s.aborted := rfl
@[simp] theorem State.wr_noFirmware : (s.wr d v n i j).noFirmware = s.noFirmware := rfl
@[simp] theorem State.wr_rbusDiv : (s.wr d v n i j).rbusDiv = s.rbusDiv := rfl
@[simp] theorem State.wr_tbusDiv : (s.wr d v n i j).tbusDiv = s.tbusDiv := rfl
@[simp] theorem State.wr_msix : (s.wr d v n i j).msix = s.msix := rfl
@[simp] theorem State.wr_pba : (s.wr d v n i j).pba = s.pba := rfl
@[simp] theorem State.wr_tim : (s.wr d v n i j).tim = s.tim := rfl
@[simp] theorem State.wr_crn : (s.wr d v n i j).crn = s.crn := rfl
@[simp] theorem State.wr_effs : (s.wr d v n i j).effs = s.effs := rfl
@[simp] theorem State.wr_fwq : (s.wr d v n i j).fwq = s.fwq := rfl
@[simp] theorem State.wr_flights : (s.wr d v n i j).flights = s.flights := rfl
@[simp] theorem State.wr_nextId : (s.wr d v n i j).nextId = s.nextId := rfl
@[simp] theorem State.wr_xbr : (s.wr d v n i j).xbr = s.xbr := rfl
@[simp] theorem State.wr_qsh : (s.wr d v n i j).qsh = s.qsh := rfl
@[simp] theorem State.wr_pool : (s.wr d v n i j).pool = s.pool := rfl
@[simp] theorem State.wr_fwd : (s.wr d v n i j).fwd = s.fwd := rfl
@[simp] theorem State.wr_link : (s.wr d v n i j).link = s.link := rfl
@[simp] theorem State.wr_dtm : (s.wr d v n i j).dtm = s.dtm := rfl
@[simp] theorem State.wr_opt : (s.wr d v n i j).opt = s.opt := rfl
@[simp] theorem State.wr_byp : (s.wr d v n i j).byp = s.byp := rfl
@[simp] theorem State.wr_pins : (s.wr d v n i j).pins = s.pins := rfl
@[simp] theorem State.wr_pwr : (s.wr d v n i j).pwr = s.pwr := rfl
@[simp] theorem State.wr_mem : (s.wr d v n i j).mem = s.mem := rfl
@[simp] theorem State.wr_tel : (s.wr d v n i j).tel = s.tel := rfl
@[simp] theorem State.wr_ser : (s.wr d v n i j).ser = s.ser := rfl
@[simp] theorem State.wr_secu : (s.wr d v n i j).secu = s.secu := rfl
@[simp] theorem State.wr_hif : (s.wr d v n i j).hif = s.hif := rfl

@[simp] theorem State.wrI_pending : (s.wrI d x n i j).pending = s.pending := rfl
@[simp] theorem State.wrI_stg : (s.wrI d x n i j).stg = s.stg := rfl
@[simp] theorem State.wrI_tbl : (s.wrI d x n i j).tbl = s.tbl := rfl
@[simp] theorem State.wrI_stgT : (s.wrI d x n i j).stgT = s.stgT := rfl
@[simp] theorem State.wrI_bad : (s.wrI d x n i j).bad = s.bad := rfl
@[simp] theorem State.wrI_fclk : (s.wrI d x n i j).fclk = s.fclk := rfl
@[simp] theorem State.wrI_cyc : (s.wrI d x n i j).cyc = s.cyc := rfl
@[simp] theorem State.wrI_free : (s.wrI d x n i j).free = s.free := rfl
@[simp] theorem State.wrI_out : (s.wrI d x n i j).out = s.out := rfl
@[simp] theorem State.wrI_alive : (s.wrI d x n i j).alive = s.alive := rfl
@[simp] theorem State.wrI_clkOn : (s.wrI d x n i j).clkOn = s.clkOn := rfl
@[simp] theorem State.wrI_memSpace : (s.wrI d x n i j).memSpace = s.memSpace := rfl
@[simp] theorem State.wrI_busMaster : (s.wrI d x n i j).busMaster = s.busMaster := rfl
@[simp] theorem State.wrI_aborted : (s.wrI d x n i j).aborted = s.aborted := rfl
@[simp] theorem State.wrI_noFirmware : (s.wrI d x n i j).noFirmware = s.noFirmware := rfl
@[simp] theorem State.wrI_rbusDiv : (s.wrI d x n i j).rbusDiv = s.rbusDiv := rfl
@[simp] theorem State.wrI_tbusDiv : (s.wrI d x n i j).tbusDiv = s.tbusDiv := rfl
@[simp] theorem State.wrI_msix : (s.wrI d x n i j).msix = s.msix := rfl
@[simp] theorem State.wrI_pba : (s.wrI d x n i j).pba = s.pba := rfl
@[simp] theorem State.wrI_tim : (s.wrI d x n i j).tim = s.tim := rfl
@[simp] theorem State.wrI_crn : (s.wrI d x n i j).crn = s.crn := rfl
@[simp] theorem State.wrI_effs : (s.wrI d x n i j).effs = s.effs := rfl
@[simp] theorem State.wrI_fwq : (s.wrI d x n i j).fwq = s.fwq := rfl
@[simp] theorem State.wrI_flights : (s.wrI d x n i j).flights = s.flights := rfl
@[simp] theorem State.wrI_nextId : (s.wrI d x n i j).nextId = s.nextId := rfl
@[simp] theorem State.wrI_xbr : (s.wrI d x n i j).xbr = s.xbr := rfl
@[simp] theorem State.wrI_qsh : (s.wrI d x n i j).qsh = s.qsh := rfl
@[simp] theorem State.wrI_pool : (s.wrI d x n i j).pool = s.pool := rfl
@[simp] theorem State.wrI_fwd : (s.wrI d x n i j).fwd = s.fwd := rfl
@[simp] theorem State.wrI_link : (s.wrI d x n i j).link = s.link := rfl
@[simp] theorem State.wrI_dtm : (s.wrI d x n i j).dtm = s.dtm := rfl
@[simp] theorem State.wrI_opt : (s.wrI d x n i j).opt = s.opt := rfl
@[simp] theorem State.wrI_byp : (s.wrI d x n i j).byp = s.byp := rfl
@[simp] theorem State.wrI_pins : (s.wrI d x n i j).pins = s.pins := rfl
@[simp] theorem State.wrI_pwr : (s.wrI d x n i j).pwr = s.pwr := rfl
@[simp] theorem State.wrI_mem : (s.wrI d x n i j).mem = s.mem := rfl
@[simp] theorem State.wrI_tel : (s.wrI d x n i j).tel = s.tel := rfl
@[simp] theorem State.wrI_ser : (s.wrI d x n i j).ser = s.ser := rfl
@[simp] theorem State.wrI_secu : (s.wrI d x n i j).secu = s.secu := rfl
@[simp] theorem State.wrI_hif : (s.wrI d x n i j).hif = s.hif := rfl

@[simp] theorem State.put_pending : (s.put d w n i j).pending = s.pending := rfl
@[simp] theorem State.put_stg : (s.put d w n i j).stg = s.stg := rfl
@[simp] theorem State.put_tbl : (s.put d w n i j).tbl = s.tbl := rfl
@[simp] theorem State.put_stgT : (s.put d w n i j).stgT = s.stgT := rfl
@[simp] theorem State.put_bad : (s.put d w n i j).bad = s.bad := rfl
@[simp] theorem State.put_fclk : (s.put d w n i j).fclk = s.fclk := rfl
@[simp] theorem State.put_cyc : (s.put d w n i j).cyc = s.cyc := rfl
@[simp] theorem State.put_free : (s.put d w n i j).free = s.free := rfl
@[simp] theorem State.put_out : (s.put d w n i j).out = s.out := rfl
@[simp] theorem State.put_alive : (s.put d w n i j).alive = s.alive := rfl
@[simp] theorem State.put_clkOn : (s.put d w n i j).clkOn = s.clkOn := rfl
@[simp] theorem State.put_memSpace : (s.put d w n i j).memSpace = s.memSpace := rfl
@[simp] theorem State.put_busMaster : (s.put d w n i j).busMaster = s.busMaster := rfl
@[simp] theorem State.put_aborted : (s.put d w n i j).aborted = s.aborted := rfl
@[simp] theorem State.put_noFirmware : (s.put d w n i j).noFirmware = s.noFirmware := rfl
@[simp] theorem State.put_rbusDiv : (s.put d w n i j).rbusDiv = s.rbusDiv := rfl
@[simp] theorem State.put_tbusDiv : (s.put d w n i j).tbusDiv = s.tbusDiv := rfl
@[simp] theorem State.put_msix : (s.put d w n i j).msix = s.msix := rfl
@[simp] theorem State.put_pba : (s.put d w n i j).pba = s.pba := rfl
@[simp] theorem State.put_tim : (s.put d w n i j).tim = s.tim := rfl
@[simp] theorem State.put_crn : (s.put d w n i j).crn = s.crn := rfl
@[simp] theorem State.put_effs : (s.put d w n i j).effs = s.effs := rfl
@[simp] theorem State.put_fwq : (s.put d w n i j).fwq = s.fwq := rfl
@[simp] theorem State.put_flights : (s.put d w n i j).flights = s.flights := rfl
@[simp] theorem State.put_nextId : (s.put d w n i j).nextId = s.nextId := rfl
@[simp] theorem State.put_xbr : (s.put d w n i j).xbr = s.xbr := rfl
@[simp] theorem State.put_qsh : (s.put d w n i j).qsh = s.qsh := rfl
@[simp] theorem State.put_pool : (s.put d w n i j).pool = s.pool := rfl
@[simp] theorem State.put_fwd : (s.put d w n i j).fwd = s.fwd := rfl
@[simp] theorem State.put_link : (s.put d w n i j).link = s.link := rfl
@[simp] theorem State.put_dtm : (s.put d w n i j).dtm = s.dtm := rfl
@[simp] theorem State.put_opt : (s.put d w n i j).opt = s.opt := rfl
@[simp] theorem State.put_byp : (s.put d w n i j).byp = s.byp := rfl
@[simp] theorem State.put_pins : (s.put d w n i j).pins = s.pins := rfl
@[simp] theorem State.put_pwr : (s.put d w n i j).pwr = s.pwr := rfl
@[simp] theorem State.put_mem : (s.put d w n i j).mem = s.mem := rfl
@[simp] theorem State.put_tel : (s.put d w n i j).tel = s.tel := rfl
@[simp] theorem State.put_ser : (s.put d w n i j).ser = s.ser := rfl
@[simp] theorem State.put_secu : (s.put d w n i j).secu = s.secu := rfl
@[simp] theorem State.put_hif : (s.put d w n i j).hif = s.hif := rfl

@[simp] theorem State.w1c_pending : (s.w1c d w n i j).pending = s.pending := rfl
@[simp] theorem State.w1c_stg : (s.w1c d w n i j).stg = s.stg := rfl
@[simp] theorem State.w1c_tbl : (s.w1c d w n i j).tbl = s.tbl := rfl
@[simp] theorem State.w1c_stgT : (s.w1c d w n i j).stgT = s.stgT := rfl
@[simp] theorem State.w1c_bad : (s.w1c d w n i j).bad = s.bad := rfl
@[simp] theorem State.w1c_fclk : (s.w1c d w n i j).fclk = s.fclk := rfl
@[simp] theorem State.w1c_cyc : (s.w1c d w n i j).cyc = s.cyc := rfl
@[simp] theorem State.w1c_free : (s.w1c d w n i j).free = s.free := rfl
@[simp] theorem State.w1c_out : (s.w1c d w n i j).out = s.out := rfl
@[simp] theorem State.w1c_alive : (s.w1c d w n i j).alive = s.alive := rfl
@[simp] theorem State.w1c_clkOn : (s.w1c d w n i j).clkOn = s.clkOn := rfl
@[simp] theorem State.w1c_memSpace : (s.w1c d w n i j).memSpace = s.memSpace := rfl
@[simp] theorem State.w1c_busMaster : (s.w1c d w n i j).busMaster = s.busMaster := rfl
@[simp] theorem State.w1c_aborted : (s.w1c d w n i j).aborted = s.aborted := rfl
@[simp] theorem State.w1c_noFirmware : (s.w1c d w n i j).noFirmware = s.noFirmware := rfl
@[simp] theorem State.w1c_rbusDiv : (s.w1c d w n i j).rbusDiv = s.rbusDiv := rfl
@[simp] theorem State.w1c_tbusDiv : (s.w1c d w n i j).tbusDiv = s.tbusDiv := rfl
@[simp] theorem State.w1c_msix : (s.w1c d w n i j).msix = s.msix := rfl
@[simp] theorem State.w1c_pba : (s.w1c d w n i j).pba = s.pba := rfl
@[simp] theorem State.w1c_tim : (s.w1c d w n i j).tim = s.tim := rfl
@[simp] theorem State.w1c_crn : (s.w1c d w n i j).crn = s.crn := rfl
@[simp] theorem State.w1c_effs : (s.w1c d w n i j).effs = s.effs := rfl
@[simp] theorem State.w1c_fwq : (s.w1c d w n i j).fwq = s.fwq := rfl
@[simp] theorem State.w1c_flights : (s.w1c d w n i j).flights = s.flights := rfl
@[simp] theorem State.w1c_nextId : (s.w1c d w n i j).nextId = s.nextId := rfl
@[simp] theorem State.w1c_xbr : (s.w1c d w n i j).xbr = s.xbr := rfl
@[simp] theorem State.w1c_qsh : (s.w1c d w n i j).qsh = s.qsh := rfl
@[simp] theorem State.w1c_pool : (s.w1c d w n i j).pool = s.pool := rfl
@[simp] theorem State.w1c_fwd : (s.w1c d w n i j).fwd = s.fwd := rfl
@[simp] theorem State.w1c_link : (s.w1c d w n i j).link = s.link := rfl
@[simp] theorem State.w1c_dtm : (s.w1c d w n i j).dtm = s.dtm := rfl
@[simp] theorem State.w1c_opt : (s.w1c d w n i j).opt = s.opt := rfl
@[simp] theorem State.w1c_byp : (s.w1c d w n i j).byp = s.byp := rfl
@[simp] theorem State.w1c_pins : (s.w1c d w n i j).pins = s.pins := rfl
@[simp] theorem State.w1c_pwr : (s.w1c d w n i j).pwr = s.pwr := rfl
@[simp] theorem State.w1c_mem : (s.w1c d w n i j).mem = s.mem := rfl
@[simp] theorem State.w1c_tel : (s.w1c d w n i j).tel = s.tel := rfl
@[simp] theorem State.w1c_ser : (s.w1c d w n i j).ser = s.ser := rfl
@[simp] theorem State.w1c_secu : (s.w1c d w n i j).secu = s.secu := rfl
@[simp] theorem State.w1c_hif : (s.w1c d w n i j).hif = s.hif := rfl

@[simp] theorem State.emit_pending : (s.emit o).pending = s.pending := rfl
@[simp] theorem State.emit_regs : (s.emit o).regs = s.regs := rfl
@[simp] theorem State.emit_stg : (s.emit o).stg = s.stg := rfl
@[simp] theorem State.emit_tbl : (s.emit o).tbl = s.tbl := rfl
@[simp] theorem State.emit_stgT : (s.emit o).stgT = s.stgT := rfl
@[simp] theorem State.emit_bad : (s.emit o).bad = s.bad := rfl
@[simp] theorem State.emit_fclk : (s.emit o).fclk = s.fclk := rfl
@[simp] theorem State.emit_cyc : (s.emit o).cyc = s.cyc := rfl
@[simp] theorem State.emit_free : (s.emit o).free = s.free := rfl
@[simp] theorem State.emit_alive : (s.emit o).alive = s.alive := rfl
@[simp] theorem State.emit_clkOn : (s.emit o).clkOn = s.clkOn := rfl
@[simp] theorem State.emit_memSpace : (s.emit o).memSpace = s.memSpace := rfl
@[simp] theorem State.emit_busMaster : (s.emit o).busMaster = s.busMaster := rfl
@[simp] theorem State.emit_aborted : (s.emit o).aborted = s.aborted := rfl
@[simp] theorem State.emit_noFirmware : (s.emit o).noFirmware = s.noFirmware := rfl
@[simp] theorem State.emit_rbusDiv : (s.emit o).rbusDiv = s.rbusDiv := rfl
@[simp] theorem State.emit_tbusDiv : (s.emit o).tbusDiv = s.tbusDiv := rfl
@[simp] theorem State.emit_msix : (s.emit o).msix = s.msix := rfl
@[simp] theorem State.emit_pba : (s.emit o).pba = s.pba := rfl
@[simp] theorem State.emit_tim : (s.emit o).tim = s.tim := rfl
@[simp] theorem State.emit_crn : (s.emit o).crn = s.crn := rfl
@[simp] theorem State.emit_effs : (s.emit o).effs = s.effs := rfl
@[simp] theorem State.emit_fwq : (s.emit o).fwq = s.fwq := rfl
@[simp] theorem State.emit_flights : (s.emit o).flights = s.flights := rfl
@[simp] theorem State.emit_nextId : (s.emit o).nextId = s.nextId := rfl
@[simp] theorem State.emit_xbr : (s.emit o).xbr = s.xbr := rfl
@[simp] theorem State.emit_qsh : (s.emit o).qsh = s.qsh := rfl
@[simp] theorem State.emit_pool : (s.emit o).pool = s.pool := rfl
@[simp] theorem State.emit_fwd : (s.emit o).fwd = s.fwd := rfl
@[simp] theorem State.emit_link : (s.emit o).link = s.link := rfl
@[simp] theorem State.emit_dtm : (s.emit o).dtm = s.dtm := rfl
@[simp] theorem State.emit_opt : (s.emit o).opt = s.opt := rfl
@[simp] theorem State.emit_byp : (s.emit o).byp = s.byp := rfl
@[simp] theorem State.emit_pins : (s.emit o).pins = s.pins := rfl
@[simp] theorem State.emit_pwr : (s.emit o).pwr = s.pwr := rfl
@[simp] theorem State.emit_mem : (s.emit o).mem = s.mem := rfl
@[simp] theorem State.emit_tel : (s.emit o).tel = s.tel := rfl
@[simp] theorem State.emit_ser : (s.emit o).ser = s.ser := rfl
@[simp] theorem State.emit_secu : (s.emit o).secu = s.secu := rfl
@[simp] theorem State.emit_hif : (s.emit o).hif = s.hif := rfl

@[simp] theorem State.tset_pending : (s.tset t b idx n v).pending = s.pending := rfl
@[simp] theorem State.tset_regs : (s.tset t b idx n v).regs = s.regs := rfl
@[simp] theorem State.tset_stg : (s.tset t b idx n v).stg = s.stg := rfl
@[simp] theorem State.tset_stgT : (s.tset t b idx n v).stgT = s.stgT := rfl
@[simp] theorem State.tset_bad : (s.tset t b idx n v).bad = s.bad := rfl
@[simp] theorem State.tset_fclk : (s.tset t b idx n v).fclk = s.fclk := rfl
@[simp] theorem State.tset_cyc : (s.tset t b idx n v).cyc = s.cyc := rfl
@[simp] theorem State.tset_free : (s.tset t b idx n v).free = s.free := rfl
@[simp] theorem State.tset_out : (s.tset t b idx n v).out = s.out := rfl
@[simp] theorem State.tset_alive : (s.tset t b idx n v).alive = s.alive := rfl
@[simp] theorem State.tset_clkOn : (s.tset t b idx n v).clkOn = s.clkOn := rfl
@[simp] theorem State.tset_memSpace : (s.tset t b idx n v).memSpace = s.memSpace := rfl
@[simp] theorem State.tset_busMaster : (s.tset t b idx n v).busMaster = s.busMaster := rfl
@[simp] theorem State.tset_aborted : (s.tset t b idx n v).aborted = s.aborted := rfl
@[simp] theorem State.tset_noFirmware : (s.tset t b idx n v).noFirmware = s.noFirmware := rfl
@[simp] theorem State.tset_rbusDiv : (s.tset t b idx n v).rbusDiv = s.rbusDiv := rfl
@[simp] theorem State.tset_tbusDiv : (s.tset t b idx n v).tbusDiv = s.tbusDiv := rfl
@[simp] theorem State.tset_msix : (s.tset t b idx n v).msix = s.msix := rfl
@[simp] theorem State.tset_pba : (s.tset t b idx n v).pba = s.pba := rfl
@[simp] theorem State.tset_tim : (s.tset t b idx n v).tim = s.tim := rfl
@[simp] theorem State.tset_crn : (s.tset t b idx n v).crn = s.crn := rfl
@[simp] theorem State.tset_effs : (s.tset t b idx n v).effs = s.effs := rfl
@[simp] theorem State.tset_fwq : (s.tset t b idx n v).fwq = s.fwq := rfl
@[simp] theorem State.tset_flights : (s.tset t b idx n v).flights = s.flights := rfl
@[simp] theorem State.tset_nextId : (s.tset t b idx n v).nextId = s.nextId := rfl
@[simp] theorem State.tset_xbr : (s.tset t b idx n v).xbr = s.xbr := rfl
@[simp] theorem State.tset_qsh : (s.tset t b idx n v).qsh = s.qsh := rfl
@[simp] theorem State.tset_pool : (s.tset t b idx n v).pool = s.pool := rfl
@[simp] theorem State.tset_fwd : (s.tset t b idx n v).fwd = s.fwd := rfl
@[simp] theorem State.tset_link : (s.tset t b idx n v).link = s.link := rfl
@[simp] theorem State.tset_dtm : (s.tset t b idx n v).dtm = s.dtm := rfl
@[simp] theorem State.tset_opt : (s.tset t b idx n v).opt = s.opt := rfl
@[simp] theorem State.tset_byp : (s.tset t b idx n v).byp = s.byp := rfl
@[simp] theorem State.tset_pins : (s.tset t b idx n v).pins = s.pins := rfl
@[simp] theorem State.tset_pwr : (s.tset t b idx n v).pwr = s.pwr := rfl
@[simp] theorem State.tset_mem : (s.tset t b idx n v).mem = s.mem := rfl
@[simp] theorem State.tset_tel : (s.tset t b idx n v).tel = s.tel := rfl
@[simp] theorem State.tset_ser : (s.tset t b idx n v).ser = s.ser := rfl
@[simp] theorem State.tset_secu : (s.tset t b idx n v).secu = s.secu := rfl
@[simp] theorem State.tset_hif : (s.tset t b idx n v).hif = s.hif := rfl

@[simp] theorem State.mend_pending : (s.mend t b idx n).pending = s.pending := rfl
@[simp] theorem State.mend_regs : (s.mend t b idx n).regs = s.regs := rfl
@[simp] theorem State.mend_stg : (s.mend t b idx n).stg = s.stg := rfl
@[simp] theorem State.mend_tbl : (s.mend t b idx n).tbl = s.tbl := rfl
@[simp] theorem State.mend_stgT : (s.mend t b idx n).stgT = s.stgT := rfl
@[simp] theorem State.mend_fclk : (s.mend t b idx n).fclk = s.fclk := rfl
@[simp] theorem State.mend_cyc : (s.mend t b idx n).cyc = s.cyc := rfl
@[simp] theorem State.mend_free : (s.mend t b idx n).free = s.free := rfl
@[simp] theorem State.mend_out : (s.mend t b idx n).out = s.out := rfl
@[simp] theorem State.mend_alive : (s.mend t b idx n).alive = s.alive := rfl
@[simp] theorem State.mend_clkOn : (s.mend t b idx n).clkOn = s.clkOn := rfl
@[simp] theorem State.mend_memSpace : (s.mend t b idx n).memSpace = s.memSpace := rfl
@[simp] theorem State.mend_busMaster : (s.mend t b idx n).busMaster = s.busMaster := rfl
@[simp] theorem State.mend_aborted : (s.mend t b idx n).aborted = s.aborted := rfl
@[simp] theorem State.mend_noFirmware : (s.mend t b idx n).noFirmware = s.noFirmware := rfl
@[simp] theorem State.mend_rbusDiv : (s.mend t b idx n).rbusDiv = s.rbusDiv := rfl
@[simp] theorem State.mend_tbusDiv : (s.mend t b idx n).tbusDiv = s.tbusDiv := rfl
@[simp] theorem State.mend_msix : (s.mend t b idx n).msix = s.msix := rfl
@[simp] theorem State.mend_pba : (s.mend t b idx n).pba = s.pba := rfl
@[simp] theorem State.mend_tim : (s.mend t b idx n).tim = s.tim := rfl
@[simp] theorem State.mend_crn : (s.mend t b idx n).crn = s.crn := rfl
@[simp] theorem State.mend_effs : (s.mend t b idx n).effs = s.effs := rfl
@[simp] theorem State.mend_fwq : (s.mend t b idx n).fwq = s.fwq := rfl
@[simp] theorem State.mend_flights : (s.mend t b idx n).flights = s.flights := rfl
@[simp] theorem State.mend_nextId : (s.mend t b idx n).nextId = s.nextId := rfl
@[simp] theorem State.mend_xbr : (s.mend t b idx n).xbr = s.xbr := rfl
@[simp] theorem State.mend_qsh : (s.mend t b idx n).qsh = s.qsh := rfl
@[simp] theorem State.mend_pool : (s.mend t b idx n).pool = s.pool := rfl
@[simp] theorem State.mend_fwd : (s.mend t b idx n).fwd = s.fwd := rfl
@[simp] theorem State.mend_link : (s.mend t b idx n).link = s.link := rfl
@[simp] theorem State.mend_dtm : (s.mend t b idx n).dtm = s.dtm := rfl
@[simp] theorem State.mend_opt : (s.mend t b idx n).opt = s.opt := rfl
@[simp] theorem State.mend_byp : (s.mend t b idx n).byp = s.byp := rfl
@[simp] theorem State.mend_pins : (s.mend t b idx n).pins = s.pins := rfl
@[simp] theorem State.mend_pwr : (s.mend t b idx n).pwr = s.pwr := rfl
@[simp] theorem State.mend_mem : (s.mend t b idx n).mem = s.mem := rfl
@[simp] theorem State.mend_tel : (s.mend t b idx n).tel = s.tel := rfl
@[simp] theorem State.mend_ser : (s.mend t b idx n).ser = s.ser := rfl
@[simp] theorem State.mend_secu : (s.mend t b idx n).secu = s.secu := rfl
@[simp] theorem State.mend_hif : (s.mend t b idx n).hif = s.hif := rfl

@[simp] theorem State.spoil_pending : (s.spoil l).pending = s.pending := rfl
@[simp] theorem State.spoil_regs : (s.spoil l).regs = s.regs := rfl
@[simp] theorem State.spoil_stg : (s.spoil l).stg = s.stg := rfl
@[simp] theorem State.spoil_tbl : (s.spoil l).tbl = s.tbl := rfl
@[simp] theorem State.spoil_stgT : (s.spoil l).stgT = s.stgT := rfl
@[simp] theorem State.spoil_fclk : (s.spoil l).fclk = s.fclk := rfl
@[simp] theorem State.spoil_cyc : (s.spoil l).cyc = s.cyc := rfl
@[simp] theorem State.spoil_free : (s.spoil l).free = s.free := rfl
@[simp] theorem State.spoil_out : (s.spoil l).out = s.out := rfl
@[simp] theorem State.spoil_alive : (s.spoil l).alive = s.alive := rfl
@[simp] theorem State.spoil_clkOn : (s.spoil l).clkOn = s.clkOn := rfl
@[simp] theorem State.spoil_memSpace : (s.spoil l).memSpace = s.memSpace := rfl
@[simp] theorem State.spoil_busMaster : (s.spoil l).busMaster = s.busMaster := rfl
@[simp] theorem State.spoil_aborted : (s.spoil l).aborted = s.aborted := rfl
@[simp] theorem State.spoil_noFirmware : (s.spoil l).noFirmware = s.noFirmware := rfl
@[simp] theorem State.spoil_rbusDiv : (s.spoil l).rbusDiv = s.rbusDiv := rfl
@[simp] theorem State.spoil_tbusDiv : (s.spoil l).tbusDiv = s.tbusDiv := rfl
@[simp] theorem State.spoil_msix : (s.spoil l).msix = s.msix := rfl
@[simp] theorem State.spoil_pba : (s.spoil l).pba = s.pba := rfl
@[simp] theorem State.spoil_tim : (s.spoil l).tim = s.tim := rfl
@[simp] theorem State.spoil_crn : (s.spoil l).crn = s.crn := rfl
@[simp] theorem State.spoil_effs : (s.spoil l).effs = s.effs := rfl
@[simp] theorem State.spoil_fwq : (s.spoil l).fwq = s.fwq := rfl
@[simp] theorem State.spoil_flights : (s.spoil l).flights = s.flights := rfl
@[simp] theorem State.spoil_nextId : (s.spoil l).nextId = s.nextId := rfl
@[simp] theorem State.spoil_xbr : (s.spoil l).xbr = s.xbr := rfl
@[simp] theorem State.spoil_qsh : (s.spoil l).qsh = s.qsh := rfl
@[simp] theorem State.spoil_pool : (s.spoil l).pool = s.pool := rfl
@[simp] theorem State.spoil_fwd : (s.spoil l).fwd = s.fwd := rfl
@[simp] theorem State.spoil_link : (s.spoil l).link = s.link := rfl
@[simp] theorem State.spoil_dtm : (s.spoil l).dtm = s.dtm := rfl
@[simp] theorem State.spoil_opt : (s.spoil l).opt = s.opt := rfl
@[simp] theorem State.spoil_byp : (s.spoil l).byp = s.byp := rfl
@[simp] theorem State.spoil_pins : (s.spoil l).pins = s.pins := rfl
@[simp] theorem State.spoil_pwr : (s.spoil l).pwr = s.pwr := rfl
@[simp] theorem State.spoil_mem : (s.spoil l).mem = s.mem := rfl
@[simp] theorem State.spoil_tel : (s.spoil l).tel = s.tel := rfl
@[simp] theorem State.spoil_ser : (s.spoil l).ser = s.ser := rfl
@[simp] theorem State.spoil_secu : (s.spoil l).secu = s.secu := rfl
@[simp] theorem State.spoil_hif : (s.spoil l).hif = s.hif := rfl

@[simp] theorem State.takeFree_pending : ((s.takeFree n).2).pending = s.pending := rfl
@[simp] theorem State.takeFree_regs : ((s.takeFree n).2).regs = s.regs := rfl
@[simp] theorem State.takeFree_stg : ((s.takeFree n).2).stg = s.stg := rfl
@[simp] theorem State.takeFree_tbl : ((s.takeFree n).2).tbl = s.tbl := rfl
@[simp] theorem State.takeFree_stgT : ((s.takeFree n).2).stgT = s.stgT := rfl
@[simp] theorem State.takeFree_bad : ((s.takeFree n).2).bad = s.bad := rfl
@[simp] theorem State.takeFree_fclk : ((s.takeFree n).2).fclk = s.fclk := rfl
@[simp] theorem State.takeFree_cyc : ((s.takeFree n).2).cyc = s.cyc := rfl
@[simp] theorem State.takeFree_out : ((s.takeFree n).2).out = s.out := rfl
@[simp] theorem State.takeFree_alive : ((s.takeFree n).2).alive = s.alive := rfl
@[simp] theorem State.takeFree_clkOn : ((s.takeFree n).2).clkOn = s.clkOn := rfl
@[simp] theorem State.takeFree_memSpace : ((s.takeFree n).2).memSpace = s.memSpace := rfl
@[simp] theorem State.takeFree_busMaster : ((s.takeFree n).2).busMaster = s.busMaster := rfl
@[simp] theorem State.takeFree_aborted : ((s.takeFree n).2).aborted = s.aborted := rfl
@[simp] theorem State.takeFree_noFirmware : ((s.takeFree n).2).noFirmware = s.noFirmware := rfl
@[simp] theorem State.takeFree_rbusDiv : ((s.takeFree n).2).rbusDiv = s.rbusDiv := rfl
@[simp] theorem State.takeFree_tbusDiv : ((s.takeFree n).2).tbusDiv = s.tbusDiv := rfl
@[simp] theorem State.takeFree_msix : ((s.takeFree n).2).msix = s.msix := rfl
@[simp] theorem State.takeFree_pba : ((s.takeFree n).2).pba = s.pba := rfl
@[simp] theorem State.takeFree_tim : ((s.takeFree n).2).tim = s.tim := rfl
@[simp] theorem State.takeFree_crn : ((s.takeFree n).2).crn = s.crn := rfl
@[simp] theorem State.takeFree_effs : ((s.takeFree n).2).effs = s.effs := rfl
@[simp] theorem State.takeFree_fwq : ((s.takeFree n).2).fwq = s.fwq := rfl
@[simp] theorem State.takeFree_flights : ((s.takeFree n).2).flights = s.flights := rfl
@[simp] theorem State.takeFree_nextId : ((s.takeFree n).2).nextId = s.nextId := rfl
@[simp] theorem State.takeFree_xbr : ((s.takeFree n).2).xbr = s.xbr := rfl
@[simp] theorem State.takeFree_qsh : ((s.takeFree n).2).qsh = s.qsh := rfl
@[simp] theorem State.takeFree_pool : ((s.takeFree n).2).pool = s.pool := rfl
@[simp] theorem State.takeFree_fwd : ((s.takeFree n).2).fwd = s.fwd := rfl
@[simp] theorem State.takeFree_link : ((s.takeFree n).2).link = s.link := rfl
@[simp] theorem State.takeFree_dtm : ((s.takeFree n).2).dtm = s.dtm := rfl
@[simp] theorem State.takeFree_opt : ((s.takeFree n).2).opt = s.opt := rfl
@[simp] theorem State.takeFree_byp : ((s.takeFree n).2).byp = s.byp := rfl
@[simp] theorem State.takeFree_pins : ((s.takeFree n).2).pins = s.pins := rfl
@[simp] theorem State.takeFree_pwr : ((s.takeFree n).2).pwr = s.pwr := rfl
@[simp] theorem State.takeFree_mem : ((s.takeFree n).2).mem = s.mem := rfl
@[simp] theorem State.takeFree_tel : ((s.takeFree n).2).tel = s.tel := rfl
@[simp] theorem State.takeFree_ser : ((s.takeFree n).2).ser = s.ser := rfl
@[simp] theorem State.takeFree_secu : ((s.takeFree n).2).secu = s.secu := rfl
@[simp] theorem State.takeFree_hif : ((s.takeFree n).2).hif = s.hif := rfl

@[simp] theorem State.wr_tget (a₁ a₂ a₃ a₄ : Nat) : (s.wr d v n i j).tget a₁ a₂ a₃ a₄ = s.tget a₁ a₂ a₃ a₄ := rfl
@[simp] theorem State.wrI_tget (a₁ a₂ a₃ a₄ : Nat) : (s.wrI d x n i j).tget a₁ a₂ a₃ a₄ = s.tget a₁ a₂ a₃ a₄ := rfl
@[simp] theorem State.put_tget (a₁ a₂ a₃ a₄ : Nat) : (s.put d w n i j).tget a₁ a₂ a₃ a₄ = s.tget a₁ a₂ a₃ a₄ := rfl
@[simp] theorem State.w1c_tget (a₁ a₂ a₃ a₄ : Nat) : (s.w1c d w n i j).tget a₁ a₂ a₃ a₄ = s.tget a₁ a₂ a₃ a₄ := rfl
@[simp] theorem State.emit_rd : (s.emit o).rd d v i j = s.rd d v i j := rfl
@[simp] theorem State.emit_rdI : (s.emit o).rdI d v i j = s.rdI d v i j := rfl
@[simp] theorem State.emit_flag : (s.emit o).flag d v i j = s.flag d v i j := rfl
@[simp] theorem State.emit_tget (a₁ a₂ a₃ a₄ : Nat) : (s.emit o).tget a₁ a₂ a₃ a₄ = s.tget a₁ a₂ a₃ a₄ := rfl
@[simp] theorem State.tset_rd : (s.tset t b idx n v).rd d v i j = s.rd d v i j := rfl
@[simp] theorem State.tset_rdI : (s.tset t b idx n v).rdI d v i j = s.rdI d v i j := rfl
@[simp] theorem State.tset_flag : (s.tset t b idx n v).flag d v i j = s.flag d v i j := rfl
@[simp] theorem State.mend_rd : (s.mend t b idx n).rd d v i j = s.rd d v i j := rfl
@[simp] theorem State.mend_rdI : (s.mend t b idx n).rdI d v i j = s.rdI d v i j := rfl
@[simp] theorem State.mend_flag : (s.mend t b idx n).flag d v i j = s.flag d v i j := rfl
@[simp] theorem State.mend_tget (a₁ a₂ a₃ a₄ : Nat) : (s.mend t b idx n).tget a₁ a₂ a₃ a₄ = s.tget a₁ a₂ a₃ a₄ := rfl
@[simp] theorem State.spoil_rd : (s.spoil l).rd d v i j = s.rd d v i j := rfl
@[simp] theorem State.spoil_rdI : (s.spoil l).rdI d v i j = s.rdI d v i j := rfl
@[simp] theorem State.spoil_flag : (s.spoil l).flag d v i j = s.flag d v i j := rfl
@[simp] theorem State.spoil_tget (a₁ a₂ a₃ a₄ : Nat) : (s.spoil l).tget a₁ a₂ a₃ a₄ = s.tget a₁ a₂ a₃ a₄ := rfl
@[simp] theorem State.takeFree_rd : ((s.takeFree n).2).rd d v i j = s.rd d v i j := rfl
@[simp] theorem State.takeFree_rdI : ((s.takeFree n).2).rdI d v i j = s.rdI d v i j := rfl
@[simp] theorem State.takeFree_flag : ((s.takeFree n).2).flag d v i j = s.flag d v i j := rfl
@[simp] theorem State.takeFree_tget (a₁ a₂ a₃ a₄ : Nat) : ((s.takeFree n).2).tget a₁ a₂ a₃ a₄ = s.tget a₁ a₂ a₃ a₄ := rfl

@[simp] theorem State.emit_out : (s.emit o).out = s.out ++ [o] := rfl

@[simp] theorem State.takeFree_free : (s.takeFree n).2.free = s.free + 1 := rfl

end Sys2Proof.Machine
end

