-- ==== Sys2Proof/Laws/Regs.lean ====
section
/-! SUPPORT. Registers: a field just written reads as written, every other field is unchanged; counting events, raising interrupts and refusing accesses change registers of the page, the outputs and the pending vectors, nothing else. -/

namespace Sys2Proof.Machine

set_option Elab.async false

/-- A field just written reads the value, cut to its width. -/
@[simp] theorem State.rd_wr_same (s : State) (d : RegD) (v n i j : Nat) : (s.wr d v n i j).rd d n i j = v % 2 ^ d.w :=
  SMap.getD_set_same _ _ _ _

/-- A write of one field leaves every other field. -/
theorem State.rd_wr_ne (s : State) {d e : RegD} (v : Nat) {n i j n' i' j' : Nat} (h : e.key n' i' j' ≠ d.key n i j) :
    (s.wr d v n i j).rd e n' i' j' = s.rd e n' i' j' :=
  SMap.getD_set_ne _ _ h _ _

/-- What an event on a page can change: registers of the page's own block, the outputs, the pending vectors. -/
def PageOnly (pg : Nat) (s t : State) : Prop :=
  (∃ r o p, t = { s with regs := r, out := o, pba := p }) ∧
  ∀ (d : RegD) (n i j : Nat), (∀ off lo, off < 256 → lo < 64 → d.key n i j ≠ (pg * 65536 + off) * 64 + lo) → t.rd d n i j = s.rd d n i j

theorem PageOnly.refl (pg : Nat) (s : State) : PageOnly pg s s := ⟨⟨s.regs, s.out, s.pba, rfl⟩, fun _ _ _ _ _ => rfl⟩

theorem PageOnly.trans {pg : Nat} {s t u : State} (h : PageOnly pg s t) (k : PageOnly pg t u) : PageOnly pg s u := by
  obtain ⟨⟨r, o, p, rfl⟩, h2⟩ := h
  obtain ⟨⟨r', o', p', rfl⟩, k2⟩ := k
  exact ⟨⟨r', o', p', rfl⟩, fun d n i j hh => (k2 d n i j hh).trans (h2 d n i j hh)⟩

theorem PageOnly.foldl {α : Type} {pg : Nat} {f : State → α → State} (hf : ∀ s a, PageOnly pg s (f s a)) (l : List α) (s : State) :
    PageOnly pg s (l.foldl f s) := by
  induction l generalizing s with
  | nil => exact .refl pg s
  | cons a l ih => exact (hf s a).trans (ih _)

theorem PageOnly.ite {pg : Nat} {c : Prop} [Decidable c] {s a b : State} (ha : c → PageOnly pg s a) (hb : ¬c → PageOnly pg s b) :
    PageOnly pg s (if c then a else b) := by
  split
  · next h => exact ha h
  · next h => exact hb h

theorem PageOnly.wr (pg : Nat) (s : State) (d : RegD) (v i : Nat) (hp : d.page = 0) (h2 : d.stride2 = 0) (hi : d.base + d.stride * i < 256)
    (hl : d.lo < 64) : PageOnly pg s (s.wr d v pg i) :=
  ⟨⟨(s.wr d v pg i).regs, s.out, s.pba, rfl⟩, fun e n k j hh => State.rd_wr_ne s v (by
    have := hh (d.base + d.stride * i) d.lo hi hl
    rwa [RegD.key.eq_1 d pg i 0, hp, h2, Nat.zero_add, Nat.zero_mul, Nat.add_zero, Nat.add_assoc])⟩

theorem State.sendVec_pageOnly (pg : Nat) (s : State) (v : Nat) : PageOnly pg s (s.sendVec v) := by
  unfold State.sendVec
  split
  · exact ⟨⟨s.regs, s.out, _, rfl⟩, fun _ _ _ _ _ => rfl⟩
  · exact ⟨⟨s.regs, _, s.pba, rfl⟩, fun _ _ _ _ _ => rfl⟩

theorem State.irqBit_pageOnly (s : State) (pg b : Nat) : PageOnly pg s (s.irqBit pg b) := by
  have h := PageOnly.wr pg s PAGE_IRQ_STATUS_bits (s.rd PAGE_IRQ_STATUS_bits pg ||| 1 <<< b) 0 rfl rfl (by decide) (by decide)
  unfold State.irqBit
  exact PageOnly.ite (fun _ => h.trans (State.sendVec_pageOnly pg _ pg)) fun _ => h

/-- A pass over the eight counters. -/
theorem PageOnly.counters {pg : Nat} {c : State → Nat → Bool} {f : State → Nat → State} (hf : ∀ s k, k < 8 → PageOnly pg s (f s k)) (s : State) :
    PageOnly pg s ((List.range 8).foldl (fun s k => if c s k then f s k else s) s) := by
  have h : ∀ (l : List Nat), (∀ k ∈ l, k < 8) → ∀ s, PageOnly pg s (l.foldl (fun s k => if c s k then f s k else s) s) := by
    intro l
    induction l with
    | nil => exact fun _ s => .refl pg s
    | cons k l ih =>
      intro hl s
      rw [List.foldl_cons]
      refine .trans (.ite (fun _ => hf s k (hl k List.mem_cons_self)) fun _ => .refl pg s) (ih (fun k hk => hl k (List.mem_cons_of_mem _ hk)) _)
  exact h _ (fun k hk => List.mem_range.mp hk) s

theorem cntAdd_pageOnly (f pg i m : Nat) (s : State) (hi : i < 8) : PageOnly pg s (cntAdd f pg i m s) := by
  induction f generalizing i m s with
  | zero => exact .refl pg s
  | succ f ih =>
    have h1 := PageOnly.wr pg s PAGE_CNT_count (s.rd PAGE_CNT_count pg i + m) i rfl rfl
      (show 72 + 8 * i < 256 by omega) (by decide)
    have h2 := h1.trans (PageOnly.wr pg _ PAGE_CNT_OVF_ovf
      ((s.wr PAGE_CNT_count (s.rd PAGE_CNT_count pg i + m) pg i).rd PAGE_CNT_OVF_ovf pg ||| 1 <<< i) 0 rfl rfl (by decide) (by decide))
    rw [cntAdd]
    refine .ite (fun _ => h1) fun _ => ?_
    have h3 : ∀ {c : Prop} [Decidable c] {a : State}, PageOnly pg s a → PageOnly pg s (if c then
        (List.range 8).foldl (fun s k => if s.counts pg k (selEvent 5 none) then cntAdd f pg k 1 s else s) (a.irqBit pg 63) else a) :=
      fun h => .ite (fun _ => h.trans ((State.irqBit_pageOnly _ pg 63).trans (.counters (fun s k hk => ih k 1 s hk) _))) fun _ => h
    exact .ite (fun hc => (h3 h2).trans (ih (i + 1) 1 _ (by omega))) fun _ => h3 h2

theorem State.evCount_pageOnly (s : State) (pg : Nat) (f : Nat → Bool) (m : Nat) : PageOnly pg s (s.evCount pg f m) := by
  unfold State.evCount
  exact .ite (fun _ => .refl pg s) fun _ => .counters (fun s k hk => cntAdd_pageOnly 20 pg k m s hk) s

theorem State.event_pageOnly (s : State) (pg code : Nat) (tc : Option Nat) (m : Nat) : PageOnly pg s (s.event pg code tc m) :=
  s.evCount_pageOnly pg _ m

theorem State.irq_pageOnly (s : State) (pg b : Nat) : PageOnly pg s (s.irq pg b) :=
  (s.irqBit_pageOnly pg b).trans (State.event_pageOnly _ pg 5 none 1)

end Sys2Proof.Machine
end

