-- ==== Sys2Proof/Laws/Frame.lean ====
section
/-! SUPPORT. Counting and raising: per field of State, what a counted event, an interrupt, a count register and a refused access leave alone; the registers outside a page's own block that they leave alone. -/

namespace Sys2Proof.Machine

set_option Elab.async false

variable (s : State) (d e : RegD) (pg b n i j m cs : Nat) (f : Nat → Bool) (tc : Option Nat) (w : Bool)

/-- The key lies past the page's own block (offset 0x100 and above of its page). -/
def RegD.past (d : RegD) (n i j : Nat) : Prop := 256 ≤ d.key n i j / 64 % 65536

theorem PageOnly.rd_past {s t : State} {pg : Nat} (h : PageOnly pg s t) {d : RegD} {n i j : Nat} (k : d.past n i j) : t.rd d n i j = s.rd d n i j :=
  h.2 d n i j fun off lo h1 h2 => by unfold RegD.past at k; omega

theorem State.rd_irq (h : d.past n i j) : (s.irq pg b).rd d n i j = s.rd d n i j := (s.irq_pageOnly pg b).rd_past h

theorem State.rd_event (h : d.past n i j) : (s.event pg b tc m).rd d n i j = s.rd d n i j := (s.event_pageOnly pg b tc m).rd_past h

theorem State.rd_evCount (h : d.past n i j) : (s.evCount pg f m).rd d n i j = s.rd d n i j := (s.evCount_pageOnly pg f m).rd_past h

/-- A count register gains what is counted, modulo its width (R15). -/
theorem State.rd_cnt_same (h : d.past n i j) : (s.cnt d n i j m).rd d n i j = (s.rd d n i j + m) % 2 ^ d.w :=
  (State.rd_evCount _ _ _ _ _ _ _ _ h).trans (State.rd_wr_same _ _ _ _ _ _)

theorem State.rd_cnt_ne {n' i' j' : Nat} (h : e.past n' i' j') (k : e.key n' i' j' ≠ d.key n i j) : (s.cnt d n i j m).rd e n' i' j' = s.rd e n' i' j' :=
  (State.rd_evCount _ _ _ _ _ _ _ _ h).trans (State.rd_wr_ne _ _ k)

theorem State.cnt_eq : s.cnt d n i j m = (s.wr d (s.rd d n i j + m) n i j).evCount (d.page + n) (selMirror (d.base + d.stride * i + d.stride2 * j)) m := rfl

@[simp] theorem State.irqBit_pending : (s.irqBit pg b).pending = s.pending := by obtain ⟨⟨r, o, p, h⟩, -⟩ := s.irqBit_pageOnly pg b; rw [h]
@[simp] theorem State.irqBit_stg : (s.irqBit pg b).stg = s.stg := by obtain ⟨⟨r, o, p, h⟩, -⟩ := s.irqBit_pageOnly pg b; rw [h]
@[simp] theorem State.irqBit_tbl : (s.irqBit pg b).tbl = s.tbl := by obtain ⟨⟨r, o, p, h⟩, -⟩ := s.irqBit_pageOnly pg b; rw [h]
@[simp] theorem State.irqBit_stgT : (s.irqBit pg b).stgT = s.stgT := by obtain ⟨⟨r, o, p, h⟩, -⟩ := s.irqBit_pageOnly pg b; rw [h]
@[simp] theorem State.irqBit_bad : (s.irqBit pg b).bad = s.bad := by obtain ⟨⟨r, o, p, h⟩, -⟩ := s.irqBit_pageOnly pg b; rw [h]
@[simp] theorem State.irqBit_fclk : (s.irqBit pg b).fclk = s.fclk := by obtain ⟨⟨r, o, p, h⟩, -⟩ := s.irqBit_pageOnly pg b; rw [h]
@[simp] theorem State.irqBit_cyc : (s.irqBit pg b).cyc = s.cyc := by obtain ⟨⟨r, o, p, h⟩, -⟩ := s.irqBit_pageOnly pg b; rw [h]
@[simp] theorem State.irqBit_free : (s.irqBit pg b).free = s.free := by obtain ⟨⟨r, o, p, h⟩, -⟩ := s.irqBit_pageOnly pg b; rw [h]
@[simp] theorem State.irqBit_alive : (s.irqBit pg b).alive = s.alive := by obtain ⟨⟨r, o, p, h⟩, -⟩ := s.irqBit_pageOnly pg b; rw [h]
@[simp] theorem State.irqBit_clkOn : (s.irqBit pg b).clkOn = s.clkOn := by obtain ⟨⟨r, o, p, h⟩, -⟩ := s.irqBit_pageOnly pg b; rw [h]
@[simp] theorem State.irqBit_memSpace : (s.irqBit pg b).memSpace = s.memSpace := by obtain ⟨⟨r, o, p, h⟩, -⟩ := s.irqBit_pageOnly pg b; rw [h]
@[simp] theorem State.irqBit_busMaster : (s.irqBit pg b).busMaster = s.busMaster := by obtain ⟨⟨r, o, p, h⟩, -⟩ := s.irqBit_pageOnly pg b; rw [h]
@[simp] theorem State.irqBit_aborted : (s.irqBit pg b).aborted = s.aborted := by obtain ⟨⟨r, o, p, h⟩, -⟩ := s.irqBit_pageOnly pg b; rw [h]
@[simp] theorem State.irqBit_noFirmware : (s.irqBit pg b).noFirmware = s.noFirmware := by obtain ⟨⟨r, o, p, h⟩, -⟩ := s.irqBit_pageOnly pg b; rw [h]
@[simp] theorem State.irqBit_rbusDiv : (s.irqBit pg b).rbusDiv = s.rbusDiv := by obtain ⟨⟨r, o, p, h⟩, -⟩ := s.irqBit_pageOnly pg b; rw [h]
@[simp] theorem State.irqBit_tbusDiv : (s.irqBit pg b).tbusDiv = s.tbusDiv := by obtain ⟨⟨r, o, p, h⟩, -⟩ := s.irqBit_pageOnly pg b; rw [h]
@[simp] theorem State.irqBit_msix : (s.irqBit pg b).msix = s.msix := by obtain ⟨⟨r, o, p, h⟩, -⟩ := s.irqBit_pageOnly pg b; rw [h]
@[simp] theorem State.irqBit_tim : (s.irqBit pg b).tim = s.tim := by obtain ⟨⟨r, o, p, h⟩, -⟩ := s.irqBit_pageOnly pg b; rw [h]
@[simp] theorem State.irqBit_crn : (s.irqBit pg b).crn = s.crn := by obtain ⟨⟨r, o, p, h⟩, -⟩ := s.irqBit_pageOnly pg b; rw [h]
@[simp] theorem State.irqBit_effs : (s.irqBit pg b).effs = s.effs := by obtain ⟨⟨r, o, p, h⟩, -⟩ := s.irqBit_pageOnly pg b; rw [h]
@[simp] theorem State.irqBit_fwq : (s.irqBit pg b).fwq = s.fwq := by obtain ⟨⟨r, o, p, h⟩, -⟩ := s.irqBit_pageOnly pg b; rw [h]
@[simp] theorem State.irqBit_flights : (s.irqBit pg b).flights = s.flights := by obtain ⟨⟨r, o, p, h⟩, -⟩ := s.irqBit_pageOnly pg b; rw [h]
@[simp] theorem State.irqBit_nextId : (s.irqBit pg b).nextId = s.nextId := by obtain ⟨⟨r, o, p, h⟩, -⟩ := s.irqBit_pageOnly pg b; rw [h]
@[simp] theorem State.irqBit_xbr : (s.irqBit pg b).xbr = s.xbr := by obtain ⟨⟨r, o, p, h⟩, -⟩ := s.irqBit_pageOnly pg b; rw [h]
@[simp] theorem State.irqBit_qsh : (s.irqBit pg b).qsh = s.qsh := by obtain ⟨⟨r, o, p, h⟩, -⟩ := s.irqBit_pageOnly pg b; rw [h]
@[simp] theorem State.irqBit_pool : (s.irqBit pg b).pool = s.pool := by obtain ⟨⟨r, o, p, h⟩, -⟩ := s.irqBit_pageOnly pg b; rw [h]
@[simp] theorem State.irqBit_fwd : (s.irqBit pg b).fwd = s.fwd := by obtain ⟨⟨r, o, p, h⟩, -⟩ := s.irqBit_pageOnly pg b; rw [h]
@[simp] theorem State.irqBit_link : (s.irqBit pg b).link = s.link := by obtain ⟨⟨r, o, p, h⟩, -⟩ := s.irqBit_pageOnly pg b; rw [h]
@[simp] theorem State.irqBit_dtm : (s.irqBit pg b).dtm = s.dtm := by obtain ⟨⟨r, o, p, h⟩, -⟩ := s.irqBit_pageOnly pg b; rw [h]
@[simp] theorem State.irqBit_opt : (s.irqBit pg b).opt = s.opt := by obtain ⟨⟨r, o, p, h⟩, -⟩ := s.irqBit_pageOnly pg b; rw [h]
@[simp] theorem State.irqBit_byp : (s.irqBit pg b).byp = s.byp := by obtain ⟨⟨r, o, p, h⟩, -⟩ := s.irqBit_pageOnly pg b; rw [h]
@[simp] theorem State.irqBit_pins : (s.irqBit pg b).pins = s.pins := by obtain ⟨⟨r, o, p, h⟩, -⟩ := s.irqBit_pageOnly pg b; rw [h]
@[simp] theorem State.irqBit_pwr : (s.irqBit pg b).pwr = s.pwr := by obtain ⟨⟨r, o, p, h⟩, -⟩ := s.irqBit_pageOnly pg b; rw [h]
@[simp] theorem State.irqBit_mem : (s.irqBit pg b).mem = s.mem := by obtain ⟨⟨r, o, p, h⟩, -⟩ := s.irqBit_pageOnly pg b; rw [h]
@[simp] theorem State.irqBit_tel : (s.irqBit pg b).tel = s.tel := by obtain ⟨⟨r, o, p, h⟩, -⟩ := s.irqBit_pageOnly pg b; rw [h]
@[simp] theorem State.irqBit_ser : (s.irqBit pg b).ser = s.ser := by obtain ⟨⟨r, o, p, h⟩, -⟩ := s.irqBit_pageOnly pg b; rw [h]
@[simp] theorem State.irqBit_secu : (s.irqBit pg b).secu = s.secu := by obtain ⟨⟨r, o, p, h⟩, -⟩ := s.irqBit_pageOnly pg b; rw [h]
@[simp] theorem State.irqBit_hif : (s.irqBit pg b).hif = s.hif := by obtain ⟨⟨r, o, p, h⟩, -⟩ := s.irqBit_pageOnly pg b; rw [h]

@[simp] theorem State.evCount_pending : (s.evCount pg f m).pending = s.pending := by obtain ⟨⟨r, o, p, h⟩, -⟩ := s.evCount_pageOnly pg f m; rw [h]
@[simp] theorem State.evCount_stg : (s.evCount pg f m).stg = s.stg := by obtain ⟨⟨r, o, p, h⟩, -⟩ := s.evCount_pageOnly pg f m; rw [h]
@[simp] theorem State.evCount_tbl : (s.evCount pg f m).tbl = s.tbl := by obtain ⟨⟨r, o, p, h⟩, -⟩ := s.evCount_pageOnly pg f m; rw [h]
@[simp] theorem State.evCount_stgT : (s.evCount pg f m).stgT = s.stgT := by obtain ⟨⟨r, o, p, h⟩, -⟩ := s.evCount_pageOnly pg f m; rw [h]
@[simp] theorem State.evCount_bad : (s.evCount pg f m).bad = s.bad := by obtain ⟨⟨r, o, p, h⟩, -⟩ := s.evCount_pageOnly pg f m; rw [h]
@[simp] theorem State.evCount_fclk : (s.evCount pg f m).fclk = s.fclk := by obtain ⟨⟨r, o, p, h⟩, -⟩ := s.evCount_pageOnly pg f m; rw [h]
@[simp] theorem State.evCount_cyc : (s.evCount pg f m).cyc = s.cyc := by obtain ⟨⟨r, o, p, h⟩, -⟩ := s.evCount_pageOnly pg f m; rw [h]
@[simp] theorem State.evCount_free : (s.evCount pg f m).free = s.free := by obtain ⟨⟨r, o, p, h⟩, -⟩ := s.evCount_pageOnly pg f m; rw [h]
@[simp] theorem State.evCount_alive : (s.evCount pg f m).alive = s.alive := by obtain ⟨⟨r, o, p, h⟩, -⟩ := s.evCount_pageOnly pg f m; rw [h]
@[simp] theorem State.evCount_clkOn : (s.evCount pg f m).clkOn = s.clkOn := by obtain ⟨⟨r, o, p, h⟩, -⟩ := s.evCount_pageOnly pg f m; rw [h]
@[simp] theorem State.evCount_memSpace : (s.evCount pg f m).memSpace = s.memSpace := by obtain ⟨⟨r, o, p, h⟩, -⟩ := s.evCount_pageOnly pg f m; rw [h]
@[simp] theorem State.evCount_busMaster : (s.evCount pg f m).busMaster = s.busMaster := by obtain ⟨⟨r, o, p, h⟩, -⟩ := s.evCount_pageOnly pg f m; rw [h]
@[simp] theorem State.evCount_aborted : (s.evCount pg f m).aborted = s.aborted := by obtain ⟨⟨r, o, p, h⟩, -⟩ := s.evCount_pageOnly pg f m; rw [h]
@[simp] theorem State.evCount_noFirmware : (s.evCount pg f m).noFirmware = s.noFirmware := by obtain ⟨⟨r, o, p, h⟩, -⟩ := s.evCount_pageOnly pg f m; rw [h]
@[simp] theorem State.evCount_rbusDiv : (s.evCount pg f m).rbusDiv = s.rbusDiv := by obtain ⟨⟨r, o, p, h⟩, -⟩ := s.evCount_pageOnly pg f m; rw [h]
@[simp] theorem State.evCount_tbusDiv : (s.evCount pg f m).tbusDiv = s.tbusDiv := by obtain ⟨⟨r, o, p, h⟩, -⟩ := s.evCount_pageOnly pg f m; rw [h]
@[simp] theorem State.evCount_msix : (s.evCount pg f m).msix = s.msix := by obtain ⟨⟨r, o, p, h⟩, -⟩ := s.evCount_pageOnly pg f m; rw [h]
@[simp] theorem State.evCount_tim : (s.evCount pg f m).tim = s.tim := by obtain ⟨⟨r, o, p, h⟩, -⟩ := s.evCount_pageOnly pg f m; rw [h]
@[simp] theorem State.evCount_crn : (s.evCount pg f m).crn = s.crn := by obtain ⟨⟨r, o, p, h⟩, -⟩ := s.evCount_pageOnly pg f m; rw [h]
@[simp] theorem State.evCount_effs : (s.evCount pg f m).effs = s.effs := by obtain ⟨⟨r, o, p, h⟩, -⟩ := s.evCount_pageOnly pg f m; rw [h]
@[simp] theorem State.evCount_fwq : (s.evCount pg f m).fwq = s.fwq := by obtain ⟨⟨r, o, p, h⟩, -⟩ := s.evCount_pageOnly pg f m; rw [h]
@[simp] theorem State.evCount_flights : (s.evCount pg f m).flights = s.flights := by obtain ⟨⟨r, o, p, h⟩, -⟩ := s.evCount_pageOnly pg f m; rw [h]
@[simp] theorem State.evCount_nextId : (s.evCount pg f m).nextId = s.nextId := by obtain ⟨⟨r, o, p, h⟩, -⟩ := s.evCount_pageOnly pg f m; rw [h]
@[simp] theorem State.evCount_xbr : (s.evCount pg f m).xbr = s.xbr := by obtain ⟨⟨r, o, p, h⟩, -⟩ := s.evCount_pageOnly pg f m; rw [h]
@[simp] theorem State.evCount_qsh : (s.evCount pg f m).qsh = s.qsh := by obtain ⟨⟨r, o, p, h⟩, -⟩ := s.evCount_pageOnly pg f m; rw [h]
@[simp] theorem State.evCount_pool : (s.evCount pg f m).pool = s.pool := by obtain ⟨⟨r, o, p, h⟩, -⟩ := s.evCount_pageOnly pg f m; rw [h]
@[simp] theorem State.evCount_fwd : (s.evCount pg f m).fwd = s.fwd := by obtain ⟨⟨r, o, p, h⟩, -⟩ := s.evCount_pageOnly pg f m; rw [h]
@[simp] theorem State.evCount_link : (s.evCount pg f m).link = s.link := by obtain ⟨⟨r, o, p, h⟩, -⟩ := s.evCount_pageOnly pg f m; rw [h]
@[simp] theorem State.evCount_dtm : (s.evCount pg f m).dtm = s.dtm := by obtain ⟨⟨r, o, p, h⟩, -⟩ := s.evCount_pageOnly pg f m; rw [h]
@[simp] theorem State.evCount_opt : (s.evCount pg f m).opt = s.opt := by obtain ⟨⟨r, o, p, h⟩, -⟩ := s.evCount_pageOnly pg f m; rw [h]
@[simp] theorem State.evCount_byp : (s.evCount pg f m).byp = s.byp := by obtain ⟨⟨r, o, p, h⟩, -⟩ := s.evCount_pageOnly pg f m; rw [h]
@[simp] theorem State.evCount_pins : (s.evCount pg f m).pins = s.pins := by obtain ⟨⟨r, o, p, h⟩, -⟩ := s.evCount_pageOnly pg f m; rw [h]
@[simp] theorem State.evCount_pwr : (s.evCount pg f m).pwr = s.pwr := by obtain ⟨⟨r, o, p, h⟩, -⟩ := s.evCount_pageOnly pg f m; rw [h]
@[simp] theorem State.evCount_mem : (s.evCount pg f m).mem = s.mem := by obtain ⟨⟨r, o, p, h⟩, -⟩ := s.evCount_pageOnly pg f m; rw [h]
@[simp] theorem State.evCount_tel : (s.evCount pg f m).tel = s.tel := by obtain ⟨⟨r, o, p, h⟩, -⟩ := s.evCount_pageOnly pg f m; rw [h]
@[simp] theorem State.evCount_ser : (s.evCount pg f m).ser = s.ser := by obtain ⟨⟨r, o, p, h⟩, -⟩ := s.evCount_pageOnly pg f m; rw [h]
@[simp] theorem State.evCount_secu : (s.evCount pg f m).secu = s.secu := by obtain ⟨⟨r, o, p, h⟩, -⟩ := s.evCount_pageOnly pg f m; rw [h]
@[simp] theorem State.evCount_hif : (s.evCount pg f m).hif = s.hif := by obtain ⟨⟨r, o, p, h⟩, -⟩ := s.evCount_pageOnly pg f m; rw [h]

@[simp] theorem State.event_pending : (s.event pg b tc m).pending = s.pending := by obtain ⟨⟨r, o, p, h⟩, -⟩ := s.event_pageOnly pg b tc m; rw [h]
@[simp] theorem State.event_stg : (s.event pg b tc m).stg = s.stg := by obtain ⟨⟨r, o, p, h⟩, -⟩ := s.event_pageOnly pg b tc m; rw [h]
@[simp] theorem State.event_tbl : (s.event pg b tc m).tbl = s.tbl := by obtain ⟨⟨r, o, p, h⟩, -⟩ := s.event_pageOnly pg b tc m; rw [h]
@[simp] theorem State.event_stgT : (s.event pg b tc m).stgT = s.stgT := by obtain ⟨⟨r, o, p, h⟩, -⟩ := s.event_pageOnly pg b tc m; rw [h]
@[simp] theorem State.event_bad : (s.event pg b tc m).bad = s.bad := by obtain ⟨⟨r, o, p, h⟩, -⟩ := s.event_pageOnly pg b tc m; rw [h]
@[simp] theorem State.event_fclk : (s.event pg b tc m).fclk = s.fclk := by obtain ⟨⟨r, o, p, h⟩, -⟩ := s.event_pageOnly pg b tc m; rw [h]
@[simp] theorem State.event_cyc : (s.event pg b tc m).cyc = s.cyc := by obtain ⟨⟨r, o, p, h⟩, -⟩ := s.event_pageOnly pg b tc m; rw [h]
@[simp] theorem State.event_free : (s.event pg b tc m).free = s.free := by obtain ⟨⟨r, o, p, h⟩, -⟩ := s.event_pageOnly pg b tc m; rw [h]
@[simp] theorem State.event_alive : (s.event pg b tc m).alive = s.alive := by obtain ⟨⟨r, o, p, h⟩, -⟩ := s.event_pageOnly pg b tc m; rw [h]
@[simp] theorem State.event_clkOn : (s.event pg b tc m).clkOn = s.clkOn := by obtain ⟨⟨r, o, p, h⟩, -⟩ := s.event_pageOnly pg b tc m; rw [h]
@[simp] theorem State.event_memSpace : (s.event pg b tc m).memSpace = s.memSpace := by obtain ⟨⟨r, o, p, h⟩, -⟩ := s.event_pageOnly pg b tc m; rw [h]
@[simp] theorem State.event_busMaster : (s.event pg b tc m).busMaster = s.busMaster := by obtain ⟨⟨r, o, p, h⟩, -⟩ := s.event_pageOnly pg b tc m; rw [h]
@[simp] theorem State.event_aborted : (s.event pg b tc m).aborted = s.aborted := by obtain ⟨⟨r, o, p, h⟩, -⟩ := s.event_pageOnly pg b tc m; rw [h]
@[simp] theorem State.event_noFirmware : (s.event pg b tc m).noFirmware = s.noFirmware := by obtain ⟨⟨r, o, p, h⟩, -⟩ := s.event_pageOnly pg b tc m; rw [h]
@[simp] theorem State.event_rbusDiv : (s.event pg b tc m).rbusDiv = s.rbusDiv := by obtain ⟨⟨r, o, p, h⟩, -⟩ := s.event_pageOnly pg b tc m; rw [h]
@[simp] theorem State.event_tbusDiv : (s.event pg b tc m).tbusDiv = s.tbusDiv := by obtain ⟨⟨r, o, p, h⟩, -⟩ := s.event_pageOnly pg b tc m; rw [h]
@[simp] theorem State.event_msix : (s.event pg b tc m).msix = s.msix := by obtain ⟨⟨r, o, p, h⟩, -⟩ := s.event_pageOnly pg b tc m; rw [h]
@[simp] theorem State.event_tim : (s.event pg b tc m).tim = s.tim := by obtain ⟨⟨r, o, p, h⟩, -⟩ := s.event_pageOnly pg b tc m; rw [h]
@[simp] theorem State.event_crn : (s.event pg b tc m).crn = s.crn := by obtain ⟨⟨r, o, p, h⟩, -⟩ := s.event_pageOnly pg b tc m; rw [h]
@[simp] theorem State.event_effs : (s.event pg b tc m).effs = s.effs := by obtain ⟨⟨r, o, p, h⟩, -⟩ := s.event_pageOnly pg b tc m; rw [h]
@[simp] theorem State.event_fwq : (s.event pg b tc m).fwq = s.fwq := by obtain ⟨⟨r, o, p, h⟩, -⟩ := s.event_pageOnly pg b tc m; rw [h]
@[simp] theorem State.event_flights : (s.event pg b tc m).flights = s.flights := by obtain ⟨⟨r, o, p, h⟩, -⟩ := s.event_pageOnly pg b tc m; rw [h]
@[simp] theorem State.event_nextId : (s.event pg b tc m).nextId = s.nextId := by obtain ⟨⟨r, o, p, h⟩, -⟩ := s.event_pageOnly pg b tc m; rw [h]
@[simp] theorem State.event_xbr : (s.event pg b tc m).xbr = s.xbr := by obtain ⟨⟨r, o, p, h⟩, -⟩ := s.event_pageOnly pg b tc m; rw [h]
@[simp] theorem State.event_qsh : (s.event pg b tc m).qsh = s.qsh := by obtain ⟨⟨r, o, p, h⟩, -⟩ := s.event_pageOnly pg b tc m; rw [h]
@[simp] theorem State.event_pool : (s.event pg b tc m).pool = s.pool := by obtain ⟨⟨r, o, p, h⟩, -⟩ := s.event_pageOnly pg b tc m; rw [h]
@[simp] theorem State.event_fwd : (s.event pg b tc m).fwd = s.fwd := by obtain ⟨⟨r, o, p, h⟩, -⟩ := s.event_pageOnly pg b tc m; rw [h]
@[simp] theorem State.event_link : (s.event pg b tc m).link = s.link := by obtain ⟨⟨r, o, p, h⟩, -⟩ := s.event_pageOnly pg b tc m; rw [h]
@[simp] theorem State.event_dtm : (s.event pg b tc m).dtm = s.dtm := by obtain ⟨⟨r, o, p, h⟩, -⟩ := s.event_pageOnly pg b tc m; rw [h]
@[simp] theorem State.event_opt : (s.event pg b tc m).opt = s.opt := by obtain ⟨⟨r, o, p, h⟩, -⟩ := s.event_pageOnly pg b tc m; rw [h]
@[simp] theorem State.event_byp : (s.event pg b tc m).byp = s.byp := by obtain ⟨⟨r, o, p, h⟩, -⟩ := s.event_pageOnly pg b tc m; rw [h]
@[simp] theorem State.event_pins : (s.event pg b tc m).pins = s.pins := by obtain ⟨⟨r, o, p, h⟩, -⟩ := s.event_pageOnly pg b tc m; rw [h]
@[simp] theorem State.event_pwr : (s.event pg b tc m).pwr = s.pwr := by obtain ⟨⟨r, o, p, h⟩, -⟩ := s.event_pageOnly pg b tc m; rw [h]
@[simp] theorem State.event_mem : (s.event pg b tc m).mem = s.mem := by obtain ⟨⟨r, o, p, h⟩, -⟩ := s.event_pageOnly pg b tc m; rw [h]
@[simp] theorem State.event_tel : (s.event pg b tc m).tel = s.tel := by obtain ⟨⟨r, o, p, h⟩, -⟩ := s.event_pageOnly pg b tc m; rw [h]
@[simp] theorem State.event_ser : (s.event pg b tc m).ser = s.ser := by obtain ⟨⟨r, o, p, h⟩, -⟩ := s.event_pageOnly pg b tc m; rw [h]
@[simp] theorem State.event_secu : (s.event pg b tc m).secu = s.secu := by obtain ⟨⟨r, o, p, h⟩, -⟩ := s.event_pageOnly pg b tc m; rw [h]
@[simp] theorem State.event_hif : (s.event pg b tc m).hif = s.hif := by obtain ⟨⟨r, o, p, h⟩, -⟩ := s.event_pageOnly pg b tc m; rw [h]

@[simp] theorem State.irq_pending : (s.irq pg b).pending = s.pending := by obtain ⟨⟨r, o, p, h⟩, -⟩ := s.irq_pageOnly pg b; rw [h]
@[simp] theorem State.irq_stg : (s.irq pg b).stg = s.stg := by obtain ⟨⟨r, o, p, h⟩, -⟩ := s.irq_pageOnly pg b; rw [h]
@[simp] theorem State.irq_tbl : (s.irq pg b).tbl = s.tbl := by obtain ⟨⟨r, o, p, h⟩, -⟩ := s.irq_pageOnly pg b; rw [h]
@[simp] theorem State.irq_stgT : (s.irq pg b).stgT = s.stgT := by obtain ⟨⟨r, o, p, h⟩, -⟩ := s.irq_pageOnly pg b; rw [h]
@[simp] theorem State.irq_bad : (s.irq pg b).bad = s.bad := by obtain ⟨⟨r, o, p, h⟩, -⟩ := s.irq_pageOnly pg b; rw [h]
@[simp] theorem State.irq_fclk : (s.irq pg b).fclk = s.fclk := by obtain ⟨⟨r, o, p, h⟩, -⟩ := s.irq_pageOnly pg b; rw [h]
@[simp] theorem State.irq_cyc : (s.irq pg b).cyc = s.cyc := by obtain ⟨⟨r, o, p, h⟩, -⟩ := s.irq_pageOnly pg b; rw [h]
@[simp] theorem State.irq_free : (s.irq pg b).free = s.free := by obtain ⟨⟨r, o, p, h⟩, -⟩ := s.irq_pageOnly pg b; rw [h]
@[simp] theorem State.irq_alive : (s.irq pg b).alive = s.alive := by obtain ⟨⟨r, o, p, h⟩, -⟩ := s.irq_pageOnly pg b; rw [h]
@[simp] theorem State.irq_clkOn : (s.irq pg b).clkOn = s.clkOn := by obtain ⟨⟨r, o, p, h⟩, -⟩ := s.irq_pageOnly pg b; rw [h]
@[simp] theorem State.irq_memSpace : (s.irq pg b).memSpace = s.memSpace := by obtain ⟨⟨r, o, p, h⟩, -⟩ := s.irq_pageOnly pg b; rw [h]
@[simp] theorem State.irq_busMaster : (s.irq pg b).busMaster = s.busMaster := by obtain ⟨⟨r, o, p, h⟩, -⟩ := s.irq_pageOnly pg b; rw [h]
@[simp] theorem State.irq_aborted : (s.irq pg b).aborted = s.aborted := by obtain ⟨⟨r, o, p, h⟩, -⟩ := s.irq_pageOnly pg b; rw [h]
@[simp] theorem State.irq_noFirmware : (s.irq pg b).noFirmware = s.noFirmware := by obtain ⟨⟨r, o, p, h⟩, -⟩ := s.irq_pageOnly pg b; rw [h]
@[simp] theorem State.irq_rbusDiv : (s.irq pg b).rbusDiv = s.rbusDiv := by obtain ⟨⟨r, o, p, h⟩, -⟩ := s.irq_pageOnly pg b; rw [h]
@[simp] theorem State.irq_tbusDiv : (s.irq pg b).tbusDiv = s.tbusDiv := by obtain ⟨⟨r, o, p, h⟩, -⟩ := s.irq_pageOnly pg b; rw [h]
@[simp] theorem State.irq_msix : (s.irq pg b).msix = s.msix := by obtain ⟨⟨r, o, p, h⟩, -⟩ := s.irq_pageOnly pg b; rw [h]
@[simp] theorem State.irq_tim : (s.irq pg b).tim = s.tim := by obtain ⟨⟨r, o, p, h⟩, -⟩ := s.irq_pageOnly pg b; rw [h]
@[simp] theorem State.irq_crn : (s.irq pg b).crn = s.crn := by obtain ⟨⟨r, o, p, h⟩, -⟩ := s.irq_pageOnly pg b; rw [h]
@[simp] theorem State.irq_effs : (s.irq pg b).effs = s.effs := by obtain ⟨⟨r, o, p, h⟩, -⟩ := s.irq_pageOnly pg b; rw [h]
@[simp] theorem State.irq_fwq : (s.irq pg b).fwq = s.fwq := by obtain ⟨⟨r, o, p, h⟩, -⟩ := s.irq_pageOnly pg b; rw [h]
@[simp] theorem State.irq_flights : (s.irq pg b).flights = s.flights := by obtain ⟨⟨r, o, p, h⟩, -⟩ := s.irq_pageOnly pg b; rw [h]
@[simp] theorem State.irq_nextId : (s.irq pg b).nextId = s.nextId := by obtain ⟨⟨r, o, p, h⟩, -⟩ := s.irq_pageOnly pg b; rw [h]
@[simp] theorem State.irq_xbr : (s.irq pg b).xbr = s.xbr := by obtain ⟨⟨r, o, p, h⟩, -⟩ := s.irq_pageOnly pg b; rw [h]
@[simp] theorem State.irq_qsh : (s.irq pg b).qsh = s.qsh := by obtain ⟨⟨r, o, p, h⟩, -⟩ := s.irq_pageOnly pg b; rw [h]
@[simp] theorem State.irq_pool : (s.irq pg b).pool = s.pool := by obtain ⟨⟨r, o, p, h⟩, -⟩ := s.irq_pageOnly pg b; rw [h]
@[simp] theorem State.irq_fwd : (s.irq pg b).fwd = s.fwd := by obtain ⟨⟨r, o, p, h⟩, -⟩ := s.irq_pageOnly pg b; rw [h]
@[simp] theorem State.irq_link : (s.irq pg b).link = s.link := by obtain ⟨⟨r, o, p, h⟩, -⟩ := s.irq_pageOnly pg b; rw [h]
@[simp] theorem State.irq_dtm : (s.irq pg b).dtm = s.dtm := by obtain ⟨⟨r, o, p, h⟩, -⟩ := s.irq_pageOnly pg b; rw [h]
@[simp] theorem State.irq_opt : (s.irq pg b).opt = s.opt := by obtain ⟨⟨r, o, p, h⟩, -⟩ := s.irq_pageOnly pg b; rw [h]
@[simp] theorem State.irq_byp : (s.irq pg b).byp = s.byp := by obtain ⟨⟨r, o, p, h⟩, -⟩ := s.irq_pageOnly pg b; rw [h]
@[simp] theorem State.irq_pins : (s.irq pg b).pins = s.pins := by obtain ⟨⟨r, o, p, h⟩, -⟩ := s.irq_pageOnly pg b; rw [h]
@[simp] theorem State.irq_pwr : (s.irq pg b).pwr = s.pwr := by obtain ⟨⟨r, o, p, h⟩, -⟩ := s.irq_pageOnly pg b; rw [h]
@[simp] theorem State.irq_mem : (s.irq pg b).mem = s.mem := by obtain ⟨⟨r, o, p, h⟩, -⟩ := s.irq_pageOnly pg b; rw [h]
@[simp] theorem State.irq_tel : (s.irq pg b).tel = s.tel := by obtain ⟨⟨r, o, p, h⟩, -⟩ := s.irq_pageOnly pg b; rw [h]
@[simp] theorem State.irq_ser : (s.irq pg b).ser = s.ser := by obtain ⟨⟨r, o, p, h⟩, -⟩ := s.irq_pageOnly pg b; rw [h]
@[simp] theorem State.irq_secu : (s.irq pg b).secu = s.secu := by obtain ⟨⟨r, o, p, h⟩, -⟩ := s.irq_pageOnly pg b; rw [h]
@[simp] theorem State.irq_hif : (s.irq pg b).hif = s.hif := by obtain ⟨⟨r, o, p, h⟩, -⟩ := s.irq_pageOnly pg b; rw [h]

@[simp] theorem State.cnt_pending : (s.cnt d n i j m).pending = s.pending := by rw [State.cnt_eq, State.evCount_pending, State.wr_pending]
@[simp] theorem State.cnt_stg : (s.cnt d n i j m).stg = s.stg := by rw [State.cnt_eq, State.evCount_stg, State.wr_stg]
@[simp] theorem State.cnt_tbl : (s.cnt d n i j m).tbl = s.tbl := by rw [State.cnt_eq, State.evCount_tbl, State.wr_tbl]
@[simp] theorem State.cnt_stgT : (s.cnt d n i j m).stgT = s.stgT := by rw [State.cnt_eq, State.evCount_stgT, State.wr_stgT]
@[simp] theorem State.cnt_bad : (s.cnt d n i j m).bad = s.bad := by rw [State.cnt_eq, State.evCount_bad, State.wr_bad]
@[simp] theorem State.cnt_fclk : (s.cnt d n i j m).fclk = s.fclk := by rw [State.cnt_eq, State.evCount_fclk, State.wr_fclk]
@[simp] theorem State.cnt_cyc : (s.cnt d n i j m).cyc = s.cyc := by rw [State.cnt_eq, State.evCount_cyc, State.wr_cyc]
@[simp] theorem State.cnt_free : (s.cnt d n i j m).free = s.free := by rw [State.cnt_eq, State.evCount_free, State.wr_free]
@[simp] theorem State.cnt_alive : (s.cnt d n i j m).alive = s.alive := by rw [State.cnt_eq, State.evCount_alive, State.wr_alive]
@[simp] theorem State.cnt_clkOn : (s.cnt d n i j m).clkOn = s.clkOn := by rw [State.cnt_eq, State.evCount_clkOn, State.wr_clkOn]
@[simp] theorem State.cnt_memSpace : (s.cnt d n i j m).memSpace = s.memSpace := by rw [State.cnt_eq, State.evCount_memSpace, State.wr_memSpace]
@[simp] theorem State.cnt_busMaster : (s.cnt d n i j m).busMaster = s.busMaster := by rw [State.cnt_eq, State.evCount_busMaster, State.wr_busMaster]
@[simp] theorem State.cnt_aborted : (s.cnt d n i j m).aborted = s.aborted := by rw [State.cnt_eq, State.evCount_aborted, State.wr_aborted]
@[simp] theorem State.cnt_noFirmware : (s.cnt d n i j m).noFirmware = s.noFirmware := by rw [State.cnt_eq, State.evCount_noFirmware, State.wr_noFirmware]
@[simp] theorem State.cnt_rbusDiv : (s.cnt d n i j m).rbusDiv = s.rbusDiv := by rw [State.cnt_eq, State.evCount_rbusDiv, State.wr_rbusDiv]
@[simp] theorem State.cnt_tbusDiv : (s.cnt d n i j m).tbusDiv = s.tbusDiv := by rw [State.cnt_eq, State.evCount_tbusDiv, State.wr_tbusDiv]
@[simp] theorem State.cnt_msix : (s.cnt d n i j m).msix = s.msix := by rw [State.cnt_eq, State.evCount_msix, State.wr_msix]
@[simp] theorem State.cnt_tim : (s.cnt d n i j m).tim = s.tim := by rw [State.cnt_eq, State.evCount_tim, State.wr_tim]
@[simp] theorem State.cnt_crn : (s.cnt d n i j m).crn = s.crn := by rw [State.cnt_eq, State.evCount_crn, State.wr_crn]
@[simp] theorem State.cnt_effs : (s.cnt d n i j m).effs = s.effs := by rw [State.cnt_eq, State.evCount_effs, State.wr_effs]
@[simp] theorem State.cnt_fwq : (s.cnt d n i j m).fwq = s.fwq := by rw [State.cnt_eq, State.evCount_fwq, State.wr_fwq]
@[simp] theorem State.cnt_flights : (s.cnt d n i j m).flights = s.flights := by rw [State.cnt_eq, State.evCount_flights, State.wr_flights]
@[simp] theorem State.cnt_nextId : (s.cnt d n i j m).nextId = s.nextId := by rw [State.cnt_eq, State.evCount_nextId, State.wr_nextId]
@[simp] theorem State.cnt_xbr : (s.cnt d n i j m).xbr = s.xbr := by rw [State.cnt_eq, State.evCount_xbr, State.wr_xbr]
@[simp] theorem State.cnt_qsh : (s.cnt d n i j m).qsh = s.qsh := by rw [State.cnt_eq, State.evCount_qsh, State.wr_qsh]
@[simp] theorem State.cnt_pool : (s.cnt d n i j m).pool = s.pool := by rw [State.cnt_eq, State.evCount_pool, State.wr_pool]
@[simp] theorem State.cnt_fwd : (s.cnt d n i j m).fwd = s.fwd := by rw [State.cnt_eq, State.evCount_fwd, State.wr_fwd]
@[simp] theorem State.cnt_link : (s.cnt d n i j m).link = s.link := by rw [State.cnt_eq, State.evCount_link, State.wr_link]
@[simp] theorem State.cnt_dtm : (s.cnt d n i j m).dtm = s.dtm := by rw [State.cnt_eq, State.evCount_dtm, State.wr_dtm]
@[simp] theorem State.cnt_opt : (s.cnt d n i j m).opt = s.opt := by rw [State.cnt_eq, State.evCount_opt, State.wr_opt]
@[simp] theorem State.cnt_byp : (s.cnt d n i j m).byp = s.byp := by rw [State.cnt_eq, State.evCount_byp, State.wr_byp]
@[simp] theorem State.cnt_pins : (s.cnt d n i j m).pins = s.pins := by rw [State.cnt_eq, State.evCount_pins, State.wr_pins]
@[simp] theorem State.cnt_pwr : (s.cnt d n i j m).pwr = s.pwr := by rw [State.cnt_eq, State.evCount_pwr, State.wr_pwr]
@[simp] theorem State.cnt_mem : (s.cnt d n i j m).mem = s.mem := by rw [State.cnt_eq, State.evCount_mem, State.wr_mem]
@[simp] theorem State.cnt_tel : (s.cnt d n i j m).tel = s.tel := by rw [State.cnt_eq, State.evCount_tel, State.wr_tel]
@[simp] theorem State.cnt_ser : (s.cnt d n i j m).ser = s.ser := by rw [State.cnt_eq, State.evCount_ser, State.wr_ser]
@[simp] theorem State.cnt_secu : (s.cnt d n i j m).secu = s.secu := by rw [State.cnt_eq, State.evCount_secu, State.wr_secu]
@[simp] theorem State.cnt_hif : (s.cnt d n i j m).hif = s.hif := by rw [State.cnt_eq, State.evCount_hif, State.wr_hif]

@[simp] theorem State.cntSat_pending : (s.cntSat d n i j m).pending = s.pending := by unfold State.cntSat; rw [State.evCount_pending, State.wr_pending]
@[simp] theorem State.cntSat_stg : (s.cntSat d n i j m).stg = s.stg := by unfold State.cntSat; rw [State.evCount_stg, State.wr_stg]
@[simp] theorem State.cntSat_tbl : (s.cntSat d n i j m).tbl = s.tbl := by unfold State.cntSat; rw [State.evCount_tbl, State.wr_tbl]
@[simp] theorem State.cntSat_stgT : (s.cntSat d n i j m).stgT = s.stgT := by unfold State.cntSat; rw [State.evCount_stgT, State.wr_stgT]
@[simp] theorem State.cntSat_bad : (s.cntSat d n i j m).bad = s.bad := by unfold State.cntSat; rw [State.evCount_bad, State.wr_bad]
@[simp] theorem State.cntSat_fclk : (s.cntSat d n i j m).fclk = s.fclk := by unfold State.cntSat; rw [State.evCount_fclk, State.wr_fclk]
@[simp] theorem State.cntSat_cyc : (s.cntSat d n i j m).cyc = s.cyc := by unfold State.cntSat; rw [State.evCount_cyc, State.wr_cyc]
@[simp] theorem State.cntSat_free : (s.cntSat d n i j m).free = s.free := by unfold State.cntSat; rw [State.evCount_free, State.wr_free]
@[simp] theorem State.cntSat_alive : (s.cntSat d n i j m).alive = s.alive := by unfold State.cntSat; rw [State.evCount_alive, State.wr_alive]
@[simp] theorem State.cntSat_clkOn : (s.cntSat d n i j m).clkOn = s.clkOn := by unfold State.cntSat; rw [State.evCount_clkOn, State.wr_clkOn]
@[simp] theorem State.cntSat_memSpace : (s.cntSat d n i j m).memSpace = s.memSpace := by unfold State.cntSat; rw [State.evCount_memSpace, State.wr_memSpace]
@[simp] theorem State.cntSat_busMaster : (s.cntSat d n i j m).busMaster = s.busMaster := by unfold State.cntSat; rw [State.evCount_busMaster, State.wr_busMaster]
@[simp] theorem State.cntSat_aborted : (s.cntSat d n i j m).aborted = s.aborted := by unfold State.cntSat; rw [State.evCount_aborted, State.wr_aborted]
@[simp] theorem State.cntSat_noFirmware : (s.cntSat d n i j m).noFirmware = s.noFirmware := by unfold State.cntSat; rw [State.evCount_noFirmware, State.wr_noFirmware]
@[simp] theorem State.cntSat_rbusDiv : (s.cntSat d n i j m).rbusDiv = s.rbusDiv := by unfold State.cntSat; rw [State.evCount_rbusDiv, State.wr_rbusDiv]
@[simp] theorem State.cntSat_tbusDiv : (s.cntSat d n i j m).tbusDiv = s.tbusDiv := by unfold State.cntSat; rw [State.evCount_tbusDiv, State.wr_tbusDiv]
@[simp] theorem State.cntSat_msix : (s.cntSat d n i j m).msix = s.msix := by unfold State.cntSat; rw [State.evCount_msix, State.wr_msix]
@[simp] theorem State.cntSat_tim : (s.cntSat d n i j m).tim = s.tim := by unfold State.cntSat; rw [State.evCount_tim, State.wr_tim]
@[simp] theorem State.cntSat_crn : (s.cntSat d n i j m).crn = s.crn := by unfold State.cntSat; rw [State.evCount_crn, State.wr_crn]
@[simp] theorem State.cntSat_effs : (s.cntSat d n i j m).effs = s.effs := by unfold State.cntSat; rw [State.evCount_effs, State.wr_effs]
@[simp] theorem State.cntSat_fwq : (s.cntSat d n i j m).fwq = s.fwq := by unfold State.cntSat; rw [State.evCount_fwq, State.wr_fwq]
@[simp] theorem State.cntSat_flights : (s.cntSat d n i j m).flights = s.flights := by unfold State.cntSat; rw [State.evCount_flights, State.wr_flights]
@[simp] theorem State.cntSat_nextId : (s.cntSat d n i j m).nextId = s.nextId := by unfold State.cntSat; rw [State.evCount_nextId, State.wr_nextId]
@[simp] theorem State.cntSat_xbr : (s.cntSat d n i j m).xbr = s.xbr := by unfold State.cntSat; rw [State.evCount_xbr, State.wr_xbr]
@[simp] theorem State.cntSat_qsh : (s.cntSat d n i j m).qsh = s.qsh := by unfold State.cntSat; rw [State.evCount_qsh, State.wr_qsh]
@[simp] theorem State.cntSat_pool : (s.cntSat d n i j m).pool = s.pool := by unfold State.cntSat; rw [State.evCount_pool, State.wr_pool]
@[simp] theorem State.cntSat_fwd : (s.cntSat d n i j m).fwd = s.fwd := by unfold State.cntSat; rw [State.evCount_fwd, State.wr_fwd]
@[simp] theorem State.cntSat_link : (s.cntSat d n i j m).link = s.link := by unfold State.cntSat; rw [State.evCount_link, State.wr_link]
@[simp] theorem State.cntSat_dtm : (s.cntSat d n i j m).dtm = s.dtm := by unfold State.cntSat; rw [State.evCount_dtm, State.wr_dtm]
@[simp] theorem State.cntSat_opt : (s.cntSat d n i j m).opt = s.opt := by unfold State.cntSat; rw [State.evCount_opt, State.wr_opt]
@[simp] theorem State.cntSat_byp : (s.cntSat d n i j m).byp = s.byp := by unfold State.cntSat; rw [State.evCount_byp, State.wr_byp]
@[simp] theorem State.cntSat_pins : (s.cntSat d n i j m).pins = s.pins := by unfold State.cntSat; rw [State.evCount_pins, State.wr_pins]
@[simp] theorem State.cntSat_pwr : (s.cntSat d n i j m).pwr = s.pwr := by unfold State.cntSat; rw [State.evCount_pwr, State.wr_pwr]
@[simp] theorem State.cntSat_mem : (s.cntSat d n i j m).mem = s.mem := by unfold State.cntSat; rw [State.evCount_mem, State.wr_mem]
@[simp] theorem State.cntSat_tel : (s.cntSat d n i j m).tel = s.tel := by unfold State.cntSat; rw [State.evCount_tel, State.wr_tel]
@[simp] theorem State.cntSat_ser : (s.cntSat d n i j m).ser = s.ser := by unfold State.cntSat; rw [State.evCount_ser, State.wr_ser]
@[simp] theorem State.cntSat_secu : (s.cntSat d n i j m).secu = s.secu := by unfold State.cntSat; rw [State.evCount_secu, State.wr_secu]
@[simp] theorem State.cntSat_hif : (s.cntSat d n i j m).hif = s.hif := by unfold State.cntSat; rw [State.evCount_hif, State.wr_hif]

@[simp] theorem State.refuseAccess_pending : (s.refuseAccess pg b w cs).pending = s.pending := by simp [State.refuseAccess]
@[simp] theorem State.refuseAccess_stg : (s.refuseAccess pg b w cs).stg = s.stg := by simp [State.refuseAccess]
@[simp] theorem State.refuseAccess_tbl : (s.refuseAccess pg b w cs).tbl = s.tbl := by simp [State.refuseAccess]
@[simp] theorem State.refuseAccess_stgT : (s.refuseAccess pg b w cs).stgT = s.stgT := by simp [State.refuseAccess]
@[simp] theorem State.refuseAccess_bad : (s.refuseAccess pg b w cs).bad = s.bad := by simp [State.refuseAccess]
@[simp] theorem State.refuseAccess_fclk : (s.refuseAccess pg b w cs).fclk = s.fclk := by simp [State.refuseAccess]
@[simp] theorem State.refuseAccess_cyc : (s.refuseAccess pg b w cs).cyc = s.cyc := by simp [State.refuseAccess]
@[simp] theorem State.refuseAccess_free : (s.refuseAccess pg b w cs).free = s.free := by simp [State.refuseAccess]
@[simp] theorem State.refuseAccess_alive : (s.refuseAccess pg b w cs).alive = s.alive := by simp [State.refuseAccess]
@[simp] theorem State.refuseAccess_clkOn : (s.refuseAccess pg b w cs).clkOn = s.clkOn := by simp [State.refuseAccess]
@[simp] theorem State.refuseAccess_memSpace : (s.refuseAccess pg b w cs).memSpace = s.memSpace := by simp [State.refuseAccess]
@[simp] theorem State.refuseAccess_busMaster : (s.refuseAccess pg b w cs).busMaster = s.busMaster := by simp [State.refuseAccess]
@[simp] theorem State.refuseAccess_aborted : (s.refuseAccess pg b w cs).aborted = s.aborted := by simp [State.refuseAccess]
@[simp] theorem State.refuseAccess_noFirmware : (s.refuseAccess pg b w cs).noFirmware = s.noFirmware := by simp [State.refuseAccess]
@[simp] theorem State.refuseAccess_rbusDiv : (s.refuseAccess pg b w cs).rbusDiv = s.rbusDiv := by simp [State.refuseAccess]
@[simp] theorem State.refuseAccess_tbusDiv : (s.refuseAccess pg b w cs).tbusDiv = s.tbusDiv := by simp [State.refuseAccess]
@[simp] theorem State.refuseAccess_msix : (s.refuseAccess pg b w cs).msix = s.msix := by simp [State.refuseAccess]
@[simp] theorem State.refuseAccess_tim : (s.refuseAccess pg b w cs).tim = s.tim := by simp [State.refuseAccess]
@[simp] theorem State.refuseAccess_crn : (s.refuseAccess pg b w cs).crn = s.crn := by simp [State.refuseAccess]
@[simp] theorem State.refuseAccess_effs : (s.refuseAccess pg b w cs).effs = s.effs := by simp [State.refuseAccess]
@[simp] theorem State.refuseAccess_fwq : (s.refuseAccess pg b w cs).fwq = s.fwq := by simp [State.refuseAccess]
@[simp] theorem State.refuseAccess_flights : (s.refuseAccess pg b w cs).flights = s.flights := by simp [State.refuseAccess]
@[simp] theorem State.refuseAccess_nextId : (s.refuseAccess pg b w cs).nextId = s.nextId := by simp [State.refuseAccess]
@[simp] theorem State.refuseAccess_xbr : (s.refuseAccess pg b w cs).xbr = s.xbr := by simp [State.refuseAccess]
@[simp] theorem State.refuseAccess_qsh : (s.refuseAccess pg b w cs).qsh = s.qsh := by simp [State.refuseAccess]
@[simp] theorem State.refuseAccess_pool : (s.refuseAccess pg b w cs).pool = s.pool := by simp [State.refuseAccess]
@[simp] theorem State.refuseAccess_fwd : (s.refuseAccess pg b w cs).fwd = s.fwd := by simp [State.refuseAccess]
@[simp] theorem State.refuseAccess_link : (s.refuseAccess pg b w cs).link = s.link := by simp [State.refuseAccess]
@[simp] theorem State.refuseAccess_dtm : (s.refuseAccess pg b w cs).dtm = s.dtm := by simp [State.refuseAccess]
@[simp] theorem State.refuseAccess_opt : (s.refuseAccess pg b w cs).opt = s.opt := by simp [State.refuseAccess]
@[simp] theorem State.refuseAccess_byp : (s.refuseAccess pg b w cs).byp = s.byp := by simp [State.refuseAccess]
@[simp] theorem State.refuseAccess_pins : (s.refuseAccess pg b w cs).pins = s.pins := by simp [State.refuseAccess]
@[simp] theorem State.refuseAccess_pwr : (s.refuseAccess pg b w cs).pwr = s.pwr := by simp [State.refuseAccess]
@[simp] theorem State.refuseAccess_mem : (s.refuseAccess pg b w cs).mem = s.mem := by simp [State.refuseAccess]
@[simp] theorem State.refuseAccess_tel : (s.refuseAccess pg b w cs).tel = s.tel := by simp [State.refuseAccess]
@[simp] theorem State.refuseAccess_ser : (s.refuseAccess pg b w cs).ser = s.ser := by simp [State.refuseAccess]
@[simp] theorem State.refuseAccess_secu : (s.refuseAccess pg b w cs).secu = s.secu := by simp [State.refuseAccess]
@[simp] theorem State.refuseAccess_hif : (s.refuseAccess pg b w cs).hif = s.hif := by simp [State.refuseAccess]

/-! Host accesses. -/

/-- A served write of a register other than PAGE_IRQ_STATUS and PAGE_CNT_OVF takes effect after it has been counted (event 0x04, R490). -/
theorem State.writeServed_eq {pg off : Nat} {g : State → State} (h1 : off ≠ 0x18 := by omega) (h2 : off ≠ 0xA0 := by omega) :
    s.writeServed pg off g = g (s.event pg 4) := by simp [State.writeServed, h1, h2]

/-- A host write that is answered and not refused runs its effect after it has been counted. -/
theorem hostWrite_served {s : State} {pg off : Nat} {g : State → State} (h : s.alive = true) (hm : s.memSpace = true) (hb : s.busOk = true)
    (hc : s.accessCause pg off = none) (h1 : off ≠ 0x18 := by omega) (h2 : off ≠ 0xA0 := by omega) : hostWrite s pg off g = .next (g (s.event pg 4)) := by
  simp [hostWrite, hostAct, State.access, h, hm, hb, hc, State.writeServed_eq s h1 h2]

theorem hostRead_served {s : State} {pg off : Nat} {g : State → State} (h : s.alive = true) (hm : s.memSpace = true) (hb : s.busOk = true)
    (hc : s.accessCause pg off = none) : hostRead s pg off g = .next (g (s.event pg 4)) := by
  simp [hostRead, hostAct, h, hm, hb, hc]

/-- A step of the module itself, while its clocks run. -/
theorem act_alive {s t : State} (h : s.alive = true) : act s t = .next t := by simp [act, h]

/-- While its clocks are stopped a step of the module changes nothing. -/
theorem act_dead {s t : State} (h : s.alive = false) : act s t = .next s := by simp [act, h]

theorem hostAct_dead {s t : State} (h : s.alive = false) : hostAct s t = .next s := by simp [hostAct, h]

end Sys2Proof.Machine
end

