-- ==== Sys2Proof/Laws/Irq.lean ====
section
/-! SUPPORT. A raised interrupt bit stays: raising sets the bit, and counting never clears one. -/

namespace Sys2Proof.Machine

set_option Elab.async false

theorem bit_testBit (v b : Nat) : bit v b = v.testBit b := by
  simp [bit, fld, Nat.testBit, Nat.shiftRight_eq_div_pow]; rfl

theorem bit_or (v w b : Nat) : bit (v ||| w) b = (bit v b || bit w b) := by simp [bit_testBit]

theorem bit_pow_self (b : Nat) : bit (1 <<< b) b = true := by simp [bit_testBit, Nat.shiftLeft_eq]

theorem bit_mod {v w b : Nat} (h : b < w) : bit (v % 2 ^ w) b = bit v b := by simp [bit_testBit, Nat.testBit_mod_two_pow, h]

theorem status_sendVec (s : State) (v pg : Nat) : (s.sendVec v).rd PAGE_IRQ_STATUS_bits pg = s.rd PAGE_IRQ_STATUS_bits pg := by
  unfold State.sendVec; split <;> rfl

/-- Setting a status bit: the page's status gains it and keeps the others. -/
theorem status_irqBit (s : State) (pg b : Nat) : (s.irqBit pg b).rd PAGE_IRQ_STATUS_bits pg = (s.rd PAGE_IRQ_STATUS_bits pg ||| 1 <<< b) % 2 ^ 64 := by
  unfold State.irqBit; dsimp only; split
  · rw [status_sendVec, State.rd_wr_same]; rfl
  · rw [State.rd_wr_same]; rfl

theorem bit_irqBit {s : State} {pg c b : Nat} (hb : b < 64) (h : bit (s.rd PAGE_IRQ_STATUS_bits pg) b = true) :
    bit ((s.irqBit pg c).rd PAGE_IRQ_STATUS_bits pg) b = true := by
  rw [status_irqBit, bit_mod hb, bit_or, h]; rfl

theorem bit_cntAdd {pg b : Nat} (hb : b < 64) (f i m : Nat) {s : State} (h : bit (s.rd PAGE_IRQ_STATUS_bits pg) b = true) :
    bit ((cntAdd f pg i m s).rd PAGE_IRQ_STATUS_bits pg) b = true := by
  induction f generalizing i m s with
  | zero => exact h
  | succ f ih =>
    have fold : ∀ (l : List Nat) (t : State), bit (t.rd PAGE_IRQ_STATUS_bits pg) b = true →
        bit ((l.foldl (fun s k => if s.counts pg k (selEvent 5 none) then cntAdd f pg k 1 s else s) t).rd PAGE_IRQ_STATUS_bits pg) b = true := by
      intro l
      induction l with
      | nil => exact fun _ h => h
      | cons x l il =>
        intro t ht; rw [List.foldl_cons]; apply il; split
        · exact ih _ _ ht
        · exact ht
    have w1 : ∀ (t : State) (v : Nat), (t.wr PAGE_CNT_count v pg i).rd PAGE_IRQ_STATUS_bits pg = t.rd PAGE_IRQ_STATUS_bits pg := fun t v =>
      State.rd_wr_ne _ _ (by simp [RegD.key, PAGE_CNT_count, PAGE_IRQ_STATUS_bits] <;> omega)
    have w2 : ∀ (t : State) (v : Nat), (t.wr PAGE_CNT_OVF_ovf v pg).rd PAGE_IRQ_STATUS_bits pg = t.rd PAGE_IRQ_STATUS_bits pg := fun t v =>
      State.rd_wr_ne _ _ (by simp [RegD.key, PAGE_CNT_OVF_ovf, PAGE_IRQ_STATUS_bits] <;> omega)
    simp only [cntAdd]
    split
    · rw [w1]; exact h
    · generalize hu : ((s.wr PAGE_CNT_count (s.rd PAGE_CNT_count pg i + m) pg i).wr PAGE_CNT_OVF_ovf _ pg) = u
      have hu' : bit (u.rd PAGE_IRQ_STATUS_bits pg) b = true := by rw [← hu, w2, w1]; exact h
      split
      · split
        · exact ih _ _ (fold _ _ (bit_irqBit hb hu'))
        · exact fold _ _ (bit_irqBit hb hu')
      · split
        · exact ih _ _ hu'
        · exact hu'

/-- Counting never clears a status bit. -/
theorem bit_evCount {s : State} {pg b : Nat} (f : Nat → Bool) (m : Nat) (hb : b < 64) (h : bit (s.rd PAGE_IRQ_STATUS_bits pg) b = true) :
    bit ((s.evCount pg f m).rd PAGE_IRQ_STATUS_bits pg) b = true := by
  unfold State.evCount
  split
  · exact h
  · have : ∀ (l : List Nat) (t : State), bit (t.rd PAGE_IRQ_STATUS_bits pg) b = true →
        bit ((l.foldl (fun s k => if s.counts pg k f then cntAdd 20 pg k m s else s) t).rd PAGE_IRQ_STATUS_bits pg) b = true := by
      intro l
      induction l with
      | nil => exact fun _ h => h
      | cons x l il =>
        intro t ht; rw [List.foldl_cons]; apply il; split
        · exact bit_cntAdd hb _ _ _ ht
        · exact ht
    exact this _ _ h

/-- A raised bit stands after it has been raised and counted. -/
theorem bit_irq (s : State) (pg : Nat) {b : Nat} (hb : b < 64) : bit ((s.irq pg b).rd PAGE_IRQ_STATUS_bits pg) b = true := by
  unfold State.irq State.event
  apply bit_evCount _ _ hb
  rw [status_irqBit, bit_mod hb, bit_or, bit_pow_self]; simp

end Sys2Proof.Machine
end

