-- ==== Sys2Proof/Laws/Umak.lean ====
section
/-! SUPPORT. What writing lanes, scalars, predicates and accumulators of an invocation does to reading them; which lanes are active. -/

namespace Sys2Proof.Machine

set_option Elab.async false

theorem Inv.mem_active (i : Inv) (w l : Nat) : l ∈ i.active w ↔ l < 128 ∧ (bit w 32 = false ∨ bit (i.pk (fld w 33 3)) l = true) := by
  simp [Inv.active]

theorem Inv.active_lt {i : Inv} {w l : Nat} (h : l ∈ i.active w) : l < 128 := ((i.mem_active w l).1 h).1

/-- The value and the tag above it of a tagged word of `n` bits. -/
theorem tagged_word (n v : Nat) (t : Bool) : (fld (v % 2 ^ n + if t then 2 ^ n else 0) 0 n, bit (v % 2 ^ n + if t then 2 ^ n else 0) n) = (v % 2 ^ n, t) := by
  have p : 0 < 2 ^ n := Nat.two_pow_pos n
  have h : v % 2 ^ n < 2 ^ n := Nat.mod_lt _ p
  cases t
  · simp [fld, bit, Nat.shiftRight_eq_div_pow, Nat.div_eq_of_lt h]
  · simp [fld, bit, Nat.shiftRight_eq_div_pow, Nat.add_div_right _ p, Nat.div_eq_of_lt h]

theorem SMap.getD_foldl_set (r r' l : Nat) (hl : l < 128) (g : Nat → Nat) (ls : List Nat) (m : SMap Nat) (hs : ∀ x ∈ ls, x < 128) :
    SMap.getD 0 (r' * 128 + l) (ls.foldl (fun m x => SMap.set 0 (r * 128 + x) (g x) m) m)
      = if r' = r ∧ l ∈ ls then g l else SMap.getD 0 (r' * 128 + l) m := by
  induction ls generalizing m with
  | nil => simp
  | cons x xs ih =>
    have hx0 : x < 128 := hs x (by simp)
    rw [List.foldl_cons, ih _ (fun y hy => hs y (by simp [hy]))]
    by_cases h1 : r' = r ∧ l ∈ xs
    · rw [if_pos h1, if_pos ⟨h1.1, by simp [h1.2]⟩]
    · rw [if_neg h1]
      by_cases h2 : r' = r ∧ l = x
      · rw [h2.1, h2.2, SMap.getD_set_same, if_pos ⟨rfl, by simp⟩]
      · rw [SMap.getD_set_ne _ _ (by omega), if_neg]
        rintro ⟨a, b⟩
        rcases List.mem_cons.1 b with b | b
        · exact h2 ⟨a, b⟩
        · exact h1 ⟨a, b⟩

/-- The lanes written hold what is written, the others what they held. -/
theorem Inv.lane_setV (i : Inv) (r : Nat) (ls : List Nat) (f : Nat → Nat × Bool) (r' l : Nat) (hl : l < 128) (hs : ∀ x ∈ ls, x < 128) :
    (i.setV r (ls.map fun x => (x, f x))).lane r' l = if r' = r ∧ l ∈ ls then ((f l).1 % 2 ^ 32, (f l).2) else i.lane r' l := by
  have e := SMap.getD_foldl_set r r' l hl (fun x => (f x).1 % 2 ^ 32 + if (f x).2 then 2 ^ 32 else 0) ls i.v hs
  simp only [Inv.lane, Inv.setV, List.foldl_map]
  rw [e]
  split
  · exact tagged_word 32 _ _
  · rfl

@[simp] theorem Inv.pk_setK (i : Inv) (r v : Nat) : (i.setK r v).pk r = v := by simp [Inv.pk, Inv.setK]

theorem Inv.pk_setK_ne (i : Inv) {r q : Nat} (h : q ≠ r) (v : Nat) : (i.setK r v).pk q = i.pk q := by simp [Inv.pk, Inv.setK, SMap.getD_set_ne _ _ h]

@[simp] theorem Inv.kacc_setKa (i : Inv) (r : Nat) (a : KAcc) : (i.setKa r a).kacc r = a := by simp [Inv.kacc, Inv.setKa]

theorem Inv.kacc_setKa_ne (i : Inv) {r q : Nat} (h : q ≠ r) (a : KAcc) : (i.setKa r a).kacc q = i.kacc q := by simp [Inv.kacc, Inv.setKa, SMap.getD_set_ne _ _ h]

theorem Inv.sx_setX (i : Inv) (r v : Nat) (t : Bool) : (i.setX r v t).sx r = (v % 2 ^ 64, t) := by
  simp only [Inv.sx, Inv.setX, SMap.getD_set_same]
  exact tagged_word 64 _ _

theorem Inv.sx_setX_ne (i : Inv) {r q : Nat} (h : q ≠ r) (v : Nat) (t : Bool) : (i.setX r v t).sx q = i.sx q := by
  simp [Inv.sx, Inv.setX, SMap.getD_set_ne _ _ h]

end Sys2Proof.Machine
end

