-- ==== Sys2Proof/WellFormed.lean ====
section
/-! DEFINITION. Well-formed commands: every number that names a fibre, port, core, unit, table, register or slice lies in the range the spec gives it. -/

namespace Sys2Proof

/-- The operands lie in the ranges the spec gives them; an operand outside is taken modulo its range where a number names a thing (log entry 46). -/
def Instr.wf : Instr → Bool
  | .readTimNowNs _ => true
  | .ptpSync f _ _ => f < 64
  | .ptpFollowUp f => f < 64
  | .ptpPdelayReq f m => f < 64 && m.seq < 65536 && m.src < 2 ^ 80
  | .ptpPdelayResp f m => f < 64 && m.seq < 65536
  | .ptpAnnounce f gm clockClass => f < 64 && gm < 2 ^ 64 && clockClass < 256
  | .syncTransmit f => f < 64
  | .pdelayTransmit f => f < 64
  | .announceTransmit f => f < 64
  | .pdelayTimeout f => f < 64
  | .syncLoss => true
  | .cmdSet => true
  | .cmdStep => true
  | .timPortWrite p w => p < 64 && w.v < 2 ^ 64
  | .timCtrlWrite w => w.v < 2 ^ 64
  | .timRateWrite w => w.v < 2 ^ 64
  | .timTpoCfgWrite n w => n < 4 && w.v < 2 ^ 64
  | .tpoWidthEnd n => n < 4
  | .tcapEdge m _ => m < 2
  | .tcapHoldoffEnd m => m < 2
  | .timTcapNsRead m _ => m < 2
  | .rcRead pg off _ => pg < 256 && off < 65536
  | .arm n _ _ => n < 32
  | .armEffect n => n < 32
  | .cancel n _ => n < 32
  | .crnUnitRegisterWrite n which w => n < 32 && which < 5 && w.v < 2 ^ 64
  | .crnCtrlWrite w => w.v < 2 ^ 64
  | .cairnFire n => n < 32
  | .fwUnitRetry => true
  | .event u => u < 32
  | .tpoEdge u => u < 32
  | .cfgCommit u _ => u < 32
  | .tableFlip u => u < 32
  | .sliceCommit u => u < 32
  | .tgateSwap u => u < 32
  | .bypassSet u => u < 32
  | .combChange u => u < 32
  | .lineMigrate u => u < 32
  | .phaseStart u => u < 32
  | .ledgerFlip u => u < 32
  | .powerState u => u < 32
  | .snapshot u => u < 32
  | .fwNotice u => u < 32
  | .ingressPacket lp _ => lp < 1024
  | .fenceRelease => true
  | .crossbarCellTime _ _ _ => true
  | .packetReassembled inp out => inp < 192 && out < 192
  | .reseqTimeout inp out => inp < 192 && out < 192
  | .planeFault plane => plane < 5
  | .egressDequeue lp _ => lp < 1024
  | .shaperTick => true
  | .gateEntryChange lp => lp < 1024
  | .loadRefresh => true
  | .spillReadback q => q < 262144
  | .drainExpiry sl => sl < 4096
  | .ageTick n => n < 16
  | .fwdSeedWrite n w => n < 16 && w.v < 2 ^ 64
  | .fwdRead n tb bank => n < 16 && tb < 16 && bank < 2
  | .fwdWrite n tb bank => n < 16 && tb < 16 && bank < 2
  | .search n tb => n < 16 && tb < 16
  | .cmdNext n tb => n < 16 && tb < 16
  | .flushByPort n tb _ => n < 16 && tb < 16
  | .flushBySlice n tb _ => n < 16 && tb < 16
  | .insert n tb _ => n < 16 && tb < 16
  | .delete n tb _ => n < 16 && tb < 16
  | .repair n tb bank => n < 16 && tb < 16 && bank < 2
  | .shadowComparePass => true
  | .qshRead tb bank => tb < 16 && bank < 2
  | .qshWrite tb bank => tb < 16 && bank < 2
  | .contributionArrival l => l < 64
  | .straggleDeadline ctx chunk => ctx < 65536 && chunk < 2 ^ 32
  | .chunkTimeout ctx chunk => ctx < 65536 && chunk < 2 ^ 32
  | .retainExpiry ctx chunk => ctx < 65536 && chunk < 2 ^ 32
  | .resultPieceSend core ue => core < 68 && ue < 2 ^ 16
  | .resultNak l => l < 64
  | .srgRead tb => tb < 16
  | .srgWrite tb => tb < 16
  | .chunkSearch tb => tb < 16
  | .start tb => tb < 16
  | .abort tb => tb < 16
  | .release tb => tb < 16
  | .clear tb => tb < 16
  | .load => true
  | .unload => true
  | .info => true
  | .onArrive core => core < 68
  | .onComplete core => core < 68
  | .onNorm core => core < 68
  | .onEmit core => core < 68
  | .nop core => core < 68
  | .cmdEnd core => core < 68
  | .bar core => core < 68
  | .br core => core < 68
  | .brk core => core < 68
  | .ldc core => core < 68
  | .acx core _ _ => core < 68
  | .acxk core => core < 68
  | .acxp core => core < 68
  | .kclr core => core < 68
  | .kadd core => core < 68
  | .rdx core _ _ => core < 68
  | .rdxk core => core < 68
  | .cvt core => core < 68
  | .fadd core => core < 68
  | .fmul core => core < 68
  | .fma core => core < 68
  | .fmin core => core < 68
  | .fmax core => core < 68
  | .div core => core < 68
  | .sqrt core => core < 68
  | .rsq core => core < 68
  | .iadd core => core < 68
  | .isub core => core < 68
  | .imul core => core < 68
  | .ilog core => core < 68
  | .ish core => core < 68
  | .imovi core => core < 68
  | .lane core => core < 68
  | .sel core => core < 68
  | .icmp core => core < 68
  | .fcmp core => core < 68
  | .kop core => core < 68
  | .xadd core => core < 68
  | .xsub core => core < 68
  | .xmul core => core < 68
  | .xlog core => core < 68
  | .xsh core => core < 68
  | .xmovi core => core < 68
  | .xget core => core < 68
  | .xput core => core < 68
  | .xsts core => core < 68
  | .ldl core => core < 68
  | .stl core => core < 68
  | .nrms core => core < 68
  | .nrmw core => core < 68
  | .emit core _ _ => core < 68
  | .emitSpeculative core _ _ => core < 68
  | .emitRelease core => core < 68
  | .emitFree core => core < 68
  | .ledgerLineFetched core => core < 68
  | .watchdog core => core < 68
  | .hang core => core < 68
  | .coreEccError core _ => core < 68
  | .fenceCmd w => w.v < 2 ^ 64
  | .corePortReopen l => l < 64
  | .bist core w => core < 68 && w.v < 2 ^ 64
  | .bistDone core code => core < 68 && code < 256
  | .ldgCfgWrite n w => n < 16 && w.v < 2 ^ 64
  | .normPartialArrival l => l < 64
  | .normRetry => true
  | .normPartialRequest l => l < 64
  | .normAbortNak l => l < 64
  | .normTimeout => true
  | .flip n => n < 16
  | .revert n => n < 16
  | .abandon n => n < 16
  | .copyFwd n => n < 16
  | .setState n => n < 16
  | .loadParam n => n < 16
  | .broadcastArrival => true
  | .broadcastAck lp _ => lp < 1024
  | .childTimeout => true
  | .bcHoldExpiry => true
  | .heaterUpdate e temps dither _ => e < 8 && (temps.length = 272) && (dither.length = 272)
  | .ringLockLoss e ring _ => e < 8 && ring < 272
  | .ringRelocked e ring _ _ _ _ => e < 8 && ring < 272
  | .recalSweep e ring => e < 8 && ring < 272
  | .combLockLoss e comb => e < 8 && comb < 5
  | .combRelockTimeout e comb => e < 8 && comb < 5
  | .fadeEvaluation e _ => e < 8
  | .baseline e _ _ => e < 8
  | .sweepRing e => e < 8
  | .monCmd e tap int => e < 8 && tap < 512 && int < 4
  | .monDone e _ => e < 8
  | .announce e => e < 8
  | .changeWithdraw e => e < 8
  | .noticeResend f => f < 64
  | .holdEnd e => e < 8
  | .combOffWrite e comb w => e < 8 && comb < 5 && w.v < 2 ^ 64
  | .changeoverNotice f id fromComb toComb sec nsHalf => f < 64 && id < 65536 && fromComb < 5 && toComb < 5 && sec < 2 ^ 48 && nsHalf < 2000000000
  | .lineNotice f id line sec nsHalf => f < 64 && id < 65536 && line < 16 && sec < 2 ^ 48 && nsHalf < 2000000000
  | .rxHoldOpen f => f < 64
  | .rxMigrateSwitch f => f < 64
  | .rxHoldClose f => f < 64
  | .disable e ln => e < 8 && ln < 128
  | .retrain e ln => e < 8 && ln < 128
  | .laneReady r => r.lane < 1024
  | .laneServiceEntry ln => ln < 1024
  | .laneLeaveService lanes cause => lanes.all (·.1 < 1024) && (cause = 1 || cause = 2 || cause = 3 || cause = 4 || cause = 8)
  | .laneNotice f line state => f < 64 && line < 16 && state < 2
  | .controlCodeword ln _ _ => ln < 1024
  | .lmfReorderTimeout f => f < 64
  | .retryAck f lp q => f < 64 && lp < 1024 && q < 2 ^ 32
  | .retryReq f lp q => f < 64 && lp < 1024 && q < 2 ^ 32
  | .retryAckTimer lp => lp < 1024
  | .retryTimeout lp => lp < 1024
  | .retryReqTimeout lp => lp < 1024
  | .credit f lp _ => f < 64 && lp < 1024
  | .creditTimer lp _ => lp < 1024
  | .probeTimer f => f < 64
  | .trvProbe f _ _ => f < 64
  | .trvIdent f _ => f < 64
  | .trvState f _ _ => f < 64
  | .absentTimeout f => f < 64
  | .acceptCross f => f < 64
  | .reeval f => f < 64
  | .trvCtrlWrite w => w.v < 2 ^ 64
  | .prepare => true
  | .bypassWithdraw => true
  | .preparationLapse => true
  | .bypassNotice f id set sec nsHalf => f < 64 && id < 65536 && set < 2 && sec < 2 ^ 48 && nsHalf < 2000000000
  | .bypassFarEndCut f => f < 64
  | .inputPowerSample _ => true
  | .meshParityError input => input < 64
  | .commit _ => true
  | .discard => true
  | .dtmSliceCommit => true
  | .slicePurge => true
  | .purgeComplete sl => sl < 4096
  | .recompute => true
  | .recomputeEnd => true
  | .dtmModuleLoRead => true
  | .beaconInterval => true
  | .datumBeacon f _ => f < 64
  | .graceEnd => true
  | .dtmRead tb => tb < 16
  | .dtmWrite tb => tb < 16
  | .hostMemRead _ _ => true
  | .hostMemWrite _ _ _ _ => true
  | .scrubBlock _ => true
  | .rewrite => true
  | .zero => true
  | .identifyMemoryDevice => true
  | .getPoisonList => true
  | .injectPoison _ => true
  | .clearPoison _ _ => true
  | .registerWrite bn pg off size v _ => (bn = 0 || bn = 2 || bn = 4) && pg < 256 && off < 65536 && (size = 4 || size = 8) && v < 2 ^ 64
  | .pageIrqWrite pg _ w => pg < 256 && w.v < 2 ^ 64
  | .doorbell q w => q < 32 && w.v < 2 ^ 64
  | .descriptorFetch q _ _ _ _ => q < 16
  | .descNop q _ => (q < 16 || q = 32 || q = 33 || q = 34)
  | .descWrite q _ _ => (q < 16 || q = 32 || q = 33 || q = 34)
  | .descRead q _ => (q < 16 || q = 32 || q = 33 || q = 34)
  | .cmdExec q _ _ => (q < 16 || q = 32 || q = 33 || q = 34)
  | .table q _ _ => (q < 16 || q = 32 || q = 33 || q = 34)
  | .pollTimeout q _ => (q < 16 || q = 32 || q = 33 || q = 34)
  | .ringReset q w => q < 32 && w.v < 2 ^ 64
  | .hostPathSend n _ _ _ _ => n < 8
  | .hostPathDelivery n _ _ => n < 8
  | .rxWaitTimeout n => n < 8
  | .dmaGo c w => c < 4 && w.v < 2 ^ 64
  | .dmaDone c _ _ _ => c < 4
  | .cxlLinkChange _ _ _ => true
  | .attest _ => true
  | .fwStage _ => true
  | .setBootSlot => true
  | .raiseMin => true
  | .setAnchor _ => true
  | .clearAnchor => true
  | .certRead => true
  | .closeSessions => true
  | .sessInit => true
  | .sessConfirm => true
  | .sessClose => true
  | .certReq => true
  | .mgmtCmd _ => true
  | .attestReq => true
  | .sessionConfirmTimeout => true
  | .sessionIdleTimeout => true
  | .apply => true
  | .clkObsWrite w => w.v < 2 ^ 64
  | .referenceLoss => true
  | .lockLoss => true
  | .flockHold _ => true
  | .flockResume _ => true
  | .pagePwrWrite pg w => pg < 256 && w.v < 2 ^ 64
  | .pageClkenWrite pg w => pg < 256 && w.v < 2 ^ 64
  | .pwrFibreWrite f w => f < 64 && w.v < 2 ^ 64
  | .idleFillEnd f => f < 64
  | .deepIdleWake core idx => idx < (if core then 68 else 64)
  | .seraiIdleHoldEnd core => core < 68
  | .srefEnter => true
  | .srefExit => true
  | .tempSample _ sensor => sensor < 16
  | .thermalTrip => true
  | .vinSample _ _ _ _ => true
  | .softStart => true
  | .supplyStop => true
  | .startUp _ => true
  | .perstAssert => true
  | .counterClear pg w => pg < 256 && w.v < 2 ^ 64
  | .clearAll => true
  | .telCtrlWrite _ w => w.v < 2 ^ 64
  | .smbusRead what _ => what < 4
  | .stlAccepted core => core < 68
  | .combLocked e comb => e < 8 && comb < 5
  | .wakeComplete kind idx => kind < 3 && idx < 68
  | .meshSettled => true
  | .busMasterEnable _ _ => true
  | .refusedRead bn pg off size => (bn = 0 || bn = 2 || bn = 4) && pg < 256 && off < 65536 && size < 8192
  | .boundaryScan _ _ => true

end Sys2Proof
end

