-- ==== Sys2Proof/Tests/Slice0.lean ====
section
/-! SUPPORT. The author's tests: an ill-formed term for each check of WellFormed, values the spec works out, and for every obligation with hypotheses a state and operands that meet those of each of its clauses. -/

namespace Sys2Proof.Tests

open Sys2Proof Sys2Proof.Machine

set_option Elab.async false

/-! Well-formedness: one ill-formed term for each check. -/

set_option maxRecDepth 4000 in
/-- Each of these has one operand out of its range. -/
theorem test_wf_refuses_1 : ([
    .ptpSync 64 0 0,
    .ptpFollowUp 64,
    .ptpPdelayReq 64 { seq := 0 },
    .ptpPdelayReq 0 { seq := 65536 },
    .ptpPdelayResp 64 { seq := 0 },
    .ptpPdelayResp 0 { seq := 65536 },
    .ptpAnnounce 64 0 0,
    .ptpAnnounce 0 (2 ^ 64) 0,
    .ptpAnnounce 0 0 256,
    .syncTransmit 64,
    .pdelayTransmit 64,
    .announceTransmit 64,
    .pdelayTimeout 64,
    .timPortWrite 64 { v := 0 },
    .timPortWrite 0 { v := 2 ^ 64 },
    .timCtrlWrite { v := 2 ^ 64 },
    .timRateWrite { v := 2 ^ 64 },
    .timTpoCfgWrite 4 { v := 0 },
    .timTpoCfgWrite 0 { v := 2 ^ 64 },
    .tpoWidthEnd 4,
    .tcapEdge 2 false,
    .tcapHoldoffEnd 2,
    .timTcapNsRead 2 .w8,
    .rcRead 256 0 .w8,
    .rcRead 0 65536 .w8,
    .arm 32 false false] : List Instr).all (fun i => !i.wf) = true := by decide

set_option maxRecDepth 4000 in
/-- Each of these has one operand out of its range. -/
theorem test_wf_refuses_2 : ([
    .armEffect 32,
    .cancel 32 false,
    .crnUnitRegisterWrite 32 0 { v := 0 },
    .crnUnitRegisterWrite 0 5 { v := 0 },
    .crnUnitRegisterWrite 0 0 { v := 2 ^ 64 },
    .crnCtrlWrite { v := 2 ^ 64 },
    .cairnFire 32,
    .event 32,
    .tpoEdge 32,
    .cfgCommit 32 0,
    .tableFlip 32,
    .sliceCommit 32,
    .tgateSwap 32,
    .bypassSet 32,
    .combChange 32,
    .lineMigrate 32,
    .phaseStart 32,
    .ledgerFlip 32,
    .powerState 32,
    .snapshot 32,
    .fwNotice 32,
    .ingressPacket 1024 {},
    .packetReassembled 192 0,
    .packetReassembled 0 192,
    .reseqTimeout 192 0,
    .reseqTimeout 0 192] : List Instr).all (fun i => !i.wf) = true := by decide

set_option maxRecDepth 4000 in
/-- Each of these has one operand out of its range. -/
theorem test_wf_refuses_3 : ([
    .planeFault 5,
    .egressDequeue 1024 [],
    .gateEntryChange 1024,
    .spillReadback 262144,
    .drainExpiry 4096,
    .ageTick 16,
    .fwdSeedWrite 16 { v := 0 },
    .fwdSeedWrite 0 { v := 2 ^ 64 },
    .fwdRead 16 0 0,
    .fwdRead 0 16 0,
    .fwdRead 0 0 2,
    .fwdWrite 16 0 0,
    .fwdWrite 0 16 0,
    .fwdWrite 0 0 2,
    .search 16 0,
    .search 0 16,
    .cmdNext 16 0,
    .cmdNext 0 16,
    .flushByPort 16 0 false,
    .flushByPort 0 16 false,
    .flushBySlice 16 0 false,
    .flushBySlice 0 16 false,
    .insert 16 0 false,
    .insert 0 16 false,
    .delete 16 0 false,
    .delete 0 16 false] : List Instr).all (fun i => !i.wf) = true := by decide

set_option maxRecDepth 4000 in
/-- Each of these has one operand out of its range. -/
theorem test_wf_refuses_4 : ([
    .repair 16 0 0,
    .repair 0 16 0,
    .repair 0 0 2,
    .qshRead 16 0,
    .qshRead 0 2,
    .qshWrite 16 0,
    .qshWrite 0 2,
    .contributionArrival 64,
    .straggleDeadline 65536 0,
    .straggleDeadline 0 (2 ^ 32),
    .chunkTimeout 65536 0,
    .chunkTimeout 0 (2 ^ 32),
    .retainExpiry 65536 0,
    .retainExpiry 0 (2 ^ 32),
    .resultPieceSend 68 0,
    .resultPieceSend 0 (2 ^ 16),
    .resultNak 64,
    .srgRead 16,
    .srgWrite 16,
    .chunkSearch 16,
    .start 16,
    .abort 16,
    .release 16,
    .clear 16,
    .onArrive 68,
    .onComplete 68] : List Instr).all (fun i => !i.wf) = true := by decide

set_option maxRecDepth 4000 in
/-- Each of these has one operand out of its range. -/
theorem test_wf_refuses_5 : ([
    .onNorm 68,
    .onEmit 68,
    .nop 68,
    .cmdEnd 68,
    .bar 68,
    .br 68,
    .brk 68,
    .ldc 68,
    .acx 68 [] 0,
    .acxk 68,
    .acxp 68,
    .kclr 68,
    .kadd 68,
    .rdx 68 [] 0,
    .rdxk 68,
    .cvt 68,
    .fadd 68,
    .fmul 68,
    .fma 68,
    .fmin 68,
    .fmax 68,
    .div 68,
    .sqrt 68,
    .rsq 68,
    .iadd 68,
    .isub 68] : List Instr).all (fun i => !i.wf) = true := by decide

set_option maxRecDepth 4000 in
/-- Each of these has one operand out of its range. -/
theorem test_wf_refuses_6 : ([
    .imul 68,
    .ilog 68,
    .ish 68,
    .imovi 68,
    .lane 68,
    .sel 68,
    .icmp 68,
    .fcmp 68,
    .kop 68,
    .xadd 68,
    .xsub 68,
    .xmul 68,
    .xlog 68,
    .xsh 68,
    .xmovi 68,
    .xget 68,
    .xput 68,
    .xsts 68,
    .ldl 68,
    .stl 68,
    .nrms 68,
    .nrmw 68,
    .emit 68 [] 0,
    .emitSpeculative 68 [] 0,
    .emitRelease 68,
    .emitFree 68] : List Instr).all (fun i => !i.wf) = true := by decide

set_option maxRecDepth 4000 in
/-- Each of these has one operand out of its range. -/
theorem test_wf_refuses_7 : ([
    .ledgerLineFetched 68,
    .watchdog 68,
    .hang 68,
    .coreEccError 68 false,
    .fenceCmd { v := 2 ^ 64 },
    .corePortReopen 64,
    .bist 68 { v := 0 },
    .bist 0 { v := 2 ^ 64 },
    .bistDone 68 0,
    .bistDone 0 256,
    .ldgCfgWrite 16 { v := 0 },
    .ldgCfgWrite 0 { v := 2 ^ 64 },
    .normPartialArrival 64,
    .normPartialRequest 64,
    .normAbortNak 64,
    .flip 16,
    .revert 16,
    .abandon 16,
    .copyFwd 16,
    .setState 16,
    .loadParam 16,
    .broadcastAck 1024 {},
    .heaterUpdate 8 (List.replicate 272 0) (List.replicate 272 0) [],
    .heaterUpdate 0 [] (List.replicate 272 0) [],
    .heaterUpdate 0 (List.replicate 272 0) [] [],
    .ringLockLoss 8 0 false] : List Instr).all (fun i => !i.wf) = true := by decide

set_option maxRecDepth 4000 in
/-- Each of these has one operand out of its range. -/
theorem test_wf_refuses_8 : ([
    .ringLockLoss 0 272 false,
    .ringRelocked 8 0 0 0 0 0,
    .ringRelocked 0 272 0 0 0 0,
    .recalSweep 8 0,
    .recalSweep 0 272,
    .combLockLoss 8 0,
    .combLockLoss 0 5,
    .combRelockTimeout 8 0,
    .combRelockTimeout 0 5,
    .fadeEvaluation 8 [],
    .baseline 8 [] false,
    .sweepRing 8,
    .monCmd 8 0 0,
    .monCmd 0 512 0,
    .monCmd 0 0 4,
    .monDone 8 0,
    .announce 8,
    .changeWithdraw 8,
    .noticeResend 64,
    .holdEnd 8,
    .combOffWrite 8 0 { v := 0 },
    .combOffWrite 0 5 { v := 0 },
    .combOffWrite 0 0 { v := 2 ^ 64 },
    .changeoverNotice 64 0 0 0 0 0,
    .changeoverNotice 0 65536 0 0 0 0,
    .changeoverNotice 0 0 5 0 0 0] : List Instr).all (fun i => !i.wf) = true := by decide

set_option maxRecDepth 4000 in
/-- Each of these has one operand out of its range. -/
theorem test_wf_refuses_9 : ([
    .changeoverNotice 0 0 0 5 0 0,
    .changeoverNotice 0 0 0 0 (2 ^ 48) 0,
    .changeoverNotice 0 0 0 0 0 2000000000,
    .lineNotice 64 0 0 0 0,
    .lineNotice 0 65536 0 0 0,
    .lineNotice 0 0 16 0 0,
    .lineNotice 0 0 0 (2 ^ 48) 0,
    .lineNotice 0 0 0 0 2000000000,
    .rxHoldOpen 64,
    .rxMigrateSwitch 64,
    .rxHoldClose 64,
    .disable 8 0,
    .disable 0 128,
    .retrain 8 0,
    .retrain 0 128,
    .laneReady { lane := 1024, ber := 0 },
    .laneServiceEntry 1024,
    .laneLeaveService [(1024, 0)] 1,
    .laneLeaveService [] 5,
    .laneNotice 64 0 0,
    .laneNotice 0 16 0,
    .laneNotice 0 0 2,
    .controlCodeword 1024 [] [],
    .lmfReorderTimeout 64,
    .retryAck 64 0 0,
    .retryAck 0 1024 0] : List Instr).all (fun i => !i.wf) = true := by decide

set_option maxRecDepth 4000 in
/-- Each of these has one operand out of its range. -/
theorem test_wf_refuses_10 : ([
    .retryAck 0 0 (2 ^ 32),
    .retryReq 64 0 0,
    .retryReq 0 1024 0,
    .retryReq 0 0 (2 ^ 32),
    .retryAckTimer 1024,
    .retryTimeout 1024,
    .retryReqTimeout 1024,
    .credit 64 0 [],
    .credit 0 1024 [],
    .creditTimer 1024 [],
    .probeTimer 64,
    .trvProbe 64 0 0,
    .trvIdent 64 { serial := 0, fibre := 0, major := 0, minor := 0, endpoint := 0, datum := 0 },
    .trvState 64 0 0,
    .absentTimeout 64,
    .acceptCross 64,
    .reeval 64,
    .trvCtrlWrite { v := 2 ^ 64 },
    .bypassNotice 64 0 0 0 0,
    .bypassNotice 0 65536 0 0 0,
    .bypassNotice 0 0 2 0 0,
    .bypassNotice 0 0 0 (2 ^ 48) 0,
    .bypassNotice 0 0 0 0 2000000000,
    .bypassFarEndCut 64,
    .meshParityError 64,
    .purgeComplete 4096] : List Instr).all (fun i => !i.wf) = true := by decide

set_option maxRecDepth 4000 in
/-- Each of these has one operand out of its range. -/
theorem test_wf_refuses_11 : ([
    .datumBeacon 64 { serial := 0, time := 0, epoch := 0, datum := 0, slice := 0, sdatum := 0 },
    .dtmRead 16,
    .dtmWrite 16,
    .registerWrite 99999 0 0 4 0 {},
    .registerWrite 0 256 0 4 0 {},
    .registerWrite 0 0 65536 4 0 {},
    .registerWrite 0 0 0 9 0 {},
    .registerWrite 0 0 0 4 (2 ^ 64) {},
    .pageIrqWrite 256 false { v := 0 },
    .pageIrqWrite 0 false { v := 2 ^ 64 },
    .doorbell 32 { v := 0 },
    .doorbell 0 { v := 2 ^ 64 },
    .descriptorFetch 16 [] false false [],
    .descNop 99999 [],
    .descWrite 99999 {} [],
    .descRead 99999 [],
    .cmdExec 99999 {} [],
    .table 99999 {} [],
    .pollTimeout 99999 [],
    .ringReset 32 { v := 0 },
    .ringReset 0 { v := 2 ^ 64 },
    .hostPathSend 8 0 {} [] false,
    .hostPathDelivery 8 0 false,
    .rxWaitTimeout 8,
    .dmaGo 4 { v := 0 },
    .dmaGo 0 { v := 2 ^ 64 }] : List Instr).all (fun i => !i.wf) = true := by decide

set_option maxRecDepth 4000 in
/-- Each of these has one operand out of its range. -/
theorem test_wf_refuses_12 : ([
    .dmaDone 4 [] [] [],
    .clkObsWrite { v := 2 ^ 64 },
    .pagePwrWrite 256 { v := 0 },
    .pagePwrWrite 0 { v := 2 ^ 64 },
    .pageClkenWrite 256 { v := 0 },
    .pageClkenWrite 0 { v := 2 ^ 64 },
    .pwrFibreWrite 64 { v := 0 },
    .pwrFibreWrite 0 { v := 2 ^ 64 },
    .idleFillEnd 64,
    .deepIdleWake false 64,
    .seraiIdleHoldEnd 68,
    .tempSample 0 16,
    .counterClear 256 { v := 0 },
    .counterClear 0 { v := 2 ^ 64 },
    .telCtrlWrite false { v := 2 ^ 64 },
    .smbusRead 4 false,
    .stlAccepted 68,
    .combLocked 8 0,
    .combLocked 0 5,
    .wakeComplete 3 0,
    .wakeComplete 0 68,
    .refusedRead 99999 0 0 0,
    .refusedRead 0 256 0 0,
    .refusedRead 0 0 65536 0,
    .refusedRead 0 0 0 8192] : List Instr).all (fun i => !i.wf) = true := by decide

/-- Operands at the bottom of their ranges are well-formed. -/
theorem test_wf_accepts : ([
    .readTimNowNs .w8,
    .announceTransmit 0,
    .tcapHoldoffEnd 0,
    .cairnFire 0,
    .combChange 0,
    .crossbarCellTime [] [] [],
    .ageTick 0,
    .insert 0 0 false,
    .retainExpiry 0 0,
    .release 0,
    .bar 0,
    .kadd 0,
    .fmax 0,
    .ish 0,
    .xsub 0,
    .ldl 0,
    .ledgerLineFetched 0,
    .ldgCfgWrite 0 { v := 0 },
    .setState 0,
    .combRelockTimeout 0 0,
    .noticeResend 0,
    .disable 0 0,
    .retryAck 0 0 0,
    .trvProbe 0 0 0,
    .bypassFarEndCut 0,
    .hostMemRead 0 [],
    .descriptorFetch 0 [] false false [],
    .hostPathSend 0 0 {} [] false,
    .setAnchor [],
    .idleFillEnd 0,
    .smbusRead 0 false] : List Instr).all (fun i => i.wf) = true := by decide

/-! States the tests are made on. -/

/-- The module running, served and mastering the bus, two hours after the clock's start, with register fields given as (field, [value, page, index, subindex]). -/
def up (l : List (RegD × List Nat)) : State :=
  l.foldl (fun s x => s.wr x.1 (x.2.getD 0 0) (x.2.getD 1 0) (x.2.getD 2 0) (x.2.getD 3 0))
    { State.reset with clkOn := true, memSpace := true, busMaster := true, cyc := 10 ^ 13, fclk := 7200 * 10 ^ 9 * NS }

/-- Free cells and staging buffers. -/
def pools : List (RegD × List Nat) := [(BPM_POOL_free, [1048576]), (BPM_POOL_free, [16384, 0, 1])]

/-- Page `p` clocked. -/
def ck (p : Nat) : RegD × List Nat := (PAGE_CLKEN_en, [1, p])

theorem pick {α : Type} {o : Option α} (h : o.isSome = true) : o = some (o.get h) := (Option.some_get h).symm

theorem pickP {α β : Type} {o : Option (α × β)} (h : o.isSome = true) : o = some ((o.get h).1, (o.get h).2) := (Option.some_get h).symm

theorem pairT {α β : Type} {p : α × β} {a : α} (h : p.1 = a) : p = (a, p.2) := by rw [← h]

theorem pairS {α β : Type} {p : Option α × β} (h : p.1.isSome = true) : p = (some (p.1.get h), p.2) := by rw [Option.some_get]

/-- Lane `l` in SERVICE, mapped to port `p`. -/
def svc (l p : Nat) : List (RegD × List Nat) :=
  [(LNK_LANE_state, [3, l / 128, l % 128]), (LNK_LANE_MAP_valid, [1, l / 128, l % 128]), (LNK_LANE_MAP_port, [p, l / 128, l % 128])]

/-- A packet with a good header check. -/
def sealed (p : Pkt) : Pkt := { p with hdrCrc := p.calcHdrCrc }

/-- The bytes of packet `p` arrived on port `lp`. -/
def heard (s : State) (lp : Nat) (p : Pkt) : State := { s with link := { s.link with rx := [(lp, { buf := p.wire })] } }

/-- A packet waiting at logical core 63's port. -/
def atCore (p : Pkt) : Flight := { id := 1, pkt := p, pipe := 15, dest := .serai 63, inCore := 0, cells := 1, loc := .local }

/-- Logical core 63 on physical core 67, with packet `p` at its port and chunks `ks`. -/
def coreUp (l : List (RegD × List Nat)) (p : Pkt) (ks : List Chunk) : State :=
  { up ([(SRG_REMAP_valid, [1, 0, 63]), (SRG_REMAP_phys, [67, 0, 63]), (SRG_CTRL_coll_en, [1])] ++ l) with flights := [atCore p], ser := { chunks := ks } }

/-- Context 65535, a REDUCE of one member and one chunk, its convoy running or not. -/
def ctxUp (s : State) (active : Nat) : State :=
  ((((s.setSliceState 0 1).tset TB_CTX 0 65535 0 (1 ||| 1 <<< 32 ||| 1 <<< 54)).tset TB_CTX 0 65535 1 (1 ||| active <<< 7 ||| 1 <<< 48)).tset TB_CTX 0 65535 4 (1 <<< 32))

/-- A contribution to it. -/
def contrib : Pkt := { kind := 1, tc := 2, ctx := 65535, length := opLength 0 0 1024 0 }

/-- Core 67 ACTIVE and at instruction `w` of invocation `i`. -/
def runUp (i : Inv) (w : Nat) (ks : List Chunk) (l : List (RegD × List Nat)) : State :=
  { up ([(SRI_STATE_state, [3, 67])] ++ l) with ser := { chunks := ks, cores := [(67, { inv := some i })], kernels := [{ idx := 0, base := 0, onArrive := 0, onComplete := 0, onNorm := 0, onEmit := 0, ops := 63, ver := 0, code := [w] }] } }

/-- An invocation of entry `e` for chunk 0 of context 0. -/
def invOf (e : Nat) : Inv := { ctx := 0, chunk := 0, gen := 0, entry := e, pc := 0, kernel := 0, start := 0, id := 5 }

def okD {ε α : Type} (d : α) : Except ε α → α
  | .ok a => a
  | .error _ => d

def errD {ε α : Type} (d : ε) : Except ε α → ε
  | .error a => a
  | .ok _ => d

theorem pairOk {ε α β : Type} (d : α) {p : Except ε α × β} (h : p.1.isOk = true) : p = (.ok (okD d p.1), p.2) := by
  rcases p with ⟨a | a, b⟩
  · cases h
  · rfl

theorem pairErr {ε α β : Type} (d : ε) {p : Except ε α × β} (h : p.1.isOk = false) : p = (.error (errD d p.1), p.2) := by
  rcases p with ⟨a | a, b⟩
  · rfl
  · cases h

theorem pairE2 {α β γ δ : Type} (d : α × β) {p : Except (α × β) γ × δ} (h : p.1.isOk = false) : p = (.error ((errD d p.1).1, (errD d p.1).2), p.2) := by
  rcases p with ⟨a | a, b⟩
  · rfl
  · cases h

theorem pairO2 {α β γ δ : Type} (d : α × β) {p : Except γ (α × β) × δ} (h : p.1.isOk = true) : p = (.ok ((okD d p.1).1, (okD d p.1).2), p.2) := by
  rcases p with ⟨a | a, b⟩
  · cases h
  · rfl

theorem kBusy_none (s : State) (i : Nat) (h : s.tbl = []) : s.kBusy i = false := by
  simp [State.kBusy, State.ctxActive, State.cx, State.tget, h, SMap.getD, tdef, fld, TB_CTX, TB_WRR]

/-- A REDUCE_UPDATE chunk of ledger 0. -/
def updChunk : Chunk := { ctx := 0, chunk := 0, lcore := 0, operation := 5 }

/-- Its ON_ARRIVE under way at a ledger instruction of lane 0, the ledger of 2048 parameters. -/
def ldgUp (w : Nat) (l : LdgLine) : State :=
  let s := runUp { invOf 1 with k := [(0, 1)] } (w + 2 ^ 32) [updChunk] [(LDG_PCOUNT_param_count, [2048])]
  { s with ser := { s.ser with cores := [(67, { inv := some { invOf 1 with k := [(0, 1)] }, lines := [l] })] } }

theorem ldgConvoy_none (s : State) (n : Nat) (h : s.tbl = []) : s.ldgConvoy n = false := by
  simp [State.ldgConvoy, State.ctxActive, State.cx, State.tget, h, SMap.getD, tdef, fld, TB_CTX, TB_WRR]

theorem ldgBusy_none (s : State) (n : Nat) (h : s.tbl = []) (h1 : s.ldgOpen n = false) : s.ldgBusy n = false := by
  rw [State.ldgBusy, ldgConvoy_none s n h, h1]; rfl

theorem flipCause_none (s : State) (n : Nat) (h : s.tbl = []) (h1 : s.ldgOpen n = false) (h2 : s.flag LDG_CFG_enable 0 n = true)
    (h3 : s.flag LDG_CFG_lock 0 n = false) (h4 : s.flag LDG_STATE_fault 0 n = false) (h5 : (s.covered n).length = s.ldgBlocks n) : s.flipCause n = none := by
  simp [State.flipCause, ldgBusy_none s n h h1, h2, h3, h4, h5]

/-- Context 65535 a REDUCE_UPDATE of ledger 15 with two members in its norm, and packet `p` at the port. -/
def normUp (p : Pkt) (l : List (RegD × List Nat)) (ns : List NormSlot) : State :=
  let s := coreUp ([(LDG_NORM_GRP_norm_count, [2, 0, 15])] ++ l) p []
  let t : State := { s with ser := { s.ser with norms := ns } }
  (t.tset TB_CTX 0 65535 0 (1 ||| 5 <<< 1)).tset TB_CTX 0 65535 3 (15 <<< 44)

/-- A partial of member 1. -/
def partialOf (b : List Byte) (key : Nat) : Pkt := { kind := 6, tc := 1, fmt := 9, length := 40, member := 1, ctx := 65535, chunk := key, payload := b, e2e := e2eOf b }

/-- A NAK with the given reason and ref_kind 6. -/
def nak6 (reason : Nat) (key : Nat) : Pkt :=
  let b : List Byte := [1, BitVec.ofNat 8 reason] ++ List.replicate 9 0 ++ [6, 0, 0, 0, 0]
  { kind := 3, tc := 1, length := 16, ctx := 65535, chunk := key, payload := b, e2e := e2eOf b }

/-- A broadcast at the launch function. -/
def bcUp (l : List (RegD × List Nat)) (es : List BcEnt) : State :=
  { up ([(SRG_BC_CFG_enable, [1]), (BPM_POOL_free, [1000])] ++ l) with flights := [{ atCore { kind := 4, tc := 1 } with dest := .bcast }], ser := { bcast := es } }

theorem pairL {α β : Type} {p : α × β} {b : β} (h : p.2 = b) : p = (p.1, b) := by rw [← h]

theorem moduleAfresh_dtm (s : State) (d : DtmSt) : ({ s with dtm := d } : State).moduleAfresh = s.moduleAfresh := rfl

theorem slicesAfresh_dtm (s : State) (d : DtmSt) : ({ s with dtm := d } : State).slicesAfresh = s.slicesAfresh := rfl

theorem sliceDatum_dtm (s : State) (d e : DtmSt) (n : Nat) (h : d.sums = e.sums) : ({ s with dtm := d } : State).sliceDatum n = ({ s with dtm := e } : State).sliceDatum n := by
  obtain ⟨⟩ := d; obtain ⟨⟩ := e; cases h; rfl

/-- A recomputation under way, its module sum off by `d` and its slice sums `l`. -/
def walkOf (s : State) (d : Nat) (l : SMap SliceSum) : State :=
  { s with dtm := { module := s.moduleAfresh + d, sums := l, walking := true } }

theorem walkOf_module (s : State) (d : Nat) (l : SMap SliceSum) : (walkOf s d l).dtm.module = (walkOf s d l).moduleAfresh + d := rfl

theorem walkOf_right (s : State) (l : SMap SliceSum) : (walkOf s 0 l).moduleAfresh = (walkOf s 0 l).dtm.module := by
  rw [walkOf_module, Nat.add_zero]

theorem walkOf_off (s : State) (l : SMap SliceSum) : (walkOf s 1 l).moduleAfresh ≠ (walkOf s 1 l).dtm.module := by
  rw [walkOf_module]; omega

theorem walkOf_sums (s : State) (d : Nat) : (walkOf s d s.slicesAfresh).dtm.sums = (walkOf s d s.slicesAfresh).slicesAfresh := rfl

theorem walkOf_walking (s : State) (d : Nat) (l : SMap SliceSum) : (walkOf s d l).dtm.walking = true := rfl

theorem walk_diff_none (s : State) (l : List Nat) (m : Nat) (h : s.dtm.sums = s.slicesAfresh) :
    (l.filter fun n => s.sliceDatum n ≠ ({ s with dtm := { s.dtm with module := m, sums := s.slicesAfresh, walking := false } } : State).sliceDatum n) = [] :=
  List.filter_eq_nil_iff.mpr fun n _ => by
    rw [decide_eq_true_eq]
    exact not_not_intro (sliceDatum_dtm s s.dtm { s.dtm with module := m, sums := s.slicesAfresh, walking := false } n h)

theorem walk_diff_some (s t : State) (n k : Nat) (h : n < k) (h1 : s.sliceDatum n ≠ t.sliceDatum n) :
    ((List.range k).filter fun n => s.sliceDatum n ≠ t.sliceDatum n) ≠ [] :=
  List.ne_nil_of_mem (List.mem_filter.mpr ⟨List.mem_range.mpr h, decide_eq_true h1⟩)

/-- The host path on and queue `q` with a descriptor to serve. -/
def hpUp (q : Nat) (l : List (RegD × List Nat)) : State :=
  up ([(HIF_HP_CFG_enable, [1]), (HIF_RQ_CFG_enable, [1, q]), (HIF_RQ_TAIL_tail, [1, q])] ++ l)

/-- A packet for the host. -/
def hostFl (p : Pkt) (arr : Option Nat) : Flight := { atCore p with dest := .host, arr := arr }

theorem foldl_len {α : Type} (n : Nat) (f : List Nat → α → List Nat) (h : ∀ a x, (f a x).length = n) (l : List α) (a : List Nat) (ha : a.length = n) : (l.foldl f a).length = n := by
  induction l generalizing a with
  | nil => exact ha
  | cons x t ih => exact ih _ (h _ _)

theorem keccakRound_len (a : List Nat) (rc : Nat) : (keccakRound a rc).length = 25 := by
  simp only [keccakRound]
  simp

theorem keccakF_len (a : List Nat) : (keccakF a).length = 25 := by
  have h : keccakRC ≠ [] := by simp [keccakRC]
  unfold keccakF
  cases e : keccakRC with
  | nil => exact absurd e h
  | cons x t =>
    rw [List.foldl_cons]
    exact foldl_len 25 _ keccakRound_len _ _ (keccakRound_len _ _)

theorem absorb_len (bs : List Byte) : (absorb bs).length = 25 := by
  unfold absorb
  exact foldl_len 25 _ (fun _ _ => keccakF_len _) _ _ (by simp)

theorem leWords_len (l : List Nat) : (leWords 8 l).length = 8 * l.length := by
  induction l with
  | nil => rfl
  | cons x t ih =>
    simp only [leWords, List.flatMap_cons, List.length_append, List.length_cons] at ih ⊢
    simp only [leBytes, List.length_map, List.length_range] at ih ⊢
    omega

theorem mgmtTag_len (k b : List Byte) : (mgmtTag k b).length = 16 := by
  simp only [mgmtTag, kmac256, sponge]
  rw [squeeze, if_pos (by decide), List.length_take, leWords_len, List.length_take, absorb_len]
  rfl

/-- A SESS_CLOSE of session 5, fragment `i` of one, counter 4, before its tag. -/
def mgmtB (i : Nat) : List Byte := [5, 0, 0, 0, 4, BitVec.ofNat 8 i, 1, 0, 4, 0, 0, 0, 0, 0, 0, 0]

/-- A management packet with payload `b`. -/
def mgmtPkt (b : List Byte) : Pkt := { kind := 5, payload := b, length := b.length, e2e := e2eOf b }

/-- That SESS_CLOSE with its tag. -/
def mgmtT (i : Nat) : Pkt := mgmtPkt (mgmtB i ++ mgmtTag [7] (mgmtB i))

theorem tag_good (i : Nat) : mgmtTag [7] ((mgmtT i).payload.take ((mgmtT i).payload.length - 16)) = (mgmtT i).payload.drop ((mgmtT i).payload.length - 16) := by
  simp [mgmtT, mgmtPkt, mgmtB, mgmtTag_len]

theorem e2e_good (i : Nat) : (mgmtT i).e2e = e2eOf (mgmtT i).payload := rfl

theorem tag_long (i : Nat) : 32 ≤ (mgmtT i).payload.length := by
  simp [mgmtT, mgmtPkt, mgmtB, mgmtTag_len]

theorem judge_ok (s : State) (x : Sess) (ctr i : Nat) (h : s.sessOf 5 = some x) (hk : x.keyIn = [7]) (hc : x.rx < ctr) :
    s.judgeTag 5 ctr (mgmtT i).payload = (some { x with rx := ctr, last := s.cyc }, s.putSess { x with rx := ctr, last := s.cyc }) := by
  have a := tag_long i
  have b := tag_good i
  unfold State.judgeTag
  rw [h]
  simp only [hk]
  rw [if_neg (fun h => h.elim (fun h => by omega) fun h => h b), if_neg (by omega)]

/-- The module with that message waiting and session 5 open. -/
def mgmtUp (p : Pkt) : State :=
  { up [] with flights := [hostFl p none], secu := { sess := [{ id := 5, keyIn := [7], keyOut := [], at_ := 0, last := 0, rx := 3 }] } }

theorem mgmt_head (i : Nat) : (mgmtUp (mgmtT i)).headMgmt = some (hostFl (mgmtT i) none) := by
  have a := tag_long i
  have c : isMgmt (mgmtT i) = true := by
    simp only [isMgmt, Bool.and_eq_true, decide_eq_true_eq]
    exact ⟨⟨rfl, by omega⟩, rfl⟩
  simp [State.headMgmt, mgmtUp, hostFl, atCore, c]

/-- The session it names. -/
def sess5 : Sess := { id := 5, keyIn := [7], keyOut := [], at_ := 0, last := 0, rx := 3 }

theorem eqOk {ε α : Type} (d : α) {p : Except ε α} (h : p.isOk = true) : p = .ok (okD d p) := by
  cases p
  · cases h
  · rfl

theorem eqErr {ε α : Type} (d : ε) {p : Except ε α} (h : p.isOk = false) : p = .error (errD d p) := by
  cases p
  · rfl
  · cases h

/-- The state of the last clause of start-up, from the module after its PLL has locked. -/
def bootW (v : State) (x : StartUpIn) : State :=
  let r := ((v.wr CLK_STATUS_core_lock 1).wr CLK_STATUS_mem_lock 1).wr CLK_STATUS_opt_lock 1
  (((([2, 4].foldl State.pageReady { r with clkOn := true, cyc := x.elapsed, fclk := x.elapsed * r.clkStep % clkWrap }).selfTest x.checkerFail).startStep 6 x).boot x).pageReady 1

theorem bootW_eq (v : State) (x : StartUpIn) (r : State) (h : r = ((v.wr CLK_STATUS_core_lock 1).wr CLK_STATUS_mem_lock 1).wr CLK_STATUS_opt_lock 1) :
    bootW v x = (((([2, 4].foldl State.pageReady { r with clkOn := true, cyc := x.elapsed, fclk := x.elapsed * r.clkStep % clkWrap }).selfTest x.checkerFail).startStep 6 x).boot x).pageReady 1 := by
  cases h; rfl

theorem memberBusy_none (s : State) (i : Nat) (h : s.tbl = []) : s.memberBusy i = false := by
  simp [State.memberBusy, State.ctxActive, State.cx, State.tget, h, SMap.getD, tdef, fld, TB_CTX, TB_WRR]

theorem memberBusy_of (s : State) (i c : Nat) (h : c < 65536)
    (h1 : (s.ctxActive c && s.cx c 0 24 1 = 1 && decide (s.cx c 5 0 16 ≤ i) && decide (i < s.cx c 5 0 16 + s.cx c 5 16 11)) = true) : s.memberBusy i = true :=
  List.any_eq_true.mpr ⟨c, List.mem_range.mpr h, h1⟩

theorem both {α β : Type} (p : α × β) : p = (p.1, p.2) := rfl

theorem both4 {α β γ δ : Type} (p : α × β × γ × δ) : p = (p.1, p.2.1, p.2.2.1, p.2.2.2) := rfl

theorem readWord_clean (s : State) (w : Nat) (h1 : s.mem.synd = []) (h2 : s.mem.loose = []) : (s.readWord w).1.2 = false ∧ (s.readWord w).2 = s := by
  cases h : s.granValid w <;> simp [State.readWord, State.syn, State.unfilled, h, h1, h2, SMap.getD, eccDecode]

theorem foldl_reads (s : State) (w : Nat) (h1 : s.mem.synd = []) (h2 : s.mem.loose = []) (l : List Nat) (a : List (Nat × Bool)) :
    l.foldl (fun (x : List (Nat × Bool) × State) i => (x.1 ++ [(x.2.readWord (w + i)).1], (x.2.readWord (w + i)).2)) (a, s) =
      (a ++ l.map (fun i => (s.readWord (w + i)).1), s) := by
  induction l generalizing a with
  | nil => simp
  | cons i t ih => rw [List.foldl_cons, (readWord_clean s (w + i) h1 h2).2, ih]; simp

theorem readRes_clean (s t : State) (a n : Nat) (hr : s.inReserved a (4 * n) = true) (h0 : s.inSref = false) (ht : t = s.readEvent (4 * (a / 4)) (4 * n) 4)
    (h1 : t.mem.synd = []) (h2 : t.mem.loose = []) : s.readRes a n = ((List.range n).map fun i => (t.readWord (a / 4 + i)).1, t) := by
  subst ht
  rw [State.readRes, if_pos hr, State.readWords, if_neg (by simp [h0])]
  exact (foldl_reads _ _ h1 h2 _ _).trans (by simp)

theorem any_clean (t : State) (w n : Nat) (h1 : t.mem.synd = []) (h2 : t.mem.loose = []) :
    ((List.range n).map fun i => (t.readWord (w + i)).1).any (·.2) = false := by
  simp [(readWord_clean t _ h1 h2).1]

/-- A kernel image of one instruction at the start of the reserved partition, but for the bytes `c`; its index is 255. -/
def imgUp (c : List Host.Cell) (l : List (RegD × List Nat)) (ks : List Kernel) : State :=
  let a := 38912 * 2 ^ 24
  { up ([ck 12, (SRG_KKEY_kernel, [255]), (SRG_KLOAD_ADDR_addr, [38912 * 2 ^ 18])] ++ l) with
    mem := { data := [(a, 0x55), (a + 1, 0x4D), (a + 2, 0x41), (a + 3, 0x4B), (a + 4, 1), (a + 8, 1)] ++ c, valid := [38912 * 2 ^ 8] },
    ser := { kernels := ks } }

/-- A chunk of a REDUCE context. -/
def chunk0 : Chunk := { ctx := 0, chunk := 0, lcore := 0 }

/-- The invocation with scalar 0 poisoned. -/
def px (i : Inv) : Inv := { i with x := [(0, 2 ^ 64)] }

/-- A piece of 128 elements arrived, and its ON_ARRIVE. -/
def aq0 : AqEnt := { ctx := 0, chunk := 0, gen := 0, member := 0, piece := 0, fmt := 0, pkt := {}, flight := none }

def arr0 : Inv := { invOf 0 with count := 128, arrive := some aq0 }

/-- Core 67 ACTIVE, serving logical core 63, with chunks `ks`. -/
def idleUp (l : List (RegD × List Nat)) (ks : List Chunk) (c : SCore) : State :=
  { up ([(SRI_STATE_state, [3, 67]), (SRI_STATE_lcore_valid, [1, 67]), (SRI_STATE_lcore, [63, 67])] ++ l) with
    ser := { chunks := ks, cores := [(67, c)], kernels := [{ idx := 0, base := 0, onArrive := 0, onComplete := 0, onNorm := 0, onEmit := 0, ops := 63, ver := 0, code := [0] }] } }

/-- The same with the norm total of chunk 0 final. -/
def normed (l : List (RegD × List Nat)) : State :=
  let s := idleUp l [{ updChunk with lcore := 63, phase := 2 }] {}
  { s with ser := { s.ser with norms := [{ ctx := 0, step := 0, round := 0, ledger := 0, state := 3, len := 1 }] } }

theorem kBusy_of (s : State) (i c : Nat) (h : c < 65536) (h1 : (s.ctxActive c && decide (s.ctxKernel c = i)) = true) : s.kBusy i = true :=
  List.any_eq_true.mpr ⟨c, List.mem_range.mpr h, h1⟩

/-- Fibre 63 bypassed. -/
def byFib : State := up [(BYP_FIBRE_state, [3, 0, 63])]

/-- The symbols of a shortened control codeword: the header and the frame marker, then the check symbols. -/
def ctlSym : List Nat := rsEncode ((List.range 15).map fun s => fld ((leNat marker <<< 20) ^^^ scrambleMask 0) (10 * s) 10)

/-- A beacon due, beacons enabled or not. -/
def beacUp (v : Nat) : State := { up [(DTM_CTRL_beacon_en, [v])] with dtm := { beaconAt := some 0 } }

theorem noMgmt {s : State} {p : Flight → Prop} (h : s.headMgmt = none) : ∀ x, s.headMgmt = some x → p x := fun x e => by rw [h] at e; cases e

/-- A SESS_INIT body of zeros. -/
def initB : List Byte := List.replicate 18720 0

/-- SHAKE256 of 32 zero bytes. -/
def zeroHash : List Nat := [7163631081092847605, 5697644130075884402, 8373937063212800785, 7075346146399877149]

theorem zeroHash_eq : shake256 ((initB.drop 1600).take 32) 32 = leWords 8 zeroHash := by decide +kernel

/-- The module with its key anchored and the given session limit. -/
def initUp (n : Nat) : State := (up [(SEC_IB_CTRL_enable, [1]), (SEC_IB_CTRL_max_sessions, [n])]).setAnchor zeroHash

theorem initUp_anchored (n : Nat) (h : ((List.range 4).map fun w => (initUp n).rd SEC_ANCHOR_hash 0 0 w) = zeroHash) :
    ((List.range 4).any fun a => shake256 ((initB.drop 1600).take 32) 32 == leWords 8 ((List.range 4).map fun w => (initUp n).rd SEC_ANCHOR_hash 0 a w)) = true := by
  rw [List.any_eq_true]
  exact ⟨0, by simp, by rw [h, zeroHash_eq]; exact beq_self_eq_true _⟩

/-! Tests on values the spec works out (each docstring names the worked example or rule). -/

/-- The next state, or the state itself where the command stops. -/
def nextOf (s : State) (c : Instr) : State :=
  match exec c s with
  | .next t => t
  | _ => s

/-- Whether the command answers a next state. -/
def runs (s : State) (c : Instr) : Bool :=
  match exec c s with
  | .next _ => true
  | _ => false

/-- Chapter 2, one offset measurement: at 12,183.5 ns the Pdelay_Resp with correction 1,000 ns gives 591,750 ps. -/
theorem test_pdelay_example :
    (nextOf { up [(TIM_PORT_role, [2, 0, 17])] with fclk := 24367 * (NS / 2), tim := { ports := [(17, { reqs := [(10000 * 65536, 0, 1)] })] } }
      (.ptpPdelayResp 17 { seq := 1, corr := 1000 * 65536 })).rd TIM_MLD_mld_ps = 591750 := by decide +kernel

/-- The same example: the Sync at 20,595.125 ns gives an offset of +3,125 ps. -/
theorem test_sync_example :
    (nextOf { up [(TIM_CTRL_servo_en, [0]), (TIM_PORT_role, [2, 0, 17]), (TIM_PORT_MLD_mld_ps, [591750, 0, 17]), (TIM_PORT_asym, [250, 0, 17])] with fclk := 164761 * (NS / 8) }
      (.ptpSync 17 (20000 * 65536) 0)).rdI TIM_OFFSET_offset_ps = 3125 := by decide +kernel

/-- Chapter 3's contribution as its member sends it. -/
def bf16Pkt : Pkt :=
  { kind := 1, tc := 2, length := 4096, slice := 0x02A, hopCount := 1, src := 0x114C39, dst := 0x117F00, waybill := [0x0025, 0xC000, 0, 0, 0, 0, 0, 0],
    ctx := 0x0140, member := 77, chunk := 0x213, fmt := 1 }

/-- Its DW0, DW1, DW9 and DW11. -/
theorem test_header_words :
    (fld (leNat bf16Pkt.hdrBytes) 0 32, fld (leNat bf16Pkt.hdrBytes) 32 32, fld (leNat bf16Pkt.hdrBytes) 288 32, fld (leNat bf16Pkt.hdrBytes) 352 32) =
      (0x10000212, 0x0000802A, 0x004D0140, 0x00000001) := by decide +kernel

/-- After the leaf has stamped epoch 1 and consumed entry 0: the bytes 12 0A 00 10 and DW1. -/
theorem test_header_words_forwarded :
    ({ bf16Pkt with epoch := 1, hopPtr := 1 }.hdrBytes.take 4, fld (leNat { bf16Pkt with epoch := 1, hopPtr := 1 }.hdrBytes) 32 32) =
      ([0x12, 0x0A, 0x00, 0x10], 0x0000902A) := by decide +kernel

/-- Epoch and hop_ptr are outside hdr_crc, the length is inside (R66). -/
theorem test_header_crc_exempt :
    { bf16Pkt with epoch := 1, hopPtr := 1 }.calcHdrCrc = bf16Pkt.calcHdrCrc ∧ { bf16Pkt with length := 4095 }.calcHdrCrc ≠ bf16Pkt.calcHdrCrc := by
  decide +kernel

/-- Its 4,168 bytes on the fibre, and the cell counts 17, 9 and 2 of chapter 5. -/
theorem test_wire_and_cells : wireLen 4096 = 4168 ∧ cellCount 4096 = 17 ∧ cellCount 2048 = 9 ∧ cellCount 256 = 2 := by decide

/-- Chapter 4's flip: hall 1 and row 5 match, rack 12 differs from rack 63, so dimension 2 decides the hop. -/
theorem test_dimension_hop : (up [(TRV_SELF_endpoint, [0x117F00])]).dimHop 0x114C39 0 5 = some 2 := by decide +kernel

/-- Chapter 16's descriptor: FWD00's table command 0x0122 on DIM key 0x548C with 0x8300. -/
def dimRaw : List Byte :=
  leBytes 4 0x01014004 ++ leBytes 4 0x00000200 ++ leBytes 8 0x548C ++ leBytes 8 0x0122 ++ List.replicate 8 0 ++ leBytes 8 0x8300 ++ List.replicate 88 0

/-- Its writes in order: the key, the data, the command. -/
theorem test_descriptor_writes :
    (descOf dimRaw).writes = [(0x210, 0x548C), (0x220, 0x8300), (0x200, 0x0122)] ∧ (descOf dimRaw).page = 0x40 ∧ (descOf dimRaw).opcode = 4 ∧
      (descOf dimRaw).irq = true := by decide +kernel

/-- The ring that carries it out writes bank 1 of rack entry 12. -/
theorem test_descriptor_runs :
    (nextOf { up [ck 0x40] with hif := { rings := [(2, { run := some { raw := dimRaw }, idx := 5 })] } } (.table 2 {} [])).tget TB_DIM 1 0x548C 0 = 0x8300 := by
  decide +kernel

/-- Chapter 7, element 5: MXFP8 0.625, BF16 −0.25 and 2^-7 sum to 0x6200_0000 at bits [191:128] and read 0x3EC4 exactly. -/
def el5 : Accum := ((((({} : Accum).add 0 (decodeNum 3 0x7A5A) false).1.add 0 (decodeNum 1 0xBE80) false).1).add 0 (decodeNum 1 0x3C00) false).1

theorem test_sum_element_5 : el5.x = 0x62000000 * 2 ^ 128 ∧ readLanes 1 [el5.resolve] 0 false [0] = [(0x3EC4, 0)] := by decide +kernel

/-- Element 6: 3 + 2^-14 reads 0x4040 with INX under RNE and 0x4041 under RUP. -/
def el6 : Accum := ((((({} : Accum).add 0 (decodeNum 3 0x7A01) false).1.add 0 (decodeNum 1 0x4000) false).1).add 0 (decodeNum 1 0x3F80) false).1

theorem test_sum_element_6 :
    el6.x = 0x0000000300040000 * 2 ^ 128 ∧ readLanes 1 [el6.resolve] 0 false [0] = [(0x4040, sINX)] ∧ readLanes 1 [el6.resolve] 2 false [0] = [(0x4041, sINX)] := by
  decide +kernel

/-- Elements 7 and 8: three −0 give −0; −0, 1 and −1 give +0. -/
theorem test_sum_zeros :
    readLanes 1 [((((({} : Accum).add 0 (decodeNum 3 0x7A80) false).1.add 0 (decodeNum 1 0x8000) false).1).add 0 (decodeNum 1 0x8000) false).1.resolve] 0 false [0] = [(0x8000, 0)] ∧
    readLanes 1 [((((({} : Accum).add 0 (decodeNum 3 0x7A80) false).1.add 0 (decodeNum 1 0x3F80) false).1).add 0 (decodeNum 1 0xBF80) false).1.resolve] 0 false [0] = [(0x0000, 0)] := by
  decide +kernel

/-- Chapter 7, the dot product: five products and the status bits each meets. -/
def dotStep (a : Accum × Nat) (p : Nat × Nat) : Accum × Nat :=
  let r := a.1.addProd (decodeNum 0 p.1) (decodeNum 0 p.2) false
  (r.1, a.2 ||| r.2)

/-- The first two overflow to +Inf; the accumulator ends at 2.25 with NAN and PINF and reads the canonical NaN. -/
theorem test_dot_product :
    let r := [(0x3FC00000, 0x40000000), (0x71800000, 0x5D800000), (0x7FC12345, 0x3F800000), (0xBE800000, 0x40800000), (0x3F000000, 0x3F000000)].foldl dotStep ({}, 0)
    r.1.x = 0x0000000240000000 * 2 ^ 128 ∧ r.1.st = aSEEN ||| aNAN ||| aPINF ∧ readLanes 0 [r.1.resolve] 0 false [0] = [(0x7FC00000, 0)] := by decide +kernel

/-- Without the NaN the lane reads +Inf. -/
theorem test_dot_product_inf :
    let r := [(0x3FC00000, 0x40000000), (0x71800000, 0x5D800000), (0xBE800000, 0x40800000), (0x3F000000, 0x3F000000)].foldl dotStep ({}, 0)
    r.2 = sOVF ∧ readLanes 0 [r.1.resolve] 0 false [0] = [(0x7F800000, 0)] := by decide +kernel

/-- Chapter 8's kernel: every encoding is legal, and a wrong opcode or a branch out of the image is found. -/
theorem test_kernel_encodings :
    [0x200200007C000000, 0x200200007C001D80, 0x0800000000000000, 0x644900108000001C, 0x634A4000800FFFFF, 0x300012A010000000, 0x8000100010000000].map (instrFault 97) =
      [0, 0, 0, 0, 0, 0, 0] ∧ instrFault 97 0xFF00000000000000 = 3 := by decide +kernel

/-- Its XSH X9 ← X4 SHR 28 at piece record 0x213 << 28. -/
theorem test_xsh_example :
    (((nextOf (runUp { invOf 3 with x := [(4, 0x2130000000)] } 0x644900108000001C [] []) (.xsh 67)).core 67).inv.map fun i => (i.sx 9, i.pc)) = some ((0x213, false), 1) := by
  decide +kernel

/-- Chapter 9: s = DIV(1.0, 1.5) = 0x3F2A_AAAB, and 0.75 s rounds to 0.5. -/
theorem test_norm_arithmetic : (fDiv 0x3F800000 0x3FC00000 0).1 = 0x3F2AAAAB ∧ (fMul 0x3F400000 0x3F2AAAAB 0).1 = 0x3F000000 := by decide +kernel

/-- Chapter 15: 0x8000_0003 has check 0x6E and lies on MEM5 at word 1 of its block. -/
theorem test_code_word : eccCheck 0x80000003 = 0x6E ∧ memDev 0x100000104 = 5 := by decide

/-- The outcomes of its table. -/
theorem test_code_outcomes :
    eccDecode 0x00000003 (eccCheck 0x00000003 ^^^ 0x6E) = (.corrected, 0x80000003) ∧ eccDecode 0x80000003 (eccCheck 0x80000003 ^^^ 0x66) = (.corrected, 0x80000003) ∧
      (eccDecode 0x80000000 (eccCheck 0x80000000 ^^^ 0x6E)).1 ≠ .corrected ∧ eccCheck 0x80000000 ^^^ 0x6E = 0x0C ∧ eccCheck 0 ^^^ 0x7F = 0x7F := by decide

/-- Chapter 18's levels, shift 2: queues of 0, 300, 20, 185,000 and 9 cells, and a port that is down. -/
theorem test_levels :
    let s := up [(TEL_CFG_shift, [2]), (LP_CFG_enable, [1, 0, 1]), (LP_CFG_link_up, [1, 0, 1])]
    s.level 1 = 0 ∧ s.level 38 = 15 ∧ (min 14 (max 1 (flog2 300 + 1 - 2)), min 14 (max 1 (flog2 20 + 1 - 2)), min 14 (max 1 (flog2 185000 + 1 - 2)), min 14 (max 1 (flog2 9 + 1 - 2))) = (7, 3, 14, 2) := by
  decide +kernel

/-- SHAKE256 of the empty string (FIPS 202), first eight bytes. -/
theorem test_shake256 : shake256 [] 8 = [0x46, 0xB9, 0xDD, 0x2B, 0x0B, 0xA8, 0x8D, 0x13] := by decide +kernel

/-- A doorbell beyond the ring is refused: the tail stays (R437). -/
theorem test_doorbell_beyond : (nextOf (up [ck 0]) (.doorbell 2 { v := 16 })).rd HIF_RQ_TAIL_tail 2 = 0 := by decide +kernel

/-- A doorbell inside it moves the tail. -/
theorem test_doorbell : (nextOf (up [ck 0]) (.doorbell 2 { v := 6 })).rd HIF_RQ_TAIL_tail 2 = 6 := by decide +kernel

/-- A step takes the front command, here Bus Master Enable, and leaves the rest (the block's queue). -/
theorem test_step_front :
    (match step { up [] with pending := [.busMasterEnable true false, .supplyStop] } with
      | .next t => (t.busMaster, t.pins.pwrGood, t.pending.length)
      | _ => (true, false, 0)) = (false, true, 1) := by decide +kernel

/-- The supply stops: the module is dead, its registers gone (R480). -/
theorem test_supply_stop : (nextOf (up [ck 6]) .supplyStop).alive = false ∧ (nextOf (up [ck 6]) .supplyStop).regs = [] := by decide +kernel

/-- R325's Gray code: the bit pairs 01, 00, 01, 11, 10 from the least significant up are levels 1, 0, 1, 2, 3. -/
theorem test_pam4 : pam4 0b1011010001 = [1, 0, 1, 2, 3] := by decide +kernel

/-- Wrong symbols at x^6 and x^2 give the locator (1 + α^6 x)(1 + α^2 x) (R299's correction). -/
theorem test_rs_locates : rsLocate (rsSyndromes [1, 0, 0, 0, 1023, 0, 0]) = polyMul [1, gfExp 6] [1, gfExp 2] := by decide +kernel

/-- A short codeword has syndromes zero. -/
theorem test_rs_encodes : (rsSyndromes (rsEncode [1023, 1, 512])).all (· = 0) = true := by decide +kernel

/-! Witnesses: the hypotheses of every clause can be met. Without a witness are only clauses that rest on what Config leaves open: that a signature verifies (KernelStoreCommands' LOAD, SecurityCommands' images of code 0) and how long the certificate chain is. -/

/-- A state and operands that meet the hypotheses of StepRunsFrontCommand. -/
theorem witness_StepRunsFrontCommand :
    (∃ (s : State), s.pending = []) :=
  ⟨up [], by decide +kernel⟩

/-- Each clause of StepKeepsInvariant that has hypotheses: a state and operands that meet them. -/
theorem witness_StepKeepsInvariant :
    (∃ (s : State) (t : State), Memory.wf s.mem.data = true ∧ step s = .next t) ∧
    (∃ (s : State) (t : State), s.fclk < clkWrap ∧ step s = .next t) ∧
    (∃ (s : State) (t : State), step s = .next t) :=
  ⟨⟨{ up [] with pending := [.smbusRead 0 true] }, up [], by decide +kernel, rfl⟩,
   ⟨{ up [] with pending := [.smbusRead 0 true] }, up [], by decide +kernel, rfl⟩,
   ⟨{ up [] with pending := [.smbusRead 0 true] }, up [], rfl⟩⟩

/-- Each clause of HeaderImageRoundTrips that has hypotheses: a state and operands that meet them. -/
theorem witness_HeaderImageRoundTrips :
    (∃ (bs : List Byte), bs.length = 64) ∧
    (∃ (p : Pkt), p.fits) :=
  ⟨⟨List.replicate 64 0, by decide +kernel⟩,
   ⟨{ waybill := List.replicate 8 0 }, by (unfold Pkt.fits; decide)⟩⟩

/-- Each clause of CommandsCompleteAndDeadModuleRests that has hypotheses: a state and operands that meet them. -/
theorem witness_CommandsCompleteAndDeadModuleRests :
    (∃ (s : State), (s.busOk = true ∨ s.alive = false)) ∧
    (∃ (c : Instr) (s : State) (f : Fault), exec c s = .fault f) ∧
    (∃ (c : Instr) (s : State), s.alive = false ∧ (∀ mv cur watts temp, c ≠ .vinSample mv cur watts temp) ∧ (∀ what w, c ≠ .smbusRead what w) ∧ (∀ trst tms, c ≠ .boundaryScan trst tms) ∧ (∀ x, c ≠ .startUp x) ∧ c ≠ .perstAssert ∧ c ≠ .thermalTrip ∧ c ≠ .supplyStop ∧ c ≠ .softStart) :=
  ⟨⟨up [], by decide +kernel⟩,
   ⟨.cmdSet, { up [] with rbusDiv := 0 }, .busUnspecified, rfl⟩,
   ⟨.cmdSet, { up [] with alive := false }, by decide +kernel, fun _ _ _ _ h => Instr.noConfusion h, fun _ _ h => Instr.noConfusion h, fun _ _ h => Instr.noConfusion h, fun _ h => Instr.noConfusion h, fun h => Instr.noConfusion h, fun h => Instr.noConfusion h, fun h => Instr.noConfusion h, fun h => Instr.noConfusion h⟩⟩

/-- Each clause of TimePortsExchange that has hypotheses: a state and operands that meet them. -/
theorem witness_TimePortsExchange :
    (∃ (s : State) (f : Nat), s.alive = true ∧ f < 64 ∧ s.bypassed f = false ∧ s.role f = 1 ∧ s.due (s.ptp f).syncAt (s.rdI TIM_INTERVALS_log_sync) = true) ∧
    (∃ (s : State) (f : Nat), s.alive = true ∧ f < 64 ∧ s.bypassed f = false ∧ s.role f ≠ 0 ∧ s.due (s.ptp f).pdelayAt (s.rdI TIM_INTERVALS_log_pdelay) = true) ∧
    (∃ (s : State) (f : Nat), s.alive = true ∧ f < 64 ∧ s.bypassed f = false ∧ s.role f = 1 ∧ s.due (s.ptp f).announceAt (s.rdI TIM_INTERVALS_log_announce) = true) ∧
    (∃ (s : State) (f : Nat) (m : PtpMsg), s.alive = true ∧ f < 64 ∧ m.seq < 65536 ∧ m.src < 2 ^ 80 ∧ s.bypassed f = false ∧ s.role f ≠ 0) ∧
    (∃ (s : State) (f : Nat), s.alive = true ∧ f < 64 ∧ s.bypassed f = false ∧ s.role f = 2) ∧
    (∃ (s : State) (f : Nat) (seq : Nat) (c : Nat) (corr : Int) (t1p : Int) (m : PtpMsg), s.alive = true ∧ f < 64 ∧ m.seq = seq ∧ m.corr = corr ∧ seq < 65536 ∧ s.bypassed f = false ∧ s.role f ≠ 0 ∧ (s.ptp f).reqs.find? (fun q => q.2.2 = seq) = some (t1p, c, seq) ∧ (¬((s.ptp f).hist.length ≠ 0 ∧ 20 * 65536 * (s.ptp f).hist.length < (((s.ptp f).hist.length : Int) * (s.t16 - t1p - corr) - (s.ptp f).hist.sum).natAbs))) ∧
    (∃ (s : State) (f : Nat) (seq : Nat) (c : Nat) (corr : Int) (t1p : Int) (m : PtpMsg), s.alive = true ∧ f < 64 ∧ m.seq = seq ∧ m.corr = corr ∧ seq < 65536 ∧ s.bypassed f = false ∧ s.role f ≠ 0 ∧ (s.ptp f).reqs.find? (fun q => q.2.2 = seq) = some (t1p, c, seq) ∧ (s.ptp f).hist.length ≠ 0 ∧ 20 * 65536 * (s.ptp f).hist.length < (((s.ptp f).hist.length : Int) * (s.t16 - t1p - corr) - (s.ptp f).hist.sum).natAbs) ∧
    (∃ (s : State) (f : Nat), s.alive = true ∧ f < 64 ∧ s.bypassed f = false) ∧
    (∃ (s : State) (f : Nat), s.alive = true ∧ f < 64 ∧ s.bypassed f = false ∧ s.role f = 2) ∧
    (∃ (s : State) (f : Nat) (c : Nat) (q : Nat) (t1p : Int), s.alive = true ∧ f < 64 ∧ (s.ptp f).reqs.getLast? = some (t1p, c, q) ∧ s.passed c (s.rdI TIM_INTERVALS_log_pdelay) 3 = true) ∧
    (∃ (s : State), s.alive = true ∧ s.rd TIM_STATE_state = 2 ∧ s.passed s.tim.lastSync (s.rdI TIM_INTERVALS_log_sync) 3 = true) :=
  ⟨⟨up [(TIM_PORT_role, [1, 0, 63])], 63, by decide +kernel, by decide +kernel, by decide +kernel, by decide +kernel, by decide +kernel⟩,
   ⟨up [(TIM_PORT_role, [2, 0, 63])], 63, by decide +kernel, by decide +kernel, by decide +kernel, by decide +kernel, by decide +kernel⟩,
   ⟨up [(TIM_PORT_role, [1, 0, 0])], 0, by decide +kernel, by decide +kernel, by decide +kernel, by decide +kernel, by decide +kernel⟩,
   ⟨up [(TIM_PORT_role, [1, 0, 0])], 0, { seq := 65535 }, by decide +kernel, by decide +kernel, by decide +kernel, by decide +kernel, by decide +kernel, by decide +kernel⟩,
   ⟨up [(TIM_PORT_role, [2, 0, 63])], 63, by decide +kernel, by decide +kernel, by decide +kernel, by decide +kernel⟩,
   ⟨{ up [(TIM_PORT_role, [1, 0, 63])] with tim := { ports := [(63, { reqs := [(7, 3, 65535)] })] } }, 63, 65535, 3, 0, 7, { seq := 65535 }, by decide +kernel, by decide +kernel, by decide +kernel, by decide +kernel, by decide +kernel, by decide +kernel, by decide +kernel, by decide +kernel, by decide +kernel⟩,
   ⟨{ up [(TIM_PORT_role, [1, 0, 0])] with tim := { ports := [(0, { reqs := [(7, 3, 0)], hist := [0] })] } }, 0, 0, 3, 0, 7, { seq := 0 }, by decide +kernel, by decide +kernel, by decide +kernel, by decide +kernel, by decide +kernel, by decide +kernel, by decide +kernel, by decide +kernel, by decide +kernel, by decide +kernel⟩,
   ⟨up [], 63, by decide +kernel, by decide +kernel, by decide +kernel⟩,
   ⟨up [(TIM_PORT_role, [2, 0, 63])], 63, by decide +kernel, by decide +kernel, by decide +kernel, by decide +kernel⟩,
   ⟨{ up [] with tim := { ports := [(5, { reqs := [(7, 3, 9)] })] } }, 5, 3, 9, 7, by decide +kernel, by decide +kernel, by decide +kernel, by decide +kernel⟩,
   ⟨up [(TIM_STATE_state, [2])], by decide +kernel, by decide +kernel, by decide +kernel⟩⟩

/-- Each clause of TimeHostAccesses that has hypotheses: a state and operands that meet them. -/
theorem witness_TimeHostAccesses :
    (∃ (s : State), s.served 4 0x110) ∧
    (∃ (s : State), s.served 4 0x130 ∧ s.rd TIM_SET_NS_ns_frac / 65536 < 10 ^ 9) ∧
    (∃ (s : State), s.served 4 0x130 ∧ 0 ≤ (s.fclk : Int) + s.rdI TIM_STEP_ADJ_adj * 2 ^ 32 ∧ (s.fclk : Int) + s.rdI TIM_STEP_ADJ_adj * 2 ^ 32 < clkWrap) ∧
    (∃ (s : State), s.served 4 0x130 ∧ ((s.fclk : Int) + s.rdI TIM_STEP_ADJ_adj * 2 ^ 32 < 0 ∨ (clkWrap : Int) ≤ (s.fclk : Int) + s.rdI TIM_STEP_ADJ_adj * 2 ^ 32)) ∧
    (∃ (s : State), s.served 4 0x140 ∧ s.flag TIM_CTRL_servo_en = false) ∧
    (∃ (s : State), s.served 4 0x140 ∧ s.flag TIM_CTRL_servo_en = true) ∧
    (∃ (s : State), s.served 4 0x100) ∧
    (∃ (s : State) (p : Nat) (w : Wr), p < 64 ∧ s.served 4 (0x400 + 8 * p) ∧ (¬(w.merge 0 2 (s.rd TIM_PORT_role 0 p) = 2 ∧ s.rd TIM_PORT_role 0 p ≠ 2 ∧ s.slaves ≠ []))) ∧
    (∃ (s : State) (p : Nat) (w : Wr), p < 64 ∧ s.served 4 (0x400 + 8 * p) ∧ w.merge 0 2 (s.rd TIM_PORT_role 0 p) = 2 ∧ s.rd TIM_PORT_role 0 p ≠ 2 ∧ s.slaves ≠ []) :=
  ⟨⟨up [], ⟨rfl, rfl, rfl, rfl⟩⟩,
   ⟨up [], ⟨rfl, rfl, rfl, rfl⟩, by decide +kernel⟩,
   ⟨up [], ⟨rfl, rfl, rfl, rfl⟩, by decide +kernel, by decide +kernel⟩,
   ⟨up [(TIM_STEP_ADJ_adj, [2 ^ 63])], ⟨rfl, rfl, rfl, rfl⟩, .inl (by decide +kernel)⟩,
   ⟨up [(TIM_CTRL_servo_en, [0])], ⟨rfl, rfl, rfl, rfl⟩, by decide +kernel⟩,
   ⟨up [(TIM_CTRL_servo_en, [1])], ⟨rfl, rfl, rfl, rfl⟩, by decide +kernel⟩,
   ⟨up [], ⟨rfl, rfl, rfl, rfl⟩⟩,
   ⟨up [], 63, { v := 0 }, by decide +kernel, ⟨rfl, rfl, rfl, rfl⟩, by decide +kernel⟩,
   ⟨up [(TIM_PORT_role, [2, 0, 0])], 63, { v := 2 }, by decide +kernel, ⟨rfl, rfl, rfl, rfl⟩, by decide +kernel, by decide +kernel, by decide +kernel⟩⟩

/-- Each clause of PulsesAndCaptures that has hypotheses: a state and operands that meet them. -/
theorem witness_PulsesAndCaptures :
    (∃ (s : State) (n : Nat) (e : Nat), s.alive = true ∧ n < 4 ∧ s.tim.tpoEnd.getD n none = some e ∧ e ≤ s.cyc) ∧
    (∃ (s : State) (u : State) (m : Nat) (rising : Bool), s.alive = true ∧ m < 2 ∧ s.flag TIM_TCAP_CFG_enable 0 m = true ∧ bit (s.rd TIM_TCAP_CFG_edge 0 m) (if rising then 0 else 1) = true ∧ (s.tim.holdEnd.getD m none).any (s.cyc < ·) = false ∧ u = { s with tim := { s.tim with holdEnd := s.tim.holdEnd.set m (some (s.cyc + 40)) } } ∧ (s.tim.fifo.getD m []).length < 4) ∧
    (∃ (s : State) (u : State) (m : Nat) (rising : Bool), s.alive = true ∧ m < 2 ∧ s.flag TIM_TCAP_CFG_enable 0 m = true ∧ bit (s.rd TIM_TCAP_CFG_edge 0 m) (if rising then 0 else 1) = true ∧ (s.tim.holdEnd.getD m none).any (s.cyc < ·) = false ∧ u = { s with tim := { s.tim with holdEnd := s.tim.holdEnd.set m (some (s.cyc + 40)) } } ∧ 4 ≤ (s.tim.fifo.getD m []).length) ∧
    (∃ (s : State) (m : Nat) (rising : Bool), s.alive = true ∧ m < 2 ∧ s.flag TIM_TCAP_CFG_enable 0 m = true ∧ bit (s.rd TIM_TCAP_CFG_edge 0 m) (if rising then 0 else 1) = true ∧ (s.tim.holdEnd.getD m none).any (s.cyc < ·) = true) ∧
    (∃ (s : State) (m : Nat) (e : Nat), s.alive = true ∧ m < 2 ∧ s.tim.holdEnd.getD m none = some e ∧ e ≤ s.cyc) ∧
    (∃ (s : State) (m : Nat) (z : WSize) (r : Bool) (sec : Nat) (nf : Nat) (q : List (Bool × Nat × Nat)), m < 2 ∧ z ≠ .lo4 ∧ s.served 4 (0x308 + 0x20 * m) ∧ s.tim.fifo.getD m [] = (r, sec, nf) :: q ∧ m < s.tim.fifo.length) ∧
    (∃ (s : State) (n : Nat), n < 3 ∧ s.served 4 (0x200 + 8 * n)) ∧
    (∃ (s : State) (u : State) (w : Wr), s.served 4 0x218 ∧ u = (((s.event 4 4).put TIM_TPO_CFG_polarity w 0 3).put TIM_TPO_CFG_width w 0 3).put TIM_TPO_CFG_enable w 0 3 ∧ s.rd TIM_TPO_CFG_enable 0 3 = 0 ∧ w.merge 0 1 0 = 1 ∧ s.rd TIM_PIN_OWN_tpo3_owner = 2 ∧ s.tim.obsAt ≠ some s.cyc) ∧
    (∃ (s : State) (u : State) (w : Wr), s.served 4 0x218 ∧ u = (((s.event 4 4).put TIM_TPO_CFG_polarity w 0 3).put TIM_TPO_CFG_width w 0 3).put TIM_TPO_CFG_enable w 0 3 ∧ s.rd TIM_TPO_CFG_enable 0 3 = 0 ∧ w.merge 0 1 0 = 1 ∧ s.rd TIM_PIN_OWN_tpo3_owner = 2 ∧ s.tim.obsAt = some s.cyc) ∧
    (∃ (s : State) (u : State) (w : Wr), s.served 4 0x218 ∧ u = (((s.event 4 4).put TIM_TPO_CFG_polarity w 0 3).put TIM_TPO_CFG_width w 0 3).put TIM_TPO_CFG_enable w 0 3 ∧ s.rd TIM_TPO_CFG_enable 0 3 = 0 ∧ w.merge 0 1 0 = 1 ∧ s.rd TIM_PIN_OWN_tpo3_owner ≠ 2) ∧
    (∃ (s : State) (u : State) (w : Wr), s.served 4 0x218 ∧ u = (((s.event 4 4).put TIM_TPO_CFG_polarity w 0 3).put TIM_TPO_CFG_width w 0 3).put TIM_TPO_CFG_enable w 0 3 ∧ s.rd TIM_TPO_CFG_enable 0 3 = 1 ∧ w.merge 0 1 1 = 0 ∧ s.rd TIM_PIN_OWN_tpo3_owner = 1) ∧
    (∃ (s : State) (u : State) (w : Wr), s.served 4 0x218 ∧ u = (((s.event 4 4).put TIM_TPO_CFG_polarity w 0 3).put TIM_TPO_CFG_width w 0 3).put TIM_TPO_CFG_enable w 0 3 ∧ w.merge 0 1 (s.rd TIM_TPO_CFG_enable 0 3) = s.rd TIM_TPO_CFG_enable 0 3) :=
  ⟨⟨{ up [] with tim := { tpoEnd := [none, none, none, some 5] } }, 3, 5, by decide +kernel, by decide +kernel, by decide +kernel, by decide +kernel⟩,
   ⟨up [(TIM_TCAP_CFG_enable, [1, 0, 1]), (TIM_TCAP_CFG_edge, [3, 0, 1])], _, 1, true, by decide +kernel, by decide +kernel, by decide +kernel, by decide +kernel, by decide +kernel, rfl, by decide +kernel⟩,
   ⟨{ up [(TIM_TCAP_CFG_enable, [1, 0, 1]), (TIM_TCAP_CFG_edge, [3, 0, 1])] with tim := { fifo := [[], List.replicate 4 (true, 1, 2)] } }, _, 1, false, by decide +kernel, by decide +kernel, by decide +kernel, by decide +kernel, by decide +kernel, rfl, by decide +kernel⟩,
   ⟨{ up [(TIM_TCAP_CFG_enable, [1, 0, 1]), (TIM_TCAP_CFG_edge, [3, 0, 1])] with tim := { holdEnd := [none, some (10 ^ 14)] } }, 1, false, by decide +kernel, by decide +kernel, by decide +kernel, by decide +kernel, by decide +kernel⟩,
   ⟨{ up [] with tim := { holdEnd := [none, some 5] } }, 1, 5, by decide +kernel, by decide +kernel, by decide +kernel, by decide +kernel⟩,
   ⟨{ up [] with tim := { fifo := [[], [(true, 1, 2)]] } }, 1, .w8, true, 1, 2, [], by decide +kernel, by decide +kernel, ⟨rfl, rfl, rfl, rfl⟩, by decide +kernel, by decide +kernel⟩,
   ⟨up [], 2, by decide +kernel, ⟨rfl, rfl, rfl, rfl⟩⟩,
   ⟨up [(TIM_PIN_OWN_tpo3_owner, [2])], _, { v := 1 }, ⟨rfl, rfl, rfl, rfl⟩, rfl, by decide +kernel, by decide +kernel, by decide +kernel, by decide +kernel⟩,
   ⟨{ up [(TIM_PIN_OWN_tpo3_owner, [2])] with tim := { obsAt := some (10 ^ 13) } }, _, { v := 1 }, ⟨rfl, rfl, rfl, rfl⟩, rfl, by decide +kernel, by decide +kernel, by decide +kernel, by decide +kernel⟩,
   ⟨up [(TIM_PIN_OWN_tpo3_owner, [1])], _, { v := 1 }, ⟨rfl, rfl, rfl, rfl⟩, rfl, by decide +kernel, by decide +kernel, by decide +kernel⟩,
   ⟨up [(TIM_PIN_OWN_tpo3_owner, [1]), (TIM_TPO_CFG_enable, [1, 0, 3])], _, { v := 0 }, ⟨rfl, rfl, rfl, rfl⟩, rfl, by decide +kernel, by decide +kernel, by decide +kernel⟩,
   ⟨up [], _, { v := 0 }, ⟨rfl, rfl, rfl, rfl⟩, rfl, by decide +kernel⟩⟩

/-- Each clause of CairnUnitsArmAndCancel that has hypotheses: a state and operands that meet them. -/
theorem witness_CairnUnitsArmAndCancel :
    (∃ (s : State) (n : Nat), n < 32 ∧ s.served 5 (0x1028 + 0x40 * n) ∧ s.isFw n = false ∧ s.armed n = false ∧ s.armInvalid n = false) ∧
    (∃ (s : State) (n : Nat) (alsoCancel : Bool), n < 32 ∧ s.served 5 (0x1028 + 0x40 * n) ∧ (s.isFw n = true ∨ alsoCancel = true ∨ s.armed n = true)) ∧
    (∃ (s : State) (n : Nat), n < 32 ∧ s.served 5 (0x1028 + 0x40 * n) ∧ s.isFw n = false ∧ s.armed n = true) ∧
    (∃ (s : State) (n : Nat), n < 32 ∧ s.served 5 (0x1028 + 0x40 * n) ∧ s.isFw n = false ∧ s.armed n = false) ∧
    (∃ (s : State) (n : Nat), n < 32 ∧ s.served 5 (0x1028 + 0x40 * n) ∧ s.isFw n = true) ∧
    (∃ (s : State) (n : Nat), n < 32 ∧ s.served 5 (0x1028 + 0x40 * n) ∧ s.isFw n = false ∧ s.armed n = false ∧ s.armInvalid n = true) ∧
    (∃ (s : State) (n : Nat), s.alive = true ∧ n < 32 ∧ s.armed n = true ∧ (s.cu n).judged = false ∧ (s.cu n).effAt ≤ s.cyc ∧ s.fclk < s.instant n) ∧
    (∃ (s : State) (n : Nat), s.alive = true ∧ n < 32 ∧ s.armed n = true ∧ (s.cu n).judged = false ∧ (s.cu n).effAt ≤ s.cyc ∧ s.instant n ≤ s.fclk) ∧
    (∃ (s : State) (n : Nat), n < 32 ∧ s.isFw n = false ∧ s.armed n = false ∧ ((∀ k, k < 5 → s.served 5 (0x1000 + 0x40 * n + 8 * k)))) ∧
    (∃ (s : State) (n : Nat) (k : Nat), n < 32 ∧ k < 5 ∧ (s.isFw n = true ∨ s.armed n = true) ∧ s.served 5 (0x1000 + 0x40 * n + 8 * k)) ∧
    (∃ (s : State) (w : Wr), s.served 5 0x100 ∧ w.merge 0 6 (s.rd CRN_CTRL_fw_units) ≤ 32 ∧ ((∀ n, n < 32 → s.armed n = true → (32 ≤ n + s.rd CRN_CTRL_fw_units ↔ 32 ≤ n + w.merge 0 6 (s.rd CRN_CTRL_fw_units))))) ∧
    (∃ (s : State) (w : Wr) (n : Nat), s.served 5 0x100 ∧ n < 32 ∧ (32 < w.merge 0 6 (s.rd CRN_CTRL_fw_units) ∨ s.armed n = true ∧ ¬(32 ≤ n + s.rd CRN_CTRL_fw_units ↔ 32 ≤ n + w.merge 0 6 (s.rd CRN_CTRL_fw_units)))) ∧
    (∃ (s : State) (a : FwAction) (r : List FwAction), s.alive = true ∧ s.fwq = a :: r ∧ s.idleFw ≠ none ∧ s.atMicro = true) :=
  ⟨⟨up [], 0, by decide +kernel, ⟨rfl, rfl, rfl, rfl⟩, by decide +kernel, by decide +kernel, by decide +kernel⟩,
   ⟨up [], 31, true, by decide +kernel, ⟨rfl, rfl, rfl, rfl⟩, .inr (.inl rfl)⟩,
   ⟨up [(CRN_U_STATUS_state, [1, 0, 3])], 3, by decide +kernel, ⟨rfl, rfl, rfl, rfl⟩, by decide +kernel, by decide +kernel⟩,
   ⟨up [], 3, by decide +kernel, ⟨rfl, rfl, rfl, rfl⟩, by decide +kernel, by decide +kernel⟩,
   ⟨up [(CRN_CTRL_fw_units, [1])], 31, by decide +kernel, ⟨rfl, rfl, rfl, rfl⟩, by decide +kernel⟩,
   ⟨up [(CRN_U_ACTION_class, [14, 0, 0])], 0, by decide +kernel, ⟨rfl, rfl, rfl, rfl⟩, by decide +kernel, by decide +kernel, by decide +kernel⟩,
   ⟨up [(CRN_U_STATUS_state, [1, 0, 3]), (CRN_U_SEC_sec, [9999, 0, 3])], 3, by decide +kernel, by decide +kernel, by decide +kernel, by decide +kernel, by decide +kernel, by decide +kernel⟩,
   ⟨up [(CRN_U_STATUS_state, [1, 0, 31])], 31, by decide +kernel, by decide +kernel, by decide +kernel, by decide +kernel, by decide +kernel, by decide +kernel⟩,
   ⟨up [], 5, by decide +kernel, by decide +kernel, by decide +kernel, fun k hk => ⟨rfl, rfl, rfl, by (match k, hk with | 0, _ => decide | 1, _ => decide | 2, _ => decide | 3, _ => decide | 4, _ => decide)⟩⟩,
   ⟨up [(CRN_U_STATUS_state, [1, 0, 31])], 31, 4, by decide +kernel, by decide +kernel, .inr (by decide +kernel), ⟨rfl, rfl, rfl, rfl⟩⟩,
   ⟨up [], { v := 32 }, ⟨rfl, rfl, rfl, rfl⟩, by decide +kernel, fun n h a => absurd a (by revert n; decide +kernel)⟩,
   ⟨up [], { v := 33 }, 0, ⟨rfl, rfl, rfl, rfl⟩, by decide +kernel, .inl (by decide +kernel)⟩,
   ⟨{ up [(CRN_CTRL_fw_units, [1])] with fwq := [{ cls := 0, arg := 0, lead := 0 }] }, { cls := 0, arg := 0, lead := 0 }, [], by decide +kernel, by decide +kernel, by decide +kernel, by decide +kernel⟩⟩

/-- A state and operands that meet the hypotheses of CairnFireSchedulesItsEffect. -/
theorem witness_CairnFireSchedulesItsEffect :
    (∃ (s : State) (n : Nat) (limit : Nat), s.alive = true ∧ n < 32 ∧ s.armed n = true ∧ (s.cu n).judged = true ∧ s.nextInst n ≤ s.fclk ∧ limit = (if s.uperiod n = 0 then 1 else s.rd CRN_U_COUNT_count 0 n) ∧ (limit = 0 ∨ (s.cu n).k < limit)) :=
  ⟨{ up [(CRN_U_STATUS_state, [1, 0, 3])] with crn := [(3, { judged := true })] }, 3, _, by decide +kernel, by decide +kernel, by decide +kernel, by decide +kernel, by decide +kernel, rfl, .inr (by decide +kernel)⟩

/-- Each clause of CairnEffectsReachTheirTargets that has hypotheses: a state and operands that meet them. -/
theorem witness_CairnEffectsReachTheirTargets :
    (∃ (s : State) (u : Nat) (e : _), s.alive = true ∧ u < 32 ∧ s.effDue u 0 = some e) ∧
    (∃ (s : State) (u : Nat) (e : _), s.alive = true ∧ u < 32 ∧ s.effDue u 1 = some e ∧ s.flag TIM_TPO_CFG_enable 0 (e.arg % 4) = true ∧ s.tim.tpoEnd.getD (e.arg % 4) none = none) ∧
    (∃ (s : State) (u : Nat) (e : _) (x : _), s.alive = true ∧ u < 32 ∧ s.effDue u 1 = some e ∧ s.flag TIM_TPO_CFG_enable 0 (e.arg % 4) = true ∧ s.tim.tpoEnd.getD (e.arg % 4) none = some x) ∧
    (∃ (s : State) (u : Nat) (e : _), s.alive = true ∧ u < 32 ∧ s.effDue u 1 = some e ∧ s.flag TIM_TPO_CFG_enable 0 (e.arg % 4) = false) ∧
    (∃ (s : State) (u : Nat) (e : _), s.alive = true ∧ u < 32 ∧ s.effDue u 2 = some e) ∧
    (∃ (s : State) (u : Nat) (e : _), s.alive = true ∧ u < 32 ∧ s.effDue u 3 = some e) ∧
    (∃ (s : State) (u : Nat) (e : _), s.alive = true ∧ u < 32 ∧ s.effDue u 4 = some e) ∧
    (∃ (s : State) (u : Nat) (e : _), s.alive = true ∧ u < 32 ∧ s.effDue u 5 = some e) ∧
    (∃ (s : State) (u : Nat) (e : _), s.alive = true ∧ u < 32 ∧ s.effDue u 6 = some e) ∧
    (∃ (s : State) (u : Nat) (e : _), s.alive = true ∧ u < 32 ∧ s.effDue u 7 = some e) ∧
    (∃ (s : State) (u : Nat) (e : _), s.alive = true ∧ u < 32 ∧ s.effDue u 8 = some e) ∧
    (∃ (s : State) (u : Nat) (e : _), s.alive = true ∧ u < 32 ∧ s.effDue u 9 = some e) ∧
    (∃ (s : State) (u : Nat) (e : _), s.alive = true ∧ u < 32 ∧ s.effDue u 10 = some e) ∧
    (∃ (s : State) (u : Nat) (e : _), s.alive = true ∧ u < 32 ∧ s.effDue u 11 = some e) ∧
    (∃ (s : State) (u : Nat) (e : _), s.alive = true ∧ u < 32 ∧ s.effDue u 12 = some e) ∧
    (∃ (s : State) (u : Nat) (e : _), s.alive = true ∧ u < 32 ∧ s.effDue u 13 = some e) :=
  ⟨⟨{ up [] with effs := [⟨31, 0, 5, 0, false⟩] }, 31, _, by decide +kernel, by decide +kernel, pick (by decide +kernel)⟩,
   ⟨{ up [(TIM_TPO_CFG_enable, [1, 0, 2])] with effs := [⟨31, 1, 2, 0, false⟩] }, 31, _, by decide +kernel, by decide +kernel, pick (by decide +kernel), by decide +kernel, by decide +kernel⟩,
   ⟨{ up [(TIM_TPO_CFG_enable, [1, 0, 2])] with effs := [⟨31, 1, 2, 0, false⟩], tim := { tpoEnd := [none, none, some 9, none] } }, 31, _, _, by decide +kernel, by decide +kernel, pick (by decide +kernel), by decide +kernel, pick (by decide +kernel)⟩,
   ⟨{ up [] with effs := [⟨31, 1, 2, 0, false⟩] }, 31, _, by decide +kernel, by decide +kernel, pick (by decide +kernel), by decide +kernel⟩,
   ⟨{ up [] with effs := [⟨31, 2, 2, 0, false⟩] }, 31, _, by decide +kernel, by decide +kernel, pick (by decide +kernel)⟩,
   ⟨{ up [] with effs := [⟨31, 3, 2, 0, false⟩] }, 31, _, by decide +kernel, by decide +kernel, pick (by decide +kernel)⟩,
   ⟨{ up [] with effs := [⟨31, 4, 2, 0, false⟩] }, 31, _, by decide +kernel, by decide +kernel, pick (by decide +kernel)⟩,
   ⟨{ up [] with effs := [⟨31, 5, 2, 0, false⟩] }, 31, _, by decide +kernel, by decide +kernel, pick (by decide +kernel)⟩,
   ⟨{ up [] with effs := [⟨31, 6, 2, 0, false⟩] }, 31, _, by decide +kernel, by decide +kernel, pick (by decide +kernel)⟩,
   ⟨{ up [] with effs := [⟨31, 7, 2, 0, false⟩] }, 31, _, by decide +kernel, by decide +kernel, pick (by decide +kernel)⟩,
   ⟨{ up [] with effs := [⟨31, 8, 2, 0, false⟩] }, 31, _, by decide +kernel, by decide +kernel, pick (by decide +kernel)⟩,
   ⟨{ up [] with effs := [⟨31, 9, 2, 0, false⟩] }, 31, _, by decide +kernel, by decide +kernel, pick (by decide +kernel)⟩,
   ⟨{ up [] with effs := [⟨31, 10, 2, 0, false⟩] }, 31, _, by decide +kernel, by decide +kernel, pick (by decide +kernel)⟩,
   ⟨{ up [] with effs := [⟨31, 11, 2, 0, false⟩] }, 31, _, by decide +kernel, by decide +kernel, pick (by decide +kernel)⟩,
   ⟨{ up [] with effs := [⟨31, 12, 2, 0, false⟩] }, 31, _, by decide +kernel, by decide +kernel, pick (by decide +kernel)⟩,
   ⟨{ up [] with effs := [⟨31, 13, 2, 0, false⟩] }, 31, _, by decide +kernel, by decide +kernel, pick (by decide +kernel)⟩⟩

/-- Each clause of ReturnTableCommands that has hypotheses: a state and operands that meet them. -/
theorem witness_ReturnTableCommands :
    (∃ (s : State) (u : State) (n : Nat) (w : _), n < 16 ∧ s.served (0x40 + n) 0x200 ∧ u = s.event (0x40 + n) 4 ∧ u.fwdKey n < 2 ^ 24 ∧ u.retFind n (u.fwdKey n) = some w) ∧
    (∃ (s : State) (u : State) (n : Nat), n < 16 ∧ s.served (0x40 + n) 0x200 ∧ u = s.event (0x40 + n) 4 ∧ u.fwdKey n < 2 ^ 24 ∧ u.retFind n (u.fwdKey n) = none) ∧
    (∃ (s : State) (u : State) (n : Nat) (b : _) (i : _) (e : _), n < 16 ∧ s.served (0x40 + n) 0x200 ∧ u = s.event (0x40 + n) 4 ∧ (b = (if u.flag FWD_TKEY_restart n = true ∨ u.rd FWD_TSTAT_cursor n = 2 ^ 32 - 1 then 0 else u.rd FWD_TSTAT_cursor n + 1)) ∧ (u.retList n).find? (fun (i, e) => decide (b ≤ i) && (bit e 49 && (!u.flag FWD_TKEY_f_slice n || fld e 34 12 = u.rd FWD_TKEY_slice n) && (!u.flag FWD_TKEY_f_port n || fld e 24 10 = u.rd FWD_TKEY_port n))) = some (i, e)) ∧
    (∃ (s : State) (u : State) (n : Nat) (b : _), n < 16 ∧ s.served (0x40 + n) 0x200 ∧ u = s.event (0x40 + n) 4 ∧ (b = (if u.flag FWD_TKEY_restart n = true ∨ u.rd FWD_TSTAT_cursor n = 2 ^ 32 - 1 then 0 else u.rd FWD_TSTAT_cursor n + 1)) ∧ (u.retList n).find? (fun (i, e) => decide (b ≤ i) && (bit e 49 && (!u.flag FWD_TKEY_f_slice n || fld e 34 12 = u.rd FWD_TKEY_slice n) && (!u.flag FWD_TKEY_f_port n || fld e 24 10 = u.rd FWD_TKEY_port n))) = none) ∧
    (∃ (s : State) (u : State) (n : Nat), n < 16 ∧ s.served (0x40 + n) 0x200 ∧ u = s.event (0x40 + n) 4) ∧
    (∃ (s : State) (u : State) (n : Nat) (w : _), n < 16 ∧ s.served (0x40 + n) 0x200 ∧ u = s.event (0x40 + n) 4 ∧ u.fwdKey n < 2 ^ 24 ∧ ((u.retFind n (u.fwdKey n) = some w ∨ u.retFind n (u.fwdKey n) = none ∧ u.retVictim n (retSet (u.fwdKey n)) = some w))) ∧
    (∃ (s : State) (u : State) (n : Nat), n < 16 ∧ s.served (0x40 + n) 0x200 ∧ u = s.event (0x40 + n) 4 ∧ u.fwdKey n < 2 ^ 24 ∧ u.retFind n (u.fwdKey n) = none ∧ u.retVictim n (retSet (u.fwdKey n)) = none) ∧
    (∃ (s : State) (u : State) (n : Nat) (all : _), n < 16 ∧ s.served (0x40 + n) 0x200 ∧ u = s.event (0x40 + n) 4 ∧ u.fwdKey n < 2 ^ 24 ∧ u.retFind n (u.fwdKey n) = none ∧ (all && n = 0) = false) ∧
    (∃ (s : State) (u : State) (n : Nat) (table : _), n < 16 ∧ s.served (0x40 + n) 0x200 ∧ u = s.event (0x40 + n) 4 ∧ 0 < table ∧ table < 16) ∧
    (∃ (s : State) (u : State) (n : Nat), n < 16 ∧ s.served (0x40 + n) 0x200 ∧ u = s.event (0x40 + n) 4 ∧ 2 ^ 24 ≤ u.fwdKey n) ∧
    (∃ (s : State) (u : State) (n : Nat), n < 16 ∧ s.served (0x40 + n) 0x200 ∧ u = s.event (0x40 + n) 4 ∧ n = 0 ∧ u.fwdKey n < 2 ^ 24) :=
  ⟨⟨(up [ck 0x4F, (FWD_TKEY_key, [0x123456, 15])]).retPut 15 (retSet 0x123456) 2 (retWord 0x123456 3 4 0 0), _, 15, _, by decide +kernel, ⟨rfl, rfl, rfl, rfl⟩, rfl, by decide +kernel, pick (by decide +kernel)⟩,
   ⟨up [ck 0x4F, (FWD_TKEY_key, [0x123456, 15])], _, 15, by decide +kernel, ⟨rfl, rfl, rfl, rfl⟩, rfl, by decide +kernel, by decide +kernel⟩,
   ⟨(up [ck 0x4F, (FWD_TKEY_restart, [1, 15])]).retPut 15 (retSet 0x123456) 2 (retWord 0x123456 3 4 0 0), _, 15, _, _, _, by decide +kernel, ⟨rfl, rfl, rfl, rfl⟩, rfl, rfl, pickP (by decide +kernel)⟩,
   ⟨up [ck 0x4F], _, 15, _, by decide +kernel, ⟨rfl, rfl, rfl, rfl⟩, rfl, rfl, by decide +kernel⟩,
   ⟨up [ck 0x4F], _, 15, by decide +kernel, ⟨rfl, rfl, rfl, rfl⟩, rfl⟩,
   ⟨up [ck 0x4F, (FWD_TKEY_key, [0x123456, 15])], _, 15, 0, by decide +kernel, ⟨rfl, rfl, rfl, rfl⟩, rfl, by decide +kernel, .inr (by decide +kernel)⟩,
   ⟨(List.range 4).foldl (fun s w => s.retPut 15 (retSet 0x123456) w (retWord (w + 1) 3 4 0 1)) (up [ck 0x4F, (FWD_TKEY_key, [0x123456, 15])]), _, 15, by decide +kernel, ⟨rfl, rfl, rfl, rfl⟩, rfl, by decide +kernel, by decide +kernel, by decide +kernel⟩,
   ⟨up [ck 0x4F, (FWD_TKEY_key, [0x123456, 15])], _, 15, false, by decide +kernel, ⟨rfl, rfl, rfl, rfl⟩, rfl, by decide +kernel, by decide +kernel, by decide +kernel⟩,
   ⟨up [ck 0x4F], _, 15, 15, by decide +kernel, ⟨rfl, rfl, rfl, rfl⟩, rfl, by decide +kernel, by decide +kernel⟩,
   ⟨up [ck 0x4F, (FWD_TKEY_key, [2 ^ 24, 15])], _, 15, by decide +kernel, ⟨rfl, rfl, rfl, rfl⟩, rfl, by decide +kernel⟩,
   ⟨up [ck 0x40], _, 0, by decide +kernel, ⟨rfl, rfl, rfl, rfl⟩, rfl, by decide +kernel, by decide +kernel⟩⟩

/-- Each clause of ConfigurationTableCommands that has hypotheses: a state and operands that meet them. -/
theorem witness_ConfigurationTableCommands :
    (∃ (s : State) (u : State) (n : Nat) (table : _) (bank : _), n < 16 ∧ s.served (0x40 + n) 0x200 ∧ u = s.event (0x40 + n) 4 ∧ 1 ≤ table ∧ table < 16 ∧ bank < 2 ∧ fwdIdxOk table (u.fwdKey n) = true) ∧
    (∃ (s : State) (u : State) (n : Nat) (bank : _), n < 16 ∧ s.served (0x40 + n) 0x200 ∧ u = s.event (0x40 + n) 4 ∧ bank < 2 ∧ fwdIdxOk 2 (u.fwdKey n) = true ∧ u.tblBusy (u.fwdKey n / 512) bank = false) ∧
    (∃ (s : State) (u : State) (n : Nat) (bank : _), n < 16 ∧ s.served (0x40 + n) 0x200 ∧ u = s.event (0x40 + n) 4 ∧ bank < 2 ∧ fwdIdxOk 2 (u.fwdKey n) = true ∧ u.tblBusy (u.fwdKey n / 512) bank = true) ∧
    (∃ (s : State) (u : State) (n : Nat) (bank : _), n < 16 ∧ s.served (0x40 + n) 0x200 ∧ u = s.event (0x40 + n) 4 ∧ bank < 2 ∧ fwdIdxOk 3 (u.fwdKey n) = true) ∧
    (∃ (s : State) (u : State) (n : Nat) (bank : _), n < 16 ∧ s.served (0x40 + n) 0x200 ∧ u = s.event (0x40 + n) 4 ∧ bank < 2 ∧ fwdIdxOk 2 (u.fwdKey n) = true ∧ u.fwdBad 2 bank (u.fwdKey n) (List.range 16) = true) ∧
    (∃ (s : State) (u : State) (n : Nat) (table : _) (bank : _), n < 16 ∧ s.served (0x40 + n) 0x200 ∧ u = s.event (0x40 + n) 4 ∧ table < 16 ∧ bank < 2 ∧ fwdIdxOk table (u.fwdKey n) = false ∧ 1 ≤ table) ∧
    (∃ (s : State) (u : State) (n : Nat) (table : _) (bank : _), n < 16 ∧ s.served (0x40 + n) 0x200 ∧ u = s.event (0x40 + n) 4 ∧ table < 16 ∧ bank < 2 ∧ fwdIdxOk table (u.fwdKey n) = false) ∧
    (∃ (s : State) (u : State) (n : Nat) (bank : _), n < 16 ∧ s.served (0x40 + n) 0x200 ∧ u = s.event (0x40 + n) 4 ∧ bank < 2 ∧ u.fwdKey n < 1024) ∧
    (∃ (s : State) (u : State) (n : Nat) (bank : _), n < 16 ∧ s.served (0x40 + n) 0x200 ∧ u = s.event (0x40 + n) 4 ∧ bank < 2 ∧ u.fwdKey n < 16384 ∧ fld (u.fwdData n 0) 16 7 ≤ 64 ∧ u.tblBusy (fld (u.tget TB_SPRAY bank (u.fwdKey n) 0) 0 12) bank = false ∧ u.tblBusy (fld (u.fwdData n 0) 0 12) bank = false) :=
  ⟨⟨up [ck 0x40, (FWD_TKEY_key, [65535])], _, 0, 3, 1, by decide +kernel, ⟨rfl, rfl, rfl, rfl⟩, rfl, by decide +kernel, by decide +kernel, by decide +kernel, by decide +kernel⟩,
   ⟨up [ck 0x40, (FWD_TKEY_key, [2096640])], _, 0, 1, by decide +kernel, ⟨rfl, rfl, rfl, rfl⟩, rfl, by decide +kernel, by decide +kernel, by decide +kernel⟩,
   ⟨(up [ck 0x40, (FWD_TKEY_key, [512])]).setSliceState 1 2, _, 0, 1, by decide +kernel, ⟨rfl, rfl, rfl, rfl⟩, rfl, by decide +kernel, by decide +kernel, by decide +kernel⟩,
   ⟨up [ck 0x40, (FWD_TKEY_key, [65535])], _, 0, 1, by decide +kernel, ⟨rfl, rfl, rfl, rfl⟩, rfl, by decide +kernel, by decide +kernel⟩,
   ⟨{ up [ck 0x40, (FWD_TKEY_key, [512])] with bad := [tkey TB_DIM 1 512 0 * 32 + 15] }, _, 0, 1, by decide +kernel, ⟨rfl, rfl, rfl, rfl⟩, rfl, by decide +kernel, by decide +kernel, by decide +kernel⟩,
   ⟨up [ck 0x40, (FWD_TKEY_key, [16384])], _, 0, 1, 0, by decide +kernel, ⟨rfl, rfl, rfl, rfl⟩, rfl, by decide +kernel, by decide +kernel, by decide +kernel, by decide +kernel⟩,
   ⟨up [ck 0x40, (FWD_TKEY_key, [1024])], _, 0, 5, 0, by decide +kernel, ⟨rfl, rfl, rfl, rfl⟩, rfl, by decide +kernel, by decide +kernel, by decide +kernel⟩,
   ⟨up [ck 0x40, (FWD_TKEY_key, [1023])], _, 0, 1, by decide +kernel, ⟨rfl, rfl, rfl, rfl⟩, rfl, by decide +kernel, by decide +kernel⟩,
   ⟨up [ck 0x40, (FWD_TKEY_key, [16383]), (FWD_TDATA_data, [64 <<< 16])], _, 0, 1, by decide +kernel, ⟨rfl, rfl, rfl, rfl⟩, rfl, by decide +kernel, by decide +kernel, by decide +kernel, by decide +kernel, by decide +kernel⟩⟩

/-- Each clause of EpochsAgingSeedsAndShadow that has hypotheses: a state and operands that meet them. -/
theorem witness_EpochsAgingSeedsAndShadow :
    (∃ (s : State) (u : Nat) (sl : Nat) (e : CrnEff), s.alive = true ∧ u < 32 ∧ s.effDue u 3 = some e ∧ sl = e.arg % 4096 ∧ s.sliceState sl = 1 ∧ s.flag FWD_SLICE_EPOCH_draining 0 sl = false) ∧
    (∃ (s : State) (sl : Nat), s.alive = true ∧ sl < 4096 ∧ s.flag FWD_SLICE_EPOCH_draining 0 sl = true ∧ s.fwd.drainEnd.getD 0 sl ≤ s.cyc) ∧
    (∃ (s : State) (n : Nat), n < 16 ∧ s.served (0x40 + n) 0x120) ∧
    (∃ (s : State) (n : Nat), s.alive = true ∧ n < 16 ∧ s.rd FWD_AGE_tick_ms n ≠ 0 ∧ s.fwd.ageAt.getD 0 n + msCyc (s.rd FWD_AGE_tick_ms n) ≤ s.cyc) ∧
    (∃ (s : State), s.alive = true ∧ (s.rd FWD_TMODE_mode = 0 ∨ s.flag FWD_SHADOW_CTRL_enable = false)) ∧
    (∃ (s : State) (u : State) (tb : Nat) (b : Nat) (i : Nat) (off : Nat), s.alive = true ∧ s.rd FWD_TMODE_mode ≠ 0 ∧ s.flag FWD_SHADOW_CTRL_enable = true ∧ shadowAt s.fwd.walk = (tb, b, i, off) ∧ u = s.shadowOne tb b i off (s.shadowBytes tb b i) ∧ s.fwd.walk + 1 < shadowCount) ∧
    (∃ (s : State) (u : State) (tb : Nat) (b : Nat) (i : Nat) (off : Nat), s.alive = true ∧ s.rd FWD_TMODE_mode ≠ 0 ∧ s.flag FWD_SHADOW_CTRL_enable = true ∧ shadowAt s.fwd.walk = (tb, b, i, off) ∧ u = s.shadowOne tb b i off (s.shadowBytes tb b i) ∧ s.fwd.walk + 1 = shadowCount) ∧
    (∃ (s : State) (u : State) (tb : Nat) (b : Nat) (i : Nat) (off : Nat) (v : State), s.alive = true ∧ s.rd FWD_TMODE_mode ≠ 0 ∧ s.flag FWD_SHADOW_CTRL_enable = true ∧ shadowAt s.fwd.walk = (tb, b, i, off) ∧ u = s.shadowOne tb b i off (s.shadowBytes tb b i) ∧ v = (s.readRes ((s.rd FWD_SHADOW_BASE_base * 2 ^ 24 + off) / 4 * 4) (((s.shadowBytes tb b i).length + 3) / 4)).2 ∧ s.fwdBad tb b i (List.range 16) = true ∧ v.flag FWD_SHADOW_FIRST_valid = true) :=
  ⟨⟨{ (up []).setSliceState 7 1 with effs := [⟨31, 3, 4103, 0, false⟩] }, 31, 7, ⟨31, 3, 4103, 0, false⟩, by decide +kernel, by decide +kernel, by decide +kernel, by decide +kernel, by decide +kernel, by decide +kernel⟩,
   ⟨up [(FWD_SLICE_EPOCH_draining, [1, 0, 4095])], 4095, by decide +kernel, by decide +kernel, by decide +kernel, by decide +kernel⟩,
   ⟨up [ck 0x4F], 15, by decide +kernel, ⟨rfl, rfl, rfl, rfl⟩⟩,
   ⟨up [(FWD_AGE_tick_ms, [1, 15])], 15, by decide +kernel, by decide +kernel, by decide +kernel, by decide +kernel⟩,
   ⟨up [(FWD_TMODE_mode, [1]), (FWD_SHADOW_CTRL_enable, [0])], by decide +kernel, .inr (by decide +kernel)⟩,
   ⟨up [(FWD_TMODE_mode, [1]), (FWD_SHADOW_CTRL_enable, [1])], _, _, _, _, _, by decide +kernel, by decide +kernel, by decide +kernel, both4 _, rfl, by decide +kernel⟩,
   ⟨{ up [(FWD_TMODE_mode, [1]), (FWD_SHADOW_CTRL_enable, [1])] with fwd := { walk := shadowCount - 1 } }, _, _, _, _, _, by decide +kernel, by decide +kernel, by decide +kernel, both4 _, rfl, by decide +kernel⟩,
   ⟨{ up [(FWD_TMODE_mode, [1]), (FWD_SHADOW_CTRL_enable, [1]), (FWD_SHADOW_FIRST_valid, [1])] with bad := [tkey TB_SPRAY 0 0 0 * 32] }, _, _, _, _, _, _, by decide +kernel, by decide +kernel, by decide +kernel, both4 _, rfl, rfl, by decide +kernel, by decide +kernel⟩⟩

/-- A state and operands that meet the hypotheses of FlipWhileDrainingIsRejected. -/
theorem witness_FlipWhileDrainingIsRejected :
    (∃ (s : State) (u : Nat) (sl : Nat) (e : CrnEff), s.alive = true ∧ u < 32 ∧ s.effDue u 3 = some e ∧ sl = e.arg % 4096 ∧ s.flag FWD_SLICE_EPOCH_draining 0 sl = true) :=
  ⟨{ up [(FWD_SLICE_EPOCH_draining, [1, 0, 7])] with effs := [⟨31, 3, 4103, 0, false⟩] }, 31, 7, ⟨31, 3, 4103, 0, false⟩, by decide +kernel, by decide +kernel, by decide +kernel, by decide +kernel, by decide +kernel⟩

/-- Each clause of PacketArrivalIsChecked that has hypotheses: a state and operands that meet them. -/
theorem witness_PacketArrivalIsChecked :
    (∃ (s : State) (s1 : State) (u : State) (v : State) (lp : Nat) (pipe : Nat) (n : Nat) (vc : Nat) (r : RxPkt) (raw : List Byte) (p : Pkt) (bufs : List Nat) (w : State), s.alive = true ∧ lp < 1024 ∧ r.cut = false ∧ s.portService lp ≠ [] ∧ (s.spoil r.newBad).linkRx lp r = (some raw, s1) ∧ p = Pkt.ofBytes raw ∧ pipe = s1.portFibre lp / 4 ∧ n = (raw.length + 247) / 256 ∧ vc = vcOf p.tc (1 - s1.portDir lp) ∧ u = (if 17 + (s1.rx lp).count.getD vc 0 < (s1.rx lp).recv.getD vc 0 + n then s1.cnt LNK_CREDIT_OVF_count (s1.portFibre lp / 8) else s1) ∧ v = u.setRx lp { s1.rx lp with recv := (s1.rx lp).recv.set vc ((s1.rx lp).recv.getD vc 0 + n) } ∧ v.takeVc lp vc n = some (bufs, w) ∧ w.isBad TB_LPCFG 0 lp 0 pipe = false ∧ arrivalCheck r.hdrUe p raw.length = none) ∧
    (∃ (s : State) (s1 : State) (u : State) (v : State) (lp : Nat) (pipe : Nat) (n : Nat) (vc : Nat) (r : RxPkt) (raw : List Byte) (p : Pkt) (bufs : List Nat) (w : State) (c : _), s.alive = true ∧ lp < 1024 ∧ r.cut = false ∧ s.portService lp ≠ [] ∧ (s.spoil r.newBad).linkRx lp r = (some raw, s1) ∧ p = Pkt.ofBytes raw ∧ pipe = s1.portFibre lp / 4 ∧ n = (raw.length + 247) / 256 ∧ vc = vcOf p.tc (1 - s1.portDir lp) ∧ u = (if 17 + (s1.rx lp).count.getD vc 0 < (s1.rx lp).recv.getD vc 0 + n then s1.cnt LNK_CREDIT_OVF_count (s1.portFibre lp / 8) else s1) ∧ v = u.setRx lp { s1.rx lp with recv := (s1.rx lp).recv.set vc ((s1.rx lp).recv.getD vc 0 + n) } ∧ v.takeVc lp vc n = some (bufs, w) ∧ w.isBad TB_LPCFG 0 lp 0 pipe = false ∧ arrivalCheck r.hdrUe p raw.length = some (c, none)) ∧
    (∃ (s : State) (s1 : State) (u : State) (v : State) (lp : Nat) (pipe : Nat) (n : Nat) (vc : Nat) (r : RxPkt) (raw : List Byte) (p : Pkt) (bufs : List Nat) (w : State) (c : _) (why : _), s.alive = true ∧ lp < 1024 ∧ r.cut = false ∧ s.portService lp ≠ [] ∧ (s.spoil r.newBad).linkRx lp r = (some raw, s1) ∧ p = Pkt.ofBytes raw ∧ pipe = s1.portFibre lp / 4 ∧ n = (raw.length + 247) / 256 ∧ vc = vcOf p.tc (1 - s1.portDir lp) ∧ u = (if 17 + (s1.rx lp).count.getD vc 0 < (s1.rx lp).recv.getD vc 0 + n then s1.cnt LNK_CREDIT_OVF_count (s1.portFibre lp / 8) else s1) ∧ v = u.setRx lp { s1.rx lp with recv := (s1.rx lp).recv.set vc ((s1.rx lp).recv.getD vc 0 + n) } ∧ v.takeVc lp vc n = some (bufs, w) ∧ w.isBad TB_LPCFG 0 lp 0 pipe = false ∧ arrivalCheck r.hdrUe p raw.length = some (c, some why)) ∧
    (∃ (s : State) (s1 : State) (u : State) (v : State) (lp : Nat) (pipe : Nat) (n : Nat) (vc : Nat) (r : RxPkt) (raw : List Byte) (p : Pkt) (bufs : List Nat) (w : State) (e : _), s.alive = true ∧ lp < 1024 ∧ r.cut = false ∧ s.portService lp ≠ [] ∧ (s.spoil r.newBad).linkRx lp r = (some raw, s1) ∧ p = Pkt.ofBytes raw ∧ pipe = s1.portFibre lp / 4 ∧ n = (raw.length + 247) / 256 ∧ vc = vcOf p.tc (1 - s1.portDir lp) ∧ u = (if 17 + (s1.rx lp).count.getD vc 0 < (s1.rx lp).recv.getD vc 0 + n then s1.cnt LNK_CREDIT_OVF_count (s1.portFibre lp / 8) else s1) ∧ v = u.setRx lp { s1.rx lp with recv := (s1.rx lp).recv.set vc ((s1.rx lp).recv.getD vc 0 + n) } ∧ v.takeVc lp vc n = some (bufs, w) ∧ w.isBad TB_LPCFG 0 lp 0 pipe = false ∧ (s.linkRx lp r).1 = some raw ∧ s.bcAckEntry p lp = some e ∧ arrivalCheck r.hdrUe p raw.length = none) ∧
    (∃ (s : State) (s1 : State) (u : State) (v : State) (lp : Nat) (pipe : Nat) (n : Nat) (vc : Nat) (r : RxPkt) (raw : List Byte) (p : Pkt), s.alive = true ∧ lp < 1024 ∧ r.cut = false ∧ s.portService lp ≠ [] ∧ (s.spoil r.newBad).linkRx lp r = (some raw, s1) ∧ p = Pkt.ofBytes raw ∧ pipe = s1.portFibre lp / 4 ∧ n = (raw.length + 247) / 256 ∧ vc = vcOf p.tc (1 - s1.portDir lp) ∧ u = (if 17 + (s1.rx lp).count.getD vc 0 < (s1.rx lp).recv.getD vc 0 + n then s1.cnt LNK_CREDIT_OVF_count (s1.portFibre lp / 8) else s1) ∧ v = u.setRx lp { s1.rx lp with recv := (s1.rx lp).recv.set vc ((s1.rx lp).recv.getD vc 0 + n) } ∧ v.takeVc lp vc n = none) ∧
    (∃ (s : State) (s1 : State) (lp : Nat) (r : RxPkt), s.alive = true ∧ lp < 1024 ∧ r.cut = false ∧ s.portService lp ≠ [] ∧ (s.spoil r.newBad).linkRx lp r = (none, s1)) ∧
    (∃ (s : State) (lp : Nat) (r : RxPkt), s.alive = true ∧ lp < 1024 ∧ r.cut = true ∧ (s.cnt XBR_IN_PARTIAL_count).flag LP_CFG_link_up 0 lp = true) ∧
    (∃ (s : State) (lp : Nat) (r : RxPkt), s.alive = true ∧ lp < 1024 ∧ r.cut = true ∧ (s.cnt XBR_IN_PARTIAL_count).flag LP_CFG_link_up 0 lp = false) :=
  ⟨⟨heard (up (svc 1023 1023 ++ pools)) 1023 (sealed { tc := 4 }), _, _, _, 1023, _, _, _, {}, _, _, _, _, by decide +kernel, by decide +kernel, by decide +kernel, by decide +kernel, pairS (by decide +kernel), rfl, rfl, rfl, rfl, rfl, rfl, pickP (by decide +kernel), by decide +kernel, by decide +kernel⟩,
   ⟨heard (up (svc 1023 1023 ++ pools)) 1023 (sealed { tc := 4, ver := 1 }), _, _, _, 1023, _, _, _, {}, _, _, _, _, FWD_DROP_HDR_count, by decide +kernel, by decide +kernel, by decide +kernel, by decide +kernel, pairS (by decide +kernel), rfl, rfl, rfl, rfl, rfl, rfl, pickP (by decide +kernel), by decide +kernel, by decide +kernel⟩,
   ⟨heard (up (svc 1023 1023 ++ pools)) 1023 (sealed { tc := 0 }), _, _, _, 1023, _, _, _, {}, _, _, _, _, FWD_DROP_KIND_count, 1, by decide +kernel, by decide +kernel, by decide +kernel, by decide +kernel, pairS (by decide +kernel), rfl, rfl, rfl, rfl, rfl, rfl, pickP (by decide +kernel), by decide +kernel, by decide +kernel⟩,
   ⟨{ heard (up (svc 1023 1023 ++ pools)) 1023 (sealed { kind := 3, tc := 4, length := 16, payload := List.replicate 11 0 ++ 4 :: List.replicate 4 0 }) with ser := { bcast := [{ pkt := {}, pipe := 0, isOpen := true, parents := [], kids := 2 ^ 63 }] } }, _, _, _, 1023, _, _, _, {}, _, _, _, _, _, by decide +kernel, by decide +kernel, by decide +kernel, by decide +kernel, pairS (by decide +kernel), rfl, rfl, rfl, rfl, rfl, rfl, pickP (by decide +kernel), by decide +kernel, by decide +kernel, pick (by decide +kernel), by decide +kernel⟩,
   ⟨heard (up (svc 1023 1023)) 1023 (sealed { tc := 4 }), _, _, _, 1023, _, _, _, {}, _, _, by decide +kernel, by decide +kernel, by decide +kernel, by decide +kernel, pairS (by decide +kernel), rfl, rfl, rfl, rfl, rfl, rfl, by decide +kernel⟩,
   ⟨up (svc 0 0), _, 0, {}, by decide +kernel, by decide +kernel, by decide +kernel, by decide +kernel, pairT (by decide +kernel)⟩,
   ⟨up [(LP_CFG_link_up, [1, 0, 1023])], 1023, { cut := true }, by decide +kernel, by decide +kernel, by decide +kernel, by decide +kernel⟩,
   ⟨up [], 0, { cut := true }, by decide +kernel, by decide +kernel, by decide +kernel, by decide +kernel⟩⟩

/-- Each clause of PipelineStepsInOrder that has hypotheses: a state and operands that meet them. -/
theorem witness_PipelineStepsInOrder :
    (∃ (s : State) (s1 : State) (lp : Nat) (pipe : Nat) (p : Pkt), s.admits TB_ADMIT_IN pipe lp p.slice = (false, s1)) ∧
    (∃ (s : State) (s1 : State) (lp : Nat) (pipe : Nat) (p : Pkt), s.admits TB_ADMIT_IN pipe lp p.slice = (true, s1) ∧ s1.flag LP_CFG_nbr_class 0 lp = false ∧ p.epoch ≠ s1.rd FWD_SLICE_EPOCH_cur_epoch 0 p.slice ∧ s1.flag FWD_SLICE_EPOCH_draining 0 p.slice = false) ∧
    (∃ (s : State) (s1 : State) (s2 : State) (lp : Nat) (pipe : Nat) (p : Pkt) (p' : Pkt) (e : _), s.admits TB_ADMIT_IN pipe lp p.slice = (true, s1) ∧ (s1.flag LP_CFG_nbr_class 0 lp = true ∨ p.epoch = s1.rd FWD_SLICE_EPOCH_cur_epoch 0 p.slice ∨ s1.flag FWD_SLICE_EPOCH_draining 0 p.slice = true) ∧ p' = (if s1.flag LP_CFG_nbr_class 0 lp then { p with epoch := s1.rd FWD_SLICE_EPOCH_cur_epoch 0 p.slice } else p) ∧ s2 = s1.learn pipe lp p'.src p'.slice ∧ s2.bcAckEntry p' lp = some e) ∧
    (∃ (s : State) (s1 : State) (s2 : State) (lp : Nat) (pipe : Nat) (p : Pkt) (p' : Pkt) (s3 : State) (c : RegD) (why : Nat), s.admits TB_ADMIT_IN pipe lp p.slice = (true, s1) ∧ (s1.flag LP_CFG_nbr_class 0 lp = true ∨ p.epoch = s1.rd FWD_SLICE_EPOCH_cur_epoch 0 p.slice ∨ s1.flag FWD_SLICE_EPOCH_draining 0 p.slice = true) ∧ p' = (if s1.flag LP_CFG_nbr_class 0 lp then { p with epoch := s1.rd FWD_SLICE_EPOCH_cur_epoch 0 p.slice } else p) ∧ s2 = s1.learn pipe lp p'.src p'.slice ∧ s2.bcAckEntry p' lp = none ∧ s2.resolve 9 pipe p' = (.error (c, why), s3)) ∧
    (∃ (s : State) (s1 : State) (s2 : State) (lp : Nat) (pipe : Nat) (p : Pkt) (p' : Pkt) (s3 : State) (s4 : State) (d : Dest) (q : Pkt), s.admits TB_ADMIT_IN pipe lp p.slice = (true, s1) ∧ (s1.flag LP_CFG_nbr_class 0 lp = true ∨ p.epoch = s1.rd FWD_SLICE_EPOCH_cur_epoch 0 p.slice ∨ s1.flag FWD_SLICE_EPOCH_draining 0 p.slice = true) ∧ p' = (if s1.flag LP_CFG_nbr_class 0 lp then { p with epoch := s1.rd FWD_SLICE_EPOCH_cur_epoch 0 p.slice } else p) ∧ s2 = s1.learn pipe lp p'.src p'.slice ∧ s2.bcAckEntry p' lp = none ∧ s2.resolve 9 pipe p' = (.ok (d, q), s3) ∧ s3.police q = (none, s4)) ∧
    (∃ (s : State) (s1 : State) (s2 : State) (lp : Nat) (pipe : Nat) (p : Pkt) (p' : Pkt) (s3 : State) (s4 : State) (d : Dest) (q : Pkt) (q' : Pkt), s.admits TB_ADMIT_IN pipe lp p.slice = (true, s1) ∧ (s1.flag LP_CFG_nbr_class 0 lp = true ∨ p.epoch = s1.rd FWD_SLICE_EPOCH_cur_epoch 0 p.slice ∨ s1.flag FWD_SLICE_EPOCH_draining 0 p.slice = true) ∧ p' = (if s1.flag LP_CFG_nbr_class 0 lp then { p with epoch := s1.rd FWD_SLICE_EPOCH_cur_epoch 0 p.slice } else p) ∧ s2 = s1.learn pipe lp p'.src p'.slice ∧ s2.bcAckEntry p' lp = none ∧ s2.resolve 9 pipe p' = (.ok (d, q), s3) ∧ s3.police q = (some q', s4)) :=
  ⟨⟨up [], _, 0, 0, {}, pairT (by decide +kernel)⟩,
   ⟨(((up []).setSliceState 9 1).tset TB_ADMIT_IN 0 (1023 * 64) 0 (2 ^ 9)), _, 1023, 15, { slice := 9, epoch := 1 }, pairT (by decide +kernel), by decide +kernel, by decide +kernel, by decide +kernel⟩,
   ⟨{ ((up [(LP_CFG_nbr_class, [1, 0, 1023])]).setSliceState 0 1).tset TB_ADMIT_IN 0 (1023 * 64) 0 1 with ser := { bcast := [{ pkt := {}, pipe := 0, isOpen := true, parents := [], kids := 1 }] } }, _, _, 1023, 15, { kind := 3, length := 16, payload := List.replicate 11 0 ++ 4 :: List.replicate 4 0 }, _, _, pairT (by decide +kernel), .inl (by decide +kernel), rfl, rfl, pick (by decide +kernel)⟩,
   ⟨((up []).setSliceState 0 1).tset TB_ADMIT_IN 0 (1023 * 64) 0 1, _, _, 1023, 15, {}, _, _, _, _, pairT (by decide +kernel), .inr (.inl (by decide +kernel)), rfl, rfl, by decide +kernel, pairE2 (LP_CFG_enable, 0) (by decide +kernel)⟩,
   ⟨((((up [(LP_CFG_enable, [1, 0, 7])]).setSliceState 0 1).tset TB_ADMIT_IN 0 (1023 * 64) 0 1).tset TB_POLICER 0 0 0 (2 ^ 44)), _, _, 1023, 15, { waybill := [0xC001] }, _, _, _, _, _, pairT (by decide +kernel), .inr (.inl (by decide +kernel)), rfl, rfl, by decide +kernel, pairO2 (.host, {}) (by decide +kernel), pairT (by decide +kernel)⟩,
   ⟨(((up [(LP_CFG_enable, [1, 0, 7])]).setSliceState 0 1).tset TB_ADMIT_IN 0 (1023 * 64) 0 1), _, _, 1023, 15, { waybill := [0xC001] }, _, _, _, _, _, _, pairT (by decide +kernel), .inr (.inl (by decide +kernel)), rfl, rfl, by decide +kernel, pairO2 (.host, {}) (by decide +kernel), pairS (by decide +kernel)⟩⟩

/-- Each clause of SwitchingCoreMovesPackets that has hypotheses: a state and operands that meet them. -/
theorem witness_SwitchingCoreMovesPackets :
    (∃ (s : State) (s1 : State) (s2 : State) (ue : List (Nat × Nat)) (bad : List Nat) (r : State × List (Nat × Nat × Nat)), s.alive = true ∧ s.xbr.at_ + 10 ≤ s.cyc ∧ s1 = ((({ s with xbr := { s.xbr with at_ := s.cyc } } : State).spoil bad).retryReroutes).bcRetry.judgeAll ∧ s2 = (ue.map (·.1)).eraseDups.foldl (fun s i => match s.flight i with | some x => if x.loc = .voq then (s.strikePacket x ((ue.filter fun e => e.1 = i).map (·.2))).2 else s | none => s) s1 ∧ r = (bitsOf 5 (s2.rd XBR_CTRL_plane_en)).foldl (fun (r : State × List (Nat × Nat × Nat)) p => ((r.1.matchPlane p s2.requests).1, r.2 ++ (r.1.matchPlane p s2.requests).2.map fun e => (p, e.1, e.2))) (s2, [])) ∧
    (∃ (s : State) (i : Nat) (o : Nat) (x : Flight) (l : _), s.alive = true ∧ i < 192 ∧ o < 192 ∧ s.flights.find? (fun x => x.loc = .reseq && x.inCore = i && x.outCore = o) = some x ∧ s.xbr.miss.any (fun e => e.inp = i && e.out = o && (e.seq = x.lastSeq || pairBefore e.seq x.lastSeq)) = false ∧ (x.dest = .serai l ∨ x.dest = .host ∨ x.dest = .bcast)) ∧
    (∃ (s : State) (i : Nat) (o : Nat) (x : Flight) (lp : _) (s1 : _), s.alive = true ∧ i < 192 ∧ o < 192 ∧ s.flights.find? (fun x => x.loc = .reseq && x.inCore = i && x.outCore = o) = some x ∧ s.xbr.miss.any (fun e => e.inp = i && e.out = o && (e.seq = x.lastSeq || pairBefore e.seq x.lastSeq)) = false ∧ x.dest = .lp lp ∧ s.egressSlice x.marked lp = (true, s1)) ∧
    (∃ (s : State) (i : Nat) (o : Nat) (x : Flight) (lp : _) (s1 : _), s.alive = true ∧ i < 192 ∧ o < 192 ∧ s.flights.find? (fun x => x.loc = .reseq && x.inCore = i && x.outCore = o) = some x ∧ s.xbr.miss.any (fun e => e.inp = i && e.out = o && (e.seq = x.lastSeq || pairBefore e.seq x.lastSeq)) = false ∧ x.dest = .lp lp ∧ s.egressSlice x.marked lp = (false, s1)) ∧
    (∃ (s : State) (i : Nat) (o : Nat) (c : Nat) (e : MissCell) (x : Flight), s.alive = true ∧ i < 192 ∧ o < 192 ∧ s.xbr.miss.filter (fun e => e.inp = i && e.out = o) = [e] ∧ e.later = some c ∧ c + nsCyc (max 100 (s.rd XBR_RESEQ_timeout_ns)) ≤ s.cyc ∧ s.flight e.flight = some x) ∧
    (∃ (s : State) (p : Nat), s.alive = true ∧ p < 5) ∧
    (∃ (s : State), s.alive = true) :=
  ⟨⟨up [], _, _, [], [], _, by decide +kernel, by decide +kernel, rfl, rfl, rfl⟩,
   ⟨{ up [] with flights := [{ id := 1, pkt := {}, pipe := 0, dest := .host, inCore := 191, outCore := 191, cells := 1, loc := .reseq }] }, 191, 191, _, 0, by decide +kernel, by decide +kernel, by decide +kernel, pick (by decide +kernel), by decide +kernel, by decide +kernel⟩,
   ⟨(({ up [] with flights := [{ id := 1, pkt := {}, pipe := 0, dest := .lp 1023, inCore := 0, outCore := 191, cells := 1, loc := .reseq }] } : State).setSliceState 0 1).tset TB_ADMIT_EG 0 (1023 * 64) 0 1, 0, 191, _, 1023, _, by decide +kernel, by decide +kernel, by decide +kernel, pick (by decide +kernel), by decide +kernel, by decide +kernel, pairT (by decide +kernel)⟩,
   ⟨{ up [] with flights := [{ id := 1, pkt := {}, pipe := 0, dest := .lp 1023, inCore := 0, outCore := 191, cells := 1, loc := .reseq }] }, 0, 191, _, 1023, _, by decide +kernel, by decide +kernel, by decide +kernel, pick (by decide +kernel), by decide +kernel, by decide +kernel, pairT (by decide +kernel)⟩,
   ⟨{ up [] with flights := [{ id := 1, pkt := {}, pipe := 0, dest := .lp 1023, inCore := 0, outCore := 191, cells := 1, loc := .reseq }], xbr := { miss := [{ inp := 0, out := 191, seq := 5, flight := 1, later := some 7 }] } }, 0, 191, 7, { inp := 0, out := 191, seq := 5, flight := 1, later := some 7 }, _, by decide +kernel, by decide +kernel, by decide +kernel, by decide +kernel, by decide +kernel, by decide +kernel, pick (by decide +kernel)⟩,
   ⟨up [], 4, by decide +kernel, by decide +kernel⟩,
   ⟨up [], by decide +kernel⟩⟩

/-- Each clause of EgressQueuesServe that has hypotheses: a state and operands that meet them. -/
theorem witness_EgressQueuesServe :
    (∃ (s : State) (s1 : State) (s2 : State) (s3 : State) (t : State) (a : State) (b : State) (lp : Nat) (q : Nat) (ue : List Nat) (x : Flight) (y : Flight), s.alive = true ∧ lp < 1024 ∧ s1 = ((s.gateNow lp).purgeHeads lp s.flights.length).headChecks lp ∧ s1.serve lp ((s1.portQueues lp).filter (s1.qEligible lp)) = (some q, s2) ∧ s2.qhead q = some x ∧ s2.strikePacket x ue = (some y, s3) ∧ s3.handTx lp y.marked (vcOf y.marked.pkt.tc (s1.portDir lp)) = some t ∧ a = (t.dropFlight y.marked).chargeShaper q (wireLen y.marked.pkt.length) ∧ b = { a with qsh := { a.qsh with deficit := a.qsh.deficit.set 0 q (a.qsh.deficit.getD 0 q - wireLen y.marked.pkt.length), sendEnd := a.qsh.sendEnd.put lp (y.marked.pkt.tc, a.fclk + sendHalf (wireLen y.marked.pkt.length) (a.portService lp).length * 2 ^ 47) } }) ∧
    (∃ (s : State), s.alive = true ∧ 10 ≤ s.cyc - s.qsh.tickAt) ∧
    (∃ (s : State), s.alive = true ∧ s.cyc - s.qsh.tickAt < 10) ∧
    (∃ (s : State) (lp : Nat) (k : Nat) (i : Nat) (e : Nat) (l : List (Nat × Nat)), s.alive = true ∧ lp < 1024 ∧ (s.gate lp).running = true ∧ l = s.gateList lp (s.gate lp).bank ∧ i < l.length ∧ cycleTime (l.take i) ≤ e ∧ e < cycleTime (l.take (i + 1)) ∧ (s.fclk - (s.gate lp).base) / 2 ^ 47 = k * cycleTime l + e ∧ (s.gate lp).base ≤ s.fclk) ∧
    (∃ (s : State) (lp : Nat), s.alive = true ∧ lp < 1024 ∧ (s.gate lp).running = false) ∧
    (∃ (s : State), s.alive = true ∧ s.qsh.loadAt + 40 ≤ s.cyc) ∧
    (∃ (s : State), s.alive = true ∧ s.cyc < s.qsh.loadAt + 40) ∧
    (∃ (s : State) (q : Nat) (b : Nat) (off : Nat) (x : Flight) (t : State) (t' : State) (p : Pkt) (bufs : List Nat), s.alive = true ∧ q < 262144 ∧ s.flights.find? (fun x => x.queue = q && x.loc.spilled) = some x ∧ x.loc = .spill b off ∧ s.spillFree = true ∧ s.queueCells q < s.rd QSH_SPILL_MARKS_on_die_resume ∧ s.purged x = false ∧ s.admitted q x.pkt x.cells = true ∧ s.takeShared x.cells = some (bufs, t) ∧ (t.useSpill (spillBytes x.pkt)).unspill x b off = (some p, t')) ∧
    (∃ (s : State) (q : Nat) (b : Nat) (off : Nat) (x : Flight) (t : State), s.alive = true ∧ q < 262144 ∧ s.flights.find? (fun x => x.queue = q && x.loc.spilled) = some x ∧ x.loc = .spill b off ∧ s.spillFree = true ∧ s.queueCells q < s.rd QSH_SPILL_MARKS_on_die_resume ∧ t = s.useSpill (spillBytes x.pkt) ∧ s.purged x = true) :=
  ⟨⟨{ up (svc 0 0) with flights := [{ id := 1, pkt := { tc := 4 }, pipe := 0, dest := .lp 0, inCore := 0, cells := 1, queue := 128, loc := .queue }], link := { tx := [(0, { up := true })] } }, _, _, _, _, _, _, 0, _, [], _, _, by decide +kernel, by decide +kernel, rfl, pairS (by decide +kernel), pick (by decide +kernel), pairS (by decide +kernel), pick (by decide +kernel), rfl, rfl⟩,
   ⟨up [], by decide +kernel, by decide +kernel⟩,
   ⟨{ up [] with qsh := { tickAt := 10 ^ 13 - 9 } }, by decide +kernel, by decide +kernel⟩,
   ⟨({ (up []) with qsh := { gate := [(1023, { running := true, bank := 1, base := 7200 * 10 ^ 9 * NS - 99 * 2 ^ 47 })] } } : State).tset TB_TGATE 1 (1023 * 64) 0 100, 1023, 0, 0, 99, _, by decide +kernel, by decide +kernel, by decide +kernel, rfl, by decide +kernel, by decide +kernel, by decide +kernel, by decide +kernel, by decide +kernel⟩,
   ⟨up [], 1023, by decide +kernel, by decide +kernel, by decide +kernel⟩,
   ⟨up [], by decide +kernel, by decide +kernel⟩,
   ⟨{ up [] with qsh := { loadAt := 10 ^ 13 - 39 } }, by decide +kernel, by decide +kernel⟩,
   ⟨{ up (pools ++ [(QSH_SPILL_CTRL_rate, [100]), (QSH_SPILL_MARKS_on_die_resume, [50])]) with flights := [{ id := 1, pkt := {}, pipe := 0, dest := .lp 1, inCore := 0, cells := 1, queue := 262143, loc := .spill 0 0 }], qsh := { chain := [(262143, [{ buf := 0, used := 64, left := 1 }])] } }, 262143, 0, 0, _, _, _, _, _, by decide +kernel, by decide +kernel, pick (by decide +kernel), by decide +kernel, by decide +kernel, by decide +kernel, by decide +kernel, by decide +kernel, pickP (by decide +kernel), pairS (by decide +kernel)⟩,
   ⟨{ (up (pools ++ [(QSH_SPILL_CTRL_rate, [100]), (QSH_SPILL_MARKS_on_die_resume, [50])])).setSliceState 0 2 with flights := [{ id := 1, pkt := {}, pipe := 0, dest := .lp 1, inCore := 0, cells := 1, queue := 262143, loc := .spill 0 0 }], qsh := { chain := [(262143, [{ buf := 0, used := 64, left := 1 }])] } }, 262143, 0, 0, _, _, by decide +kernel, by decide +kernel, pick (by decide +kernel), by decide +kernel, by decide +kernel, by decide +kernel, rfl, by decide +kernel⟩⟩

/-- Each clause of QueueTableCommands that has hypotheses: a state and operands that meet them. -/
theorem witness_QueueTableCommands :
    (∃ (s : State) (u : State) (k : Nat) (d0 : Nat) (d1 : Nat) (table : _) (bank : _) (tb : _) (n : _), s.served 11 0x200 ∧ u = s.event 11 4 ∧ k = u.rd QSH_TKEY_key ∧ d0 = u.rd QSH_TDATA_data 0 0 ∧ d1 = u.rd QSH_TDATA_data 0 1 ∧ table < 16 ∧ bank < 2 ∧ qshTable table = some (tb, n) ∧ k < n) ∧
    (∃ (s : State) (u : State) (k : Nat) (d0 : Nat) (d1 : Nat) (bank : _), s.served 11 0x200 ∧ u = s.event 11 4 ∧ k = u.rd QSH_TKEY_key ∧ d0 = u.rd QSH_TDATA_data 0 0 ∧ d1 = u.rd QSH_TDATA_data 0 1 ∧ bank < 2 ∧ k < 262144 ∧ -64 ≤ toSigned 9 (fld d0 48 9)) ∧
    (∃ (s : State) (u : State) (k : Nat) (d0 : Nat) (d1 : Nat) (bank : _), s.served 11 0x200 ∧ u = s.event 11 4 ∧ k = u.rd QSH_TKEY_key ∧ d0 = u.rd QSH_TDATA_data 0 0 ∧ d1 = u.rd QSH_TDATA_data 0 1 ∧ bank < 2 ∧ k < 256) ∧
    (∃ (s : State) (u : State) (k : Nat) (d0 : Nat) (d1 : Nat) (bank : _), s.served 11 0x200 ∧ u = s.event 11 4 ∧ k = u.rd QSH_TKEY_key ∧ d0 = u.rd QSH_TDATA_data 0 0 ∧ d1 = u.rd QSH_TDATA_data 0 1 ∧ bank < 2 ∧ k < 32768 ∧ fld d0 0 22 ≤ fld d0 22 22 ∧ u.sliceState (k / 8) ≠ 2) ∧
    (∃ (s : State) (u : State) (k : Nat) (d0 : Nat) (d1 : Nat) (bank : _), s.served 11 0x200 ∧ u = s.event 11 4 ∧ k = u.rd QSH_TKEY_key ∧ d0 = u.rd QSH_TDATA_data 0 0 ∧ d1 = u.rd QSH_TDATA_data 0 1 ∧ bank < 2 ∧ k < 65536 ∧ (u.gate (k / 64)).running = true ∧ (u.gate (k / 64)).bank = bank) ∧
    (∃ (s : State) (u : State) (k : Nat) (d0 : Nat) (d1 : Nat) (bank : _), s.served 11 0x200 ∧ u = s.event 11 4 ∧ k = u.rd QSH_TKEY_key ∧ d0 = u.rd QSH_TDATA_data 0 0 ∧ d1 = u.rd QSH_TDATA_data 0 1 ∧ bank < 2 ∧ k < 65536 ∧ ((u.gate (k / 64)).running && (u.gate (k / 64)).bank = bank) = false) ∧
    (∃ (s : State) (u : State) (k : Nat) (d0 : Nat) (d1 : Nat) (bank : _), s.served 11 0x200 ∧ u = s.event 11 4 ∧ k = u.rd QSH_TKEY_key ∧ d0 = u.rd QSH_TDATA_data 0 0 ∧ d1 = u.rd QSH_TDATA_data 0 1 ∧ bank < 2 ∧ k < 4096 ∧ u.sliceState k ≠ 2) ∧
    (∃ (s : State) (u : State) (k : Nat) (d0 : Nat) (d1 : Nat) (bank : _), s.served 11 0x200 ∧ u = s.event 11 4 ∧ k = u.rd QSH_TKEY_key ∧ d0 = u.rd QSH_TDATA_data 0 0 ∧ d1 = u.rd QSH_TDATA_data 0 1 ∧ bank < 2 ∧ k < 1024 ∧ bit d0 0 = true) ∧
    (∃ (s : State) (u : State) (k : Nat) (d0 : Nat) (d1 : Nat) (table : _) (bank : _), s.served 11 0x200 ∧ u = s.event 11 4 ∧ k = u.rd QSH_TKEY_key ∧ d0 = u.rd QSH_TDATA_data 0 0 ∧ d1 = u.rd QSH_TDATA_data 0 1 ∧ table < 16 ∧ bank < 2 ∧ (qshTable table = none ∨ (∃ tb n, qshTable table = some (tb, n) ∧ n ≤ k))) ∧
    (∃ (s : State) (u : State) (k : Nat) (d0 : Nat) (d1 : Nat) (bank : _), s.served 11 0x200 ∧ u = s.event 11 4 ∧ k = u.rd QSH_TKEY_key ∧ d0 = u.rd QSH_TDATA_data 0 0 ∧ d1 = u.rd QSH_TDATA_data 0 1 ∧ bank < 2 ∧ k < 262144 ∧ toSigned 9 (fld d0 48 9) < -64) ∧
    (∃ (s : State) (u : State) (k : Nat) (d0 : Nat) (d1 : Nat) (bank : _), s.served 11 0x200 ∧ u = s.event 11 4 ∧ k = u.rd QSH_TKEY_key ∧ d0 = u.rd QSH_TDATA_data 0 0 ∧ d1 = u.rd QSH_TDATA_data 0 1 ∧ bank < 2 ∧ k < 32768 ∧ fld d0 22 22 < fld d0 0 22) ∧
    (∃ (s : State) (u : State) (k : Nat) (d0 : Nat) (d1 : Nat) (bank : _), s.served 11 0x200 ∧ u = s.event 11 4 ∧ k = u.rd QSH_TKEY_key ∧ d0 = u.rd QSH_TDATA_data 0 0 ∧ d1 = u.rd QSH_TDATA_data 0 1 ∧ bank < 2 ∧ k < 32768 ∧ fld d0 0 22 ≤ fld d0 22 22 ∧ u.sliceState (k / 8) = 2) ∧
    (∃ (s : State) (u : State) (k : Nat) (d0 : Nat) (d1 : Nat) (bank : _), s.served 11 0x200 ∧ u = s.event 11 4 ∧ k = u.rd QSH_TKEY_key ∧ d0 = u.rd QSH_TDATA_data 0 0 ∧ d1 = u.rd QSH_TDATA_data 0 1 ∧ bank < 2 ∧ k < 4096 ∧ u.sliceState k = 2) :=
  ⟨⟨up [ck 11, (QSH_TKEY_key, [4095])], _, _, _, _, 5, 1, TB_QGMAP, 4096, ⟨rfl, rfl, rfl, rfl⟩, rfl, rfl, rfl, rfl, by decide +kernel, by decide +kernel, by decide +kernel, by decide +kernel⟩,
   ⟨up [ck 11, (QSH_TKEY_key, [262143])], _, _, _, _, 1, ⟨rfl, rfl, rfl, rfl⟩, rfl, rfl, rfl, rfl, by decide +kernel, by decide +kernel, by decide +kernel⟩,
   ⟨up [ck 11, (QSH_TKEY_key, [255])], _, _, _, _, 1, ⟨rfl, rfl, rfl, rfl⟩, rfl, rfl, rfl, rfl, by decide +kernel, by decide +kernel⟩,
   ⟨up [ck 11, (QSH_TKEY_key, [32767])], _, _, _, _, 1, ⟨rfl, rfl, rfl, rfl⟩, rfl, rfl, rfl, rfl, by decide +kernel, by decide +kernel, by decide +kernel, by decide +kernel⟩,
   ⟨{ up [ck 11, (QSH_TKEY_key, [65535])] with qsh := { gate := [(1023, { running := true, bank := 1 })] } }, _, _, _, _, 1, ⟨rfl, rfl, rfl, rfl⟩, rfl, rfl, rfl, rfl, by decide +kernel, by decide +kernel, by decide +kernel, by decide +kernel⟩,
   ⟨up [ck 11, (QSH_TKEY_key, [65535])], _, _, _, _, 1, ⟨rfl, rfl, rfl, rfl⟩, rfl, rfl, rfl, rfl, by decide +kernel, by decide +kernel, by decide +kernel⟩,
   ⟨up [ck 11, (QSH_TKEY_key, [4095])], _, _, _, _, 1, ⟨rfl, rfl, rfl, rfl⟩, rfl, rfl, rfl, rfl, by decide +kernel, by decide +kernel, by decide +kernel⟩,
   ⟨up [ck 11, (QSH_TKEY_key, [1023]), (QSH_TDATA_data, [1])], _, _, _, _, 1, ⟨rfl, rfl, rfl, rfl⟩, rfl, rfl, rfl, rfl, by decide +kernel, by decide +kernel, by decide +kernel⟩,
   ⟨up [ck 11, (QSH_TKEY_key, [4096])], _, _, _, _, 5, 1, ⟨rfl, rfl, rfl, rfl⟩, rfl, rfl, rfl, rfl, by decide +kernel, by decide +kernel, .inr ⟨TB_QGMAP, 4096, by decide +kernel, by decide +kernel⟩⟩,
   ⟨up [ck 11, (QSH_TKEY_key, [262143]), (QSH_TDATA_data, [447 <<< 48])], _, _, _, _, 1, ⟨rfl, rfl, rfl, rfl⟩, rfl, rfl, rfl, rfl, by decide +kernel, by decide +kernel, by decide +kernel⟩,
   ⟨up [ck 11, (QSH_TKEY_key, [32767]), (QSH_TDATA_data, [1])], _, _, _, _, 1, ⟨rfl, rfl, rfl, rfl⟩, rfl, rfl, rfl, rfl, by decide +kernel, by decide +kernel, by decide +kernel⟩,
   ⟨(up [ck 11, (QSH_TKEY_key, [32767])]).setSliceState 4095 2, _, _, _, _, 1, ⟨rfl, rfl, rfl, rfl⟩, rfl, rfl, rfl, rfl, by decide +kernel, by decide +kernel, by decide +kernel, by decide +kernel⟩,
   ⟨(up [ck 11, (QSH_TKEY_key, [4095])]).setSliceState 4095 2, _, _, _, _, 1, ⟨rfl, rfl, rfl, rfl⟩, rfl, rfl, rfl, rfl, by decide +kernel, by decide +kernel, by decide +kernel⟩⟩

/-- Each clause of ContributionMeetsItsChecks that has hypotheses: a state and operands that meet them. -/
theorem witness_ContributionMeetsItsChecks :
    (∃ (s : State) (l : Nat) (ph : Nat) (x : Flight) (p : Pkt), s.alive = true ∧ l < 64 ∧ s.headLocal (.serai l) = some x ∧ p = x.pkt ∧ s.physOf l = some ph ∧ s.coreAsleep ph = true) ∧
    (∃ (s : State) (l : Nat) (ph : Nat) (x : Flight) (p : Pkt), s.alive = true ∧ l < 64 ∧ s.headLocal (.serai l) = some x ∧ p = x.pkt ∧ s.physOf l = some ph ∧ s.coreAsleep ph = false ∧ p.kind = 1 ∧ (32 ≤ (s.core ph).aq.length ∨ s.ser.fencing.contains l = true)) ∧
    (∃ (s : State) (l : Nat) (ph : Nat) (x : Flight) (p : Pkt), s.alive = true ∧ l < 64 ∧ s.headLocal (.serai l) = some x ∧ p = x.pkt ∧ s.physOf l = some ph ∧ s.coreAsleep ph = false ∧ p.kind = 1 ∧ (s.core ph).aq.length < 32 ∧ s.ser.fencing.contains l = false ∧ s.arriveSlice p = false) ∧
    (∃ (s : State) (l : Nat) (ph : Nat) (x : Flight) (p : Pkt), s.alive = true ∧ l < 64 ∧ s.headLocal (.serai l) = some x ∧ p = x.pkt ∧ s.physOf l = some ph ∧ s.coreAsleep ph = false ∧ p.kind = 1 ∧ (s.core ph).aq.length < 32 ∧ s.ser.fencing.contains l = false ∧ s.arriveSlice p = true ∧ s.arriveForm p = false) ∧
    (∃ (s : State) (l : Nat) (ph : Nat) (x : Flight) (p : Pkt), s.alive = true ∧ l < 64 ∧ s.headLocal (.serai l) = some x ∧ p = x.pkt ∧ s.physOf l = some ph ∧ s.coreAsleep ph = false ∧ p.kind = 1 ∧ (s.core ph).aq.length < 32 ∧ s.ser.fencing.contains l = false ∧ s.arriveSlice p = true ∧ s.arriveForm p = true ∧ e2eOf p.payload ≠ p.e2e) ∧
    (∃ (s : State) (l : Nat) (ph : Nat) (x : Flight) (p : Pkt) (why : _) (u : _), s.alive = true ∧ l < 64 ∧ s.headLocal (.serai l) = some x ∧ p = x.pkt ∧ s.physOf l = some ph ∧ s.coreAsleep ph = false ∧ p.kind = 1 ∧ (s.core ph).aq.length < 32 ∧ s.ser.fencing.contains l = false ∧ s.arriveSlice p = true ∧ s.arriveForm p = true ∧ e2eOf p.payload = p.e2e ∧ s.arriveLate p = some why ∧ u = (((((s.dropFlight x).cnt SRG_LATE_count).wr SRG_LATE_LOC_ctx p.ctx).wr SRG_LATE_LOC_member p.member).wr SRG_LATE_LOC_attempt p.attempt).wr SRG_LATE_LOC_valid 1) ∧
    (∃ (s : State) (l : Nat) (ph : Nat) (x : Flight) (p : Pkt), s.alive = true ∧ l < 64 ∧ s.headLocal (.serai l) = some x ∧ p = x.pkt ∧ s.physOf l = some ph ∧ s.coreAsleep ph = false ∧ p.kind = 1 ∧ (s.core ph).aq.length < 32 ∧ s.ser.fencing.contains l = false ∧ s.arriveSlice p = true ∧ s.arriveForm p = true ∧ e2eOf p.payload = p.e2e ∧ s.arriveLate p = none ∧ s.ctxActive p.ctx = false) ∧
    (∃ (s : State) (l : Nat) (ph : Nat) (x : Flight) (p : Pkt), s.alive = true ∧ l < 64 ∧ s.headLocal (.serai l) = some x ∧ p = x.pkt ∧ s.physOf l = some ph ∧ s.coreAsleep ph = false ∧ p.kind = 1 ∧ (s.core ph).aq.length < 32 ∧ s.ser.fencing.contains l = false ∧ s.arriveSlice p = true ∧ s.arriveForm p = true ∧ e2eOf p.payload = p.e2e ∧ s.arriveLate p = none ∧ s.ctxActive p.ctx = true ∧ ((s.ctxBase p.ctx + s.ctxLen p.ctx ≤ p.chunk ∨ s.ctxFloor p.ctx + s.ctxAhead p.ctx ≤ p.chunk))) ∧
    (∃ (s : State) (l : Nat) (ph : Nat) (x : Flight) (p : Pkt) (k : _), s.alive = true ∧ l < 64 ∧ s.headLocal (.serai l) = some x ∧ p = x.pkt ∧ s.physOf l = some ph ∧ s.coreAsleep ph = false ∧ p.kind = 1 ∧ (s.core ph).aq.length < 32 ∧ s.ser.fencing.contains l = false ∧ s.arriveSlice p = true ∧ s.arriveForm p = true ∧ e2eOf p.payload = p.e2e ∧ s.arriveLate p = none ∧ s.ctxActive p.ctx = true ∧ p.chunk < s.ctxBase p.ctx + s.ctxLen p.ctx ∧ p.chunk < s.ctxFloor p.ctx + s.ctxAhead p.ctx ∧ s.chunk? p.ctx p.chunk = some k ∧ k.live = true ∧ bit (k.pcs.getD 0 (p.member * 64 + p.seq % 65536)) 15 = true) ∧
    (∃ (s : State) (l : Nat) (ph : Nat) (x : Flight) (p : Pkt) (k : _), s.alive = true ∧ l < 64 ∧ s.headLocal (.serai l) = some x ∧ p = x.pkt ∧ s.physOf l = some ph ∧ s.coreAsleep ph = false ∧ p.kind = 1 ∧ (s.core ph).aq.length < 32 ∧ s.ser.fencing.contains l = false ∧ s.arriveSlice p = true ∧ s.arriveForm p = true ∧ e2eOf p.payload = p.e2e ∧ s.arriveLate p = none ∧ s.ctxActive p.ctx = true ∧ p.chunk < s.ctxBase p.ctx + s.ctxLen p.ctx ∧ p.chunk < s.ctxFloor p.ctx + s.ctxAhead p.ctx ∧ s.chunk? p.ctx p.chunk = some k ∧ k.live = true ∧ bit (k.pcs.getD 0 (p.member * 64 + p.seq % 65536)) 15 = false ∧ hasTally k.operation = true) ∧
    (∃ (s : State) (l : Nat) (ph : Nat) (x : Flight) (p : Pkt) (k : _) (k' : _) (s1 : _), s.alive = true ∧ l < 64 ∧ s.headLocal (.serai l) = some x ∧ p = x.pkt ∧ s.physOf l = some ph ∧ s.coreAsleep ph = false ∧ p.kind = 1 ∧ (s.core ph).aq.length < 32 ∧ s.ser.fencing.contains l = false ∧ s.arriveSlice p = true ∧ s.arriveForm p = true ∧ e2eOf p.payload = p.e2e ∧ s.arriveLate p = none ∧ s.ctxActive p.ctx = true ∧ p.chunk < s.ctxBase p.ctx + s.ctxLen p.ctx ∧ p.chunk < s.ctxFloor p.ctx + s.ctxAhead p.ctx ∧ s.chunk? p.ctx p.chunk = some k ∧ k.live = true ∧ bit (k.pcs.getD 0 (p.member * 64 + p.seq % 65536)) 15 = false ∧ hasTally k.operation = false ∧ s.takeStage k 2 = (some k', s1)) ∧
    (∃ (s : State) (l : Nat) (ph : Nat) (x : Flight) (p : Pkt) (k : _) (s1 : _), s.alive = true ∧ l < 64 ∧ s.headLocal (.serai l) = some x ∧ p = x.pkt ∧ s.physOf l = some ph ∧ s.coreAsleep ph = false ∧ p.kind = 1 ∧ (s.core ph).aq.length < 32 ∧ s.ser.fencing.contains l = false ∧ s.arriveSlice p = true ∧ s.arriveForm p = true ∧ e2eOf p.payload = p.e2e ∧ s.arriveLate p = none ∧ s.ctxActive p.ctx = true ∧ p.chunk < s.ctxBase p.ctx + s.ctxLen p.ctx ∧ p.chunk < s.ctxFloor p.ctx + s.ctxAhead p.ctx ∧ s.chunk? p.ctx p.chunk = some k ∧ k.live = true ∧ bit (k.pcs.getD 0 (p.member * 64 + p.seq % 65536)) 15 = false ∧ hasTally k.operation = false ∧ s.takeStage k 2 = (none, s1)) ∧
    (∃ (s : State) (l : Nat) (ph : Nat) (x : Flight) (p : Pkt) (k : _) (k' : _) (s1 : _) (s2 : _), s.alive = true ∧ l < 64 ∧ s.headLocal (.serai l) = some x ∧ p = x.pkt ∧ s.physOf l = some ph ∧ s.coreAsleep ph = false ∧ p.kind = 1 ∧ (s.core ph).aq.length < 32 ∧ s.ser.fencing.contains l = false ∧ s.arriveSlice p = true ∧ s.arriveForm p = true ∧ e2eOf p.payload = p.e2e ∧ s.arriveLate p = none ∧ s.ctxActive p.ctx = true ∧ p.chunk < s.ctxBase p.ctx + s.ctxLen p.ctx ∧ p.chunk < s.ctxFloor p.ctx + s.ctxAhead p.ctx ∧ s.chunk? p.ctx p.chunk = none ∧ s.openChunk p l = (.ok k, s1) ∧ hasTally k.operation = false ∧ s1.takeStage k 2 = (some k', s2)) ∧
    (∃ (s : State) (l : Nat) (ph : Nat) (x : Flight) (p : Pkt) (k : _) (s1 : _), s.alive = true ∧ l < 64 ∧ s.headLocal (.serai l) = some x ∧ p = x.pkt ∧ s.physOf l = some ph ∧ s.coreAsleep ph = false ∧ p.kind = 1 ∧ (s.core ph).aq.length < 32 ∧ s.ser.fencing.contains l = false ∧ s.arriveSlice p = true ∧ s.arriveForm p = true ∧ e2eOf p.payload = p.e2e ∧ s.arriveLate p = none ∧ s.ctxActive p.ctx = true ∧ p.chunk < s.ctxBase p.ctx + s.ctxLen p.ctx ∧ p.chunk < s.ctxFloor p.ctx + s.ctxAhead p.ctx ∧ s.chunk? p.ctx p.chunk = none ∧ s.openChunk p l = (.ok k, s1) ∧ hasTally k.operation = true) ∧
    (∃ (s : State) (l : Nat) (ph : Nat) (x : Flight) (p : Pkt) (cause : _) (s1 : _), s.alive = true ∧ l < 64 ∧ s.headLocal (.serai l) = some x ∧ p = x.pkt ∧ s.physOf l = some ph ∧ s.coreAsleep ph = false ∧ p.kind = 1 ∧ (s.core ph).aq.length < 32 ∧ s.ser.fencing.contains l = false ∧ s.arriveSlice p = true ∧ s.arriveForm p = true ∧ e2eOf p.payload = p.e2e ∧ s.arriveLate p = none ∧ s.ctxActive p.ctx = true ∧ p.chunk < s.ctxBase p.ctx + s.ctxLen p.ctx ∧ p.chunk < s.ctxFloor p.ctx + s.ctxAhead p.ctx ∧ s.chunk? p.ctx p.chunk = none ∧ s.openChunk p l = (.error cause, s1)) :=
  ⟨⟨coreUp [(PAGE_PWR_state, [1, 0x80 + 67])] contrib [], 63, _, _, _, by decide +kernel, by decide +kernel, pick (by decide +kernel), rfl, pick (by decide +kernel), by decide +kernel⟩,
   ⟨{ coreUp [] contrib [] with ser := { cores := [(67, { aq := List.replicate 32 { ctx := 0, chunk := 0, gen := 0, member := 0, piece := 0, fmt := 0, pkt := {}, flight := none } })] } }, 63, _, _, _, by decide +kernel, by decide +kernel, pick (by decide +kernel), rfl, pick (by decide +kernel), by decide +kernel, by decide +kernel, .inl (by decide +kernel)⟩,
   ⟨coreUp [] contrib [], 63, _, _, _, by decide +kernel, by decide +kernel, pick (by decide +kernel), rfl, pick (by decide +kernel), by decide +kernel, by decide +kernel, by decide +kernel, by decide +kernel, by decide +kernel⟩,
   ⟨ctxUp (coreUp [] { contrib with op := 5 } []) 1, 63, _, _, _, by decide +kernel, by decide +kernel, pick (by decide +kernel), rfl, pick (by decide +kernel), by decide +kernel, by decide +kernel, by decide +kernel, by decide +kernel, by decide +kernel, by decide +kernel⟩,
   ⟨ctxUp (coreUp [] { contrib with e2e := 1 } []) 1, 63, _, _, _, by decide +kernel, by decide +kernel, pick (by decide +kernel), rfl, pick (by decide +kernel), by decide +kernel, by decide +kernel, by decide +kernel, by decide +kernel, by decide +kernel, by decide +kernel, by decide +kernel⟩,
   ⟨(ctxUp (coreUp [] contrib []) 1).tset TB_CTX 0 65535 5 (1 <<< 32), 63, _, _, _, _, _, by decide +kernel, by decide +kernel, pick (by decide +kernel), rfl, pick (by decide +kernel), by decide +kernel, by decide +kernel, by decide +kernel, by decide +kernel, by decide +kernel, by decide +kernel, by decide +kernel, pick (by decide +kernel), rfl⟩,
   ⟨ctxUp (coreUp [] contrib []) 0, 63, _, _, _, by decide +kernel, by decide +kernel, pick (by decide +kernel), rfl, pick (by decide +kernel), by decide +kernel, by decide +kernel, by decide +kernel, by decide +kernel, by decide +kernel, by decide +kernel, by decide +kernel, by decide +kernel, by decide +kernel⟩,
   ⟨ctxUp (coreUp [] { contrib with chunk := 1 } []) 1, 63, _, _, _, by decide +kernel, by decide +kernel, pick (by decide +kernel), rfl, pick (by decide +kernel), by decide +kernel, by decide +kernel, by decide +kernel, by decide +kernel, by decide +kernel, by decide +kernel, by decide +kernel, by decide +kernel, by decide +kernel, .inl (by decide +kernel)⟩,
   ⟨ctxUp (coreUp [] contrib [{ ctx := 65535, chunk := 0, lcore := 63, pcs := [(0, 2 ^ 15)] }]) 1, 63, _, _, _, _, by decide +kernel, by decide +kernel, pick (by decide +kernel), rfl, pick (by decide +kernel), by decide +kernel, by decide +kernel, by decide +kernel, by decide +kernel, by decide +kernel, by decide +kernel, by decide +kernel, by decide +kernel, by decide +kernel, by decide +kernel, by decide +kernel, pick (by decide +kernel), by decide +kernel, by decide +kernel⟩,
   ⟨ctxUp (coreUp [] contrib [{ ctx := 65535, chunk := 0, lcore := 63 }]) 1, 63, _, _, _, _, by decide +kernel, by decide +kernel, pick (by decide +kernel), rfl, pick (by decide +kernel), by decide +kernel, by decide +kernel, by decide +kernel, by decide +kernel, by decide +kernel, by decide +kernel, by decide +kernel, by decide +kernel, by decide +kernel, by decide +kernel, by decide +kernel, pick (by decide +kernel), by decide +kernel, by decide +kernel, by decide +kernel⟩,
   ⟨ctxUp (coreUp pools contrib [{ ctx := 65535, chunk := 0, lcore := 63, operation := 3 }]) 1, 63, _, _, _, _, _, _, by decide +kernel, by decide +kernel, pick (by decide +kernel), rfl, pick (by decide +kernel), by decide +kernel, by decide +kernel, by decide +kernel, by decide +kernel, by decide +kernel, by decide +kernel, by decide +kernel, by decide +kernel, by decide +kernel, by decide +kernel, by decide +kernel, pick (by decide +kernel), by decide +kernel, by decide +kernel, by decide +kernel, pairS (by decide +kernel)⟩,
   ⟨ctxUp (coreUp [] contrib [{ ctx := 65535, chunk := 0, lcore := 63, operation := 3 }]) 1, 63, _, _, _, _, _, by decide +kernel, by decide +kernel, pick (by decide +kernel), rfl, pick (by decide +kernel), by decide +kernel, by decide +kernel, by decide +kernel, by decide +kernel, by decide +kernel, by decide +kernel, by decide +kernel, by decide +kernel, by decide +kernel, by decide +kernel, by decide +kernel, pick (by decide +kernel), by decide +kernel, by decide +kernel, by decide +kernel, pairT (by decide +kernel)⟩,
   ⟨(ctxUp (coreUp pools contrib []) 1).tset TB_CTX 0 65535 0 (1 ||| 3 <<< 1 ||| 1 <<< 32 ||| 1 <<< 54), 63, _, _, _, _, _, _, _, by decide +kernel, by decide +kernel, pick (by decide +kernel), rfl, pick (by decide +kernel), by decide +kernel, by decide +kernel, by decide +kernel, by decide +kernel, by decide +kernel, by decide +kernel, by decide +kernel, by decide +kernel, by decide +kernel, by decide +kernel, by decide +kernel, by decide +kernel, pairOk { ctx := 0, chunk := 0, lcore := 0 } (by decide +kernel), by decide +kernel, pairS (by decide +kernel)⟩,
   ⟨ctxUp (coreUp [] contrib []) 1, 63, _, _, _, _, _, by decide +kernel, by decide +kernel, pick (by decide +kernel), rfl, pick (by decide +kernel), by decide +kernel, by decide +kernel, by decide +kernel, by decide +kernel, by decide +kernel, by decide +kernel, by decide +kernel, by decide +kernel, by decide +kernel, by decide +kernel, by decide +kernel, by decide +kernel, pairOk { ctx := 0, chunk := 0, lcore := 0 } (by decide +kernel), by decide +kernel⟩,
   ⟨ctxUp (coreUp [] contrib [{ ctx := 0, chunk := 0, lcore := 63, slot := some 0, granules := 64 }]) 1, 63, _, _, _, _, _, by decide +kernel, by decide +kernel, pick (by decide +kernel), rfl, pick (by decide +kernel), by decide +kernel, by decide +kernel, by decide +kernel, by decide +kernel, by decide +kernel, by decide +kernel, by decide +kernel, by decide +kernel, by decide +kernel, by decide +kernel, by decide +kernel, by decide +kernel, pairErr 0 (by decide +kernel)⟩⟩

/-- Each clause of ChunkDeadlines that has hypotheses: a state and operands that meet them. -/
theorem witness_ChunkDeadlines :
    (∃ (s : State) (c : Nat) (chunk : Nat) (k : Chunk) (u : State) (v : State), s.alive = true ∧ c < 65536 ∧ s.chunk? c chunk = some k ∧ ((k.state = 1 ∨ k.state = 2)) ∧ k.straggled = false ∧ s.cx c 2 0 32 ≠ 0 ∧ k.openAt + s.cx c 2 0 32 * NS ≤ s.fclk ∧ u = ((s.setChunk { k with straggled := true }).cnt SRG_STRAGGLE_count).irq 12 2 ∧ v = (if u.cx c 3 40 1 = 1 then (k.contributors.filter fun m => !k.memberDone m).foldl (fun s m => s.statsAdd (s.cx c 3 32 8) m 0 1 0) u else u)) ∧
    (∃ (s : State) (c : Nat) (chunk : Nat) (k : Chunk), s.alive = true ∧ c < 65536 ∧ s.chunk? c chunk = some k ∧ 1 ≤ k.state ∧ k.state ≤ 3 ∧ k.openAt + s.cx c 2 32 32 * 1000 * NS ≤ s.fclk ∧ (¬(k.state = 3 ∧ k.openAt + s.cx c 2 32 32 * 1000 * NS ≤ k.compAt ∧ k.compAt < k.openAt + s.cx c 2 32 32 * 1000 * NS + s.clkStep))) ∧
    (∃ (s : State) (c : Nat) (chunk : Nat) (k : Chunk), s.alive = true ∧ c < 65536 ∧ s.chunk? c chunk = some k ∧ k.state = 3 ∧ k.openAt + s.cx c 2 32 32 * 1000 * NS ≤ k.compAt ∧ k.compAt < k.openAt + s.cx c 2 32 32 * 1000 * NS + s.clkStep) ∧
    (∃ (s : State) (c : Nat) (chunk : Nat) (k : Chunk), s.alive = true ∧ c < 65536 ∧ s.chunk? c chunk = some k ∧ k.state = 6 ∧ k.retention = 1 ∧ k.retAt + s.cx c 3 0 32 * 1000 * NS ≤ s.fclk) :=
  ⟨⟨({ up [(SRG_STRAGGLE_POLICY_policy, [0])] with ser := { chunks := [{ ctx := 65535, chunk := 3, lcore := 0 }] } } : State).tset TB_CTX 0 65535 2 5, 65535, 3, _, _, _, by decide +kernel, by decide +kernel, pick (by decide +kernel), .inl (by decide +kernel), by decide +kernel, by decide +kernel, by decide +kernel, rfl, rfl⟩,
   ⟨{ up [] with ser := { chunks := [{ ctx := 65535, chunk := 3, lcore := 0, state := 3, openAt := 1 }] } }, 65535, 3, _, by decide +kernel, by decide +kernel, pick (by decide +kernel), by decide +kernel, by decide +kernel, by decide +kernel, by decide +kernel⟩,
   ⟨{ up [] with ser := { chunks := [{ ctx := 65535, chunk := 3, lcore := 0, state := 3, openAt := 5, compAt := 5 }] } }, 65535, 3, _, by decide +kernel, by decide +kernel, pick (by decide +kernel), by decide +kernel, by decide +kernel, by decide +kernel⟩,
   ⟨{ up [] with ser := { chunks := [{ ctx := 65535, chunk := 3, lcore := 0, state := 6, retention := 1 }] } }, 65535, 3, _, by decide +kernel, by decide +kernel, pick (by decide +kernel), by decide +kernel, by decide +kernel, by decide +kernel⟩⟩

/-- Each clause of ResultsAndTheirNaks that has hypotheses: a state and operands that meet them. -/
theorem witness_ResultsAndTheirNaks :
    (∃ (s : State) (a : State) (b : State) (core : Nat) (ue : Nat), s.alive = true ∧ core < 68 ∧ s.rd SRI_STATE_state core = 3 ∧ a = s.sendPiece core ue ∧ b = (a.ser.chunks.filter fun k => k.live && !k.relP.isEmpty && a.physOf k.lcore = some core).foldl (fun s k => s.feed k.ctx k.chunk 64) a) ∧
    (∃ (s : State) (t : State) (t1 : State) (core : Nat) (m : Nat) (e : EqEnt) (r : List EqEnt) (k : Chunk) (k1 : Chunk) (k2 : Chunk) (pm : Nat) (rt : Route) (w : List Byte) (out : Sent), (s.core core).eq = e :: r ∧ s.liveChunk e.ctx e.chunk e.gen = some k ∧ k.pm[e.piece.p]? = some pm ∧ k.recipients.drop e.sent = [m] ∧ s.route k.ctx m = some rt ∧ k1 = (s.chunk? k.ctx k.chunk).getD k ∧ w = (if k.operation = 4 then [] else e.piece.bytes k.fmt (pieceCount k.fmt k.elems e.piece.p)) ∧ s.sendResult k1 e.piece.p m 0 w (k1.pm.getD e.piece.p 0) rt (k.lcore / 4) = (out, t) ∧ t1 = t.setCore core { t.core core with eq := (t.core core).eq.drop 1 } ∧ k2 = (t1.chunk? k.ctx k.chunk).getD k ∧ out ≠ .again) ∧
    (∃ (s : State) (t : State) (t1 : State) (core : Nat) (m : Nat) (e : EqEnt) (r : List EqEnt) (k : Chunk) (k1 : Chunk) (k2 : Chunk) (pm : Nat) (rt : Route) (w : List Byte) (out : Sent), (s.core core).eq = e :: r ∧ s.liveChunk e.ctx e.chunk e.gen = some k ∧ k.pm[e.piece.p]? = some pm ∧ k.recipients.drop e.sent = [m] ∧ s.route k.ctx m = some rt ∧ k1 = (s.chunk? k.ctx k.chunk).getD k ∧ w = (if k.operation = 4 then [] else e.piece.bytes k.fmt (pieceCount k.fmt k.elems e.piece.p)) ∧ s.sendResult k1 e.piece.p m 0 w (k1.pm.getD e.piece.p 0) rt (k.lcore / 4) = (out, t) ∧ t1 = t.setCore core { t.core core with eq := (t.core core).eq.drop 1 } ∧ k2 = (t1.chunk? k.ctx k.chunk).getD k ∧ out = .again) ∧
    (∃ (s : State) (l : Nat) (ph : Nat) (x : Flight), s.alive = true ∧ l < 64 ∧ s.headLocal (.serai l) = some x ∧ s.physOf l = some ph ∧ s.coreAsleep ph = false ∧ x.pkt.kind = 3 ∧ ackRead x.pkt = none) ∧
    (∃ (s : State) (l : Nat) (ph : Nat) (x : Flight) (reason : Nat) (rk : Nat) (k : _), s.alive = true ∧ l < 64 ∧ s.headLocal (.serai l) = some x ∧ s.physOf l = some ph ∧ s.coreAsleep ph = false ∧ x.pkt.kind = 3 ∧ ackRead x.pkt = some (1, reason, rk) ∧ rk ≠ 6 ∧ e2eOf x.pkt.payload = x.pkt.e2e ∧ 1 ≤ reason ∧ reason ≤ 10 ∧ (s.dropFlight x).chunk? x.pkt.ctx x.pkt.chunk = some k ∧ k.state = 6) ∧
    (∃ (s : State) (l : Nat) (ph : Nat) (x : Flight) (reason : Nat) (rk : Nat) (k : _), s.alive = true ∧ l < 64 ∧ s.headLocal (.serai l) = some x ∧ s.physOf l = some ph ∧ s.coreAsleep ph = false ∧ x.pkt.kind = 3 ∧ ackRead x.pkt = some (1, reason, rk) ∧ rk ≠ 6 ∧ e2eOf x.pkt.payload = x.pkt.e2e ∧ 1 ≤ reason ∧ reason ≤ 10 ∧ (s.dropFlight x).chunk? x.pkt.ctx x.pkt.chunk = some k ∧ (k.state = 4 ∨ k.state = 5)) ∧
    (∃ (s : State) (l : Nat) (ph : Nat) (x : Flight) (reason : Nat) (rk : Nat) (k : _), s.alive = true ∧ l < 64 ∧ s.headLocal (.serai l) = some x ∧ s.physOf l = some ph ∧ s.coreAsleep ph = false ∧ x.pkt.kind = 3 ∧ ackRead x.pkt = some (1, reason, rk) ∧ rk ≠ 6 ∧ e2eOf x.pkt.payload = x.pkt.e2e ∧ 1 ≤ reason ∧ reason ≤ 10 ∧ (s.dropFlight x).chunk? x.pkt.ctx x.pkt.chunk = some k ∧ (k.state < 4 ∨ 6 < k.state)) ∧
    (∃ (s : State) (l : Nat) (ph : Nat) (x : Flight) (reason : Nat) (rk : Nat), s.alive = true ∧ l < 64 ∧ s.headLocal (.serai l) = some x ∧ s.physOf l = some ph ∧ s.coreAsleep ph = false ∧ x.pkt.kind = 3 ∧ ackRead x.pkt = some (1, reason, rk) ∧ rk ≠ 6 ∧ e2eOf x.pkt.payload = x.pkt.e2e ∧ 1 ≤ reason ∧ reason ≤ 10 ∧ (s.dropFlight x).chunk? x.pkt.ctx x.pkt.chunk = none) ∧
    (∃ (s : State) (l : Nat) (ph : Nat) (x : Flight) (reason : Nat) (rk : Nat), s.alive = true ∧ l < 64 ∧ s.headLocal (.serai l) = some x ∧ s.physOf l = some ph ∧ s.coreAsleep ph = false ∧ x.pkt.kind = 3 ∧ ackRead x.pkt = some (1, reason, rk) ∧ rk ≠ 6 ∧ e2eOf x.pkt.payload = x.pkt.e2e ∧ (reason = 0 ∨ 10 < reason)) :=
  ⟨⟨up [(SRI_STATE_state, [3, 67])], _, _, 67, 0, by decide +kernel, by decide +kernel, by decide +kernel, rfl, rfl⟩,
   ⟨ctxUp { up pools with ser := { chunks := [{ ctx := 65535, chunk := 0, lcore := 63, state := 5, pm := [0], group := 1 }], cores := [(67, { eq := [{ ctx := 65535, chunk := 0, gen := 0, piece := { p := 0 } }] })] } } 1, _, _, 67, 0, { ctx := 65535, chunk := 0, gen := 0, piece := { p := 0 } }, [], _, _, _, 0, _, _, _, by decide +kernel, pick (by decide +kernel), by decide +kernel, by decide +kernel, pick (by decide +kernel), rfl, rfl, both _, rfl, rfl, by decide +kernel⟩,
   ⟨ctxUp { up [] with ser := { chunks := [{ ctx := 65535, chunk := 0, lcore := 63, state := 5, pm := [0], group := 1 }], cores := [(67, { eq := [{ ctx := 65535, chunk := 0, gen := 0, piece := { p := 0 } }] })] } } 1, _, _, 67, 0, { ctx := 65535, chunk := 0, gen := 0, piece := { p := 0 } }, [], _, _, _, 0, _, _, _, by decide +kernel, pick (by decide +kernel), by decide +kernel, by decide +kernel, pick (by decide +kernel), rfl, rfl, both _, rfl, rfl, by decide +kernel⟩,
   ⟨coreUp [] { kind := 3 } [], 63, _, _, by decide +kernel, by decide +kernel, pick (by decide +kernel), pick (by decide +kernel), by decide +kernel, by decide +kernel, by decide +kernel⟩,
   ⟨coreUp [] { kind := 3, length := 16, ctx := 65535, e2e := e2eOf [1, 10], payload := [1, 10] } [{ ctx := 65535, chunk := 0, lcore := 63, state := 6 }], 63, _, _, 10, 0, _, by decide +kernel, by decide +kernel, pick (by decide +kernel), pick (by decide +kernel), by decide +kernel, by decide +kernel, by decide +kernel, by decide +kernel, by decide +kernel, by decide +kernel, by decide +kernel, pick (by decide +kernel), by decide +kernel⟩,
   ⟨coreUp [] { kind := 3, length := 16, ctx := 65535, e2e := e2eOf [1, 1], payload := [1, 1] } [{ ctx := 65535, chunk := 0, lcore := 63, state := 5 }], 63, _, _, 1, 0, _, by decide +kernel, by decide +kernel, pick (by decide +kernel), pick (by decide +kernel), by decide +kernel, by decide +kernel, by decide +kernel, by decide +kernel, by decide +kernel, by decide +kernel, by decide +kernel, pick (by decide +kernel), .inr (by decide +kernel)⟩,
   ⟨coreUp [] { kind := 3, length := 16, ctx := 65535, e2e := e2eOf [1, 1], payload := [1, 1] } [{ ctx := 65535, chunk := 0, lcore := 63, state := 3 }], 63, _, _, 1, 0, _, by decide +kernel, by decide +kernel, pick (by decide +kernel), pick (by decide +kernel), by decide +kernel, by decide +kernel, by decide +kernel, by decide +kernel, by decide +kernel, by decide +kernel, by decide +kernel, pick (by decide +kernel), .inl (by decide +kernel)⟩,
   ⟨coreUp [] { kind := 3, length := 16, ctx := 65535, e2e := e2eOf [1, 1], payload := [1, 1] } [], 63, _, _, 1, 0, by decide +kernel, by decide +kernel, pick (by decide +kernel), pick (by decide +kernel), by decide +kernel, by decide +kernel, by decide +kernel, by decide +kernel, by decide +kernel, by decide +kernel, by decide +kernel, by decide +kernel⟩,
   ⟨coreUp [] { kind := 3, length := 16, ctx := 65535, e2e := e2eOf [1, 11], payload := [1, 11] } [], 63, _, _, 11, 0, by decide +kernel, by decide +kernel, pick (by decide +kernel), pick (by decide +kernel), by decide +kernel, by decide +kernel, by decide +kernel, by decide +kernel, by decide +kernel, .inr (by decide +kernel)⟩⟩

/-- Each clause of CollectiveTableCommands that has hypotheses: a state and operands that meet them. -/
theorem witness_CollectiveTableCommands :
    (∃ (s : State) (u : State), s.served 12 0x200 ∧ u = s.event 12 4) ∧
    (∃ (s : State) (u : State), s.served 12 0x200 ∧ u = s.event 12 4 ∧ u.srgIdx < 256) ∧
    (∃ (s : State) (u : State), s.served 12 0x200 ∧ u = s.event 12 4 ∧ 256 ≤ u.srgIdx) ∧
    (∃ (s : State) (u : State), s.served 12 0x200 ∧ u = s.event 12 4 ∧ u.memberBusy u.srgIdx = false ∧ fld (u.rd SRG_TDATA_data 0 0) 38 2 ≠ 3) ∧
    (∃ (s : State) (u : State), s.served 12 0x200 ∧ u = s.event 12 4 ∧ u.memberBusy u.srgIdx = true) ∧
    (∃ (s : State) (u : State), s.served 12 0x200 ∧ u = s.event 12 4 ∧ u.sliceState (u.srgIdx % 4096) ≠ 2) ∧
    (∃ (s : State) (u : State), s.served 12 0x200 ∧ u = s.event 12 4 ∧ u.sliceState (u.srgIdx % 4096) = 2) ∧
    (∃ (s : State) (u : State), s.served 12 0x200 ∧ u = s.event 12 4 ∧ u.ctxActive u.srgIdx = false ∧ u.sliceState (u.ctxSlice u.srgIdx) ≠ 2 ∧ u.sliceState (fld (ctxMask 0 (u.rd SRG_TDATA_data 0 0)) 8 12) ≠ 2 ∧ ctxInvalid (fun j => ctxMask j (u.rd SRG_TDATA_data 0 j)) = true) ∧
    (∃ (s : State) (u : State), s.served 12 0x200 ∧ u = s.event 12 4 ∧ u.ctxValid u.srgIdx = true ∧ u.ctxActive u.srgIdx = false ∧ u.sliceState (u.ctxSlice u.srgIdx) = 1 ∧ u.kernel? (u.ctxKernel u.srgIdx) = none) ∧
    (∃ (s : State) (u : State) (table : _), s.served 12 0x200 ∧ u = s.event 12 4 ∧ 0 < table ∧ table < 16) ∧
    (∃ (s : State) (u : State) (table : _), s.served 12 0x200 ∧ u = s.event 12 4 ∧ 0 < table ∧ table < 16 ∧ table ≠ 2) ∧
    (∃ (s : State) (u : State) (table : _), s.served 12 0x200 ∧ u = s.event 12 4 ∧ 0 < table ∧ table < 16 ∧ table ≠ 3) ∧
    (∃ (s : State) (u : State), s.served 12 0x200 ∧ u = s.event 12 4 ∧ u.ctxActive u.srgIdx = false ∧ u.sliceState (u.ctxSlice u.srgIdx) ≠ 2 ∧ u.sliceState (fld (ctxMask 0 (u.rd SRG_TDATA_data 0 0)) 8 12) ≠ 2 ∧ ctxInvalid (fun j => ctxMask j (u.rd SRG_TDATA_data 0 j)) = false) ∧
    (∃ (s : State) (u : State), s.served 12 0x200 ∧ u = s.event 12 4 ∧ u.ctxActive u.srgIdx = true) ∧
    (∃ (s : State) (u : State) (k : _), s.served 12 0x200 ∧ u = s.event 12 4 ∧ u.chunk? u.srgIdx (u.rd SRG_TKEY_chunk) = some k) ∧
    (∃ (s : State) (u : State), s.served 12 0x200 ∧ u = s.event 12 4 ∧ u.chunk? u.srgIdx (u.rd SRG_TKEY_chunk) = none) ∧
    (∃ (s : State) (u : State) (k : _), s.served 12 0x200 ∧ u = s.event 12 4 ∧ u.ctxValid u.srgIdx = true ∧ u.ctxActive u.srgIdx = false ∧ u.sliceState (u.ctxSlice u.srgIdx) = 1 ∧ u.kernel? (u.ctxKernel u.srgIdx) = some k ∧ bit k.ops (u.ctxOper u.srgIdx) = true ∧ u.ctxLdg u.srgIdx = false ∧ u.ctxOper u.srgIdx ≠ 5) ∧
    (∃ (s : State) (u : State) (k : _), s.served 12 0x200 ∧ u = s.event 12 4 ∧ u.chunk? u.srgIdx (u.rd SRG_TKEY_chunk) = some k ∧ (k.live = true ∨ k.state = 6)) :=
  ⟨⟨up [ck 12], _, ⟨rfl, rfl, rfl, rfl⟩, rfl⟩,
   ⟨up [ck 12, (SRG_TKEY_index, [255])], _, ⟨rfl, rfl, rfl, rfl⟩, rfl, by decide +kernel⟩,
   ⟨up [ck 12, (SRG_TKEY_index, [256])], _, ⟨rfl, rfl, rfl, rfl⟩, rfl, by decide +kernel⟩,
   ⟨up [ck 12], _, ⟨rfl, rfl, rfl, rfl⟩, rfl, memberBusy_none _ _ (by decide +kernel), by decide +kernel⟩,
   ⟨((up [ck 12]).tset TB_CTX 0 65535 0 (1 <<< 24) |>.tset TB_CTX 0 65535 1 (1 <<< 7)).tset TB_CTX 0 65535 5 (1 <<< 16), _, ⟨rfl, rfl, rfl, rfl⟩, rfl, memberBusy_of _ _ 65535 (by decide) (by decide +kernel)⟩,
   ⟨up [ck 12, (SRG_TKEY_index, [4095])], _, ⟨rfl, rfl, rfl, rfl⟩, rfl, by decide +kernel⟩,
   ⟨(up [ck 12, (SRG_TKEY_index, [4095])]).setSliceState 4095 2, _, ⟨rfl, rfl, rfl, rfl⟩, rfl, by decide +kernel⟩,
   ⟨up [ck 12], _, ⟨rfl, rfl, rfl, rfl⟩, rfl, by decide +kernel, by decide +kernel, by decide +kernel, by decide +kernel⟩,
   ⟨ctxUp (up [ck 12, (SRG_TKEY_index, [65535])]) 0, _, ⟨rfl, rfl, rfl, rfl⟩, rfl, by decide +kernel, by decide +kernel, by decide +kernel, by decide +kernel⟩,
   ⟨up [ck 12], _, 15, ⟨rfl, rfl, rfl, rfl⟩, rfl, by decide +kernel, by decide +kernel⟩,
   ⟨up [ck 12], _, 1, ⟨rfl, rfl, rfl, rfl⟩, rfl, by decide +kernel, by decide +kernel, by decide +kernel⟩,
   ⟨up [ck 12], _, 1, ⟨rfl, rfl, rfl, rfl⟩, rfl, by decide +kernel, by decide +kernel, by decide +kernel⟩,
   ⟨up [ck 12, (SRG_TKEY_index, [65535]), (SRG_TDATA_data, [1 ||| 1 <<< 54]), (SRG_TDATA_data, [1 ||| 1 <<< 32 ||| 1 <<< 48, 0, 1]), (SRG_TDATA_data, [1 <<< 32, 0, 2]), (SRG_TDATA_data, [1 <<< 32, 0, 4])], _, ⟨rfl, rfl, rfl, rfl⟩, rfl, by decide +kernel, by decide +kernel, by decide +kernel, by decide +kernel⟩,
   ⟨ctxUp (up [ck 12, (SRG_TKEY_index, [65535])]) 1, _, ⟨rfl, rfl, rfl, rfl⟩, rfl, by decide +kernel⟩,
   ⟨{ up [ck 12, (SRG_TKEY_index, [65535]), (SRG_TKEY_chunk, [7])] with ser := { chunks := [{ ctx := 65535, chunk := 7, lcore := 0 }] } }, _, _, ⟨rfl, rfl, rfl, rfl⟩, rfl, pick (by decide +kernel)⟩,
   ⟨up [ck 12], _, ⟨rfl, rfl, rfl, rfl⟩, rfl, by decide +kernel⟩,
   ⟨ctxUp { up [ck 12, (SRG_TKEY_index, [65535])] with ser := { kernels := [{ idx := 0, base := 0, onArrive := 0, onComplete := 0, onNorm := 0, onEmit := 0, ops := 1, ver := 0, code := [0] }] } } 0, _, _, ⟨rfl, rfl, rfl, rfl⟩, rfl, by decide +kernel, by decide +kernel, by decide +kernel, pick (by decide +kernel), by decide +kernel, by decide +kernel, by decide +kernel⟩,
   ⟨{ up [ck 12, (SRG_TKEY_index, [65535]), (SRG_TKEY_chunk, [7])] with ser := { chunks := [{ ctx := 65535, chunk := 7, lcore := 0, state := 5 }] } }, _, _, ⟨rfl, rfl, rfl, rfl⟩, rfl, pick (by decide +kernel), .inl (by decide +kernel)⟩⟩

/-- Each clause of ControlAndPredicateInstructions that has hypotheses: a state and operands that meet them. -/
theorem witness_ControlAndPredicateInstructions :
    (∃ (s : State) (core : Nat) (i : Inv) (w : Nat), s.atInstr core 0x00 i w) ∧
    (∃ (s : State) (core : Nat) (i : Inv) (w : Nat), s.atInstr core 0x09 i w ∧ (∀ e ∈ (s.core core).sq, e.inv ≠ i.id)) ∧
    (∃ (s : State) (core : Nat) (i : Inv) (w : Nat), s.atInstr core 0x09 i w ∧ (∃ e ∈ (s.core core).sq, e.inv = i.id)) ∧
    (∃ (s : State) (core : Nat) (i : Inv) (w : Nat), s.atInstr core 0x0A i w ∧ (uC w = 6 ∨ (i.sx (uA w)).2 = false ∧ (i.sx (uB w)).2 = false)) ∧
    (∃ (s : State) (core : Nat) (i : Inv) (w : Nat), s.atInstr core 0x0A i w ∧ uC w ≠ 6 ∧ ((i.sx (uA w)).2 = true ∨ (i.sx (uB w)).2 = true)) ∧
    (∃ (s : State) (core : Nat) (i : Inv) (w : Nat), s.atInstr core 0x0B i w ∧ fld w 0 2 = 0) ∧
    (∃ (s : State) (core : Nat) (i : Inv) (w : Nat), s.atInstr core 0x0B i w ∧ fld w 0 2 = 1) ∧
    (∃ (s : State) (core : Nat) (i : Inv) (w : Nat), s.atInstr core 0x0B i w ∧ fld w 0 2 = 2) ∧
    (∃ (s : State) (core : Nat) (i : Inv) (w : Nat), s.atInstr core 0x5A i w) ∧
    (∃ (s : State) (core : Nat) (i : Inv) (w : Nat), s.atInstr core 0x58 i w ∧ ((∀ l ∈ i.active w, (i.lane (uA w) l).2 = false ∧ (i.laneB w l).2 = false))) ∧
    (∃ (s : State) (core : Nat) (i : Inv) (w : Nat), s.atInstr core 0x58 i w ∧ ((∃ l ∈ i.active w, (i.lane (uA w) l).2 = true ∨ (i.laneB w l).2 = true))) ∧
    (∃ (s : State) (core : Nat) (i : Inv) (w : Nat), s.atInstr core 0x59 i w ∧ ((∀ l ∈ i.active w, (i.lane (uA w) l).2 = false ∧ (i.lane (uB w) l).2 = false))) ∧
    (∃ (s : State) (core : Nat) (i : Inv) (w : Nat), s.atInstr core 0x59 i w ∧ ((∃ l ∈ i.active w, (i.lane (uA w) l).2 = true ∨ (i.lane (uB w) l).2 = true))) :=
  ⟨⟨runUp (invOf 0) 0 [] [], 67, invOf 0, 0, ⟨rfl, by decide, by decide +kernel⟩⟩,
   ⟨runUp (invOf 0) (0x09 <<< 56) [] [], 67, invOf 0, 0x09 <<< 56, ⟨rfl, by decide, by decide +kernel⟩, by decide +kernel⟩,
   ⟨{ runUp (invOf 0) (0x09 <<< 56) [] [] with ser := { (runUp (invOf 0) (0x09 <<< 56) [] []).ser with cores := [(67, { inv := some (invOf 0), sq := [⟨0, 0, 0, 5, 0, []⟩] })] } }, 67, invOf 0, 0x09 <<< 56, ⟨rfl, by decide, by decide +kernel⟩, by decide +kernel⟩,
   ⟨runUp (invOf 0) (0x0A <<< 56) [] [], 67, invOf 0, 0x0A <<< 56, ⟨rfl, by decide, by decide +kernel⟩, .inr (by decide +kernel)⟩,
   ⟨runUp { invOf 0 with x := [(0, 2 ^ 64)] } (0x0A <<< 56) [] [], 67, { invOf 0 with x := [(0, 2 ^ 64)] }, 0x0A <<< 56, ⟨rfl, by decide, by decide +kernel⟩, by decide +kernel, .inl (by decide +kernel)⟩,
   ⟨runUp (invOf 0) (0x0B <<< 56) [] [], 67, invOf 0, 0x0B <<< 56, ⟨rfl, by decide, by decide +kernel⟩, by decide +kernel⟩,
   ⟨runUp (invOf 0) (0x0B <<< 56 ||| 1) [] [], 67, invOf 0, 0x0B <<< 56 ||| 1, ⟨rfl, by decide, by decide +kernel⟩, by decide +kernel⟩,
   ⟨runUp (invOf 0) (0x0B <<< 56 ||| 2) [] [], 67, invOf 0, 0x0B <<< 56 ||| 2, ⟨rfl, by decide, by decide +kernel⟩, by decide +kernel⟩,
   ⟨runUp (invOf 0) (0x5A <<< 56) [] [], 67, invOf 0, 0x5A <<< 56, ⟨rfl, by decide, by decide +kernel⟩⟩,
   ⟨runUp (invOf 0) (0x58 <<< 56) [] [], 67, invOf 0, 0x58 <<< 56, ⟨rfl, by decide, by decide +kernel⟩, by decide +kernel⟩,
   ⟨runUp { invOf 0 with v := [(127, 2 ^ 32)] } (0x58 <<< 56) [] [], 67, { invOf 0 with v := [(127, 2 ^ 32)] }, 0x58 <<< 56, ⟨rfl, by decide, by decide +kernel⟩, by decide +kernel⟩,
   ⟨runUp (invOf 0) (0x59 <<< 56) [] [], 67, invOf 0, 0x59 <<< 56, ⟨rfl, by decide, by decide +kernel⟩, by decide +kernel⟩,
   ⟨runUp { invOf 0 with v := [(127, 2 ^ 32)] } (0x59 <<< 56) [] [], 67, { invOf 0 with v := [(127, 2 ^ 32)] }, 0x59 <<< 56, ⟨rfl, by decide, by decide +kernel⟩, by decide +kernel⟩⟩

/-- A state and operands that meet the hypotheses of ScalarInstructions. -/
theorem witness_ScalarInstructions :
    (∃ (core : Nat) (s : State) (i : Inv) (w : Nat), s.atInstr core 0x68 i w) :=
  ⟨67, runUp (invOf 0) (0x68 <<< 56) [] [], invOf 0, 0x68 <<< 56, ⟨rfl, by decide, by decide +kernel⟩⟩

/-- Each clause of KernelAccumulatorInstructions that has hypotheses: a state and operands that meet them. -/
theorem witness_KernelAccumulatorInstructions :
    (∃ (s : State) (core : Nat) (i : Inv) (w : Nat), s.atInstr core 0x23 i w) ∧
    (∃ (s : State) (core : Nat) (i : Inv) (w : Nat), s.atInstr core 0x24 i w) ∧
    (∃ (s : State) (core : Nat) (i : Inv) (w : Nat), s.atInstr core 0x21 i w ∧ (i.sx (uC w)).2 = true) ∧
    (∃ (s : State) (core : Nat) (i : Inv) (w : Nat), s.atInstr core 0x21 i w ∧ (i.sx (uC w)).2 = false) ∧
    (∃ (s : State) (core : Nat) (i : Inv) (w : Nat), s.atInstr core 0x22 i w ∧ (i.sx (uC w)).2 = true) ∧
    (∃ (s : State) (core : Nat) (i : Inv) (w : Nat), s.atInstr core 0x22 i w ∧ (i.sx (uC w)).2 = false) ∧
    (∃ (s : State) (core : Nat) (i : Inv) (w : Nat) (o : Nat × Nat), s.atInstr core 0x31 i w ∧ o = (readLanes (uFmt w) [(i.kacc (uA w)).acc.resolve] (fld w 25 3) (bit w 24) [dsr i.ctx i.chunk (uImm w) (i.sx (uC w)).1]).getD 0 (0, 0)) ∧
    (∃ (s : State) (core : Nat) (i : Inv) (w : Nat), s.atInstr core 0x79 i w ∧ i.entry ≠ 2) ∧
    (∃ (s : State) (core : Nat) (i : Inv) (w : Nat) (x : _), s.atInstr core 0x79 i w ∧ i.entry = 2 ∧ s.chunkNorm (s.invChunk i) = some x) :=
  ⟨⟨runUp (invOf 0) (0x23 <<< 56) [] [], 67, invOf 0, 0x23 <<< 56, ⟨rfl, by decide, by decide +kernel⟩⟩,
   ⟨runUp (invOf 0) (0x24 <<< 56) [] [], 67, invOf 0, 0x24 <<< 56, ⟨rfl, by decide, by decide +kernel⟩⟩,
   ⟨runUp ({ invOf 0 with x := [(0, 2 ^ 64)] }) (0x21 <<< 56) [] [], 67, { invOf 0 with x := [(0, 2 ^ 64)] }, 0x21 <<< 56, ⟨rfl, by decide, by decide +kernel⟩, by decide +kernel⟩,
   ⟨runUp (invOf 0) (0x21 <<< 56) [] [], 67, invOf 0, 0x21 <<< 56, ⟨rfl, by decide, by decide +kernel⟩, by decide +kernel⟩,
   ⟨runUp ({ invOf 0 with x := [(0, 2 ^ 64)] }) (0x22 <<< 56) [] [], 67, { invOf 0 with x := [(0, 2 ^ 64)] }, 0x22 <<< 56, ⟨rfl, by decide, by decide +kernel⟩, by decide +kernel⟩,
   ⟨runUp (invOf 0) (0x22 <<< 56) [] [], 67, invOf 0, 0x22 <<< 56, ⟨rfl, by decide, by decide +kernel⟩, by decide +kernel⟩,
   ⟨runUp (invOf 0) (0x31 <<< 56) [] [], 67, invOf 0, 0x31 <<< 56, _, ⟨rfl, by decide, by decide +kernel⟩, rfl⟩,
   ⟨runUp (invOf 1) (0x79 <<< 56) [] [], 67, invOf 1, 0x79 <<< 56, ⟨rfl, by decide, by decide +kernel⟩, by decide +kernel⟩,
   ⟨{ runUp (invOf 2) (0x79 <<< 56) [updChunk] [] with ser := { (runUp (invOf 2) (0x79 <<< 56) [updChunk] []).ser with norms := [{ ctx := 0, step := 0, round := 0, ledger := 0, state := 3, base := 0, len := 1 }] } }, 67, invOf 2, 0x79 <<< 56, _, ⟨rfl, by decide, by decide +kernel⟩, by decide +kernel, pick (by decide +kernel)⟩⟩

/-- Each clause of TallyInstructions that has hypotheses: a state and operands that meet them. -/
theorem witness_TallyInstructions :
    (∃ (s : State) (core : Nat) (i : Inv) (w : Nat) (k : Chunk), k = s.invChunk i ∧ s.atInstr core 0x10 i w ∧ i.entry ≠ 0 ∧ (¬(i.entry = 3 ∧ hasTally k.operation = false))) ∧
    (∃ (s : State) (core : Nat) (i : Inv) (w : Nat) (k : Chunk), k = s.invChunk i ∧ s.atInstr core 0x10 i w ∧ i.entry = 0 ∧ uFmt w ≠ i.fmt) ∧
    (∃ (s : State) (core : Nat) (i : Inv) (w : Nat) (k : Chunk), k = s.invChunk i ∧ s.atInstr core 0x10 i w ∧ i.entry = 0 ∧ uFmt w = i.fmt ∧ (i.sx (uA w)).2 = true) ∧
    (∃ (s : State) (core : Nat) (i : Inv) (w : Nat) (k : Chunk) (g : Nat → Option (Nat × Bool)), k = s.invChunk i ∧ s.atInstr core 0x10 i w ∧ (i.sx (uA w)).2 = false ∧ (((i.entry = 0 ∧ uFmt w = i.fmt ∧ ∃ t : AqEnt, i.arrive = some t ∧ ∀ l ∈ i.active w, g l = if elemIx (i.sx (uA w)).1 (uImm w) l < i.count then some (elemAt i.fmt t.pkt.payload t.pkt.poisonMap (elemIx (i.sx (uA w)).1 (uImm w) l)) else none) ∨ (i.entry = 3 ∧ hasTally k.operation = false ∧ (∀ c ∈ k.copies.head?, uFmt w = c.fmt) ∧ ∀ l ∈ i.active w, g l = k.heldElem (elemIx (i.sx (uA w)).1 (uImm w) l))))) ∧
    (∃ (s : State) (core : Nat) (i : Inv) (w : Nat) (k : Chunk) (ue : List (Nat × Nat × Nat)) (ce : Nat) (t : State) (k' : Chunk), k = s.invChunk i ∧ s.atInstr core 0x20 i w ∧ t = s.tallyErrs k ue ce ∧ k' = t.invChunk i ∧ i.entry ≠ 0) ∧
    (∃ (s : State) (core : Nat) (i : Inv) (w : Nat) (k : Chunk) (ue : List (Nat × Nat × Nat)) (ce : Nat) (t : State) (k' : Chunk), k = s.invChunk i ∧ s.atInstr core 0x20 i w ∧ t = s.tallyErrs k ue ce ∧ k' = t.invChunk i ∧ i.entry = 0 ∧ hasTally k.operation = false) ∧
    (∃ (s : State) (core : Nat) (i : Inv) (w : Nat) (k : Chunk) (ue : List (Nat × Nat × Nat)) (ce : Nat) (t : State) (k' : Chunk), k = s.invChunk i ∧ s.atInstr core 0x20 i w ∧ t = s.tallyErrs k ue ce ∧ k' = t.invChunk i ∧ i.entry = 0 ∧ hasTally k.operation = true ∧ bit w 25 = false ∧ uFmt w ≠ i.fmt) ∧
    (∃ (s : State) (core : Nat) (i : Inv) (w : Nat) (k : Chunk) (ue : List (Nat × Nat × Nat)) (ce : Nat) (t : State) (k' : Chunk), k = s.invChunk i ∧ s.atInstr core 0x20 i w ∧ t = s.tallyErrs k ue ce ∧ k' = t.invChunk i ∧ i.entry = 0 ∧ hasTally k.operation = true ∧ bit w 25 = false ∧ uFmt w = i.fmt ∧ (i.sx (uA w)).2 = true) ∧
    (∃ (s : State) (core : Nat) (i : Inv) (w : Nat) (k : Chunk) (ue : List (Nat × Nat × Nat)) (ce : Nat) (t : State) (k' : Chunk) (a : AqEnt), k = s.invChunk i ∧ s.atInstr core 0x20 i w ∧ t = s.tallyErrs k ue ce ∧ k' = t.invChunk i ∧ i.entry = 0 ∧ hasTally k.operation = true ∧ bit w 25 = false ∧ uFmt w = i.fmt ∧ (i.sx (uA w)).2 = false ∧ i.arrive = some a) ∧
    (∃ (s : State) (core : Nat) (i : Inv) (w : Nat) (k : Chunk) (ue : List (Nat × Nat × Nat)) (ce : Nat) (t : State) (k' : Chunk), k = s.invChunk i ∧ s.atInstr core 0x20 i w ∧ t = s.tallyErrs k ue ce ∧ k' = t.invChunk i ∧ i.entry = 0 ∧ hasTally k.operation = true ∧ bit w 25 = true ∧ (i.sx (uB w)).2 = true) ∧
    (∃ (s : State) (core : Nat) (i : Inv) (w : Nat) (k : Chunk) (ue : List (Nat × Nat × Nat)) (ce : Nat) (t : State) (k' : Chunk), k = s.invChunk i ∧ s.atInstr core 0x20 i w ∧ t = s.tallyErrs k ue ce ∧ k' = t.invChunk i ∧ i.entry = 0 ∧ hasTally k.operation = true ∧ bit w 25 = true ∧ (i.sx (uB w)).2 = false ∧ (∃ l ∈ i.active w, i.count ≤ elemIx (i.sx (uB w)).1 (uImm w) l)) ∧
    (∃ (s : State) (core : Nat) (i : Inv) (w : Nat) (k : Chunk) (ue : List (Nat × Nat × Nat)) (ce : Nat) (t : State) (k' : Chunk), k = s.invChunk i ∧ s.atInstr core 0x20 i w ∧ t = s.tallyErrs k ue ce ∧ k' = t.invChunk i ∧ i.entry = 0 ∧ hasTally k.operation = true ∧ bit w 25 = true ∧ (i.sx (uB w)).2 = false ∧ (∀ l ∈ i.active w, elemIx (i.sx (uB w)).1 (uImm w) l < i.count)) ∧
    (∃ (s : State) (core : Nat) (i : Inv) (w : Nat) (k : Chunk) (ue : List (Nat × Nat × Nat)) (ce : Nat) (t : State) (k' : Chunk), k = s.invChunk i ∧ s.atInstr core 0x30 i w ∧ t = s.tallyErrs k ue ce ∧ k' = t.invChunk i ∧ i.entry = 0) ∧
    (∃ (s : State) (core : Nat) (i : Inv) (w : Nat) (k : Chunk) (ue : List (Nat × Nat × Nat)) (ce : Nat) (t : State) (k' : Chunk), k = s.invChunk i ∧ s.atInstr core 0x30 i w ∧ t = s.tallyErrs k ue ce ∧ k' = t.invChunk i ∧ i.entry ≠ 0 ∧ hasTally k.operation = false) ∧
    (∃ (s : State) (core : Nat) (i : Inv) (w : Nat) (k : Chunk) (ue : List (Nat × Nat × Nat)) (ce : Nat) (t : State) (k' : Chunk), k = s.invChunk i ∧ s.atInstr core 0x30 i w ∧ t = s.tallyErrs k ue ce ∧ k' = t.invChunk i ∧ i.entry ≠ 0 ∧ hasTally k.operation = true ∧ (i.sx (uB w)).2 = true) ∧
    (∃ (s : State) (core : Nat) (i : Inv) (w : Nat) (k : Chunk) (ue : List (Nat × Nat × Nat)) (ce : Nat) (t : State) (k' : Chunk), k = s.invChunk i ∧ s.atInstr core 0x30 i w ∧ t = s.tallyErrs k ue ce ∧ k' = t.invChunk i ∧ i.entry ≠ 0 ∧ hasTally k.operation = true ∧ (i.sx (uB w)).2 = false ∧ isMx (uFmt w) = true ∧ ((i.sx (uB w)).1 + uImm w) % 32 ≠ 0) ∧
    (∃ (s : State) (core : Nat) (i : Inv) (w : Nat) (k : Chunk) (ue : List (Nat × Nat × Nat)) (ce : Nat) (t : State) (k' : Chunk), k = s.invChunk i ∧ s.atInstr core 0x30 i w ∧ t = s.tallyErrs k ue ce ∧ k' = t.invChunk i ∧ i.entry ≠ 0 ∧ hasTally k.operation = true ∧ (i.sx (uB w)).2 = false ∧ ((isMx (uFmt w) = false ∨ ((i.sx (uB w)).1 + uImm w) % 32 = 0)) ∧ (∃ l ∈ i.active w, k.elems ≤ elemIx (i.sx (uB w)).1 (uImm w) l)) ∧
    (∃ (s : State) (core : Nat) (i : Inv) (w : Nat) (k : Chunk) (ue : List (Nat × Nat × Nat)) (ce : Nat) (t : State) (k' : Chunk) (out : List (Nat × Nat)), k = s.invChunk i ∧ s.atInstr core 0x30 i w ∧ t = s.tallyErrs k ue ce ∧ k' = t.invChunk i ∧ i.entry ≠ 0 ∧ hasTally k.operation = true ∧ (i.sx (uB w)).2 = false ∧ ((isMx (uFmt w) = false ∨ ((i.sx (uB w)).1 + uImm w) % 32 = 0)) ∧ (∀ l ∈ i.active w, elemIx (i.sx (uB w)).1 (uImm w) l < k.elems) ∧ out = readLanes (uFmt w) ((List.range 128).map fun l => (if (i.active w).contains l then k'.acc.getD {} (elemIx (i.sx (uB w)).1 (uImm w) l) else ({} : Accum)).resolve) (fld w 25 3) (bit w 24) ((List.range 128).map fun l => dsr k'.ctx k'.chunk (elemIx (i.sx (uB w)).1 (uImm w) l) (i.sx (uC w)).1)) ∧
    (∃ (s : State) (core : Nat) (i : Inv) (w : Nat) (k : Chunk), k = s.invChunk i ∧ s.atInstr core 0x38 i w ∧ (i.sx (uB w)).2 = true) ∧
    (∃ (s : State) (core : Nat) (i : Inv) (w : Nat) (k : Chunk), k = s.invChunk i ∧ s.atInstr core 0x38 i w ∧ (i.sx (uB w)).2 = false ∧ ((isMx (fld w 28 4) = true ∨ isMx (fld w 24 4) = true)) ∧ ((i.sx (uB w)).1 + uImm w) % 32 ≠ 0) ∧
    (∃ (s : State) (core : Nat) (i : Inv) (w : Nat) (k : Chunk) (out : List (Nat × Nat)), k = s.invChunk i ∧ s.atInstr core 0x38 i w ∧ (i.sx (uB w)).2 = false ∧ (((isMx (fld w 28 4) = false ∧ isMx (fld w 24 4) = false) ∨ ((i.sx (uB w)).1 + uImm w) % 32 = 0)) ∧ out = readLanes (fld w 24 4) ((List.range 128).map fun l => (if !(i.active w).contains l then ({} : Accum) else if (i.lane (uA w) l).2 then ({} : Accum).mark aPSN 0 else Accum.ofNum (decodeNum (fld w 28 4) (i.lane (uA w) l).1)).resolve) (fld w 21 3) (bit w 20) ((List.range 128).map fun l => dsr i.ctx i.chunk (elemIx (i.sx (uB w)).1 (uImm w) l) (i.sx (uC w)).1)) :=
  ⟨⟨runUp (invOf 1) (0x10 <<< 56) [chunk0] [], 67, invOf 1, 0x10 <<< 56, _, rfl, ⟨rfl, by decide, by decide +kernel⟩, by decide +kernel, by decide +kernel⟩,
   ⟨runUp (invOf 0) (0x10 <<< 56 ||| 1 <<< 28) [chunk0] [], 67, invOf 0, 0x10 <<< 56 ||| 1 <<< 28, _, rfl, ⟨rfl, by decide, by decide +kernel⟩, by decide +kernel, by decide +kernel⟩,
   ⟨runUp (px (invOf 0)) (0x10 <<< 56) [chunk0] [], 67, px (invOf 0), 0x10 <<< 56, _, rfl, ⟨rfl, by decide, by decide +kernel⟩, by decide +kernel, by decide +kernel, by decide +kernel⟩,
   ⟨runUp (arr0) (0x10 <<< 56) [chunk0] [], 67, arr0, 0x10 <<< 56, _, fun l => if elemIx (arr0.sx (uA (0x10 <<< 56))).1 (uImm (0x10 <<< 56)) l < arr0.count then some (elemAt arr0.fmt aq0.pkt.payload aq0.pkt.poisonMap (elemIx (arr0.sx (uA (0x10 <<< 56))).1 (uImm (0x10 <<< 56)) l)) else none, rfl, ⟨rfl, by decide, by decide +kernel⟩, by decide +kernel, .inl ⟨rfl, rfl, aq0, rfl, fun _ _ => rfl⟩⟩,
   ⟨runUp (invOf 1) (0x20 <<< 56) [chunk0] [], 67, invOf 1, 0x20 <<< 56, _, [], 0, _, _, rfl, ⟨rfl, by decide, by decide +kernel⟩, rfl, rfl, by decide +kernel⟩,
   ⟨runUp (arr0) (0x20 <<< 56) [{ chunk0 with operation := 3 }] [], 67, arr0, 0x20 <<< 56, _, [], 0, _, _, rfl, ⟨rfl, by decide, by decide +kernel⟩, rfl, rfl, by decide +kernel, by decide +kernel⟩,
   ⟨runUp (invOf 0) (0x20 <<< 56 ||| 1 <<< 28) [chunk0] [], 67, invOf 0, 0x20 <<< 56 ||| 1 <<< 28, _, [], 0, _, _, rfl, ⟨rfl, by decide, by decide +kernel⟩, rfl, rfl, by decide +kernel, by decide +kernel, by decide +kernel, by decide +kernel⟩,
   ⟨runUp (px arr0) (0x20 <<< 56) [chunk0] [], 67, px arr0, 0x20 <<< 56, _, [], 0, _, _, rfl, ⟨rfl, by decide, by decide +kernel⟩, rfl, rfl, by decide +kernel, by decide +kernel, by decide +kernel, by decide +kernel, by decide +kernel⟩,
   ⟨runUp (arr0) (0x20 <<< 56) [chunk0] [], 67, arr0, 0x20 <<< 56, _, [], 0, _, _, _, rfl, ⟨rfl, by decide, by decide +kernel⟩, rfl, rfl, by decide +kernel, by decide +kernel, by decide +kernel, by decide +kernel, by decide +kernel, pick (by decide +kernel)⟩,
   ⟨runUp (px arr0) (0x20 <<< 56 ||| 1 <<< 25) [chunk0] [], 67, px arr0, 0x20 <<< 56 ||| 1 <<< 25, _, [], 0, _, _, rfl, ⟨rfl, by decide, by decide +kernel⟩, rfl, rfl, by decide +kernel, by decide +kernel, by decide +kernel, by decide +kernel⟩,
   ⟨runUp (invOf 0) (0x20 <<< 56 ||| 1 <<< 25) [chunk0] [], 67, invOf 0, 0x20 <<< 56 ||| 1 <<< 25, _, [], 0, _, _, rfl, ⟨rfl, by decide, by decide +kernel⟩, rfl, rfl, by decide +kernel, by decide +kernel, by decide +kernel, by decide +kernel, by decide +kernel⟩,
   ⟨runUp (arr0) (0x20 <<< 56 ||| 1 <<< 25) [chunk0] [], 67, arr0, 0x20 <<< 56 ||| 1 <<< 25, _, [], 0, _, _, rfl, ⟨rfl, by decide, by decide +kernel⟩, rfl, rfl, by decide +kernel, by decide +kernel, by decide +kernel, by decide +kernel, by decide +kernel⟩,
   ⟨runUp (invOf 0) (0x30 <<< 56) [chunk0] [], 67, invOf 0, 0x30 <<< 56, _, [], 0, _, _, rfl, ⟨rfl, by decide, by decide +kernel⟩, rfl, rfl, by decide +kernel⟩,
   ⟨runUp (invOf 1) (0x30 <<< 56) [{ chunk0 with operation := 3 }] [], 67, invOf 1, 0x30 <<< 56, _, [], 0, _, _, rfl, ⟨rfl, by decide, by decide +kernel⟩, rfl, rfl, by decide +kernel, by decide +kernel⟩,
   ⟨runUp (px (invOf 1)) (0x30 <<< 56) [chunk0] [], 67, px (invOf 1), 0x30 <<< 56, _, [], 0, _, _, rfl, ⟨rfl, by decide, by decide +kernel⟩, rfl, rfl, by decide +kernel, by decide +kernel, by decide +kernel⟩,
   ⟨runUp (invOf 1) (0x30 <<< 56 ||| 8 <<< 28 ||| 1) [chunk0] [], 67, invOf 1, 0x30 <<< 56 ||| 8 <<< 28 ||| 1, _, [], 0, _, _, rfl, ⟨rfl, by decide, by decide +kernel⟩, rfl, rfl, by decide +kernel, by decide +kernel, by decide +kernel, by decide +kernel, by decide +kernel⟩,
   ⟨runUp (invOf 1) (0x30 <<< 56) [{ chunk0 with elems := 127 }] [], 67, invOf 1, 0x30 <<< 56, _, [], 0, _, _, rfl, ⟨rfl, by decide, by decide +kernel⟩, rfl, rfl, by decide +kernel, by decide +kernel, by decide +kernel, .inl (by decide +kernel), by decide +kernel⟩,
   ⟨runUp (invOf 1) (0x30 <<< 56) [{ chunk0 with elems := 128 }] [], 67, invOf 1, 0x30 <<< 56, _, [], 0, _, _, _, rfl, ⟨rfl, by decide, by decide +kernel⟩, rfl, rfl, by decide +kernel, by decide +kernel, by decide +kernel, .inl (by decide +kernel), by decide +kernel, rfl⟩,
   ⟨runUp (px (invOf 0)) (0x38 <<< 56) [chunk0] [], 67, px (invOf 0), 0x38 <<< 56, _, rfl, ⟨rfl, by decide, by decide +kernel⟩, by decide +kernel⟩,
   ⟨runUp (invOf 0) (0x38 <<< 56 ||| 3 <<< 28 ||| 1) [chunk0] [], 67, invOf 0, 0x38 <<< 56 ||| 3 <<< 28 ||| 1, _, rfl, ⟨rfl, by decide, by decide +kernel⟩, by decide +kernel, .inl (by decide +kernel), by decide +kernel⟩,
   ⟨runUp (invOf 0) (0x38 <<< 56) [chunk0] [], 67, invOf 0, 0x38 <<< 56, _, _, rfl, ⟨rfl, by decide, by decide +kernel⟩, by decide +kernel, .inl (by decide +kernel), rfl⟩⟩

/-- Each clause of LedgerInstructions that has hypotheses: a state and operands that meet them. -/
theorem witness_LedgerInstructions :
    (∃ (s : State) (core : Nat) (i : Inv) (w : Nat) (c : Chunk), c = s.invChunk i ∧ s.atInstr core 0x70 i w ∧ c.operation ≠ 5) ∧
    (∃ (s : State) (core : Nat) (i : Inv) (w : Nat) (c : Chunk), c = s.invChunk i ∧ s.atInstr core 0x70 i w ∧ c.operation = 5 ∧ fld w 28 2 = 3 ∧ fld w 27 1 = 1) ∧
    (∃ (s : State) (core : Nat) (i : Inv) (w : Nat) (c : Chunk) (b : Nat), c = s.invChunk i ∧ s.atInstr core 0x70 i w ∧ b = (if fld w 27 1 = 0 then s.ldgActive c.ledger else 1 - s.ldgActive c.ledger) ∧ c.operation = 5 ∧ (¬(fld w 28 2 = 3 ∧ fld w 27 1 = 1)) ∧ (i.sx (uA w)).2 = true) ∧
    (∃ (s : State) (core : Nat) (i : Inv) (w : Nat) (c : Chunk) (b : Nat), c = s.invChunk i ∧ s.atInstr core 0x70 i w ∧ b = (if fld w 27 1 = 0 then s.ldgActive c.ledger else 1 - s.ldgActive c.ledger) ∧ c.operation = 5 ∧ (¬(fld w 28 2 = 3 ∧ fld w 27 1 = 1)) ∧ (i.sx (uA w)).2 = false ∧ (∃ l ∈ i.active w, s.ldgElem c b (fld w 28 2) (elemIx (i.sx (uA w)).1 (uImm w) l) = none)) ∧
    (∃ (s : State) (core : Nat) (i : Inv) (w : Nat) (c : Chunk) (b : Nat) (f : Nat → Nat × Nat), c = s.invChunk i ∧ s.atInstr core 0x70 i w ∧ b = (if fld w 27 1 = 0 then s.ldgActive c.ledger else 1 - s.ldgActive c.ledger) ∧ c.operation = 5 ∧ (¬(fld w 28 2 = 3 ∧ fld w 27 1 = 1)) ∧ (i.sx (uA w)).2 = false ∧ (∀ l ∈ i.active w, s.ldgElem c b (fld w 28 2) (elemIx (i.sx (uA w)).1 (uImm w) l) = some (f l)) ∧ (∃ l ∈ i.active w, lineWord (s.core core).lines c b (f l).2 = none)) ∧
    (∃ (s : State) (core : Nat) (i : Inv) (w : Nat) (c : Chunk) (b : Nat) (f : Nat → Nat × Nat) (g : Nat → Nat × Bool) (bad : Nat) (t : State), c = s.invChunk i ∧ s.atInstr core 0x70 i w ∧ b = (if fld w 27 1 = 0 then s.ldgActive c.ledger else 1 - s.ldgActive c.ledger) ∧ c.operation = 5 ∧ (¬(fld w 28 2 = 3 ∧ fld w 27 1 = 1)) ∧ (i.sx (uA w)).2 = false ∧ (∀ l ∈ i.active w, s.ldgElem c b (fld w 28 2) (elemIx (i.sx (uA w)).1 (uImm w) l) = some (f l)) ∧ (∀ l ∈ i.active w, lineWord (s.core core).lines c b (f l).2 = some (g l)) ∧ bad = ((i.active w).filter fun l => (g l).2).length ∧ t = (if bad = 0 then s else (s.cnt LDG_POISON_READ_count 0 0 0 bad).irq 14 5)) ∧
    (∃ (s : State) (core : Nat) (i : Inv) (w : Nat) (c : Chunk), c = s.invChunk i ∧ s.atInstr core 0x71 i w ∧ c.operation ≠ 5) ∧
    (∃ (s : State) (core : Nat) (i : Inv) (w : Nat) (c : Chunk), c = s.invChunk i ∧ s.atInstr core 0x71 i w ∧ c.operation = 5 ∧ (i.sx (uB w)).2 = true) ∧
    (∃ (s : State) (core : Nat) (i : Inv) (w : Nat) (c : Chunk), c = s.invChunk i ∧ s.atInstr core 0x71 i w ∧ c.operation = 5 ∧ (i.sx (uB w)).2 = false ∧ (∃ l ∈ i.active w, s.ldgElem c (1 - s.ldgActive c.ledger) (fld w 28 2) (elemIx (i.sx (uB w)).1 (uImm w) l) = none)) ∧
    (∃ (s : State) (core : Nat) (i : Inv) (w : Nat) (c : Chunk) (f : Nat → Nat × Nat), c = s.invChunk i ∧ s.atInstr core 0x71 i w ∧ c.operation = 5 ∧ (i.sx (uB w)).2 = false ∧ (∀ l ∈ i.active w, s.ldgElem c (1 - s.ldgActive c.ledger) (fld w 28 2) (elemIx (i.sx (uB w)).1 (uImm w) l) = some (f l)) ∧ 32 ≤ (s.core core).sq.length) ∧
    (∃ (s : State) (core : Nat) (i : Inv) (w : Nat) (c : Chunk) (f : Nat → Nat × Nat), c = s.invChunk i ∧ s.atInstr core 0x71 i w ∧ c.operation = 5 ∧ (i.sx (uB w)).2 = false ∧ (∀ l ∈ i.active w, s.ldgElem c (1 - s.ldgActive c.ledger) (fld w 28 2) (elemIx (i.sx (uB w)).1 (uImm w) l) = some (f l)) ∧ (s.core core).sq.length < 32) ∧
    (∃ (s : State) (core : Nat) (i : Inv) (w : Nat) (c : Chunk), c = s.invChunk i ∧ s.atInstr core 0x78 i w ∧ i.entry ≠ 1) ∧
    (∃ (s : State) (core : Nat) (i : Inv) (w : Nat) (c : Chunk), c = s.invChunk i ∧ s.atInstr core 0x78 i w ∧ i.entry = 1 ∧ c.operation ≠ 5) ∧
    (∃ (s : State) (core : Nat) (i : Inv) (w : Nat) (c : Chunk), c = s.invChunk i ∧ s.atInstr core 0x78 i w ∧ i.entry = 1 ∧ c.operation = 5) ∧
    (∃ (s : State) (core : Nat) (i : Inv) (c : Chunk) (u : State), c = s.invChunk i ∧ s.alive = true ∧ core < 68 ∧ u = s.sweepCore core ∧ u.rd SRI_STATE_state core ≠ 3) ∧
    (∃ (s : State) (core : Nat) (i : Inv) (c : Chunk) (u : State), c = s.invChunk i ∧ s.alive = true ∧ core < 68 ∧ u = s.sweepCore core ∧ u.rd SRI_STATE_state core = 3 ∧ (u.core core).reqs = []) ∧
    (∃ (s : State) (core : Nat) (i : Inv) (c : Chunk) (u : State) (r : LdgLine) (rest : List LdgLine), c = s.invChunk i ∧ s.alive = true ∧ core < 68 ∧ u = s.sweepCore core ∧ u.rd SRI_STATE_state core = 3 ∧ (u.core core).reqs = r :: rest ∧ (u.core core).lines.length < 32 ∧ r.words = []) ∧
    (∃ (s : State) (core : Nat) (i : Inv) (c : Chunk) (u : State) (r : LdgLine) (rest : List LdgLine), c = s.invChunk i ∧ s.alive = true ∧ core < 68 ∧ u = s.sweepCore core ∧ u.rd SRI_STATE_state core = 3 ∧ (u.core core).reqs = r :: rest ∧ 32 ≤ (u.core core).lines.length ∧ r.want = false) ∧
    (∃ (s : State) (core : Nat) (i : Inv) (c : Chunk) (u : State), c = s.invChunk i ∧ s.alive = true ∧ core < 68 ∧ u = s.sweepCore core ∧ u.rd SRI_STATE_state core = 3 ∧ (u.core core).sq = []) ∧
    (∃ (s : State) (core : Nat) (i : Inv) (c : Chunk) (u : State) (e : SqEnt) (rest : List SqEnt), c = s.invChunk i ∧ s.alive = true ∧ core < 68 ∧ u = s.sweepCore core ∧ u.rd SRI_STATE_state core = 3 ∧ (u.core core).sq = e :: rest) :=
  ⟨⟨runUp (invOf 0) (0x70 <<< 56) [] [], 67, invOf 0, 0x70 <<< 56, _, rfl, ⟨rfl, by decide, by decide +kernel⟩, by decide +kernel⟩,
   ⟨runUp (invOf 0) (0x70 <<< 56 ||| 7 <<< 27) [updChunk] [], 67, invOf 0, 0x70 <<< 56 ||| 7 <<< 27, _, rfl, ⟨rfl, by decide, by decide +kernel⟩, by decide +kernel, by decide +kernel, by decide +kernel⟩,
   ⟨runUp (px (invOf 0)) (0x70 <<< 56) [updChunk] [], 67, px (invOf 0), 0x70 <<< 56, _, _, rfl, ⟨rfl, by decide, by decide +kernel⟩, rfl, by decide +kernel, by decide +kernel, by decide +kernel⟩,
   ⟨runUp (invOf 0) (0x70 <<< 56) [updChunk] [], 67, invOf 0, 0x70 <<< 56, _, _, rfl, ⟨rfl, by decide, by decide +kernel⟩, rfl, by decide +kernel, by decide +kernel, by decide +kernel, by decide +kernel⟩,
   ⟨ldgUp (0x70 <<< 56) ⟨0, 0, 0, 0, 0, 0, 0, false, []⟩, 67, { invOf 1 with k := [(0, 1)] }, 0x70 <<< 56 + 2 ^ 32, _, _, fun _ => (0, (up []).ldgAddr 0 0 0 0), rfl, ⟨rfl, by decide, by decide +kernel⟩, rfl, by decide +kernel, by decide +kernel, by decide +kernel, by decide +kernel, by decide +kernel⟩,
   ⟨ldgUp (0x70 <<< 56) ⟨0, 0, 0, 0, 0, (up []).ldgAddr 0 0 0 0, 1024, false, [(7, false)]⟩, 67, { invOf 1 with k := [(0, 1)] }, 0x70 <<< 56 + 2 ^ 32, _, _, fun _ => (0, (up []).ldgAddr 0 0 0 0), fun _ => (7, false), _, _, rfl, ⟨rfl, by decide, by decide +kernel⟩, rfl, by decide +kernel, by decide +kernel, by decide +kernel, by decide +kernel, by decide +kernel, rfl, rfl⟩,
   ⟨runUp (invOf 0) (0x71 <<< 56) [] [], 67, invOf 0, 0x71 <<< 56, _, rfl, ⟨rfl, by decide, by decide +kernel⟩, by decide +kernel⟩,
   ⟨runUp (px (invOf 0)) (0x71 <<< 56) [updChunk] [], 67, px (invOf 0), 0x71 <<< 56, _, rfl, ⟨rfl, by decide, by decide +kernel⟩, by decide +kernel, by decide +kernel⟩,
   ⟨runUp (invOf 0) (0x71 <<< 56) [updChunk] [], 67, invOf 0, 0x71 <<< 56, _, rfl, ⟨rfl, by decide, by decide +kernel⟩, by decide +kernel, by decide +kernel, by decide +kernel⟩,
   ⟨{ ldgUp (0x71 <<< 56) ⟨0, 0, 0, 0, 0, 0, 0, false, []⟩ with ser := { (ldgUp (0x71 <<< 56) ⟨0, 0, 0, 0, 0, 0, 0, false, []⟩).ser with cores := [(67, { inv := some { invOf 1 with k := [(0, 1)] }, sq := List.replicate 32 ⟨0, 0, 0, 5, 0, []⟩ })] } }, 67, { invOf 1 with k := [(0, 1)] }, 0x71 <<< 56 + 2 ^ 32, _, fun _ => (0, (up []).ldgAddr 0 1 0 0), rfl, ⟨rfl, by decide, by decide +kernel⟩, by decide +kernel, by decide +kernel, by decide +kernel, by decide +kernel⟩,
   ⟨ldgUp (0x71 <<< 56) ⟨0, 0, 0, 0, 0, 0, 0, false, []⟩, 67, { invOf 1 with k := [(0, 1)] }, 0x71 <<< 56 + 2 ^ 32, _, fun _ => (0, (up []).ldgAddr 0 1 0 0), rfl, ⟨rfl, by decide, by decide +kernel⟩, by decide +kernel, by decide +kernel, by decide +kernel, by decide +kernel⟩,
   ⟨runUp (invOf 0) (0x78 <<< 56) [] [], 67, invOf 0, 0x78 <<< 56, _, rfl, ⟨rfl, by decide, by decide +kernel⟩, by decide +kernel⟩,
   ⟨runUp (invOf 1) (0x78 <<< 56) [chunk0] [], 67, invOf 1, 0x78 <<< 56, _, rfl, ⟨rfl, by decide, by decide +kernel⟩, by decide +kernel, by decide +kernel⟩,
   ⟨runUp (invOf 1) (0x78 <<< 56) [updChunk] [], 67, invOf 1, 0x78 <<< 56, _, rfl, ⟨rfl, by decide, by decide +kernel⟩, by decide +kernel, by decide +kernel⟩,
   ⟨up [], 67, invOf 0, _, _, rfl, by decide +kernel, by decide +kernel, rfl, by decide +kernel⟩,
   ⟨up [(SRI_STATE_state, [3, 67])], 67, invOf 0, _, _, rfl, by decide +kernel, by decide +kernel, rfl, by decide +kernel, by decide +kernel⟩,
   ⟨{ up [(SRI_STATE_state, [3, 67])] with ser := { chunks := [updChunk], cores := [(67, { reqs := [⟨0, 0, 0, 0, 0, 0, 1024, false, []⟩] })] } }, 67, invOf 0, _, _, ⟨0, 0, 0, 0, 0, 0, 1024, false, []⟩, [], rfl, by decide +kernel, by decide +kernel, rfl, by decide +kernel, by decide +kernel, by decide +kernel, by decide +kernel⟩,
   ⟨{ up [(SRI_STATE_state, [3, 67])] with ser := { chunks := [updChunk], cores := [(67, { lines := List.replicate 32 ⟨0, 0, 0, 0, 0, 0, 1024, false, []⟩, reqs := [⟨0, 0, 0, 0, 0, 4096, 1024, false, []⟩] })] } }, 67, invOf 0, _, _, ⟨0, 0, 0, 0, 0, 4096, 1024, false, []⟩, [], rfl, by decide +kernel, by decide +kernel, rfl, by decide +kernel, by decide +kernel, by decide +kernel, by decide +kernel⟩,
   ⟨up [(SRI_STATE_state, [3, 67])], 67, invOf 0, _, _, rfl, by decide +kernel, by decide +kernel, rfl, by decide +kernel, by decide +kernel⟩,
   ⟨{ up [(SRI_STATE_state, [3, 67])] with ser := { chunks := [updChunk], cores := [(67, { sq := [⟨0, 0, 0, 5, 0, []⟩] })] } }, 67, invOf 0, _, _, ⟨0, 0, 0, 5, 0, []⟩, [], rfl, by decide +kernel, by decide +kernel, rfl, by decide +kernel, by decide +kernel⟩⟩

/-- Each clause of EmitModes that has hypotheses: a state and operands that meet them. -/
theorem witness_EmitModes :
    (∃ (s : State) (core : Nat) (i : Inv) (w : Nat) (k : Chunk), s.atInstr core 0x80 i w ∧ k = s.invChunk i ∧ fld w 26 2 = 0 ∧ i.entry ≠ 3) ∧
    (∃ (s : State) (core : Nat) (i : Inv) (w : Nat) (k : Chunk) (c : _), s.atInstr core 0x80 i w ∧ k = s.invChunk i ∧ fld w 26 2 = 0 ∧ i.entry = 3 ∧ emitFault i k w i.count = some c) ∧
    (∃ (s : State) (core : Nat) (i : Inv) (w : Nat) (k : Chunk) (t : _), s.atInstr core 0x80 i w ∧ k = s.invChunk i ∧ fld w 26 2 = 0 ∧ i.entry = 3 ∧ emitFault i k w i.count = none ∧ i.cur = none ∧ s.claimStage k 1 = (false, t)) ∧
    (∃ (s : State) (core : Nat) (i : Inv) (w : Nat) (k : Chunk) (ue : List (Nat × Nat × Nat)) (ce : Nat) (t : State) (u : State) (k' : Chunk) (q : Piece), s.atInstr core 0x80 i w ∧ k = s.invChunk i ∧ fld w 26 2 = 0 ∧ i.entry = 3 ∧ emitFault i k w i.count = none ∧ (((i.cur = some q ∧ t = s) ∨ (i.cur = none ∧ q = { p := i.piece } ∧ s.claimStage k 1 = (true, t)))) ∧ u = (if bit w 25 then t.tallyErrs k ue ce else t) ∧ k' = u.invChunk i) ∧
    (∃ (s : State) (core : Nat) (i : Inv) (w : Nat) (k : Chunk), s.atInstr core 0x80 i w ∧ k = s.invChunk i ∧ fld w 26 2 = 1 ∧ i.entry ≠ 1 ∧ i.entry ≠ 2) ∧
    (∃ (s : State) (core : Nat) (i : Inv) (w : Nat) (k : Chunk) (c : _), s.atInstr core 0x80 i w ∧ k = s.invChunk i ∧ fld w 26 2 = 1 ∧ ((i.entry = 1 ∨ i.entry = 2)) ∧ emitFault i k w k.elems = some c) ∧
    (∃ (s : State) (core : Nat) (i : Inv) (w : Nat) (k : Chunk) (ue : List (Nat × Nat × Nat)) (ce : Nat) (u : State) (k' : Chunk) (new : List Nat) (r : Bool × State), s.atInstr core 0x80 i w ∧ k = s.invChunk i ∧ fld w 26 2 = 1 ∧ ((i.entry = 1 ∨ i.entry = 2)) ∧ emitFault i k w k.elems = none ∧ u = (if bit w 25 then s.tallyErrs k ue ce else s) ∧ k' = u.invChunk i ∧ new = (emitPieces k'.fmt (emitData i k' w)).filter (fun p => !k'.specP.any (·.p = p)) ∧ r = new.foldl (fun (x : Bool × State) _ => if !x.1 then (false, x.2) else x.2.claimStage (x.2.invChunk i) 0) (true, u) ∧ r.1 = false) ∧
    (∃ (s : State) (core : Nat) (i : Inv) (w : Nat) (k : Chunk) (ue : List (Nat × Nat × Nat)) (ce : Nat) (u : State) (k' : Chunk) (new : List Nat) (r : Bool × State), s.atInstr core 0x80 i w ∧ k = s.invChunk i ∧ fld w 26 2 = 1 ∧ ((i.entry = 1 ∨ i.entry = 2)) ∧ emitFault i k w k.elems = none ∧ u = (if bit w 25 then s.tallyErrs k ue ce else s) ∧ k' = u.invChunk i ∧ new = (emitPieces k'.fmt (emitData i k' w)).filter (fun p => !k'.specP.any (·.p = p)) ∧ r = new.foldl (fun (x : Bool × State) _ => if !x.1 then (false, x.2) else x.2.claimStage (x.2.invChunk i) 0) (true, u) ∧ r.1 = true) ∧
    (∃ (s : State) (core : Nat) (i : Inv) (w : Nat) (k : Chunk), s.atInstr core 0x80 i w ∧ k = s.invChunk i ∧ fld w 26 2 = 2 ∧ i.entry ≠ 1 ∧ i.entry ≠ 2) ∧
    (∃ (s : State) (core : Nat) (i : Inv) (w : Nat) (k : Chunk), s.atInstr core 0x80 i w ∧ k = s.invChunk i ∧ fld w 26 2 = 2 ∧ ((i.entry = 1 ∨ i.entry = 2)) ∧ uFmt w ≠ k.fmt) ∧
    (∃ (s : State) (core : Nat) (i : Inv) (w : Nat) (k : Chunk), s.atInstr core 0x80 i w ∧ k = s.invChunk i ∧ fld w 26 2 = 2 ∧ ((i.entry = 1 ∨ i.entry = 2)) ∧ uFmt w = k.fmt) ∧
    (∃ (s : State) (core : Nat) (i : Inv) (w : Nat) (k : Chunk), s.atInstr core 0x80 i w ∧ k = s.invChunk i ∧ fld w 26 2 = 3 ∧ i.entry ≠ 1 ∧ i.entry ≠ 2) ∧
    (∃ (s : State) (core : Nat) (i : Inv) (w : Nat) (k : Chunk), s.atInstr core 0x80 i w ∧ k = s.invChunk i ∧ fld w 26 2 = 3 ∧ ((i.entry = 1 ∨ i.entry = 2)) ∧ uFmt w ≠ k.fmt) ∧
    (∃ (s : State) (core : Nat) (i : Inv) (w : Nat) (k : Chunk), s.atInstr core 0x80 i w ∧ k = s.invChunk i ∧ fld w 26 2 = 3 ∧ ((i.entry = 1 ∨ i.entry = 2)) ∧ uFmt w = k.fmt) :=
  ⟨⟨runUp (invOf 0) (0x80 <<< 56) [] [], 67, invOf 0, 0x80 <<< 56, _, ⟨rfl, by decide, by decide +kernel⟩, rfl, by decide +kernel, by decide +kernel⟩,
   ⟨runUp ({ invOf 3 with count := 1 }) (0x80 <<< 56) [chunk0] [], 67, { invOf 3 with count := 1 }, 0x80 <<< 56, _, 0x22, ⟨rfl, by decide, by decide +kernel⟩, rfl, by decide +kernel, by decide +kernel, by decide +kernel⟩,
   ⟨runUp ({ invOf 3 with count := 128 }) (0x80 <<< 56) [chunk0] [], 67, { invOf 3 with count := 128 }, 0x80 <<< 56, _, _, ⟨rfl, by decide, by decide +kernel⟩, rfl, by decide +kernel, by decide +kernel, by decide +kernel, by decide +kernel, pairT (by decide +kernel)⟩,
   ⟨runUp ({ invOf 3 with count := 128, cur := some { p := 0 } }) (0x80 <<< 56) [chunk0] [], 67, { invOf 3 with count := 128, cur := some { p := 0 } }, 0x80 <<< 56, _, [], 0, _, _, _, { p := 0 }, ⟨rfl, by decide, by decide +kernel⟩, rfl, by decide +kernel, by decide +kernel, by decide +kernel, .inl ⟨rfl, rfl⟩, rfl, rfl⟩,
   ⟨runUp (invOf 0) (0x80 <<< 56 ||| 1 <<< 26) [chunk0] [], 67, invOf 0, 0x80 <<< 56 ||| 1 <<< 26, _, ⟨rfl, by decide, by decide +kernel⟩, rfl, by decide +kernel, by decide +kernel, by decide +kernel⟩,
   ⟨runUp (invOf 1) (0x80 <<< 56 ||| 1 <<< 26 ||| 1 <<< 28) [chunk0] [], 67, invOf 1, 0x80 <<< 56 ||| 1 <<< 26 ||| 1 <<< 28, _, 0x24, ⟨rfl, by decide, by decide +kernel⟩, rfl, by decide +kernel, .inl (by decide +kernel), by decide +kernel⟩,
   ⟨runUp (invOf 1) (0x80 <<< 56 ||| 1 <<< 26) [chunk0] [], 67, invOf 1, 0x80 <<< 56 ||| 1 <<< 26, _, [], 0, _, _, _, _, ⟨rfl, by decide, by decide +kernel⟩, rfl, by decide +kernel, .inl (by decide +kernel), by decide +kernel, rfl, rfl, rfl, rfl, by decide +kernel⟩,
   ⟨runUp (invOf 2) (0x80 <<< 56 ||| 1 <<< 26) [chunk0] (pools ++ [(BPM_STAGE_QUOTA_spec_max, [50])]), 67, invOf 2, 0x80 <<< 56 ||| 1 <<< 26, _, [], 0, _, _, _, _, ⟨rfl, by decide, by decide +kernel⟩, rfl, by decide +kernel, .inr (by decide +kernel), by decide +kernel, rfl, rfl, rfl, rfl, by decide +kernel⟩,
   ⟨runUp (invOf 3) (0x80 <<< 56 ||| 2 <<< 26) [chunk0] [], 67, invOf 3, 0x80 <<< 56 ||| 2 <<< 26, _, ⟨rfl, by decide, by decide +kernel⟩, rfl, by decide +kernel, by decide +kernel, by decide +kernel⟩,
   ⟨runUp (invOf 1) (0x80 <<< 56 ||| 2 <<< 26 ||| 1 <<< 28) [chunk0] [], 67, invOf 1, 0x80 <<< 56 ||| 2 <<< 26 ||| 1 <<< 28, _, ⟨rfl, by decide, by decide +kernel⟩, rfl, by decide +kernel, .inl (by decide +kernel), by decide +kernel⟩,
   ⟨runUp (invOf 2) (0x80 <<< 56 ||| 2 <<< 26) [chunk0] [], 67, invOf 2, 0x80 <<< 56 ||| 2 <<< 26, _, ⟨rfl, by decide, by decide +kernel⟩, rfl, by decide +kernel, .inr (by decide +kernel), by decide +kernel⟩,
   ⟨runUp (invOf 0) (0x80 <<< 56 ||| 3 <<< 26) [chunk0] [], 67, invOf 0, 0x80 <<< 56 ||| 3 <<< 26, _, ⟨rfl, by decide, by decide +kernel⟩, rfl, by decide +kernel, by decide +kernel, by decide +kernel⟩,
   ⟨runUp (invOf 1) (0x80 <<< 56 ||| 3 <<< 26 ||| 1 <<< 28) [chunk0] [], 67, invOf 1, 0x80 <<< 56 ||| 3 <<< 26 ||| 1 <<< 28, _, ⟨rfl, by decide, by decide +kernel⟩, rfl, by decide +kernel, .inl (by decide +kernel), by decide +kernel⟩,
   ⟨runUp (invOf 1) (0x80 <<< 56 ||| 3 <<< 26) [chunk0] [], 67, invOf 1, 0x80 <<< 56 ||| 3 <<< 26, _, ⟨rfl, by decide, by decide +kernel⟩, rfl, by decide +kernel, .inl (by decide +kernel), by decide +kernel⟩⟩

/-- Each clause of KernelStoreCommands that has hypotheses: a state and operands that meet them. -/
theorem witness_KernelStoreCommands :
    (∃ (s : State) (u : State) (i : Nat), s.served 12 0x628 ∧ u = s.event 12 4 ∧ i = u.rd SRG_KKEY_kernel ∧ u.kBusy i = true) ∧
    (∃ (s : State) (u : State) (i : Nat), s.served 12 0x628 ∧ u = s.event 12 4 ∧ i = u.rd SRG_KKEY_kernel ∧ u.kBusy i = false) ∧
    (∃ (s : State) (u : State) (i : Nat) (h : List (Nat × Bool)) (u1 : State) (hb : List Byte) (n : Nat), s.served 12 0x628 ∧ u = s.event 12 4 ∧ i = u.rd SRG_KKEY_kernel ∧ u.kBusy i = false ∧ u.readRes (u.rd SRG_KLOAD_ADDR_addr * 64) 16 = (h, u1) ∧ hb = bytesOf h ∧ n = leNat ((hb.drop 8).take 4) ∧ h.any (·.2) = true) ∧
    (∃ (s : State) (u : State) (i : Nat) (h : List (Nat × Bool)) (u1 : State) (hb : List Byte) (n : Nat), s.served 12 0x628 ∧ u = s.event 12 4 ∧ i = u.rd SRG_KKEY_kernel ∧ u.kBusy i = false ∧ u.readRes (u.rd SRG_KLOAD_ADDR_addr * 64) 16 = (h, u1) ∧ hb = bytesOf h ∧ n = leNat ((hb.drop 8).take 4) ∧ h.any (·.2) = false ∧ ((leNat (hb.take 4) ≠ 0x4B414D55 ∨ leNat ((hb.drop 4).take 4) ≠ 1 ∨ n = 0 ∨ 8192 < n ∨ fld (leNat ((hb.drop 0x14).take 4)) 6 26 ≠ 0 ∨ leNat ((hb.drop 0x1C).take 36) ≠ 0))) ∧
    (∃ (s : State) (u : State) (i : Nat) (h : List (Nat × Bool)) (u1 : State) (hb : List Byte) (n : Nat) (r : List (Nat × Bool)) (u2 : State) (img : List Byte), s.served 12 0x628 ∧ u = s.event 12 4 ∧ i = u.rd SRG_KKEY_kernel ∧ u.kBusy i = false ∧ u.readRes (u.rd SRG_KLOAD_ADDR_addr * 64) 16 = (h, u1) ∧ hb = bytesOf h ∧ n = leNat ((hb.drop 8).take 4) ∧ h.any (·.2) = false ∧ leNat (hb.take 4) = 0x4B414D55 ∧ leNat ((hb.drop 4).take 4) = 1 ∧ 0 < n ∧ n ≤ 8192 ∧ fld (leNat ((hb.drop 0x14).take 4)) 6 26 = 0 ∧ leNat ((hb.drop 0x1C).take 36) = 0 ∧ u1.readRes (u.rd SRG_KLOAD_ADDR_addr * 64) ((64 + 8 * n + 29792) / 4) = (r, u2) ∧ img = bytesOf r) ∧
    (∃ (s : State) (u : State) (i : Nat) (h : List (Nat × Bool)) (u1 : State) (hb : List Byte) (n : Nat) (r : List (Nat × Bool)) (u2 : State) (img : List Byte), s.served 12 0x628 ∧ u = s.event 12 4 ∧ i = u.rd SRG_KKEY_kernel ∧ u.kBusy i = false ∧ u.readRes (u.rd SRG_KLOAD_ADDR_addr * 64) 16 = (h, u1) ∧ hb = bytesOf h ∧ n = leNat ((hb.drop 8).take 4) ∧ h.any (·.2) = false ∧ leNat (hb.take 4) = 0x4B414D55 ∧ leNat ((hb.drop 4).take 4) = 1 ∧ 0 < n ∧ n ≤ 8192 ∧ fld (leNat ((hb.drop 0x14).take 4)) 6 26 = 0 ∧ leNat ((hb.drop 0x1C).take 36) = 0 ∧ u1.readRes (u.rd SRG_KLOAD_ADDR_addr * 64) ((64 + 8 * n + 29792) / 4) = (r, u2) ∧ img = bytesOf r ∧ r.any (·.2) = false ∧ leNat ((hb.drop 0x18).take 4) < u2.rd SEC_MIN_kernel_min) ∧
    (∃ (s : State) (u : State) (i : Nat) (h : List (Nat × Bool)) (u1 : State) (hb : List Byte) (n : Nat) (r : List (Nat × Bool)) (u2 : State) (img : List Byte) (k : Kernel) (w : Nat) (j : Nat), s.served 12 0x628 ∧ u = s.event 12 4 ∧ i = u.rd SRG_KKEY_kernel ∧ u.kBusy i = false ∧ u.readRes (u.rd SRG_KLOAD_ADDR_addr * 64) 16 = (h, u1) ∧ hb = bytesOf h ∧ n = leNat ((hb.drop 8).take 4) ∧ h.any (·.2) = false ∧ leNat (hb.take 4) = 0x4B414D55 ∧ leNat ((hb.drop 4).take 4) = 1 ∧ 0 < n ∧ n ≤ 8192 ∧ fld (leNat ((hb.drop 0x14).take 4)) 6 26 = 0 ∧ leNat ((hb.drop 0x1C).take 36) = 0 ∧ u1.readRes (u.rd SRG_KLOAD_ADDR_addr * 64) ((64 + 8 * n + 29792) / 4) = (r, u2) ∧ img = bytesOf r ∧ r.any (·.2) = false ∧ u2.rd SEC_MIN_kernel_min ≤ leNat ((hb.drop 0x18).take 4) ∧ k = { idx := i, base := 0, onArrive := leNat ((hb.drop 0x0C).take 2), onComplete := leNat ((hb.drop 0x0E).take 2), onNorm := leNat ((hb.drop 0x10).take 2), onEmit := leNat ((hb.drop 0x12).take 2), ops := fld (leNat ((hb.drop 0x14).take 4)) 0 6, ver := leNat ((hb.drop 0x18).take 4), code := (List.range n).map fun j => leNat ((img.drop (64 + 8 * j)).take 8), digest := shake256 img 32 } ∧ k.code.zipIdx.find? (fun x => decide (instrFault n x.1 ≠ 0)) = some (w, j)) ∧
    (∃ (s : State) (u : State) (i : Nat) (h : List (Nat × Bool)) (u1 : State) (hb : List Byte) (n : Nat) (r : List (Nat × Bool)) (u2 : State) (img : List Byte) (k : Kernel), s.served 12 0x628 ∧ u = s.event 12 4 ∧ i = u.rd SRG_KKEY_kernel ∧ u.kBusy i = false ∧ u.readRes (u.rd SRG_KLOAD_ADDR_addr * 64) 16 = (h, u1) ∧ hb = bytesOf h ∧ n = leNat ((hb.drop 8).take 4) ∧ h.any (·.2) = false ∧ leNat (hb.take 4) = 0x4B414D55 ∧ leNat ((hb.drop 4).take 4) = 1 ∧ 0 < n ∧ n ≤ 8192 ∧ fld (leNat ((hb.drop 0x14).take 4)) 6 26 = 0 ∧ leNat ((hb.drop 0x1C).take 36) = 0 ∧ u1.readRes (u.rd SRG_KLOAD_ADDR_addr * 64) ((64 + 8 * n + 29792) / 4) = (r, u2) ∧ img = bytesOf r ∧ r.any (·.2) = false ∧ u2.rd SEC_MIN_kernel_min ≤ leNat ((hb.drop 0x18).take 4) ∧ k = { idx := i, base := 0, onArrive := leNat ((hb.drop 0x0C).take 2), onComplete := leNat ((hb.drop 0x0E).take 2), onNorm := leNat ((hb.drop 0x10).take 2), onEmit := leNat ((hb.drop 0x12).take 2), ops := fld (leNat ((hb.drop 0x14).take 4)) 0 6, ver := leNat ((hb.drop 0x18).take 4), code := (List.range n).map fun j => leNat ((img.drop (64 + 8 * j)).take 8), digest := shake256 img 32 } ∧ (∀ w ∈ k.code, instrFault n w = 0) ∧ ((n ≤ k.onArrive ∨ n ≤ k.onComplete ∨ n ≤ k.onEmit ∨ (n ≤ k.onNorm ∧ (k.onNorm ≠ 0xFFFF ∨ bit k.ops 5 = true))))) ∧
    (∃ (s : State) (u : State) (i : Nat) (h : List (Nat × Bool)) (u1 : State) (hb : List Byte) (n : Nat) (r : List (Nat × Bool)) (u2 : State) (img : List Byte) (k : Kernel), s.served 12 0x628 ∧ u = s.event 12 4 ∧ i = u.rd SRG_KKEY_kernel ∧ u.kBusy i = false ∧ u.readRes (u.rd SRG_KLOAD_ADDR_addr * 64) 16 = (h, u1) ∧ hb = bytesOf h ∧ n = leNat ((hb.drop 8).take 4) ∧ h.any (·.2) = false ∧ leNat (hb.take 4) = 0x4B414D55 ∧ leNat ((hb.drop 4).take 4) = 1 ∧ 0 < n ∧ n ≤ 8192 ∧ fld (leNat ((hb.drop 0x14).take 4)) 6 26 = 0 ∧ leNat ((hb.drop 0x1C).take 36) = 0 ∧ u1.readRes (u.rd SRG_KLOAD_ADDR_addr * 64) ((64 + 8 * n + 29792) / 4) = (r, u2) ∧ img = bytesOf r ∧ r.any (·.2) = false ∧ u2.rd SEC_MIN_kernel_min ≤ leNat ((hb.drop 0x18).take 4) ∧ k = { idx := i, base := 0, onArrive := leNat ((hb.drop 0x0C).take 2), onComplete := leNat ((hb.drop 0x0E).take 2), onNorm := leNat ((hb.drop 0x10).take 2), onEmit := leNat ((hb.drop 0x12).take 2), ops := fld (leNat ((hb.drop 0x14).take 4)) 0 6, ver := leNat ((hb.drop 0x18).take 4), code := (List.range n).map fun j => leNat ((img.drop (64 + 8 * j)).take 8), digest := shake256 img 32 } ∧ (∀ w ∈ k.code, instrFault n w = 0) ∧ k.onArrive < n ∧ k.onComplete < n ∧ k.onEmit < n ∧ ((k.onNorm < n ∨ (k.onNorm = 0xFFFF ∧ bit k.ops 5 = false))) ∧ ((kernelGap (u2.ser.kernels.filter fun x => x.idx ≠ i) n = none ∨ 256 ≤ (u2.ser.kernels.filter fun x => x.idx ≠ i).length))) ∧
    (∃ (s : State) (u : State) (i : Nat) (h : List (Nat × Bool)) (u1 : State) (hb : List Byte) (n : Nat) (r : List (Nat × Bool)) (u2 : State) (img : List Byte) (k : Kernel) (b : _), s.served 12 0x628 ∧ u = s.event 12 4 ∧ i = u.rd SRG_KKEY_kernel ∧ u.kBusy i = false ∧ u.readRes (u.rd SRG_KLOAD_ADDR_addr * 64) 16 = (h, u1) ∧ hb = bytesOf h ∧ n = leNat ((hb.drop 8).take 4) ∧ h.any (·.2) = false ∧ leNat (hb.take 4) = 0x4B414D55 ∧ leNat ((hb.drop 4).take 4) = 1 ∧ 0 < n ∧ n ≤ 8192 ∧ fld (leNat ((hb.drop 0x14).take 4)) 6 26 = 0 ∧ leNat ((hb.drop 0x1C).take 36) = 0 ∧ u1.readRes (u.rd SRG_KLOAD_ADDR_addr * 64) ((64 + 8 * n + 29792) / 4) = (r, u2) ∧ img = bytesOf r ∧ r.any (·.2) = false ∧ u2.rd SEC_MIN_kernel_min ≤ leNat ((hb.drop 0x18).take 4) ∧ k = { idx := i, base := 0, onArrive := leNat ((hb.drop 0x0C).take 2), onComplete := leNat ((hb.drop 0x0E).take 2), onNorm := leNat ((hb.drop 0x10).take 2), onEmit := leNat ((hb.drop 0x12).take 2), ops := fld (leNat ((hb.drop 0x14).take 4)) 0 6, ver := leNat ((hb.drop 0x18).take 4), code := (List.range n).map fun j => leNat ((img.drop (64 + 8 * j)).take 8), digest := shake256 img 32 } ∧ (∀ w ∈ k.code, instrFault n w = 0) ∧ k.onArrive < n ∧ k.onComplete < n ∧ k.onEmit < n ∧ ((k.onNorm < n ∨ (k.onNorm = 0xFFFF ∧ bit k.ops 5 = false))) ∧ kernelGap (u2.ser.kernels.filter fun x => x.idx ≠ i) n = some b ∧ (u2.ser.kernels.filter fun x => x.idx ≠ i).length < 256) ∧
    (∃ (s : State) (u : State) (i : Nat) (k : _), s.served 12 0x628 ∧ u = s.event 12 4 ∧ i = u.rd SRG_KKEY_kernel ∧ u.kernel? i = some k) ∧
    (∃ (s : State) (u : State) (i : Nat), s.served 12 0x628 ∧ u = s.event 12 4 ∧ i = u.rd SRG_KKEY_kernel ∧ u.kernel? i = none) :=
  ⟨⟨((up [ck 12, (SRG_KKEY_kernel, [255])]).tset TB_CTX 0 9 1 (1 <<< 7)).tset TB_CTX 0 9 3 (255 <<< 48), _, _, ⟨rfl, rfl, rfl, rfl⟩, rfl, rfl, kBusy_of _ _ 9 (by decide) (by decide +kernel)⟩,
   ⟨up [ck 12, (SRG_KKEY_kernel, [255])], _, _, ⟨rfl, rfl, rfl, rfl⟩, rfl, rfl, kBusy_none _ _ (by decide +kernel)⟩,
   ⟨up [ck 12, (SRG_KKEY_kernel, [255])], _, _, _, _, _, _, ⟨rfl, rfl, rfl, rfl⟩, rfl, rfl, kBusy_none _ _ (by decide +kernel), both _, rfl, rfl, by decide +kernel⟩,
   ⟨up [ck 12, (SRG_KKEY_kernel, [255]), (SRG_KLOAD_ADDR_addr, [38912 * 2 ^ 18])], _, _, _, _, _, _, ⟨rfl, rfl, rfl, rfl⟩, rfl, rfl, kBusy_none _ _ (by decide +kernel), both _, rfl, rfl, by decide +kernel, .inl (by decide +kernel)⟩,
   ⟨imgUp [(38912 * 2 ^ 24 + 71, 8)] [] [], _, _, _, _, _, _, _, _, _, ⟨rfl, rfl, rfl, rfl⟩, rfl, rfl, kBusy_none _ _ (by decide +kernel), both _, rfl, rfl, by decide +kernel, by decide +kernel, by decide +kernel, by decide +kernel, by decide +kernel, by decide +kernel, by decide +kernel, readRes_clean _ _ _ _ (by decide +kernel) (by decide +kernel) rfl (by decide +kernel) (by decide +kernel), rfl⟩,
   ⟨imgUp [(38912 * 2 ^ 24 + 71, 8)] [(SEC_MIN_kernel_min, [1])] [], _, _, _, _, _, _, _, _, _, ⟨rfl, rfl, rfl, rfl⟩, rfl, rfl, kBusy_none _ _ (by decide +kernel), both _, rfl, rfl, by decide +kernel, by decide +kernel, by decide +kernel, by decide +kernel, by decide +kernel, by decide +kernel, by decide +kernel, readRes_clean _ _ _ _ (by decide +kernel) (by decide +kernel) rfl (by decide +kernel) (by decide +kernel), rfl, any_clean _ _ _ (by decide +kernel) (by decide +kernel), by decide +kernel⟩,
   ⟨imgUp [(38912 * 2 ^ 24 + 71, 255)] [] [], _, _, _, _, _, _, _, _, _, _, _, _, ⟨rfl, rfl, rfl, rfl⟩, rfl, rfl, kBusy_none _ _ (by decide +kernel), both _, rfl, rfl, by decide +kernel, by decide +kernel, by decide +kernel, by decide +kernel, by decide +kernel, by decide +kernel, by decide +kernel, readRes_clean _ _ _ _ (by decide +kernel) (by decide +kernel) rfl (by decide +kernel) (by decide +kernel), rfl, any_clean _ _ _ (by decide +kernel) (by decide +kernel), by decide +kernel, rfl, pickP (by decide +kernel)⟩,
   ⟨imgUp [(38912 * 2 ^ 24 + 12, 1), (38912 * 2 ^ 24 + 71, 8)] [] [], _, _, _, _, _, _, _, _, _, _, ⟨rfl, rfl, rfl, rfl⟩, rfl, rfl, kBusy_none _ _ (by decide +kernel), both _, rfl, rfl, by decide +kernel, by decide +kernel, by decide +kernel, by decide +kernel, by decide +kernel, by decide +kernel, by decide +kernel, readRes_clean _ _ _ _ (by decide +kernel) (by decide +kernel) rfl (by decide +kernel) (by decide +kernel), rfl, any_clean _ _ _ (by decide +kernel) (by decide +kernel), by decide +kernel, rfl, by decide +kernel, .inl (by decide +kernel)⟩,
   ⟨imgUp [(38912 * 2 ^ 24 + 71, 8)] [] (List.replicate 256 { idx := 0, base := 0, onArrive := 0, onComplete := 0, onNorm := 0, onEmit := 0, ops := 63, ver := 0, code := [0] }), _, _, _, _, _, _, _, _, _, _, ⟨rfl, rfl, rfl, rfl⟩, rfl, rfl, kBusy_none _ _ (by decide +kernel), both _, rfl, rfl, by decide +kernel, by decide +kernel, by decide +kernel, by decide +kernel, by decide +kernel, by decide +kernel, by decide +kernel, readRes_clean _ _ _ _ (by decide +kernel) (by decide +kernel) rfl (by decide +kernel) (by decide +kernel), rfl, any_clean _ _ _ (by decide +kernel) (by decide +kernel), by decide +kernel, rfl, by decide +kernel, by decide +kernel, by decide +kernel, by decide +kernel, .inl (by decide +kernel), .inr (by decide +kernel)⟩,
   ⟨imgUp [(38912 * 2 ^ 24 + 71, 8)] [] [], _, _, _, _, _, _, _, _, _, _, 0, ⟨rfl, rfl, rfl, rfl⟩, rfl, rfl, kBusy_none _ _ (by decide +kernel), both _, rfl, rfl, by decide +kernel, by decide +kernel, by decide +kernel, by decide +kernel, by decide +kernel, by decide +kernel, by decide +kernel, readRes_clean _ _ _ _ (by decide +kernel) (by decide +kernel) rfl (by decide +kernel) (by decide +kernel), rfl, any_clean _ _ _ (by decide +kernel) (by decide +kernel), by decide +kernel, rfl, by decide +kernel, by decide +kernel, by decide +kernel, by decide +kernel, .inl (by decide +kernel), by decide +kernel, by decide +kernel⟩,
   ⟨{ up [ck 12, (SRG_KKEY_kernel, [255])] with ser := { kernels := [{ idx := 255, base := 0, onArrive := 0, onComplete := 0, onNorm := 0, onEmit := 0, ops := 63, ver := 0, code := [0] }] } }, _, _, _, ⟨rfl, rfl, rfl, rfl⟩, rfl, rfl, pick (by decide +kernel)⟩,
   ⟨up [ck 12, (SRG_KKEY_kernel, [255])], _, _, ⟨rfl, rfl, rfl, rfl⟩, rfl, rfl, by decide +kernel⟩⟩

/-- Each clause of InvocationsBeginAndEnd that has hypotheses: a state and operands that meet them. -/
theorem witness_InvocationsBeginAndEnd :
    (∃ (s : State) (core : Nat) (l : Nat) (t : State) (e : AqEnt) (r : List AqEnt) (k : Chunk) (k' : Chunk), s.alive = true ∧ core < 68 ∧ s.coreAsleep core = false ∧ t = s.sweepCore core ∧ t.idleCore core = some l ∧ t.wantNorm l = [] ∧ t.wantEmit l (t.core core).eq.length = [] ∧ t.wantComplete l = [] ∧ (t.core core).aq = e :: r ∧ t.liveChunk e.ctx e.chunk e.gen = some k ∧ k' = (if k.state = 1 then { k with state := 2 } else k)) ∧
    (∃ (s : State) (core : Nat) (l : Nat) (k : _), s.alive = true ∧ core < 68 ∧ s.coreAsleep core = false ∧ s.idleCore core = some l ∧ s.wantNorm l = [] ∧ s.wantEmit l (s.core core).eq.length = [] ∧ firstChunk (·.stamp) (s.wantComplete l) = some k) ∧
    (∃ (s : State) (core : Nat) (l : Nat) (k : _), s.alive = true ∧ core < 68 ∧ s.coreAsleep core = false ∧ s.idleCore core = some l ∧ firstChunk s.normStamp (s.wantNorm l) = some k) ∧
    (∃ (s : State) (core : Nat) (l : Nat) (k : _), s.alive = true ∧ core < 68 ∧ s.coreAsleep core = false ∧ s.idleCore core = some l ∧ s.wantNorm l = [] ∧ firstChunk (fun x => max x.stamp (s.core core).eqFree) (s.wantEmit l (s.core core).eq.length) = some k) ∧
    (∃ (s : State) (core : Nat), s.alive = true ∧ core < 68 ∧ s.coreAsleep core = false ∧ s.idleCore core = none) ∧
    (∃ (s : State) (core : Nat), s.alive = true ∧ core < 68 ∧ s.coreAsleep core = false ∧ (s.sweepCore core).idleCore core = none) ∧
    (∃ (s : State) (core : Nat) (l : Nat), s.alive = true ∧ core < 68 ∧ s.coreAsleep core = false ∧ s.idleCore core = some l ∧ s.wantNorm l ≠ []) ∧
    (∃ (s : State) (core : Nat), s.alive = true ∧ core < 68 ∧ s.coreAsleep core = true ∧ (s.core core).inv = none ∧ ((s.onNorm core).core core).inv ≠ none) ∧
    (∃ (s : State) (core : Nat), s.alive = true ∧ core < 68 ∧ s.coreAsleep core = true ∧ (s.core core).inv = none ∧ ((s.onEmit core).core core).inv ≠ none) ∧
    (∃ (s : State) (core : Nat), s.alive = true ∧ core < 68 ∧ s.coreAsleep core = true ∧ (s.core core).inv = none ∧ ((s.onComplete core).core core).inv ≠ none) ∧
    (∃ (s : State) (core : Nat), s.alive = true ∧ core < 68 ∧ s.coreAsleep core = true ∧ (s.core core).inv = none ∧ ((s.onArrive core).core core).inv ≠ none) ∧
    (∃ (s : State) (core : Nat) (i : Inv) (w : Nat), s.alive = true ∧ core < 68 ∧ s.fetchU core 0x08 = some (i, w) ∧ s.liveChunk i.ctx i.chunk i.gen = none) ∧
    (∃ (s : State) (core : Nat) (i : Inv) (w : Nat) (k : Chunk) (t : State) (u : State), s.alive = true ∧ core < 68 ∧ s.fetchU core 0x08 = some (i, w) ∧ s.liveChunk i.ctx i.chunk i.gen = some k ∧ (((¬(i.entry = 3 ∧ i.cur = none) ∧ t = s) ∨ (i.entry = 3 ∧ i.cur = none ∧ s.claimStage k 1 = (true, t)))) ∧ u = (t.event (0x80 + core) 0x10).setChunk { ((t.event (0x80 + core) 0x10).liveChunk i.ctx i.chunk i.gen).getD k with persist := (List.range 4).map fun j => i.x.getD 0 (12 + j) } ∧ (((((t.event (0x80 + core) 0x10).liveChunk i.ctx i.chunk i.gen).getD k).operation = 5 → i.entry = 1 → i.normed = true))) ∧
    (∃ (s : State) (core : Nat) (i : Inv) (w : Nat) (k : Chunk) (u : State), s.alive = true ∧ core < 68 ∧ s.fetchU core 0x08 = some (i, w) ∧ s.liveChunk i.ctx i.chunk i.gen = some k ∧ u = (s.event (0x80 + core) 0x10).setChunk { ((s.event (0x80 + core) 0x10).liveChunk i.ctx i.chunk i.gen).getD k with persist := (List.range 4).map fun j => i.x.getD 0 (12 + j) } ∧ i.entry = 1 ∧ k.operation = 5 ∧ i.normed = false) ∧
    (∃ (s : State) (core : Nat) (i : Inv) (w : Nat) (k : Chunk) (t : _), s.alive = true ∧ core < 68 ∧ s.fetchU core 0x08 = some (i, w) ∧ s.liveChunk i.ctx i.chunk i.gen = some k ∧ i.entry = 3 ∧ i.cur = none ∧ s.claimStage k 1 = (false, t)) ∧
    (∃ (s : State) (core : Nat) (i : Inv), s.alive = true ∧ core < 68 ∧ (s.core core).inv = some i ∧ s.cyc < i.start + s.rd SRG_KCFG_max_cycles) ∧
    (∃ (s : State) (core : Nat) (i : Inv), s.alive = true ∧ core < 68 ∧ (s.core core).inv = some i ∧ i.start + s.rd SRG_KCFG_max_cycles ≤ s.cyc) :=
  ⟨⟨idleUp [] [{ chunk0 with lcore := 63 }] { aq := [⟨0, 0, 0, 0, 0, 0, {}, none⟩] }, 67, 63, _, ⟨0, 0, 0, 0, 0, 0, {}, none⟩, [], _, _, by decide +kernel, by decide +kernel, by decide +kernel, rfl, by decide +kernel, by decide +kernel, by decide +kernel, by decide +kernel, by decide +kernel, pick (by decide +kernel), rfl⟩,
   ⟨idleUp [] [{ chunk0 with lcore := 63, state := 3 }] {}, 67, 63, _, by decide +kernel, by decide +kernel, by decide +kernel, by decide +kernel, by decide +kernel, by decide +kernel, pick (by decide +kernel)⟩,
   ⟨normed [], 67, 63, _, by decide +kernel, by decide +kernel, by decide +kernel, by decide +kernel, pick (by decide +kernel)⟩,
   ⟨idleUp [] [{ chunk0 with lcore := 63, phase := 4 }] {}, 67, 63, _, by decide +kernel, by decide +kernel, by decide +kernel, by decide +kernel, by decide +kernel, pick (by decide +kernel)⟩,
   ⟨up [], 67, by decide +kernel, by decide +kernel, by decide +kernel, by decide +kernel⟩,
   ⟨up [], 67, by decide +kernel, by decide +kernel, by decide +kernel, by decide +kernel⟩,
   ⟨normed [], 67, 63, by decide +kernel, by decide +kernel, by decide +kernel, by decide +kernel, by decide +kernel⟩,
   ⟨normed [(PAGE_PWR_state, [1, 0x80 + 67])], 67, by decide +kernel, by decide +kernel, by decide +kernel, by decide +kernel, by decide +kernel⟩,
   ⟨idleUp [(PAGE_PWR_state, [1, 0x80 + 67])] [{ chunk0 with lcore := 63, phase := 4 }] {}, 67, by decide +kernel, by decide +kernel, by decide +kernel, by decide +kernel, by decide +kernel⟩,
   ⟨idleUp [(PAGE_PWR_state, [1, 0x80 + 67])] [{ chunk0 with lcore := 63, state := 3 }] {}, 67, by decide +kernel, by decide +kernel, by decide +kernel, by decide +kernel, by decide +kernel⟩,
   ⟨idleUp [(PAGE_PWR_state, [1, 0x80 + 67])] [{ chunk0 with lcore := 63 }] { aq := [⟨0, 0, 0, 0, 0, 0, {}, none⟩] }, 67, by decide +kernel, by decide +kernel, by decide +kernel, by decide +kernel, by decide +kernel⟩,
   ⟨runUp (invOf 0) (8 <<< 56) [] [], 67, invOf 0, 8 <<< 56, by decide +kernel, by decide +kernel, by decide +kernel, by decide +kernel⟩,
   ⟨runUp (invOf 0) (8 <<< 56) [chunk0] [], 67, invOf 0, 8 <<< 56, _, _, _, by decide +kernel, by decide +kernel, by decide +kernel, pick (by decide +kernel), .inl ⟨by decide +kernel, rfl⟩, rfl, fun _ h => absurd h (by decide +kernel)⟩,
   ⟨runUp (invOf 1) (8 <<< 56) [updChunk] [], 67, invOf 1, 8 <<< 56, _, _, by decide +kernel, by decide +kernel, by decide +kernel, pick (by decide +kernel), rfl, by decide +kernel, by decide +kernel, by decide +kernel⟩,
   ⟨runUp (invOf 3) (8 <<< 56) [chunk0] [], 67, invOf 3, 8 <<< 56, _, _, by decide +kernel, by decide +kernel, by decide +kernel, pick (by decide +kernel), by decide +kernel, by decide +kernel, pairT (by decide +kernel)⟩,
   ⟨runUp { invOf 0 with start := 10 ^ 13 } 0 [] [(SRG_KCFG_max_cycles, [100])], 67, _, by decide +kernel, by decide +kernel, pick (by decide +kernel), by decide +kernel⟩,
   ⟨runUp (invOf 0) 0 [] [], 67, _, by decide +kernel, by decide +kernel, pick (by decide +kernel), by decide +kernel⟩⟩

/-- Each clause of FencesAndSpares that has hypotheses: a state and operands that meet them. -/
theorem witness_FencesAndSpares :
    (∃ (s : State) (w : Wr) (u : State), s.served 12 0x608 ∧ u = (s.event 12 4).w1c SRG_FENCE_CMD_refused w ∧ w.ones 8 1 = 0) ∧
    (∃ (s : State) (w : Wr) (u : State), s.served 12 0x608 ∧ u = (s.event 12 4).w1c SRG_FENCE_CMD_refused w ∧ w.ones 8 1 = 1 ∧ w.ones 0 7 < 68 ∧ ((u.rd SRI_STATE_state (w.ones 0 7) = 2 ∨ u.rd SRI_STATE_state (w.ones 0 7) = 3))) ∧
    (∃ (s : State) (w : Wr) (u : State), s.served 12 0x608 ∧ u = (s.event 12 4).w1c SRG_FENCE_CMD_refused w ∧ w.ones 8 1 = 1 ∧ ((68 ≤ w.ones 0 7 ∨ (u.rd SRI_STATE_state (w.ones 0 7) ≠ 2 ∧ u.rd SRI_STATE_state (w.ones 0 7) ≠ 3)))) ∧
    (∃ (s : State) (core : _) (i : Inv), s.alive = true ∧ core < 68 ∧ (s.core core).inv = some i ∧ s.rd SRI_STATE_state core = 3 ∧ i.start + s.rd SRG_KCFG_max_cycles + 1024 ≤ s.cyc) ∧
    (∃ (s : State) (core : _) (i : Inv), s.alive = true ∧ core < 68 ∧ (s.core core).inv = some i ∧ s.rd SRI_STATE_state core = 3 ∧ s.cyc < i.start + s.rd SRG_KCFG_max_cycles + 1024) ∧
    (∃ (s : State) (core : _), s.alive = true ∧ core < 68) ∧
    (∃ (s : State) (core : _), s.alive = true ∧ core < 68 ∧ s.rd SRI_STATE_state core = 3) ∧
    (∃ (s : State) (core : _) (code : _), s.alive = true ∧ core < 68 ∧ code < 256 ∧ code ≠ 0 ∧ s.rd SRI_STATE_state core = 3) ∧
    (∃ (s : State) (core : _) (code : Nat) (v : State) (l : _) (ls : _) (q : _) (qs : _), s.alive = true ∧ core < 68 ∧ s.rd SRI_STATE_state core = 1 ∧ code < 256 ∧ v = (((s.wr SRI_CTRL_bist 0 core).wr SRI_STATE_bist_code code core).wr SRI_STATE_state (if code = 0 then 2 else 5) core).showSpares ∧ v.unmapped = l :: ls ∧ v.spares = q :: qs) ∧
    (∃ (s : State) (core : _) (code : Nat) (v : State), s.alive = true ∧ core < 68 ∧ s.rd SRI_STATE_state core = 1 ∧ code < 256 ∧ v = (((s.wr SRI_CTRL_bist 0 core).wr SRI_STATE_bist_code code core).wr SRI_STATE_state (if code = 0 then 2 else 5) core).showSpares ∧ ((v.unmapped = [] ∨ v.spares = []))) ∧
    (∃ (s : State) (core : Nat) (w : Wr) (u : State), core < 68 ∧ s.served (0x80 + core) 0x100 ∧ u = (s.event (0x80 + core) 4).put SRI_CTRL_xmask w core ∧ w.ones 0 1 ≠ 1) ∧
    (∃ (s : State) (core : Nat) (w : Wr) (u : State), core < 68 ∧ s.served (0x80 + core) 0x100 ∧ u = (s.event (0x80 + core) 4).put SRI_CTRL_xmask w core ∧ w.ones 0 1 = 1 ∧ (u.wr SRI_CTRL_bist 1 core).rd SRI_STATE_state core ≠ 4) ∧
    (∃ (s : State) (core : Nat) (w : Wr) (u : State), core < 68 ∧ s.served (0x80 + core) 0x100 ∧ u = (s.event (0x80 + core) 4).put SRI_CTRL_xmask w core ∧ w.ones 0 1 = 1 ∧ (u.wr SRI_CTRL_bist 1 core).rd SRI_STATE_state core = 4) ∧
    (∃ (s : State) (l : _), s.alive = true ∧ l < 64 ∧ s.ser.fencing.contains l = true) ∧
    (∃ (s : State) (l : _), s.alive = true ∧ l < 64 ∧ s.ser.fencing.contains l = false) :=
  ⟨⟨up [ck 12], { v := 0 }, _, ⟨rfl, rfl, rfl, rfl⟩, rfl, by decide +kernel⟩,
   ⟨up [ck 12, (SRI_STATE_state, [2, 67])], { v := 2 ^ 8 + 67 }, _, ⟨rfl, rfl, rfl, rfl⟩, rfl, by decide +kernel, by decide +kernel, .inl (by decide +kernel)⟩,
   ⟨up [ck 12], { v := 2 ^ 8 + 68 }, _, ⟨rfl, rfl, rfl, rfl⟩, rfl, by decide +kernel, .inl (by decide +kernel)⟩,
   ⟨runUp (invOf 0) 0 [] [], 67, _, by decide +kernel, by decide +kernel, pick (by decide +kernel), by decide +kernel, by decide +kernel⟩,
   ⟨runUp { invOf 0 with start := 10 ^ 13 } 0 [] [], 67, _, by decide +kernel, by decide +kernel, pick (by decide +kernel), by decide +kernel, by decide +kernel⟩,
   ⟨up [], 67, by decide +kernel, by decide +kernel⟩,
   ⟨up [(SRI_STATE_state, [3, 67])], 67, by decide +kernel, by decide +kernel, by decide +kernel⟩,
   ⟨up [(SRI_STATE_state, [3, 67])], 67, 255, by decide +kernel, by decide +kernel, by decide +kernel, by decide +kernel, by decide +kernel⟩,
   ⟨up [(SRI_STATE_state, [1, 67])], 67, 0, _, _, _, _, _, by decide +kernel, by decide +kernel, by decide +kernel, by decide +kernel, rfl, rfl, rfl⟩,
   ⟨up [(SRI_STATE_state, [1, 67])], 67, 255, _, by decide +kernel, by decide +kernel, by decide +kernel, by decide +kernel, rfl, .inr (by decide +kernel)⟩,
   ⟨up [ck 0xC3], 67, { v := 0 }, _, by decide +kernel, ⟨rfl, rfl, rfl, rfl⟩, rfl, by decide +kernel⟩,
   ⟨up [ck 0xC3], 67, { v := 1 }, _, by decide +kernel, ⟨rfl, rfl, rfl, rfl⟩, rfl, by decide +kernel, by decide +kernel⟩,
   ⟨up [ck 0xC3, (SRI_STATE_state, [4, 67])], 67, { v := 1 }, _, by decide +kernel, ⟨rfl, rfl, rfl, rfl⟩, rfl, by decide +kernel, by decide +kernel⟩,
   ⟨{ up [] with ser := { fencing := [63] } }, 63, by decide +kernel, by decide +kernel, by decide +kernel⟩,
   ⟨up [], 63, by decide +kernel, by decide +kernel, by decide +kernel⟩⟩

/-- Each clause of LedgerCommands that has hypotheses: a state and operands that meet them. -/
theorem witness_LedgerCommands :
    (∃ (s : State) (u : State) (n : Nat) (r : _), s.served 14 0x100 ∧ u = s.event 14 4 ∧ n < 16 ∧ u.flipCause n = some r) ∧
    (∃ (s : State) (u : State) (n : Nat), s.served 14 0x100 ∧ u = s.event 14 4 ∧ n < 16 ∧ u.flipCause n = none) ∧
    (∃ (s : State) (u : State) (n : Nat), s.served 14 0x100 ∧ u = s.event 14 4 ∧ n < 16 ∧ ((u.flag LDG_STATE_dirty 0 n = true ∨ u.flag LDG_STATE_revert_ok 0 n = false))) ∧
    (∃ (s : State) (u : State) (n : Nat), s.served 14 0x100 ∧ u = s.event 14 4 ∧ n < 16 ∧ u.flag LDG_STATE_dirty 0 n = false ∧ u.flag LDG_STATE_revert_ok 0 n = true ∧ u.ldgBusy n = true) ∧
    (∃ (s : State) (u : State) (n : Nat), s.served 14 0x100 ∧ u = s.event 14 4 ∧ n < 16 ∧ u.flag LDG_STATE_dirty 0 n = false ∧ u.flag LDG_STATE_revert_ok 0 n = true ∧ u.ldgBusy n = false) ∧
    (∃ (s : State) (u : State) (n : Nat), s.served 14 0x100 ∧ u = s.event 14 4 ∧ n < 16) ∧
    (∃ (s : State) (u : State) (n : Nat), s.served 14 0x100 ∧ u = s.event 14 4 ∧ n < 16 ∧ u.ldgOpen n = true) ∧
    (∃ (s : State) (u : State) (n : Nat), s.served 14 0x100 ∧ u = s.event 14 4 ∧ n < 16 ∧ u.ldgOpen n = false ∧ u.ldgBlocks n < fld (u.rd LDG_CMD_ARG_arg) 0 32 + fld (u.rd LDG_CMD_ARG_arg) 32 32) ∧
    (∃ (s : State) (u : State) (n : Nat), s.served 14 0x100 ∧ u = s.event 14 4 ∧ n < 16 ∧ u.ldgOpen n = false ∧ fld (u.rd LDG_CMD_ARG_arg) 0 32 + fld (u.rd LDG_CMD_ARG_arg) 32 32 ≤ u.ldgBlocks n) ∧
    (∃ (s : State) (u : State) (n : Nat), s.served 14 0x100 ∧ u = s.event 14 4 ∧ n < 16 ∧ u.flag LDG_CFG_lock 0 n = false) ∧
    (∃ (s : State) (u : State) (n : Nat), s.served 14 0x100 ∧ u = s.event 14 4 ∧ n < 16 ∧ u.flag LDG_CFG_lock 0 n = true) ∧
    (∃ (s : State) (u : State) (n : Nat), s.served 14 0x100 ∧ u = s.event 14 4 ∧ n < 16 ∧ u.ldgBusy n = true) ∧
    (∃ (s : State) (u : State) (n : Nat), s.served 14 0x100 ∧ u = s.event 14 4 ∧ n < 16 ∧ u.ldgBusy n = false) :=
  ⟨⟨up [ck 14], _, 15, _, ⟨rfl, rfl, rfl, rfl⟩, rfl, by decide +kernel, pick (by decide +kernel)⟩,
   ⟨up [ck 14, (LDG_CFG_enable, [1, 0, 15])], _, 15, ⟨rfl, rfl, rfl, rfl⟩, rfl, by decide +kernel, flipCause_none _ _ rfl (by decide +kernel) (by decide +kernel) (by decide +kernel) (by decide +kernel) (by decide +kernel)⟩,
   ⟨up [ck 14], _, 15, ⟨rfl, rfl, rfl, rfl⟩, rfl, by decide +kernel, .inr (by decide +kernel)⟩,
   ⟨{ up [ck 14, (LDG_STATE_revert_ok, [1, 0, 15])] with ser := { chunks := [{ updChunk with ledger := 15 }] } }, _, 15, ⟨rfl, rfl, rfl, rfl⟩, rfl, by decide +kernel, by decide +kernel, by decide +kernel, by (rw [State.ldgBusy, show State.ldgOpen _ _ = true by decide +kernel, Bool.or_true])⟩,
   ⟨up [ck 14, (LDG_STATE_revert_ok, [1, 0, 15])], _, 15, ⟨rfl, rfl, rfl, rfl⟩, rfl, by decide +kernel, by decide +kernel, by decide +kernel, ldgBusy_none _ _ rfl (by decide +kernel)⟩,
   ⟨up [ck 14], _, 15, ⟨rfl, rfl, rfl, rfl⟩, rfl, by decide +kernel⟩,
   ⟨{ up [ck 14] with ser := { chunks := [{ updChunk with ledger := 15 }] } }, _, 15, ⟨rfl, rfl, rfl, rfl⟩, rfl, by decide +kernel, by decide +kernel⟩,
   ⟨up [ck 14, (LDG_CMD_ARG_arg, [1])], _, 15, ⟨rfl, rfl, rfl, rfl⟩, rfl, by decide +kernel, by decide +kernel, by decide +kernel⟩,
   ⟨up [ck 14], _, 15, ⟨rfl, rfl, rfl, rfl⟩, rfl, by decide +kernel, by decide +kernel, by decide +kernel⟩,
   ⟨up [ck 14], _, 15, ⟨rfl, rfl, rfl, rfl⟩, rfl, by decide +kernel, by decide +kernel⟩,
   ⟨up [ck 14, (LDG_CFG_lock, [1, 0, 15])], _, 15, ⟨rfl, rfl, rfl, rfl⟩, rfl, by decide +kernel, by decide +kernel⟩,
   ⟨{ up [ck 14] with ser := { chunks := [{ updChunk with ledger := 15 }] } }, _, 15, ⟨rfl, rfl, rfl, rfl⟩, rfl, by decide +kernel, by (rw [State.ldgBusy, show State.ldgOpen _ _ = true by decide +kernel, Bool.or_true])⟩,
   ⟨up [ck 14], _, 15, ⟨rfl, rfl, rfl, rfl⟩, rfl, by decide +kernel, ldgBusy_none _ _ rfl (by decide +kernel)⟩⟩

/-- Each clause of LedgerEnable that has hypotheses: a state and operands that meet them. -/
theorem witness_LedgerEnable :
    (∃ (s : State) (u : State) (v : State) (n : Nat) (w : Wr), n < 16 ∧ s.served 14 (0x1000 + 0x200 * n) ∧ u = s.event 14 4 ∧ v = u.put LDG_CFG_lock w 0 n ∧ u.flag LDG_CFG_enable 0 n = true ∧ w.merge 2 2 (u.rd LDG_CFG_layout 0 n) = u.rd LDG_CFG_layout 0 n ∧ w.merge 0 1 (u.rd LDG_CFG_enable 0 n) = 1) ∧
    (∃ (s : State) (u : State) (v : State) (n : Nat) (w : Wr), n < 16 ∧ s.served 14 (0x1000 + 0x200 * n) ∧ u = s.event 14 4 ∧ v = u.put LDG_CFG_lock w 0 n ∧ u.flag LDG_CFG_enable 0 n = true ∧ w.merge 2 2 (u.rd LDG_CFG_layout 0 n) = u.rd LDG_CFG_layout 0 n ∧ w.merge 0 1 (u.rd LDG_CFG_enable 0 n) ≠ 1 ∧ u.ldgConvoy n = true) ∧
    (∃ (s : State) (u : State) (v : State) (n : Nat) (w : Wr), n < 16 ∧ s.served 14 (0x1000 + 0x200 * n) ∧ u = s.event 14 4 ∧ v = u.put LDG_CFG_lock w 0 n ∧ u.flag LDG_CFG_enable 0 n = true ∧ w.merge 2 2 (u.rd LDG_CFG_layout 0 n) = u.rd LDG_CFG_layout 0 n ∧ w.merge 0 1 (u.rd LDG_CFG_enable 0 n) ≠ 1 ∧ u.ldgConvoy n = false) ∧
    (∃ (s : State) (u : State) (v : State) (n : Nat) (w : Wr), n < 16 ∧ s.served 14 (0x1000 + 0x200 * n) ∧ u = s.event 14 4 ∧ v = u.put LDG_CFG_lock w 0 n ∧ u.flag LDG_CFG_enable 0 n = true ∧ w.merge 2 2 (u.rd LDG_CFG_layout 0 n) ≠ u.rd LDG_CFG_layout 0 n ∧ w.merge 0 1 (u.rd LDG_CFG_enable 0 n) = 1) ∧
    (∃ (s : State) (u : State) (v : State) (n : Nat) (w : Wr), n < 16 ∧ s.served 14 (0x1000 + 0x200 * n) ∧ u = s.event 14 4 ∧ v = u.put LDG_CFG_lock w 0 n ∧ u.flag LDG_CFG_enable 0 n = true ∧ w.merge 2 2 (u.rd LDG_CFG_layout 0 n) ≠ u.rd LDG_CFG_layout 0 n ∧ w.merge 0 1 (u.rd LDG_CFG_enable 0 n) ≠ 1 ∧ u.ldgConvoy n = true) ∧
    (∃ (s : State) (u : State) (v : State) (n : Nat) (w : Wr), n < 16 ∧ s.served 14 (0x1000 + 0x200 * n) ∧ u = s.event 14 4 ∧ v = u.put LDG_CFG_lock w 0 n ∧ u.flag LDG_CFG_enable 0 n = true ∧ w.merge 2 2 (u.rd LDG_CFG_layout 0 n) ≠ u.rd LDG_CFG_layout 0 n ∧ w.merge 0 1 (u.rd LDG_CFG_enable 0 n) ≠ 1 ∧ u.ldgConvoy n = false) ∧
    (∃ (s : State) (u : State) (v : State) (n : Nat) (w : Wr) (x : _), n < 16 ∧ s.served 14 (0x1000 + 0x200 * n) ∧ u = s.event 14 4 ∧ v = u.put LDG_CFG_lock w 0 n ∧ u.flag LDG_CFG_enable 0 n = false ∧ x = u.ldgCover (v.wr LDG_CFG_layout (w.merge 2 2 (u.rd LDG_CFG_layout 0 n)) 0 n) n 0 ∧ w.merge 0 1 (u.rd LDG_CFG_enable 0 n) ≠ 1) ∧
    (∃ (s : State) (u : State) (v : State) (n : Nat) (w : Wr) (x : _) (r : _), n < 16 ∧ s.served 14 (0x1000 + 0x200 * n) ∧ u = s.event 14 4 ∧ v = u.put LDG_CFG_lock w 0 n ∧ u.flag LDG_CFG_enable 0 n = false ∧ x = u.ldgCover (v.wr LDG_CFG_layout (w.merge 2 2 (u.rd LDG_CFG_layout 0 n)) 0 n) n 0 ∧ w.merge 0 1 (u.rd LDG_CFG_enable 0 n) = 1 ∧ x.enableBad n (w.merge 2 2 (u.rd LDG_CFG_layout 0 n)) = some r) ∧
    (∃ (s : State) (u : State) (v : State) (n : Nat) (w : Wr) (x : _), n < 16 ∧ s.served 14 (0x1000 + 0x200 * n) ∧ u = s.event 14 4 ∧ v = u.put LDG_CFG_lock w 0 n ∧ u.flag LDG_CFG_enable 0 n = false ∧ x = u.ldgCover (v.wr LDG_CFG_layout (w.merge 2 2 (u.rd LDG_CFG_layout 0 n)) 0 n) n 0 ∧ w.merge 0 1 (u.rd LDG_CFG_enable 0 n) = 1 ∧ x.enableBad n (w.merge 2 2 (u.rd LDG_CFG_layout 0 n)) = none) :=
  ⟨⟨up [ck 14, (LDG_CFG_enable, [1, 0, 15])], _, _, 15, { v := 5 }, by decide +kernel, ⟨rfl, rfl, rfl, rfl⟩, rfl, rfl, by decide +kernel, by decide +kernel, by decide +kernel⟩,
   ⟨(((up [ck 14, (LDG_CFG_enable, [1, 0, 15])]).tset TB_CTX 0 3 1 (1 <<< 7)).tset TB_CTX 0 3 0 (5 <<< 1)).tset TB_CTX 0 3 3 (15 <<< 44), _, _, 15, { v := 4 }, by decide +kernel, ⟨rfl, rfl, rfl, rfl⟩, rfl, rfl, by decide +kernel, by decide +kernel, by decide +kernel, by decide +kernel⟩,
   ⟨up [ck 14, (LDG_CFG_enable, [1, 0, 15])], _, _, 15, { v := 4 }, by decide +kernel, ⟨rfl, rfl, rfl, rfl⟩, rfl, rfl, by decide +kernel, by decide +kernel, by decide +kernel, ldgConvoy_none _ _ rfl⟩,
   ⟨up [ck 14, (LDG_CFG_enable, [1, 0, 15])], _, _, 15, { v := 1 }, by decide +kernel, ⟨rfl, rfl, rfl, rfl⟩, rfl, rfl, by decide +kernel, by decide +kernel, by decide +kernel⟩,
   ⟨(((up [ck 14, (LDG_CFG_enable, [1, 0, 15])]).tset TB_CTX 0 3 1 (1 <<< 7)).tset TB_CTX 0 3 0 (5 <<< 1)).tset TB_CTX 0 3 3 (15 <<< 44), _, _, 15, { v := 0 }, by decide +kernel, ⟨rfl, rfl, rfl, rfl⟩, rfl, rfl, by decide +kernel, by decide +kernel, by decide +kernel, by decide +kernel⟩,
   ⟨up [ck 14, (LDG_CFG_enable, [1, 0, 15])], _, _, 15, { v := 0 }, by decide +kernel, ⟨rfl, rfl, rfl, rfl⟩, rfl, rfl, by decide +kernel, by decide +kernel, by decide +kernel, ldgConvoy_none _ _ rfl⟩,
   ⟨up [ck 14], _, _, 15, { v := 4 }, _, by decide +kernel, ⟨rfl, rfl, rfl, rfl⟩, rfl, rfl, by decide +kernel, rfl, by decide +kernel⟩,
   ⟨up [ck 14], _, _, 15, { v := 13 }, _, _, by decide +kernel, ⟨rfl, rfl, rfl, rfl⟩, rfl, rfl, by decide +kernel, rfl, by decide +kernel, pick (by decide +kernel)⟩,
   ⟨up [ck 14, (LDG_BANK_bank_bytes, [16, 0, 15])], _, _, 15, { v := 5 }, _, by decide +kernel, ⟨rfl, rfl, rfl, rfl⟩, rfl, rfl, by decide +kernel, rfl, by decide +kernel, by decide +kernel⟩⟩

/-- Each clause of NormExchange that has hypotheses: a state and operands that meet them. -/
theorem witness_NormExchange :
    (∃ (s : State) (t : State) (l : Nat) (ph : Nat) (x : Flight) (p : Pkt), s.alive = true ∧ l < 64 ∧ s.headLocal (.serai l) = some x ∧ p = x.pkt ∧ s.physOf l = some ph ∧ s.coreAsleep ph = false ∧ t = s.dropFlight x ∧ ((p.kind ≠ 6 ∨ s.ser.fencing.contains l = true))) ∧
    (∃ (s : State) (t : State) (l : Nat) (ph : Nat) (x : Flight) (p : Pkt), s.alive = true ∧ l < 64 ∧ s.headLocal (.serai l) = some x ∧ p = x.pkt ∧ s.physOf l = some ph ∧ s.coreAsleep ph = false ∧ t = s.dropFlight x ∧ p.kind = 6 ∧ s.ser.fencing.contains l = false ∧ ((t.ctxValid p.ctx = false ∨ t.ctxBad p.ctx = true ∨ t.ctxSlice p.ctx ≠ p.slice ∨ t.ctxOper p.ctx ≠ 5))) ∧
    (∃ (s : State) (t : State) (l : Nat) (ph : Nat) (x : Flight) (p : Pkt), s.alive = true ∧ l < 64 ∧ s.headLocal (.serai l) = some x ∧ p = x.pkt ∧ s.physOf l = some ph ∧ s.coreAsleep ph = false ∧ t = s.dropFlight x ∧ p.kind = 6 ∧ s.ser.fencing.contains l = false ∧ t.ctxValid p.ctx = true ∧ t.ctxBad p.ctx = false ∧ t.ctxSlice p.ctx = p.slice ∧ t.ctxOper p.ctx = 5 ∧ ((p.fmt ≠ 9 ∨ p.length ≠ 40 ∨ (t.peers (t.ctxLedger p.ctx)).contains p.member = false))) ∧
    (∃ (s : State) (t : State) (l : Nat) (ph : Nat) (x : Flight) (p : Pkt), s.alive = true ∧ l < 64 ∧ s.headLocal (.serai l) = some x ∧ p = x.pkt ∧ s.physOf l = some ph ∧ s.coreAsleep ph = false ∧ t = s.dropFlight x ∧ p.kind = 6 ∧ s.ser.fencing.contains l = false ∧ t.ctxValid p.ctx = true ∧ t.ctxBad p.ctx = false ∧ t.ctxSlice p.ctx = p.slice ∧ t.ctxOper p.ctx = 5 ∧ p.fmt = 9 ∧ p.length = 40 ∧ (t.peers (t.ctxLedger p.ctx)).contains p.member = true ∧ e2eOf p.payload ≠ p.e2e) ∧
    (∃ (s : State) (t : State) (l : Nat) (ph : Nat) (x : Flight) (p : Pkt) (r : _), s.alive = true ∧ l < 64 ∧ s.headLocal (.serai l) = some x ∧ p = x.pkt ∧ s.physOf l = some ph ∧ s.coreAsleep ph = false ∧ t = s.dropFlight x ∧ p.kind = 6 ∧ s.ser.fencing.contains l = false ∧ t.ctxValid p.ctx = true ∧ t.ctxBad p.ctx = false ∧ t.ctxSlice p.ctx = p.slice ∧ t.ctxOper p.ctx = 5 ∧ p.fmt = 9 ∧ p.length = 40 ∧ (t.peers (t.ctxLedger p.ctx)).contains p.member = true ∧ e2eOf p.payload = p.e2e ∧ t.normSlotFor (t.ctxLedger p.ctx) p.ctx p.chunk p.slice = (.error 0, r)) ∧
    (∃ (s : State) (t : State) (l : Nat) (ph : Nat) (x : Flight) (p : Pkt) (r : _), s.alive = true ∧ l < 64 ∧ s.headLocal (.serai l) = some x ∧ p = x.pkt ∧ s.physOf l = some ph ∧ s.coreAsleep ph = false ∧ t = s.dropFlight x ∧ p.kind = 6 ∧ s.ser.fencing.contains l = false ∧ t.ctxValid p.ctx = true ∧ t.ctxBad p.ctx = false ∧ t.ctxSlice p.ctx = p.slice ∧ t.ctxOper p.ctx = 5 ∧ p.fmt = 9 ∧ p.length = 40 ∧ (t.peers (t.ctxLedger p.ctx)).contains p.member = true ∧ e2eOf p.payload = p.e2e ∧ t.normSlotFor (t.ctxLedger p.ctx) p.ctx p.chunk p.slice = (.error 1, r)) ∧
    (∃ (s : State) (t : State) (l : Nat) (ph : Nat) (x : Flight) (p : Pkt) (r : _) (y : _), s.alive = true ∧ l < 64 ∧ s.headLocal (.serai l) = some x ∧ p = x.pkt ∧ s.physOf l = some ph ∧ s.coreAsleep ph = false ∧ t = s.dropFlight x ∧ p.kind = 6 ∧ s.ser.fencing.contains l = false ∧ t.ctxValid p.ctx = true ∧ t.ctxBad p.ctx = false ∧ t.ctxSlice p.ctx = p.slice ∧ t.ctxOper p.ctx = 5 ∧ p.fmt = 9 ∧ p.length = 40 ∧ (t.peers (t.ctxLedger p.ctx)).contains p.member = true ∧ e2eOf p.payload = p.e2e ∧ t.normSlotFor (t.ctxLedger p.ctx) p.ctx p.chunk p.slice = (.ok y, r) ∧ y.state = 4) ∧
    (∃ (s : State) (t : State) (l : Nat) (ph : Nat) (x : Flight) (p : Pkt) (r : _) (y : _) (old : _), s.alive = true ∧ l < 64 ∧ s.headLocal (.serai l) = some x ∧ p = x.pkt ∧ s.physOf l = some ph ∧ s.coreAsleep ph = false ∧ t = s.dropFlight x ∧ p.kind = 6 ∧ s.ser.fencing.contains l = false ∧ t.ctxValid p.ctx = true ∧ t.ctxBad p.ctx = false ∧ t.ctxSlice p.ctx = p.slice ∧ t.ctxOper p.ctx = 5 ∧ p.fmt = 9 ∧ p.length = 40 ∧ (t.peers (t.ctxLedger p.ctx)).contains p.member = true ∧ e2eOf p.payload = p.e2e ∧ t.normSlotFor (t.ctxLedger p.ctx) p.ctx p.chunk p.slice = (.ok y, r) ∧ y.state ≠ 4 ∧ y.peers.get? p.member = some old ∧ old = leNat p.payload) ∧
    (∃ (s : State) (t : State) (l : Nat) (ph : Nat) (x : Flight) (p : Pkt) (r : _) (y : _) (old : _), s.alive = true ∧ l < 64 ∧ s.headLocal (.serai l) = some x ∧ p = x.pkt ∧ s.physOf l = some ph ∧ s.coreAsleep ph = false ∧ t = s.dropFlight x ∧ p.kind = 6 ∧ s.ser.fencing.contains l = false ∧ t.ctxValid p.ctx = true ∧ t.ctxBad p.ctx = false ∧ t.ctxSlice p.ctx = p.slice ∧ t.ctxOper p.ctx = 5 ∧ p.fmt = 9 ∧ p.length = 40 ∧ (t.peers (t.ctxLedger p.ctx)).contains p.member = true ∧ e2eOf p.payload = p.e2e ∧ t.normSlotFor (t.ctxLedger p.ctx) p.ctx p.chunk p.slice = (.ok y, r) ∧ y.state ≠ 4 ∧ y.peers.get? p.member = some old ∧ old ≠ leNat p.payload) ∧
    (∃ (s : State) (t : State) (l : Nat) (ph : Nat) (x : Flight) (p : Pkt) (r : _) (y : _) (z : NormSlot), s.alive = true ∧ l < 64 ∧ s.headLocal (.serai l) = some x ∧ p = x.pkt ∧ s.physOf l = some ph ∧ s.coreAsleep ph = false ∧ t = s.dropFlight x ∧ p.kind = 6 ∧ s.ser.fencing.contains l = false ∧ t.ctxValid p.ctx = true ∧ t.ctxBad p.ctx = false ∧ t.ctxSlice p.ctx = p.slice ∧ t.ctxOper p.ctx = 5 ∧ p.fmt = 9 ∧ p.length = 40 ∧ (t.peers (t.ctxLedger p.ctx)).contains p.member = true ∧ e2eOf p.payload = p.e2e ∧ t.normSlotFor (t.ctxLedger p.ctx) p.ctx p.chunk p.slice = (.ok y, r) ∧ y.state ≠ 4 ∧ y.peers.get? p.member = none ∧ z = { y with peers := y.peers.put p.member (leNat p.payload), total := y.total.join (({} : Accum).add 0 (decodeExp (leNat p.payload)) (decide (p.poisonMap % 2 = 1))).1 }) ∧
    (∃ (s : State) (t : State) (l : Nat) (ph : Nat) (x : Flight) (p : Pkt) (reason : _), s.alive = true ∧ l < 64 ∧ s.headLocal (.serai l) = some x ∧ p = x.pkt ∧ s.physOf l = some ph ∧ s.coreAsleep ph = false ∧ t = s.dropFlight x ∧ p.kind = 3 ∧ ackRead p = some (1, reason, 6) ∧ reason ≠ 10 ∧ e2eOf p.payload ≠ p.e2e) ∧
    (∃ (s : State) (t : State) (l : Nat) (ph : Nat) (x : Flight) (p : Pkt) (reason : _), s.alive = true ∧ l < 64 ∧ s.headLocal (.serai l) = some x ∧ p = x.pkt ∧ s.physOf l = some ph ∧ s.coreAsleep ph = false ∧ t = s.dropFlight x ∧ p.kind = 3 ∧ ackRead p = some (1, reason, 6) ∧ reason ≠ 10 ∧ e2eOf p.payload = p.e2e ∧ t.peerOf (t.ctxLedger p.ctx) p.src = none) ∧
    (∃ (s : State) (t : State) (l : Nat) (ph : Nat) (x : Flight) (p : Pkt) (reason : _) (m : _), s.alive = true ∧ l < 64 ∧ s.headLocal (.serai l) = some x ∧ p = x.pkt ∧ s.physOf l = some ph ∧ s.coreAsleep ph = false ∧ t = s.dropFlight x ∧ p.kind = 3 ∧ ackRead p = some (1, reason, 6) ∧ reason ≠ 10 ∧ e2eOf p.payload = p.e2e ∧ t.peerOf (t.ctxLedger p.ctx) p.src = some m ∧ reason = 9) ∧
    (∃ (s : State) (t : State) (l : Nat) (ph : Nat) (x : Flight) (p : Pkt) (reason : _) (m : _), s.alive = true ∧ l < 64 ∧ s.headLocal (.serai l) = some x ∧ p = x.pkt ∧ s.physOf l = some ph ∧ s.coreAsleep ph = false ∧ t = s.dropFlight x ∧ p.kind = 3 ∧ ackRead p = some (1, reason, 6) ∧ reason ≠ 10 ∧ e2eOf p.payload = p.e2e ∧ t.peerOf (t.ctxLedger p.ctx) p.src = some m ∧ reason ≠ 9 ∧ reason ≠ 8) ∧
    (∃ (s : State) (t : State) (l : Nat) (ph : Nat) (x : Flight) (p : Pkt) (reason : _) (m : _) (r : _), s.alive = true ∧ l < 64 ∧ s.headLocal (.serai l) = some x ∧ p = x.pkt ∧ s.physOf l = some ph ∧ s.coreAsleep ph = false ∧ t = s.dropFlight x ∧ p.kind = 3 ∧ ackRead p = some (1, reason, 6) ∧ reason ≠ 10 ∧ e2eOf p.payload = p.e2e ∧ t.peerOf (t.ctxLedger p.ctx) p.src = some m ∧ reason = 8 ∧ t.findPartial (t.ctxLedger p.ctx) p.ctx p.chunk = (none, r)) ∧
    (∃ (s : State) (t : State) (l : Nat) (ph : Nat) (x : Flight) (p : Pkt) (reason : _) (m : _) (b : _) (r : _), s.alive = true ∧ l < 64 ∧ s.headLocal (.serai l) = some x ∧ p = x.pkt ∧ s.physOf l = some ph ∧ s.coreAsleep ph = false ∧ t = s.dropFlight x ∧ p.kind = 3 ∧ ackRead p = some (1, reason, 6) ∧ reason ≠ 10 ∧ e2eOf p.payload = p.e2e ∧ t.peerOf (t.ctxLedger p.ctx) p.src = some m ∧ reason = 8 ∧ t.findPartial (t.ctxLedger p.ctx) p.ctx p.chunk = (some b, r)) ∧
    (∃ (s : State) (t : State) (l : Nat) (ph : Nat) (x : Flight) (p : Pkt), s.alive = true ∧ l < 64 ∧ s.headLocal (.serai l) = some x ∧ p = x.pkt ∧ s.physOf l = some ph ∧ s.coreAsleep ph = false ∧ t = s.dropFlight x ∧ p.kind = 3 ∧ ackRead p = some (1, 10, 6) ∧ e2eOf p.payload ≠ p.e2e) ∧
    (∃ (s : State) (t : State) (l : Nat) (ph : Nat) (x : Flight) (p : Pkt) (y : _), s.alive = true ∧ l < 64 ∧ s.headLocal (.serai l) = some x ∧ p = x.pkt ∧ s.physOf l = some ph ∧ s.coreAsleep ph = false ∧ t = s.dropFlight x ∧ p.kind = 3 ∧ ackRead p = some (1, 10, 6) ∧ e2eOf p.payload = p.e2e ∧ t.normOf (t.ctxLedger p.ctx) p.ctx p.chunk (fun y => y.state ≠ 0 && y.state ≠ 4) = some y) ∧
    (∃ (s : State) (t : State) (l : Nat) (ph : Nat) (x : Flight) (p : Pkt), s.alive = true ∧ l < 64 ∧ s.headLocal (.serai l) = some x ∧ p = x.pkt ∧ s.physOf l = some ph ∧ s.coreAsleep ph = false ∧ t = s.dropFlight x ∧ p.kind = 3 ∧ ackRead p = some (1, 10, 6) ∧ e2eOf p.payload = p.e2e ∧ t.normOf (t.ctxLedger p.ctx) p.ctx p.chunk (fun y => y.state ≠ 0 && y.state ≠ 4) = none) ∧
    (∃ (s : State), s.alive = true) ∧
    (∃ (s : State) (u : State), s.alive = true ∧ u = (s.ser.resend.filter fun x => decide (x.due ≤ s.cyc)).foldl (fun t x => match (t.findPartial x.ledger x.ctx x.key).1 with | some b => (t.findPartial x.ledger x.ctx x.key).2.sendPartial x.ledger x.ctx x.key x.member b | none => if x.asked then (t.findPartial x.ledger x.ctx x.key).2.cnt LDG_NORM_LATE_count else (t.findPartial x.ledger x.ctx x.key).2) { s with ser := { s.ser with resend := s.ser.resend.filter fun x => decide (s.cyc < x.due) } }) :=
  ⟨⟨normUp { kind := 1 } [] [], _, 63, _, _, _, by decide +kernel, by decide +kernel, pick (by decide +kernel), rfl, pick (by decide +kernel), by decide +kernel, rfl, .inl (by decide +kernel)⟩,
   ⟨normUp { kind := 6 } [] [], _, 63, _, _, _, by decide +kernel, by decide +kernel, pick (by decide +kernel), rfl, pick (by decide +kernel), by decide +kernel, rfl, by decide +kernel, by decide +kernel, .inl (by decide +kernel)⟩,
   ⟨normUp { kind := 6, ctx := 65535 } [] [], _, 63, _, _, _, by decide +kernel, by decide +kernel, pick (by decide +kernel), rfl, pick (by decide +kernel), by decide +kernel, rfl, by decide +kernel, by decide +kernel, by decide +kernel, by decide +kernel, by decide +kernel, by decide +kernel, .inl (by decide +kernel)⟩,
   ⟨normUp { partialOf [] 0 with e2e := 1 } [] [], _, 63, _, _, _, by decide +kernel, by decide +kernel, pick (by decide +kernel), rfl, pick (by decide +kernel), by decide +kernel, rfl, by decide +kernel, by decide +kernel, by decide +kernel, by decide +kernel, by decide +kernel, by decide +kernel, by decide +kernel, by decide +kernel, by decide +kernel, by decide +kernel⟩,
   ⟨normUp (partialOf [] 0) [(LDG_STATE_step, [1, 0, 15])] [], _, 63, _, _, _, _, by decide +kernel, by decide +kernel, pick (by decide +kernel), rfl, pick (by decide +kernel), by decide +kernel, rfl, by decide +kernel, by decide +kernel, by decide +kernel, by decide +kernel, by decide +kernel, by decide +kernel, by decide +kernel, by decide +kernel, by decide +kernel, by decide +kernel, pairT (by rfl)⟩,
   ⟨normUp (partialOf [] 1) [] [], _, 63, _, _, _, _, by decide +kernel, by decide +kernel, pick (by decide +kernel), rfl, pick (by decide +kernel), by decide +kernel, rfl, by decide +kernel, by decide +kernel, by decide +kernel, by decide +kernel, by decide +kernel, by decide +kernel, by decide +kernel, by decide +kernel, by decide +kernel, by decide +kernel, pairT (by rfl)⟩,
   ⟨normUp (partialOf [] 0) [] [{ ctx := 65535, step := 0, round := 0, ledger := 15, state := 4 }], _, 63, _, _, _, _, { ctx := 65535, step := 0, round := 0, ledger := 15, state := 4 }, by decide +kernel, by decide +kernel, pick (by decide +kernel), rfl, pick (by decide +kernel), by decide +kernel, rfl, by decide +kernel, by decide +kernel, by decide +kernel, by decide +kernel, by decide +kernel, by decide +kernel, by decide +kernel, by decide +kernel, by decide +kernel, by decide +kernel, pairT (by rfl), by decide +kernel⟩,
   ⟨normUp (partialOf [] 0) [] [{ ctx := 65535, step := 0, round := 0, ledger := 15, peers := [(1, 0)] }], _, 63, _, _, _, _, { ctx := 65535, step := 0, round := 0, ledger := 15, peers := [(1, 0)] }, 0, by decide +kernel, by decide +kernel, pick (by decide +kernel), rfl, pick (by decide +kernel), by decide +kernel, rfl, by decide +kernel, by decide +kernel, by decide +kernel, by decide +kernel, by decide +kernel, by decide +kernel, by decide +kernel, by decide +kernel, by decide +kernel, by decide +kernel, pairT (by rfl), by decide +kernel, by decide +kernel, by decide +kernel⟩,
   ⟨normUp (partialOf [1] 0) [] [{ ctx := 65535, step := 0, round := 0, ledger := 15, peers := [(1, 0)] }], _, 63, _, _, _, _, { ctx := 65535, step := 0, round := 0, ledger := 15, peers := [(1, 0)] }, 0, by decide +kernel, by decide +kernel, pick (by decide +kernel), rfl, pick (by decide +kernel), by decide +kernel, rfl, by decide +kernel, by decide +kernel, by decide +kernel, by decide +kernel, by decide +kernel, by decide +kernel, by decide +kernel, by decide +kernel, by decide +kernel, by decide +kernel, pairT (by rfl), by decide +kernel, by decide +kernel, by decide +kernel⟩,
   ⟨normUp (partialOf [1] 0) [] [{ ctx := 65535, step := 0, round := 0, ledger := 15 }], _, 63, _, _, _, _, { ctx := 65535, step := 0, round := 0, ledger := 15 }, _, by decide +kernel, by decide +kernel, pick (by decide +kernel), rfl, pick (by decide +kernel), by decide +kernel, rfl, by decide +kernel, by decide +kernel, by decide +kernel, by decide +kernel, by decide +kernel, by decide +kernel, by decide +kernel, by decide +kernel, by decide +kernel, by decide +kernel, pairT (by rfl), by decide +kernel, by decide +kernel, rfl⟩,
   ⟨normUp { nak6 8 0 with e2e := 1 } [] [], _, 63, _, _, _, 8, by decide +kernel, by decide +kernel, pick (by decide +kernel), rfl, pick (by decide +kernel), by decide +kernel, rfl, by decide +kernel, by decide +kernel, by decide +kernel, by decide +kernel⟩,
   ⟨normUp { nak6 8 0 with src := 5 } [] [], _, 63, _, _, _, 8, by decide +kernel, by decide +kernel, pick (by decide +kernel), rfl, pick (by decide +kernel), by decide +kernel, rfl, by decide +kernel, by decide +kernel, by decide +kernel, by decide +kernel, by decide +kernel⟩,
   ⟨(coreUp [(LDG_NORM_GRP_norm_count, [2]), (LDG_RSV_BASE_base, [38912])] { nak6 9 0 with ctx := 0 } []).tset TB_MEMBER 0 1 0 (1 <<< 40), _, 63, _, _, _, 9, 1, by decide +kernel, by decide +kernel, pick (by decide +kernel), rfl, pick (by decide +kernel), by decide +kernel, rfl, by decide +kernel, by decide +kernel, by decide +kernel, by decide +kernel, by decide +kernel, by decide +kernel⟩,
   ⟨(coreUp [(LDG_NORM_GRP_norm_count, [2]), (LDG_RSV_BASE_base, [38912])] { nak6 1 0 with ctx := 0 } []).tset TB_MEMBER 0 1 0 (1 <<< 40), _, 63, _, _, _, 1, 1, by decide +kernel, by decide +kernel, pick (by decide +kernel), rfl, pick (by decide +kernel), by decide +kernel, rfl, by decide +kernel, by decide +kernel, by decide +kernel, by decide +kernel, by decide +kernel, by decide +kernel, by decide +kernel⟩,
   ⟨(coreUp [(LDG_NORM_GRP_norm_count, [2])] { nak6 8 0 with ctx := 0 } []).tset TB_MEMBER 0 1 0 (1 <<< 40), _, 63, _, _, _, 8, 1, _, by decide +kernel, by decide +kernel, pick (by decide +kernel), rfl, pick (by decide +kernel), by decide +kernel, rfl, by decide +kernel, by decide +kernel, by decide +kernel, by decide +kernel, by decide +kernel, by decide +kernel, pairT (by decide +kernel)⟩,
   ⟨(coreUp [(LDG_NORM_GRP_norm_count, [2]), (LDG_RSV_BASE_base, [38912])] { nak6 8 0 with ctx := 0 } []).tset TB_MEMBER 0 1 0 (1 <<< 40), _, 63, _, _, _, 8, 1, _, _, by decide +kernel, by decide +kernel, pick (by decide +kernel), rfl, pick (by decide +kernel), by decide +kernel, rfl, by decide +kernel, by decide +kernel, by decide +kernel, by decide +kernel, by decide +kernel, by decide +kernel, pairS (by decide +kernel)⟩,
   ⟨normUp { nak6 10 0 with e2e := 1 } [] [], _, 63, _, _, _, by decide +kernel, by decide +kernel, pick (by decide +kernel), rfl, pick (by decide +kernel), by decide +kernel, rfl, by decide +kernel, by decide +kernel, by decide +kernel⟩,
   ⟨normUp (nak6 10 0) [] [{ ctx := 65535, step := 0, round := 0, ledger := 15, state := 1 }], _, 63, _, _, _, _, by decide +kernel, by decide +kernel, pick (by decide +kernel), rfl, pick (by decide +kernel), by decide +kernel, rfl, by decide +kernel, by decide +kernel, by decide +kernel, pick (by decide +kernel)⟩,
   ⟨normUp (nak6 10 0) [] [], _, 63, _, _, _, by decide +kernel, by decide +kernel, pick (by decide +kernel), rfl, pick (by decide +kernel), by decide +kernel, rfl, by decide +kernel, by decide +kernel, by decide +kernel, by decide +kernel⟩,
   ⟨up [], by decide +kernel⟩,
   ⟨up [], _, by decide +kernel, rfl⟩⟩

/-- Each clause of LaunchBroadcast that has hypotheses: a state and operands that meet them. -/
theorem witness_LaunchBroadcast :
    (∃ (s : State) (t : State) (x : Flight) (p : Pkt), s.alive = true ∧ s.headLocal .bcast = some x ∧ p = { x.pkt with hopPtr := if x.pkt.wbDone = 1 then x.pkt.hopPtr else x.pkt.hopPtr - 1, wbDone := 0 } ∧ t = s.dropFlight x ∧ t.flag SRG_BC_CFG_enable = false) ∧
    (∃ (s : State) (t : State) (x : Flight) (p : Pkt) (e : _), s.alive = true ∧ s.headLocal .bcast = some x ∧ p = { x.pkt with hopPtr := if x.pkt.wbDone = 1 then x.pkt.hopPtr else x.pkt.hopPtr - 1, wbDone := 0 } ∧ t = s.dropFlight x ∧ t.flag SRG_BC_CFG_enable = true ∧ t.ser.bcast.find? (·.hasKey p) = some e ∧ e.isOpen = true) ∧
    (∃ (s : State) (t : State) (x : Flight) (p : Pkt) (e : _), s.alive = true ∧ s.headLocal .bcast = some x ∧ p = { x.pkt with hopPtr := if x.pkt.wbDone = 1 then x.pkt.hopPtr else x.pkt.hopPtr - 1, wbDone := 0 } ∧ t = s.dropFlight x ∧ t.flag SRG_BC_CFG_enable = true ∧ t.ser.bcast.find? (·.hasKey p) = some e ∧ e.isOpen = false ∧ (t.cnt SRG_BC_DUP_count).bcTargeted p = false) ∧
    (∃ (s : State) (t : State) (x : Flight) (p : Pkt) (e : BcEnt) (e' : BcEnt) (u : State) (c : State) (kids : Nat) (dead : Nat) (bad : Bool), s.alive = true ∧ s.headLocal .bcast = some x ∧ p = { x.pkt with hopPtr := if x.pkt.wbDone = 1 then x.pkt.hopPtr else x.pkt.hopPtr - 1, wbDone := 0 } ∧ t = s.dropFlight x ∧ t.flag SRG_BC_CFG_enable = true ∧ t.ser.bcast.find? (·.hasKey p) = some e ∧ e.isOpen = false ∧ u = t.cnt SRG_BC_DUP_count ∧ u.bcTargeted p = true ∧ u.bcKids p x.arr = (kids, bad) ∧ u.bcCopies p x.pipe kids bad = (dead, c) ∧ e' = { e with pkt := p, pipe := x.pipe, isOpen := true, parents := [x.arr], kids := kids, answered := 0, dead := dead, lastAt := u.cyc }) ∧
    (∃ (s : State) (t : State) (x : Flight) (p : Pkt), s.alive = true ∧ s.headLocal .bcast = some x ∧ p = { x.pkt with hopPtr := if x.pkt.wbDone = 1 then x.pkt.hopPtr else x.pkt.hopPtr - 1, wbDone := 0 } ∧ t = s.dropFlight x ∧ t.flag SRG_BC_CFG_enable = true ∧ t.ser.bcast.find? (·.hasKey p) = none ∧ t.bcRoom = none) ∧
    (∃ (s : State) (t : State) (x : Flight) (p : Pkt) (v : State) (v' : State) (c : State) (d : State) (kids : Nat) (dead : Nat) (bad : Bool) (e : BcEnt), s.alive = true ∧ s.headLocal .bcast = some x ∧ p = { x.pkt with hopPtr := if x.pkt.wbDone = 1 then x.pkt.hopPtr else x.pkt.hopPtr - 1, wbDone := 0 } ∧ t = s.dropFlight x ∧ t.flag SRG_BC_CFG_enable = true ∧ t.ser.bcast.find? (·.hasKey p) = none ∧ t.bcRoom = some v ∧ v.bcKids p x.arr = (kids, bad) ∧ v' = (if bad then v.cnt SRG_BC_DROP_count else v) ∧ (v'.cnt SRG_BC_RX_count).bcCopies p x.pipe kids bad = (dead, c) ∧ d = c.bcLocal p x.pipe ∧ e = { pkt := p, pipe := x.pipe, isOpen := true, parents := [x.arr], kids := kids, dead := dead, lastAt := d.cyc }) ∧
    (∃ (s : State), s.alive = true ∧ s.headLocal .bcast = none) ∧
    (∃ (s : State), s.alive = true) :=
  ⟨⟨bcUp [(SRG_BC_CFG_enable, [0])] [], _, _, _, by decide +kernel, pick (by decide +kernel), rfl, rfl, by decide +kernel⟩,
   ⟨bcUp [] [{ pkt := {}, pipe := 0, isOpen := true, parents := [], kids := 0 }], _, _, _, _, by decide +kernel, pick (by decide +kernel), rfl, rfl, by decide +kernel, pick (by decide +kernel), by decide +kernel⟩,
   ⟨bcUp [] [{ pkt := {}, pipe := 0, isOpen := false, parents := [], kids := 0 }], _, _, _, _, by decide +kernel, pick (by decide +kernel), rfl, rfl, by decide +kernel, pick (by decide +kernel), by decide +kernel, by decide +kernel⟩,
   ⟨{ bcUp [] [{ pkt := {}, pipe := 0, isOpen := false, parents := [], kids := 0 }] with flights := [{ atCore { kind := 4, tc := 1, bcTarget := 1 } with dest := .bcast }] }, _, _, _, { pkt := {}, pipe := 0, isOpen := false, parents := [], kids := 0 }, _, _, _, _, _, _, by decide +kernel, pick (by decide +kernel), rfl, rfl, by decide +kernel, by decide +kernel, by decide +kernel, rfl, by decide +kernel, both _, both _, rfl⟩,
   ⟨bcUp [] ((List.range 256).map fun i => { pkt := { ctx := i + 1 }, pipe := 0, isOpen := true, parents := [], kids := 0 }), _, _, _, by decide +kernel, pick (by decide +kernel), rfl, rfl, by decide +kernel, by decide +kernel, by decide +kernel⟩,
   ⟨bcUp [] [], _, _, _, _, _, _, _, _, _, _, _, by decide +kernel, pick (by decide +kernel), rfl, rfl, by decide +kernel, by decide +kernel, pick (by decide +kernel), both _, rfl, both _, rfl, rfl⟩,
   ⟨up [], by decide +kernel, by decide +kernel⟩,
   ⟨up [], by decide +kernel⟩⟩

/-- Each clause of RingsHeatersAndCombs that has hypotheses: a state and operands that meet them. -/
theorem witness_RingsHeatersAndCombs :
    (∃ (s : State) (e : Nat) (r : Nat) (x : Ring), s.alive = true ∧ e < 8 ∧ r < 272 ∧ x = s.ring e r ∧ x.lock ≠ 1 ∧ x.lock ≠ 2) ∧
    (∃ (s : State) (e : Nat) (r : Nat) (x : Ring), s.alive = true ∧ e < 8 ∧ r < 272 ∧ x = s.ring e r ∧ ((x.lock = 1 ∨ x.lock = 2))) ∧
    (∃ (s : State) (e : Nat) (r : Nat) (x : Ring), s.alive = true ∧ e < 8 ∧ r < 272 ∧ x = s.ring e r ∧ s.ringLane e r = none) ∧
    (∃ (s : State) (e : Nat) (r : Nat) (x : Ring) (l : _), s.alive = true ∧ e < 8 ∧ r < 272 ∧ x = s.ring e r ∧ s.ringLane e r = some l) ∧
    (∃ (s : State) (e : Nat) (r : Nat) (x : Ring), s.alive = true ∧ e < 8 ∧ r < 272 ∧ x = s.ring e r ∧ x.lock ≠ 1) ∧
    (∃ (s : State) (e : Nat) (r : Nat) (x : Ring) (offset : _) (order : _) (up : _) (down : _) (y : Ring) (u : State) (v : State), s.alive = true ∧ e < 8 ∧ r < 272 ∧ x = s.ring e r ∧ x.lock = 1 ∧ offset < 65536 ∧ order < 4 ∧ up < 256 ∧ down < 256 ∧ y = { x with offset := offset, order := order, up := up, down := down, lock := if (s.ringLane e r).isSome && !s.bypassed (8 * e + r / 34) then 0 else 3, out := false, sweep := false, up0 := up, down0 := down, temp0 := s.ringTemp e r } ∧ u = (s.setRing e r y).monStart e (· = 85 + r) ∧ v = (if x.sweep then (if u.flag OPX_CMD_STAT_busy e && u.rd OPX_RING_KEY_ring e = r && (u.opt.avg.get? e).isNone then u.opxDone e 0 else u) else if x.out then ((u.cnt OPX_RELOCK_count e).opxIrq e 9).cnt OPX_HEADROOM_EXC_count e else (u.cnt OPX_RELOCK_count e).opxIrq e 9)) ∧
    (∃ (s : State) (e : Nat) (r : Nat) (x : Ring) (now : List Nat) (turn : Bool), s.alive = true ∧ e < 8 ∧ r < 272 ∧ x = s.ring e r ∧ now = (if (s.opt.swept.getD [] e).contains r then s.opt.swept.getD [] e else r :: s.opt.swept.getD [] e) ∧ turn = (s.flag OPX_CTRL_recal_en e && decide ((if s.rd OPX_RECAL_period_s e = 0 then 60 else s.rd OPX_RECAL_period_s e) * 2000000000 ≤ 272 * (s.cyc - s.opt.sweepAt.getD 0 e)) && !(s.opt.swept.getD [] e).contains r) ∧ x.lock ≠ 1 ∧ s.sweeping e = false ∧ s.engineHeld e = false ∧ turn = true) ∧
    (∃ (s : State) (e : Nat) (r : Nat) (x : Ring) (now : List Nat) (turn : Bool), s.alive = true ∧ e < 8 ∧ r < 272 ∧ x = s.ring e r ∧ now = (if (s.opt.swept.getD [] e).contains r then s.opt.swept.getD [] e else r :: s.opt.swept.getD [] e) ∧ turn = (s.flag OPX_CTRL_recal_en e && decide ((if s.rd OPX_RECAL_period_s e = 0 then 60 else s.rd OPX_RECAL_period_s e) * 2000000000 ≤ 272 * (s.cyc - s.opt.sweepAt.getD 0 e)) && !(s.opt.swept.getD [] e).contains r) ∧ x.lock ≠ 1 ∧ s.sweeping e = false ∧ s.engineHeld e = false ∧ turn = false ∧ min x.up x.down < s.rd OPX_RECAL_early_c e) ∧
    (∃ (s : State) (e : Nat) (r : Nat) (x : Ring) (now : List Nat) (turn : Bool), s.alive = true ∧ e < 8 ∧ r < 272 ∧ x = s.ring e r ∧ now = (if (s.opt.swept.getD [] e).contains r then s.opt.swept.getD [] e else r :: s.opt.swept.getD [] e) ∧ turn = (s.flag OPX_CTRL_recal_en e && decide ((if s.rd OPX_RECAL_period_s e = 0 then 60 else s.rd OPX_RECAL_period_s e) * 2000000000 ≤ 272 * (s.cyc - s.opt.sweepAt.getD 0 e)) && !(s.opt.swept.getD [] e).contains r) ∧ turn = false ∧ s.rd OPX_RECAL_early_c e ≤ min x.up x.down) ∧
    (∃ (s : State) (e : Nat) (r : Nat) (x : Ring), s.alive = true ∧ e < 8 ∧ r < 272 ∧ x = s.ring e r ∧ ((x.lock = 1 ∨ s.sweeping e = true ∨ s.engineHeld e = true))) ∧
    (∃ (s : State) (e : Nat) (r : Nat) (x : Ring) (u : _), s.alive = true ∧ e < 8 ∧ r < 272 ∧ x = s.ring e r ∧ s.served (0x30 + e) 0x128 ∧ u = s.event (0x30 + e) 4 ∧ u.flag OPX_CMD_STAT_busy e = true) ∧
    (∃ (s : State) (e : Nat) (r : Nat) (x : Ring) (u : _), s.alive = true ∧ e < 8 ∧ r < 272 ∧ x = s.ring e r ∧ s.served (0x30 + e) 0x128 ∧ u = s.event (0x30 + e) 4 ∧ u.flag OPX_CMD_STAT_busy e = false ∧ 272 ≤ u.rd OPX_RING_KEY_ring e) ∧
    (∃ (s : State) (e : Nat) (r : Nat) (x : Ring) (u : _), s.alive = true ∧ e < 8 ∧ r < 272 ∧ x = s.ring e r ∧ s.served (0x30 + e) 0x128 ∧ u = s.event (0x30 + e) 4 ∧ u.flag OPX_CMD_STAT_busy e = false ∧ u.rd OPX_RING_KEY_ring e < 272 ∧ (u.ring e (u.rd OPX_RING_KEY_ring e)).lock = 1) ∧
    (∃ (s : State) (e : Nat) (r : Nat) (x : Ring) (u : _), s.alive = true ∧ e < 8 ∧ r < 272 ∧ x = s.ring e r ∧ s.served (0x30 + e) 0x128 ∧ u = s.event (0x30 + e) 4 ∧ u.flag OPX_CMD_STAT_busy e = false ∧ u.rd OPX_RING_KEY_ring e < 272 ∧ (u.ring e (u.rd OPX_RING_KEY_ring e)).lock ≠ 1) ∧
    (∃ (s : State) (e : Nat) (r : Nat) (x : Ring) (c : _), s.alive = true ∧ e < 8 ∧ r < 272 ∧ x = s.ring e r ∧ s.opt.heatAt.get? e = some c ∧ s.cyc < c + usCyc 10) ∧
    (∃ (s : State) (e : Nat) (r : Nat) (x : Ring) (temps : List Nat) (u : State) (v : State), s.alive = true ∧ e < 8 ∧ r < 272 ∧ x = s.ring e r ∧ ((∀ c, s.opt.heatAt.get? e = some c → c + usCyc 10 ≤ s.cyc)) ∧ u = { s with opt := { s.opt with heatAt := s.opt.heatAt.put e s.cyc } } ∧ v = (((u.wr OPX_TEMP_t0 (temps.getD 0 0 % 65536) e).wr OPX_TEMP_t1 (temps.getD 1 0 % 65536) e).wr OPX_TEMP_t2 (temps.getD 2 0 % 65536) e).wr OPX_TEMP_t3 (temps.getD 3 0 % 65536) e) ∧
    (∃ (s : State) (e : Nat) (c : Nat), e < 8 ∧ c < 5 ∧ s.alive = true ∧ s.flag OPX_COMB_lock e c = true) ∧
    (∃ (s : State) (e : Nat) (c : Nat), e < 8 ∧ c < 5 ∧ s.alive = true ∧ s.flag OPX_COMB_lock e c = false) ∧
    (∃ (s : State) (e : Nat) (c : Nat), e < 8 ∧ c < 5 ∧ s.alive = true ∧ s.flag OPX_COMB_lock e c = false ∧ s.flag OPX_COMB_off e c = false ∧ ((s.rd PAGE_PWR_state (0x30 + e) ≠ 3 ∨ s.pwr.wakeE.contains e = true))) ∧
    (∃ (s : State) (e : Nat) (c : Nat), e < 8 ∧ c < 5 ∧ s.alive = true ∧ ((s.flag OPX_COMB_lock e c = true ∨ s.flag OPX_COMB_off e c = true))) ∧
    (∃ (s : State) (e : Nat) (c : Nat), e < 8 ∧ c < 5 ∧ s.alive = true ∧ s.opt.relock.get? (e * 8 + c) = none) ∧
    (∃ (s : State) (e : Nat) (c : Nat) (t : _), e < 8 ∧ c < 5 ∧ s.alive = true ∧ s.opt.relock.get? (e * 8 + c) = some t ∧ s.cyc < t) ∧
    (∃ (s : State) (e : Nat) (c : Nat) (t : _) (u : State), e < 8 ∧ c < 5 ∧ s.alive = true ∧ s.opt.relock.get? (e * 8 + c) = some t ∧ t ≤ s.cyc ∧ u = { s with opt := { s.opt with relock := s.opt.relock.del (e * 8 + c) } } ∧ c < 4 ∧ u.flag OPX_COMB_lock e c = false ∧ u.fibreComb (8 * e + 2 * c) = c) ∧
    (∃ (s : State) (e : Nat) (c : Nat) (t : _) (u : State), e < 8 ∧ c < 5 ∧ s.alive = true ∧ s.opt.relock.get? (e * 8 + c) = some t ∧ t ≤ s.cyc ∧ u = { s with opt := { s.opt with relock := s.opt.relock.del (e * 8 + c) } } ∧ ((4 ≤ c ∨ u.flag OPX_COMB_lock e c = true ∨ u.fibreComb (8 * e + 2 * c) ≠ c))) ∧
    (∃ (s : State) (e : Nat) (c : Nat) (u : State) (w : Wr), e < 8 ∧ c < 5 ∧ s.served (0x30 + e) (0x200 + 8 * c) ∧ u = s.event (0x30 + e) 4 ∧ w.merge 1 1 (u.rd OPX_COMB_off e c) = 1 ∧ u.lights e c = true) ∧
    (∃ (s : State) (e : Nat) (c : Nat) (u : State) (w : Wr), e < 8 ∧ c < 5 ∧ s.served (0x30 + e) (0x200 + 8 * c) ∧ u = s.event (0x30 + e) 4 ∧ w.merge 1 1 (u.rd OPX_COMB_off e c) = 1 ∧ u.lights e c = false) ∧
    (∃ (s : State) (e : Nat) (c : Nat) (u : State) (w : Wr), e < 8 ∧ c < 5 ∧ s.served (0x30 + e) (0x200 + 8 * c) ∧ u = s.event (0x30 + e) 4 ∧ w.merge 1 1 (u.rd OPX_COMB_off e c) ≠ 1) ∧
    (∃ (s : State) (e : Nat) (c : Nat), e < 8 ∧ c < 5 ∧ s.alive = true ∧ ((s.flag OPX_CTRL_fade_en e = false ∨ s.flag OPX_STATUS_no_baseline e = true ∨ s.cyc < s.opt.fadeAt.getD 0 e + 2000000))) ∧
    (∃ (s : State) (e : Nat) (c : Nat), e < 8 ∧ c < 5 ∧ s.alive = true ∧ s.flag OPX_CTRL_fade_en e = true ∧ s.flag OPX_STATUS_no_baseline e = false ∧ s.opt.fadeAt.getD 0 e + 2000000 ≤ s.cyc) ∧
    (∃ (s : State) (e : Nat) (c : Nat) (u : State), e < 8 ∧ c < 5 ∧ s.served (0x30 + e) 0x128 ∧ u = s.event (0x30 + e) 4 ∧ u.flag OPX_CMD_STAT_busy e = true) ∧
    (∃ (s : State) (e : Nat) (c : Nat) (u : State), e < 8 ∧ c < 5 ∧ s.served (0x30 + e) 0x128 ∧ u = s.event (0x30 + e) 4 ∧ u.flag OPX_CMD_STAT_busy e = false) ∧
    (∃ (s : State) (e : Nat) (c : Nat) (due : Nat) (powers : List Nat) (ok : Bool) (u : State), e < 8 ∧ c < 5 ∧ (s.opt.avg.filter fun x => decide (x.2.1 ≤ s.cyc)) = [(e, due, powers, ok)] ∧ u = { s with opt := { s.opt with avg := s.opt.avg.del e } } ∧ ok = false) ∧
    (∃ (s : State) (e : Nat) (c : Nat) (due : Nat) (powers : List Nat) (ok : Bool) (u : State), e < 8 ∧ c < 5 ∧ (s.opt.avg.filter fun x => decide (x.2.1 ≤ s.cyc)) = [(e, due, powers, ok)] ∧ u = { s with opt := { s.opt with avg := s.opt.avg.del e } } ∧ ok = true) ∧
    (∃ (s : State) (e : Nat) (c : Nat) (tap : Nat) (int : Nat) (u : State), e < 8 ∧ c < 5 ∧ s.served (0x30 + e) 0x170 ∧ u = s.event (0x30 + e) 4 ∧ int < 4 ∧ tap ≤ 356) ∧
    (∃ (s : State) (e : Nat) (c : Nat) (tap : Nat) (int : Nat) (u : State), e < 8 ∧ c < 5 ∧ s.served (0x30 + e) 0x170 ∧ u = s.event (0x30 + e) 4 ∧ int < 4 ∧ 356 < tap ∧ tap < 512) ∧
    (∃ (s : State) (e : Nat) (c : Nat) (tap : _) (n : _), e < 8 ∧ c < 5 ∧ s.alive = true ∧ s.opt.mon.get? e = some (tap, n, none)) ∧
    (∃ (s : State) (e : Nat) (c : Nat) (tap : _) (n : _) (t : _), e < 8 ∧ c < 5 ∧ s.alive = true ∧ s.opt.mon.get? e = some (tap, n, some t) ∧ s.cyc < t + n) ∧
    (∃ (s : State) (e : Nat) (c : Nat) (tap : _) (n : _) (t : _), e < 8 ∧ c < 5 ∧ s.alive = true ∧ s.opt.mon.get? e = some (tap, n, some t) ∧ t + n ≤ s.cyc) :=
  ⟨⟨up [], 7, 271, _, by decide +kernel, by decide +kernel, by decide +kernel, rfl, by decide +kernel, by decide +kernel⟩,
   ⟨{ up [] with opt := { rings := [(7 * 272 + 271, { lock := 1 })] } }, 7, 271, _, by decide +kernel, by decide +kernel, by decide +kernel, rfl, .inl (by decide +kernel)⟩,
   ⟨up [], 7, 271, _, by decide +kernel, by decide +kernel, by decide +kernel, rfl, by decide +kernel⟩,
   ⟨up [], 7, 270, _, _, by decide +kernel, by decide +kernel, by decide +kernel, rfl, pick (by decide +kernel)⟩,
   ⟨up [], 7, 271, _, by decide +kernel, by decide +kernel, by decide +kernel, rfl, by decide +kernel⟩,
   ⟨{ up [] with opt := { rings := [(7 * 272 + 271, { lock := 1 })] } }, 7, 271, _, 65535, 3, 255, 255, _, _, _, by decide +kernel, by decide +kernel, by decide +kernel, rfl, by decide +kernel, by decide +kernel, by decide +kernel, by decide +kernel, by decide +kernel, rfl, rfl, rfl⟩,
   ⟨up [(OPX_CTRL_recal_en, [1, 7])], 7, 271, _, _, _, by decide +kernel, by decide +kernel, by decide +kernel, rfl, rfl, rfl, by decide +kernel, by decide +kernel, by decide +kernel, by decide +kernel⟩,
   ⟨{ up [(OPX_CTRL_recal_en, [0, 7]), (OPX_RECAL_early_c, [1, 7])] with opt := { rings := [(7 * 272 + 271, {})] } }, 7, 271, _, _, _, by decide +kernel, by decide +kernel, by decide +kernel, rfl, rfl, rfl, by decide +kernel, by decide +kernel, by decide +kernel, by decide +kernel, by decide +kernel⟩,
   ⟨up [(OPX_CTRL_recal_en, [0, 7]), (OPX_RECAL_early_c, [0, 7])], 7, 271, _, _, _, by decide +kernel, by decide +kernel, by decide +kernel, rfl, rfl, rfl, by decide +kernel, by decide +kernel⟩,
   ⟨{ up [] with opt := { rings := [(7 * 272 + 271, { lock := 1 })] } }, 7, 271, _, by decide +kernel, by decide +kernel, by decide +kernel, rfl, .inl (by decide +kernel)⟩,
   ⟨up [ck 55, (OPX_CMD_STAT_busy, [1, 7])], 7, 271, _, _, by decide +kernel, by decide +kernel, by decide +kernel, rfl, ⟨rfl, rfl, rfl, rfl⟩, rfl, by decide +kernel⟩,
   ⟨up [ck 55, (OPX_RING_KEY_ring, [272, 7])], 7, 271, _, _, by decide +kernel, by decide +kernel, by decide +kernel, rfl, ⟨rfl, rfl, rfl, rfl⟩, rfl, by decide +kernel, by decide +kernel⟩,
   ⟨{ up [ck 55, (OPX_RING_KEY_ring, [271, 7])] with opt := { rings := [(7 * 272 + 271, { lock := 1 })] } }, 7, 271, _, _, by decide +kernel, by decide +kernel, by decide +kernel, rfl, ⟨rfl, rfl, rfl, rfl⟩, rfl, by decide +kernel, by decide +kernel, by decide +kernel⟩,
   ⟨up [ck 55, (OPX_RING_KEY_ring, [271, 7])], 7, 271, _, _, by decide +kernel, by decide +kernel, by decide +kernel, rfl, ⟨rfl, rfl, rfl, rfl⟩, rfl, by decide +kernel, by decide +kernel, by decide +kernel⟩,
   ⟨{ up [] with opt := { heatAt := [(7, 10 ^ 13 - 19999)] } }, 7, 271, _, _, by decide +kernel, by decide +kernel, by decide +kernel, rfl, pick (by decide +kernel), by decide +kernel⟩,
   ⟨{ up [] with opt := { heatAt := [(7, 10 ^ 13 - 20000)] } }, 7, 271, _, [65535], _, _, by decide +kernel, by decide +kernel, by decide +kernel, rfl, fun c h => (by cases h; decide +kernel), rfl, rfl⟩,
   ⟨up [(OPX_COMB_lock, [1, 7, 4])], 7, 4, by decide +kernel, by decide +kernel, by decide +kernel, by decide +kernel⟩,
   ⟨up [(OPX_COMB_lock, [0, 7, 4])], 7, 4, by decide +kernel, by decide +kernel, by decide +kernel, by decide +kernel⟩,
   ⟨up [(OPX_COMB_lock, [0, 7, 4]), (OPX_COMB_off, [0, 7, 4]), (PAGE_PWR_state, [1, 55])], 7, 4, by decide +kernel, by decide +kernel, by decide +kernel, by decide +kernel, by decide +kernel, .inl (by decide +kernel)⟩,
   ⟨up [(OPX_COMB_lock, [1, 7, 4])], 7, 4, by decide +kernel, by decide +kernel, by decide +kernel, .inl (by decide +kernel)⟩,
   ⟨up [], 7, 4, by decide +kernel, by decide +kernel, by decide +kernel, by decide +kernel⟩,
   ⟨{ up [] with opt := { relock := [(60, 10 ^ 13 + 1)] } }, 7, 4, _, by decide +kernel, by decide +kernel, by decide +kernel, pick (by decide +kernel), by decide +kernel⟩,
   ⟨{ up [(OPX_COMB_lock, [0, 7, 3]), (OPX_FIBRE_comb, [3, 7, 6])] with opt := { relock := [(59, 10 ^ 13)] } }, 7, 3, _, _, by decide +kernel, by decide +kernel, by decide +kernel, pick (by decide +kernel), by decide +kernel, rfl, by decide +kernel, by decide +kernel, by decide +kernel⟩,
   ⟨{ up [] with opt := { relock := [(60, 10 ^ 13)] } }, 7, 4, _, _, by decide +kernel, by decide +kernel, by decide +kernel, pick (by decide +kernel), by decide +kernel, rfl, .inl (by decide +kernel)⟩,
   ⟨up [ck 55, (OPX_FIBRE_comb, [3, 7, 6])], 7, 3, _, { v := 2 }, by decide +kernel, by decide +kernel, ⟨rfl, rfl, rfl, rfl⟩, rfl, by decide +kernel, by decide +kernel⟩,
   ⟨up [ck 55], 7, 4, _, { v := 2 }, by decide +kernel, by decide +kernel, ⟨rfl, rfl, rfl, rfl⟩, rfl, by decide +kernel, by decide +kernel⟩,
   ⟨up [ck 55], 7, 4, _, { v := 0 }, by decide +kernel, by decide +kernel, ⟨rfl, rfl, rfl, rfl⟩, rfl, by decide +kernel⟩,
   ⟨up [(OPX_CTRL_fade_en, [0, 7])], 7, 4, by decide +kernel, by decide +kernel, by decide +kernel, .inl (by decide +kernel)⟩,
   ⟨up [(OPX_CTRL_fade_en, [1, 7]), (OPX_STATUS_no_baseline, [0, 7])], 7, 4, by decide +kernel, by decide +kernel, by decide +kernel, by decide +kernel, by decide +kernel, by decide +kernel⟩,
   ⟨up [ck 55, (OPX_CMD_STAT_busy, [1, 7])], 7, 4, _, by decide +kernel, by decide +kernel, ⟨rfl, rfl, rfl, rfl⟩, rfl, by decide +kernel⟩,
   ⟨up [ck 55], 7, 4, _, by decide +kernel, by decide +kernel, ⟨rfl, rfl, rfl, rfl⟩, rfl, by decide +kernel⟩,
   ⟨{ up [] with opt := { avg := [(7, (5, [], false))] } }, 7, 4, 5, [], false, _, by decide +kernel, by decide +kernel, by decide +kernel, rfl, by decide +kernel⟩,
   ⟨{ up [] with opt := { avg := [(7, (5, [], true))] } }, 7, 4, 5, [], true, _, by decide +kernel, by decide +kernel, by decide +kernel, rfl, by decide +kernel⟩,
   ⟨up [ck 55], 7, 4, 356, 3, _, by decide +kernel, by decide +kernel, ⟨rfl, rfl, rfl, rfl⟩, rfl, by decide +kernel, by decide +kernel⟩,
   ⟨up [ck 55], 7, 4, 357, 3, _, by decide +kernel, by decide +kernel, ⟨rfl, rfl, rfl, rfl⟩, rfl, by decide +kernel, by decide +kernel, by decide +kernel⟩,
   ⟨{ up [] with opt := { mon := [(7, (5, 100, none))] } }, 7, 4, 5, 100, by decide +kernel, by decide +kernel, by decide +kernel, by decide +kernel⟩,
   ⟨{ up [] with opt := { mon := [(7, (5, 100, some (10 ^ 13 - 99)))] } }, 7, 4, 5, 100, 10 ^ 13 - 99, by decide +kernel, by decide +kernel, by decide +kernel, by decide +kernel, by decide +kernel⟩,
   ⟨{ up [] with opt := { mon := [(7, (5, 100, some (10 ^ 13 - 100)))] } }, 7, 4, 5, 100, 10 ^ 13 - 100, by decide +kernel, by decide +kernel, by decide +kernel, by decide +kernel, by decide +kernel⟩⟩

/-- Each clause of ChangesOfLight that has hypotheses: a state and operands that meet them. -/
theorem witness_ChangesOfLight :
    (∃ (s : State) (e : Nat) (f : Nat) (u : State), e < 8 ∧ f < 64 ∧ s.served (0x30 + e) 0x158 ∧ u = s.event (0x30 + e) 4 ∧ u.chgRefusal (u.chgAsked e) = 0) ∧
    (∃ (s : State) (e : Nat) (f : Nat) (u : State) (r : _), e < 8 ∧ f < 64 ∧ s.served (0x30 + e) 0x158 ∧ u = s.event (0x30 + e) 4 ∧ u.chgRefusal (u.chgAsked e) = r ∧ r ≠ 0) ∧
    (∃ (s : State) (e : Nat) (f : Nat) (u : State) (o : _), e < 8 ∧ f < 64 ∧ s.served (0x30 + e) 0x158 ∧ u = s.event (0x30 + e) 4 ∧ u.opt.chgs.find? (fun x => x.eng = e && x.kind = (u.chgAsked e).kind && !x.begun && (if (u.chgAsked e).kind = 0 then x.pair = (u.chgAsked e).pair && x.to_ = (u.chgAsked e).to_ else x.fibre = (u.chgAsked e).fibre && x.line = (u.chgAsked e).line)) = o ∧ o = none) ∧
    (∃ (s : State) (e : Nat) (f : Nat) (u : State) (o : _) (c : _), e < 8 ∧ f < 64 ∧ s.served (0x30 + e) 0x158 ∧ u = s.event (0x30 + e) 4 ∧ u.opt.chgs.find? (fun x => x.eng = e && x.kind = (u.chgAsked e).kind && !x.begun && (if (u.chgAsked e).kind = 0 then x.pair = (u.chgAsked e).pair && x.to_ = (u.chgAsked e).to_ else x.fibre = (u.chgAsked e).fibre && x.line = (u.chgAsked e).line)) = o ∧ o = some c) ∧
    (∃ (s : State) (e : Nat) (f : Nat) (k : _) (c : _), e < 8 ∧ f < 64 ∧ s.opt.chgs.find? (fun x => x.kind = 0 && x.eng = e && x.to_ = k && !x.begun && s.onTime x) = some c ∧ ((c.to_ ≠ 4 ∨ s.flag OPX_COMB_fit e 4 = true))) ∧
    (∃ (s : State) (e : Nat) (f : Nat) (k : _) (c : _), e < 8 ∧ f < 64 ∧ s.opt.chgs.find? (fun x => x.kind = 0 && x.eng = e && x.to_ = k && !x.begun && s.onTime x) = some c ∧ c.to_ = 4 ∧ s.flag OPX_COMB_fit e 4 = false) ∧
    (∃ (s : State) (e : Nat) (f : Nat) (k : _), e < 8 ∧ f < 64 ∧ s.opt.chgs.find? (fun x => x.kind = 0 && x.eng = e && x.to_ = k && !x.begun && s.onTime x) = none) ∧
    (∃ (s : State) (e : Nat) (f : Nat) (line : _), e < 8 ∧ f < 64 ∧ s.opt.chgs.find? (fun x => x.kind = 1 && x.fibre = f && x.line = line && !x.begun && s.onTime x) = none) ∧
    (∃ (s : State) (e : Nat) (f : Nat) (line : _) (c : _), e < 8 ∧ f < 64 ∧ s.opt.chgs.find? (fun x => x.kind = 1 && x.fibre = f && x.line = line && !x.begun && s.onTime x) = some c ∧ ((s.bypassed f = true ∨ c.sent.getD 0 f ≠ 0))) ∧
    (∃ (s : State) (e : Nat) (f : Nat) (line : _) (c : _), e < 8 ∧ f < 64 ∧ s.opt.chgs.find? (fun x => x.kind = 1 && x.fibre = f && x.line = line && !x.begun && s.onTime x) = some c ∧ s.bypassed f = false ∧ c.sent.getD 0 f = 0) ∧
    (∃ (s : State) (e : Nat) (f : Nat) (k : _), e < 8 ∧ f < 64 ∧ s.alive = true ∧ k < 32) ∧
    (∃ (s : State) (e : Nat) (f : Nat) (c : _) (u : State), e < 8 ∧ f < 64 ∧ (s.opt.chgs.filter fun c => c.eng = e && decide (c.c + holdLen ≤ s.fclk)) = [c] ∧ u = (s.chgDone c).chgGone c) ∧
    (∃ (s : State) (e : Nat) (f : Nat) (id : _) (sec : _) (ns : _) (c : _), e < 8 ∧ f < 64 ∧ s.alive = true ∧ id < 65536 ∧ c = clkOf sec (ns / 2) (ns % 2) ∧ s.bypassed f = true) ∧
    (∃ (s : State) (e : Nat) (f : Nat) (id : _) (sec : _) (ns : _) (c : _), e < 8 ∧ f < 64 ∧ s.alive = true ∧ id < 65536 ∧ c = clkOf sec (ns / 2) (ns % 2) ∧ s.bypassed f = false ∧ c < s.fclk + s.mldClk f + 8 * NS) ∧
    (∃ (s : State) (e : Nat) (f : Nat) (id : _) (sec : _) (ns : _) (c : _), e < 8 ∧ f < 64 ∧ s.alive = true ∧ id < 65536 ∧ c = clkOf sec (ns / 2) (ns % 2) ∧ s.bypassed f = false ∧ s.fclk + s.mldClk f + 8 * NS ≤ c) ∧
    (∃ (s : State) (e : Nat) (f : Nat) (id : _) (sec : _) (ns : _) (c : _), e < 8 ∧ f < 64 ∧ s.alive = true ∧ id < 65536 ∧ c = clkOf sec (ns / 2) (ns % 2) ∧ s.bypassed f = true) ∧
    (∃ (s : State) (e : Nat) (f : Nat) (id : _) (sec : _) (ns : _) (c : _), e < 8 ∧ f < 64 ∧ s.alive = true ∧ id < 65536 ∧ c = clkOf sec (ns / 2) (ns % 2) ∧ s.bypassed f = false ∧ c < s.fclk + s.mldClk f + 8 * NS) ∧
    (∃ (s : State) (e : Nat) (f : Nat) (id : _) (sec : _) (ns : _) (c : _), e < 8 ∧ f < 64 ∧ s.alive = true ∧ id < 65536 ∧ c = clkOf sec (ns / 2) (ns % 2) ∧ s.bypassed f = false ∧ s.fclk + s.mldClk f + 8 * NS ≤ c) ∧
    (∃ (s : State) (e : Nat) (f : Nat), e < 8 ∧ f < 64 ∧ s.alive = true) ∧
    (∃ (s : State) (e : Nat) (f : Nat) (u : State), e < 8 ∧ f < 64 ∧ s.alive = true ∧ u = s.setFib f { s.fib f with rxHold := (s.fib f).rxHold.filter fun h => s.fclk < h.until_ }) ∧
    (∃ (s : State) (e : Nat) (f : Nat), e < 8 ∧ f < 64 ∧ s.alive = true ∧ (s.fib f).rxHold.find? (fun h => h.line.isSome && !h.moved && h.from_ + 136 * NS ≤ s.fclk) = none) ∧
    (∃ (s : State) (e : Nat) (f : Nat) (h : _) (m : _) (a : Nat) (b : Nat) (o : Option Nat), e < 8 ∧ f < 64 ∧ s.alive = true ∧ (s.fib f).rxHold.find? (fun h => h.line.isSome && !h.moved && h.from_ + 136 * NS ≤ s.fclk) = some h ∧ h.line = some m ∧ ((((s.fib f).rxSpare = some m ∧ a = 16 ∧ b = m ∧ o = none) ∨ ((s.fib f).rxSpare ≠ some m ∧ a = m ∧ b = 16 ∧ o = some m)))) :=
  ⟨⟨up [ck 55, (OPX_CHG_SEC_sec, [7200, 7]), (OPX_CHG_NS_ns, [150000, 7]), (OPX_CHG_CFG_kind, [1, 7]), (OPX_CHG_CFG_fibre, [7, 7]), (OPX_CHG_CFG_line, [15, 7])], 7, 63, _, by decide +kernel, by decide +kernel, ⟨rfl, rfl, rfl, rfl⟩, rfl, by decide +kernel⟩,
   ⟨up [ck 55, (OPX_CHG_SEC_sec, [7200, 7]), (OPX_CHG_NS_ns, [149999, 7])], 7, 63, _, _, by decide +kernel, by decide +kernel, ⟨rfl, rfl, rfl, rfl⟩, rfl, rfl, by decide +kernel⟩,
   ⟨up [ck 55], 7, 63, _, none, by decide +kernel, by decide +kernel, ⟨rfl, rfl, rfl, rfl⟩, rfl, by decide +kernel, rfl⟩,
   ⟨{ up [ck 55, (OPX_CHG_CFG_kind, [1, 7]), (OPX_CHG_CFG_fibre, [7, 7]), (OPX_CHG_CFG_line, [15, 7])] with opt := { chgs := [{ kind := 1, eng := 7, fibre := 63, line := 15, c := 7201 * 10 ^ 9 * NS, id := 1 }] } }, 7, 63, _, some { kind := 1, eng := 7, fibre := 63, line := 15, c := 7201 * 10 ^ 9 * NS, id := 1 }, { kind := 1, eng := 7, fibre := 63, line := 15, c := 7201 * 10 ^ 9 * NS, id := 1 }, by decide +kernel, by decide +kernel, ⟨rfl, rfl, rfl, rfl⟩, rfl, by decide +kernel, by decide +kernel⟩,
   ⟨{ up [(OPX_COMB_fit, [1, 7, 4])] with opt := { chgs := [{ kind := 0, eng := 7, to_ := 4, c := 7200 * 10 ^ 9 * NS, id := 1 }] } }, 7, 63, 4, _, by decide +kernel, by decide +kernel, pick (by decide +kernel), .inr (by decide +kernel)⟩,
   ⟨{ up [(OPX_COMB_fit, [0, 7, 4])] with opt := { chgs := [{ kind := 0, eng := 7, to_ := 4, c := 7200 * 10 ^ 9 * NS, id := 1 }] } }, 7, 63, 4, _, by decide +kernel, by decide +kernel, pick (by decide +kernel), by decide +kernel, by decide +kernel⟩,
   ⟨up [], 7, 63, 4, by decide +kernel, by decide +kernel, by decide +kernel⟩,
   ⟨up [], 7, 63, 15, by decide +kernel, by decide +kernel, by decide +kernel⟩,
   ⟨{ up [] with opt := { chgs := [{ kind := 1, eng := 7, fibre := 63, line := 15, c := 7200 * 10 ^ 9 * NS, id := 1, sent := [(63, 1)] }] } }, 7, 63, 15, _, by decide +kernel, by decide +kernel, pick (by decide +kernel), .inr (by decide +kernel)⟩,
   ⟨{ up [] with opt := { chgs := [{ kind := 1, eng := 7, fibre := 63, line := 15, c := 7200 * 10 ^ 9 * NS, id := 1 }] } }, 7, 63, 15, _, by decide +kernel, by decide +kernel, pick (by decide +kernel), by decide +kernel, by decide +kernel⟩,
   ⟨up [], 7, 63, 31, by decide +kernel, by decide +kernel, by decide +kernel, by decide +kernel⟩,
   ⟨{ up [] with opt := { chgs := [{ kind := 1, eng := 7, fibre := 63, line := 15, c := 7199 * 10 ^ 9 * NS, id := 1, sent := [(63, 1)] }] } }, 7, 63, { kind := 1, eng := 7, fibre := 63, line := 15, c := 7199 * 10 ^ 9 * NS, id := 1, sent := [(63, 1)] }, _, by decide +kernel, by decide +kernel, by decide +kernel, rfl⟩,
   ⟨byFib, 7, 63, 65535, 7200, 0, _, by decide +kernel, by decide +kernel, by decide +kernel, by decide +kernel, rfl, by decide +kernel⟩,
   ⟨up [], 7, 63, 65535, 7200, 0, _, by decide +kernel, by decide +kernel, by decide +kernel, by decide +kernel, rfl, by decide +kernel, by decide +kernel⟩,
   ⟨up [], 7, 63, 65535, 7201, 0, _, by decide +kernel, by decide +kernel, by decide +kernel, by decide +kernel, rfl, by decide +kernel, by decide +kernel⟩,
   ⟨byFib, 7, 63, 65535, 7201, 0, _, by decide +kernel, by decide +kernel, by decide +kernel, by decide +kernel, rfl, by decide +kernel⟩,
   ⟨up [], 7, 63, 65535, 7200, 0, _, by decide +kernel, by decide +kernel, by decide +kernel, by decide +kernel, rfl, by decide +kernel, by decide +kernel⟩,
   ⟨up [], 7, 63, 65535, 7201, 0, _, by decide +kernel, by decide +kernel, by decide +kernel, by decide +kernel, rfl, by decide +kernel, by decide +kernel⟩,
   ⟨up [], 7, 63, by decide +kernel, by decide +kernel, by decide +kernel⟩,
   ⟨up [], 7, 63, _, by decide +kernel, by decide +kernel, by decide +kernel, rfl⟩,
   ⟨up [], 7, 63, by decide +kernel, by decide +kernel, by decide +kernel, by decide +kernel⟩,
   ⟨{ up [] with link := { fibres := [(63, { rxHold := [{ from_ := 0, until_ := 1, lanes := [], line := some 15 }] })] } }, 7, 63, { from_ := 0, until_ := 1, lanes := [], line := some 15 }, 15, 15, 16, some 15, by decide +kernel, by decide +kernel, by decide +kernel, by decide +kernel, by decide +kernel, .inr ⟨by decide +kernel, rfl, rfl, rfl⟩⟩⟩

/-- Each clause of LanesEnterAndLeaveService that has hypotheses: a state and operands that meet them. -/
theorem witness_LanesEnterAndLeaveService :
    (∃ (s : State) (l : Nat) (f : Nat) (ber : _) (a : State) (u : State) (v : State), l < 1024 ∧ f = l / 16 ∧ s.alive = true ∧ s.lane l = laneTRAIN ∧ (s.laneX l).rings = true ∧ ber ≤ 24000 ∧ a = (s.setBer l ber).setLane l laneREADY ∧ u = a.setLaneX l { a.laneX l with frames := 0, readyAt := a.cyc, markAt := a.cyc } ∧ v = (if !(s.setBer l ber).otherLit l && u.flag TRV_CTRL_enable && u.trv f ≠ 7 then (u.setFib f { u.fib f with probeAt := none, identAt := none, gone := false }).setTrv f 1 else u)) ∧
    (∃ (s : State) (l : Nat) (f : Nat) (ber : _), l < 1024 ∧ f = l / 16 ∧ s.alive = true ∧ ((s.lane l ≠ laneTRAIN ∨ (s.laneX l).rings = false ∨ 24000 < ber))) ∧
    (∃ (s : State) (l : Nat) (f : Nat), l < 1024 ∧ f = l / 16 ∧ s.alive = true ∧ ((s.lane l ≠ laneREADY ∨ s.trv f ≠ 2 ∨ s.rejoined l = false))) ∧
    (∃ (s : State) (l : Nat) (f : Nat) (p : _), l < 1024 ∧ f = l / 16 ∧ s.alive = true ∧ s.lane l = laneREADY ∧ s.trv f = 2 ∧ s.rejoined l = true ∧ s.lanePort l = some p ∧ s.isBad TB_LANEMAP 0 l 0 16 = true) ∧
    (∃ (s : State) (l : Nat) (f : Nat) (p : _), l < 1024 ∧ f = l / 16 ∧ s.alive = true ∧ s.lane l = laneREADY ∧ s.trv f = 2 ∧ s.rejoined l = true ∧ s.lanePort l = some p ∧ s.isBad TB_LANEMAP 0 l 0 16 = false) ∧
    (∃ (s : State) (l : Nat) (f : Nat) (lx : List (Nat × Nat)) (cause : Nat) (u : State) (ls : List Nat), l < 1024 ∧ f = l / 16 ∧ s.alive = true ∧ (∀ x ∈ lx, x.1 < 1024) ∧ 1 ≤ cause ∧ cause ≤ 4 ∧ u = (if cause = 4 then lx.foldl (fun v x => v.setBer x.1 x.2) s else s) ∧ ls = (lx.filter fun x => !u.laneRxHeld x.1 && u.causeHolds x.1 cause x.2).map (·.1)) ∧
    (∃ (s : State) (l : Nat) (f : Nat) (lx : List (Nat × Nat)) (cause : Nat), l < 1024 ∧ f = l / 16 ∧ s.alive = true ∧ (∀ x ∈ lx, x.1 < 1024) ∧ cause = 8) ∧
    (∃ (s : State) (l : Nat) (f : Nat) (lx : List (Nat × Nat)) (cause : Nat), l < 1024 ∧ f = l / 16 ∧ s.alive = true ∧ (∀ x ∈ lx, x.1 < 1024) ∧ ((cause = 0 ∨ (4 < cause ∧ cause ≠ 8)))) ∧
    (∃ (s : State) (l : Nat) (f : Nat) (u : State) (v : State), l < 1024 ∧ f = l / 16 ∧ s.served (0x38 + l / 128) 0x120 ∧ u = s.event (0x38 + l / 128) 4 ∧ v = u.setLaneX l { u.laneX l with waking := false } ∧ v.laneCarries l = true) ∧
    (∃ (s : State) (l : Nat) (f : Nat) (u : State) (v : State), l < 1024 ∧ f = l / 16 ∧ s.served (0x38 + l / 128) 0x120 ∧ u = s.event (0x38 + l / 128) 4 ∧ v = u.setLaneX l { u.laneX l with waking := false } ∧ v.laneCarries l = false) ∧
    (∃ (s : State) (l : Nat) (f : Nat) (u : State) (v : State), l < 1024 ∧ f = l / 16 ∧ s.served (0x38 + l / 128) 0x120 ∧ u = s.event (0x38 + l / 128) 4 ∧ v = u.setLaneX l { u.laneX l with waking := false } ∧ ((u.lane l = laneFAILED ∨ (u.lane l = laneOFF ∧ u.cause l = 7))) ∧ u.bypassed f = true) ∧
    (∃ (s : State) (l : Nat) (f : Nat) (u : State) (v : State), l < 1024 ∧ f = l / 16 ∧ s.served (0x38 + l / 128) 0x120 ∧ u = s.event (0x38 + l / 128) 4 ∧ v = u.setLaneX l { u.laneX l with waking := false } ∧ ((u.lane l = laneFAILED ∨ (u.lane l = laneOFF ∧ u.cause l = 7))) ∧ u.bypassed f = false ∧ ((u.idleAsked f = true ∨ u.rd PAGE_PWR_req (0x30 + l / 128) = 2))) ∧
    (∃ (s : State) (l : Nat) (f : Nat) (u : State) (v : State), l < 1024 ∧ f = l / 16 ∧ s.served (0x38 + l / 128) 0x120 ∧ u = s.event (0x38 + l / 128) 4 ∧ v = u.setLaneX l { u.laneX l with waking := false } ∧ ((u.lane l = laneFAILED ∨ (u.lane l = laneOFF ∧ u.cause l = 7))) ∧ u.bypassed f = false ∧ u.idleAsked f = false ∧ u.rd PAGE_PWR_req (0x30 + l / 128) ≠ 2) ∧
    (∃ (s : State) (l : Nat) (f : Nat) (u : State) (v : State), l < 1024 ∧ f = l / 16 ∧ s.served (0x38 + l / 128) 0x120 ∧ u = s.event (0x38 + l / 128) 4 ∧ v = u.setLaneX l { u.laneX l with waking := false } ∧ u.lane l = laneTRAIN) ∧
    (∃ (s : State) (l : Nat) (f : Nat) (u : State) (v : State), l < 1024 ∧ f = l / 16 ∧ s.served (0x38 + l / 128) 0x120 ∧ u = s.event (0x38 + l / 128) 4 ∧ v = u.setLaneX l { u.laneX l with waking := false } ∧ ((u.lane l = laneREADY ∨ u.lane l = laneSERVICE))) ∧
    (∃ (s : State) (l : Nat) (f : Nat) (v : _), l < 1024 ∧ f = l / 16 ∧ s.alive = true ∧ v < 2 ∧ s.bypassed f = true) ∧
    (∃ (s : State) (l : Nat) (f : Nat) (v : _), l < 1024 ∧ f = l / 16 ∧ s.alive = true ∧ v < 2 ∧ s.bypassed f = false ∧ s.trv f ≠ 2) ∧
    (∃ (s : State) (l : Nat) (f : Nat) (v : _), l < 1024 ∧ f = l / 16 ∧ s.alive = true ∧ v < 2 ∧ s.bypassed f = false ∧ s.trv f = 2 ∧ s.noticeOk f = true ∧ v = 0) ∧
    (∃ (s : State) (l : Nat) (f : Nat) (v : _), l < 1024 ∧ f = l / 16 ∧ s.alive = true ∧ v < 2 ∧ s.bypassed f = false ∧ s.trv f = 2 ∧ s.noticeOk f = true ∧ v = 1) ∧
    (∃ (s : State) (l : Nat) (f : Nat) (v : _), l < 1024 ∧ f = l / 16 ∧ s.alive = true ∧ v < 2 ∧ s.bypassed f = false ∧ s.trv f = 2 ∧ s.noticeOk f = false) :=
  ⟨⟨up [(LNK_LANE_state, [1, 7, 127]), (LNK_LANE_state, [3, 7, 126])], 1023, 63, 24000, _, _, _, by decide +kernel, by decide +kernel, by decide +kernel, by decide +kernel, by decide +kernel, by decide +kernel, rfl, rfl, rfl⟩,
   ⟨up [], 1023, 63, 0, by decide +kernel, by decide +kernel, by decide +kernel, .inl (by decide +kernel)⟩,
   ⟨up [], 1023, 63, by decide +kernel, by decide +kernel, by decide +kernel, .inl (by decide +kernel)⟩,
   ⟨{ up [(LNK_LANE_state, [2, 7, 127]), (LNK_LANE_MAP_valid, [1, 7, 127]), (TRV_FIBRE_state, [2, 0, 63])] with link := { lanes := [(1023, { frames := 3 })] }, bad := [tkey TB_LANEMAP 0 1023 0 * 32 + 16] }, 1023, 63, _, by decide +kernel, by decide +kernel, by decide +kernel, by decide +kernel, by decide +kernel, by decide +kernel, pick (by decide +kernel), by decide +kernel⟩,
   ⟨{ up [(LNK_LANE_state, [2, 7, 127]), (LNK_LANE_MAP_valid, [1, 7, 127]), (TRV_FIBRE_state, [2, 0, 63])] with link := { lanes := [(1023, { frames := 3 })] } }, 1023, 63, _, by decide +kernel, by decide +kernel, by decide +kernel, by decide +kernel, by decide +kernel, by decide +kernel, pick (by decide +kernel), by decide +kernel⟩,
   ⟨up (svc 1023 5), 1023, 63, [(1023, 0)], 4, _, _, by decide +kernel, by decide +kernel, by decide +kernel, by decide +kernel, by decide +kernel, by decide +kernel, rfl, rfl⟩,
   ⟨up [], 1023, 63, [], 8, by decide +kernel, by decide +kernel, by decide +kernel, by decide +kernel, by decide +kernel⟩,
   ⟨up [], 1023, 63, [], 0, by decide +kernel, by decide +kernel, by decide +kernel, by decide +kernel, .inl (by decide +kernel)⟩,
   ⟨up (ck 63 :: svc 1023 5), 1023, 63, _, _, by decide +kernel, by decide +kernel, ⟨rfl, rfl, rfl, rfl⟩, rfl, rfl, by decide +kernel⟩,
   ⟨up [ck 63], 1023, 63, _, _, by decide +kernel, by decide +kernel, ⟨rfl, rfl, rfl, rfl⟩, rfl, rfl, by decide +kernel⟩,
   ⟨up [ck 63, (LNK_LANE_state, [4, 7, 127]), (BYP_FIBRE_state, [3, 0, 63])], 1023, 63, _, _, by decide +kernel, by decide +kernel, ⟨rfl, rfl, rfl, rfl⟩, rfl, rfl, .inl (by decide +kernel), by decide +kernel⟩,
   ⟨up [ck 63, (LNK_LANE_state, [4, 7, 127]), (PAGE_PWR_req, [2, 55])], 1023, 63, _, _, by decide +kernel, by decide +kernel, ⟨rfl, rfl, rfl, rfl⟩, rfl, rfl, .inl (by decide +kernel), by decide +kernel, .inr (by decide +kernel)⟩,
   ⟨up [ck 63, (LNK_LANE_state, [4, 7, 127])], 1023, 63, _, _, by decide +kernel, by decide +kernel, ⟨rfl, rfl, rfl, rfl⟩, rfl, rfl, .inl (by decide +kernel), by decide +kernel, by decide +kernel, by decide +kernel⟩,
   ⟨up [ck 63, (LNK_LANE_state, [1, 7, 127])], 1023, 63, _, _, by decide +kernel, by decide +kernel, ⟨rfl, rfl, rfl, rfl⟩, rfl, rfl, by decide +kernel⟩,
   ⟨up (ck 63 :: svc 1023 5), 1023, 63, _, _, by decide +kernel, by decide +kernel, ⟨rfl, rfl, rfl, rfl⟩, rfl, rfl, .inr (by decide +kernel)⟩,
   ⟨byFib, 1023, 63, 1, by decide +kernel, by decide +kernel, by decide +kernel, by decide +kernel, by decide +kernel⟩,
   ⟨up [], 1023, 63, 1, by decide +kernel, by decide +kernel, by decide +kernel, by decide +kernel, by decide +kernel, by decide +kernel⟩,
   ⟨up [(TRV_FIBRE_state, [2, 0, 63]), (TRV_FIBRE_minor, [1, 0, 63])], 1023, 63, 0, by decide +kernel, by decide +kernel, by decide +kernel, by decide +kernel, by decide +kernel, by decide +kernel, by decide +kernel, by decide +kernel⟩,
   ⟨up [(TRV_FIBRE_state, [2, 0, 63]), (TRV_FIBRE_minor, [1, 0, 63])], 1023, 63, 1, by decide +kernel, by decide +kernel, by decide +kernel, by decide +kernel, by decide +kernel, by decide +kernel, by decide +kernel, by decide +kernel⟩,
   ⟨up [(TRV_FIBRE_state, [2, 0, 63])], 1023, 63, 1, by decide +kernel, by decide +kernel, by decide +kernel, by decide +kernel, by decide +kernel, by decide +kernel, by decide +kernel⟩⟩

/-- Each clause of RetryAndCredit that has hypotheses: a state and operands that meet them. -/
theorem witness_RetryAndCredit :
    (∃ (s : State) (f : Nat) (lp : Nat) (q : _), s.alive = true ∧ f < 64 ∧ lp < 1024 ∧ q < 2 ^ 32 ∧ (s.fibrePorts f).contains lp = false) ∧
    (∃ (s : State) (f : Nat) (lp : Nat) (q : _) (keep : List HeldPkt), s.alive = true ∧ f < 64 ∧ lp < 1024 ∧ q < 2 ^ 32 ∧ (s.fibrePorts f).contains lp = true ∧ keep = ((s.tx lp).held.filter fun h => !seqLe h.seq q || (h.seq = (s.tx lp).cur && (s.tx lp).off ≠ 0)) ∧ keep.length ≠ (s.tx lp).held.length) ∧
    (∃ (s : State) (f : Nat) (lp : Nat) (q : _) (keep : List HeldPkt), s.alive = true ∧ f < 64 ∧ lp < 1024 ∧ q < 2 ^ 32 ∧ (s.fibrePorts f).contains lp = true ∧ keep = ((s.tx lp).held.filter fun h => !seqLe h.seq q || (h.seq = (s.tx lp).cur && (s.tx lp).off ≠ 0)) ∧ keep.length = (s.tx lp).held.length) ∧
    (∃ (s : State) (f : Nat) (lp : Nat) (q : _), s.alive = true ∧ f < 64 ∧ lp < 1024 ∧ q < 2 ^ 32 ∧ (s.fibrePorts f).contains lp = true ∧ (∀ h ∈ (s.tx lp).held, h.seq ≠ q)) ∧
    (∃ (s : State) (f : Nat) (lp : Nat) (q : _), s.alive = true ∧ f < 64 ∧ lp < 1024 ∧ q < 2 ^ 32 ∧ (s.fibrePorts f).contains lp = true ∧ (∃ h ∈ (s.tx lp).held, h.seq = q) ∧ s.replaysSpent lp = false) ∧
    (∃ (s : State) (f : Nat) (lp : Nat) (q : _), s.alive = true ∧ f < 64 ∧ lp < 1024 ∧ q < 2 ^ 32 ∧ (s.fibrePorts f).contains lp = true ∧ (∃ h ∈ (s.tx lp).held, h.seq = q) ∧ s.replaysSpent lp = true) ∧
    (∃ (s : State) (f : Nat) (lp : Nat), s.alive = true ∧ f < 64 ∧ lp < 1024 ∧ s.isUp lp = true ∧ (((s.rx lp).advAt.isSome = true ∨ (s.rx lp).ackAt + usCyc 10 ≤ s.cyc))) ∧
    (∃ (s : State) (f : Nat) (lp : Nat), s.alive = true ∧ f < 64 ∧ lp < 1024 ∧ ((s.isUp lp = false ∨ ((s.rx lp).advAt = none ∧ s.cyc < (s.rx lp).ackAt + usCyc 10)))) ∧
    (∃ (s : State) (f : Nat) (lp : Nat), s.alive = true ∧ f < 64 ∧ lp < 1024 ∧ (((s.tx lp).held = [] ∨ s.isUp lp = false ∨ s.txHeld (s.portFibre lp) = true ∨ s.cyc < (s.tx lp).ackAt + usCyc (max 1 (s.rd LNK_CFG_retry_to_us (s.portFibre lp / 8)))))) ∧
    (∃ (s : State) (f : Nat) (lp : Nat) (h : _) (r : _), s.alive = true ∧ f < 64 ∧ lp < 1024 ∧ (s.tx lp).held = h :: r ∧ s.isUp lp = true ∧ s.txHeld (s.portFibre lp) = false ∧ (s.tx lp).ackAt + usCyc (max 1 (s.rd LNK_CFG_retry_to_us (s.portFibre lp / 8))) ≤ s.cyc ∧ s.replaysSpent lp = true) ∧
    (∃ (s : State) (f : Nat) (lp : Nat) (h : _) (r : _), s.alive = true ∧ f < 64 ∧ lp < 1024 ∧ (s.tx lp).held = h :: r ∧ s.isUp lp = true ∧ s.txHeld (s.portFibre lp) = false ∧ (s.tx lp).ackAt + usCyc (max 1 (s.rd LNK_CFG_retry_to_us (s.portFibre lp / 8))) ≤ s.cyc ∧ s.replaysSpent lp = false) ∧
    (∃ (s : State) (f : Nat) (lp : Nat) (c : _), s.alive = true ∧ f < 64 ∧ lp < 1024 ∧ (s.rx lp).req = some c ∧ s.txHeld (s.portFibre lp) = false ∧ c + usCyc (max 1 (s.rd LNK_CFG_req_us (s.portFibre lp / 8))) ≤ s.cyc) ∧
    (∃ (s : State) (f : Nat) (lp : Nat), s.alive = true ∧ f < 64 ∧ lp < 1024 ∧ (((s.rx lp).req = none ∨ s.txHeld (s.portFibre lp) = true ∨ (∃ c, (s.rx lp).req = some c ∧ s.cyc < c + usCyc (max 1 (s.rd LNK_CFG_req_us (s.portFibre lp / 8))))))) ∧
    (∃ (s : State) (f : Nat) (lp : Nat), s.alive = true ∧ f < 64 ∧ lp < 1024 ∧ (s.fibrePorts f).contains lp = true) ∧
    (∃ (s : State) (f : Nat) (lp : Nat) (grants : List Nat) (u : _), s.alive = true ∧ f < 64 ∧ lp < 1024 ∧ s.isUp lp = true ∧ u = grants.foldl (fun t v => t.grantVc lp v) s ∧ (((u.rx lp).count ≠ (u.rx lp).sent ∧ (u.rx lp).sentAt + nsCyc (u.rd LNK_CFG_credit_ns (u.portFibre lp / 8)) ≤ u.cyc) ∨ (u.rx lp).sentAt + usCyc 10 ≤ u.cyc)) ∧
    (∃ (s : State) (f : Nat) (lp : Nat) (grants : List Nat) (u : _), s.alive = true ∧ f < 64 ∧ lp < 1024 ∧ s.isUp lp = true ∧ u = grants.foldl (fun t v => t.grantVc lp v) s ∧ (((u.rx lp).count = (u.rx lp).sent ∨ u.cyc < (u.rx lp).sentAt + nsCyc (u.rd LNK_CFG_credit_ns (u.portFibre lp / 8)))) ∧ u.cyc < (u.rx lp).sentAt + usCyc 10) ∧
    (∃ (s : State) (f : Nat) (lp : Nat), s.alive = true ∧ f < 64 ∧ lp < 1024 ∧ s.isUp lp = false) :=
  ⟨⟨up [], 63, 1023, 2 ^ 32 - 1, by decide +kernel, by decide +kernel, by decide +kernel, by decide +kernel, by decide +kernel⟩,
   ⟨{ up (svc 1023 1023) with link := { tx := [(1023, { held := [{ seq := 2 ^ 32 - 1, vc := 0, fl := atCore {} }] })] } }, 63, 1023, 2 ^ 32 - 1, _, by decide +kernel, by decide +kernel, by decide +kernel, by decide +kernel, by decide +kernel, rfl, by decide +kernel⟩,
   ⟨{ up (svc 1023 1023) with link := { tx := [(1023, { held := [{ seq := 0, vc := 0, fl := atCore {} }] })] } }, 63, 1023, 2 ^ 32 - 1, _, by decide +kernel, by decide +kernel, by decide +kernel, by decide +kernel, by decide +kernel, rfl, by decide +kernel⟩,
   ⟨{ up (svc 1023 1023) with link := { tx := [(1023, { held := [{ seq := 0, vc := 0, fl := atCore {} }] })] } }, 63, 1023, 2 ^ 32 - 1, by decide +kernel, by decide +kernel, by decide +kernel, by decide +kernel, by decide +kernel, by decide +kernel⟩,
   ⟨{ up (svc 1023 1023) with link := { tx := [(1023, { held := [{ seq := 2 ^ 32 - 1, vc := 0, fl := atCore {} }] })] } }, 63, 1023, 2 ^ 32 - 1, by decide +kernel, by decide +kernel, by decide +kernel, by decide +kernel, by decide +kernel, by decide +kernel, by decide +kernel⟩,
   ⟨{ up (svc 1023 1023) with link := { tx := [(1023, { held := [{ seq := 2 ^ 32 - 1, vc := 0, fl := atCore {} }], replays := 1000 })] } }, 63, 1023, 2 ^ 32 - 1, by decide +kernel, by decide +kernel, by decide +kernel, by decide +kernel, by decide +kernel, by decide +kernel, by decide +kernel⟩,
   ⟨up [(LP_CFG_link_up, [1, 0, 1023])], 63, 1023, by decide +kernel, by decide +kernel, by decide +kernel, by decide +kernel, .inr (by decide +kernel)⟩,
   ⟨up [], 63, 1023, by decide +kernel, by decide +kernel, by decide +kernel, .inl (by decide +kernel)⟩,
   ⟨up [], 63, 1023, by decide +kernel, by decide +kernel, by decide +kernel, .inl (by decide +kernel)⟩,
   ⟨{ up ((LP_CFG_link_up, [1, 0, 1023]) :: svc 1023 1023) with link := { tx := [(1023, { held := [{ seq := 0, vc := 0, fl := atCore {} }], replays := 1000 })] } }, 63, 1023, _, _, by decide +kernel, by decide +kernel, by decide +kernel, rfl, by decide +kernel, by decide +kernel, by decide +kernel, by decide +kernel⟩,
   ⟨{ up ((LP_CFG_link_up, [1, 0, 1023]) :: svc 1023 1023) with link := { tx := [(1023, { held := [{ seq := 0, vc := 0, fl := atCore {} }] })] } }, 63, 1023, _, _, by decide +kernel, by decide +kernel, by decide +kernel, rfl, by decide +kernel, by decide +kernel, by decide +kernel, by decide +kernel⟩,
   ⟨{ up (svc 1023 1023) with link := { rx := [(1023, { req := some 0 })] } }, 63, 1023, _, by decide +kernel, by decide +kernel, by decide +kernel, pick (by decide +kernel), by decide +kernel, by decide +kernel⟩,
   ⟨up [], 63, 1023, by decide +kernel, by decide +kernel, by decide +kernel, .inl (by decide +kernel)⟩,
   ⟨up (svc 1023 1023), 63, 1023, by decide +kernel, by decide +kernel, by decide +kernel, by decide +kernel⟩,
   ⟨up [(LP_CFG_link_up, [1, 0, 1023])], 63, 1023, [], _, by decide +kernel, by decide +kernel, by decide +kernel, by decide +kernel, rfl, .inr (by decide +kernel)⟩,
   ⟨{ up [(LP_CFG_link_up, [1, 0, 1023])] with link := { rx := [(1023, { sentAt := 10 ^ 13 })] } }, 63, 1023, [], _, by decide +kernel, by decide +kernel, by decide +kernel, by decide +kernel, rfl, .inl (by decide +kernel), by decide +kernel⟩,
   ⟨up [], 63, 1023, by decide +kernel, by decide +kernel, by decide +kernel, by decide +kernel⟩⟩

/-- Each clause of TraverseProtocol that has hypotheses: a state and operands that meet them. -/
theorem witness_TraverseProtocol :
    (∃ (s : State) (f : Nat), f < 64 ∧ s.alive = true ∧ s.flag TRV_CTRL_enable = true ∧ s.bypassed f = false) ∧
    (∃ (s : State) (f : Nat), f < 64 ∧ s.alive = true ∧ ((s.flag TRV_CTRL_enable = false ∨ s.bypassed f = true))) ∧
    (∃ (s : State) (f : Nat), f < 64 ∧ s.alive = true ∧ ((s.flag TRV_CTRL_enable = false ∨ s.bypassed f = true))) ∧
    (∃ (s : State) (f : Nat) (ep : _) (n : _), f < 64 ∧ s.alive = true ∧ s.flag TRV_CTRL_enable = true ∧ s.bypassed f = false ∧ ep < 2 ^ 24 ∧ n < 2 ^ 32) ∧
    (∃ (s : State) (f : Nat), f < 64 ∧ s.alive = true) ∧
    (∃ (s : State) (f : Nat), f < 64 ∧ s.alive = true ∧ s.flag TRV_CTRL_enable = true ∧ s.trv f ≠ 7 ∧ s.lit f = true ∧ ((∀ c, (s.fib f).probeAt = some c → c + s.probeEvery f ≤ s.cyc))) ∧
    (∃ (s : State) (f : Nat), f < 64 ∧ s.alive = true ∧ ((s.flag TRV_CTRL_enable = false ∨ s.trv f = 7 ∨ s.lit f = false ∨ (∃ c, (s.fib f).probeAt = some c ∧ s.cyc < c + s.probeEvery f)))) ∧
    (∃ (s : State) (f : Nat), f < 64 ∧ s.alive = true ∧ ((s.flag TRV_CTRL_enable = false ∨ s.trv f = 7))) ∧
    (∃ (s : State) (f : Nat) (c : _), f < 64 ∧ s.alive = true ∧ s.flag TRV_CTRL_enable = true ∧ s.trv f ≠ 7 ∧ (s.fib f).timer = some c ∧ c + msCyc (max 1 (s.rd TRV_CTRL_absent_ms)) ≤ s.cyc) ∧
    (∃ (s : State) (f : Nat) (c : _), f < 64 ∧ s.alive = true ∧ s.flag TRV_CTRL_enable = true ∧ s.trv f ≠ 7 ∧ (s.fib f).identAt = some c ∧ s.lit f = true ∧ c + 3 * msCyc (max 1 (s.rd TRV_CTRL_keep_ms)) ≤ s.cyc) ∧
    (∃ (s : State) (f : Nat), f < 64 ∧ s.alive = true ∧ s.flag TRV_CTRL_enable = true ∧ s.trv f ≠ 7 ∧ (s.fib f).gone = true ∧ s.trv f = 0 ∧ s.present f = true) ∧
    (∃ (s : State) (f : Nat), f < 64 ∧ s.alive = true ∧ s.flag TRV_CTRL_enable = true ∧ s.trv f ≠ 7 ∧ (s.fib f).timer = none ∧ (s.fib f).identAt = none ∧ (s.fib f).gone = false) ∧
    (∃ (s : State) (f : Nat) (u : State), f < 64 ∧ s.served 7 0x118 ∧ u = s.event 7 4 ∧ u.trv f ≠ 5) ∧
    (∃ (s : State) (f : Nat) (u : State) (g : Nat) (a : State) (b : State), f < 64 ∧ s.served 7 0x118 ∧ u = s.event 7 4 ∧ u.trv f = 5 ∧ g = u.rd TRV_FIBRE_partner 0 f ∧ a = ((List.range 4).map fun w => (u.platWord f w, u.platWord g w)).zipIdx.foldl (fun t x => (t.platPut f x.2 x.1.2).platPut g x.2 x.1.1) u ∧ b = ((List.range 4).map fun w => (u.platStaged f w, u.platStaged g w)).zipIdx.foldl (fun t x => (t.platStage f x.2 x.1.2).platStage g x.2 x.1.1) a) ∧
    (∃ (s : State) (f : Nat) (u : State), f < 64 ∧ s.served 7 0x118 ∧ u = s.event 7 4 ∧ u.trv f = 7) ∧
    (∃ (s : State) (f : Nat) (u : State), f < 64 ∧ s.served 7 0x118 ∧ u = s.event 7 4 ∧ u.trv f ≠ 7 ∧ u.flag TRV_CTRL_enable = false) ∧
    (∃ (s : State) (f : Nat) (u : State), f < 64 ∧ s.served 7 0x118 ∧ u = s.event 7 4 ∧ u.trv f ≠ 7 ∧ u.flag TRV_CTRL_enable = true) ∧
    (∃ (s : State) (f : Nat) (w : Wr) (u : State) (v : State), f < 64 ∧ s.served 7 0x100 ∧ u = s.event 7 4 ∧ v = (((u.put TRV_CTRL_enable w).put TRV_CTRL_probe_us w).put TRV_CTRL_keep_ms w).put TRV_CTRL_absent_ms w ∧ ((u.flag TRV_CTRL_enable = true ∨ v.flag TRV_CTRL_enable = false))) ∧
    (∃ (s : State) (f : Nat) (w : Wr) (u : State) (v : State), f < 64 ∧ s.served 7 0x100 ∧ u = s.event 7 4 ∧ v = (((u.put TRV_CTRL_enable w).put TRV_CTRL_probe_us w).put TRV_CTRL_keep_ms w).put TRV_CTRL_absent_ms w ∧ u.flag TRV_CTRL_enable = false ∧ v.flag TRV_CTRL_enable = true) :=
  ⟨⟨up [(TRV_CTRL_enable, [1])], 63, by decide +kernel, by decide +kernel, by decide +kernel, by decide +kernel⟩,
   ⟨up [(TRV_CTRL_enable, [0])], 63, by decide +kernel, by decide +kernel, .inl (by decide +kernel)⟩,
   ⟨up [(TRV_CTRL_enable, [0])], 63, by decide +kernel, by decide +kernel, .inl (by decide +kernel)⟩,
   ⟨up [(TRV_CTRL_enable, [1])], 63, 2 ^ 24 - 1, 2 ^ 32 - 1, by decide +kernel, by decide +kernel, by decide +kernel, by decide +kernel, by decide +kernel, by decide +kernel⟩,
   ⟨up [], 63, by decide +kernel, by decide +kernel⟩,
   ⟨{ up ((TRV_CTRL_enable, [1]) :: svc 1023 5) with link := { fibres := [(63, { probeAt := some 0 })] } }, 63, by decide +kernel, by decide +kernel, by decide +kernel, by decide +kernel, by decide +kernel, fun c h => (by cases h; decide +kernel)⟩,
   ⟨up [(TRV_CTRL_enable, [0])], 63, by decide +kernel, by decide +kernel, .inl (by decide +kernel)⟩,
   ⟨up [(TRV_CTRL_enable, [0])], 63, by decide +kernel, by decide +kernel, .inl (by decide +kernel)⟩,
   ⟨{ up ([(TRV_CTRL_enable, [1])]) with link := { fibres := [(63, { timer := some 0 })] } }, 63, _, by decide +kernel, by decide +kernel, by decide +kernel, by decide +kernel, pick (by decide +kernel), by decide +kernel⟩,
   ⟨{ up ((TRV_CTRL_enable, [1]) :: svc 1023 5) with link := { fibres := [(63, { identAt := some 0 })] } }, 63, _, by decide +kernel, by decide +kernel, by decide +kernel, by decide +kernel, pick (by decide +kernel), by decide +kernel, by decide +kernel⟩,
   ⟨{ up ([(TRV_CTRL_enable, [1]), (TRV_PLAT_present, [1, 0, 63]), (TRV_FIBRE_state, [0, 0, 63])]) with link := { fibres := [(63, { gone := true })] } }, 63, by decide +kernel, by decide +kernel, by decide +kernel, by decide +kernel, by decide +kernel, by decide +kernel, by decide +kernel⟩,
   ⟨up [(TRV_CTRL_enable, [1])], 63, by decide +kernel, by decide +kernel, by decide +kernel, by decide +kernel, by decide +kernel, by decide +kernel, by decide +kernel⟩,
   ⟨up [ck 7], 63, _, by decide +kernel, ⟨rfl, rfl, rfl, rfl⟩, rfl, by decide +kernel⟩,
   ⟨up [ck 7, (TRV_FIBRE_state, [5, 0, 63]), (TRV_FIBRE_partner, [0, 0, 63])], 63, _, _, _, _, by decide +kernel, ⟨rfl, rfl, rfl, rfl⟩, rfl, by decide +kernel, rfl, rfl, rfl⟩,
   ⟨up [ck 7, (TRV_FIBRE_state, [7, 0, 63])], 63, _, by decide +kernel, ⟨rfl, rfl, rfl, rfl⟩, rfl, by decide +kernel⟩,
   ⟨up [ck 7, (TRV_CTRL_enable, [0])], 63, _, by decide +kernel, ⟨rfl, rfl, rfl, rfl⟩, rfl, by decide +kernel, by decide +kernel⟩,
   ⟨up [ck 7, (TRV_CTRL_enable, [1])], 63, _, by decide +kernel, ⟨rfl, rfl, rfl, rfl⟩, rfl, by decide +kernel, by decide +kernel⟩,
   ⟨up [ck 7, (TRV_CTRL_enable, [1])], 63, { v := 0 }, _, _, by decide +kernel, ⟨rfl, rfl, rfl, rfl⟩, rfl, rfl, .inl (by decide +kernel)⟩,
   ⟨up [ck 7, (TRV_CTRL_enable, [0])], 63, { v := 1 }, _, _, by decide +kernel, ⟨rfl, rfl, rfl, rfl⟩, rfl, rfl, by decide +kernel, by decide +kernel⟩⟩

/-- Each clause of ControlCodewords that has hypotheses: a state and operands that meet them. -/
theorem witness_ControlCodewords :
    (∃ (s : State) (l : Nat) (f : Nat) (msg : List Nat) (chk : List Nat) (sym : List Nat) (u : State), s.alive = true ∧ l < 1024 ∧ f = l / 16 ∧ sym = msg ++ chk ∧ u = s.fecCount l (decodeWord 0 sym) ∧ decodeWord 0 sym = none) ∧
    (∃ (s : State) (l : Nat) (f : Nat) (msg : List Nat) (chk : List Nat) (sym : List Nat) (u : State) (m : _) (b : _), s.alive = true ∧ l < 1024 ∧ f = l / 16 ∧ sym = msg ++ chk ∧ u = s.fecCount l (decodeWord 0 sym) ∧ decodeWord 0 sym = some (m, b) ∧ ((CtrlWord.ofBlock (msgBlock m) = none ∨ msgKind m ≠ 0 ∨ u.laneCarries l = false))) ∧
    (∃ (s : State) (l : Nat) (f : Nat) (msg : List Nat) (chk : List Nat) (sym : List Nat) (u : State) (m : _) (b : _) (w : CtrlWord) (counts : Bool) (row : Bool), s.alive = true ∧ l < 1024 ∧ f = l / 16 ∧ sym = msg ++ chk ∧ u = s.fecCount l (decodeWord 0 sym) ∧ decodeWord 0 sym = some (m, b) ∧ CtrlWord.ofBlock (msgBlock m) = some w ∧ msgKind m = 0 ∧ u.laneCarries l = true ∧ counts = (u.lane l = laneREADY && u.trv f = 2 && (w.state = laneREADY || w.state = laneSERVICE)) ∧ row = (match (u.laneX l).lastFrame with | some p => decide (w.frame = (p + 1) % 65536) | none => false)) ∧
    (∃ (s : State) (l : Nat) (f : Nat), s.alive = true ∧ l < 1024 ∧ f = l / 16) ∧
    (∃ (s : State) (l : Nat) (f : Nat), s.alive = true ∧ l < 1024 ∧ f = l / 16) ∧
    (∃ (s : State) (l : Nat) (f : Nat) (b : List Byte), s.alive = true ∧ l < 1024 ∧ f = l / 16 ∧ b.all (· = 0) = true) ∧
    (∃ (s : State) (l : Nat) (f : Nat) (b : List Byte), s.alive = true ∧ l < 1024 ∧ f = l / 16 ∧ b.all (· = 0) = false ∧ LmfSlot.ofFrame b = none) ∧
    (∃ (s : State) (l : Nat) (f : Nat) (b : List Byte) (m : _), s.alive = true ∧ l < 1024 ∧ f = l / 16 ∧ b.all (· = 0) = false ∧ LmfSlot.ofFrame b = some m ∧ (((s.fib f).rxExp = none ∨ (s.fib f).rxExp = some m.seq))) ∧
    (∃ (s : State) (l : Nat) (f : Nat) (b : List Byte) (m : _) (e : _), s.alive = true ∧ l < 1024 ∧ f = l / 16 ∧ b.all (· = 0) = false ∧ LmfSlot.ofFrame b = some m ∧ (s.fib f).rxExp = some e ∧ e ≠ m.seq ∧ seqLe e m.seq = true) ∧
    (∃ (s : State) (l : Nat) (f : Nat) (b : List Byte) (m : _) (e : _), s.alive = true ∧ l < 1024 ∧ f = l / 16 ∧ b.all (· = 0) = false ∧ LmfSlot.ofFrame b = some m ∧ (s.fib f).rxExp = some e ∧ e ≠ m.seq ∧ seqLe e m.seq = false) ∧
    (∃ (s : State) (l : Nat) (f : Nat) (m : _) (c : _) (r : _), s.alive = true ∧ l < 1024 ∧ f = l / 16 ∧ (s.fib f).rxHeld = (m, c) :: r ∧ s.cyc < c + nsCyc 100) ∧
    (∃ (s : State) (l : Nat) (f : Nat) (m : _) (c : _) (r : _), s.alive = true ∧ l < 1024 ∧ f = l / 16 ∧ (s.fib f).rxHeld = (m, c) :: r ∧ c + nsCyc 100 ≤ s.cyc) ∧
    (∃ (s : State) (l : Nat) (f : Nat), s.alive = true ∧ l < 1024 ∧ f = l / 16 ∧ (s.fib f).rxHeld = []) :=
  ⟨⟨up [], 1023, 63, [1], [], [1], _, by decide +kernel, by decide +kernel, by decide +kernel, by decide +kernel, rfl, by decide +kernel⟩,
   ⟨up [], 1023, 63, [], [], [], _, _, _, by decide +kernel, by decide +kernel, by decide +kernel, by decide +kernel, rfl, pickP (by decide +kernel), .inl (by decide +kernel)⟩,
   ⟨up (svc 1023 5), 1023, 63, ctlSym.take 514, ctlSym.drop 514, ctlSym, _, _, _, _, _, _, by decide +kernel, by decide +kernel, by decide +kernel, by decide +kernel, rfl, pickP (by decide +kernel), pick (by decide +kernel), by decide +kernel, by decide +kernel, rfl, rfl⟩,
   ⟨up [], 1023, 63, by decide +kernel, by decide +kernel, by decide +kernel⟩,
   ⟨up [], 1023, 63, by decide +kernel, by decide +kernel, by decide +kernel⟩,
   ⟨up [], 1023, 63, [], by decide +kernel, by decide +kernel, by decide +kernel, by decide +kernel⟩,
   ⟨up [], 1023, 63, [1], by decide +kernel, by decide +kernel, by decide +kernel, by decide +kernel, by decide +kernel⟩,
   ⟨up [], 1023, 63, lmfFrame 1 0 0 [], _, by decide +kernel, by decide +kernel, by decide +kernel, by decide +kernel, pick (by decide +kernel), .inl (by decide +kernel)⟩,
   ⟨{ up [] with link := { fibres := [(63, { rxExp := some 5 })] } }, 1023, 63, lmfFrame 1 0 6 [], _, _, by decide +kernel, by decide +kernel, by decide +kernel, by decide +kernel, pick (by decide +kernel), pick (by decide +kernel), by decide +kernel, by decide +kernel⟩,
   ⟨{ up [] with link := { fibres := [(63, { rxExp := some 5 })] } }, 1023, 63, lmfFrame 1 0 4 [], _, _, by decide +kernel, by decide +kernel, by decide +kernel, by decide +kernel, pick (by decide +kernel), pick (by decide +kernel), by decide +kernel, by decide +kernel⟩,
   ⟨{ up [] with link := { fibres := [(63, { rxHeld := [({ lver := 1, typ := 1, fibre := 0, seq := 0 }, 10 ^ 13)] })] } }, 1023, 63, { lver := 1, typ := 1, fibre := 0, seq := 0 }, 10 ^ 13, [], by decide +kernel, by decide +kernel, by decide +kernel, by decide +kernel, by decide +kernel⟩,
   ⟨{ up [] with link := { fibres := [(63, { rxHeld := [({ lver := 1, typ := 1, fibre := 0, seq := 0 }, 0)] })] } }, 1023, 63, { lver := 1, typ := 1, fibre := 0, seq := 0 }, 0, [], by decide +kernel, by decide +kernel, by decide +kernel, by decide +kernel, by decide +kernel⟩,
   ⟨up [], 1023, 63, by decide +kernel, by decide +kernel, by decide +kernel, by decide +kernel⟩⟩

/-- Each clause of BypassPreparation that has hypotheses: a state and operands that meet them. -/
theorem witness_BypassPreparation :
    (∃ (s : State) (u : State) (p : BypPrep) (r : _), s.served 8 0x110 ∧ u = s.event 8 4 ∧ p = u.prepAsked ∧ u.prepRefusal p = r ∧ r ≠ 0) ∧
    (∃ (s : State) (u : State) (p : BypPrep), s.served 8 0x110 ∧ u = s.event 8 4 ∧ p = u.prepAsked ∧ u.flag BYP_CTRL_enable = false) ∧
    (∃ (s : State) (u : State) (p : BypPrep) (perm : Prop) (busy : Prop) (lead : Prop), s.served 8 0x110 ∧ u = s.event 8 4 ∧ p = u.prepAsked ∧ u.flag BYP_CTRL_enable = true ∧ (perm = (p.a = p.b ∨ p.isSet = true ∧ ∃ d ∈ p.todo, bit (u.rd BYP_PERMIT_outputs 0 d.1) d.2 = false ∨ u.isBad TB_PERMIT 0 d.1 0 16 = true)) ∧ (busy = (p.isSet = true ∧ ((∃ f ∈ [p.a, p.b], u.bypState f ≠ 0 ∧ (u.bypState f = 3 → u.inCircuit f = true)) ∨ ∃ d ∈ p.todo, u.inUse d.1 = true ∨ u.outUse d.2 = true) ∨ p.isSet = false ∧ ((∃ d ∈ p.todo, u.circuit d.1 d.2 = false) ∨ ∃ x ∈ u.byp.preps, x.a = p.a ∨ x.b = p.a ∨ x.a = p.b ∨ x.b = p.b))) ∧ lead = (p.c < u.fclk + max (max 50 (u.rd BYP_CFG_lead_us) * 1000 * NS) (u.quietClk + 50000 * NS)) ∧ perm) ∧
    (∃ (s : State) (u : State) (p : BypPrep) (perm : Prop) (busy : Prop) (lead : Prop), s.served 8 0x110 ∧ u = s.event 8 4 ∧ p = u.prepAsked ∧ u.flag BYP_CTRL_enable = true ∧ (perm = (p.a = p.b ∨ p.isSet = true ∧ ∃ d ∈ p.todo, bit (u.rd BYP_PERMIT_outputs 0 d.1) d.2 = false ∨ u.isBad TB_PERMIT 0 d.1 0 16 = true)) ∧ (busy = (p.isSet = true ∧ ((∃ f ∈ [p.a, p.b], u.bypState f ≠ 0 ∧ (u.bypState f = 3 → u.inCircuit f = true)) ∨ ∃ d ∈ p.todo, u.inUse d.1 = true ∨ u.outUse d.2 = true) ∨ p.isSet = false ∧ ((∃ d ∈ p.todo, u.circuit d.1 d.2 = false) ∨ ∃ x ∈ u.byp.preps, x.a = p.a ∨ x.b = p.a ∨ x.a = p.b ∨ x.b = p.b))) ∧ lead = (p.c < u.fclk + max (max 50 (u.rd BYP_CFG_lead_us) * 1000 * NS) (u.quietClk + 50000 * NS)) ∧ ¬ perm ∧ busy) ∧
    (∃ (s : State) (u : State) (p : BypPrep) (perm : Prop) (busy : Prop) (lead : Prop), s.served 8 0x110 ∧ u = s.event 8 4 ∧ p = u.prepAsked ∧ u.flag BYP_CTRL_enable = true ∧ (perm = (p.a = p.b ∨ p.isSet = true ∧ ∃ d ∈ p.todo, bit (u.rd BYP_PERMIT_outputs 0 d.1) d.2 = false ∨ u.isBad TB_PERMIT 0 d.1 0 16 = true)) ∧ (busy = (p.isSet = true ∧ ((∃ f ∈ [p.a, p.b], u.bypState f ≠ 0 ∧ (u.bypState f = 3 → u.inCircuit f = true)) ∨ ∃ d ∈ p.todo, u.inUse d.1 = true ∨ u.outUse d.2 = true) ∨ p.isSet = false ∧ ((∃ d ∈ p.todo, u.circuit d.1 d.2 = false) ∨ ∃ x ∈ u.byp.preps, x.a = p.a ∨ x.b = p.a ∨ x.a = p.b ∨ x.b = p.b))) ∧ lead = (p.c < u.fclk + max (max 50 (u.rd BYP_CFG_lead_us) * 1000 * NS) (u.quietClk + 50000 * NS)) ∧ ¬ perm ∧ ¬ busy ∧ p.isSet = true ∧ u.flag TIM_STATE_slave_valid = true ∧ ((u.rd TIM_STATE_slave_port = p.a ∨ u.rd TIM_STATE_slave_port = p.b))) ∧
    (∃ (s : State) (u : State) (p : BypPrep) (perm : Prop) (busy : Prop) (lead : Prop), s.served 8 0x110 ∧ u = s.event 8 4 ∧ p = u.prepAsked ∧ u.flag BYP_CTRL_enable = true ∧ (perm = (p.a = p.b ∨ p.isSet = true ∧ ∃ d ∈ p.todo, bit (u.rd BYP_PERMIT_outputs 0 d.1) d.2 = false ∨ u.isBad TB_PERMIT 0 d.1 0 16 = true)) ∧ (busy = (p.isSet = true ∧ ((∃ f ∈ [p.a, p.b], u.bypState f ≠ 0 ∧ (u.bypState f = 3 → u.inCircuit f = true)) ∨ ∃ d ∈ p.todo, u.inUse d.1 = true ∨ u.outUse d.2 = true) ∨ p.isSet = false ∧ ((∃ d ∈ p.todo, u.circuit d.1 d.2 = false) ∨ ∃ x ∈ u.byp.preps, x.a = p.a ∨ x.b = p.a ∨ x.a = p.b ∨ x.b = p.b))) ∧ lead = (p.c < u.fclk + max (max 50 (u.rd BYP_CFG_lead_us) * 1000 * NS) (u.quietClk + 50000 * NS)) ∧ ¬ perm ∧ ¬ busy ∧ ((p.isSet = false ∨ u.flag TIM_STATE_slave_valid = false ∨ u.rd TIM_STATE_slave_port ≠ p.a ∧ u.rd TIM_STATE_slave_port ≠ p.b)) ∧ lead) ∧
    (∃ (s : State) (u : State) (p : BypPrep) (perm : Prop) (busy : Prop) (lead : Prop), s.served 8 0x110 ∧ u = s.event 8 4 ∧ p = u.prepAsked ∧ u.flag BYP_CTRL_enable = true ∧ (perm = (p.a = p.b ∨ p.isSet = true ∧ ∃ d ∈ p.todo, bit (u.rd BYP_PERMIT_outputs 0 d.1) d.2 = false ∨ u.isBad TB_PERMIT 0 d.1 0 16 = true)) ∧ (busy = (p.isSet = true ∧ ((∃ f ∈ [p.a, p.b], u.bypState f ≠ 0 ∧ (u.bypState f = 3 → u.inCircuit f = true)) ∨ ∃ d ∈ p.todo, u.inUse d.1 = true ∨ u.outUse d.2 = true) ∨ p.isSet = false ∧ ((∃ d ∈ p.todo, u.circuit d.1 d.2 = false) ∨ ∃ x ∈ u.byp.preps, x.a = p.a ∨ x.b = p.a ∨ x.a = p.b ∨ x.b = p.b))) ∧ lead = (p.c < u.fclk + max (max 50 (u.rd BYP_CFG_lead_us) * 1000 * NS) (u.quietClk + 50000 * NS)) ∧ ¬ perm ∧ ¬ busy ∧ ((p.isSet = false ∨ u.flag TIM_STATE_slave_valid = false ∨ u.rd TIM_STATE_slave_port ≠ p.a ∧ u.rd TIM_STATE_slave_port ≠ p.b)) ∧ ¬ lead ∧ p.isSet = true ∧ u.idleFw = none) ∧
    (∃ (s : State) (u : State) (p : BypPrep) (perm : Prop) (busy : Prop) (lead : Prop), s.served 8 0x110 ∧ u = s.event 8 4 ∧ p = u.prepAsked ∧ u.flag BYP_CTRL_enable = true ∧ (perm = (p.a = p.b ∨ p.isSet = true ∧ ∃ d ∈ p.todo, bit (u.rd BYP_PERMIT_outputs 0 d.1) d.2 = false ∨ u.isBad TB_PERMIT 0 d.1 0 16 = true)) ∧ (busy = (p.isSet = true ∧ ((∃ f ∈ [p.a, p.b], u.bypState f ≠ 0 ∧ (u.bypState f = 3 → u.inCircuit f = true)) ∨ ∃ d ∈ p.todo, u.inUse d.1 = true ∨ u.outUse d.2 = true) ∨ p.isSet = false ∧ ((∃ d ∈ p.todo, u.circuit d.1 d.2 = false) ∨ ∃ x ∈ u.byp.preps, x.a = p.a ∨ x.b = p.a ∨ x.a = p.b ∨ x.b = p.b))) ∧ lead = (p.c < u.fclk + max (max 50 (u.rd BYP_CFG_lead_us) * 1000 * NS) (u.quietClk + 50000 * NS)) ∧ ¬ perm ∧ ¬ busy ∧ ((p.isSet = false ∨ u.flag TIM_STATE_slave_valid = false ∨ u.rd TIM_STATE_slave_port ≠ p.a ∧ u.rd TIM_STATE_slave_port ≠ p.b)) ∧ ¬ lead ∧ ((p.isSet = false ∨ u.idleFw.isSome = true))) ∧
    (∃ (s : State) (u : State) (p : BypPrep), s.served 8 0x110 ∧ u = s.event 8 4 ∧ p = u.prepAsked ∧ u.prepRefusal p = 0 ∧ p.isSet = false) ∧
    (∃ (s : State) (u : State) (p : BypPrep) (n : _) (v : _) (w : _) (d : _) (x : _) (q : _), s.served 8 0x110 ∧ u = s.event 8 4 ∧ p = u.prepAsked ∧ u.prepRefusal p = 0 ∧ p.isSet = true ∧ v = p.todo.foldl (fun t d => t.setPending d.1 true true) u ∧ v.idleFw = some n ∧ q = { p with id := v.byp.nextId, unit := some n, quietAt := p.c - v.quietClk } ∧ w = { v with byp := { v.byp with preps := v.byp.preps ++ [q], nextId := (v.byp.nextId + 1) % 65536 } } ∧ d = (((w.setByp p.a 1).bar p.a true).setByp p.b 1).bar p.b true ∧ x = d.armOwn n 13 0 (p.c - d.quietClk) 0 1) ∧
    (∃ (s : State) (u : State) (p : BypPrep), s.served 8 0x110 ∧ u = s.event 8 4 ∧ p = u.prepAsked ∧ u.byp.preps.find? (fun x => x.a = p.a && x.b = p.b) = none) ∧
    (∃ (s : State) (u : State) (p : BypPrep) (y : _), s.served 8 0x110 ∧ u = s.event 8 4 ∧ p = u.prepAsked ∧ u.byp.preps.find? (fun x => x.a = p.a && x.b = p.b) = some y ∧ ((y.quiet = true ∨ y.isSet = true ∧ y.quietAt ≤ u.fclk ∨ y.done ≠ []))) ∧
    (∃ (s : State) (u : State) (p : BypPrep) (y : _) (v : _), s.served 8 0x110 ∧ u = s.event 8 4 ∧ p = u.prepAsked ∧ u.byp.preps.find? (fun x => x.a = p.a && x.b = p.b) = some y ∧ y.quiet = false ∧ y.done = [] ∧ v = y.todo.foldl (fun t d => t.setPending d.1 false false) (u.delPrep y) ∧ y.isSet = false) ∧
    (∃ (s : State) (u : State) (p : BypPrep) (y : _) (v : _) (g : State → Nat → State) (w : _) (n : _), s.served 8 0x110 ∧ u = s.event 8 4 ∧ p = u.prepAsked ∧ u.byp.preps.find? (fun x => x.a = p.a && x.b = p.b) = some y ∧ y.quiet = false ∧ y.done = [] ∧ v = y.todo.foldl (fun t d => t.setPending d.1 false false) (u.delPrep y) ∧ y.isSet = true ∧ u.fclk < y.quietAt ∧ (∀ t f, g t f = if y.sent.getD 0 f = 0 then t.bypNormal f else ((t.bypNormal f).sendLmf f (y.notice f false)).cnt BYP_NOTICE_TX_count) ∧ w = g (g v y.a) y.b ∧ y.unit = some n ∧ w.armed n = true) ∧
    (∃ (s : State) (u : State) (p : BypPrep) (y : _) (v : _) (g : State → Nat → State) (w : _), s.served 8 0x110 ∧ u = s.event 8 4 ∧ p = u.prepAsked ∧ u.byp.preps.find? (fun x => x.a = p.a && x.b = p.b) = some y ∧ y.quiet = false ∧ y.done = [] ∧ v = y.todo.foldl (fun t d => t.setPending d.1 false false) (u.delPrep y) ∧ y.isSet = true ∧ u.fclk < y.quietAt ∧ (∀ t f, g t f = if y.sent.getD 0 f = 0 then t.bypNormal f else ((t.bypNormal f).sendLmf f (y.notice f false)).cnt BYP_NOTICE_TX_count) ∧ w = g (g v y.a) y.b ∧ ((∀ n, y.unit = some n → w.armed n = false))) :=
  ⟨⟨up [ck 8, (BYP_CTRL_enable, [1]), (BYP_CMD_ARG_fibre_a, [63]), (BYP_CMD_ARG_fibre_b, [63])], _, _, _, ⟨rfl, rfl, rfl, rfl⟩, rfl, rfl, rfl, by decide +kernel⟩,
   ⟨up [ck 8, (BYP_CTRL_enable, [0])], _, _, ⟨rfl, rfl, rfl, rfl⟩, rfl, rfl, by decide +kernel⟩,
   ⟨up [ck 8, (BYP_CTRL_enable, [1]), (BYP_CMD_ARG_fibre_a, [63]), (BYP_CMD_ARG_fibre_b, [63])], _, _, _, _, _, ⟨rfl, rfl, rfl, rfl⟩, rfl, rfl, by decide +kernel, rfl, rfl, rfl, .inl (by decide +kernel)⟩,
   ⟨up [ck 8, (BYP_CTRL_enable, [1]), (BYP_CMD_ARG_set, [1]), (BYP_CMD_ARG_duplex, [0]), (BYP_CMD_ARG_fibre_a, [62]), (BYP_CMD_ARG_fibre_b, [63]), (BYP_CMD_SEC_sec, [7201]), (BYP_PERMIT_outputs, [2 ^ 63, 0, 62]), (BYP_FIBRE_state, [1, 0, 62])], _, _, _, _, _, ⟨rfl, rfl, rfl, rfl⟩, rfl, rfl, by decide +kernel, rfl, rfl, rfl, by decide +kernel, by decide +kernel⟩,
   ⟨up [ck 8, (BYP_CTRL_enable, [1]), (BYP_CMD_ARG_set, [1]), (BYP_CMD_ARG_duplex, [0]), (BYP_CMD_ARG_fibre_a, [62]), (BYP_CMD_ARG_fibre_b, [63]), (BYP_CMD_SEC_sec, [7201]), (BYP_PERMIT_outputs, [2 ^ 63, 0, 62]), (TIM_STATE_slave_valid, [1]), (TIM_STATE_slave_port, [63])], _, _, _, _, _, ⟨rfl, rfl, rfl, rfl⟩, rfl, rfl, by decide +kernel, rfl, rfl, rfl, by decide +kernel, by decide +kernel, by decide +kernel, by decide +kernel, .inr (by decide +kernel)⟩,
   ⟨up [ck 8, (BYP_CTRL_enable, [1]), (BYP_CMD_ARG_set, [1]), (BYP_CMD_ARG_duplex, [0]), (BYP_CMD_ARG_fibre_a, [62]), (BYP_CMD_ARG_fibre_b, [63]), (BYP_PERMIT_outputs, [2 ^ 63, 0, 62])], _, _, _, _, _, ⟨rfl, rfl, rfl, rfl⟩, rfl, rfl, by decide +kernel, rfl, rfl, rfl, by decide +kernel, by decide +kernel, .inr (.inl (by decide +kernel)), by decide +kernel⟩,
   ⟨up [ck 8, (BYP_CTRL_enable, [1]), (BYP_CMD_ARG_set, [1]), (BYP_CMD_ARG_duplex, [0]), (BYP_CMD_ARG_fibre_a, [62]), (BYP_CMD_ARG_fibre_b, [63]), (BYP_CMD_SEC_sec, [7201]), (BYP_PERMIT_outputs, [2 ^ 63, 0, 62]), (CRN_CTRL_fw_units, [0])], _, _, _, _, _, ⟨rfl, rfl, rfl, rfl⟩, rfl, rfl, by decide +kernel, rfl, rfl, rfl, by decide +kernel, by decide +kernel, .inr (.inl (by decide +kernel)), by decide +kernel, by decide +kernel, by decide +kernel⟩,
   ⟨up [ck 8, (BYP_CTRL_enable, [1]), (BYP_CMD_ARG_set, [1]), (BYP_CMD_ARG_duplex, [0]), (BYP_CMD_ARG_fibre_a, [62]), (BYP_CMD_ARG_fibre_b, [63]), (BYP_CMD_SEC_sec, [7201]), (BYP_PERMIT_outputs, [2 ^ 63, 0, 62]), (CRN_CTRL_fw_units, [1])], _, _, _, _, _, ⟨rfl, rfl, rfl, rfl⟩, rfl, rfl, by decide +kernel, rfl, rfl, rfl, by decide +kernel, by decide +kernel, .inr (.inl (by decide +kernel)), by decide +kernel, .inr (by decide +kernel)⟩,
   ⟨up [ck 8, (BYP_CTRL_enable, [1]), (BYP_CMD_ARG_set, [0]), (BYP_CMD_ARG_duplex, [0]), (BYP_CMD_ARG_fibre_a, [62]), (BYP_CMD_ARG_fibre_b, [63]), (BYP_CMD_SEC_sec, [7201]), (BYP_CIRCUIT_output, [63, 0, 62]), (BYP_CIRCUIT_valid, [1, 0, 62])], _, _, ⟨rfl, rfl, rfl, rfl⟩, rfl, rfl, by decide +kernel, by decide +kernel⟩,
   ⟨up [ck 8, (BYP_CTRL_enable, [1]), (BYP_CMD_ARG_set, [1]), (BYP_CMD_ARG_duplex, [0]), (BYP_CMD_ARG_fibre_a, [62]), (BYP_CMD_ARG_fibre_b, [63]), (BYP_CMD_SEC_sec, [7201]), (BYP_PERMIT_outputs, [2 ^ 63, 0, 62]), (CRN_CTRL_fw_units, [1])], _, _, _, _, _, _, _, _, ⟨rfl, rfl, rfl, rfl⟩, rfl, rfl, by decide +kernel, by decide +kernel, rfl, pick (by decide +kernel), rfl, rfl, rfl, rfl⟩,
   ⟨up [ck 8], _, _, ⟨rfl, rfl, rfl, rfl⟩, rfl, rfl, by decide +kernel⟩,
   ⟨{ up [ck 8, (BYP_CMD_ARG_fibre_a, [62]), (BYP_CMD_ARG_fibre_b, [63])] with byp := { preps := [{ a := 62, b := 63, isSet := true, c := 0, todo := [], quiet := true }] } }, _, _, { a := 62, b := 63, isSet := true, c := 0, todo := [], quiet := true }, ⟨rfl, rfl, rfl, rfl⟩, rfl, rfl, by decide +kernel, .inl (by decide +kernel)⟩,
   ⟨{ up [ck 8, (BYP_CMD_ARG_fibre_a, [62]), (BYP_CMD_ARG_fibre_b, [63])] with byp := { preps := [{ a := 62, b := 63, isSet := false, c := 0, todo := [(62, 63)] }] } }, _, _, { a := 62, b := 63, isSet := false, c := 0, todo := [(62, 63)] }, _, ⟨rfl, rfl, rfl, rfl⟩, rfl, rfl, by decide +kernel, by decide +kernel, by decide +kernel, rfl, by decide +kernel⟩,
   ⟨{ up [ck 8, (BYP_CMD_ARG_fibre_a, [62]), (BYP_CMD_ARG_fibre_b, [63]), (CRN_U_STATUS_state, [1, 0, 31])] with byp := { preps := [{ a := 62, b := 63, isSet := true, c := 0, todo := [(62, 63)], quietAt := 10 ^ 40, unit := some 31 }] } }, _, _, { a := 62, b := 63, isSet := true, c := 0, todo := [(62, 63)], quietAt := 10 ^ 40, unit := some 31 }, _, fun t f => if ({ a := 62, b := 63, isSet := true, c := 0, todo := [(62, 63)], quietAt := 10 ^ 40, unit := some 31 } : BypPrep).sent.getD 0 f = 0 then t.bypNormal f else ((t.bypNormal f).sendLmf f (({ a := 62, b := 63, isSet := true, c := 0, todo := [(62, 63)], quietAt := 10 ^ 40, unit := some 31 } : BypPrep).notice f false)).cnt BYP_NOTICE_TX_count, _, 31, ⟨rfl, rfl, rfl, rfl⟩, rfl, rfl, by decide +kernel, by decide +kernel, by decide +kernel, rfl, by decide +kernel, by decide +kernel, fun _ _ => rfl, rfl, by decide +kernel, by decide +kernel⟩,
   ⟨{ up [ck 8, (BYP_CMD_ARG_fibre_a, [62]), (BYP_CMD_ARG_fibre_b, [63])] with byp := { preps := [{ a := 62, b := 63, isSet := true, c := 0, todo := [(62, 63)], quietAt := 10 ^ 40 }] } }, _, _, { a := 62, b := 63, isSet := true, c := 0, todo := [(62, 63)], quietAt := 10 ^ 40 }, _, fun t f => if ({ a := 62, b := 63, isSet := true, c := 0, todo := [(62, 63)], quietAt := 10 ^ 40 } : BypPrep).sent.getD 0 f = 0 then t.bypNormal f else ((t.bypNormal f).sendLmf f (({ a := 62, b := 63, isSet := true, c := 0, todo := [(62, 63)], quietAt := 10 ^ 40 } : BypPrep).notice f false)).cnt BYP_NOTICE_TX_count, _, ⟨rfl, rfl, rfl, rfl⟩, rfl, rfl, by decide +kernel, by decide +kernel, by decide +kernel, rfl, by decide +kernel, by decide +kernel, fun _ _ => rfl, rfl, (fun _ h => nomatch h)⟩⟩

/-- Each clause of BypassEffects that has hypotheses: a state and operands that meet them. -/
theorem witness_BypassEffects :
    (∃ (s : State) (k : _), s.alive = true ∧ k < 32) ∧
    (∃ (s : State) (k : _) (code : _) (p : _), s.alive = true ∧ (s.emit (.fwInt code)).byp.preps.find? (fun p => p.unit = some k && !p.quiet) = some p) ∧
    (∃ (s : State) (k : _) (code : _), s.alive = true ∧ (s.emit (.fwInt code)).byp.preps.find? (fun p => p.unit = some k && !p.quiet) = none) ∧
    (∃ (s : State) (i : _) (o : _) (set : _), s.alive = true ∧ s.byp.preps.find? (fun p => p.isSet = set && p.todo.contains (i, o) && p.c + 12 * NS ≤ s.fclk && s.fclk ≤ p.c + 20 * NS) = none) ∧
    (∃ (s : State) (i : _) (o : _) (set : _) (p : _), s.alive = true ∧ s.byp.preps.find? (fun p => p.isSet = set && p.todo.contains (i, o) && p.c + 12 * NS ≤ s.fclk && s.fclk ≤ p.c + 20 * NS) = some p ∧ s.flag BYP_CTRL_enable = false) ∧
    (∃ (s : State) (i : _) (o : _) (set : _) (p : _) (v : _), s.alive = true ∧ s.byp.preps.find? (fun p => p.isSet = set && p.todo.contains (i, o) && p.c + 12 * NS ≤ s.fclk && s.fclk ≤ p.c + 20 * NS) = some p ∧ s.flag BYP_CTRL_enable = true ∧ v = (s.putPrep { p with todo := p.todo.filter (· ≠ (i, o)), done := p.done ++ [(i, o)] }).setPending i false false ∧ set = true) ∧
    (∃ (s : State) (i : _) (o : _) (set : _) (p : _) (v : _) (g : State → Nat → State) (w : _), s.alive = true ∧ s.byp.preps.find? (fun p => p.isSet = set && p.todo.contains (i, o) && p.c + 12 * NS ≤ s.fclk && s.fclk ≤ p.c + 20 * NS) = some p ∧ s.flag BYP_CTRL_enable = true ∧ v = (s.putPrep { p with todo := p.todo.filter (· ≠ (i, o)), done := p.done ++ [(i, o)] }).setPending i false false ∧ set = false ∧ (∀ t f, g t f = if t.inCircuit f = true then t else t.leaveBypass f) ∧ w = g (g (((v.wr BYP_CIRCUIT_output 0 0 i).wr BYP_CIRCUIT_valid 0 0 i).cnt BYP_CLEAR_DONE_count) p.a) p.b ∧ (∀ d ∈ p.todo, d = (i, o))) ∧
    (∃ (s : State) (i : _) (o : _) (set : _) (p : _) (v : _) (g : State → Nat → State) (w : _), s.alive = true ∧ s.byp.preps.find? (fun p => p.isSet = set && p.todo.contains (i, o) && p.c + 12 * NS ≤ s.fclk && s.fclk ≤ p.c + 20 * NS) = some p ∧ s.flag BYP_CTRL_enable = true ∧ v = (s.putPrep { p with todo := p.todo.filter (· ≠ (i, o)), done := p.done ++ [(i, o)] }).setPending i false false ∧ set = false ∧ (∀ t f, g t f = if t.inCircuit f = true then t else t.leaveBypass f) ∧ w = g (g (((v.wr BYP_CIRCUIT_output 0 0 i).wr BYP_CIRCUIT_valid 0 0 i).cnt BYP_CLEAR_DONE_count) p.a) p.b ∧ (∃ d ∈ p.todo, d ≠ (i, o))) ∧
    (∃ (s : State), s.alive = true ∧ (s.byp.preps.filter fun p => p.todo ≠ [] && decide (p.c + 20 * NS < s.fclk)) = []) ∧
    (∃ (s : State) (p : _) (v : _), s.alive = true ∧ (s.byp.preps.filter fun p => p.todo ≠ [] && decide (p.c + 20 * NS < s.fclk)) = [p] ∧ v = (p.todo.foldl (fun t d => t.setPending d.1 false false) s).cnt BYP_MISSED_count ∧ p.done = [] ∧ p.isSet = true) ∧
    (∃ (s : State) (p : _) (v : _), s.alive = true ∧ (s.byp.preps.filter fun p => p.todo ≠ [] && decide (p.c + 20 * NS < s.fclk)) = [p] ∧ v = (p.todo.foldl (fun t d => t.setPending d.1 false false) s).cnt BYP_MISSED_count ∧ p.done = [] ∧ p.isSet = false) ∧
    (∃ (s : State) (p : _) (v : _), s.alive = true ∧ (s.byp.preps.filter fun p => p.todo ≠ [] && decide (p.c + 20 * NS < s.fclk)) = [p] ∧ v = (p.todo.foldl (fun t d => t.setPending d.1 false false) s).cnt BYP_MISSED_count ∧ p.done ≠ [] ∧ p.isSet = true) ∧
    (∃ (s : State) (p : _) (v : _), s.alive = true ∧ (s.byp.preps.filter fun p => p.todo ≠ [] && decide (p.c + 20 * NS < s.fclk)) = [p] ∧ v = (p.todo.foldl (fun t d => t.setPending d.1 false false) s).cnt BYP_MISSED_count ∧ p.done ≠ [] ∧ p.isSet = false) ∧
    (∃ (s : State), s.alive = true ∧ (s.byp.preps.filter fun p => p.todo = [] && p.done ≠ []) = []) ∧
    (∃ (s : State) (p : _), s.alive = true ∧ (s.byp.preps.filter fun p => p.todo = [] && p.done ≠ []) = [p]) ∧
    (∃ (s : State) (f : _) (id : _) (set : _) (sec : _) (ns : _) (c : _), s.alive = true ∧ f < 64 ∧ id < 65536 ∧ set < 2 ∧ c = clkOf sec (ns / 2) (ns % 2) ∧ s.bypassed f = true) ∧
    (∃ (s : State) (f : _) (id : _) (set : _) (sec : _) (ns : _) (c : _), s.alive = true ∧ f < 64 ∧ id < 65536 ∧ set < 2 ∧ c = clkOf sec (ns / 2) (ns % 2) ∧ s.bypassed f = false ∧ c < s.fclk + s.mldClk f + 2000 * NS) ∧
    (∃ (s : State) (f : _) (id : _) (set : _) (sec : _) (ns : _) (c : _) (rest : _), s.alive = true ∧ f < 64 ∧ id < 65536 ∧ set < 2 ∧ c = clkOf sec (ns / 2) (ns % 2) ∧ s.bypassed f = false ∧ s.fclk + s.mldClk f + 2000 * NS ≤ c ∧ rest = ((s.fib f).cuts.filter fun k => !(k.id = id && !k.done && decide (s.fclk < k.c)) && decide (s.fclk ≤ k.c + s.mldClk f + 200000 * NS))) ∧
    (∃ (s : State) (f : _), s.alive = true ∧ f < 64 ∧ ((∀ k ∈ (s.fib f).cuts, k.done = true ∨ s.fclk < k.c + s.mldClk f))) ∧
    (∃ (s : State) (f : _) (v : _), s.alive = true ∧ f < 64 ∧ ((∃ k ∈ (s.fib f).cuts, k.done = false ∧ k.c + s.mldClk f ≤ s.fclk)) ∧ v = (s.setFib f { s.fib f with cuts := (s.fib f).cuts.map fun (k : ByCut) => if k.c + s.mldClk f ≤ s.fclk then { k with done := true } else k }).leave (lanesOf f) 6 ∧ v.flag TRV_CTRL_enable = true ∧ v.trv f ≠ 7) ∧
    (∃ (s : State) (f : _) (v : _), s.alive = true ∧ f < 64 ∧ ((∃ k ∈ (s.fib f).cuts, k.done = false ∧ k.c + s.mldClk f ≤ s.fclk)) ∧ v = (s.setFib f { s.fib f with cuts := (s.fib f).cuts.map fun (k : ByCut) => if k.c + s.mldClk f ≤ s.fclk then { k with done := true } else k }).leave (lanesOf f) 6 ∧ ((v.flag TRV_CTRL_enable = false ∨ v.trv f = 7))) ∧
    (∃ (s : State) (c : _), s.alive = true ∧ s.byp.powAt = some c ∧ s.cyc < c + msCyc 1) ∧
    (∃ (s : State) (powers : List Nat) (low : _) (v : _) (w : _), s.alive = true ∧ ((∀ c, s.byp.powAt = some c → c + msCyc 1 ≤ s.cyc)) ∧ low = ((List.range 64).filter fun f => s.flag BYP_CIRCUIT_valid 0 f && belowDbm (powers.getD f 0 % 2 ^ 40) (s.rd LNK_ERR_CFG_los_dbm (f / 8))) ∧ v = (List.range 64).foldl (fun t f => t.wr BYP_INPOW_power (powers.getD f 0 % 2 ^ 40) 0 f) s ∧ w = { v with byp := { v.byp with low := low, powAt := some v.cyc } } ∧ (∃ f ∈ low, f ∈ s.byp.low)) ∧
    (∃ (s : State) (powers : List Nat) (low : _) (v : _) (w : _), s.alive = true ∧ ((∀ c, s.byp.powAt = some c → c + msCyc 1 ≤ s.cyc)) ∧ low = ((List.range 64).filter fun f => s.flag BYP_CIRCUIT_valid 0 f && belowDbm (powers.getD f 0 % 2 ^ 40) (s.rd LNK_ERR_CFG_los_dbm (f / 8))) ∧ v = (List.range 64).foldl (fun t f => t.wr BYP_INPOW_power (powers.getD f 0 % 2 ^ 40) 0 f) s ∧ w = { v with byp := { v.byp with low := low, powAt := some v.cyc } } ∧ (∀ f ∈ low, f ∉ s.byp.low)) ∧
    (∃ (s : State) (i : _), s.alive = true ∧ i < 64 ∧ s.flag BYP_CIRCUIT_valid 0 i = true) ∧
    (∃ (s : State) (i : _), s.alive = true ∧ i < 64 ∧ s.flag BYP_CIRCUIT_valid 0 i = false) ∧
    (∃ (s : State) (f : _), s.alive = true ∧ f < 64) ∧
    (∃ (s : State), s.alive = true ∧ s.fwq = []) ∧
    (∃ (s : State) (a : _) (r : _), s.alive = true ∧ s.fwq = a :: r ∧ s.idleFw.isSome = true ∧ s.atMicro = true) ∧
    (∃ (s : State) (a : _) (r : _), s.alive = true ∧ s.fwq = a :: r ∧ ((s.idleFw = none ∨ s.atMicro = false))) :=
  ⟨⟨up [], 31, by decide +kernel, by decide +kernel⟩,
   ⟨{ up [] with byp := { preps := [{ a := 62, b := 63, isSet := true, c := 0, todo := [], unit := some 31 }] } }, 31, 5, { a := 62, b := 63, isSet := true, c := 0, todo := [], unit := some 31 }, by decide +kernel, by decide +kernel⟩,
   ⟨up [], 31, 5, by decide +kernel, by decide +kernel⟩,
   ⟨up [], 62, 63, true, by decide +kernel, by decide +kernel⟩,
   ⟨{ up [(BYP_CTRL_enable, [0])] with byp := { preps := [{ a := 62, b := 63, isSet := true, c := (7200 * 10 ^ 9 - 16) * NS, todo := [(62, 63)] }] } }, 62, 63, true, { a := 62, b := 63, isSet := true, c := (7200 * 10 ^ 9 - 16) * NS, todo := [(62, 63)] }, by decide +kernel, by decide +kernel, by decide +kernel⟩,
   ⟨{ up [(BYP_CTRL_enable, [1])] with byp := { preps := [{ a := 62, b := 63, isSet := true, c := (7200 * 10 ^ 9 - 12) * NS, todo := [(62, 63)] }] } }, 62, 63, true, { a := 62, b := 63, isSet := true, c := (7200 * 10 ^ 9 - 12) * NS, todo := [(62, 63)] }, _, by decide +kernel, by decide +kernel, by decide +kernel, rfl, by decide +kernel⟩,
   ⟨{ up [(BYP_CTRL_enable, [1])] with byp := { preps := [{ a := 62, b := 63, isSet := false, c := (7200 * 10 ^ 9 - 20) * NS, todo := [(62, 63)] }] } }, 62, 63, false, { a := 62, b := 63, isSet := false, c := (7200 * 10 ^ 9 - 20) * NS, todo := [(62, 63)] }, _, fun t f => if t.inCircuit f = true then t else t.leaveBypass f, _, by decide +kernel, by decide +kernel, by decide +kernel, rfl, by decide +kernel, fun _ _ => rfl, rfl, by decide +kernel⟩,
   ⟨{ up [(BYP_CTRL_enable, [1])] with byp := { preps := [{ a := 62, b := 63, isSet := false, c := (7200 * 10 ^ 9 - 20) * NS, todo := [(62, 63), (63, 62)] }] } }, 62, 63, false, { a := 62, b := 63, isSet := false, c := (7200 * 10 ^ 9 - 20) * NS, todo := [(62, 63), (63, 62)] }, _, fun t f => if t.inCircuit f = true then t else t.leaveBypass f, _, by decide +kernel, by decide +kernel, by decide +kernel, rfl, by decide +kernel, fun _ _ => rfl, rfl, by decide +kernel⟩,
   ⟨up [], by decide +kernel, by decide +kernel⟩,
   ⟨{ up [] with byp := { preps := [{ a := 62, b := 63, isSet := true, c := 0, todo := [(62, 63)] }] } }, { a := 62, b := 63, isSet := true, c := 0, todo := [(62, 63)] }, _, by decide +kernel, by decide +kernel, rfl, by decide +kernel, by decide +kernel⟩,
   ⟨{ up [] with byp := { preps := [{ a := 62, b := 63, isSet := false, c := 0, todo := [(62, 63)] }] } }, { a := 62, b := 63, isSet := false, c := 0, todo := [(62, 63)] }, _, by decide +kernel, by decide +kernel, rfl, by decide +kernel, by decide +kernel⟩,
   ⟨{ up [] with byp := { preps := [{ a := 62, b := 63, isSet := true, c := 0, todo := [(62, 63)], done := [(63, 62)] }] } }, { a := 62, b := 63, isSet := true, c := 0, todo := [(62, 63)], done := [(63, 62)] }, _, by decide +kernel, by decide +kernel, rfl, by decide +kernel, by decide +kernel⟩,
   ⟨{ up [] with byp := { preps := [{ a := 62, b := 63, isSet := false, c := 0, todo := [(62, 63)], done := [(63, 62)] }] } }, { a := 62, b := 63, isSet := false, c := 0, todo := [(62, 63)], done := [(63, 62)] }, _, by decide +kernel, by decide +kernel, rfl, by decide +kernel, by decide +kernel⟩,
   ⟨up [], by decide +kernel, by decide +kernel⟩,
   ⟨{ up [] with byp := { preps := [{ a := 62, b := 63, isSet := true, c := 0, todo := [], done := [(62, 63)] }] } }, { a := 62, b := 63, isSet := true, c := 0, todo := [], done := [(62, 63)] }, by decide +kernel, by decide +kernel⟩,
   ⟨byFib, 63, 65535, 1, 7200, 0, _, by decide +kernel, by decide +kernel, by decide +kernel, by decide +kernel, rfl, by decide +kernel⟩,
   ⟨up [], 63, 65535, 1, 7200, 0, _, by decide +kernel, by decide +kernel, by decide +kernel, by decide +kernel, rfl, by decide +kernel, by decide +kernel⟩,
   ⟨up [], 63, 65535, 1, 7201, 0, _, _, by decide +kernel, by decide +kernel, by decide +kernel, by decide +kernel, rfl, by decide +kernel, by decide +kernel, rfl⟩,
   ⟨up [], 63, by decide +kernel, by decide +kernel, by decide +kernel⟩,
   ⟨{ up [(TRV_CTRL_enable, [1])] with link := { fibres := [(63, { cuts := [{ id := 1, c := 0 }] })] } }, 63, _, by decide +kernel, by decide +kernel, by decide +kernel, rfl, by decide +kernel, by decide +kernel⟩,
   ⟨{ up [(TRV_CTRL_enable, [0])] with link := { fibres := [(63, { cuts := [{ id := 1, c := 0 }] })] } }, 63, _, by decide +kernel, by decide +kernel, by decide +kernel, rfl, .inl (by decide +kernel)⟩,
   ⟨{ up [] with byp := { powAt := some (10 ^ 13) } }, 10 ^ 13, by decide +kernel, by decide +kernel, by decide +kernel⟩,
   ⟨{ up [(BYP_CIRCUIT_valid, [1, 0, 63]), (LNK_ERR_CFG_los_dbm, [255, 7])] with byp := { low := [63] } }, [], _, _, _, by decide +kernel, (fun c h => nomatch h), rfl, rfl, rfl, by decide +kernel⟩,
   ⟨up [], [], _, _, _, by decide +kernel, (fun c h => nomatch h), rfl, rfl, rfl, by decide +kernel⟩,
   ⟨up [(BYP_CIRCUIT_valid, [1, 0, 63])], 63, by decide +kernel, by decide +kernel, by decide +kernel⟩,
   ⟨up [], 63, by decide +kernel, by decide +kernel, by decide +kernel⟩,
   ⟨up [], 63, by decide +kernel, by decide +kernel⟩,
   ⟨up [], by decide +kernel, by decide +kernel⟩,
   ⟨{ up [(CRN_CTRL_fw_units, [1])] with fwq := [{ cls := 13, arg := 0, lead := 0 }] }, { cls := 13, arg := 0, lead := 0 }, [], by decide +kernel, by decide +kernel, by decide +kernel, by decide +kernel⟩,
   ⟨{ up [(CRN_CTRL_fw_units, [0])] with fwq := [{ cls := 13, arg := 0, lead := 0 }] }, { cls := 13, arg := 0, lead := 0 }, [], by decide +kernel, by decide +kernel, .inl (by decide +kernel)⟩⟩

/-- Each clause of GroupCommits that has hypotheses: a state and operands that meet them. -/
theorem witness_GroupCommits :
    (∃ (s : State) (m : Nat), ((16 ≤ m ∨ bit m 0 = true ∧ s.mapBad = true))) ∧
    (∃ (s : State) (m : Nat), m < 16 ∧ ((bit m 0 = true → s.mapBad = false)) ∧ bit m 3 = true ∧ s.partBad = true) ∧
    (∃ (s : State) (m : Nat), m < 16 ∧ ((bit m 0 = true → s.mapBad = false)) ∧ bit m 3 = true ∧ s.partBad = false ∧ s.bankOut = true) ∧
    (∃ (s : State) (m : Nat), m < 16 ∧ ((bit m 0 = true → s.mapBad = false)) ∧ bit m 3 = true ∧ s.partBad = false ∧ s.bankOut = false ∧ s.poolMoved = true) ∧
    (∃ (s : State) (m : Nat), m < 16 ∧ ((bit m 0 = true → s.mapBad = false)) ∧ ((bit m 3 = true → s.partBad = false ∧ s.bankOut = false ∧ s.poolMoved = false))) ∧
    (∃ (s : State) (m : Nat) (par : Nat), s.commitCause m par = 0) ∧
    (∃ (s : State) (m : Nat) (par : Nat) (r : _), s.commitCause m par = r ∧ r ≠ 0 ∧ ((bit m 0 = false ∨ s.mapBad = false))) ∧
    (∃ (s : State) (m : Nat) (par : Nat) (r : _) (g : State → Nat → State), s.commitCause m par = r ∧ r ≠ 0 ∧ (∀ t e, g t e = if (stagedFields 0).any (fun x => x.2.1 = e && t.hasStaged x) = true then t.irq (0x38 + e) 3 else t) ∧ bit m 0 = true ∧ s.mapBad = true) ∧
    (∃ (s : State) (par : Nat) (u : _) (t : _), s.served 6 0x120 ∧ u = s.event 6 4 ∧ u.commit (u.rd DTM_CMD_ARG_groups) par false = (0, t)) ∧
    (∃ (s : State) (par : Nat) (u : _) (r : _) (t : _), s.served 6 0x120 ∧ u = s.event 6 4 ∧ u.commit (u.rd DTM_CMD_ARG_groups) par false = (r, t) ∧ r ≠ 0) ∧
    (∃ (s : State) (u : _), s.served 6 0x120 ∧ u = s.event 6 4 ∧ 16 ≤ u.rd DTM_CMD_ARG_groups) ∧
    (∃ (s : State) (u : _), s.served 6 0x120 ∧ u = s.event 6 4 ∧ u.rd DTM_CMD_ARG_groups < 16) ∧
    (∃ (s : State) (k : _), s.alive = true ∧ k < 32) :=
  ⟨⟨up [], 16, .inl (by decide +kernel)⟩,
   ⟨(up []).stage MEM_PART_BASE_base 65535 0 0, 8, by decide +kernel, fun h => absurd h (by decide +kernel), by decide +kernel, by decide +kernel⟩,
   ⟨(up [(LDG_CFG_enable, [1, 0, 0]), (LDG_BANK_bank_bytes, [1, 0, 0])]).stage MEM_PART_SIZE_size 0 0 0, 8, by decide +kernel, fun h => absurd h (by decide +kernel), by decide +kernel, by decide +kernel, by decide +kernel⟩,
   ⟨{ (up []).stage MEM_PART_SIZE_size 2047 0 2 with pool := { used := [(2, [0])] } }, 8, by decide +kernel, fun h => absurd h (by decide +kernel), by decide +kernel, by decide +kernel, by decide +kernel, by decide +kernel⟩,
   ⟨up [], 14, by decide +kernel, fun h => absurd h (by decide +kernel), fun _ => ⟨by decide +kernel, by decide +kernel, by decide +kernel⟩⟩,
   ⟨up [], 14, 1, by decide +kernel⟩,
   ⟨up [], 8, 8, _, rfl, by decide +kernel, .inl (by decide +kernel)⟩,
   ⟨up [(LP_CFG_enable, [1, 0, 1023])], 1, 0, _, fun t e => if (stagedFields 0).any (fun x => x.2.1 = e && t.hasStaged x) = true then t.irq (0x38 + e) 3 else t, rfl, by decide +kernel, fun _ _ => rfl, by decide +kernel, by decide +kernel⟩,
   ⟨up [ck 6], 0, _, _, ⟨rfl, rfl, rfl, rfl⟩, rfl, pairT (by decide +kernel)⟩,
   ⟨up [ck 6, (DTM_CMD_ARG_groups, [16])], 0, _, 1, _, ⟨rfl, rfl, rfl, rfl⟩, rfl, pairT (by decide +kernel), by decide +kernel⟩,
   ⟨up [ck 6, (DTM_CMD_ARG_groups, [16])], _, ⟨rfl, rfl, rfl, rfl⟩, rfl, by decide +kernel⟩,
   ⟨up [ck 6, (DTM_CMD_ARG_groups, [15])], _, ⟨rfl, rfl, rfl, rfl⟩, rfl, by decide +kernel⟩,
   ⟨up [], 31, by decide +kernel, by decide +kernel⟩⟩

/-- Each clause of SliceCommitsAndPurges that has hypotheses: a state and operands that meet them. -/
theorem witness_SliceCommitsAndPurges :
    (∃ (s : State) (sl : Nat), sl < 4096 ∧ s.sliceState sl = 2) ∧
    (∃ (s : State) (sl : Nat) (a : _) (b : _), sl < 4096 ∧ s.sliceState sl ≠ 2 ∧ a = s.applySlice sl ∧ b = (if s.sliceState sl = 0 then (a.wr FWD_SLICE_EPOCH_cur_epoch 1 0 sl).setSliceState sl 1 else a)) ∧
    (∃ (s : State) (sl : Nat) (k : _), sl < 4096 ∧ s.alive = true ∧ k < 32) ∧
    (∃ (s : State) (sl : Nat) (u : _) (t : _), sl < 4096 ∧ s.served 6 0x120 ∧ u = s.event 6 4 ∧ u.sliceCommit (u.rd DTM_CMD_ARG_slice) false = (t, true)) ∧
    (∃ (s : State) (sl : Nat) (u : _) (t : _), sl < 4096 ∧ s.served 6 0x120 ∧ u = s.event 6 4 ∧ u.sliceCommit (u.rd DTM_CMD_ARG_slice) false = (t, false)) ∧
    (∃ (s : State) (sl : Nat) (u : _), sl < 4096 ∧ s.served 6 0x120 ∧ u = s.event 6 4 ∧ u.sliceState (u.rd DTM_CMD_ARG_slice) ≠ 1) ∧
    (∃ (s : State) (sl : Nat) (u : _) (n : _) (v : _), sl < 4096 ∧ s.served 6 0x120 ∧ u = s.event 6 4 ∧ n = u.rd DTM_CMD_ARG_slice ∧ u.sliceState n = 1 ∧ v = ((u.setSliceState n 2).dropStaged n).purgeSerai n) ∧
    (∃ (s : State) (sl : Nat), sl < 4096 ∧ s.alive = true ∧ ((s.sliceState sl ≠ 2 ∨ (∃ x ∈ s.flights, x.pkt.slice = sl) ∨ (∃ x ∈ s.link.rer, x.pkt.slice = sl) ∨ ∃ k ∈ s.sliceChunks sl, k.live = true ∨ k.state = 6))) ∧
    (∃ (s : State) (sl : Nat) (v : State) (w : State), sl < 4096 ∧ s.alive = true ∧ s.sliceState sl = 2 ∧ (∀ x ∈ s.flights, x.pkt.slice ≠ sl) ∧ (∀ x ∈ s.link.rer, x.pkt.slice ≠ sl) ∧ ((∀ k ∈ s.sliceChunks sl, k.live = false ∧ k.state ≠ 6)) ∧ v = (((s.clearSlice sl).wr FWD_SLICE_EPOCH_cur_epoch 0 0 sl).wr FWD_SLICE_EPOCH_draining 0 0 sl).wr FWD_SLICE_EPOCH_flip_rejected 0 0 sl ∧ w = { v with fwd := { v.fwd with drainEnd := v.fwd.drainEnd.del sl }, qsh := { v.qsh with pol := v.qsh.pol.filter fun x => x.1 / 8 ≠ sl }, dtm := { v.dtm with sums := v.dtm.sums.del sl, checks := v.dtm.checks.filter fun c => !(c.kind = 2 && c.subj = sl) } }) ∧
    (∃ (s : State) (sl : Nat) (u : State) (n : _) (bad : _), sl < 4096 ∧ s.served 6 0x300 ∧ u = s.event 6 4 ∧ n = u.rd DTM_TKEY_slice ∧ bad = u.cnt DTM_PARITY_count) ∧
    (∃ (s : State) (sl : Nat) (u : State) (n : _) (bad : _), sl < 4096 ∧ s.served 6 0x300 ∧ u = s.event 6 4 ∧ n = u.rd DTM_TKEY_slice ∧ bad = u.cnt DTM_PARITY_count ∧ u.isBad TB_QUOTA 0 n 0 16 = false) ∧
    (∃ (s : State) (sl : Nat) (u : State) (n : _) (bad : _), sl < 4096 ∧ s.served 6 0x300 ∧ u = s.event 6 4 ∧ n = u.rd DTM_TKEY_slice ∧ bad = u.cnt DTM_PARITY_count ∧ u.isBad TB_QUOTA 0 n 0 16 = true) ∧
    (∃ (s : State) (sl : Nat) (u : State) (n : _) (bad : _), sl < 4096 ∧ s.served 6 0x300 ∧ u = s.event 6 4 ∧ n = u.rd DTM_TKEY_slice ∧ bad = u.cnt DTM_PARITY_count ∧ (∀ w < 5, u.isBad TB_EXPECT 0 n w 16 = false)) ∧
    (∃ (s : State) (sl : Nat) (u : State) (n : _) (bad : _), sl < 4096 ∧ s.served 6 0x300 ∧ u = s.event 6 4 ∧ n = u.rd DTM_TKEY_slice ∧ bad = u.cnt DTM_PARITY_count ∧ (∃ w < 5, u.isBad TB_EXPECT 0 n w 16 = true)) ∧
    (∃ (s : State) (sl : Nat) (u : State) (n : _) (bad : _) (k : _), sl < 4096 ∧ s.served 6 0x300 ∧ u = s.event 6 4 ∧ n = u.rd DTM_TKEY_slice ∧ bad = u.cnt DTM_PARITY_count ∧ k < 16 ∧ 4 ≤ k) ∧
    (∃ (s : State) (sl : Nat) (u : State) (n : _) (bad : _) (k : _), sl < 4096 ∧ s.served 6 0x300 ∧ u = s.event 6 4 ∧ n = u.rd DTM_TKEY_slice ∧ bad = u.cnt DTM_PARITY_count ∧ k < 16 ∧ k ≠ 1 ∧ k ≠ 3) ∧
    (∃ (s : State) (sl : Nat) (u : State) (n : _) (bad : _), sl < 4096 ∧ s.served 6 0x300 ∧ u = s.event 6 4 ∧ n = u.rd DTM_TKEY_slice ∧ bad = u.cnt DTM_PARITY_count ∧ u.sliceState n = 2) ∧
    (∃ (s : State) (sl : Nat) (u : State) (n : _) (bad : _) (c : _) (g : _) (x : _), sl < 4096 ∧ s.served 6 0x300 ∧ u = s.event 6 4 ∧ n = u.rd DTM_TKEY_slice ∧ bad = u.cnt DTM_PARITY_count ∧ u.sliceState n ≠ 2 ∧ c = fld (u.rd DTM_TDATA_data 0 0) 0 14 ∧ g = fld (u.rd DTM_TDATA_data 0 0) 16 13 ∧ x = fld (u.rd DTM_TDATA_data 0 0) 32 15 ∧ ((8192 < c ∨ 4096 < g ∨ 16384 < x))) ∧
    (∃ (s : State) (sl : Nat) (u : State) (n : _) (bad : _) (c : _) (g : _) (x : _), sl < 4096 ∧ s.served 6 0x300 ∧ u = s.event 6 4 ∧ n = u.rd DTM_TKEY_slice ∧ bad = u.cnt DTM_PARITY_count ∧ u.sliceState n ≠ 2 ∧ c = fld (u.rd DTM_TDATA_data 0 0) 0 14 ∧ g = fld (u.rd DTM_TDATA_data 0 0) 16 13 ∧ x = fld (u.rd DTM_TDATA_data 0 0) 32 15 ∧ c ≤ 8192 ∧ g ≤ 4096 ∧ x ≤ 16384) ∧
    (∃ (s : State) (sl : Nat) (u : State) (v : State) (n : _) (bad : _), sl < 4096 ∧ s.served 6 0x300 ∧ u = s.event 6 4 ∧ n = u.rd DTM_TKEY_slice ∧ bad = u.cnt DTM_PARITY_count ∧ u.sliceState n ≠ 2 ∧ v = (List.range 5).foldl (fun t w => t.dtmStage TB_EXPECT n w (if w = 4 then u.rd DTM_TDATA_data 0 w % 4 else u.rd DTM_TDATA_data 0 w)) u) :=
  ⟨⟨(up []).setSliceState 4095 2, 4095, by decide +kernel, by decide +kernel⟩,
   ⟨up [], 4095, _, _, by decide +kernel, by decide +kernel, rfl, rfl⟩,
   ⟨up [], 4095, 31, by decide +kernel, by decide +kernel, by decide +kernel⟩,
   ⟨up [ck 6, (DTM_CMD_ARG_slice, [4095])], 0, _, _, by decide +kernel, ⟨rfl, rfl, rfl, rfl⟩, rfl, pairL (by decide +kernel)⟩,
   ⟨(up [ck 6, (DTM_CMD_ARG_slice, [4095])]).setSliceState 4095 2, 0, _, _, by decide +kernel, ⟨rfl, rfl, rfl, rfl⟩, rfl, pairL (by decide +kernel)⟩,
   ⟨up [ck 6, (DTM_CMD_ARG_slice, [4095])], 0, _, by decide +kernel, ⟨rfl, rfl, rfl, rfl⟩, rfl, by decide +kernel⟩,
   ⟨(up [ck 6, (DTM_CMD_ARG_slice, [4095])]).setSliceState 4095 1, 0, _, _, _, by decide +kernel, ⟨rfl, rfl, rfl, rfl⟩, rfl, rfl, by decide +kernel, rfl⟩,
   ⟨up [], 4095, by decide +kernel, by decide +kernel, .inl (by decide +kernel)⟩,
   ⟨(up []).setSliceState 4095 2, 4095, _, _, by decide +kernel, by decide +kernel, by decide +kernel, by decide +kernel, by decide +kernel, by decide +kernel, rfl, rfl⟩,
   ⟨up [ck 6, (DTM_TKEY_slice, [4095])], 0, _, _, _, by decide +kernel, ⟨rfl, rfl, rfl, rfl⟩, rfl, rfl, rfl⟩,
   ⟨up [ck 6, (DTM_TKEY_slice, [4095])], 0, _, _, _, by decide +kernel, ⟨rfl, rfl, rfl, rfl⟩, rfl, rfl, rfl, by decide +kernel⟩,
   ⟨{ up [ck 6, (DTM_TKEY_slice, [4095])] with bad := [tkey TB_QUOTA 0 4095 0 * 32 + 16] }, 0, _, _, _, by decide +kernel, ⟨rfl, rfl, rfl, rfl⟩, rfl, rfl, rfl, by decide +kernel⟩,
   ⟨up [ck 6, (DTM_TKEY_slice, [4095])], 0, _, _, _, by decide +kernel, ⟨rfl, rfl, rfl, rfl⟩, rfl, rfl, rfl, by decide +kernel⟩,
   ⟨{ up [ck 6, (DTM_TKEY_slice, [4095])] with bad := [tkey TB_EXPECT 0 4095 4 * 32 + 16] }, 0, _, _, _, by decide +kernel, ⟨rfl, rfl, rfl, rfl⟩, rfl, rfl, rfl, by decide +kernel⟩,
   ⟨up [ck 6], 0, _, _, _, 15, by decide +kernel, ⟨rfl, rfl, rfl, rfl⟩, rfl, rfl, rfl, by decide +kernel, by decide +kernel⟩,
   ⟨up [ck 6], 0, _, _, _, 0, by decide +kernel, ⟨rfl, rfl, rfl, rfl⟩, rfl, rfl, rfl, by decide +kernel, by decide +kernel, by decide +kernel⟩,
   ⟨(up [ck 6, (DTM_TKEY_slice, [4095])]).setSliceState 4095 2, 0, _, _, _, by decide +kernel, ⟨rfl, rfl, rfl, rfl⟩, rfl, rfl, rfl, by decide +kernel⟩,
   ⟨up [ck 6, (DTM_TKEY_slice, [4095]), (DTM_TDATA_data, [8193])], 0, _, _, _, _, _, _, by decide +kernel, ⟨rfl, rfl, rfl, rfl⟩, rfl, rfl, rfl, by decide +kernel, rfl, rfl, rfl, .inl (by decide +kernel)⟩,
   ⟨up [ck 6, (DTM_TKEY_slice, [4095]), (DTM_TDATA_data, [8192 ||| 4096 <<< 16 ||| 16384 <<< 32])], 0, _, _, _, _, _, _, by decide +kernel, ⟨rfl, rfl, rfl, rfl⟩, rfl, rfl, rfl, by decide +kernel, rfl, rfl, rfl, by decide +kernel, by decide +kernel, by decide +kernel⟩,
   ⟨up [ck 6, (DTM_TKEY_slice, [4095])], 0, _, _, _, _, by decide +kernel, ⟨rfl, rfl, rfl, rfl⟩, rfl, rfl, rfl, by decide +kernel, rfl⟩⟩

/-- Each clause of DatumAndBeacons that has hypotheses: a state and operands that meet them. -/
theorem witness_DatumAndBeacons :
    (∃ (s : State) (u : _), s.served 6 0x120 ∧ u = s.event 6 4) ∧
    (∃ (s : State), s.alive = true ∧ s.dtm.walking = false) ∧
    (∃ (s : State) (t : State) (u : State) (m : _) (diff : _), s.alive = true ∧ s.dtm.walking = true ∧ m = s.moduleAfresh ∧ t = { s with dtm := { s.dtm with module := m, sums := s.slicesAfresh, walking := false } } ∧ diff = ((List.range 4096).filter fun sl => s.sliceDatum sl ≠ t.sliceDatum sl) ∧ u = t.cnt DTM_PARITY_count 0 0 0 s.badCovered ∧ m = s.dtm.module ∧ diff = []) ∧
    (∃ (s : State) (t : State) (u : State) (m : _) (diff : _), s.alive = true ∧ s.dtm.walking = true ∧ m = s.moduleAfresh ∧ t = { s with dtm := { s.dtm with module := m, sums := s.slicesAfresh, walking := false } } ∧ diff = ((List.range 4096).filter fun sl => s.sliceDatum sl ≠ t.sliceDatum sl) ∧ u = t.cnt DTM_PARITY_count 0 0 0 s.badCovered ∧ m = s.dtm.module ∧ diff ≠ []) ∧
    (∃ (s : State) (t : State) (u : State) (m : _) (diff : _), s.alive = true ∧ s.dtm.walking = true ∧ m = s.moduleAfresh ∧ t = { s with dtm := { s.dtm with module := m, sums := s.slicesAfresh, walking := false } } ∧ diff = ((List.range 4096).filter fun sl => s.sliceDatum sl ≠ t.sliceDatum sl) ∧ u = t.cnt DTM_PARITY_count 0 0 0 s.badCovered ∧ m ≠ s.dtm.module) ∧
    (∃ (s : State) (u : _), s.served 6 0x140 ∧ u = s.event 6 4) ∧
    (∃ (s : State) (c : _), s.alive = true ∧ s.dtm.beaconAt = some c ∧ s.cyc < c + s.beaconCyc) ∧
    (∃ (s : State) (n : _) (b : _) (g : State → Nat → State) (u : _), s.alive = true ∧ ((∀ c, s.dtm.beaconAt = some c → c + s.beaconCyc ≤ s.cyc)) ∧ n = s.nextSlice s.dtm.beaconSlice ∧ b = s.beacon n ∧ ((∀ t f, g t f = if t.lit f = true ∧ t.bypassed f = false then (t.sendLmf f { typ := 0x20, body := [b.serial, b.time, b.epoch, b.datum, b.slice, b.sdatum] }).cnt DTM_BEACON_TX_count else t)) ∧ u = { s with dtm := { s.dtm with beaconAt := some s.cyc, beaconSlice := n } } ∧ s.flag DTM_CTRL_beacon_en = true) ∧
    (∃ (s : State) (n : _) (b : _) (g : State → Nat → State) (u : _), s.alive = true ∧ ((∀ c, s.dtm.beaconAt = some c → c + s.beaconCyc ≤ s.cyc)) ∧ n = s.nextSlice s.dtm.beaconSlice ∧ b = s.beacon n ∧ ((∀ t f, g t f = if t.lit f = true ∧ t.bypassed f = false then (t.sendLmf f { typ := 0x20, body := [b.serial, b.time, b.epoch, b.datum, b.slice, b.sdatum] }).cnt DTM_BEACON_TX_count else t)) ∧ u = { s with dtm := { s.dtm with beaconAt := some s.cyc, beaconSlice := n } } ∧ s.flag DTM_CTRL_beacon_en = false) ∧
    (∃ (s : State) (f : Nat), s.alive = true ∧ f < 64 ∧ s.bypassed f = true) ∧
    (∃ (s : State) (f : Nat) (b : Beacon) (u : State) (v : State) (w : State), s.alive = true ∧ f < 64 ∧ s.bypassed f = false ∧ u = ((((s.wr DTM_NBR_epoch b.epoch 0 f).wr DTM_NBR_slice b.slice 0 f).wr DTM_NBR_time b.time 0 f).wr DTM_NBR_datum_lo b.datum 0 f) ∧ v = ((((u.wr DTM_NBR_datum_hi (b.datum / 2 ^ 64) 0 f).wr DTM_NBR_sdatum_lo b.sdatum 0 f).wr DTM_NBR_sdatum_hi (b.sdatum / 2 ^ 64) 0 f).cnt DTM_BEACON_RX_count).logBeacon { b with time := b.time % 2 ^ 48, epoch := b.epoch % 2 ^ 32, slice := b.slice % 4096 } f ∧ w = { v with dtm := { v.dtm with silent := v.dtm.silent.put f 0 } } ∧ ((w.trv f ≠ 2 ∨ w.flag DTM_CTRL_check_en = false))) ∧
    (∃ (s : State) (f : Nat) (b : Beacon) (u : State) (v : State) (w : State) (want : _) (x : _), s.alive = true ∧ f < 64 ∧ s.bypassed f = false ∧ u = ((((s.wr DTM_NBR_epoch b.epoch 0 f).wr DTM_NBR_slice b.slice 0 f).wr DTM_NBR_time b.time 0 f).wr DTM_NBR_datum_lo b.datum 0 f) ∧ v = ((((u.wr DTM_NBR_datum_hi (b.datum / 2 ^ 64) 0 f).wr DTM_NBR_sdatum_lo b.sdatum 0 f).wr DTM_NBR_sdatum_hi (b.sdatum / 2 ^ 64) 0 f).cnt DTM_BEACON_RX_count).logBeacon { b with time := b.time % 2 ^ 48, epoch := b.epoch % 2 ^ 32, slice := b.slice % 4096 } f ∧ w = { v with dtm := { v.dtm with silent := v.dtm.silent.put f 0 } } ∧ w.trv f = 2 ∧ w.flag DTM_CTRL_check_en = true ∧ want = w.rd TRV_PLAT_datum_lo 0 f + w.rd TRV_PLAT_datum_hi 0 f * 2 ^ 64 ∧ x = (if want = 0 then w else w.check 3 f (b.datum % 2 ^ 128 ≠ want) (w.graceOver none))) ∧
    (∃ (s : State), s.alive = true) :=
  ⟨⟨up [ck 6], _, ⟨rfl, rfl, rfl, rfl⟩, rfl⟩,
   ⟨up [], by decide +kernel, by decide +kernel⟩,
   ⟨walkOf (up []) 0 (up []).slicesAfresh, _, _, _, _, by decide +kernel, walkOf_walking _ _ _, rfl, rfl, rfl, rfl, walkOf_right _ _, walk_diff_none _ _ _ (walkOf_sums _ _)⟩,
   ⟨walkOf (up []) 0 [(7, { u := 1 })], _, _, _, _, by decide +kernel, walkOf_walking _ _ _, rfl, rfl, rfl, rfl, walkOf_right _ _, walk_diff_some _ _ 7 _ (by decide) (by decide +kernel)⟩,
   ⟨walkOf (up []) 1 [], _, _, _, _, by decide +kernel, walkOf_walking _ _ _, rfl, rfl, rfl, rfl, walkOf_off _ _⟩,
   ⟨up [ck 6], _, ⟨rfl, rfl, rfl, rfl⟩, rfl⟩,
   ⟨{ up [(DTM_CTRL_beacon_en, [1])] with dtm := { beaconAt := some (10 ^ 13) } }, 10 ^ 13, by decide +kernel, by decide +kernel, by decide +kernel⟩,
   ⟨beacUp 1, _, _, fun t f => if t.lit f = true ∧ t.bypassed f = false then (t.sendLmf f { typ := 0x20, body := [((beacUp 1).beacon ((beacUp 1).nextSlice (beacUp 1).dtm.beaconSlice)).serial, ((beacUp 1).beacon ((beacUp 1).nextSlice (beacUp 1).dtm.beaconSlice)).time, ((beacUp 1).beacon ((beacUp 1).nextSlice (beacUp 1).dtm.beaconSlice)).epoch, ((beacUp 1).beacon ((beacUp 1).nextSlice (beacUp 1).dtm.beaconSlice)).datum, ((beacUp 1).beacon ((beacUp 1).nextSlice (beacUp 1).dtm.beaconSlice)).slice, ((beacUp 1).beacon ((beacUp 1).nextSlice (beacUp 1).dtm.beaconSlice)).sdatum] }).cnt DTM_BEACON_TX_count else t, _, by decide +kernel, (fun c h => by cases h; decide +kernel), rfl, rfl, fun _ _ => rfl, rfl, by decide +kernel⟩,
   ⟨beacUp 0, _, _, fun t f => if t.lit f = true ∧ t.bypassed f = false then (t.sendLmf f { typ := 0x20, body := [((beacUp 0).beacon ((beacUp 0).nextSlice (beacUp 0).dtm.beaconSlice)).serial, ((beacUp 0).beacon ((beacUp 0).nextSlice (beacUp 0).dtm.beaconSlice)).time, ((beacUp 0).beacon ((beacUp 0).nextSlice (beacUp 0).dtm.beaconSlice)).epoch, ((beacUp 0).beacon ((beacUp 0).nextSlice (beacUp 0).dtm.beaconSlice)).datum, ((beacUp 0).beacon ((beacUp 0).nextSlice (beacUp 0).dtm.beaconSlice)).slice, ((beacUp 0).beacon ((beacUp 0).nextSlice (beacUp 0).dtm.beaconSlice)).sdatum] }).cnt DTM_BEACON_TX_count else t, _, by decide +kernel, (fun c h => by cases h; decide +kernel), rfl, rfl, fun _ _ => rfl, rfl, by decide +kernel⟩,
   ⟨byFib, 63, by decide +kernel, by decide +kernel, by decide +kernel⟩,
   ⟨up [(DTM_CTRL_check_en, [0])], 63, { serial := 1, time := 0, epoch := 1, datum := 5, slice := 0, sdatum := 0 }, _, _, _, by decide +kernel, by decide +kernel, by decide +kernel, rfl, rfl, rfl, .inr (by decide +kernel)⟩,
   ⟨up [(DTM_CTRL_check_en, [1]), (TRV_FIBRE_state, [2, 0, 63])], 63, { serial := 1, time := 0, epoch := 1, datum := 5, slice := 0, sdatum := 0 }, _, _, _, _, _, by decide +kernel, by decide +kernel, by decide +kernel, rfl, rfl, rfl, by decide +kernel, by decide +kernel, rfl, rfl⟩,
   ⟨up [], by decide +kernel⟩⟩

/-- Each clause of MemoryAccessesAndCommands that has hypotheses: a state and operands that meet them. -/
theorem witness_MemoryAccessesAndCommands :
    (∃ (s : State) (a : Nat) (errs : List (Nat × Nat)) (r : (List Byte × Bool) × State), s.alive = true ∧ s.memSpace = true ∧ a < memTop ∧ r = (s.strike errs).readLine (a / 64) 3) ∧
    (∃ (s : State) (a : Nat), s.alive = true ∧ s.memSpace = true ∧ a < memTop ∧ s.inSref = true) ∧
    (∃ (s : State) (a : Nat), s.alive = true ∧ s.memSpace = true ∧ a < memTop ∧ s.inSref = false) ∧
    (∃ (s : State) (a : Nat), s.alive = true ∧ (s.memSpace = false ∨ memTop ≤ a)) ∧
    (∃ (s : State) (errs : List (Nat × Nat)) (u : _), s.alive = true ∧ u = s.strike errs ∧ ((u.flag MEM_SCRUB_CFG_enable = false ∨ u.inSref = true ∨ u.scrubDue = false ∨ u.nextValid u.mem.scrub = none ∧ u.mem.scrub = 0))) ∧
    (∃ (s : State) (errs : List (Nat × Nat)) (u : _) (v : _) (b : _), s.alive = true ∧ u = s.strike errs ∧ u.flag MEM_SCRUB_CFG_enable = true ∧ u.inSref = false ∧ u.scrubDue = true ∧ u.nextValid u.mem.scrub = some b ∧ v = (u.wr MEM_SCRUB_STAT_running 1).scrubAt b) ∧
    (∃ (s : State) (errs : List (Nat × Nat)) (u : State) (v : State), s.alive = true ∧ u = s.strike errs ∧ u.flag MEM_SCRUB_CFG_enable = true ∧ u.inSref = false ∧ u.nextValid u.mem.scrub = none ∧ u.mem.scrub ≠ 0 ∧ v = u.wr MEM_SCRUB_STAT_pass_count (u.rd MEM_SCRUB_STAT_pass_count + 1)) ∧
    (∃ (s : State) (u : _), s.alive = true ∧ s.served 0x20 0x458 ∧ u = s.event 0x20 4 ∧ memTop < u.memRange.1 + u.memRange.2) ∧
    (∃ (s : State) (u : _), s.alive = true ∧ s.served 0x20 0x458 ∧ u = s.event 0x20 4 ∧ u.memRange.1 + u.memRange.2 ≤ memTop ∧ u.inSref = false) ∧
    (∃ (s : State) (u : _), s.alive = true ∧ s.served 0x20 0x458 ∧ u = s.event 0x20 4 ∧ u.memRange.1 + u.memRange.2 ≤ memTop ∧ u.inSref = true) ∧
    (∃ (s : State) (u : _), s.alive = true ∧ s.served 0x20 0x458 ∧ u = s.event 0x20 4 ∧ (u.memRange.1 % 65536 ≠ 0 ∨ u.memRange.2 % 65536 ≠ 0)) ∧
    (∃ (s : State) (u : _), s.alive = true ∧ s.served 0x20 0x458 ∧ u = s.event 0x20 4 ∧ u.memRange.1 % 65536 = 0 ∧ u.memRange.2 % 65536 = 0 ∧ u.memRange.1 + u.memRange.2 ≤ memTop ∧ u.zeroBusy u.memRange.1 u.memRange.2 = true) ∧
    (∃ (s : State) (u : _), s.alive = true ∧ s.served 0x20 0x458 ∧ u = s.event 0x20 4 ∧ u.memRange.1 % 65536 = 0 ∧ u.memRange.2 % 65536 = 0 ∧ u.memRange.1 + u.memRange.2 ≤ memTop ∧ u.zeroBusy u.memRange.1 u.memRange.2 = false) ∧
    (∃ (s : State), s.alive = true ∧ s.memSpace = true ∧ s.busOk = true) :=
  ⟨⟨up [], memTop - 1, [], _, by decide +kernel, by decide +kernel, by decide +kernel, rfl⟩,
   ⟨up [(MEM_STATUS_sref, [1])], memTop - 1, by decide +kernel, by decide +kernel, by decide +kernel, by decide +kernel⟩,
   ⟨up [], memTop - 1, by decide +kernel, by decide +kernel, by decide +kernel, by decide +kernel⟩,
   ⟨up [], memTop, by decide +kernel, .inr (by decide +kernel)⟩,
   ⟨up [(MEM_SCRUB_CFG_enable, [0])], [], _, by decide +kernel, rfl, .inl (by decide +kernel)⟩,
   ⟨{ up [(MEM_SCRUB_CFG_enable, [1])] with mem := { valid := [3], scrub := 512 } }, [], _, _, _, by decide +kernel, rfl, by decide +kernel, by decide +kernel, by decide +kernel, pick (by decide +kernel), rfl⟩,
   ⟨{ up [(MEM_SCRUB_CFG_enable, [1])] with mem := { valid := [3], scrub := 2048 } }, [], _, _, by decide +kernel, rfl, by decide +kernel, by decide +kernel, by decide +kernel, by decide +kernel, rfl⟩,
   ⟨up [ck 0x20, (MEM_CMD_ADDR_addr, [memTop / 128]), (MEM_CMD_LEN_len, [1])], _, by decide +kernel, ⟨rfl, rfl, rfl, rfl⟩, rfl, by decide +kernel⟩,
   ⟨up [ck 0x20, (MEM_CMD_ADDR_addr, [memTop / 128 - 1]), (MEM_CMD_LEN_len, [1])], _, by decide +kernel, ⟨rfl, rfl, rfl, rfl⟩, rfl, by decide +kernel, by decide +kernel⟩,
   ⟨up [ck 0x20, (MEM_STATUS_sref, [1])], _, by decide +kernel, ⟨rfl, rfl, rfl, rfl⟩, rfl, by decide +kernel, by decide +kernel⟩,
   ⟨up [ck 0x20, (MEM_CMD_ADDR_addr, [1]), (MEM_CMD_LEN_len, [512])], _, by decide +kernel, ⟨rfl, rfl, rfl, rfl⟩, rfl, .inl (by decide +kernel)⟩,
   ⟨{ up [ck 0x20, (MEM_CMD_LEN_len, [memTop / 128])] with pool := { used := [(2, [0])] } }, _, by decide +kernel, ⟨rfl, rfl, rfl, rfl⟩, rfl, by decide +kernel, by decide +kernel, by decide +kernel, by decide +kernel⟩,
   ⟨up [ck 0x20, (MEM_CMD_ADDR_addr, [5284822528]), (MEM_CMD_LEN_len, [512])], _, by decide +kernel, ⟨rfl, rfl, rfl, rfl⟩, rfl, by decide +kernel, by decide +kernel, by decide +kernel, by decide +kernel⟩,
   ⟨up [], by decide +kernel, by decide +kernel, by decide +kernel⟩⟩

/-- Each clause of SyndromesDecodeAsTabled that has hypotheses: a state and operands that meet them. -/
theorem witness_SyndromesDecodeAsTabled :
    (∃ (s : State) (w : Nat), s.granValid w = false) ∧
    (∃ (s : State) (w : Nat), s.granValid w = true ∧ s.syn w = 0) ∧
    (∃ (s : State) (w : Nat) (j : _), s.granValid w = true ∧ j < 7 ∧ s.syn w = 2 ^ j) ∧
    (∃ (s : State) (w : Nat) (i : _), s.granValid w = true ∧ i < 32 ∧ s.syn w = eccColumns.getD i 0) ∧
    (∃ (s : State) (w : Nat), s.granValid w = true ∧ s.syn w = 0x7F) ∧
    (∃ (s : State) (w : Nat), s.granValid w = true ∧ s.syn w ≠ 0 ∧ s.syn w ≠ 0x7F ∧ ((∀ j, j < 7 → s.syn w ≠ 2 ^ j)) ∧ s.syn w ∉ eccColumns) ∧
    (∃ (v : _) (i : _), v < 2 ^ 32 ∧ i < 32) ∧
    (∃ (j : _), j < 7) ∧
    (∃ (v : Nat) (x : Nat) (c : Nat) (e : Nat), v < 2 ^ 32 ∧ x < 2 ^ 32 ∧ c < 2 ^ 7 ∧ popc 32 x + popc 7 c = 2 ∧ e = eccCheck (v ^^^ x) ^^^ (eccCheck v ^^^ c)) :=
  ⟨⟨up [], 5, by decide +kernel⟩,
   ⟨{ up [] with mem := { valid := [0] } }, 5, by decide +kernel, by decide +kernel⟩,
   ⟨{ up [] with mem := { valid := [0], synd := [(5, 64)] } }, 5, 6, by decide +kernel, by decide +kernel, by decide +kernel⟩,
   ⟨{ up [] with mem := { valid := [0], synd := [(5, eccColumns.getD 31 0)] } }, 5, 31, by decide +kernel, by decide +kernel, by decide +kernel⟩,
   ⟨{ up [] with mem := { valid := [0], synd := [(5, 0x7F)] } }, 5, by decide +kernel, by decide +kernel⟩,
   ⟨{ up [] with mem := { valid := [0], synd := [(5, 3)] } }, 5, by decide +kernel, by decide +kernel, by decide +kernel, by decide +kernel, by decide +kernel⟩,
   ⟨2 ^ 32 - 1, 31, by decide +kernel, by decide +kernel⟩,
   ⟨6, by decide +kernel⟩,
   ⟨2 ^ 32 - 1, 2 ^ 31, 2 ^ 6, _, by decide +kernel, by decide +kernel, by decide +kernel, by decide +kernel, rfl⟩⟩

/-- Each clause of HostAccessesAreServedOrRefused that has hypotheses: a state and operands that meet them. -/
theorem witness_HostAccessesAreServedOrRefused :
    (∃ (s : State), s.alive = true) ∧
    (∃ (s : State), s.alive = true) ∧
    (∃ (s : State), s.alive = true ∧ s.memSpace = false) ∧
    (∃ (s : State) (pg : _), s.alive = true ∧ pg < 256 ∧ s.served pg 0x20) ∧
    (∃ (s : State) (pg : _), s.alive = true ∧ pg < 256 ∧ s.served pg 0x18) ∧
    (∃ (s : State) (pg : _) (off : _) (c : _), s.alive = true ∧ s.memSpace = true ∧ s.busOk = true ∧ pg < 256 ∧ off < 65536 ∧ off % 8 = 0 ∧ s.accessCause pg off = some c) ∧
    (∃ (s : State) (pg : _) (off : _) (z : _) (v : _) (u : _), s.alive = true ∧ s.memSpace = true ∧ s.busOk = true ∧ pg < 256 ∧ off < 65536 ∧ off % 8 = 0 ∧ s.accessCause pg off = none ∧ (s.event pg 4).regRead pg off z = (v, u)) ∧
    (∃ (s : State) (bar : _) (pg : _) (off : _) (size : _) (c : _), s.alive = true ∧ s.memSpace = true ∧ s.busOk = true ∧ pg < 65536 ∧ off < 65536 ∧ s.readCause bar pg off size = some c) ∧
    (∃ (s : State) (bar : _) (pg : _) (off : _) (size : _) (v : _) (u : _), s.alive = true ∧ s.memSpace = true ∧ s.busOk = true ∧ pg < 65536 ∧ off < 65536 ∧ s.readCause bar pg off size = none ∧ s.barRead bar pg (off / 8 * 8) (readSize off size) = (v, u)) ∧
    (∃ (s : State) (bar : _) (pg : _) (off : _) (size : _) (c : _), s.alive = true ∧ s.memSpace = true ∧ s.busOk = true ∧ pg < 65536 ∧ off < 65536 ∧ s.writeCause bar pg off size = some c) ∧
    (∃ (s : State) (bar : _) (pg : _) (off : _) (size : _), s.alive = true ∧ s.memSpace = true ∧ s.busOk = true ∧ pg < 65536 ∧ off < 65536 ∧ bar = 0 ∧ s.writeCause bar pg off size = none ∧ s.accessCause pg (off / 8 * 8) = none ∧ off / 8 * 8 ≠ 0x18 ∧ off / 8 * 8 ≠ 0xA0) ∧
    (∃ (s : State) (bar : _) (pg : _) (off : _) (size : _), s.alive = true ∧ s.memSpace = true ∧ s.busOk = true ∧ pg < 65536 ∧ off < 65536 ∧ bar = 0 ∧ s.writeCause bar pg off size = none ∧ s.accessCause pg (off / 8 * 8) = none ∧ ((off / 8 * 8 = 0x18 ∨ off / 8 * 8 = 0xA0))) ∧
    (∃ (s : State) (bar : _) (pg : _) (off : _) (size : _), s.alive = true ∧ s.memSpace = true ∧ s.busOk = true ∧ pg < 65536 ∧ off < 65536 ∧ bar = 2 ∧ s.writeCause bar pg off size = none) ∧
    (∃ (s : State) (bar : _) (pg : _) (off : _) (size : _), s.alive = true ∧ s.memSpace = true ∧ s.busOk = true ∧ pg < 65536 ∧ off < 65536 ∧ bar = 4 ∧ s.writeCause bar pg off size = none) ∧
    (∃ (s : State) (bar : _) (off : _) (size : _), s.alive = true ∧ s.memSpace = true ∧ s.busOk = true ∧ ((size = 4 ∨ size = 8)) ∧ off % size = 0 ∧ bar = 0) ∧
    (∃ (s : State) (bar : _) (pg : _) (off : _) (size : _), s.alive = true ∧ s.memSpace = true ∧ s.busOk = true ∧ ((size = 4 ∨ size = 8)) ∧ off % size = 0 ∧ bar = 2 ∧ 32 ≤ pg) ∧
    (∃ (s : State) (bar : _) (off : _) (size : _), s.alive = true ∧ s.memSpace = true ∧ s.busOk = true ∧ ((size = 4 ∨ size = 8)) ∧ off % size = 0 ∧ bar = 4) ∧
    (∃ (s : State) (off : _) (size : _), s.alive = true ∧ s.memSpace = true ∧ s.busOk = true ∧ ((size ≠ 4 ∧ size ≠ 8) ∨ off % size ≠ 0)) :=
  ⟨⟨up [], by decide +kernel⟩,
   ⟨up [], by decide +kernel⟩,
   ⟨{ up [] with memSpace := false }, by decide +kernel, by decide +kernel⟩,
   ⟨up [ck 6], 6, by decide +kernel, by decide +kernel, ⟨rfl, rfl, rfl, rfl⟩⟩,
   ⟨up [ck 6], 6, by decide +kernel, by decide +kernel, ⟨rfl, rfl, rfl, rfl⟩⟩,
   ⟨up [], 255, 65528, _, by decide +kernel, by decide +kernel, by decide +kernel, by decide +kernel, by decide +kernel, by decide +kernel, pick (by decide +kernel)⟩,
   ⟨up [], 0, 65528, .hi4, _, _, by decide +kernel, by decide +kernel, by decide +kernel, by decide +kernel, by decide +kernel, by decide +kernel, by decide +kernel, both _⟩,
   ⟨up [], 0, 65535, 65535, 1, _, by decide +kernel, by decide +kernel, by decide +kernel, by decide +kernel, by decide +kernel, pick (by decide +kernel)⟩,
   ⟨up [], 0, 0, 65528, 8, _, _, by decide +kernel, by decide +kernel, by decide +kernel, by decide +kernel, by decide +kernel, by decide +kernel, both _⟩,
   ⟨up [], 4, 65535, 65528, 8, _, by decide +kernel, by decide +kernel, by decide +kernel, by decide +kernel, by decide +kernel, pick (by decide +kernel)⟩,
   ⟨up [], 0, 0, 65532, 4, by decide +kernel, by decide +kernel, by decide +kernel, by decide +kernel, by decide +kernel, by decide +kernel, by decide +kernel, by decide +kernel, by decide +kernel, by decide +kernel⟩,
   ⟨up [], 0, 0, 0xA4, 4, by decide +kernel, by decide +kernel, by decide +kernel, by decide +kernel, by decide +kernel, by decide +kernel, by decide +kernel, by decide +kernel, .inr (by decide +kernel)⟩,
   ⟨up [], 2, 31, 65532, 4, by decide +kernel, by decide +kernel, by decide +kernel, by decide +kernel, by decide +kernel, by decide +kernel, by decide +kernel⟩,
   ⟨up [], 4, 0, 65532, 4, by decide +kernel, by decide +kernel, by decide +kernel, by decide +kernel, by decide +kernel, by decide +kernel, by decide +kernel⟩,
   ⟨up [], 0, 65532, 4, by decide +kernel, by decide +kernel, by decide +kernel, .inl rfl, by decide +kernel, by decide +kernel⟩,
   ⟨up [], 2, 32, 65528, 8, by decide +kernel, by decide +kernel, by decide +kernel, .inr rfl, by decide +kernel, by decide +kernel, by decide +kernel⟩,
   ⟨up [], 4, 65528, 8, by decide +kernel, by decide +kernel, by decide +kernel, .inr rfl, by decide +kernel, by decide +kernel⟩,
   ⟨up [], 6, 4, by decide +kernel, by decide +kernel, by decide +kernel, .inr (by decide +kernel)⟩⟩

/-- Each clause of RingsRunDescriptors that has hypotheses: a state and operands that meet them. -/
theorem witness_RingsRunDescriptors :
    (∃ (s : State) (q : _), s.alive = true ∧ s.memSpace = true ∧ s.busOk = true ∧ q < 65536 ∧ 32 ≤ q) ∧
    (∃ (s : State) (q : _), s.alive = true ∧ s.memSpace = true ∧ s.busOk = true ∧ q < 65536 ∧ q < 32 ∧ s.noFirmware = true) ∧
    (∃ (s : State) (q : _) (w : Wr) (u : _) (v : _), s.alive = true ∧ s.memSpace = true ∧ s.busOk = true ∧ s.noFirmware = false ∧ q < 32 ∧ u = s.event 0 4 ∧ w.hits 0 16 = true ∧ v = w.merge 0 16 (u.rd HIF_RQ_TAIL_tail q)) ∧
    (∃ (s : State) (q : _) (w : Wr) (u : _), s.alive = true ∧ s.memSpace = true ∧ s.busOk = true ∧ s.noFirmware = false ∧ q < 32 ∧ u = s.event 0 4 ∧ w.hits 0 16 = false) ∧
    (∃ (s : State) (q : _) (w : Wr) (u : _), s.alive = true ∧ s.memSpace = true ∧ s.busOk = true ∧ s.noFirmware = false ∧ q < 32 ∧ u = s.event 0 4 ∧ w.ones 0 1 = 0) ∧
    (∃ (s : State) (q : _) (w : Wr) (u : _), s.alive = true ∧ s.memSpace = true ∧ s.busOk = true ∧ s.noFirmware = false ∧ q < 32 ∧ u = s.event 0 4 ∧ w.ones 0 1 ≠ 0 ∧ (u.ring_ q).run = none) ∧
    (∃ (s : State) (q : _) (w : Wr) (u : _), s.alive = true ∧ s.memSpace = true ∧ s.busOk = true ∧ s.noFirmware = false ∧ q < 32 ∧ u = s.event 0 4 ∧ w.ones 0 1 ≠ 0 ∧ (u.ring_ q).run ≠ none) ∧
    (∃ (s : State) (q : _) (raw : List Byte), s.alive = true ∧ q < 16 ∧ raw.length = 128 ∧ (s.ringOn q = false ∨ s.fetchSlot q = none)) ∧
    (∃ (s : State) (q : _) (raw : List Byte) (i : _), s.alive = true ∧ q < 16 ∧ raw.length = 128 ∧ s.ringOn q = true ∧ s.fetchSlot q = some i) ∧
    (∃ (s : State) (q : _), s.alive = true ∧ s.busOk = true ∧ ((q < 16 ∨ 32 ≤ q ∧ q < 35)) ∧ (s.ring_ (ringNo q)).run = none) ∧
    (∃ (s : State) (q : _) (n : _) (e : _) (d : _), s.alive = true ∧ s.busOk = true ∧ n = ringNo q ∧ (s.ring_ n).run = some e ∧ d = descOf e.raw ∧ ((d.opcode ≠ 0 ∨ n < 16 ∧ s.busMaster = false))) ∧
    (∃ (s : State) (q : _) (n : _) (e : _) (d : _), s.alive = true ∧ s.busOk = true ∧ n = ringNo q ∧ (s.ring_ n).run = some e ∧ d = descOf e.raw ∧ ((d.opcode ≠ 1 ∨ n < 16 ∧ s.busMaster = false))) ∧
    (∃ (s : State) (q : _) (n : _) (e : _) (d : _), s.alive = true ∧ s.busOk = true ∧ n = ringNo q ∧ (s.ring_ n).run = some e ∧ d = descOf e.raw ∧ ((d.opcode ≠ 2 ∨ n < 16 ∧ s.busMaster = false))) ∧
    (∃ (s : State) (q : _) (n : _) (e : _) (d : _), s.alive = true ∧ s.busOk = true ∧ n = ringNo q ∧ (s.ring_ n).run = some e ∧ d = descOf e.raw ∧ ((d.opcode ≠ 3 ∨ n < 16 ∧ s.busMaster = false))) ∧
    (∃ (s : State) (q : _) (n : _) (e : _) (d : _), s.alive = true ∧ s.busOk = true ∧ n = ringNo q ∧ (s.ring_ n).run = some e ∧ d = descOf e.raw ∧ ((d.opcode ≠ 4 ∨ n < 16 ∧ s.busMaster = false))) ∧
    (∃ (s : State) (q : _) (n : _) (e : _) (d : _), s.alive = true ∧ s.busOk = true ∧ n = ringNo q ∧ (s.ring_ n).run = some e ∧ d = descOf e.raw ∧ n < 16 ∧ s.busMaster = false) ∧
    (∃ (s : State) (q : _) (n : _) (e : _) (d : _), s.alive = true ∧ s.busOk = true ∧ n = ringNo q ∧ (s.ring_ n).run = some e ∧ d = descOf e.raw ∧ ((n < 16 → s.busMaster = true)) ∧ (s.ring_ n).wrote = false ∧ d.opcode = 0) ∧
    (∃ (s : State) (q : _) (n : _) (env : _) (e : _) (d : _) (u : _), s.alive = true ∧ s.busOk = true ∧ n = ringNo q ∧ (s.ring_ n).run = some e ∧ d = descOf e.raw ∧ ((n < 16 → s.busMaster = true)) ∧ (s.ring_ n).wrote = false ∧ d.opcode = 1 ∧ s.descWrites d.page env d.writes = (true, u)) ∧
    (∃ (s : State) (q : _) (n : _) (env : _) (e : _) (d : _) (u : _), s.alive = true ∧ s.busOk = true ∧ n = ringNo q ∧ (s.ring_ n).run = some e ∧ d = descOf e.raw ∧ ((n < 16 → s.busMaster = true)) ∧ (s.ring_ n).wrote = false ∧ d.opcode = 1 ∧ s.descWrites d.page env d.writes = (false, u)) ∧
    (∃ (s : State) (q : _) (n : _) (e : _) (d : _) (ok : _) (vs : _) (u : _), s.alive = true ∧ s.busOk = true ∧ n = ringNo q ∧ (s.ring_ n).run = some e ∧ d = descOf e.raw ∧ ((n < 16 → s.busMaster = true)) ∧ (s.ring_ n).wrote = false ∧ d.opcode = 2 ∧ s.descReads d.page d.reads = (ok, vs, u)) ∧
    (∃ (s : State) (q : _) (n : _) (env : _) (e : _) (d : _) (u : _), s.alive = true ∧ s.busOk = true ∧ n = ringNo q ∧ (s.ring_ n).run = some e ∧ d = descOf e.raw ∧ ((n < 16 → s.busMaster = true)) ∧ (s.ring_ n).wrote = false ∧ s.descWrites d.page env d.writes = (true, u) ∧ d.opcode = 3) ∧
    (∃ (s : State) (q : _) (n : _) (env : _) (e : _) (d : _) (u : _), s.alive = true ∧ s.busOk = true ∧ n = ringNo q ∧ (s.ring_ n).run = some e ∧ d = descOf e.raw ∧ ((n < 16 → s.busMaster = true)) ∧ (s.ring_ n).wrote = false ∧ s.descWrites d.page env d.writes = (true, u) ∧ d.opcode = 4) ∧
    (∃ (s : State) (q : _) (n : _) (env : _) (e : _) (d : _) (u : _), s.alive = true ∧ s.busOk = true ∧ n = ringNo q ∧ (s.ring_ n).run = some e ∧ d = descOf e.raw ∧ ((n < 16 → s.busMaster = true)) ∧ (s.ring_ n).wrote = false ∧ s.descWrites d.page env d.writes = (false, u) ∧ d.opcode = 3) ∧
    (∃ (s : State) (q : _) (n : _) (env : _) (e : _) (d : _) (u : _), s.alive = true ∧ s.busOk = true ∧ n = ringNo q ∧ (s.ring_ n).run = some e ∧ d = descOf e.raw ∧ ((n < 16 → s.busMaster = true)) ∧ (s.ring_ n).wrote = false ∧ s.descWrites d.page env d.writes = (false, u) ∧ d.opcode = 4) ∧
    (∃ (s : State) (q : _) (n : _) (e : _) (d : _), s.alive = true ∧ s.busOk = true ∧ n = ringNo q ∧ (s.ring_ n).run = some e ∧ d = descOf e.raw ∧ ((n < 16 → s.busMaster = true)) ∧ (s.ring_ n).wrote = true ∧ d.opcode = 3) ∧
    (∃ (s : State) (q : _) (n : _) (e : _) (d : _), s.alive = true ∧ s.busOk = true ∧ n = ringNo q ∧ (s.ring_ n).run = some e ∧ d = descOf e.raw ∧ ((n < 16 → s.busMaster = true)) ∧ (s.ring_ n).wrote = true ∧ d.opcode = 4) ∧
    (∃ (s : State) (q : _) (n : _) (e : _) (d : _) (v : _) (u : _), s.alive = true ∧ s.busOk = true ∧ n = ringNo q ∧ (s.ring_ n).run = some e ∧ d = descOf e.raw ∧ ((n < 16 → s.busMaster = true)) ∧ (s.ring_ n).wrote = true ∧ s.busRead d.page d.poll = (some v, u) ∧ bit v 0 = true) ∧
    (∃ (s : State) (q : _) (n : _) (e : _) (d : _) (v : _) (u : _), s.alive = true ∧ s.busOk = true ∧ n = ringNo q ∧ (s.ring_ n).run = some e ∧ d = descOf e.raw ∧ ((n < 16 → s.busMaster = true)) ∧ (s.ring_ n).wrote = true ∧ s.busRead d.page d.poll = (some v, u) ∧ bit v 0 = false) ∧
    (∃ (s : State) (q : _) (n : _) (e : _) (d : _) (u : _), s.alive = true ∧ s.busOk = true ∧ n = ringNo q ∧ (s.ring_ n).run = some e ∧ d = descOf e.raw ∧ ((n < 16 → s.busMaster = true)) ∧ (s.ring_ n).wrote = true ∧ s.busRead d.page d.poll = (none, u)) ∧
    (∃ (s : State) (q : _) (n : _) (e : _) (d : _), s.alive = true ∧ s.busOk = true ∧ n = ringNo q ∧ (s.ring_ n).run = some e ∧ d = descOf e.raw ∧ ((n < 16 → s.busMaster = true)) ∧ (s.ring_ n).wrote = true ∧ (s.ring_ n).since + msCyc (max 1 (s.rd HIF_CMD_CFG_poll_ms)) ≤ s.cyc) :=
  ⟨⟨up [], 32, by decide +kernel, by decide +kernel, by decide +kernel, by decide +kernel, by decide +kernel⟩,
   ⟨{ up [] with noFirmware := true }, 31, by decide +kernel, by decide +kernel, by decide +kernel, by decide +kernel, by decide +kernel, by decide +kernel⟩,
   ⟨up [ck 0], 31, { v := 65535 }, _, _, by decide +kernel, by decide +kernel, by decide +kernel, by decide +kernel, by decide +kernel, rfl, by decide +kernel, rfl⟩,
   ⟨up [ck 0], 31, { v := 65535, sz := .hi4 }, _, by decide +kernel, by decide +kernel, by decide +kernel, by decide +kernel, by decide +kernel, rfl, by decide +kernel⟩,
   ⟨up [ck 0], 31, { v := 0 }, _, by decide +kernel, by decide +kernel, by decide +kernel, by decide +kernel, by decide +kernel, rfl, by decide +kernel⟩,
   ⟨up [ck 0], 31, { v := 1 }, _, by decide +kernel, by decide +kernel, by decide +kernel, by decide +kernel, by decide +kernel, rfl, by decide +kernel, by decide +kernel⟩,
   ⟨{ up [ck 0] with hif := { rings := [(31, { run := some { raw := [] } })] } }, 31, { v := 1 }, _, by decide +kernel, by decide +kernel, by decide +kernel, by decide +kernel, by decide +kernel, rfl, by decide +kernel, by decide +kernel⟩,
   ⟨up [], 15, List.replicate 128 0, by decide +kernel, by decide +kernel, by decide +kernel, .inl (by decide +kernel)⟩,
   ⟨up [(HIF_RQ_CFG_enable, [1, 15]), (HIF_RQ_TAIL_tail, [15, 15])], 15, List.replicate 128 0, _, by decide +kernel, by decide +kernel, by decide +kernel, by decide +kernel, pick (by decide +kernel)⟩,
   ⟨up [], 34, by decide +kernel, by decide +kernel, .inr (by decide +kernel), by decide +kernel⟩,
   ⟨{ up [ck 6] with hif := { rings := [(15, { run := some { raw := [1] }, wrote := false })] } }, 15, _, _, _, by decide +kernel, by decide +kernel, rfl, pick (by decide +kernel), rfl, .inl (by decide +kernel)⟩,
   ⟨{ up [ck 6] with hif := { rings := [(15, { run := some { raw := [0] }, wrote := false })] } }, 15, _, _, _, by decide +kernel, by decide +kernel, rfl, pick (by decide +kernel), rfl, .inl (by decide +kernel)⟩,
   ⟨{ up [ck 6] with hif := { rings := [(15, { run := some { raw := [0] }, wrote := false })] } }, 15, _, _, _, by decide +kernel, by decide +kernel, rfl, pick (by decide +kernel), rfl, .inl (by decide +kernel)⟩,
   ⟨{ up [ck 6] with hif := { rings := [(15, { run := some { raw := [0] }, wrote := false })] } }, 15, _, _, _, by decide +kernel, by decide +kernel, rfl, pick (by decide +kernel), rfl, .inl (by decide +kernel)⟩,
   ⟨{ up [ck 6] with hif := { rings := [(15, { run := some { raw := [0] }, wrote := false })] } }, 15, _, _, _, by decide +kernel, by decide +kernel, rfl, pick (by decide +kernel), rfl, .inl (by decide +kernel)⟩,
   ⟨{ up [ck 6] with hif := { rings := [(15, { run := some { raw := [0] }, wrote := false })] }, busMaster := false }, 15, _, _, _, by decide +kernel, by decide +kernel, rfl, pick (by decide +kernel), rfl, by decide +kernel, by decide +kernel⟩,
   ⟨{ up [ck 6] with hif := { rings := [(15, { run := some { raw := [0] }, wrote := false })] } }, 15, _, _, _, by decide +kernel, by decide +kernel, rfl, pick (by decide +kernel), rfl, fun _ => by decide +kernel, by decide +kernel, by decide +kernel⟩,
   ⟨{ up [ck 6] with hif := { rings := [(15, { run := some { raw := [1] }, wrote := false })] } }, 15, _, {}, _, _, _, by decide +kernel, by decide +kernel, rfl, pick (by decide +kernel), rfl, fun _ => by decide +kernel, by decide +kernel, by decide +kernel, pairT (by decide +kernel)⟩,
   ⟨{ up [ck 6] with hif := { rings := [(15, { run := some { raw := [1, 255, 1] }, wrote := false })] } }, 15, _, {}, _, _, _, by decide +kernel, by decide +kernel, rfl, pick (by decide +kernel), rfl, fun _ => by decide +kernel, by decide +kernel, by decide +kernel, pairT (by decide +kernel)⟩,
   ⟨{ up [ck 6] with hif := { rings := [(15, { run := some { raw := [2] }, wrote := false })] } }, 15, _, _, _, true, [], _, by decide +kernel, by decide +kernel, rfl, pick (by decide +kernel), rfl, fun _ => by decide +kernel, by decide +kernel, by decide +kernel, rfl⟩,
   ⟨{ up [ck 6] with hif := { rings := [(15, { run := some { raw := [3, 255] }, wrote := false })] } }, 15, _, {}, _, _, _, by decide +kernel, by decide +kernel, rfl, pick (by decide +kernel), rfl, fun _ => by decide +kernel, by decide +kernel, pairT (by decide +kernel), by decide +kernel⟩,
   ⟨{ up [ck 6] with hif := { rings := [(15, { run := some { raw := [4, 6, 0, 0, 0, 3] }, wrote := false })] } }, 15, _, {}, _, _, _, by decide +kernel, by decide +kernel, rfl, pick (by decide +kernel), rfl, fun _ => by decide +kernel, by decide +kernel, pairT (by decide +kernel), by decide +kernel⟩,
   ⟨{ up [ck 6] with hif := { rings := [(15, { run := some { raw := [3, 255, 1] }, wrote := false })] } }, 15, _, {}, _, _, _, by decide +kernel, by decide +kernel, rfl, pick (by decide +kernel), rfl, fun _ => by decide +kernel, by decide +kernel, pairT (by decide +kernel), by decide +kernel⟩,
   ⟨{ up [ck 6] with hif := { rings := [(15, { run := some { raw := [4, 255, 1] }, wrote := false })] } }, 15, _, {}, _, _, _, by decide +kernel, by decide +kernel, rfl, pick (by decide +kernel), rfl, fun _ => by decide +kernel, by decide +kernel, pairT (by decide +kernel), by decide +kernel⟩,
   ⟨{ up [ck 6] with hif := { rings := [(15, { run := some { raw := [3, 255] }, wrote := true })] } }, 15, _, _, _, by decide +kernel, by decide +kernel, rfl, pick (by decide +kernel), rfl, fun _ => by decide +kernel, by decide +kernel, by decide +kernel⟩,
   ⟨{ up [ck 6] with hif := { rings := [(15, { run := some { raw := [4, 6, 0, 0, 0, 3] }, wrote := true })] } }, 15, _, _, _, by decide +kernel, by decide +kernel, rfl, pick (by decide +kernel), rfl, fun _ => by decide +kernel, by decide +kernel, by decide +kernel⟩,
   ⟨{ up [ck 6] with hif := { rings := [(15, { run := some { raw := [3, 6, 0, 0, 8] }, wrote := true })] } }, 15, _, _, _, _, _, by decide +kernel, by decide +kernel, rfl, pick (by decide +kernel), rfl, fun _ => by decide +kernel, by decide +kernel, pairS (by decide +kernel), by decide +kernel⟩,
   ⟨{ up [ck 6] with hif := { rings := [(15, { run := some { raw := [3, 6, 0, 0, 16] }, wrote := true })] } }, 15, _, _, _, _, _, by decide +kernel, by decide +kernel, rfl, pick (by decide +kernel), rfl, fun _ => by decide +kernel, by decide +kernel, pairS (by decide +kernel), by decide +kernel⟩,
   ⟨{ up [ck 6] with hif := { rings := [(15, { run := some { raw := [3, 255] }, wrote := true })] } }, 15, _, _, _, _, by decide +kernel, by decide +kernel, rfl, pick (by decide +kernel), rfl, fun _ => by decide +kernel, by decide +kernel, pairT (by decide +kernel)⟩,
   ⟨{ up [ck 6] with hif := { rings := [(15, { run := some { raw := [3, 255] }, wrote := true })] } }, 15, _, _, _, by decide +kernel, by decide +kernel, rfl, pick (by decide +kernel), rfl, fun _ => by decide +kernel, by decide +kernel, by decide +kernel⟩⟩

/-- Each clause of HostPathAndDma that has hypotheses: a state and operands that meet them. -/
theorem witness_HostPathAndDma :
    (∃ (s : State) (n : _) (count : _) (q : _), s.alive = true ∧ q = 16 + n ∧ n < 8 ∧ count < 8192 ∧ s.hpReady q = false) ∧
    (∃ (s : State) (n : _) (count : _) (p : Pkt) (others : List (Nat × Nat)) (q : _), s.alive = true ∧ q = 16 + n ∧ n < 8 ∧ count < 8192 ∧ ((∃ o ∈ others, o.1 % 8 ≠ n ∧ s.hpReady (16 + o.1 % 8) = true ∧ o.2 < p.tc))) ∧
    (∃ (s : State) (n : _) (count : _) (p : _) (others : List (Nat × Nat)) (q : _) (c : _), s.alive = true ∧ q = 16 + n ∧ n < 8 ∧ count < 8192 ∧ s.hpReady q = true ∧ ((∀ o ∈ others, o.1 % 8 = n ∨ s.hpReady (16 + o.1 % 8) = false ∨ p.tc ≤ o.2)) ∧ hostCheck count p = some c) ∧
    (∃ (s : State) (n : _) (count : _) (p : _) (others : List (Nat × Nat)) (q : _), s.alive = true ∧ q = 16 + n ∧ n < 8 ∧ count < 8192 ∧ s.hpReady q = true ∧ ((∀ o ∈ others, o.1 % 8 = n ∨ s.hpReady (16 + o.1 % 8) = false ∨ p.tc ≤ o.2)) ∧ hostCheck count p = none ∧ s.sharedRoom (cellCount p.length) = false) ∧
    (∃ (s : State) (n : _) (count : _) (p : _) (others : List (Nat × Nat)) (q : _) (y : _) (r : _) (t : _) (c : _) (k : _), s.alive = true ∧ q = 16 + n ∧ n < 8 ∧ count < 8192 ∧ s.hpReady q = true ∧ ((∀ o ∈ others, o.1 % 8 = n ∨ s.hpReady (16 + o.1 % 8) = false ∨ p.tc ≤ o.2)) ∧ hostCheck count p = none ∧ s.sharedRoom (cellCount p.length) = true ∧ y = p.withPoison p.poisonMap ∧ s.resolve 9 0 { y with epoch := s.rd FWD_SLICE_EPOCH_cur_epoch 0 y.slice } = (r, t) ∧ r = .error (c, k)) ∧
    (∃ (s : State) (n : _) (count : _) (p : _) (others : List (Nat × Nat)) (q : _) (y : _) (r : _) (t : _) (d : _) (z : _) (b : _) (w : _) (v : _), s.alive = true ∧ q = 16 + n ∧ n < 8 ∧ count < 8192 ∧ s.hpReady q = true ∧ ((∀ o ∈ others, o.1 % 8 = n ∨ s.hpReady (16 + o.1 % 8) = false ∨ p.tc ≤ o.2)) ∧ hostCheck count p = none ∧ s.sharedRoom (cellCount p.length) = true ∧ y = p.withPoison p.poisonMap ∧ s.resolve 9 0 { y with epoch := s.rd FWD_SLICE_EPOCH_cur_epoch 0 y.slice } = (r, t) ∧ r = .ok (d, z) ∧ t.takeShared (cellCount z.length) = some (b, w) ∧ v = w.enter z 0 191 none 0 d b 0 true) ∧
    (∃ (s : State) (n : _) (q : _) (v : _), s.alive = true ∧ q = 24 + n ∧ n < 8 ∧ ((s.headMgmt = none → v = s)) ∧ ((∀ x, s.headMgmt = some x → v = if mgmtKnown (mgmtType x.pkt) = true then s else s.mgmtTake (mgmtType x.pkt) fun _ _ _ _ t => t)) ∧ (v.headRx q = none ∨ v.hpReady q = false)) ∧
    (∃ (s : State) (n : _) (q : _) (v : _) (x : _) (lp : _), s.alive = true ∧ q = 24 + n ∧ n < 8 ∧ ((s.headMgmt = none → v = s)) ∧ ((∀ x, s.headMgmt = some x → v = if mgmtKnown (mgmtType x.pkt) = true then s else s.mgmtTake (mgmtType x.pkt) fun _ _ _ _ t => t)) ∧ v.headRx q = some x ∧ v.hpReady q = true ∧ x.arr = some lp) ∧
    (∃ (s : State) (n : _) (q : _) (v : _) (x : _), s.alive = true ∧ q = 24 + n ∧ n < 8 ∧ ((s.headMgmt = none → v = s)) ∧ ((∀ x, s.headMgmt = some x → v = if mgmtKnown (mgmtType x.pkt) = true then s else s.mgmtTake (mgmtType x.pkt) fun _ _ _ _ t => t)) ∧ v.headRx q = some x ∧ v.hpReady q = true ∧ x.arr = none) ∧
    (∃ (s : State) (n : _), s.alive = true ∧ n < 8 ∧ s.headRx (24 + n) = none) ∧
    (∃ (s : State) (n : _) (x : _) (q : _), s.alive = true ∧ q = 24 + n ∧ n < 8 ∧ s.headRx q = some x ∧ s.hpReady q = false ∧ x.since + usCyc (s.rd HIF_HP_CFG_rx_wait_us) ≤ s.cyc) ∧
    (∃ (s : State) (n : _) (x : _) (q : _), s.alive = true ∧ q = 24 + n ∧ n < 8 ∧ s.headRx q = some x ∧ (s.hpReady q = true ∨ s.cyc < x.since + usCyc (s.rd HIF_HP_CFG_rx_wait_us))) ∧
    (∃ (s : State) (c : _) (w : Wr) (u : _) (d : _), s.alive = true ∧ c < 4 ∧ s.served 0 (0x218 + 0x20 * c) ∧ u = (s.event 0 4).put HIF_DMA_CTRL_dir w 0 c ∧ d = ({ host := u.rd HIF_DMA_HOST_addr 0 c * 64, dev := u.rd HIF_DMA_DEV_addr 0 c * 64, len := u.rd HIF_DMA_LEN_len 0 c * 64, toHost := u.flag HIF_DMA_CTRL_dir 0 c } : DmaRun) ∧ (w.ones 0 1 = 0 ∨ u.flag HIF_DMA_CTRL_busy 0 c = true)) ∧
    (∃ (s : State) (c : _) (w : Wr) (u : _) (d : _), s.alive = true ∧ c < 4 ∧ s.served 0 (0x218 + 0x20 * c) ∧ u = (s.event 0 4).put HIF_DMA_CTRL_dir w 0 c ∧ d = ({ host := u.rd HIF_DMA_HOST_addr 0 c * 64, dev := u.rd HIF_DMA_DEV_addr 0 c * 64, len := u.rd HIF_DMA_LEN_len 0 c * 64, toHost := u.flag HIF_DMA_CTRL_dir 0 c } : DmaRun) ∧ w.ones 0 1 ≠ 0 ∧ u.flag HIF_DMA_CTRL_busy 0 c = false ∧ memTop < d.dev + d.len) ∧
    (∃ (s : State) (c : _) (w : Wr) (u : _) (d : _), s.alive = true ∧ c < 4 ∧ s.served 0 (0x218 + 0x20 * c) ∧ u = (s.event 0 4).put HIF_DMA_CTRL_dir w 0 c ∧ d = ({ host := u.rd HIF_DMA_HOST_addr 0 c * 64, dev := u.rd HIF_DMA_DEV_addr 0 c * 64, len := u.rd HIF_DMA_LEN_len 0 c * 64, toHost := u.flag HIF_DMA_CTRL_dir 0 c } : DmaRun) ∧ w.ones 0 1 ≠ 0 ∧ u.flag HIF_DMA_CTRL_busy 0 c = false ∧ d.dev + d.len ≤ memTop) ∧
    (∃ (s : State) (c : _), s.alive = true ∧ c < 4 ∧ (s.hif.dma.get? c = none ∨ s.busMaster = false)) ∧
    (∃ (s : State) (c : _) (errs : List (Nat × Nat)) (d : _) (r : Bool × State), s.alive = true ∧ c < 4 ∧ s.hif.dma.get? c = some d ∧ s.busMaster = true ∧ d.toHost = true ∧ r = (List.range (d.len / 64)).foldl (fun (a : Bool × State) i => (a.1 || (dmaOut d a.2 i).1, (dmaOut d a.2 i).2)) (false, s.strike errs)) ∧
    (∃ (s : State) (c : _) (d : _), s.alive = true ∧ c < 4 ∧ s.hif.dma.get? c = some d ∧ s.busMaster = true ∧ d.toHost = false) :=
  ⟨⟨up [], 7, 8191, 23, by decide +kernel, by decide +kernel, by decide +kernel, by decide +kernel, by decide +kernel⟩,
   ⟨hpUp 22 [], 7, 8191, { tc := 1 }, [(6, 0)], 23, by decide +kernel, by decide +kernel, by decide +kernel, by decide +kernel, by decide +kernel⟩,
   ⟨hpUp 23 [], 7, 8191, {}, [], 23, _, by decide +kernel, by decide +kernel, by decide +kernel, by decide +kernel, by decide +kernel, fun o h => absurd h List.not_mem_nil, rfl⟩,
   ⟨hpUp 23 [(BPM_POOL_free, [0])], 7, 64, sealed { tc := 4, waybill := [0xC001] }, [], 23, by decide +kernel, by decide +kernel, by decide +kernel, by decide +kernel, by decide +kernel, fun o h => absurd h List.not_mem_nil, by decide +kernel, by decide +kernel⟩,
   ⟨hpUp 23 [(BPM_POOL_free, [1000])], 7, 64, sealed { tc := 4, waybill := [5] }, [], 23, _, _, _, _, _, by decide +kernel, by decide +kernel, by decide +kernel, by decide +kernel, by decide +kernel, fun o h => absurd h List.not_mem_nil, by decide +kernel, by decide +kernel, rfl, rfl, eqErr (FWD_DROP_HDR_count, 0) (by decide +kernel)⟩,
   ⟨hpUp 23 [(BPM_POOL_free, [1000])], 7, 64, sealed { tc := 4, waybill := [0xC001] }, [], 23, _, _, _, _, _, _, _, _, by decide +kernel, by decide +kernel, by decide +kernel, by decide +kernel, by decide +kernel, fun o h => absurd h List.not_mem_nil, by decide +kernel, by decide +kernel, rfl, rfl, eqOk (.host, {}) (by decide +kernel), pickP (by decide +kernel), rfl⟩,
   ⟨up [], 7, 31, up [], by decide +kernel, by decide +kernel, by decide +kernel, fun _ => rfl, noMgmt (by decide +kernel), .inl (by decide +kernel)⟩,
   ⟨{ hpUp 31 [] with flights := [hostFl { tc := 7 } (some 1023)] }, 7, 31, { hpUp 31 [] with flights := [hostFl { tc := 7 } (some 1023)] }, hostFl { tc := 7 } (some 1023), 1023, by decide +kernel, by decide +kernel, by decide +kernel, fun _ => rfl, noMgmt (by decide +kernel), by decide +kernel, by decide +kernel, rfl⟩,
   ⟨{ hpUp 31 [] with flights := [hostFl { tc := 7 } none] }, 7, 31, { hpUp 31 [] with flights := [hostFl { tc := 7 } none] }, hostFl { tc := 7 } none, by decide +kernel, by decide +kernel, by decide +kernel, fun _ => rfl, noMgmt (by decide +kernel), by decide +kernel, by decide +kernel, by decide +kernel⟩,
   ⟨up [], 7, by decide +kernel, by decide +kernel, by decide +kernel⟩,
   ⟨{ up [] with flights := [hostFl { tc := 7 } none] }, 7, hostFl { tc := 7 } none, 31, by decide +kernel, by decide +kernel, by decide +kernel, by decide +kernel, by decide +kernel, by decide +kernel⟩,
   ⟨{ hpUp 31 [] with flights := [hostFl { tc := 7 } none] }, 7, hostFl { tc := 7 } none, 31, by decide +kernel, by decide +kernel, by decide +kernel, by decide +kernel, .inl (by decide +kernel)⟩,
   ⟨up [ck 0], 3, { v := 0 }, _, _, by decide +kernel, by decide +kernel, ⟨rfl, rfl, rfl, rfl⟩, rfl, rfl, .inl (by decide +kernel)⟩,
   ⟨up [ck 0, (HIF_DMA_DEV_addr, [memTop / 64, 0, 3]), (HIF_DMA_LEN_len, [1, 0, 3])], 3, { v := 1 }, _, _, by decide +kernel, by decide +kernel, ⟨rfl, rfl, rfl, rfl⟩, rfl, rfl, by decide +kernel, by decide +kernel, by decide +kernel⟩,
   ⟨up [ck 0, (HIF_DMA_LEN_len, [1, 0, 3])], 3, { v := 1 }, _, _, by decide +kernel, by decide +kernel, ⟨rfl, rfl, rfl, rfl⟩, rfl, rfl, by decide +kernel, by decide +kernel, by decide +kernel⟩,
   ⟨up [], 3, by decide +kernel, by decide +kernel, .inl (by decide +kernel)⟩,
   ⟨{ up [] with hif := { dma := [(3, { host := 64, dev := 0, len := 64, toHost := true })] } }, 3, [], { host := 64, dev := 0, len := 64, toHost := true }, _, by decide +kernel, by decide +kernel, by decide +kernel, by decide +kernel, by decide +kernel, rfl⟩,
   ⟨{ up [] with hif := { dma := [(3, { host := 64, dev := 0, len := 64, toHost := false })] } }, 3, { host := 64, dev := 0, len := 64, toHost := false }, by decide +kernel, by decide +kernel, by decide +kernel, by decide +kernel, by decide +kernel⟩⟩

/-- Each clause of SecurityCommands that has hypotheses: a state and operands that meet them. -/
theorem witness_SecurityCommands :
    (∃ (s : State) (u : State), s.served 1 0x130 ∧ u = s.event 1 4 ∧ u.busMaster = false) ∧
    (∃ (s : State) (u : State), s.served 1 0x130 ∧ u = s.event 1 4 ∧ u.busMaster = true) ∧
    (∃ (s : State) (u : State) (bytes : List Byte) (n : _) (img : _) (r : _) (t : _), s.served 1 0x130 ∧ u = s.event 1 4 ∧ u.busMaster = true ∧ n = u.secArg 0 32 ∧ img = (bytes ++ List.replicate (n - bytes.length) 0).take n ∧ r = fwVerify img ∧ t = ({ u with secu := { u.secu with slots := u.secu.slots.set u.stageSlot (some r) } } : State) ∧ ((slotBytes < n ∨ n < 256 + fwSigBytes))) ∧
    (∃ (s : State) (u : State) (bytes : List Byte) (n : _) (img : _) (r : _) (t : _), s.served 1 0x130 ∧ u = s.event 1 4 ∧ u.busMaster = true ∧ n = u.secArg 0 32 ∧ img = (bytes ++ List.replicate (n - bytes.length) 0).take n ∧ r = fwVerify img ∧ t = ({ u with secu := { u.secu with slots := u.secu.slots.set u.stageSlot (some r) } } : State) ∧ n ≤ slotBytes ∧ 256 + fwSigBytes ≤ n ∧ r.code ≠ 0) ∧
    (∃ (s : State) (u : State) (bytes : List Byte) (n : _) (img : _) (r : _) (t : _), s.served 1 0x130 ∧ u = s.event 1 4 ∧ u.busMaster = true ∧ n = u.secArg 0 32 ∧ img = (bytes ++ List.replicate (n - bytes.length) 0).take n ∧ r = fwVerify img ∧ t = ({ u with secu := { u.secu with slots := u.secu.slots.set u.stageSlot (some r) } } : State) ∧ n ≤ slotBytes ∧ 256 + fwSigBytes ≤ n ∧ r.secVer < u.secu.fwMin) ∧
    (∃ (s : State) (u : State) (bytes : List Byte) (n : _) (img : _) (r : _) (t : _), s.served 1 0x130 ∧ u = s.event 1 4 ∧ u.busMaster = true ∧ n = u.secArg 0 32 ∧ img = (bytes ++ List.replicate (n - bytes.length) 0).take n ∧ r = fwVerify img ∧ t = ({ u with secu := { u.secu with slots := u.secu.slots.set u.stageSlot (some r) } } : State) ∧ n ≤ slotBytes ∧ 256 + fwSigBytes ≤ n ∧ u.secu.fwMin ≤ r.secVer) ∧
    (∃ (s : State) (u : State), s.served 1 0x130 ∧ u = s.event 1 4 ∧ u.busMaster = true) ∧
    (∃ (s : State) (u : State), s.served 1 0x130 ∧ u = s.event 1 4 ∧ u.busMaster = true) ∧
    (∃ (s : State) (u : State), s.served 1 0x130 ∧ u = s.event 1 4 ∧ fwRefuse u.secu.fwMin (u.slot (u.secArg 0 1)) = 0) ∧
    (∃ (s : State) (u : State), s.served 1 0x130 ∧ u = s.event 1 4 ∧ fwRefuse u.secu.fwMin (u.slot (u.secArg 0 1)) ≠ 0) ∧
    (∃ (s : State) (u : State), s.served 1 0x130 ∧ u = s.event 1 4 ∧ (u.secArg 0 32 < u.rd SEC_MIN_fw_min ∨ u.secArg 32 32 < u.rd SEC_MIN_kernel_min)) ∧
    (∃ (s : State) (u : State), s.served 1 0x130 ∧ u = s.event 1 4 ∧ u.rd SEC_MIN_fw_min ≤ u.secArg 0 32 ∧ u.rd SEC_MIN_kernel_min ≤ u.secArg 32 32 ∧ u.rd SEC_BOOT_STATUS_security_ver < u.secArg 0 32) ∧
    (∃ (s : State) (u : State), s.served 1 0x130 ∧ u = s.event 1 4 ∧ u.rd SEC_MIN_fw_min ≤ u.secArg 0 32 ∧ u.rd SEC_MIN_kernel_min ≤ u.secArg 32 32 ∧ u.secArg 0 32 ≤ u.rd SEC_BOOT_STATUS_security_ver) ∧
    (∃ (s : State) (u : State), s.served 1 0x130 ∧ u = s.event 1 4) ∧
    (∃ (s : State) (u : State) (r : FwRead), s.served 1 0x130 ∧ u = s.event 1 4 ∧ r.code = 0 ∧ u.secu.fwMin ≤ r.secVer) ∧
    (∃ (s : State) (u : State) (r : FwRead), s.served 1 0x130 ∧ u = s.event 1 4 ∧ r.code = 0 ∧ r.secVer < u.secu.fwMin) ∧
    (∃ (s : State) (u : State) (r : FwRead), s.served 1 0x130 ∧ u = s.event 1 4 ∧ r.code ≠ 0) :=
  ⟨⟨{ up [ck 1] with busMaster := false }, _, ⟨rfl, rfl, rfl, rfl⟩, rfl, by decide +kernel⟩,
   ⟨up [ck 1], _, ⟨rfl, rfl, rfl, rfl⟩, rfl, by decide +kernel⟩,
   ⟨up [ck 1], _, [], _, _, _, _, ⟨rfl, rfl, rfl, rfl⟩, rfl, by decide +kernel, rfl, rfl, rfl, rfl, .inr (by decide +kernel)⟩,
   ⟨up [ck 1, (SEC_CMD_ARG_arg, [30048])], _, List.replicate 30048 0, _, _, _, _, ⟨rfl, rfl, rfl, rfl⟩, rfl, by decide +kernel, rfl, rfl, rfl, rfl, by decide +kernel, by decide +kernel, by decide +kernel⟩,
   ⟨{ up [ck 1, (SEC_CMD_ARG_arg, [30048])] with secu := { slots := [some { code := 0, secVer := 2 }, none], fwMin := 1 } }, _, List.replicate 30048 0, _, _, _, _, ⟨rfl, rfl, rfl, rfl⟩, rfl, by decide +kernel, rfl, rfl, rfl, rfl, by decide +kernel, by decide +kernel, by decide +kernel⟩,
   ⟨{ up [ck 1, (SEC_CMD_ARG_arg, [30048])] with secu := { slots := [some { code := 0, secVer := 2 }, none], fwMin := 0 } }, _, List.replicate 30048 0, _, _, _, _, ⟨rfl, rfl, rfl, rfl⟩, rfl, by decide +kernel, rfl, rfl, rfl, rfl, by decide +kernel, by decide +kernel, by decide +kernel⟩,
   ⟨up [ck 1], _, ⟨rfl, rfl, rfl, rfl⟩, rfl, by decide +kernel⟩,
   ⟨up [ck 1, (SEC_CMD_ARG_arg, [2 ^ 32 - 1])], _, ⟨rfl, rfl, rfl, rfl⟩, rfl, by decide +kernel⟩,
   ⟨{ up [ck 1] with secu := { slots := [some { code := 0, secVer := 2 }, none], fwMin := 2 } }, _, ⟨rfl, rfl, rfl, rfl⟩, rfl, by decide +kernel⟩,
   ⟨{ up [ck 1, (SEC_CMD_ARG_arg, [1])] with secu := { slots := [some { code := 0, secVer := 2 }, none], fwMin := 2 } }, _, ⟨rfl, rfl, rfl, rfl⟩, rfl, by decide +kernel⟩,
   ⟨up [ck 1, (SEC_MIN_fw_min, [5])], _, ⟨rfl, rfl, rfl, rfl⟩, rfl, .inl (by decide +kernel)⟩,
   ⟨up [ck 1, (SEC_MIN_fw_min, [5]), (SEC_CMD_ARG_arg, [7]), (SEC_BOOT_STATUS_security_ver, [6])], _, ⟨rfl, rfl, rfl, rfl⟩, rfl, by decide +kernel, by decide +kernel, by decide +kernel⟩,
   ⟨up [ck 1, (SEC_MIN_fw_min, [5]), (SEC_CMD_ARG_arg, [6]), (SEC_BOOT_STATUS_security_ver, [6])], _, ⟨rfl, rfl, rfl, rfl⟩, rfl, by decide +kernel, by decide +kernel, by decide +kernel⟩,
   ⟨up [ck 1], _, ⟨rfl, rfl, rfl, rfl⟩, rfl⟩,
   ⟨up [ck 1], _, { code := 0 }, ⟨rfl, rfl, rfl, rfl⟩, rfl, by decide +kernel, by decide +kernel⟩,
   ⟨{ up [ck 1] with secu := { slots := [some { code := 0, secVer := 2 }, none], fwMin := 2 } }, _, { code := 0, secVer := 1 }, ⟨rfl, rfl, rfl, rfl⟩, rfl, by decide +kernel, by decide +kernel⟩,
   ⟨up [ck 1], _, { code := 3 }, ⟨rfl, rfl, rfl, rfl⟩, rfl, by decide +kernel⟩⟩

/-- Each clause of SessionsAndTheirMessages that has hypotheses: a state and operands that meet them. -/
theorem witness_SessionsAndTheirMessages :
    (∃ (s : State) (c : Instr) (typ : Nat) (f : Pkt → Nat → Option Sess → List Byte → State → State) (lost : List Nat), s.alive = true ∧ ((c = .sessInit ∧ typ = 1 ∧ f = fun p pipe x b t => if x.isNone then t.sessInit p pipe b else t) ∨ (c = .sessConfirm ∧ typ = 3 ∧ f = fun _ _ x _ t => match x with | some x => if x.confirmed then t else (t.putSess { x with confirmed := true }).irq 1 2 | none => t) ∨ (c = .sessClose ∧ typ = 4 ∧ f = fun _ _ x _ t => match x with | some x => t.endSess [x.id] | none => t) ∨ (c = .certReq ∧ typ = 6 ∧ f = fun p pipe x b t => if x.isNone && b.isEmpty && t.flag SEC_IB_CTRL_enable then t.sendMgmt pipe p.src p.slice 0 6 Config.certChain else t) ∨ (c = .attestReq ∧ typ = 0x12 ∧ f = fun p pipe x b t => match x with | some x => if x.confirmed && b.length = 32 then t.sendMgmt pipe p.src p.slice x.id 0x13 (t.report b) else t | none => t) ∨ (c = .mgmtCmd lost ∧ typ = 0x10 ∧ f = fun p pipe x b t => match x with | some x => t.mgmtCmd p pipe x b lost | none => t)) ∧ s.headMgmt = none) ∧
    (∃ (s : State) (c : Instr) (typ : Nat) (f : Pkt → Nat → Option Sess → List Byte → State → State) (lost : List Nat) (x : _), s.alive = true ∧ ((c = .sessInit ∧ typ = 1 ∧ f = fun p pipe x b t => if x.isNone then t.sessInit p pipe b else t) ∨ (c = .sessConfirm ∧ typ = 3 ∧ f = fun _ _ x _ t => match x with | some x => if x.confirmed then t else (t.putSess { x with confirmed := true }).irq 1 2 | none => t) ∨ (c = .sessClose ∧ typ = 4 ∧ f = fun _ _ x _ t => match x with | some x => t.endSess [x.id] | none => t) ∨ (c = .certReq ∧ typ = 6 ∧ f = fun p pipe x b t => if x.isNone && b.isEmpty && t.flag SEC_IB_CTRL_enable then t.sendMgmt pipe p.src p.slice 0 6 Config.certChain else t) ∨ (c = .attestReq ∧ typ = 0x12 ∧ f = fun p pipe x b t => match x with | some x => if x.confirmed && b.length = 32 then t.sendMgmt pipe p.src p.slice x.id 0x13 (t.report b) else t | none => t) ∨ (c = .mgmtCmd lost ∧ typ = 0x10 ∧ f = fun p pipe x b t => match x with | some x => t.mgmtCmd p pipe x b lost | none => t)) ∧ s.headMgmt = some x ∧ mgmtType x.pkt ≠ typ) ∧
    (∃ (s : State) (c : Instr) (typ : Nat) (f : Pkt → Nat → Option Sess → List Byte → State → State) (lost : List Nat) (x : _) (u : _) (p : _) (sess : _) (idx : _) (cnt : _) (ctr : _), s.alive = true ∧ ((c = .sessInit ∧ typ = 1 ∧ f = fun p pipe x b t => if x.isNone then t.sessInit p pipe b else t) ∨ (c = .sessConfirm ∧ typ = 3 ∧ f = fun _ _ x _ t => match x with | some x => if x.confirmed then t else (t.putSess { x with confirmed := true }).irq 1 2 | none => t) ∨ (c = .sessClose ∧ typ = 4 ∧ f = fun _ _ x _ t => match x with | some x => t.endSess [x.id] | none => t) ∨ (c = .certReq ∧ typ = 6 ∧ f = fun p pipe x b t => if x.isNone && b.isEmpty && t.flag SEC_IB_CTRL_enable then t.sendMgmt pipe p.src p.slice 0 6 Config.certChain else t) ∨ (c = .attestReq ∧ typ = 0x12 ∧ f = fun p pipe x b t => match x with | some x => if x.confirmed && b.length = 32 then t.sendMgmt pipe p.src p.slice x.id 0x13 (t.report b) else t | none => t) ∨ (c = .mgmtCmd lost ∧ typ = 0x10 ∧ f = fun p pipe x b t => match x with | some x => t.mgmtCmd p pipe x b lost | none => t)) ∧ s.headMgmt = some x ∧ x.pkt = p ∧ mgmtType p = typ ∧ u = s.dropFlight x ∧ sess = leNat (p.payload.take 4) ∧ idx = leNat ((p.payload.drop 5).take 1) ∧ cnt = leNat ((p.payload.drop 6).take 1) ∧ ctr = leNat ((p.payload.drop 8).take 8) ∧ (u.noFirmware = true ∨ p.e2e ≠ e2eOf p.payload)) ∧
    (∃ (s : State) (c : Instr) (typ : Nat) (f : Pkt → Nat → Option Sess → List Byte → State → State) (lost : List Nat) (x : _) (u : _) (p : _) (sess : _) (idx : _) (cnt : _) (ctr : _) (v : _), s.alive = true ∧ ((c = .sessInit ∧ typ = 1 ∧ f = fun p pipe x b t => if x.isNone then t.sessInit p pipe b else t) ∨ (c = .sessConfirm ∧ typ = 3 ∧ f = fun _ _ x _ t => match x with | some x => if x.confirmed then t else (t.putSess { x with confirmed := true }).irq 1 2 | none => t) ∨ (c = .sessClose ∧ typ = 4 ∧ f = fun _ _ x _ t => match x with | some x => t.endSess [x.id] | none => t) ∨ (c = .certReq ∧ typ = 6 ∧ f = fun p pipe x b t => if x.isNone && b.isEmpty && t.flag SEC_IB_CTRL_enable then t.sendMgmt pipe p.src p.slice 0 6 Config.certChain else t) ∨ (c = .attestReq ∧ typ = 0x12 ∧ f = fun p pipe x b t => match x with | some x => if x.confirmed && b.length = 32 then t.sendMgmt pipe p.src p.slice x.id 0x13 (t.report b) else t | none => t) ∨ (c = .mgmtCmd lost ∧ typ = 0x10 ∧ f = fun p pipe x b t => match x with | some x => t.mgmtCmd p pipe x b lost | none => t)) ∧ s.headMgmt = some x ∧ x.pkt = p ∧ mgmtType p = typ ∧ u = s.dropFlight x ∧ sess = leNat (p.payload.take 4) ∧ idx = leNat ((p.payload.drop 5).take 1) ∧ cnt = leNat ((p.payload.drop 6).take 1) ∧ ctr = leNat ((p.payload.drop 8).take 8) ∧ u.noFirmware = false ∧ p.e2e = e2eOf p.payload ∧ sess = 0 ∧ u.fragAdd p.src 0 typ idx cnt 0 (p.payload.drop 16) = (none, v)) ∧
    (∃ (s : State) (c : Instr) (typ : Nat) (f : Pkt → Nat → Option Sess → List Byte → State → State) (lost : List Nat) (x : _) (u : _) (p : _) (sess : _) (idx : _) (cnt : _) (ctr : _) (b : _) (v : _), s.alive = true ∧ ((c = .sessInit ∧ typ = 1 ∧ f = fun p pipe x b t => if x.isNone then t.sessInit p pipe b else t) ∨ (c = .sessConfirm ∧ typ = 3 ∧ f = fun _ _ x _ t => match x with | some x => if x.confirmed then t else (t.putSess { x with confirmed := true }).irq 1 2 | none => t) ∨ (c = .sessClose ∧ typ = 4 ∧ f = fun _ _ x _ t => match x with | some x => t.endSess [x.id] | none => t) ∨ (c = .certReq ∧ typ = 6 ∧ f = fun p pipe x b t => if x.isNone && b.isEmpty && t.flag SEC_IB_CTRL_enable then t.sendMgmt pipe p.src p.slice 0 6 Config.certChain else t) ∨ (c = .attestReq ∧ typ = 0x12 ∧ f = fun p pipe x b t => match x with | some x => if x.confirmed && b.length = 32 then t.sendMgmt pipe p.src p.slice x.id 0x13 (t.report b) else t | none => t) ∨ (c = .mgmtCmd lost ∧ typ = 0x10 ∧ f = fun p pipe x b t => match x with | some x => t.mgmtCmd p pipe x b lost | none => t)) ∧ s.headMgmt = some x ∧ x.pkt = p ∧ mgmtType p = typ ∧ u = s.dropFlight x ∧ sess = leNat (p.payload.take 4) ∧ idx = leNat ((p.payload.drop 5).take 1) ∧ cnt = leNat ((p.payload.drop 6).take 1) ∧ ctr = leNat ((p.payload.drop 8).take 8) ∧ u.noFirmware = false ∧ p.e2e = e2eOf p.payload ∧ sess = 0 ∧ u.fragAdd p.src 0 typ idx cnt 0 (p.payload.drop 16) = (some b, v)) ∧
    (∃ (s : State) (c : Instr) (typ : Nat) (f : Pkt → Nat → Option Sess → List Byte → State → State) (lost : List Nat) (x : _) (u : _) (p : _) (sess : _) (idx : _) (cnt : _) (ctr : _) (v : _), s.alive = true ∧ ((c = .sessInit ∧ typ = 1 ∧ f = fun p pipe x b t => if x.isNone then t.sessInit p pipe b else t) ∨ (c = .sessConfirm ∧ typ = 3 ∧ f = fun _ _ x _ t => match x with | some x => if x.confirmed then t else (t.putSess { x with confirmed := true }).irq 1 2 | none => t) ∨ (c = .sessClose ∧ typ = 4 ∧ f = fun _ _ x _ t => match x with | some x => t.endSess [x.id] | none => t) ∨ (c = .certReq ∧ typ = 6 ∧ f = fun p pipe x b t => if x.isNone && b.isEmpty && t.flag SEC_IB_CTRL_enable then t.sendMgmt pipe p.src p.slice 0 6 Config.certChain else t) ∨ (c = .attestReq ∧ typ = 0x12 ∧ f = fun p pipe x b t => match x with | some x => if x.confirmed && b.length = 32 then t.sendMgmt pipe p.src p.slice x.id 0x13 (t.report b) else t | none => t) ∨ (c = .mgmtCmd lost ∧ typ = 0x10 ∧ f = fun p pipe x b t => match x with | some x => t.mgmtCmd p pipe x b lost | none => t)) ∧ s.headMgmt = some x ∧ x.pkt = p ∧ mgmtType p = typ ∧ u = s.dropFlight x ∧ sess = leNat (p.payload.take 4) ∧ idx = leNat ((p.payload.drop 5).take 1) ∧ cnt = leNat ((p.payload.drop 6).take 1) ∧ ctr = leNat ((p.payload.drop 8).take 8) ∧ u.noFirmware = false ∧ p.e2e = e2eOf p.payload ∧ sess ≠ 0 ∧ u.judgeTag sess ctr p.payload = (none, v)) ∧
    (∃ (s : State) (c : Instr) (typ : Nat) (f : Pkt → Nat → Option Sess → List Byte → State → State) (lost : List Nat) (x : _) (u : _) (p : _) (sess : _) (idx : _) (cnt : _) (ctr : _) (y : _) (v : _) (w : _), s.alive = true ∧ ((c = .sessInit ∧ typ = 1 ∧ f = fun p pipe x b t => if x.isNone then t.sessInit p pipe b else t) ∨ (c = .sessConfirm ∧ typ = 3 ∧ f = fun _ _ x _ t => match x with | some x => if x.confirmed then t else (t.putSess { x with confirmed := true }).irq 1 2 | none => t) ∨ (c = .sessClose ∧ typ = 4 ∧ f = fun _ _ x _ t => match x with | some x => t.endSess [x.id] | none => t) ∨ (c = .certReq ∧ typ = 6 ∧ f = fun p pipe x b t => if x.isNone && b.isEmpty && t.flag SEC_IB_CTRL_enable then t.sendMgmt pipe p.src p.slice 0 6 Config.certChain else t) ∨ (c = .attestReq ∧ typ = 0x12 ∧ f = fun p pipe x b t => match x with | some x => if x.confirmed && b.length = 32 then t.sendMgmt pipe p.src p.slice x.id 0x13 (t.report b) else t | none => t) ∨ (c = .mgmtCmd lost ∧ typ = 0x10 ∧ f = fun p pipe x b t => match x with | some x => t.mgmtCmd p pipe x b lost | none => t)) ∧ s.headMgmt = some x ∧ x.pkt = p ∧ mgmtType p = typ ∧ u = s.dropFlight x ∧ sess = leNat (p.payload.take 4) ∧ idx = leNat ((p.payload.drop 5).take 1) ∧ cnt = leNat ((p.payload.drop 6).take 1) ∧ ctr = leNat ((p.payload.drop 8).take 8) ∧ u.noFirmware = false ∧ p.e2e = e2eOf p.payload ∧ sess ≠ 0 ∧ u.judgeTag sess ctr p.payload = (some y, v) ∧ v.fragAdd p.src sess typ idx cnt ctr ((p.payload.drop 16).take (p.payload.length - 32)) = (none, w)) ∧
    (∃ (s : State) (c : Instr) (typ : Nat) (f : Pkt → Nat → Option Sess → List Byte → State → State) (lost : List Nat) (x : _) (u : _) (p : _) (sess : _) (idx : _) (cnt : _) (ctr : _) (y : _) (v : _) (b : _) (w : _), s.alive = true ∧ ((c = .sessInit ∧ typ = 1 ∧ f = fun p pipe x b t => if x.isNone then t.sessInit p pipe b else t) ∨ (c = .sessConfirm ∧ typ = 3 ∧ f = fun _ _ x _ t => match x with | some x => if x.confirmed then t else (t.putSess { x with confirmed := true }).irq 1 2 | none => t) ∨ (c = .sessClose ∧ typ = 4 ∧ f = fun _ _ x _ t => match x with | some x => t.endSess [x.id] | none => t) ∨ (c = .certReq ∧ typ = 6 ∧ f = fun p pipe x b t => if x.isNone && b.isEmpty && t.flag SEC_IB_CTRL_enable then t.sendMgmt pipe p.src p.slice 0 6 Config.certChain else t) ∨ (c = .attestReq ∧ typ = 0x12 ∧ f = fun p pipe x b t => match x with | some x => if x.confirmed && b.length = 32 then t.sendMgmt pipe p.src p.slice x.id 0x13 (t.report b) else t | none => t) ∨ (c = .mgmtCmd lost ∧ typ = 0x10 ∧ f = fun p pipe x b t => match x with | some x => t.mgmtCmd p pipe x b lost | none => t)) ∧ s.headMgmt = some x ∧ x.pkt = p ∧ mgmtType p = typ ∧ u = s.dropFlight x ∧ sess = leNat (p.payload.take 4) ∧ idx = leNat ((p.payload.drop 5).take 1) ∧ cnt = leNat ((p.payload.drop 6).take 1) ∧ ctr = leNat ((p.payload.drop 8).take 8) ∧ u.noFirmware = false ∧ p.e2e = e2eOf p.payload ∧ sess ≠ 0 ∧ u.judgeTag sess ctr p.payload = (some y, v) ∧ v.fragAdd p.src sess typ idx cnt ctr ((p.payload.drop 16).take (p.payload.length - 32)) = (some b, w)) ∧
    (∃ (s : State), s.alive = true ∧ s.flag SEC_IB_CTRL_enable = false) ∧
    (∃ (s : State) (b : List Byte) (pk : List Byte) (hash : List Byte) (anchored : _), s.alive = true ∧ s.flag SEC_IB_CTRL_enable = true ∧ pk = (b.drop 1600).take 32 ∧ hash = shake256 pk 32 ∧ anchored = ((List.range 4).any fun a => hash == leWords 8 ((List.range 4).map fun w => s.rd SEC_ANCHOR_hash 0 a w)) ∧ ((b.length ≠ 18720 ∨ anchored = false))) ∧
    (∃ (s : State) (b : List Byte) (pk : List Byte) (hash : List Byte) (anchored : _), s.alive = true ∧ s.flag SEC_IB_CTRL_enable = true ∧ pk = (b.drop 1600).take 32 ∧ hash = shake256 pk 32 ∧ anchored = ((List.range 4).any fun a => hash == leWords 8 ((List.range 4).map fun w => s.rd SEC_ANCHOR_hash 0 a w)) ∧ b.length = 18720 ∧ anchored = true) ∧
    (∃ (s : State) (b : List Byte) (pk : List Byte) (hash : List Byte) (anchored : _), s.alive = true ∧ s.flag SEC_IB_CTRL_enable = true ∧ pk = (b.drop 1600).take 32 ∧ hash = shake256 pk 32 ∧ anchored = ((List.range 4).any fun a => hash == leWords 8 ((List.range 4).map fun w => s.rd SEC_ANCHOR_hash 0 a w)) ∧ b.length = 18720 ∧ anchored = true ∧ s.rd SEC_IB_CTRL_max_sessions ≤ s.secu.sess.length) ∧
    (∃ (s : State) (b : List Byte) (pk : List Byte) (hash : List Byte) (anchored : _) (f : _) (g : _) (h : _) (id : _) (kem : _) (head : _) (acc : _) (t : _) (v : _), s.alive = true ∧ s.flag SEC_IB_CTRL_enable = true ∧ pk = (b.drop 1600).take 32 ∧ hash = shake256 pk 32 ∧ anchored = ((List.range 4).any fun a => hash == leWords 8 ((List.range 4).map fun w => s.rd SEC_ANCHOR_hash 0 a w)) ∧ b.length = 18720 ∧ anchored = true ∧ s.secu.sess.length < s.rd SEC_IB_CTRL_max_sessions ∧ f = s.takeFree 13 ∧ g = f.2.takeFree 14 ∧ h = g.2.takeFree 15 ∧ id = sessId (h.2.secu.sess.map (·.id)) f.1 8 ∧ kem = Config.mlKemEncaps (b.take 1568) g.1 ∧ head = leBytes 4 id ++ kem.1 ++ leBytes 32 h.1 ++ Config.identityKey ∧ acc = head ++ Config.slhDsaSign (shake256 (b ++ head) 32) ∧ t = shake256 (b ++ acc) 32 ∧ v = h.2.setSess (h.2.secu.sess ++ [{ id := id, keyIn := kmac256 kem.2 t 32 (asciiBytes "Genric mgmt f2m"), keyOut := kmac256 kem.2 t 32 (asciiBytes "Genric mgmt m2f"), at_ := h.2.cyc, last := h.2.cyc }])) ∧
    (∃ (s : State) (sess : _), s.alive = true ∧ s.sessOf sess = none) ∧
    (∃ (s : State) (sess : _) (ctr : _) (pl : List Byte) (x : _), s.alive = true ∧ s.sessOf sess = some x ∧ 32 ≤ pl.length ∧ mgmtTag x.keyIn (pl.take (pl.length - 16)) = pl.drop (pl.length - 16) ∧ ctr ≤ x.rx) ∧
    (∃ (s : State) (sess : _) (ctr : _) (pl : List Byte) (x : _), s.alive = true ∧ s.sessOf sess = some x ∧ 32 ≤ pl.length ∧ mgmtTag x.keyIn (pl.take (pl.length - 16)) = pl.drop (pl.length - 16) ∧ x.rx < ctr) ∧
    (∃ (s : State) (sess : _) (pl : List Byte) (x : _), s.alive = true ∧ s.sessOf sess = some x ∧ ((pl.length < 32 ∨ mgmtTag x.keyIn (pl.take (pl.length - 16)) ≠ pl.drop (pl.length - 16)))) ∧
    (∃ (s : State), s.alive = true) :=
  ⟨⟨up [], .sessClose, 4, _, [], by decide +kernel, .inr (.inr (.inl ⟨rfl, rfl, rfl⟩)), by decide +kernel⟩,
   ⟨mgmtUp (mgmtPkt ([0, 0, 0, 0, 3, 0, 1, 0] ++ List.replicate 8 0)), .sessClose, 4, _, [], _, by decide +kernel, .inr (.inr (.inl ⟨rfl, rfl, rfl⟩)), rfl, by decide +kernel⟩,
   ⟨mgmtUp ({ mgmtPkt ([0, 0, 0, 0, 4, 0, 1, 0] ++ List.replicate 8 0) with e2e := 1 }), .sessClose, 4, _, [], _, _, _, _, _, _, _, by decide +kernel, .inr (.inr (.inl ⟨rfl, rfl, rfl⟩)), rfl, rfl, by decide +kernel, rfl, rfl, rfl, rfl, rfl, .inr (by decide +kernel)⟩,
   ⟨mgmtUp (mgmtPkt ([0, 0, 0, 0, 4, 1, 1, 0] ++ List.replicate 8 0)), .sessClose, 4, _, [], _, _, _, _, _, _, _, _, by decide +kernel, .inr (.inr (.inl ⟨rfl, rfl, rfl⟩)), rfl, rfl, by decide +kernel, rfl, rfl, rfl, rfl, rfl, by decide +kernel, by decide +kernel, by decide +kernel, pairT (by decide +kernel)⟩,
   ⟨mgmtUp (mgmtPkt ([0, 0, 0, 0, 4, 0, 1, 0] ++ List.replicate 8 0)), .sessClose, 4, _, [], _, _, _, _, _, _, _, _, _, by decide +kernel, .inr (.inr (.inl ⟨rfl, rfl, rfl⟩)), rfl, rfl, by decide +kernel, rfl, rfl, rfl, rfl, rfl, by decide +kernel, by decide +kernel, by decide +kernel, pairS (by decide +kernel)⟩,
   ⟨mgmtUp (mgmtPkt [9, 0, 0, 0, 4, 0, 1, 0, 4, 0, 0, 0, 0, 0, 0, 0]), .sessClose, 4, _, [], _, _, _, _, _, _, _, _, by decide +kernel, .inr (.inr (.inl ⟨rfl, rfl, rfl⟩)), rfl, rfl, by decide +kernel, rfl, rfl, rfl, rfl, rfl, by decide +kernel, by decide +kernel, by decide +kernel, pairT (by decide +kernel)⟩,
   ⟨mgmtUp (mgmtT 1), .sessClose, 4, _, [], _, _, _, _, _, _, _, _, _, _, by decide +kernel, .inr (.inr (.inl ⟨rfl, rfl, rfl⟩)), mgmt_head _, rfl, rfl, rfl, rfl, rfl, rfl, rfl, by decide +kernel, e2e_good _, by decide +kernel, judge_ok _ sess5 4 1 rfl rfl (by decide), pairT (by decide +kernel)⟩,
   ⟨mgmtUp (mgmtT 0), .sessClose, 4, _, [], _, _, _, _, _, _, _, _, _, _, _, by decide +kernel, .inr (.inr (.inl ⟨rfl, rfl, rfl⟩)), mgmt_head _, rfl, rfl, rfl, rfl, rfl, rfl, rfl, by decide +kernel, e2e_good _, by decide +kernel, judge_ok _ sess5 4 0 rfl rfl (by decide), pairS (by decide +kernel)⟩,
   ⟨up [], by decide +kernel, by decide +kernel⟩,
   ⟨up [(SEC_IB_CTRL_enable, [1])], [], _, _, _, by decide +kernel, by decide +kernel, rfl, rfl, rfl, .inl (by decide)⟩,
   ⟨initUp 4, initB, _, _, _, by decide +kernel, by decide +kernel, rfl, rfl, rfl, by decide +kernel, initUp_anchored _ (by decide +kernel)⟩,
   ⟨initUp 0, initB, _, _, _, by decide +kernel, by decide +kernel, rfl, rfl, rfl, by decide +kernel, initUp_anchored _ (by decide +kernel), by decide +kernel⟩,
   ⟨initUp 4, initB, _, _, _, _, _, _, _, _, _, _, _, _, by decide +kernel, by decide +kernel, rfl, rfl, rfl, by decide +kernel, initUp_anchored _ (by decide +kernel), by decide +kernel, rfl, rfl, rfl, rfl, rfl, rfl, rfl, rfl, rfl⟩,
   ⟨mgmtUp {}, 6, by decide +kernel, by decide +kernel⟩,
   ⟨mgmtUp {}, 5, 3, (mgmtT 0).payload, sess5, by decide +kernel, rfl, tag_long 0, tag_good 0, by decide +kernel⟩,
   ⟨mgmtUp {}, 5, 4, (mgmtT 0).payload, sess5, by decide +kernel, rfl, tag_long 0, tag_good 0, by decide +kernel⟩,
   ⟨mgmtUp {}, 5, [], sess5, by decide +kernel, rfl, .inl (by decide)⟩,
   ⟨up [], by decide +kernel⟩⟩

/-- Each clause of PowerRequestsIdleAndWakes that has hypotheses: a state and operands that meet them. -/
theorem witness_PowerRequestsIdleAndWakes :
    (∃ (pg : _), pg ≤ 5) ∧
    (∃ (pg : _), 5 < pg ∧ pageAssigned pg = false) ∧
    (∃ (pg : _) (v : _), 5 < pg ∧ pageAssigned pg = true ∧ v = 3) ∧
    (∃ (pg : _) (v : _), 0x30 ≤ pg ∧ pg ≤ 0x37 ∧ pageAssigned pg = true ∧ v < 3) ∧
    (∃ (s : State) (pg : _) (v : _), 0x80 ≤ pg ∧ pageAssigned pg = true ∧ v = 2 ∧ s.rd SRI_STATE_state (pg - 0x80) ≠ 2 ∧ s.rd SRI_STATE_state (pg - 0x80) ≠ 4 ∧ s.rd SRI_STATE_state (pg - 0x80) ≠ 5) ∧
    (∃ (pg : _) (v : _), 0x80 ≤ pg ∧ pageAssigned pg = true ∧ v < 2) ∧
    (∃ (pg : _) (v : _), pg = 8 ∧ v = 1) ∧
    (∃ (s : State) (pg : _) (v : _), pg = 8 ∧ v = 2 ∧ ((s.flag BYP_CTRL_enable = true ∨ s.byp.preps ≠ [] ∨ ∃ i < 64, s.flag BYP_CIRCUIT_valid 0 i = true))) ∧
    (∃ (s : State) (pg : _) (v : _), pg = 8 ∧ v = 2 ∧ s.flag BYP_CTRL_enable = false ∧ s.byp.preps = [] ∧ (∀ i < 64, s.flag BYP_CIRCUIT_valid 0 i = false)) ∧
    (∃ (pg : _) (v : _), pg = 8 ∧ v = 0) ∧
    (∃ (pg : _) (v : _), 5 < pg ∧ pageAssigned pg = true ∧ pg ≠ 8 ∧ ((pg < 0x30 ∨ 0x37 < pg)) ∧ pg < 0x80 ∧ v = 0) ∧
    (∃ (pg : _) (v : _), 5 < pg ∧ pageAssigned pg = true ∧ pg ≠ 8 ∧ ((pg < 0x30 ∨ 0x37 < pg)) ∧ pg < 0x80 ∧ (v = 1 ∨ v = 2)) ∧
    (∃ (s : State) (pg : _) (w : Wr), pg < 256 ∧ s.served pg 0x28 ∧ w.hits 0 2 = true) ∧
    (∃ (s : State) (pg : _) (w : Wr), pg < 256 ∧ s.served pg 0x28 ∧ w.hits 0 2 = false) ∧
    (∃ (s : State) (pg : _) (w : Wr) (u : _), pg < 256 ∧ s.served pg 8 ∧ u = s.event pg 4 ∧ (pg ≤ 5 ∨ w.hits 0 1 = false)) ∧
    (∃ (s : State) (pg : _) (w : Wr) (u : _), pg < 256 ∧ s.served pg 8 ∧ u = s.event pg 4 ∧ 5 < pg ∧ w.hits 0 1 = true ∧ w.ones 0 1 = 1) ∧
    (∃ (s : State) (pg : _) (w : Wr) (u : _), pg < 256 ∧ s.served pg 8 ∧ u = s.event pg 4 ∧ 5 < pg ∧ w.hits 0 1 = true ∧ w.ones 0 1 ≠ 1) ∧
    (∃ (s : State) (f : _), f < 64 ∧ s.served 3 (0x1000 + 8 * f)) ∧
    (∃ (s : State) (u : _), s.served 3 0x138 ∧ u = s.event 3 4) ∧
    (∃ (s : State) (k : _), s.alive = true ∧ k < 32) ∧
    (∃ (s : State) (e : _) (v : _), s.alive = true ∧ e < 8 ∧ v < 3 ∧ s.engineHeld e = true) ∧
    (∃ (s : State) (pg : _), s.alive = true ∧ pageEngine pg = none) ∧
    (∃ (s : State) (e : _) (v : _), s.alive = true ∧ e < 8 ∧ ((v = 3 ∨ s.engineHeld e = false))) ∧
    (∃ (s : State) (e : _), s.alive = true ∧ e < 8 ∧ (s.holdEnd e).engineHeld e = true) ∧
    (∃ (s : State) (e : _) (u : _), s.alive = true ∧ e < 8 ∧ u = s.holdEnd e ∧ u.engineHeld e = false) ∧
    (∃ (s : State) (f : _), s.alive = true ∧ f < 64 ∧ (s.laneX (16 * f)).fillEnd = none) ∧
    (∃ (s : State) (f : _) (c : _), s.alive = true ∧ f < 64 ∧ (s.laneX (16 * f)).fillEnd = some c ∧ s.cyc < c) ∧
    (∃ (s : State) (f : _) (c : _), s.alive = true ∧ f < 64 ∧ (s.laneX (16 * f)).fillEnd = some c ∧ c ≤ s.cyc) ∧
    (∃ (s : State) (f : _), s.alive = true ∧ f < 64) ∧
    (∃ (s : State) (f : _), s.alive = true ∧ f < 64 ∧ s.pwr.wakeF.contains f = false) ∧
    (∃ (s : State) (f : _), s.alive = true ∧ f < 64 ∧ s.pwr.wakeF.contains f = true) ∧
    (∃ (s : State) (e : _), s.alive = true ∧ e < 8 ∧ s.pwr.wakeE.contains e = false) ∧
    (∃ (s : State) (e : _), s.alive = true ∧ e < 8 ∧ s.pwr.wakeE.contains e = true) ∧
    (∃ (s : State) (p : _), s.alive = true ∧ p < 68) ∧
    (∃ (s : State) (p : _), s.alive = true ∧ p < 68 ∧ (s.rd PAGE_PWR_req (0x80 + p) ≠ 1 ∨ s.coreAsleep p = true ∨ (s.core p).busy = true)) ∧
    (∃ (s : State) (p : _), s.alive = true ∧ p < 68 ∧ s.rd PAGE_PWR_req (0x80 + p) = 1 ∧ s.coreAsleep p = false ∧ (s.core p).busy = false ∧ s.rd SRI_STATE_lcore_valid p = 0 ∧ s.pwr.busyAt.getD 0 p + nsCyc (s.rd PWR_IDLE_CFG2_serai_hold_ns) ≤ s.cyc) ∧
    (∃ (s : State) (p : _), s.alive = true ∧ p < 68 ∧ s.pwr.wakeC.contains p = false) ∧
    (∃ (s : State) (p : _), s.alive = true ∧ p < 68 ∧ s.pwr.wakeC.contains p = true) :=
  ⟨⟨5, by decide +kernel⟩,
   ⟨255, by decide +kernel, by decide +kernel⟩,
   ⟨6, 3, by decide +kernel, by decide +kernel, by decide +kernel⟩,
   ⟨0x37, 2, by decide +kernel, by decide +kernel, by decide +kernel, by decide +kernel⟩,
   ⟨up [(SRI_STATE_state, [3, 67])], 0xC3, 2, by decide +kernel, by decide +kernel, by decide +kernel, by decide +kernel, by decide +kernel, by decide +kernel⟩,
   ⟨0xC3, 1, by decide +kernel, by decide +kernel, by decide +kernel⟩,
   ⟨8, 1, by decide +kernel, by decide +kernel⟩,
   ⟨up [(BYP_CTRL_enable, [1])], 8, 2, by decide +kernel, by decide +kernel, .inl (by decide +kernel)⟩,
   ⟨up [], 8, 2, by decide +kernel, by decide +kernel, by decide +kernel, by decide +kernel, by decide +kernel⟩,
   ⟨8, 0, by decide +kernel, by decide +kernel⟩,
   ⟨6, 0, by decide +kernel, by decide +kernel, by decide +kernel, .inl (by decide), by decide +kernel, by decide +kernel⟩,
   ⟨0x4F, 2, by decide +kernel, by decide +kernel, by decide +kernel, .inr (by decide), by decide +kernel, .inr rfl⟩,
   ⟨up [ck 6], 6, { v := 1 }, by decide +kernel, ⟨rfl, rfl, rfl, rfl⟩, by decide +kernel⟩,
   ⟨up [ck 6], 6, { v := 1, sz := .hi4 }, by decide +kernel, ⟨rfl, rfl, rfl, rfl⟩, by decide +kernel⟩,
   ⟨up [ck 5], 5, { v := 1 }, _, by decide +kernel, ⟨rfl, rfl, rfl, rfl⟩, rfl, .inl (by decide)⟩,
   ⟨up [ck 6], 6, { v := 1 }, _, by decide +kernel, ⟨rfl, rfl, rfl, rfl⟩, rfl, by decide +kernel, by decide +kernel, by decide +kernel⟩,
   ⟨up [ck 6], 6, { v := 0 }, _, by decide +kernel, ⟨rfl, rfl, rfl, rfl⟩, rfl, by decide +kernel, by decide +kernel, by decide +kernel⟩,
   ⟨up [ck 3], 63, by decide +kernel, ⟨rfl, rfl, rfl, rfl⟩⟩,
   ⟨up [ck 3], _, ⟨rfl, rfl, rfl, rfl⟩, rfl⟩,
   ⟨up [], 31, by decide +kernel, by decide +kernel⟩,
   ⟨{ up [(LNK_LANE_state, [1, 7, 112])] with link := { fibres := [(63, { txHold := [{ from_ := 0, until_ := 1, lanes := [] }] })] } }, 7, 2, by decide +kernel, by decide +kernel, by decide +kernel, by decide +kernel⟩,
   ⟨up [], 6, by decide +kernel, by decide +kernel⟩,
   ⟨up [], 7, 2, by decide +kernel, by decide +kernel, .inr (by decide +kernel)⟩,
   ⟨{ up [(LNK_LANE_state, [1, 7, 112])] with link := { fibres := [(63, { txHold := [{ from_ := 0, until_ := 1, lanes := [] }] })] } }, 7, by decide +kernel, by decide +kernel, by decide +kernel⟩,
   ⟨up [], 7, _, by decide +kernel, by decide +kernel, rfl, by decide +kernel⟩,
   ⟨up [], 63, by decide +kernel, by decide +kernel, by decide +kernel⟩,
   ⟨{ up [] with link := { lanes := [(1008, { fillEnd := some (10 ^ 13 + 1) })] } }, 63, 10 ^ 13 + 1, by decide +kernel, by decide +kernel, by decide +kernel, by decide +kernel⟩,
   ⟨{ up [] with link := { lanes := [(1008, { fillEnd := some (10 ^ 13) })] } }, 63, 10 ^ 13, by decide +kernel, by decide +kernel, by decide +kernel, by decide +kernel⟩,
   ⟨up [], 63, by decide +kernel, by decide +kernel⟩,
   ⟨up [], 63, by decide +kernel, by decide +kernel, by decide +kernel⟩,
   ⟨{ up [] with pwr := { wakeF := [63] } }, 63, by decide +kernel, by decide +kernel, by decide +kernel⟩,
   ⟨up [], 7, by decide +kernel, by decide +kernel, by decide +kernel⟩,
   ⟨{ up [] with pwr := { wakeE := [7] } }, 7, by decide +kernel, by decide +kernel, by decide +kernel⟩,
   ⟨up [], 67, by decide +kernel, by decide +kernel⟩,
   ⟨up [], 67, by decide +kernel, by decide +kernel, .inl (by decide +kernel)⟩,
   ⟨up [(PAGE_PWR_req, [1, 0xC3])], 67, by decide +kernel, by decide +kernel, by decide +kernel, by decide +kernel, by decide +kernel, by decide +kernel, by decide +kernel⟩,
   ⟨up [], 67, by decide +kernel, by decide +kernel, by decide +kernel⟩,
   ⟨{ up [] with pwr := { wakeC := [67] } }, 67, by decide +kernel, by decide +kernel, by decide +kernel⟩⟩

/-- Each clause of ClocksSensorsPinsAndStartUp that has hypotheses: a state and operands that meet them. -/
theorem witness_ClocksSensorsPinsAndStartUp :
    (∃ (s : State) (sensor : _) (c : _), s.alive = true ∧ sensor < 16 ∧ s.pwr.tempAt = some c ∧ s.cyc < c + usCyc 100) ∧
    (∃ (s : State) (tj : Int) (sensor : _) (v : State) (u : State), s.alive = true ∧ sensor < 16 ∧ ((∀ c, s.pwr.tempAt = some c → c + usCyc 100 ≤ s.cyc)) ∧ v = { s with pwr := { s.pwr with tempAt := some s.cyc } } ∧ u = (v.wrI PWR_TJ_tj_max tj).wr PWR_TJ_sensor sensor) ∧
    (∃ (s : State), (s.pins.pwrGood = false ∨ s.vinDue = false)) ∧
    (∃ (s : State) (mv : _) (cur : _) (watts : _) (temp : _) (bad : _) (w : State) (u : State), s.pins.pwrGood = true ∧ s.vinDue = true ∧ bad = (decide (mv < 32000) || decide (40000 < mv)) ∧ w = { s with pwr := { s.pwr with vinAt := if s.clkOn = true then some s.cyc else none } } ∧ u = { w with pins := { w.pins with vin := [mv, cur, watts, temp], vinOut := bad } } ∧ s.alive = false) ∧
    (∃ (s : State) (mv : _) (cur : _) (watts : _) (temp : _) (bad : _) (w : State) (u : State) (v : _), s.pins.pwrGood = true ∧ s.vinDue = true ∧ bad = (decide (mv < 32000) || decide (40000 < mv)) ∧ w = { s with pwr := { s.pwr with vinAt := if s.clkOn = true then some s.cyc else none } } ∧ u = { w with pins := { w.pins with vin := [mv, cur, watts, temp], vinOut := bad } } ∧ s.alive = true ∧ v = ((u.wr PWR_VIN_mv mv).wr PWR_VIN_current cur).wr PWR_VIN_watts watts) ∧
    (∃ (what : _), what < 4) ∧
    (∃ (s : State) (tms : Bool) (u : State), u = { s with pins := { s.pins with tap := tapNext s.pins.tap tms } } ∧ s.pins.tap ≠ 4 ∧ s.pins.tap ≠ 11) ∧
    (∃ (s : State) (tms : Bool) (u : State), u = { s with pins := { s.pins with tap := tapNext s.pins.tap tms } } ∧ (s.pins.tap = 4 ∨ s.pins.tap = 11)) ∧
    (∃ (s : State) (u : _), s.served 2 0x128 ∧ u = s.event 2 4) ∧
    (∃ (s : State) (w : Wr) (u : _) (v : _), s.served 2 0x130 ∧ u = s.event 2 4 ∧ v = (u.put CLK_OBS_sel w).put CLK_OBS_div_n w ∧ u.flag CLK_OBS_enable = false ∧ w.merge 0 1 (u.rd CLK_OBS_enable) = 1 ∧ u.rd TIM_PIN_OWN_tpo3_owner = 1) ∧
    (∃ (s : State) (w : Wr) (u : _) (v : _) (x : State), s.served 2 0x130 ∧ u = s.event 2 4 ∧ v = (u.put CLK_OBS_sel w).put CLK_OBS_div_n w ∧ u.flag CLK_OBS_enable = false ∧ w.merge 0 1 (u.rd CLK_OBS_enable) = 1 ∧ u.rd TIM_PIN_OWN_tpo3_owner ≠ 1 ∧ x = { v with tim := { v.tim with obsAt := if u.rd TIM_PIN_OWN_tpo3_owner = 0 then some v.cyc else v.tim.obsAt } }) ∧
    (∃ (s : State) (w : Wr) (u : _) (v : _), s.served 2 0x130 ∧ u = s.event 2 4 ∧ v = (u.put CLK_OBS_sel w).put CLK_OBS_div_n w ∧ u.flag CLK_OBS_enable = true ∧ w.merge 0 1 (u.rd CLK_OBS_enable) ≠ 1) ∧
    (∃ (s : State) (w : Wr) (u : _) (v : _), s.served 2 0x130 ∧ u = s.event 2 4 ∧ v = (u.put CLK_OBS_sel w).put CLK_OBS_div_n w ∧ (w.merge 0 1 (u.rd CLK_OBS_enable) = 1 ↔ u.flag CLK_OBS_enable = true)) ∧
    (∃ (s : State), s.alive = true) ∧
    (∃ (s : State), s.alive = true ∧ s.flag CLK_CTRL_flock = true ∧ s.flag CLK_STATUS_flock_hold = false ∧ s.flockBar = true) ∧
    (∃ (s : State), s.alive = true ∧ (s.flag CLK_CTRL_flock = false ∨ s.flag CLK_STATUS_flock_hold = true ∨ s.flockBar = false)) ∧
    (∃ (s : State), s.alive = true ∧ s.flag CLK_CTRL_flock = true ∧ s.flockBar = false) ∧
    (∃ (s : State), s.alive = true ∧ (s.flag CLK_CTRL_flock = false ∨ s.flockBar = true)) ∧
    (∃ (s : State) (t : Int) (old : Int) (m : Int) (new : Int), old = s.rdI CLK_TRIM_trim_ppb ∧ m = ((s.cyc - s.pwr.trimAt) / 200000 : Nat) ∧ new = max (-200000) (min 200000 (max (old - m) (min (old + m) t)))) ∧
    (∃ (s : State), s.pins.pwrGood = true) ∧
    (∃ (s : State), s.pins.pwrGood = false) ∧
    (∃ (s : State), s.canStart = false) ∧
    (∃ (s : State) (x : StartUpIn) (u : State), s.canStart = true ∧ u = { s with alive := true, pins := { s.pins with perst := false, refLost := !x.refOk } } ∧ x.refOk = false) ∧
    (∃ (s : State) (x : StartUpIn) (u : State) (v : State), s.canStart = true ∧ u = { s with alive := true, pins := { s.pins with perst := false, refLost := !x.refOk } } ∧ x.refOk = true ∧ v = (((u.wr CLK_STRAP_lockdly x.lockdly).wr CLK_STATUS_ref_ok 1).pageReady 0).startStep 3 x ∧ x.pllOk = false) ∧
    (∃ (s : State) (x : StartUpIn) (u : State) (v : State) (w : State), s.canStart = true ∧ u = { s with alive := true, pins := { s.pins with perst := false, refLost := !x.refOk } } ∧ x.refOk = true ∧ v = (((u.wr CLK_STRAP_lockdly x.lockdly).wr CLK_STATUS_ref_ok 1).pageReady 0).startStep 3 x ∧ x.pllOk = true ∧ ((∀ r : State, r = ((v.wr CLK_STATUS_core_lock 1).wr CLK_STATUS_mem_lock 1).wr CLK_STATUS_opt_lock 1 → w = (((([2, 4].foldl State.pageReady { r with clkOn := true, cyc := x.elapsed, fclk := x.elapsed * r.clkStep % clkWrap }).selfTest x.checkerFail).startStep 6 x).boot x).pageReady 1))) :=
  ⟨⟨{ up [] with pwr := { tempAt := some (10 ^ 13) } }, 15, 10 ^ 13, by decide +kernel, by decide +kernel, by decide +kernel, by decide +kernel⟩,
   ⟨{ up [] with pwr := { tempAt := some (10 ^ 13 - 200000) } }, -5, 15, _, _, by decide +kernel, by decide +kernel, fun c h => (by cases h; decide +kernel), rfl, rfl⟩,
   ⟨{ up [] with pins := { pwrGood := false } }, .inl rfl⟩,
   ⟨{ up [] with alive := false }, 31999, 0, 0, 0, _, _, _, by decide +kernel, by decide +kernel, rfl, rfl, rfl, by decide +kernel⟩,
   ⟨up [], 40001, 0, 0, 0, _, _, _, _, by decide +kernel, by decide +kernel, rfl, rfl, rfl, by decide +kernel, rfl⟩,
   ⟨3, by decide +kernel⟩,
   ⟨up [], true, _, rfl, by decide +kernel, by decide +kernel⟩,
   ⟨{ up [] with pins := { tap := 11 } }, true, _, rfl, .inr rfl⟩,
   ⟨up [ck 2], _, ⟨rfl, rfl, rfl, rfl⟩, rfl⟩,
   ⟨up [ck 2, (TIM_PIN_OWN_tpo3_owner, [1])], { v := 1 }, _, _, ⟨rfl, rfl, rfl, rfl⟩, rfl, rfl, by decide +kernel, by decide +kernel, by decide +kernel⟩,
   ⟨up [ck 2], { v := 1 }, _, _, _, ⟨rfl, rfl, rfl, rfl⟩, rfl, rfl, by decide +kernel, by decide +kernel, by decide +kernel, rfl⟩,
   ⟨up [ck 2, (CLK_OBS_enable, [1])], { v := 0 }, _, _, ⟨rfl, rfl, rfl, rfl⟩, rfl, rfl, by decide +kernel, by decide +kernel⟩,
   ⟨up [ck 2, (CLK_OBS_enable, [1])], { v := 1 }, _, _, ⟨rfl, rfl, rfl, rfl⟩, rfl, rfl, by decide +kernel⟩,
   ⟨up [], by decide +kernel⟩,
   ⟨up [(CLK_CTRL_flock, [1])], by decide +kernel, by decide +kernel, by decide +kernel, by decide +kernel⟩,
   ⟨up [(CLK_CTRL_flock, [0])], by decide +kernel, .inl (by decide +kernel)⟩,
   ⟨up (svc 0 0 ++ [(CLK_CTRL_flock, [1]), (TIM_STATE_slave_valid, [1])]), by decide +kernel, by decide +kernel, by decide +kernel⟩,
   ⟨up [], by decide +kernel, .inr (by decide +kernel)⟩,
   ⟨up [], 200001, _, _, _, rfl, rfl, rfl⟩,
   ⟨up [], by decide +kernel⟩,
   ⟨{ up [] with pins := { pwrGood := false } }, by decide +kernel⟩,
   ⟨up [], by decide +kernel⟩,
   ⟨State.reset, { refOk := false }, _, by decide +kernel, rfl, by decide +kernel⟩,
   ⟨State.reset, { pllOk := false }, _, _, by decide +kernel, rfl, by decide +kernel, rfl, by decide +kernel⟩,
   ⟨State.reset, {}, _, _, bootW _ {}, by decide +kernel, rfl, by decide +kernel, rfl, by decide +kernel, bootW_eq _ {}⟩⟩

/-- Each clause of CountersAndTelemetry that has hypotheses: a state and operands that meet them. -/
theorem witness_CountersAndTelemetry :
    (∃ (s : State) (pg : _) (u : _), pg < 256 ∧ s.served pg 0x98 ∧ u = s.event pg 4) ∧
    (∃ (s : State), s.served 15 0x108) ∧
    (∃ (s : State) (k : _), s.alive = true ∧ k < 32) ∧
    (∃ (s : State), s.flag TEL_CTRL_enable = false) ∧
    (∃ (s : State), s.flag TEL_CTRL_enable = true ∧ s.tel.mapAt = some s.cyc) ∧
    (∃ (s : State) (u : State) (v : State) (ok : Bool), s.flag TEL_CTRL_enable = true ∧ s.tel.mapAt ≠ some s.cyc ∧ u = { s with tel := { s.tel with mapAt := some s.cyc } } ∧ u.telEntry 1 9 [u.sec, u.nsFrac, u.self ||| u.rd TEL_CFG_shift <<< 24 ||| u.rd DTM_EPOCH_cur <<< 32, s.tel.dropped % 2 ^ 32] ((List.range 512).map fun i => BitVec.ofNat 8 (s.level (2 * i) + 16 * s.level (2 * i + 1))) = (ok, v)) ∧
    (∃ (s : State) (n : _) (pos : _) (pad : _), pos = s.rd TEL_RING_HEAD_head % s.telSize ∧ pad = (if s.telSize < pos + n then s.telSize - pos else 0) ∧ ((s.busMaster = false ∨ s.telSize < s.telHeld + n + pad))) ∧
    (∃ (s : State) (typ : _) (n : _) (ws : List Nat) (pos : _) (pad : _) (u : State) (v : State) (hdr : _), pos = s.rd TEL_RING_HEAD_head % s.telSize ∧ pad = (if s.telSize < pos + n then s.telSize - pos else 0) ∧ s.busMaster = true ∧ s.telHeld + n + pad ≤ s.telSize ∧ u = (if pad = 0 then s else s.telUnits pad (leBytes 64 (3 ||| pad <<< 8)) []) ∧ hdr = leBytes 4 (typ ||| n <<< 8) ++ leBytes 4 u.tel.entry ++ leWords 8 ws ∧ v = { u with tel := { u.tel with entry := (u.tel.entry + 1) % 2 ^ 32 } }) ∧
    (∃ (s : State) (cfg : Bool) (w : Wr) (u : _) (v : _), s.served 16 (if cfg then 0x108 else 0x100) ∧ u = s.event 16 4 ∧ v = (if cfg then (u.put TEL_CFG_interval_ns w).put TEL_CFG_shift w else ((u.put TEL_CTRL_enable w).put TEL_CTRL_auto w).put TEL_CTRL_age_en w) ∧ (v.flag TEL_CTRL_enable && v.flag TEL_CTRL_auto) = true ∧ (((u.flag TEL_CTRL_enable && u.flag TEL_CTRL_auto) = false ∨ u.rd TEL_CFG_interval_ns ≠ v.rd TEL_CFG_interval_ns))) ∧
    (∃ (s : State) (cfg : Bool) (w : Wr) (u : _) (v : _), s.served 16 (if cfg then 0x108 else 0x100) ∧ u = s.event 16 4 ∧ v = (if cfg then (u.put TEL_CFG_interval_ns w).put TEL_CFG_shift w else ((u.put TEL_CTRL_enable w).put TEL_CTRL_auto w).put TEL_CTRL_age_en w) ∧ (v.flag TEL_CTRL_enable && v.flag TEL_CTRL_auto) = true ∧ (u.flag TEL_CTRL_enable && u.flag TEL_CTRL_auto) = true ∧ u.rd TEL_CFG_interval_ns = v.rd TEL_CFG_interval_ns) ∧
    (∃ (s : State) (cfg : Bool) (w : Wr) (u : _) (v : _), s.served 16 (if cfg then 0x108 else 0x100) ∧ u = s.event 16 4 ∧ v = (if cfg then (u.put TEL_CFG_interval_ns w).put TEL_CFG_shift w else ((u.put TEL_CTRL_enable w).put TEL_CTRL_auto w).put TEL_CTRL_age_en w) ∧ (v.flag TEL_CTRL_enable && v.flag TEL_CTRL_auto) = false ∧ (u.flag TEL_CTRL_enable && u.flag TEL_CTRL_auto) = true) ∧
    (∃ (s : State) (cfg : Bool) (w : Wr) (u : _) (v : _), s.served 16 (if cfg then 0x108 else 0x100) ∧ u = s.event 16 4 ∧ v = (if cfg then (u.put TEL_CFG_interval_ns w).put TEL_CFG_shift w else ((u.put TEL_CTRL_enable w).put TEL_CTRL_auto w).put TEL_CTRL_age_en w) ∧ (v.flag TEL_CTRL_enable && v.flag TEL_CTRL_auto) = false ∧ (u.flag TEL_CTRL_enable && u.flag TEL_CTRL_auto) = false) :=
  ⟨⟨up [ck 6], 6, _, by decide +kernel, ⟨rfl, rfl, rfl, rfl⟩, rfl⟩,
   ⟨up [ck 15], ⟨rfl, rfl, rfl, rfl⟩⟩,
   ⟨up [], 31, by decide +kernel, by decide +kernel⟩,
   ⟨up [], by decide +kernel⟩,
   ⟨{ up [(TEL_CTRL_enable, [1])] with tel := { mapAt := some (10 ^ 13) } }, by decide +kernel, by decide +kernel⟩,
   ⟨up [(TEL_CTRL_enable, [1])], _, _, _, by decide +kernel, by decide +kernel, rfl, rfl⟩,
   ⟨{ up [] with busMaster := false }, 1, _, _, rfl, rfl, .inl rfl⟩,
   ⟨up [], 1, 1, [], _, _, _, _, _, rfl, rfl, by decide +kernel, by decide +kernel, rfl, rfl, rfl⟩,
   ⟨up [ck 16], false, { v := 3 }, _, _, ⟨rfl, rfl, rfl, rfl⟩, rfl, rfl, by decide +kernel, .inl (by decide +kernel)⟩,
   ⟨up [ck 16, (TEL_CTRL_enable, [1]), (TEL_CTRL_auto, [1])], false, { v := 3 }, _, _, ⟨rfl, rfl, rfl, rfl⟩, rfl, rfl, by decide +kernel, by decide +kernel, by decide +kernel⟩,
   ⟨up [ck 16, (TEL_CTRL_enable, [1]), (TEL_CTRL_auto, [1])], false, { v := 1 }, _, _, ⟨rfl, rfl, rfl, rfl⟩, rfl, rfl, by decide +kernel, by decide +kernel⟩,
   ⟨up [ck 16], true, { v := 5 }, _, _, ⟨rfl, rfl, rfl, rfl⟩, rfl, rfl, by decide +kernel, by decide +kernel⟩⟩

end Sys2Proof.Tests
end

/-! PROOFS. TABLE_FLIP of a slice that is still draining (R108): how an effect that is due reaches its target, what the unit's result register shows and leaves alone, and what the rejection changes. -/

namespace Sys2Proof.Machine

/-! Effects and the unit's result (R52, R57). -/

/-- Taking the head of the effects leaves every register. -/
@[simp] theorem State.rd_popEff (s : State) (d : RegD) (n i j : Nat) : s.popEff.rd d n i j = s.rd d n i j := rfl

@[simp] theorem State.flag_popEff (s : State) (d : RegD) (n i j : Nat) : s.popEff.flag d n i j = s.flag d n i j := rfl

@[simp] theorem State.popEff_tbl (s : State) : s.popEff.tbl = s.tbl := rfl

@[simp] theorem State.rd_setResult_same (s : State) (u : Nat) (ok : Bool) :
    (s.setResult u ok).rd CRN_U_STATUS_result 0 u = if ok then 1 else 2 := by
  cases ok <;> exact State.rd_wr_same ..

theorem State.rd_setResult_ne (s : State) {d : RegD} {n i j u : Nat} (ok : Bool) (h : d.key n i j ≠ CRN_U_STATUS_result.key 0 u 0) :
    (s.setResult u ok).rd d n i j = s.rd d n i j :=
  State.rd_wr_ne _ _ h

/-- The result register is of page CRN: writing it leaves every field of FWD00's page. -/
theorem State.rd_setResult_fwd00 (s : State) {d : RegD} {n i u : Nat} (ok : Bool) (hu : u < 32) (hp : d.page + n = 64) :
    (s.setResult u ok).rd d n i = s.rd d n i :=
  s.rd_setResult_ne ok (by simp only [RegD.key, CRN_U_STATUS_result, hp]; omega)

@[simp] theorem State.setResult_tbl (s : State) (u : Nat) (ok : Bool) : (s.setResult u ok).tbl = s.tbl := rfl

/-- An effect that is due is taken, its target answers, and the answer becomes the unit's result. -/
theorem State.effect_of_effDue {s : State} {u cls : Nat} {e : CrnEff} (f : CrnEff → State → State × Bool) (h : s.effDue u cls = some e) :
    s.effect u cls f = (f e s.popEff).1.setResult u (f e s.popEff).2 := by
  simp only [State.effect, h]

/-- TABLE_FLIP on a running module, its effect due. -/
theorem exec_tableFlip_of_effDue {s : State} {u : Nat} {e : CrnEff} (ha : s.alive = true) (hu : u < 32) (he : s.effDue u 3 = some e) :
    exec (.tableFlip u) s =
      .next ((s.popEff.tableFlip (e.arg % 4096)).1.setResult u (s.popEff.tableFlip (e.arg % 4096)).2) :=
  calc exec (.tableFlip u) s
    _ = act s (s.effect (u % 32) 3 fun e s => s.tableFlip (e.arg % 4096)) := rfl
    _ = .next (s.effect u 3 fun e s => s.tableFlip (e.arg % 4096)) := by rw [act_alive ha, Nat.mod_eq_of_lt hu]
    _ = _ := by rw [State.effect_of_effDue _ he]

/-! The rejection (R108). -/

/-- What a rejected flip of slice `sl` makes of the state: the slice's flip_rejected and FWD00's interrupt. -/
def State.rejectFlip (s : State) (sl : Nat) : State := (s.wr FWD_SLICE_EPOCH_flip_rejected 1 0 sl).irq 0x40 3

theorem State.tableFlip_of_draining {s : State} {sl : Nat} (h : s.flag FWD_SLICE_EPOCH_draining 0 sl = true) :
    s.tableFlip sl = (s.rejectFlip sl, false) := by
  simp only [State.tableFlip, h, if_true, State.rejectFlip]

/-- The rejection touches FWD00's own block and flip_rejected of the slice only. -/
theorem State.rd_rejectFlip_ne (s : State) {d : RegD} {n i j sl : Nat} (hp : d.past n i j)
    (hk : d.key n i j ≠ FWD_SLICE_EPOCH_flip_rejected.key 0 sl 0) : (s.rejectFlip sl).rd d n i j = s.rd d n i j :=
  calc (s.rejectFlip sl).rd d n i j
    _ = (s.wr FWD_SLICE_EPOCH_flip_rejected 1 0 sl).rd d n i j := State.rd_irq _ _ _ _ _ _ _ hp
    _ = s.rd d n i j := State.rd_wr_ne _ _ hk

/-- A field of FWD_SLICE_EPOCH lies past the page's own block. -/
theorem FWD_SLICE_EPOCH_past {d : RegD} {sl : Nat} (hsl : sl < 4096) (hp : d.page = 64) (hb : d.base = 32768) (hs : d.stride = 8)
    (hlo : d.lo < 64) : d.past 0 sl 0 := by
  simp only [RegD.past, RegD.key, hp, hb, hs]
  omega

theorem State.rd_rejectFlip_flip_rejected (s : State) {sl : Nat} (hsl : sl < 4096) :
    (s.rejectFlip sl).rd FWD_SLICE_EPOCH_flip_rejected 0 sl = 1 :=
  calc (s.rejectFlip sl).rd FWD_SLICE_EPOCH_flip_rejected 0 sl
    _ = (s.wr FWD_SLICE_EPOCH_flip_rejected 1 0 sl).rd FWD_SLICE_EPOCH_flip_rejected 0 sl :=
      State.rd_irq _ _ _ _ _ _ _ (FWD_SLICE_EPOCH_past hsl rfl rfl rfl (by decide))
    _ = 1 := State.rd_wr_same ..

theorem State.rd_rejectFlip_cur_epoch (s : State) {sl : Nat} (hsl : sl < 4096) :
    (s.rejectFlip sl).rd FWD_SLICE_EPOCH_cur_epoch 0 sl = s.rd FWD_SLICE_EPOCH_cur_epoch 0 sl :=
  s.rd_rejectFlip_ne (FWD_SLICE_EPOCH_past hsl rfl rfl rfl (by decide))
    (by simp only [RegD.key, FWD_SLICE_EPOCH_cur_epoch, FWD_SLICE_EPOCH_flip_rejected]; omega)

theorem State.rd_rejectFlip_draining (s : State) {sl : Nat} (hsl : sl < 4096) :
    (s.rejectFlip sl).rd FWD_SLICE_EPOCH_draining 0 sl = s.rd FWD_SLICE_EPOCH_draining 0 sl :=
  s.rd_rejectFlip_ne (FWD_SLICE_EPOCH_past hsl rfl rfl rfl (by decide))
    (by simp only [RegD.key, FWD_SLICE_EPOCH_draining, FWD_SLICE_EPOCH_flip_rejected]; omega)

theorem State.bit_rejectFlip (s : State) (sl : Nat) : bit ((s.rejectFlip sl).rd PAGE_IRQ_STATUS_bits 0x40) 3 = true :=
  bit_irq _ 0x40 (by decide)

@[simp] theorem State.rejectFlip_tbl (s : State) (sl : Nat) : (s.rejectFlip sl).tbl = s.tbl := by
  simp [State.rejectFlip]

/-- Settles O15: the draining flag sends the flip into its rejecting branch, and neither that branch nor the unit's result, which lies on page CRN, touches the slice's epoch or its draining flag. -/
theorem flipWhileDrainingIsRejected : Obligations.FlipWhileDrainingIsRejected := by
  unfold Obligations.FlipWhileDrainingIsRejected
  rintro s u sl e ha hu he rfl hd
  have hsl : e.arg % 4096 < 4096 := Nat.mod_lt _ (by decide)
  have hflip := State.tableFlip_of_draining ((s.flag_popEff ..).trans hd)
  refine ⟨(s.popEff.rejectFlip (e.arg % 4096)).setResult u false, ?next, ?result, ?rejected, ?irq, ?epoch, ?draining, ?tables⟩
  case next => rw [exec_tableFlip_of_effDue ha hu he, hflip]
  case result => exact State.rd_setResult_same ..
  case rejected => rw [State.rd_setResult_fwd00 _ _ hu rfl, State.rd_rejectFlip_flip_rejected _ hsl]
  case irq => rw [State.rd_setResult_fwd00 _ _ hu rfl]; exact State.bit_rejectFlip ..
  case epoch => rw [State.rd_setResult_fwd00 _ _ hu rfl, State.rd_rejectFlip_cur_epoch _ hsl, State.rd_popEff]
  case draining => rw [State.rd_setResult_fwd00 _ _ hu rfl, State.rd_rejectFlip_draining _ hsl, State.rd_popEff]
  case tables => simp

end Sys2Proof.Machine

/-! PROOFS. The SECDED code (R403, R404): the weights of the columns, the check as a linear map, the decoder's answer for each kind of syndrome, and the reads that follow. -/

namespace Sys2Proof.Machine

/-! Cancelling in sums of words. -/

theorem xor_xor_self_left (a b : Nat) : a ^^^ (a ^^^ b) = b := by
  rw [← Nat.xor_assoc, Nat.xor_self, Nat.zero_xor]

theorem xor_xor_self_right (a b : Nat) : a ^^^ b ^^^ b = a := by
  rw [Nat.xor_assoc, Nat.xor_self, Nat.xor_zero]

theorem eq_of_xor_eq_zero {a b : Nat} (h : a ^^^ b = 0) : a = b := by
  rw [← xor_xor_self_right a b, h, Nat.zero_xor]

/-! Number of set bits. -/

theorem bit_xor (v w i : Nat) : bit (v ^^^ w) i = (bit v i ^^ bit w i) := by
  simp [bit_testBit]

theorem popc_succ (w v : Nat) : popc (w + 1) v = popc w v + (bit v w).toNat := by
  cases h : bit v w <;> simp [popc, List.range_succ, List.filter_append, h]

theorem popc_xor_mod_two (w a b : Nat) : popc w (a ^^^ b) % 2 = (popc w a + popc w b) % 2 := by
  induction w with
  | zero => rfl
  | succ w ih =>
    have hbit : (bit a w ^^ bit b w).toNat % 2 = ((bit a w).toNat + (bit b w).toNat) % 2 := by
      cases bit a w <;> cases bit b w <;> rfl
    rw [popc_succ, popc_succ, popc_succ, bit_xor]
    omega

theorem eq_zero_of_popc_eq_zero {w v : Nat} (hv : v < 2 ^ w) (h : popc w v = 0) : v = 0 := by
  refine Nat.eq_of_testBit_eq fun i => ?_
  rw [Nat.zero_testBit, ← bit_testBit]
  by_cases hi : i < w
  · simpa using List.filter_eq_nil_iff.mp (List.length_eq_zero_iff.mp h) i (List.mem_range.mpr hi)
  · rw [bit_testBit]
    exact Nat.testBit_lt_two_pow (Nat.lt_of_lt_of_le hv (Nat.pow_le_pow_right (by decide) (Nat.le_of_not_lt hi)))

theorem weight7_two_pow {j : Nat} (hj : j < 7) : weight7 (2 ^ j) = 1 := by
  revert j; decide

/-! The columns (R403). -/

theorem eccColumns_length : eccColumns.length = 32 := by decide

theorem eccColumns_nodup : eccColumns.Nodup :=
  (List.nodup_range.filter _).sublist (List.take_sublist ..)

theorem weight7_of_mem_eccColumns {c : Nat} (h : c ∈ eccColumns) : weight7 c = 3 :=
  of_decide_eq_true (List.mem_filter.mp (List.mem_of_mem_take h)).2

/-- The column of data bit `i`. -/
def eccColumn (i : Nat) : Nat := eccColumns.getD i 0

theorem eccColumn_eq_getElem {i : Nat} (hi : i < 32) : eccColumn i = eccColumns[i]'(eccColumns_length ▸ hi) := by
  rw [eccColumn, List.getD_eq_getElem?_getD, List.getElem?_eq_getElem, Option.getD_some]

theorem eccColumn_mem {i : Nat} (hi : i < 32) : eccColumn i ∈ eccColumns :=
  eccColumn_eq_getElem hi ▸ List.getElem_mem _

theorem eccColumn_inj {i j : Nat} (hi : i < 32) (hj : j < 32) : eccColumn i = eccColumn j ↔ i = j := by
  rw [eccColumn_eq_getElem hi, eccColumn_eq_getElem hj, List.getElem_inj eccColumns_nodup]

theorem weight7_eccColumn {i : Nat} (hi : i < 32) : weight7 (eccColumn i) = 3 :=
  weight7_of_mem_eccColumns (eccColumn_mem hi)

/-! The check (R403): the sum of the columns of the set bits. -/

/-- The sum of the columns of the listed data bits. -/
def columnSum (l : List Nat) : Nat := l.foldl (fun c i => c ^^^ eccColumn i) 0

theorem eccCheck_eq_columnSum (v : Nat) : eccCheck v = columnSum (bitsOf 32 v) :=
  List.foldl_filter.symm

theorem eccCheck_two_pow {i : Nat} (hi : i < 32) : eccCheck (2 ^ i) = eccColumn i := by
  revert i; decide +kernel

theorem columnSum_concat (l : List Nat) (i : Nat) : columnSum (l ++ [i]) = columnSum l ^^^ eccColumn i := by
  simp [columnSum]

theorem columnSum_bitsOf_zero (v : Nat) : columnSum (bitsOf 0 v) = 0 := by
  simp only [columnSum, bitsOf, List.range_zero, List.filter_nil, List.foldl_nil]

theorem columnSum_bitsOf_succ (n v : Nat) :
    columnSum (bitsOf (n + 1) v) = columnSum (bitsOf n v) ^^^ if bit v n then eccColumn n else 0 := by
  cases h : bit v n
  · simp [bitsOf, List.range_succ, h]
  · simp [bitsOf, List.range_succ, h, columnSum_concat]

theorem columnSum_bitsOf_xor (n v w : Nat) :
    columnSum (bitsOf n (v ^^^ w)) = columnSum (bitsOf n v) ^^^ columnSum (bitsOf n w) := by
  induction n with
  | zero => simp only [columnSum_bitsOf_zero, Nat.xor_zero]
  | succ n ih =>
    have hbit : (if bit v n ^^ bit w n then eccColumn n else 0) =
        (if bit v n then eccColumn n else 0) ^^^ if bit w n then eccColumn n else 0 := by
      cases bit v n <;> cases bit w n <;> simp
    simp only [columnSum_bitsOf_succ, ih, bit_xor, hbit]
    ac_rfl

theorem eccCheck_xor (v w : Nat) : eccCheck (v ^^^ w) = eccCheck v ^^^ eccCheck w := by
  simp only [eccCheck_eq_columnSum, columnSum_bitsOf_xor]

theorem weight7_xor_mod_two (a b : Nat) : weight7 (a ^^^ b) % 2 = (weight7 a + weight7 b) % 2 :=
  popc_xor_mod_two 7 a b

/-- Every column has odd weight, so a sum of columns has the parity of their number. -/
theorem weight7_columnSum_bitsOf_mod_two {n : Nat} (hn : n ≤ 32) (v : Nat) :
    weight7 (columnSum (bitsOf n v)) % 2 = popc n v % 2 := by
  induction n with
  | zero => rw [columnSum_bitsOf_zero]; rfl
  | succ n ih =>
    have hlast : weight7 (if bit v n then eccColumn n else 0) % 2 = (bit v n).toNat % 2 := by
      cases bit v n
      · rw [if_neg Bool.false_ne_true]; decide
      · rw [if_pos rfl, weight7_eccColumn hn, Bool.toNat_true]
    have hpar := weight7_xor_mod_two (columnSum (bitsOf n v)) (if bit v n then eccColumn n else 0)
    have hsum := ih (Nat.le_of_succ_le hn)
    rw [columnSum_bitsOf_succ, popc_succ]
    omega

theorem weight7_eccCheck_mod_two (v : Nat) : weight7 (eccCheck v) % 2 = popc 32 v % 2 := by
  rw [eccCheck_eq_columnSum, weight7_columnSum_bitsOf_mod_two (Nat.le_refl 32)]

theorem lt_of_mem_bitsOf {w v i : Nat} (h : i ∈ bitsOf w v) : i < w :=
  List.mem_range.mp (List.mem_filter.mp h).1

/-! Errors of the 39 bits: `x` in the data, `c` in the check. -/

/-- The syndrome of a stored word is that of the errors alone. -/
theorem syndrome_eq_of_errors (v x c : Nat) : eccCheck (v ^^^ x) ^^^ (eccCheck v ^^^ c) = eccCheck x ^^^ c := by
  rw [eccCheck_xor, Nat.xor_comm (eccCheck v) (eccCheck x), Nat.xor_assoc, xor_xor_self_left]

theorem even_weight7_syndrome_of_double {x c : Nat} (h : popc 32 x + popc 7 c = 2) : weight7 (eccCheck x ^^^ c) % 2 = 0 := by
  have hpar := weight7_xor_mod_two (eccCheck x) c
  have hx := weight7_eccCheck_mod_two x
  have hc : weight7 c = popc 7 c := rfl
  omega

/-- Two columns differ, no column is a check bit's, and two check bits differ: the two errors do not cancel. -/
theorem syndrome_ne_zero_of_double {x c : Nat} (hc : c < 2 ^ 7) (h : popc 32 x + popc 7 c = 2) : eccCheck x ^^^ c ≠ 0 := by
  intro he
  have hxc : columnSum (bitsOf 32 x) = c := eccCheck_eq_columnSum x ▸ eq_of_xor_eq_zero he
  have hlen : (bitsOf 32 x).length + weight7 c = 2 := h
  have hlt : ∀ i ∈ bitsOf 32 x, i < 32 := fun _ => lt_of_mem_bitsOf
  have hnd : (bitsOf 32 x).Nodup := List.nodup_range.filter _
  match hb : bitsOf 32 x with
  | [] =>
    have h0 : weight7 0 = 2 := by simpa [hb, columnSum, ← hxc] using hlen
    exact absurd h0 (by decide)
  | [i] =>
    have hi := weight7_eccColumn (hlt i (by simp [hb]))
    have hic : eccColumn i = c := by simpa [hb, columnSum] using hxc
    simp [hb, ← hic, hi] at hlen
  | [i, j] =>
    have hij : eccColumn i ^^^ eccColumn j = c := by simpa [hb, columnSum] using hxc
    have hc0 : c = 0 := eq_zero_of_popc_eq_zero hc (by simpa [hb, weight7] using hlen)
    have heq := (eccColumn_inj (hlt i (by simp [hb])) (hlt j (by simp [hb]))).mp (eq_of_xor_eq_zero (hij.trans hc0))
    simp [hb, heq] at hnd
  | _ :: _ :: _ :: _ => simp [hb] at hlen; omega

/-! The decoder (R404). -/

theorem eccDecode_zero (v : Nat) : eccDecode v 0 = (.clean, v) := rfl

theorem eccDecode_two_pow (v : Nat) {j : Nat} (hj : j < 7) : eccDecode v (2 ^ j) = (.corrected, v) := by
  have hany : (List.range 7).any (fun k => 2 ^ j = 2 ^ k) = true :=
    List.any_eq_true.mpr ⟨j, List.mem_range.mpr hj, by simp⟩
  rw [eccDecode, if_neg (by simp), if_pos hany]

theorem eccDecode_column (v : Nat) {i : Nat} (hi : i < 32) : eccDecode v (eccColumn i) = (.corrected, v ^^^ 2 ^ i) := by
  have hw := weight7_eccColumn hi
  have h0 : eccColumn i ≠ 0 := fun h => absurd (h ▸ hw : weight7 0 = 3) (by decide)
  have hany : ¬ (List.range 7).any (fun j => eccColumn i = 2 ^ j) = true := by
    simp only [List.any_eq_true, List.mem_range, decide_eq_true_eq, not_exists, not_and]
    intro j hj h
    rw [h, weight7_two_pow hj] at hw
    contradiction
  have hfind : (List.range 32).find? (fun k => eccColumns.getD k 0 = eccColumn i) = some i := by
    refine List.find?_range_eq_some.mpr ⟨decide_eq_true rfl, List.mem_range.mpr hi, fun k hk => ?_⟩
    simpa [eccColumn] using mt (eccColumn_inj (Nat.lt_trans hk hi) hi).mp (Nat.ne_of_lt hk)
  simp only [eccDecode, if_neg h0, if_neg hany, hfind, Nat.one_shiftLeft]

/-- A syndrome no single error of the 39 bits leaves is the marker's or uncorrectable. -/
theorem eccDecode_of_not_single (v : Nat) {e : Nat} (h0 : e ≠ 0) (hcheck : ∀ j, j < 7 → e ≠ 2 ^ j) (hcol : e ∉ eccColumns) :
    eccDecode v e = if e = 0x7F then (.marker, v) else (.uncorrectable, v) := by
  have hany : ¬ (List.range 7).any (fun j => e = 2 ^ j) = true := by simpa using hcheck
  have hfind : (List.range 32).find? (fun k => eccColumns.getD k 0 = e) = none := by
    refine List.find?_eq_none.mpr fun k hk => ?_
    exact mt of_decide_eq_true fun h : eccColumn k = e => hcol (h ▸ eccColumn_mem (List.mem_range.mp hk))
  simp only [eccDecode, if_neg h0, if_neg hany, hfind]

theorem eccDecode_marker (v : Nat) : eccDecode v 0x7F = (.marker, v) :=
  eccDecode_of_not_single v (by decide) (by decide) fun h => absurd (weight7_of_mem_eccColumns h) (by decide)

/-- Check bits and columns have odd weight, so an even syndrome is neither. -/
theorem eccDecode_of_even (v : Nat) {e : Nat} (h0 : e ≠ 0) (heven : weight7 e % 2 = 0) :
    eccDecode v e = if e = 0x7F then (.marker, v) else (.uncorrectable, v) := by
  refine eccDecode_of_not_single v h0 (fun j hj he => ?_) fun he => ?_
  · simp [he, weight7_two_pow hj] at heven
  · simp [weight7_of_mem_eccColumns he] at heven

/-! Reads of a word (R404, R413). -/

section
variable {s : State} {w d : Nat}

theorem State.readWord_of_not_granValid (hv : s.granValid w = false) : s.readWord w = ((0, false), s) := by
  simp [State.readWord, hv]

theorem State.readWord_of_clean (hv : s.granValid w = true) (h : eccDecode (s.word w) (s.syn w) = (.clean, d)) :
    s.readWord w = ((d, false), s) := by
  simp [State.readWord, hv, h]

theorem State.readWord_of_corrected (hv : s.granValid w = true) (h : eccDecode (s.word w) (s.syn w) = (.corrected, d)) :
    s.readWord w = ((d, false), s.ceSeen w (s.syn w)) := by
  simp [State.readWord, hv, h]

theorem State.readWord_of_marker (hv : s.granValid w = true) (h : eccDecode (s.word w) (s.syn w) = (.marker, d)) :
    s.readWord w = ((d, true), s.cnt MEM_POISON_READ_count (memDev (4 * w))) := by
  simp [State.readWord, hv, h]

theorem State.readWord_of_uncorrectable (hv : s.granValid w = true)
    (h : eccDecode (s.word w) (s.syn w) = (.uncorrectable, d)) : s.readWord w = ((d, true), s.ueSeen w (s.syn w)) := by
  simp [State.readWord, hv, h]

end

/-- Settles O52: the decoder answers each syndrome by its kind; the check is linear, so a syndrome is that of the errors alone, and as columns and check bits have odd weight, two errors leave an even one. -/
theorem syndromesDecodeAsTabled : Obligations.SyndromesDecodeAsTabled := by
  unfold Obligations.SyndromesDecodeAsTabled
  refine ⟨fun s w => State.readWord_of_not_granValid, fun s w hv => ⟨?clean, ?checkBit, ?dataColumn, ?marker, ?other⟩,
    ?oneDataBit, ?oneCheckBit, ?twoBits⟩
  case clean =>
    intro h
    exact State.readWord_of_clean hv (h ▸ eccDecode_zero _)
  case checkBit =>
    intro j hj h
    exact h ▸ State.readWord_of_corrected hv (h ▸ eccDecode_two_pow _ hj)
  case dataColumn =>
    intro i hi h
    exact h ▸ State.readWord_of_corrected hv (h ▸ eccDecode_column _ hi)
  case marker =>
    intro h
    exact State.readWord_of_marker hv (h ▸ eccDecode_marker _)
  case other =>
    intro h0 hm hcheck hcol
    exact State.readWord_of_uncorrectable hv ((eccDecode_of_not_single _ h0 hcheck hcol).trans (if_neg hm))
  case oneDataBit =>
    intro v i _ hi
    have hsyn : eccCheck (v ^^^ 2 ^ i) ^^^ eccCheck v = eccColumn i := by
      simpa [eccCheck_two_pow hi] using syndrome_eq_of_errors v (2 ^ i) 0
    rw [hsyn, eccDecode_column _ hi, xor_xor_self_right]
  case oneCheckBit =>
    intro v j hj
    rw [xor_xor_self_left, eccDecode_two_pow _ hj]
  case twoBits =>
    rintro v x c e - - hc h rfl
    rw [syndrome_eq_of_errors]
    have heven := even_weight7_syndrome_of_double h
    have hne := syndrome_ne_zero_of_double hc h
    refine ⟨heven, hne, ?_⟩
    rw [eccDecode_of_even _ hne heven]
    split <;> simp

end Sys2Proof.Machine

/-! PROOFS. The packet header (R65, R66): little-endian bytes and the number they stand for, fields placed in a word and read back, and the round trips of the header's 64 bytes. -/

namespace Sys2Proof.Machine

/-! Little-endian bytes (R6). -/

theorem leBytes_succ (n v : Nat) : leBytes (n + 1) v = BitVec.ofNat 8 v :: leBytes n (v / 256) := by
  have hstep : ∀ i, v >>> (8 * (i + 1)) = (v / 256) >>> (8 * i) := fun i => by
    rw [Nat.mul_add, Nat.add_comm, Nat.shiftRight_add, Nat.shiftRight_eq_div_pow v]
  simp [leBytes, List.range_succ_eq_map, Function.comp_def, hstep]

theorem leNat_leBytes (n v : Nat) : leNat (leBytes n v) = v % 2 ^ (8 * n) := by
  induction n generalizing v with
  | zero => simp [leBytes, leNat, Nat.mod_one]
  | succ n ih =>
    have hpow : 2 ^ (8 * (n + 1)) = 256 * 2 ^ (8 * n) := by rw [Nat.mul_add, Nat.pow_add, Nat.mul_comm]
    calc leNat (leBytes (n + 1) v)
      _ = v % 256 + 256 * leNat (leBytes n (v / 256)) := by rw [leBytes_succ]; simp [leNat]
      _ = v % 2 ^ (8 * (n + 1)) := by rw [ih, hpow, Nat.mod_mul]

theorem leBytes_leNat (bs : List Byte) : leBytes bs.length (leNat bs) = bs := by
  induction bs with
  | nil => rfl
  | cons b bs ih =>
    have hb := b.isLt
    have hlo : BitVec.ofNat 8 (b.toNat + 256 * leNat bs) = b := BitVec.eq_of_toNat_eq (by simp; omega)
    have hhi : (b.toNat + 256 * leNat bs) / 256 = leNat bs := by omega
    calc leBytes (bs.length + 1) (b.toNat + 256 * leNat bs)
      _ = BitVec.ofNat 8 (b.toNat + 256 * leNat bs) :: leBytes bs.length ((b.toNat + 256 * leNat bs) / 256) := leBytes_succ ..
      _ = b :: bs := by rw [hlo, hhi, ih]

theorem leNat_lt (bs : List Byte) : leNat bs < 2 ^ (8 * bs.length) := by
  rw [← leBytes_leNat bs, leNat_leBytes, leBytes_leNat]
  exact Nat.mod_lt _ (Nat.two_pow_pos _)

/-! Fields placed in a word. -/

/-- A word that holds `x`, cut to `w` bits, at bits [lo + w - 1 : lo] and nothing else. -/
def place (lo w x : Nat) : Nat := (x % 2 ^ w) <<< lo

theorem testBit_place (lo w x i : Nat) : (place lo w x).testBit i = (decide (lo ≤ i ∧ i < lo + w) && x.testBit (i - lo)) := by
  simp only [place, Nat.testBit_shiftLeft, Nat.testBit_mod_two_pow, ← Bool.and_assoc, ← Bool.decide_and]
  congr 2
  exact propext (by omega)

theorem testBit_fld (v lo w i : Nat) : (fld v lo w).testBit i = (decide (i < w) && v.testBit (lo + i)) := by
  simp [fld]

theorem fld_or (a b lo w : Nat) : fld (a ||| b) lo w = fld a lo w ||| fld b lo w := by
  simp [fld, Nat.shiftRight_or_distrib, Nat.or_mod_two_pow]

theorem fld_and (a b lo w : Nat) : fld (a &&& b) lo w = fld a lo w &&& fld b lo w := by
  simp [fld, Nat.shiftRight_and_distrib, Nat.and_mod_two_pow]

@[simp] theorem fld_zero (lo w : Nat) : fld 0 lo w = 0 := by simp [fld]

theorem fld_place_same (lo w x : Nat) : fld (place lo w x) lo w = x % 2 ^ w := by
  simp [fld, place]

/-- A field does not reach into another one. -/
theorem fld_place_apart {lo w l n : Nat} (x : Nat) (h : l + n ≤ lo ∨ lo + w ≤ l) : fld (place l n x) lo w = 0 := by
  refine Nat.eq_of_testBit_eq fun i => ?_
  rw [testBit_fld, testBit_place, Nat.zero_testBit]
  by_cases hi : i < w <;> simp [hi]
  omega

/-- A field is cleared by a mask that is zero over it. -/
theorem place_and_of_fld_zero {lo w m : Nat} (x : Nat) (h : fld m lo w = 0) : place lo w x &&& m = 0 := by
  refine Nat.eq_of_testBit_eq fun i => ?_
  rw [Nat.testBit_and, testBit_place, Nat.zero_testBit]
  by_cases hi : lo ≤ i ∧ i < lo + w
  · have hm := congrArg (·.testBit (i - lo)) h
    rw [testBit_fld, show lo + (i - lo) = i by omega, Nat.zero_testBit, decide_eq_true (by omega), Bool.true_and] at hm
    rw [hm, Bool.and_false]
  · rw [decide_eq_false hi]; rfl

theorem place_lt {lo w n : Nat} (x : Nat) (h : lo + w ≤ n) : place lo w x < 2 ^ n := by
  have hx : x % 2 ^ w < 2 ^ w := Nat.mod_lt _ (Nat.two_pow_pos w)
  calc place lo w x
    _ = x % 2 ^ w * 2 ^ lo := Nat.shiftLeft_eq ..
    _ < 2 ^ w * 2 ^ lo := Nat.mul_lt_mul_of_pos_right hx (Nat.two_pow_pos lo)
    _ = 2 ^ (lo + w) := by rw [Nat.add_comm, Nat.pow_add]
    _ ≤ 2 ^ n := Nat.pow_le_pow_right (by decide) h

theorem or_lt_two_pow_iff {a b n : Nat} : a ||| b < 2 ^ n ↔ a < 2 ^ n ∧ b < 2 ^ n :=
  ⟨fun h => ⟨Nat.lt_of_le_of_lt Nat.left_le_or h, Nat.lt_of_le_of_lt Nat.right_le_or h⟩, fun h => Nat.or_lt_two_pow h.1 h.2⟩

/-- A field read from a word and put back is the word under the field's mask. -/
theorem place_fld (v lo w : Nat) : place lo w (fld v lo w) = v &&& ((2 ^ w - 1) <<< lo) := by
  refine Nat.eq_of_testBit_eq fun i => ?_
  rw [testBit_place, testBit_fld, Nat.testBit_and, Nat.testBit_shiftLeft, Nat.testBit_two_pow_sub_one, Bool.and_comm (v.testBit i)]
  by_cases hi : lo ≤ i ∧ i < lo + w
  · rw [show lo + (i - lo) = i by omega, decide_eq_true hi, decide_eq_true hi.1, decide_eq_true (by omega : i - lo < w)]; rfl
  · rw [decide_eq_false hi]
    by_cases h1 : lo ≤ i
    · rw [decide_eq_false (by omega : ¬ i - lo < w)]; simp
    · rw [decide_eq_false h1]; rfl

end Sys2Proof.Machine

namespace Sys2Proof

open Machine

/-- The header as its fields, each at its place of R65. -/
theorem Pkt.hdrImage_eq_places (p : Pkt) : p.hdrImage =
    place 0 4 p.ver ||| place 4 4 p.kind ||| place 8 3 p.tc ||| place 11 1 p.epoch ||| place 12 1 p.fence ||| place 13 1 p.poisonAny
    ||| place 14 2 p.colour ||| place 16 16 p.length ||| place 32 12 p.slice ||| place 44 3 p.hopPtr ||| place 47 3 p.hopCount
    ||| place 50 1 p.wbDone ||| place 51 1 p.bcTarget ||| place 64 24 p.src ||| place 96 24 p.dst
    ||| (0 ||| place 128 16 (p.waybill.getD 0 0) ||| place 144 16 (p.waybill.getD 1 0) ||| place 160 16 (p.waybill.getD 2 0)
      ||| place 176 16 (p.waybill.getD 3 0) ||| place 192 16 (p.waybill.getD 4 0) ||| place 208 16 (p.waybill.getD 5 0)
      ||| place 224 16 (p.waybill.getD 6 0) ||| place 240 16 (p.waybill.getD 7 0))
    ||| place 256 32 p.seq ||| place 288 16 p.ctx ||| place 304 10 p.member ||| place 314 3 p.attempt ||| place 320 32 p.chunk
    ||| place 352 4 p.fmt ||| place 356 4 p.op ||| place 368 16 p.poisonMap ||| place 384 48 p.originTime ||| place 448 32 p.e2e
    ||| place 480 32 p.hdrCrc ||| p.rsv := rfl

set_option exponentiation.threshold 512 in
/-- The fields' masks and the reserved bits cover the 512 bits. -/
theorem Pkt.hdrImage_ofImage {v : Nat} (hv : v < 2 ^ (8 * 64)) (payload : List Byte) : (Pkt.ofImage v payload).hdrImage = v := by
  rw [Pkt.hdrImage_eq_places]
  simp only [Pkt.ofImage, List.range_succ_eq_map, List.range_zero, List.map_cons, List.map_nil, List.getD_cons_zero, List.getD_cons_succ,
    place_fld, Nat.zero_or, ← Nat.and_or_distrib_left, Nat.reduceAdd, Nat.reduceMul, Nat.reduceSub, Nat.reducePow, Nat.reduceShiftLeft,
    Nat.reduceOr, rsvMask]
  exact (Nat.and_two_pow_sub_one_eq_mod v 512).trans (Nat.mod_eq_of_lt hv)

set_option exponentiation.threshold 448 in
theorem rsvMask_lt : rsvMask < 2 ^ (8 * 56) := by decide

set_option exponentiation.threshold 448 in
theorem Pkt.hdrImage_lt {p : Pkt} {n : Nat} (h : p.rsv &&& rsvMask = p.rsv) (hn : 512 ≤ n) : p.hdrImage < 2 ^ n := by
  have hrsv : p.rsv < 2 ^ n :=
    calc p.rsv
      _ ≤ rsvMask := h ▸ Nat.and_le_right
      _ < 2 ^ (8 * 56) := rsvMask_lt
      _ ≤ 2 ^ n := Nat.pow_le_pow_right (by decide) (by omega)
  rw [Pkt.hdrImage_eq_places]
  simp (disch := omega) only [or_lt_two_pow_iff, place_lt, hrsv, Nat.two_pow_pos, and_self]

/-- Reserved bits reach into no field. -/
theorem fld_rsv {r lo w : Nat} (h : r &&& rsvMask = r) (hm : fld rsvMask lo w = 0) : fld r lo w = 0 := by
  rw [← h, fld_and, hm, Nat.and_zero]

theorem Pkt.hdrImage_and_rsvMask {p : Pkt} (h : p.rsv &&& rsvMask = p.rsv) : p.hdrImage &&& rsvMask = p.rsv := by
  have hz : ∀ {lo w : Nat} (x : Nat), fld rsvMask lo w = 0 → place lo w x &&& rsvMask = 0 := place_and_of_fld_zero
  rw [Pkt.hdrImage_eq_places]
  simp (disch := decide) only [Nat.and_or_distrib_right, hz, Nat.zero_or, h]

theorem map_getD_range_eight {l : List Nat} (h : l.length = 8) : (List.range 8).map (fun i => l.getD i 0) = l := by
  refine List.ext_getElem (by simp [h]) fun i _ hi => ?_
  simp [hi]

theorem getD_mod_of_forall_lt {l : List Nat} {m : Nat} (hm : 0 < m) (h : ∀ e ∈ l, e < m) (i : Nat) : l.getD i 0 % m = l.getD i 0 := by
  refine Nat.mod_eq_of_lt ?_
  by_cases hi : i < l.length
  · simpa [hi] using h _ (List.getElem_mem hi)
  · simpa [Nat.le_of_not_lt hi] using hm

theorem Pkt.fits.rsv {p : Pkt} (h : p.fits) : p.rsv &&& rsvMask = p.rsv := by
  unfold Pkt.fits at h
  obtain ⟨-, -, -, -, -, -, -, -, -, -, -, -, -, -, -, -, -, -, -, -, -, -, -, -, -, -, -, -, hrsv⟩ := h
  exact hrsv

/-- Every field of a packet that fits is read back from its image. -/
theorem Pkt.ofImage_hdrImage {p : Pkt} (h : p.fits) : Pkt.ofImage p.hdrImage p.payload = p := by
  obtain ⟨hver, hkind, htc, hepoch, hfence, hpoison, hcolour, hlength, hslice, hhopPtr, hhopCount, hwbDone, hbcTarget, hsrc, hdst,
    hwb, hwbe, hseq, hctx, hmember, hattempt, hchunk, hfmt, hop, hmap, horigin, he2e, hcrc, hrsv⟩ := h
  have hentry := getD_mod_of_forall_lt (Nat.two_pow_pos 16) hwbe
  have hread : Pkt.ofImage p.hdrImage p.payload = { p with
      waybill := (List.range 8).map fun i => p.waybill.getD i 0, rsv := p.hdrImage &&& rsvMask } := by
    simp only [Pkt.ofImage, List.range_succ_eq_map, List.range_zero, List.map_cons, List.map_nil, Nat.reduceAdd, Nat.reduceMul, Nat.reduceSucc]
    generalize p.hdrImage &&& rsvMask = r
    rw [Pkt.hdrImage_eq_places]
    simp (disch := omega) only [fld_or, fld_place_apart, fld_place_same, hentry, Nat.mod_eq_of_lt]
    simp (disch := decide) only [fld_rsv hrsv, fld_zero, Nat.or_zero, Nat.zero_or]
  rw [hread, Pkt.hdrImage_and_rsvMask hrsv, map_getD_range_eight hwb]

/-- Settles O4: each field of R65 is the header word under that field's mask, the masks and the reserved bits are apart and cover the 512 bits, and 64 little-endian bytes are a number below 2^512. -/
theorem headerImageRoundTrips : Obligations.HeaderImageRoundTrips := by
  unfold Obligations.HeaderImageRoundTrips
  refine ⟨fun bs payload hlen => ?_, fun p hfits => ?_⟩
  · have hlt : leNat bs < 2 ^ (8 * 64) := hlen ▸ leNat_lt bs
    rw [Pkt.hdrBytes, Pkt.hdrImage_ofImage hlt, ← hlen, leBytes_leNat]
  · have hlt : p.hdrImage < 2 ^ (8 * 64) := Pkt.hdrImage_lt hfits.rsv (by decide)
    rw [Pkt.hdrBytes, leNat_leBytes, Nat.mod_eq_of_lt hlt, Pkt.ofImage_hdrImage hfits]

end Sys2Proof

/-! PROOFS. A step and the state after reset (R484). -/

namespace Sys2Proof.Machine

/-- Settles O1: both are the two branches of `step`. -/
theorem stepRunsFrontCommand : Obligations.StepRunsFrontCommand := by
  unfold Obligations.StepRunsFrontCommand
  refine ⟨fun _ _ => rfl, fun s h => ?_⟩
  simp only [step, h]

/-- Settles O2: every sparse table of the reset state is empty, so a read gives what an unlisted key reads as. -/
theorem resetState : Obligations.ResetState := by
  unfold Obligations.ResetState
  have hclkOn : State.reset.clkOn = false := rfl
  have htick : State.reset.tick = State.reset := by simp [State.tick, hclkOn]
  exact ⟨fun _ _ _ _ => ⟨rfl, rfl⟩, fun _ _ _ _ => ⟨rfl, fun _ => rfl⟩, fun _ => rfl, fun _ => ⟨rfl, rfl⟩, rfl, rfl, rfl, rfl, rfl, rfl, rfl,
    fun _ => rfl, hclkOn, htick, fun _ => rfl, rfl, by decide⟩

end Sys2Proof.Machine
namespace Sys2Proof.Machine

/-! PROOFS. Which commands stop, and what a module without clocks does (R11, R423, R464, R468). -/

/-- The commands that act whatever the clocks do: the pins, the power stage, the two buses beside CXL and start-up. -/
def Instr.actsWithoutClocks : Instr → Bool
  | .vinSample .. | .smbusRead .. | .boundaryScan .. | .startUp .. | .perstAssert | .thermalTrip | .supplyStop | .softStart => true
  | _ => false

/-- Every command is a step of the module itself, a host access, one of the command processor, or one of those that need no clock. -/
theorem exec_shape (c : Instr) (s : State) :
    (∃ t, exec c s = act s t) ∨ (∃ t, exec c s = hostAct s t) ∨ (∃ t, exec c s = ringAct s t) ∨
      (Instr.actsWithoutClocks c = true ∧ ∃ t, exec c s = .next t) := by
  cases c
  all_goals first
    | exact .inl ⟨_, rfl⟩
    | exact .inr (.inl ⟨_, rfl⟩)
    | exact .inr (.inr (.inl ⟨_, rfl⟩))
    | exact .inr (.inr (.inr ⟨rfl, _, rfl⟩))

theorem act_next (s t : State) : ∃ u, act s t = .next u := ⟨_, rfl⟩

/-- A host access ends in a fault only on a running module whose dividers break R464. -/
theorem hostAct_next_or_fault (s t : State) :
    (∃ u, hostAct s t = .next u) ∨ hostAct s t = .fault .busUnspecified ∧ s.busOk = false ∧ s.alive = true := by
  unfold hostAct
  cases halive : s.alive <;> cases hmem : s.memSpace <;> cases hbus : s.busOk <;> simp

theorem ringAct_next_or_fault (s t : State) :
    (∃ u, ringAct s t = .next u) ∨ ringAct s t = .fault .busUnspecified ∧ s.busOk = false ∧ s.alive = true := by
  unfold ringAct
  cases halive : s.alive <;> cases hbus : s.busOk <;> simp

theorem ringAct_dead {s t : State} (h : s.alive = false) : ringAct s t = .next s := by simp [ringAct, h]

theorem exec_next_or_fault (c : Instr) (s : State) :
    (∃ t, exec c s = .next t) ∨ exec c s = .fault .busUnspecified ∧ s.busOk = false ∧ s.alive = true := by
  obtain ⟨t, h⟩ | ⟨t, h⟩ | ⟨t, h⟩ | ⟨-, t, h⟩ := exec_shape c s
  · exact .inl (h ▸ act_next s t)
  · exact h ▸ hostAct_next_or_fault s t
  · exact h ▸ ringAct_next_or_fault s t
  · exact .inl ⟨t, h⟩

theorem exec_dead {c : Instr} {s : State} (hs : s.alive = false) (hc : Instr.actsWithoutClocks c = false) : exec c s = .next s := by
  obtain ⟨t, h⟩ | ⟨t, h⟩ | ⟨t, h⟩ | ⟨h, -⟩ := exec_shape c s
  · rw [h, act_dead hs]
  · rw [h, hostAct_dead hs]
  · rw [h, ringAct_dead hs]
  · simp [h] at hc

/-- Settles O5: a command is a step of the module, a host access or one that needs no clock, and only a host access can fault. -/
theorem commandsCompleteAndDeadModuleRests : Obligations.CommandsCompleteAndDeadModuleRests := by
  unfold Obligations.CommandsCompleteAndDeadModuleRests
  refine ⟨fun c s hs => ?_, fun c s r hr => ?_, fun c s f hf => ?_, fun c s hs hvin hsmb hscan hstart hperst htrip hstop hsoft => ?_⟩
  · obtain h | ⟨-, hbus, halive⟩ := exec_next_or_fault c s
    · exact h
    · simp [hbus, halive] at hs
  · obtain ⟨t, h⟩ | ⟨h, -⟩ := exec_next_or_fault c s <;> simp [h] at hr
  · obtain ⟨t, h⟩ | ⟨h, hbus, halive⟩ := exec_next_or_fault c s
    · simp [h] at hf
    · exact ⟨Host.Outcome.fault.inj (hf.symm.trans h), hbus, halive⟩
  · refine exec_dead hs ?_
    unfold Instr.actsWithoutClocks
    split
    · exact absurd rfl (hvin _ _ _ _)
    · exact absurd rfl (hsmb _ _)
    · exact absurd rfl (hscan _ _)
    · exact absurd rfl (hstart _)
    · exact absurd rfl hperst
    · exact absurd rfl htrip
    · exact absurd rfl hstop
    · exact absurd rfl hsoft
    · rfl

end Sys2Proof.Machine

/-! PROOFS. What every step keeps (R2, R398, R413): the queue of waiting commands, the range of fabric time and GDDR7's canonical form. First the relation and its rules, then one lemma for each operation of the model, in the order of the model's definitions; each proof follows the operation's own shape. -/

namespace Sys2Proof.Machine

set_option Elab.async false

/-- State `t`, reached from `s` in one step, has its queue, and its clock in range and its memory canonical if they were. -/
structure Keeps (s t : State) : Prop where
  queue : t.pending = s.pending
  clock : s.fclk < clkWrap → t.fclk < clkWrap
  memory : Memory.wf s.mem.data = true → Memory.wf t.mem.data = true

section
variable {s₀ s t : State} {β : Type}

theorem Keeps.refl (s : State) : Keeps s s := ⟨rfl, id, id⟩

/-- An update of other fields. -/
theorem Keeps.frame (h : Keeps s₀ s) {regs stg tbl stgT bad cyc free out alive clkOn memSpace busMaster aborted noFirmware rbusDiv tbusDiv msix pba tim crn effs fwq flights nextId xbr qsh pool fwd link dtm opt byp pins pwr tel ser secu hif} :
    Keeps s₀ ⟨s.pending, regs, stg, tbl, stgT, bad, s.fclk, cyc, free, out, alive, clkOn, memSpace, busMaster, aborted, noFirmware, rbusDiv, tbusDiv, msix, pba, tim, crn, effs, fwq, flights, nextId, xbr, qsh, pool, fwd, link, dtm, opt, byp, pins, pwr, s.mem, tel, ser, secu, hif⟩ :=
  ⟨h.queue, h.clock, h.memory⟩

/-- An update of other fields and of what memory keeps beside its bytes. -/
theorem Keeps.frameMem (h : Keeps s₀ s) {regs stg tbl stgT bad cyc free out alive clkOn memSpace busMaster aborted noFirmware rbusDiv tbusDiv msix pba tim crn effs fwq flights nextId xbr qsh pool fwd link dtm opt byp pins pwr tel ser secu hif
    msynd mvalid mpoison mce mstorm mscrub mpassAt mloose mknown} :
    Keeps s₀ ⟨s.pending, regs, stg, tbl, stgT, bad, s.fclk, cyc, free, out, alive, clkOn, memSpace, busMaster, aborted, noFirmware, rbusDiv, tbusDiv, msix, pba, tim, crn, effs, fwq, flights, nextId, xbr, qsh, pool, fwd, link, dtm, opt, byp, pins, pwr, ⟨s.mem.data, msynd, mvalid, mpoison, mce, mstorm, mscrub, mpassAt, mloose, mknown⟩, tel, ser, secu, hif⟩ :=
  ⟨h.queue, h.clock, h.memory⟩

/-- The clock set to a time, cut to its range. -/
theorem Keeps.setFclk (h : Keeps s₀ s) {c n : Nat} : Keeps s₀ { s with fclk := c % clkWrap, cyc := n } :=
  ⟨h.queue, fun _ => Nat.mod_lt _ (by decide), h.memory⟩

theorem Keeps.ite {c : Prop} [Decidable c] (hs : Keeps s₀ s) (ht : Keeps s₀ t) : Keeps s₀ (if c then s else t) := by
  split <;> assumption

theorem Keeps.snd {x : β} (h : Keeps s₀ s) : Keeps s₀ (x, s).2 := h

theorem Keeps.of_fst {p : State × β} {x : β} (h : Keeps s₀ p.1) (e : p = (t, x)) : Keeps s₀ t := by
  rw [e] at h
  exact h

theorem Keeps.of_snd {p : β × State} {x : β} (h : Keeps s₀ p.2) (e : p = (x, t)) : Keeps s₀ t := by
  rw [e] at h
  exact h

theorem List.foldl_induct {γ : Type} {P : β → Prop} {f : β → γ → β} (hf : ∀ b x, P b → P (f b x)) (l : List γ) {b : β} (h : P b) :
    P (l.foldl f b) := by
  induction l generalizing b with
  | nil => exact h
  | cons x l ih => exact ih (hf b x h)

theorem Keeps.foldl {l : List β} {f : State → β → State} (h : Keeps s₀ s) (hf : ∀ t x, Keeps s₀ t → Keeps s₀ (f t x)) :
    Keeps s₀ (l.foldl f s) :=
  List.foldl_induct hf l h

theorem Keeps.foldl_fst {γ : Type} {l : List β} {f : State × γ → β → State × γ} {r : State × γ} (h : Keeps s₀ r.1)
    (hf : ∀ r x, Keeps s₀ r.1 → Keeps s₀ (f r x).1) : Keeps s₀ (l.foldl f r).1 :=
  List.foldl_induct (P := fun r : State × γ => Keeps s₀ r.1) hf l h

theorem Keeps.foldl_snd {γ : Type} {l : List β} {f : γ × State → β → γ × State} {r : γ × State} (h : Keeps s₀ r.2)
    (hf : ∀ r x, Keeps s₀ r.2 → Keeps s₀ (f r x).2) : Keeps s₀ (l.foldl f r).2 :=
  List.foldl_induct (P := fun r : γ × State => Keeps s₀ r.2) hf l h

theorem Keeps.wr {d : RegD} {v n i j : Nat} (h : Keeps s₀ s) : Keeps s₀ (s.wr d v n i j) :=
  h.frame

theorem Keeps.setHring {q : Nat} {r : HifRing} (h : Keeps s₀ s) : Keeps s₀ (s.setHring q r) :=
  .ite h.frame.wr h.frame

theorem Keeps.emit {o : Out} (h : Keeps s₀ s) : Keeps s₀ (s.emit o) :=
  h.frame

theorem Keeps.sendVec {v : Nat} (h : Keeps s₀ s) : Keeps s₀ (s.sendVec v) :=
  .ite h.frame h.emit

theorem Keeps.irqBit {pg b : Nat} (h : Keeps s₀ s) : Keeps s₀ (s.irqBit pg b) :=
  .ite h.wr.sendVec h.wr

theorem Keeps.cntAdd (f : Nat) {pg i m : Nat} (h : Keeps s₀ s) : Keeps s₀ (cntAdd f pg i m s) := by
  induction f generalizing s i m with
  | zero => exact h
  | succ f ih =>
    have hovf := h.wr (d := PAGE_CNT_count) (v := s.rd PAGE_CNT_count pg i + m) (n := pg) (i := i) (j := 0)
    unfold Machine.cntAdd
    extract_lets v s₁ s₂ s₃
    have h₃ : Keeps s₀ s₃ := .ite (hovf.wr.irqBit.foldl fun _ _ ht => .ite (ih ht) ht) hovf.wr
    exact .ite hovf (.ite (ih h₃) h₃)

theorem Keeps.evCount {pg : Nat} {f : Nat → Bool} {m : Nat} (h : Keeps s₀ s) : Keeps s₀ (s.evCount pg f m) :=
  .ite h (h.foldl fun _ _ h₁ => .ite (h₁.cntAdd 20) h₁)

theorem Keeps.event {pg code : Nat} {tc : Option Nat} {m : Nat} (h : Keeps s₀ s) : Keeps s₀ (s.event pg code tc m) :=
  h.evCount

theorem Keeps.irq {pg b : Nat} (h : Keeps s₀ s) : Keeps s₀ (s.irq pg b) :=
  h.irqBit.event

theorem Keeps.cnt {d : RegD} {n i j m : Nat} (h : Keeps s₀ s) : Keeps s₀ (s.cnt d n i j m) :=
  h.wr.evCount

theorem Keeps.ringErr {res : Nat} (h : Keeps s₀ s) : Keeps s₀ (s.ringErr res) :=
  .ite h h.cnt.irq

theorem Keeps.setSess {l : List Sess} (h : Keeps s₀ s) : Keeps s₀ (s.setSess l) :=
  h.frame.wr

theorem Keeps.dropMsgs {ids : List Nat} (h : Keeps s₀ s) : Keeps s₀ (s.dropMsgs ids) :=
  h.frame

theorem Keeps.endSess {ids : List Nat} (h : Keeps s₀ s) : Keeps s₀ (s.endSess ids) :=
  .ite h.dropMsgs.setSess.frame.irq h.dropMsgs.setSess.frame

theorem Keeps.mend {t b idx w : Nat} (h : Keeps s₀ s) : Keeps s₀ (s.mend t b idx w) :=
  h.frame

theorem Keeps.tset {t b idx w v : Nat} (h : Keeps s₀ s) : Keeps s₀ (s.tset t b idx w v) :=
  h.frame

theorem Keeps.retPut {pipe set way v : Nat} (h : Keeps s₀ s) : Keeps s₀ (s.retPut pipe set way v) :=
  h.tset.mend

theorem Keeps.parityErr {pipe t idx : Nat} (h : Keeps s₀ s) : Keeps s₀ (s.parityErr pipe t idx) :=
  h.cnt.wr.wr.irq

theorem Keeps.lpParity {pipe lp : Nat} (h : Keeps s₀ s) : Keeps s₀ (s.lpParity pipe lp) :=
  .ite h.parityErr h

theorem Keeps.answerRoute {pipe ep : Nat} (h : Keeps s₀ s) : Keeps s₀ (s.answerRoute pipe ep).2 := by
  unfold State.answerRoute
  split
  · exact h.cnt
  · extract_lets -merge -underBinder +onlyGivenNames idx₁
    split
    · exact h.parityErr.retPut.cnt
    · extract_lets lp₂ s₃
      have h₄ : Keeps s₀ s₃ := h.cnt.lpParity
      split <;> exact h₄

theorem Keeps.takeFree {kd : Nat} (h : Keeps s₀ s) : Keeps s₀ (s.takeFree kd).2 :=
  h.frame

theorem Keeps.poolFail {p : Nat} (h : Keeps s₀ s) : Keeps s₀ (s.poolFail p) :=
  h.cnt.irq

theorem Keeps.toPort {pipe lp : Nat} {p : Pkt} (h : Keeps s₀ s) : Keeps s₀ (s.toPort pipe lp p).2 := by
  unfold State.toPort
  extract_lets s₁
  have h₂ : Keeps s₀ s₁ := h.lpParity
  split
  · exact h₂
  · split <;> exact h₂

theorem Keeps.sprayPick {pipe : Nat} {p : Pkt} {el : List Nat} (h : Keeps s₀ s) : Keeps s₀ (s.sprayPick pipe p el).2 := by
  unfold State.sprayPick
  extract_lets -merge -underBinder +onlyGivenNames n₁
  split
  · exact h
  · exact h.frame

theorem Keeps.toSpray {pipe set : Nat} {p : Pkt} (h : Keeps s₀ s) : Keeps s₀ (s.toSpray pipe set p).2 := by
  unfold State.toSpray
  extract_lets -merge -underBinder +onlyGivenNames b₁ w0₂
  split
  · exact h.parityErr
  · split
    · exact h
    · split
      · exact h
      · extract_lets -merge -underBinder +onlyGivenNames ms₃ s₄ el₇ s₈ el₁₁
        have h₅ : Keeps s₀ s₄ := h.foldl fun _ _ h₆ => .ite h₆.parityErr h₆
        have h₉ : Keeps s₀ s₈ := h₅.foldl fun _ _ h₁₀ => h₁₀.lpParity
        split
        · exact h₉
        · exact h₉.sprayPick

theorem Keeps.toDim {pipe d : Nat} {p : Pkt} (h : Keeps s₀ s) : Keeps s₀ (s.toDim pipe d p).2 := by
  unfold State.toDim
  extract_lets idx₁ e₂
  split
  · exact h.parityErr
  · split
    · exact h.toPort
    · exact h.toSpray
    · exact h

theorem Keeps.resolve {f pipe : Nat} {p : Pkt} (h : Keeps s₀ s) : Keeps s₀ (State.resolve f pipe p s).2 := by
  induction f generalizing p with
  | zero => exact h
  | succ f ih =>
    unfold State.resolve
    extract_lets e₁
    split
    · exact h.toPort
    · exact h.toSpray
    · split
      · exact h
      · split
        · exact h.toDim
        · split
          · exact h
          · exact ih
    · exact h

theorem Keeps.setFree {p v : Nat} (h : Keeps s₀ s) : Keeps s₀ (s.setFree p v) :=
  .ite h.wr.wr h.wr

theorem Keeps.alloc {gddr : Bool} {n k : Nat} {r : List Nat × State} (h : Keeps s₀ s) (e : s.alloc gddr n k = some r) : Keeps s₀ r.2 := by
  unfold State.alloc at e
  split at e
  · contradiction
  split at e
  · contradiction
  · cases e
    exact h.setFree.frame

theorem Keeps.takeShared {n : Nat} {r : List Nat × State} (h : Keeps s₀ s) (e : s.takeShared n = some r) : Keeps s₀ r.2 := by
  unfold State.takeShared at e
  split at e
  · exact h.alloc e
  · contradiction

theorem Keeps.setRx {p : Nat} {x : PortRx} (h : Keeps s₀ s) : Keeps s₀ (s.setRx p x) :=
  h.frame

theorem Keeps.returnCredit {lp vc n : Nat} (h : Keeps s₀ s) : Keeps s₀ (s.returnCredit lp vc n) :=
  h.setRx

theorem Keeps.enter {p : Pkt} {pipe inCore : Nat} {arr : Option Nat} {vc : Nat} {d : Dest} {bufs : List Nat} {hop0 : Nat} {own ans : Bool} (h : Keeps s₀ s) : Keeps s₀ (s.enter p pipe inCore arr vc d bufs hop0 own ans) := by
  unfold State.enter
  extract_lets x₁ s₂ s₄
  have h₃ : Keeps s₀ s₂ := h.frame
  have h₅ : Keeps s₀ s₄ := h₃.event.event
  split
  · exact h₅.returnCredit
  · exact h₅

theorem Keeps.originate {p : Pkt} {pipe inCore : Nat} {why : OrigFail} {ans : Bool} (h : Keeps s₀ s) :
    Keeps s₀ (s.originate p pipe inCore why ans).2 := by
  unfold State.originate
  extract_lets p₁ r
  split
  · exact h.poolFail
  have hr : Keeps s₀ r.2 := h.resolve
  split
  · exact hr.cnt
  split
  · next t e =>
    have ht : Keeps s₀ t := hr.takeShared e
    dsimp only
    exact ht.enter
  · exact hr.poolFail

theorem Keeps.putSess {x : Sess} (h : Keeps s₀ s) : Keeps s₀ (s.putSess x) :=
  h.frame

theorem Keeps.sendMgmt {pipe dst slice sess typ : Nat} {body : List Byte} (h : Keeps s₀ s) : Keeps s₀ (s.sendMgmt pipe dst slice sess typ body) := by
  unfold State.sendMgmt
  extract_lets -merge -underBinder +onlyGivenNames f₁ n₂
  split
  · exact h
  · extract_lets -merge -underBinder +onlyGivenNames x₃ tx₄
    split
    · exact h.endSess
    · extract_lets key₅ s₆
      have h₇ : Keeps s₀ s₆ := h.foldl fun _ _ h₈ => h₈.answerRoute.frame.originate
      clear_value *
      split
      · exact h₇.putSess
      · exact h₇

theorem Keeps.ibDone {n : Nat} {raw : List Byte} (h : Keeps s₀ s) : Keeps s₀ (s.ibDone n raw) := by
  unfold State.ibDone
  split
  · exact h
  · exact .ite h.frame.sendMgmt h.frame

theorem Keeps.ringStop {q idx : Nat} (h : Keeps s₀ s) : Keeps s₀ (s.ringStop q idx) :=
  h.setHring.wr.irq

theorem Keeps.toHost {addr : Nat} {bs : List Byte} (h : Keeps s₀ s) : Keeps s₀ (s.toHost addr bs) :=
  h.emit

theorem Keeps.ringStat {q res idx : Nat} (h : Keeps s₀ s) : Keeps s₀ (s.ringStat q res idx) :=
  h.wr.wr.wr

theorem Keeps.ringClear {q : Nat} (h : Keeps s₀ s) : Keeps s₀ (s.ringClear q) := by
  unfold State.ringClear
  extract_lets size₁
  split
  · extract_lets -merge -underBinder +onlyGivenNames s₄ s₇ _ s₉
    have h₅ : Keeps s₀ s₄ := .ite h (h.foldl fun _ _ h₆ => .ite h₆.toHost.ringStat.ringErr h₆.toHost.ringStat)
    have h₈ : Keeps s₀ s₇ := .ite h₅.sendVec h₅
    have h₁₀ : Keeps s₀ s₉ := h₈.setHring
    exact h₁₀.wr.wr

theorem Keeps.ringDone {q res poll : Nat} {reads lost : List Nat} (h : Keeps s₀ s) : Keeps s₀ (s.ringDone q res poll reads lost) := by
  unfold State.ringDone
  extract_lets -merge -underBinder +onlyGivenNames r₁
  split
  · exact h
  · extract_lets -merge -underBinder +onlyGivenNames word₂
    split
    · extract_lets s₃
      have h₄ : Keeps s₀ s₃ := h.setHring.ringErr
      split
      · exact h₄.ibDone
      · exact h₄
    · split
      · exact h.ringStop
      · extract_lets a₅ s₆ s₈ s₁₀ s₁₂
        have h₇ : Keeps s₀ s₆ := .ite h h.toHost
        have h₉ : Keeps s₀ s₈ := h₇.toHost.setHring
        have h₁₁ : Keeps s₀ s₁₀ := h₉.ringStat.ringErr
        have h₁₃ : Keeps s₀ s₁₂ := .ite h₁₁.sendVec h₁₁
        exact .ite h₁₃.ringClear h₁₃

theorem Keeps.takeOne {q : Nat} {lost : List Nat} (h : Keeps s₀ s) : Keeps s₀ (s.takeOne q lost) := by
  unfold State.takeOne
  extract_lets -merge -underBinder +onlyGivenNames r₁
  split
  · exact h
  · extract_lets -merge -underBinder +onlyGivenNames i₂ s₃ s₅ _ s₇ d₉
    have h₄ : Keeps s₀ s₃ := h.setHring
    have h₆ : Keeps s₀ s₅ := .ite h₄.wr h₄
    have h₈ : Keeps s₀ s₇ := .ite h₆.frame h₆
    exact .ite h₈.ringDone (.ite h₈.ringDone (.ite h₈.cnt.ringDone (.ite h₈.ringDone h₈)))

theorem Keeps.ringServe {lost : List Nat} (h : Keeps s₀ s) : Keeps s₀ (s.ringServe lost) := by
  unfold State.ringServe
  split
  · exact h
  · split
    · exact h.frame.takeOne
    · exact h

theorem Keeps.tickWaits (h : Keeps s₀ s) : Keeps s₀ (s.tickWaits) :=
  .ite h h.evCount

theorem Keeps.tickPage {pg : Nat} (h : Keeps s₀ s) : Keeps s₀ (s.tickPage pg) := by
  unfold State.tickPage
  split
  · extract_lets s₁ d₃ s₄
    have h₂ : Keeps s₀ s₁ := h.wr.event
    have h₅ : Keeps s₀ s₄ := .ite h₂.event (.ite h₂.event h₂)
    exact .ite h₅.tickWaits (.ite h₅.event h₅)
  · exact h

theorem Keeps.wrI {d : RegD} {x : Int} {n i j : Nat} (h : Keeps s₀ s) : Keeps s₀ (s.wrI d x n i j) :=
  h.wr

theorem Keeps.trimTo {t : Int} (h : Keeps s₀ s) : Keeps s₀ (s.trimTo t) :=
  .ite h h.frame.wrI

theorem Keeps.slewBack (h : Keeps s₀ s) : Keeps s₀ (s.slewBack) :=
  .ite h h.trimTo

theorem Keeps.opxDone {e st : Nat} (h : Keeps s₀ s) : Keeps s₀ (s.opxDone e st) :=
  h.wr.wr

theorem Keeps.baselineEnd {e : Nat} {powers : List Nat} {flashOk : Bool} (h : Keeps s₀ s) : Keeps s₀ (s.baselineEnd e powers flashOk) :=
  .ite h.frame.opxDone h.frame.frame.wr.opxDone

theorem Keeps.tickBaselines (h : Keeps s₀ s) : Keeps s₀ (s.tickBaselines) :=
  h.foldl fun _ _ h₁ => h₁.baselineEnd

theorem Keeps.setPtp {f : Nat} {x : PtpPort} (h : Keeps s₀ s) : Keeps s₀ (s.setPtp f x) :=
  h.frame

theorem Keeps.ptpBody {f typ : Nat} {b : List Nat} (h : Keeps s₀ s) : Keeps s₀ (s.ptpBody f typ b).2 := by
  unfold State.ptpBody
  extract_lets -merge -underBinder +onlyGivenNames g₁ now₂ head₃
  split
  · exact h
  · exact h.setPtp
  · exact h
  · exact h.frame

theorem Keeps.setFib {f : Nat} {x : FibreSt} (h : Keeps s₀ s) : Keeps s₀ (s.setFib f x) :=
  h.frame

theorem Keeps.departLmf {f : Nat} {m : Lmf} (h : Keeps s₀ s) : Keeps s₀ (s.departLmf f m).2 := by
  unfold State.departLmf
  extract_lets b₁ x₃
  have h₂ : Keeps s₀ b₁.2 := by
    unfold b₁
    split
    · exact h.ptpBody
    · exact h
  exact h₂.setFib

theorem Keeps.takeLmfs {f : Nat} (h : Keeps s₀ s) : Keeps s₀ (s.takeLmfs f).2 :=
  Keeps.foldl_snd (r := ([], _)) h.setFib fun _ _ h₁ => h₁.departLmf

theorem Keeps.controlTx {l slot : Nat} (h : Keeps s₀ s) : Keeps s₀ (s.controlTx l slot).2 := by
  unfold State.controlTx
  extract_lets f₁ x₂ r₃ up₅ b₆ q₇ w₈
  have h₄ : Keeps s₀ r₃.2 := by
    unfold r₃
    split
    · exact h.takeLmfs
    · exact h
  exact h₄

theorem Keeps.setTx {p : Nat} {x : PortTx} (h : Keeps s₀ s) : Keeps s₀ (s.setTx p x) :=
  h.frame

theorem Keeps.dataTx {l slot : Nat} (h : Keeps s₀ s) : Keeps s₀ (s.dataTx l slot).2 := by
  unfold State.dataTx
  split
  · exact h
  · split
    · split
      · exact h.setTx
      · exact h
    · exact h

theorem Keeps.setLaneX {l : Nat} {x : LaneSt} (h : Keeps s₀ s) : Keeps s₀ (s.setLaneX l x) :=
  h.frame

theorem Keeps.cwEvent {l : Nat} {control : Bool} {m : Nat} (h : Keeps s₀ s) : Keeps s₀ (s.cwEvent l control m) :=
  .ite h h.event

theorem Keeps.laneTx {slot l : Nat} (h : Keeps s₀ s) : Keeps s₀ (s.laneTx slot l) := by
  unfold State.laneTx
  extract_lets line₁ i₂ held₃ x₄ k₅ r₆ place₈ y₉ s₁₀
  have h₇ : Keeps s₀ r₆.2 := by
    unfold r₆
    split
    · exact h
    · split
      · exact h.controlTx
      · exact h.dataTx
  have h₁₁ : Keeps s₀ s₁₀ := .ite h₇.setLaneX h₇
  exact h₁₁.cwEvent.emit

theorem Keeps.slotTx (h : Keeps s₀ s) : Keeps s₀ (s.slotTx) :=
  .ite h (h.foldl fun _ _ h₁ => h₁.laneTx)

theorem Keeps.tick (h : Keeps s₀ s) : Keeps s₀ s.tick := by
  unfold State.tick
  split
  · extract_lets s₁
    have h₁ : Keeps s₀ s₁ := h.setFclk
    exact (h₁.slotTx.tickBaselines.slewBack.foldl fun _ _ h₂ => h₂.tickPage).ringServe
  · exact h

theorem Keeps.refuseAccess {pg off : Nat} {write : Bool} {cause : Nat} (h : Keeps s₀ s) : Keeps s₀ (s.refuseAccess pg off write cause) :=
  h.cnt.wr.wr.wr.wr.wr.irq

theorem Keeps.refuseRead {pg off cause : Nat} (h : Keeps s₀ s) : Keeps s₀ (s.refuseRead pg off cause) :=
  h.refuseAccess.emit.frame

theorem Keeps.readNow (h : Keeps s₀ s) : Keeps s₀ (s.readNow).2 :=
  h.wr

theorem Keeps.psOf {x : Int} {n : Nat} (h : Keeps s₀ s) : Keeps s₀ (s.psOf x n).2 := by
  unfold State.psOf
  extract_lets -merge -underBinder +onlyGivenNames d₁
  split
  · exact h
  · exact h.frame

theorem Keeps.setTimState {v : Nat} (h : Keeps s₀ s) : Keeps s₀ (s.setTimState v) :=
  .ite h (.ite h.wr.irq.frame.irq h.wr.irq.frame)

theorem Keeps.servoSlew (h : Keeps s₀ s) : Keeps s₀ (s.servoSlew) :=
  h.frame.frame.frame.wrI

theorem Keeps.deepCore {p : Nat} (h : Keeps s₀ s) : Keeps s₀ (s.deepCore p) :=
  h.frame.wr.wr.wr.cnt

theorem Keeps.wakeCore {p : Nat} {work : Bool} (h : Keeps s₀ s) : Keeps s₀ (s.wakeCore p work) :=
  .ite (.ite h.frame h) (.ite (((Keeps.ite h.frame h).frame).cnt) ((Keeps.ite h.frame h).frame))

theorem Keeps.reCore {p : Nat} (h : Keeps s₀ s) : Keeps s₀ (s.reCore p) :=
  .ite h.deepCore (.ite h.wakeCore h)

theorem Keeps.showEngine {e : Nat} (h : Keeps s₀ s) : Keeps s₀ (s.showEngine e) :=
  .ite h h.wr

theorem Keeps.setFibre {f d : Nat} (h : Keeps s₀ s) : Keeps s₀ (s.setFibre f d) :=
  h.wr.showEngine

theorem Keeps.setRing {e r : Nat} {x : Ring} (h : Keeps s₀ s) : Keeps s₀ (s.setRing e r x) :=
  h.frame

theorem Keeps.ringsOff {f : Nat} (h : Keeps s₀ s) : Keeps s₀ (s.ringsOff f) :=
  (h.foldl fun _ _ h₁ => h₁.setRing).foldl fun _ _ h₂ => h₂.setLaneX

theorem Keeps.deepFibre {f : Nat} (h : Keeps s₀ s) : Keeps s₀ (s.deepFibre f) :=
  h.ringsOff.setFibre.cnt

theorem Keeps.wakeFibre {f : Nat} (h : Keeps s₀ s) : Keeps s₀ (s.wakeFibre f) :=
  .ite h h.frame.cnt

theorem Keeps.reFibre {f : Nat} (h : Keeps s₀ s) : Keeps s₀ (s.reFibre f) :=
  .ite h.deepFibre (.ite h.wakeFibre h)

theorem Keeps.reDepth (h : Keeps s₀ s) : Keeps s₀ (s.reDepth) :=
  (h.foldl fun _ _ h₁ => h₁.reFibre).foldl fun _ _ h₂ => h₂.reCore

theorem Keeps.setCu {n : Nat} {x : CairnU} (h : Keeps s₀ s) : Keeps s₀ (s.setCu n x) :=
  h.frame

theorem Keeps.setUst {n v : Nat} (h : Keeps s₀ s) : Keeps s₀ (s.setUst n v) :=
  h.wr.wr

theorem Keeps.fire {n : Nat} {late stepped : Bool} (h : Keeps s₀ s) : Keeps s₀ (s.fire n late stepped) := by
  unfold State.fire
  extract_lets u₁ per₂ cls₃ limit₄ passed₅ m₆ k₇ e₈ s₉ s₁₁ s₁₃ s₁₅ s₁₇ s₁₉
  have h₁₀ : Keeps s₀ s₉ := h.setCu
  have h₁₂ : Keeps s₀ s₁₁ := h₁₀.wr
  have h₁₄ : Keeps s₀ s₁₃ := h₁₂.wr
  have h₁₆ : Keeps s₀ s₁₅ := .ite h₁₄.wr.irq h₁₄
  have h₁₈ : Keeps s₀ s₁₇ := .ite h₁₆.setUst h₁₆
  have h₂₀ : Keeps s₀ s₁₉ := .ite h₁₈.irq h₁₈
  exact h₂₀.frame

theorem Keeps.setClock {c : Nat} (h : Keeps s₀ s) : Keeps s₀ (s.setClock c) := by
  unfold State.setClock
  extract_lets old us s₁
  have h₁ : Keeps s₀ s₁ := h.setFclk
  exact (h₁.foldl fun _ _ h₂ => h₂.fire).reDepth

theorem Keeps.stepClock {d : Int} (h : Keeps s₀ s) : Keeps s₀ (s.stepClock d) :=
  .ite h.wr h.setClock.irq

theorem Keeps.servo {off : Int} (h : Keeps s₀ s) : Keeps s₀ (s.servo off) := by
  unfold State.servo
  extract_lets -merge -underBinder +onlyGivenNames big₁ s₂
  have h₃ : Keeps s₀ s₂ := .ite h.setTimState h
  split
  · extract_lets -merge -underBinder +onlyGivenNames g₄ _ s₅ s₇
    have h₆ : Keeps s₀ s₅ := h₃.frame
    have h₈ : Keeps s₀ s₇ := .ite h₆.setTimState h₆
    exact .ite (.ite (.ite h₈.stepClock.servoSlew h₈.stepClock) h₈.servoSlew) h₈
  · exact .ite h₃.servoSlew h₃

theorem Keeps.syncRx {f : Nat} {t1 corr : Int} (h : Keeps s₀ s) : Keeps s₀ (s.syncRx f t1 corr) :=
  .ite h (.ite h.psOf.wrI.wrI.frame ((Keeps.ite h.psOf.wrI.wrI.frame.setTimState h.psOf.wrI.wrI.frame).servo))

theorem Keeps.followUpRx {f : Nat} (h : Keeps s₀ s) : Keeps s₀ (s.followUpRx f) :=
  .ite h h.cnt

theorem Keeps.sendLmf {f : Nat} {m : Lmf} (h : Keeps s₀ s) : Keeps s₀ (s.sendLmf f m) :=
  .ite h.cnt h.setFib

theorem Keeps.pdelayReqRx {f seq src : Nat} (h : Keeps s₀ s) : Keeps s₀ (s.pdelayReqRx f seq src) :=
  .ite h h.sendLmf

theorem Keeps.pdelayRespRx {f seq : Nat} {corr : Int} (h : Keeps s₀ s) : Keeps s₀ (s.pdelayRespRx f seq corr) := by
  unfold State.pdelayRespRx
  split
  · exact h
  · extract_lets -merge -underBinder +onlyGivenNames x₁
    split
    · exact h
    · exact .ite h.setPtp.cnt (.ite h.setPtp.setPtp.psOf.wrI.wrI h.setPtp.setPtp.psOf.wrI)

theorem Keeps.announceRx {f gm clockClass : Nat} (h : Keeps s₀ s) : Keeps s₀ (s.announceRx f gm clockClass) :=
  .ite h h.frame

theorem Keeps.syncTx {f : Nat} (h : Keeps s₀ s) : Keeps s₀ (s.syncTx f) :=
  .ite h h.setPtp.sendLmf

theorem Keeps.pdelayTx {f : Nat} (h : Keeps s₀ s) : Keeps s₀ (s.pdelayTx f) :=
  .ite h h.setPtp.sendLmf

theorem Keeps.announceTx {f : Nat} (h : Keeps s₀ s) : Keeps s₀ (s.announceTx f) :=
  .ite h h.setPtp.sendLmf

theorem Keeps.pdelayLost {f : Nat} (h : Keeps s₀ s) : Keeps s₀ (s.pdelayLost f) := by
  unfold State.pdelayLost
  split
  · exact h
  · exact .ite h.setPtp.cnt h

theorem Keeps.syncLost (h : Keeps s₀ s) : Keeps s₀ (s.syncLost) :=
  .ite h.setTimState h

theorem Keeps.writeServed {pg off : Nat} {f : State → State} (h : Keeps s₀ s) (hf : ∀ t, Keeps s₀ t → Keeps s₀ (f t)) : Keeps s₀ (s.writeServed pg off f) :=
  .ite ((hf _ h).event) (hf _ h.event)

theorem Keeps.access {pg off : Nat} {f : State → State} (h : Keeps s₀ s) (hf : ∀ t, Keeps s₀ t → Keeps s₀ (f t)) : Keeps s₀ (s.access pg off f) := by
  unfold State.access
  split
  · exact h.refuseAccess
  · exact h.writeServed (fun _ h₁ => hf _ h₁)

theorem Keeps.clkSet (h : Keeps s₀ s) : Keeps s₀ (s.clkSet) :=
  .ite h.setClock h.frame.setClock

theorem Keeps.put {d : RegD} {w : Wr} {n i j : Nat} (h : Keeps s₀ s) : Keeps s₀ (s.put d w n i j) :=
  h.wr

theorem Keeps.coverMod {code idx o v : Nat} (h : Keeps s₀ s) : Keeps s₀ (s.coverMod code idx o v) :=
  .ite h h.frame

theorem Keeps.timPort {p : Nat} {w : Wr} (h : Keeps s₀ s) : Keeps s₀ (s.timPort p w) := by
  unfold State.timPort
  extract_lets -merge -underBinder +onlyGivenNames o₁ a₂ v₃
  split
  · exact h.wr
  · extract_lets -merge -underBinder +onlyGivenNames s₄ s₆ _ s₈ l₁₀ s₁₁ s₁₃
    have h₅ : Keeps s₀ s₄ := h.wr.put
    have h₇ : Keeps s₀ s₆ := h₅.coverMod
    have h₉ : Keeps s₀ s₈ := .ite h₇.setPtp h₇
    have h₁₂ : Keeps s₀ s₁₁ := h₉.wr.wr
    have h₁₄ : Keeps s₀ s₁₃ := .ite h₁₂.wr h₁₂
    exact .ite h₁₄.setTimState h₁₄

theorem Keeps.timCtrl {w : Wr} (h : Keeps s₀ s) : Keeps s₀ (s.timCtrl w) :=
  .ite h.put.put.put.setTimState (.ite h.put.put.put.setTimState h.put.put.put)

theorem Keeps.timRate {w : Wr} (h : Keeps s₀ s) : Keeps s₀ (s.timRate w) :=
  .ite h h.wrI

theorem Keeps.tpoCfg {n : Nat} {w : Wr} (h : Keeps s₀ s) : Keeps s₀ (s.tpoCfg n w) :=
  .ite h.put.put.put (.ite (.ite h.put.put.put.wr.wr.irq.wr.wr (.ite h.put.put.put.wr.wr h.put.put.put.wr.wr)) (.ite h.put.put.put.wr h.put.put.put))

theorem Keeps.tpoWidthEnd {n : Nat} (h : Keeps s₀ s) : Keeps s₀ (s.tpoWidthEnd n) := by
  unfold State.tpoWidthEnd
  split
  · exact h
  · exact .ite h.frame.emit h

theorem Keeps.tcapEdge {m : Nat} {rising : Bool} (h : Keeps s₀ s) : Keeps s₀ (s.tcapEdge m rising) :=
  .ite h (.ite h.cnt (.ite h.frame.cnt.irq h.frame.frame.irq))

theorem Keeps.tcapHoldEnd {m : Nat} (h : Keeps s₀ s) : Keeps s₀ (s.tcapHoldEnd m) := by
  unfold State.tcapHoldEnd
  split
  · exact h
  · exact .ite h.frame h

theorem Keeps.readTcap {m : Nat} {z : WSize} (h : Keeps s₀ s) : Keeps s₀ (s.readTcap m z).2 := by
  unfold State.readTcap
  split
  · exact h
  · exact .ite h h.frame.wr

theorem Keeps.rcClear {pg off : Nat} {z : WSize} (h : Keeps s₀ s) : Keeps s₀ (s.rcClear pg off z) := by
  unfold State.rcClear
  refine h.foldl fun _ _ h₂ => ?_
  split <;> exact .ite h₂ (.ite h₂.wr h₂.wr)

theorem Keeps.regRead {pg off : Nat} {z : WSize} (h : Keeps s₀ s) : Keeps s₀ (s.regRead pg off z).2 := by
  unfold State.regRead
  split
  · exact h.readNow
  · split
    · exact h.readTcap
    · split
      · exact h.wr
      · exact h.rcClear

theorem Keeps.refuseUnit {n : Nat} (h : Keeps s₀ s) : Keeps s₀ (s.refuseUnit n) :=
  h.wr.cnt.irq

theorem Keeps.cancelUnit {n : Nat} (h : Keeps s₀ s) : Keeps s₀ (s.cancelUnit n) :=
  .ite (.ite h.fire.setUst h.fire) h.setUst

theorem Keeps.clearArm {n : Nat} (h : Keeps s₀ s) : Keeps s₀ (s.clearArm n) :=
  h.wr.wr.wr.wr

theorem Keeps.armUnit {n : Nat} (h : Keeps s₀ s) : Keeps s₀ (s.armUnit n) :=
  h.clearArm.setUst.setCu

theorem Keeps.crnCtrlUnit {n : Nat} {arm cancel irqEn : Bool} (h : Keeps s₀ s) : Keeps s₀ (s.crnCtrlUnit n arm cancel irqEn) := by
  unfold State.crnCtrlUnit
  split
  · exact h.refuseUnit
  · exact .ite h.refuseUnit (.ite h.refuseUnit.wr (.ite ((((Keeps.ite h.cancelUnit.reDepth h).wr).armUnit).reDepth) ((Keeps.ite h.cancelUnit.reDepth h).wr)))

theorem Keeps.armEffect {n : Nat} (h : Keeps s₀ s) : Keeps s₀ (s.armEffect n) :=
  .ite (.ite h.setCu.fire.reDepth h.setCu) h

theorem Keeps.crnUnitWrite {n which : Nat} {w : Wr} (h : Keeps s₀ s) : Keeps s₀ (s.crnUnitWrite n which w) := by
  unfold State.crnUnitWrite
  split
  · exact h.refuseUnit
  · split
    · exact h.put
    · exact h.put.put
    · exact h.put
    · exact h.put
    · exact h.put.put

theorem Keeps.crnCtrlWrite {w : Wr} (h : Keeps s₀ s) : Keeps s₀ (s.crnCtrlWrite w) :=
  .ite h.cnt.irq (h.put.wr.foldl fun _ _ h₁ => h₁.wr)

theorem Keeps.cairnFire {n : Nat} (h : Keeps s₀ s) : Keeps s₀ (s.cairnFire n) :=
  .ite h.fire.reDepth h

theorem Keeps.armOwn {n cls arg t per cnt : Nat} (h : Keeps s₀ s) : Keeps s₀ (s.armOwn n cls arg t per cnt) :=
  h.wr.wr.wr.wr.wr.wr.wr.wr.armUnit.reDepth

theorem Keeps.ownWait {a : FwAction} (h : Keeps s₀ s) : Keeps s₀ (s.ownWait a) :=
  (Keeps.ite h.irq h).frame

theorem Keeps.telArm (h : Keeps s₀ s) : Keeps s₀ (s.telArm) := by
  unfold State.telArm
  split
  · exact h.armOwn.frame
  · exact h.ownWait

theorem Keeps.opxIrq {e b : Nat} (h : Keeps s₀ s) : Keeps s₀ (s.opxIrq e b) :=
  h.irq

theorem Keeps.chgStat {e st reason : Nat} (h : Keeps s₀ s) : Keeps s₀ (s.chgStat e st reason) :=
  h.wr.wr

theorem Keeps.chgRefuse {e st reason : Nat} (h : Keeps s₀ s) : Keeps s₀ (s.chgRefuse e st reason) :=
  h.chgStat.cnt.opxIrq

theorem Keeps.putChg {c : OptChg} (h : Keeps s₀ s) : Keeps s₀ (s.putChg c) :=
  h.frame

theorem Keeps.chgNotice {id f : Nat} (h : Keeps s₀ s) : Keeps s₀ (s.chgNotice id f) := by
  unfold State.chgNotice
  split
  · exact h
  · exact .ite h h.putChg.sendLmf.cnt

theorem Keeps.chgAccept {c : OptChg} (h : Keeps s₀ s) : Keeps s₀ (s.chgAccept c) :=
  h.frame.chgStat.wr.wr.foldl fun _ _ h₁ => h₁.setFib.chgNotice

theorem Keeps.ownChange {cls arg lead : Nat} (h : Keeps s₀ s) : Keeps s₀ (s.ownChange cls arg lead) := by
  unfold State.ownChange
  split
  · exact h.ownWait
  · exact .ite h.chgRefuse.wr h.chgAccept.armOwn

theorem Keeps.ownAgain {a : FwAction} (h : Keeps s₀ s) : Keeps s₀ (s.ownAgain a) :=
  .ite h.telArm h.ownChange

theorem Keeps.ownRetry (h : Keeps s₀ s) : Keeps s₀ (s.ownRetry) := by
  unfold State.ownRetry
  split
  · exact h
  · exact .ite h.frame.ownAgain h

theorem Keeps.popEff (h : Keeps s₀ s) : Keeps s₀ (s.popEff) :=
  h.frame

theorem Keeps.setResult {n : Nat} {ok : Bool} (h : Keeps s₀ s) : Keeps s₀ (s.setResult n ok) :=
  h.wr

theorem Keeps.effect {u cls : Nat} {f : CrnEff → State → State × Bool} (h : Keeps s₀ s) (hf : ∀ x0 t, Keeps s₀ t → Keeps s₀ (f x0 t).1) : Keeps s₀ (s.effect u cls f) := by
  unfold State.effect
  split
  · exact h
  · exact (hf _ _ h.popEff).setResult

theorem Keeps.tpoEdge {n : Nat} (h : Keeps s₀ s) : Keeps s₀ (s.tpoEdge n).1 := by
  unfold State.tpoEdge
  split
  · exact h
  · exact .ite h.frame.emit h.frame

theorem Keeps.commitReject {m sl reason : Nat} {cairn : Bool} (h : Keeps s₀ s) : Keeps s₀ (s.commitReject m sl reason cairn) :=
  h.cnt.wr.wr.wr.wr.wr.irq

theorem Keeps.wrLane {d : RegD} {v l : Nat} (h : Keeps s₀ s) : Keeps s₀ (s.wrLane d v l) :=
  h.wr

theorem Keeps.setLane {l v : Nat} (h : Keeps s₀ s) : Keeps s₀ (s.setLane l v) :=
  h.wrLane

theorem Keeps.stayReady {ls : List Nat} {old : State} (h : Keeps s₀ s) : Keeps s₀ (s.stayReady ls old) :=
  (h.foldl fun _ _ h₁ => .ite h₁.setLane h₁).foldl fun _ _ h₂ => .ite h₂.setFib h₂

theorem Keeps.laneNotice {l v : Nat} (h : Keeps s₀ s) : Keeps s₀ (s.laneNotice l v) :=
  .ite h.sendLmf h

theorem Keeps.forget {l : Nat} (h : Keeps s₀ s) : Keeps s₀ (s.forget l) :=
  h.setLaneX

theorem Keeps.flap {l : Nat} {free : Bool} (h : Keeps s₀ s) : Keeps s₀ (s.flap l free).2 := by
  unfold State.flap
  split
  · exact h
  · exact h.setLaneX

theorem Keeps.setCause {l v : Nat} (h : Keeps s₀ s) : Keeps s₀ (s.setCause l v) :=
  h.wrLane

theorem Keeps.lnkIrq {f b : Nat} (h : Keeps s₀ s) : Keeps s₀ (s.lnkIrq f b) :=
  h.irq

theorem Keeps.leaveOne {l cause : Nat} {off free : Bool} (h : Keeps s₀ s) : Keeps s₀ (s.leaveOne l cause off free) := by
  unfold State.leaveOne
  extract_lets was₁ s₂ s₄ r₆ s₈ s₁₀
  have h₃ : Keeps s₀ s₂ := .ite h h.laneNotice
  have h₅ : Keeps s₀ s₄ := h₃.forget
  have h₇ : Keeps s₀ r₆.2 := by
    unfold r₆
    split
    · exact h₅.flap
    · exact h₅
  have h₉ : Keeps s₀ s₈ := h₇.setCause
  have h₁₁ : Keeps s₀ s₁₀ := .ite h₉.setLane (.ite h₉.setLane.lnkIrq h₉.setLane)
  exact h₁₁.cnt.lnkIrq

theorem Keeps.startTimer {f : Nat} (h : Keeps s₀ s) : Keeps s₀ (s.startTimer f) :=
  .ite h h.setFib

theorem Keeps.answerPkt {p : Pkt} {pipe code reason : Nat} {bitmap : List Byte} (h : Keeps s₀ s) : Keeps s₀ (s.answerPkt p pipe code reason bitmap).2 :=
  h.answerRoute.frame

theorem Keeps.answer {p : Pkt} {pipe code reason : Nat} {bitmap : List Byte} (h : Keeps s₀ s) : Keeps s₀ (s.answer p pipe code reason bitmap) :=
  .ite h h.answerPkt.originate

theorem Keeps.nak {p : Pkt} {pipe reason : Nat} (h : Keeps s₀ s) : Keeps s₀ (s.nak p pipe reason) :=
  .ite h.answer h

theorem Keeps.allocFail {gddr : Bool} {n : Nat} (h : Keeps s₀ s) : Keeps s₀ (s.allocFail gddr n) :=
  h.poolFail

theorem Keeps.takeVc {lp vc n : Nat} {r : List Nat × State} (h : Keeps s₀ s) (e : s.takeVc lp vc n = some r) : Keeps s₀ r.2 := by
  unfold State.takeVc at e
  split at e
  · exact h.alloc e
  · contradiction

theorem Keeps.reroute {x : Flight} {lp : Nat} (h : Keeps s₀ s) : Keeps s₀ (s.reroute x lp).2 := by
  unfold State.reroute
  extract_lets -merge -underBinder +onlyGivenNames f₁ pipe₂ vc₃ _ p₄ lost₅
  split
  · exact h.cnt.nak
  · split
    · exact h.allocFail
    · extract_lets r₆
      have h₇ : Keeps s₀ r₆.2 := h.resolve
      split
      · split <;> exact h₇.cnt.nak
      · split
        · exact h₇.cnt.nak
        · split
          · exact h₇.allocFail
          · next _ t₈ e₉ =>
            have h₁₀ : Keeps s₀ t₈ := h₇.takeVc e₉
            exact h₁₀.enter.frame

theorem Keeps.rerouteAll {l : List Flight} (h : Keeps s₀ s) : Keeps s₀ (s.rerouteAll l) := by
  unfold State.rerouteAll
  refine h.foldl fun _ _ h₂ => ?_
  split
  · extract_lets -merge -underBinder +onlyGivenNames r₃
    have h₄ : Keeps s₀ r₃.2 := h₂.reroute
    split
    · exact h₄.frame
    · exact h₄
  · exact h₂

theorem Keeps.portDown {lp : Nat} (h : Keeps s₀ s) : Keeps s₀ (s.portDown lp) :=
  .ite h h.wr.setTx.setRx.rerouteAll

theorem Keeps.laneResend {lp : Nat} {gone : List Nat} (h : Keeps s₀ s) : Keeps s₀ (s.laneResend lp gone) := by
  unfold State.laneResend
  extract_lets t₁
  split
  · exact h
  · exact h.setTx.cnt

theorem Keeps.leave {ls : List Nat} {cause : Nat} {off free : Bool} (h : Keeps s₀ s) : Keeps s₀ (s.leave ls cause off free) :=
  ((h.foldl fun _ _ h₁ => h₁.leaveOne).foldl fun _ _ h₂ => h₂.startTimer).foldl fun _ _ h₃ => .ite h₃.portDown h₃.laneResend

theorem Keeps.rejoin {l : Nat} (h : Keeps s₀ s) : Keeps s₀ (s.rejoin l) :=
  .ite h.laneNotice.setLaneX h

theorem Keeps.joinReady {ls : List Nat} (h : Keeps s₀ s) : Keeps s₀ (s.joinReady ls) :=
  h.foldl fun _ _ h₁ => .ite h₁.rejoin h₁

theorem Keeps.unstage {g : Nat} (h : Keeps s₀ s) : Keeps s₀ (s.unstage g) :=
  h.frame

theorem Keeps.commitMap (h : Keeps s₀ s) : Keeps s₀ (s.commitMap) :=
  ((h.leave.stayReady.foldl fun _ _ h₁ => .ite h₁ h₁.wr.wr.mend.coverMod).unstage).joinReady

theorem Keeps.platPut {f w v : Nat} (h : Keeps s₀ s) : Keeps s₀ (s.platPut f w v) :=
  h.coverMod.foldl fun _ _ h₁ => h₁.wr

theorem Keeps.leaveExpected {f : Nat} (h : Keeps s₀ s) : Keeps s₀ (s.leaveExpected f) :=
  (h.foldl fun _ _ h₁ => (Keeps.ite h₁.setLane h₁).forget).foldl fun _ _ h₂ => h₂.portDown

theorem Keeps.sendTrvState {f : Nat} {echo : Option Nat} (h : Keeps s₀ s) : Keeps s₀ (s.sendTrvState f echo) := by
  unfold State.sendTrvState
  split
  · exact h
  · split
    · exact h.sendLmf
    · exact h.frame.sendLmf

theorem Keeps.noticeRx {l v : Nat} (h : Keeps s₀ s) : Keeps s₀ (s.noticeRx l v) :=
  .ite h.setLaneX.leave h.setLaneX

theorem Keeps.becomeExpected {f : Nat} (h : Keeps s₀ s) : Keeps s₀ (s.becomeExpected f) := by
  unfold State.becomeExpected
  extract_lets s₄ s₇
  have h₅ : Keeps s₀ s₄ := h.foldl fun _ _ h₆ => h₆.setLaneX
  have h₈ : Keeps s₀ s₇ := h₅.foldl fun _ _ h₉ => .ite h₉.rejoin h₉
  refine h₈.foldl fun _ _ h₁₁ => ?_
  split
  · exact h₁₁
  · exact .ite h₁₁.setLaneX.noticeRx h₁₁.setLaneX

theorem Keeps.setTrv {f v minor : Nat} (h : Keeps s₀ s) : Keeps s₀ (s.setTrv f v minor) := by
  unfold State.setTrv
  extract_lets -merge -underBinder +onlyGivenNames old₁
  split
  · exact .ite h.wr h
  · extract_lets s₂ s₄ s₆ s₈ s₁₀ s₁₂ s₁₄
    have h₃ : Keeps s₀ s₂ := h.wr
    have h₅ : Keeps s₀ s₄ := .ite h₃.wr h₃
    have h₇ : Keeps s₀ s₆ := h₅.irq
    have h₉ : Keeps s₀ s₈ := .ite h₇.irq (.ite h₇.irq (.ite h₇.irq (.ite h₇.irq h₇)))
    have h₁₁ : Keeps s₀ s₁₀ := .ite h₉.cnt h₉
    have h₁₃ : Keeps s₀ s₁₂ := .ite h₁₁.leaveExpected h₁₁
    have h₁₅ : Keeps s₀ s₁₄ := .ite h₁₃ h₁₃.sendTrvState
    exact .ite h₁₅.becomeExpected h₁₅

theorem Keeps.setPartner {f : Nat} {g : Option Nat} (h : Keeps s₀ s) : Keeps s₀ (s.setPartner f g) := by
  unfold State.setPartner
  split <;> exact h.wr.wr

theorem Keeps.cross {f g : Nat} (h : Keeps s₀ s) : Keeps s₀ (s.cross f g) :=
  h.setPartner.setPartner.setTrv.setTrv

theorem Keeps.evalFibre {f : Nat} (h : Keeps s₀ s) : Keeps s₀ (s.evalFibre f) := by
  unfold State.evalFibre
  split
  · exact h
  · split
    · exact h.setPartner.setTrv
    · split
      · exact h.setPartner.irq.setTrv
      · split
        · exact h.setPartner.setTrv
        · split
          · exact h.setPartner.setTrv
          · split
            · exact h.setPartner.irq.setTrv
            · extract_lets l₁
              split
              · exact h.cross
              · exact h.setPartner.setTrv

theorem Keeps.commitPlat (h : Keeps s₀ s) : Keeps s₀ (s.commitPlat) :=
  ((((h.foldl fun _ _ h₁ => h₁.foldl fun _ _ h₂ => h₂.platPut.mend).coverMod).wr).unstage).foldl fun _ _ h₃ => h₃.evalFibre

theorem Keeps.commitPermit (h : Keeps s₀ s) : Keeps s₀ (s.commitPermit) :=
  (h.foldl fun _ _ h₁ => .ite h₁ h₁.coverMod.wr.mend).unstage

theorem Keeps.commitParts (h : Keeps s₀ s) : Keeps s₀ (s.commitParts) := by
  unfold State.commitParts
  extract_lets moved₅ word₆ put₇ t₈ t₁₁ t₁₃
  have h₉ : Keeps s₀ t₈ := h.foldl fun _ _ h₁₀ => h₁₀.wr.coverMod.wr.coverMod
  have h₁₂ : Keeps s₀ t₁₁ := .ite h₉.wr h₉
  have h₁₄ : Keeps s₀ t₁₃ := .ite h₁₂.wr h₁₂
  exact h₁₄.unstage

theorem Keeps.commitGroup {g : Nat} (h : Keeps s₀ s) : Keeps s₀ (s.commitGroup g) := by
  unfold State.commitGroup
  split
  · exact h.commitMap
  · exact h.commitPlat
  · exact h.commitPermit
  · exact h.commitParts

theorem Keeps.commit {m par : Nat} {cairn : Bool} (h : Keeps s₀ s) : Keeps s₀ (s.commit m par cairn).2 := by
  unfold State.commit
  extract_lets -merge -underBinder +onlyGivenNames why₁
  split
  · exact (Keeps.ite (h.foldl fun _ _ h₂ => .ite h₂.irq h₂) h).commitReject
  · exact ((((((h.foldl fun _ _ h₃ => h₃.commitGroup).wr).wr).wr).cnt).frame).irq

theorem Keeps.sliceGrace {sl : Nat} (h : Keeps s₀ s) : Keeps s₀ (s.sliceGrace sl) :=
  h.frame

theorem Keeps.tableFlip {sl : Nat} (h : Keeps s₀ s) : Keeps s₀ (s.tableFlip sl).1 := by
  unfold State.tableFlip
  split
  · exact h.wr.irq
  · split
    · exact h
    · exact h.wr.wr.frame.sliceGrace

theorem Keeps.coverSl {sl code idx o v : Nat} (h : Keeps s₀ s) : Keeps s₀ (s.coverSl sl code idx o v) :=
  .ite h h.frame

theorem Keeps.applyBit {sl t lp code : Nat} (h : Keeps s₀ s) : Keeps s₀ (s.applyBit sl t lp code) :=
  .ite h h.coverSl.frame.tset.mend

theorem Keeps.applyDiff {sl t idx w code i : Nat} {covered : Bool} (h : Keeps s₀ s) : Keeps s₀ (s.applyDiff sl t idx w code i covered) :=
  .ite h ((((Keeps.ite h.coverSl h).frame).tset).mend)

theorem Keeps.applySlice {sl : Nat} (h : Keeps s₀ s) : Keeps s₀ (s.applySlice sl) :=
  (((h.foldl fun _ _ h₁ => h₁.applyBit.applyBit).applyDiff).applyDiff).foldl fun _ _ h₂ => h₂.applyDiff

theorem Keeps.setSliceState {sl v : Nat} (h : Keeps s₀ s) : Keeps s₀ (s.setSliceState sl v) :=
  h.tset

theorem Keeps.sliceCommit {sl : Nat} {cairn : Bool} (h : Keeps s₀ s) : Keeps s₀ (s.sliceCommit sl cairn).1 := by
  unfold State.sliceCommit
  extract_lets -merge -underBinder +onlyGivenNames st₁
  split
  · exact h.commitReject
  · exact (((Keeps.ite h.applySlice.wr.setSliceState h.applySlice).tset).sliceGrace).irq

theorem Keeps.setGate {lp : Nat} {g : Gate} (h : Keeps s₀ s) : Keeps s₀ (s.setGate lp g) :=
  h.frame

theorem Keeps.gateSwap {lp b : Nat} (h : Keeps s₀ s) : Keeps s₀ (s.gateSwap lp b).1 := by
  unfold State.gateSwap
  split
  · exact h
  · extract_lets l₁ fin₂ s₃ l₅
    have h₄ : Keeps s₀ s₃ := h.setGate
    split
    · exact .ite h₄.cnt h₄
    · exact h₄

theorem Keeps.bypIrq {b : Nat} (h : Keeps s₀ s) : Keeps s₀ (s.bypIrq b) :=
  h.irq

theorem Keeps.setPending {i : Nat} {on isSet : Bool} (h : Keeps s₀ s) : Keeps s₀ (s.setPending i on isSet) :=
  h.wr.wr

theorem Keeps.putPrep {p : BypPrep} (h : Keeps s₀ s) : Keeps s₀ (s.putPrep p) :=
  h.frame

theorem Keeps.clearInputs {f : Nat} (h : Keeps s₀ s) : Keeps s₀ (s.clearInputs f) :=
  h.frame

theorem Keeps.bar {f : Nat} {on : Bool} (h : Keeps s₀ s) : Keeps s₀ (s.bar f on) :=
  h.frame

theorem Keeps.setByp {f v : Nat} (h : Keeps s₀ s) : Keeps s₀ (s.setByp f v) :=
  h.wr

theorem Keeps.enterBypass {f : Nat} (h : Keeps s₀ s) : Keeps s₀ (s.enterBypass f) :=
  .ite h ((((h.cnt.setByp.bar.clearInputs.leave.foldl fun _ _ h₁ => .ite h₁ h₁.setLane.setCause).foldl fun _ _ h₂ => .ite h₂.setRing h₂).setPtp).setTrv)

theorem Keeps.bypNormal {f : Nat} (h : Keeps s₀ s) : Keeps s₀ (s.bypNormal f) :=
  h.setByp.bar

theorem Keeps.toTrain {l : Nat} (h : Keeps s₀ s) : Keeps s₀ (s.toTrain l) :=
  h.setLane.startTimer

theorem Keeps.lookRings {l : Nat} (h : Keeps s₀ s) : Keeps s₀ (s.lookRings l) :=
  .ite h.setLaneX.setLaneX.toTrain h.setLaneX

theorem Keeps.lockLane {l : Nat} (h : Keeps s₀ s) : Keeps s₀ (s.lockLane l) :=
  h.setRing.setRing

theorem Keeps.leaveBypass {f : Nat} (h : Keeps s₀ s) : Keeps s₀ (s.leaveBypass f) := by
  unfold State.leaveBypass
  extract_lets s₂ s₄
  have h₃ : Keeps s₀ s₂ := h.bypNormal
  have h₅ : Keeps s₀ s₄ := h₃.foldl fun _ _ h₆ => .ite ((Keeps.ite h₆.lockLane h₆).lookRings) (.ite (((Keeps.ite h₆.lockLane h₆).lookRings).setCause) (((Keeps.ite h₆.lockLane h₆).lookRings).toTrain))
  exact h₅.setTrv

theorem Keeps.delPrep {p : BypPrep} (h : Keeps s₀ s) : Keeps s₀ (s.delPrep p) :=
  h.frame

theorem Keeps.bypassSet {i o : Nat} {set : Bool} (h : Keeps s₀ s) : Keeps s₀ (s.bypassSet i o set).1 := by
  have hrej : Keeps s₀ ((s.cnt BYP_REJECT_count).bypIrq 3) := h.cnt.bypIrq
  unfold State.bypassSet
  split
  · exact hrej
  next p _ =>
  split
  · exact hrej
  extract_lets s₁ s₂ s₃ s₄
  have h₁ : Keeps s₀ s₁ := h.putPrep.setPending
  split
  · dsimp only
    exact h₁.wr.wr.mend.enterBypass.enterBypass.cnt
  · have h₄ : Keeps s₀ s₄ := h₁.wr.wr.cnt.foldl fun _ _ ht => .ite ht ht.leaveBypass
    exact .ite h₄.delPrep.bypIrq h₄

theorem Keeps.combChange {e comb : Nat} (h : Keeps s₀ s) : Keeps s₀ (s.combChange e comb).1 := by
  unfold State.combChange
  split
  · exact h.chgRefuse
  · split
    · exact h.chgRefuse
    · exact h.putChg

theorem Keeps.lineMigrate {f line : Nat} (h : Keeps s₀ s) : Keeps s₀ (s.lineMigrate f line).1 := by
  unfold State.lineMigrate
  split
  · exact h.chgRefuse
  · split
    · exact h.chgRefuse
    · exact h.putChg

theorem Keeps.kernelAbsent {c : Nat} (h : Keeps s₀ s) : Keeps s₀ (s.kernelAbsent c) :=
  h.cnt.wr.wr.wr.wr

theorem Keeps.ctxPut {c w v : Nat} (h : Keeps s₀ s) : Keeps s₀ (s.ctxPut c w v) :=
  h.coverSl.tset

theorem Keeps.setNorms {l : List NormSlot} (h : Keeps s₀ s) : Keeps s₀ (s.setNorms l) :=
  h.frame.wr

theorem Keeps.setNorm {x : NormSlot} (h : Keeps s₀ s) : Keeps s₀ (s.setNorm x) :=
  h.frame

theorem Keeps.claimNorm {x : NormSlot} (h : Keeps s₀ s) : Keeps s₀ (s.claimNorm x) :=
  h.setNorms

theorem Keeps.takeRound {c : Nat} (h : Keeps s₀ s) : Keeps s₀ (s.takeRound c) := by
  unfold State.takeRound
  extract_lets n₁ r₂ st₃ s₄ other₆ late₇ s₈ s₁₀ x₁₂
  have h₅ : Keeps s₀ s₄ := h.wr
  have h₉ : Keeps s₀ s₈ := h₅.setNorms
  have h₁₁ : Keeps s₀ s₁₀ := .ite h₉ h₉.cnt
  split
  · exact h₁₁.setNorm
  · exact h₁₁.claimNorm

theorem Keeps.startConvoy {c : Nat} (h : Keeps s₀ s) : Keeps s₀ (s.startConvoy c).2 := by
  unfold State.startConvoy
  split
  · exact h
  · extract_lets -merge -underBinder +onlyGivenNames ok₁
    split
    · exact h.kernelAbsent
    · split
      · exact h.cnt.wr.wr.wr
      · exact .ite h.ctxPut.ctxPut.takeRound h.ctxPut.ctxPut

theorem Keeps.sweepRecords {c : Nat} (h : Keeps s₀ s) : Keeps s₀ (s.sweepRecords c) :=
  h.frame

theorem Keeps.advance {c f : Nat} (h : Keeps s₀ s) : Keeps s₀ (s.advance c f) := by
  induction f generalizing s with
  | zero => exact h.sweepRecords
  | succ f ih =>
    unfold State.advance
    split
    · exact h.sweepRecords
    · split
      · exact h.ctxPut.ctxPut.sweepRecords.irq
      · split
        · split
          · exact ih h.ctxPut
          · exact h.sweepRecords
        · exact h.sweepRecords

theorem Keeps.finish {c : Nat} (h : Keeps s₀ s) : Keeps s₀ (s.finish c) :=
  h.advance

theorem Keeps.doubleFree {p i : Nat} (h : Keeps s₀ s) : Keeps s₀ (s.doubleFree p i) :=
  h.cnt.wr.wr.wr.irq

theorem Keeps.freeBuf {p i : Nat} (h : Keeps s₀ s) : Keeps s₀ (s.freeBuf p i) :=
  .ite h.setFree.frame h.doubleFree

theorem Keeps.giveRetain {i : Nat} (h : Keeps s₀ s) : Keeps s₀ (s.giveRetain i) :=
  h.freeBuf

theorem Keeps.setChunk {k : Chunk} (h : Keeps s₀ s) : Keeps s₀ (s.setChunk k) :=
  h.frame

theorem Keeps.freeRetained {k : Chunk} (h : Keeps s₀ s) : Keeps s₀ (s.freeRetained k) := by
  unfold State.freeRetained
  split
  · exact h
  · exact (h.frame.foldl fun _ _ h₁ => h₁.giveRetain).setChunk

theorem Keeps.takeHeld {k : Chunk} (h : Keeps s₀ s) : Keeps s₀ (s.takeHeld k).2 :=
  h.frame.setChunk

theorem Keeps.ledgerFault {n : Nat} (h : Keeps s₀ s) : Keeps s₀ (s.ledgerFault n) :=
  h.wr.irq

theorem Keeps.stepFault {c chunk reason : Nat} (h : Keeps s₀ s) : Keeps s₀ (s.stepFault c chunk reason) := by
  unfold State.stepFault
  extract_lets s₁
  have h₂ : Keeps s₀ s₁ := h.wr.wr.wr.wr.irq
  split
  · exact .ite h₂.ledgerFault h₂
  · exact .ite h₂ (.ite (.ite h₂.cnt h₂) (.ite h₂.ledgerFault h₂))

theorem Keeps.reserveMiss {p : Pkt} {pipe : Nat} {quiet : Bool} (h : Keeps s₀ s) : Keeps s₀ (s.reserveMiss p pipe quiet) :=
  .ite h.cnt.answer.stepFault h.cnt.answer

theorem Keeps.missHeld {k : Chunk} {quiet : Bool} (h : Keeps s₀ s) : Keeps s₀ (s.missHeld k quiet) :=
  h.takeHeld.foldl fun _ _ h₁ => h₁.reserveMiss

theorem Keeps.release {k : Chunk} {flip quiet : Bool} (h : Keeps s₀ s) : Keeps s₀ (s.release k flip quiet) :=
  .ite h h.freeRetained.setChunk.missHeld

theorem Keeps.releaseStep {n : Nat} {only : Option Nat} (h : Keeps s₀ s) : Keeps s₀ (s.releaseStep n only) :=
  h.foldl fun _ _ h₁ => h₁.release.finish

theorem Keeps.loadParam {n : Nat} (h : Keeps s₀ s) : Keeps s₀ (s.loadParam n) :=
  h.foldl fun _ _ h₁ => h₁.wr

theorem Keeps.setCovered {n : Nat} {l : List Nat} (h : Keeps s₀ s) : Keeps s₀ (s.setCovered n l) :=
  h.frame.wr

theorem Keeps.showPoison (h : Keeps s₀ s) : Keeps s₀ (s.showPoison) :=
  h.wr

theorem Keeps.poisonGood {w : Nat} (h : Keeps s₀ s) : Keeps s₀ (s.poisonGood w) :=
  .ite h.frameMem.showPoison h

theorem Keeps.setByte {a : Nat} {b : Byte} (h : Keeps s₀ s) : Keeps s₀ (s.setByte a b) :=
  ⟨h.queue, h.clock, fun hs => s.setByte_wf a b (h.memory hs)⟩

theorem Keeps.setWord {w v syn : Nat} (h : Keeps s₀ s) : Keeps s₀ (s.setWord w v syn) := by
  unfold State.setWord
  extract_lets -merge -underBinder +onlyGivenNames s₂
  have h₃ : Keeps s₀ s₂ := by
    unfold s₂
    refine h.foldl fun _ _ h₆ => ?_
    split <;> exact h₆.setByte
  exact h₃.frameMem

theorem Keeps.fillEvent {g : Nat} (h : Keeps s₀ s) : Keeps s₀ (s.fillEvent g) :=
  h.foldl fun _ _ h₁ => h₁.event

theorem Keeps.granFill {w : Nat} (h : Keeps s₀ s) : Keeps s₀ (s.granFill w) :=
  .ite h h.frameMem.fillEvent.cnt

theorem Keeps.writeWord {w v : Nat} (h : Keeps s₀ s) : Keeps s₀ (s.writeWord w v) :=
  h.granFill.setWord.poisonGood

theorem Keeps.clearCover {n : Nat} (h : Keeps s₀ s) : Keeps s₀ (s.clearCover n) :=
  .ite h.setCovered (h.setCovered.foldl fun _ _ h₁ => h₁.writeWord)

theorem Keeps.setCore {p : Nat} {x : SCore} (h : Keeps s₀ s) : Keeps s₀ (s.setCore p x) :=
  .ite h.frame.frame h.frame

theorem Keeps.dropLines {n b : Nat} (h : Keeps s₀ s) : Keeps s₀ (s.dropLines n b) :=
  h.foldl fun _ _ h₁ => .ite h₁ (.ite h₁.setCore h₁.setCore.cnt)

theorem Keeps.freeNorms {n : Nat} {all : Bool} (h : Keeps s₀ s) : Keeps s₀ (s.freeNorms n all) :=
  h.setNorms

theorem Keeps.flip {n : Nat} (h : Keeps s₀ s) : Keeps s₀ (s.flip n).1 := by
  unfold State.flip
  split
  · exact h.wr.wr.wr.wr.cnt.irq
  · exact h.wr.wr.loadParam.releaseStep.clearCover.wr.wr.wr.freeNorms.dropLines.cnt.irq

theorem Keeps.pwrRefuse {pg req reason : Nat} (h : Keeps s₀ s) : Keeps s₀ (s.pwrRefuse pg req reason) :=
  h.cnt.wr.wr.wr.wr

theorem Keeps.noWake {f : Nat} (h : Keeps s₀ s) : Keeps s₀ (s.noWake f) :=
  h.frame

theorem Keeps.fillEnd {f : Nat} {c : Option Nat} (h : Keeps s₀ s) : Keeps s₀ (s.fillEnd f c) :=
  h.foldl fun _ _ h₁ => h₁.setLaneX

theorem Keeps.darkFibre {f : Nat} (h : Keeps s₀ s) : Keeps s₀ (s.darkFibre f) :=
  h.leave.foldl fun _ _ h₁ => .ite h₁.setLane.setCause h₁

theorem Keeps.refit {e : Nat} (h : Keeps s₀ s) : Keeps s₀ (s.refit e) :=
  h.wr

theorem Keeps.engineOff {e : Nat} (h : Keeps s₀ s) : Keeps s₀ (s.engineOff e) :=
  ((((h.foldl fun _ _ h₁ => h₁.darkFibre.fillEnd.ringsOff.noWake.wr).foldl fun _ _ h₂ => h₂.wr).frame).wr).refit

theorem Keeps.fibreIdle {f : Nat} (h : Keeps s₀ s) : Keeps s₀ (s.fibreIdle f) :=
  .ite h (.ite (.ite h (.ite h.noWake.setFibre h.darkFibre.fillEnd)) (.ite h.wakeFibre (.ite h.fillEnd.setFibre.frame h)))

theorem Keeps.engineReq {e v : Nat} (h : Keeps s₀ s) : Keeps s₀ (s.engineReq e v) :=
  .ite (.ite h.wr h.wr.engineOff) (.ite (.ite h.wr h.wr.frame) (h.wr.foldl fun _ _ h₁ => h₁.fibreIdle))

theorem Keeps.setImem {p : Nat} {l : List Nat} (h : Keeps s₀ s) : Keeps s₀ (s.setImem p l) :=
  h.setCore.wr.wr

theorem Keeps.coreReq {p v : Nat} (h : Keeps s₀ s) : Keeps s₀ (s.coreReq p v) :=
  .ite h.wr.frame.setCore.setImem.wr (.ite h.wr.wakeCore (.ite h.wr.wakeCore h.wr))

theorem Keeps.pwrReq {pg v : Nat} (h : Keeps s₀ s) : Keeps s₀ (s.pwrReq pg v).1 := by
  unfold State.pwrReq
  extract_lets no yes
  have hno : ∀ r, Keeps s₀ (no r).1 := fun _ => h.pwrRefuse.irq
  have hyes : ∀ t, Keeps s₀ t → Keeps s₀ (yes t).1 := by
    intro t ht
    unfold yes
    dsimp only
    exact ht.reDepth
  clear_value yes no
  split
  · exact h
  split
  · exact h
  split
  · exact hno 1
  split
  · exact hyes _ h.engineReq
  split
  · split
    · exact hno 2
    · exact hyes _ h.coreReq
  split
  · split
    · exact hno 1
    · split
      · exact hno 3
      · exact hyes _ h.wr.wr
  split
  · exact hyes _ h
  · exact hno 1

theorem Keeps.powerState {pg v : Nat} (h : Keeps s₀ s) : Keeps s₀ (s.powerState pg v).1 := by
  unfold State.powerState
  split
  · split
    · exact h.frame
    · exact h.pwrReq
  · exact h.pwrReq

theorem Keeps.telUnits {n : Nat} {hdr rest : List Byte} (h : Keeps s₀ s) : Keeps s₀ (s.telUnits n hdr rest) :=
  .ite ((((Keeps.ite h h.emit).emit).wr).irq) (((Keeps.ite h h.emit).emit).wr)

theorem Keeps.telEntry {typ n : Nat} {ws : List Nat} {rest : List Byte} (h : Keeps s₀ s) : Keeps s₀ (s.telEntry typ n ws rest).2 := by
  unfold State.telEntry
  extract_lets -merge -underBinder +onlyGivenNames pos₁ pad₂
  split
  · exact h.frame.cnt.irq
  · exact (((Keeps.ite h h.telUnits).frame).telUnits).event

theorem Keeps.snapshot (h : Keeps s₀ s) : Keeps s₀ (s.snapshot).1 := by
  unfold State.snapshot
  split
  · exact h
  · split
    · exact h
    · exact .ite h.frame.telEntry.cnt.frame h.frame.telEntry

theorem Keeps.srefAccess (h : Keeps s₀ s) : Keeps s₀ (s.srefAccess) :=
  h.cnt

theorem Keeps.ceSeen {w syn : Nat} (h : Keeps s₀ s) : Keeps s₀ (s.ceSeen w syn) :=
  .ite h.cnt.wr.wr.wr.frameMem.frameMem.irq h.cnt.wr.wr.wr.frameMem

theorem Keeps.poisonLine {line : Nat} (h : Keeps s₀ s) : Keeps s₀ (s.poisonLine line) :=
  .ite h (.ite h.wr h.frameMem.showPoison)

theorem Keeps.ueSeen {w syn : Nat} (h : Keeps s₀ s) : Keeps s₀ (s.ueSeen w syn) :=
  h.cnt.wr.wr.wr.irq.poisonLine

theorem Keeps.readWord {w : Nat} (h : Keeps s₀ s) : Keeps s₀ (s.readWord w).2 := by
  unfold State.readWord
  split
  · exact h
  · extract_lets syn₁ r₂
    split
    · exact h
    · exact h.ceSeen
    · exact h.cnt
    · exact h.ueSeen

theorem Keeps.readEvent {a n cls : Nat} (h : Keeps s₀ s) : Keeps s₀ (s.readEvent a n cls) :=
  .ite h (h.foldl fun _ _ h₁ => .ite h₁.event h₁)

theorem Keeps.readWords {w n cls : Nat} (h : Keeps s₀ s) : Keeps s₀ (s.readWords w n cls).2 := by
  unfold State.readWords
  split
  · exact h.srefAccess
  · exact Keeps.foldl_snd (r := ([], _)) h.readEvent fun _ _ h₁ => h₁.readWord

theorem Keeps.unspill {x : Flight} {b off : Nat} (h : Keeps s₀ s) : Keeps s₀ (s.unspill x b off).2 := by
  unfold State.unspill
  extract_lets -merge -underBinder +onlyGivenNames n₁ a₂ r₃ bs₅
  have h₄ : Keeps s₀ r₃.2 := h.readWords
  split <;> exact h₄

theorem Keeps.setChain {q : Nat} {l : List SpillBuf} (h : Keeps s₀ s) : Keeps s₀ (s.setChain q l) :=
  h.frame

theorem Keeps.freeBufs {p : Nat} {l : List Nat} (h : Keeps s₀ s) : Keeps s₀ (s.freeBufs p l) :=
  h.foldl fun _ _ h₁ => h₁.freeBuf

theorem Keeps.unchain {q b : Nat} (h : Keeps s₀ s) : Keeps s₀ (s.unchain q b) :=
  h.setChain.freeBufs

theorem Keeps.giveCredit {x : Flight} (h : Keeps s₀ s) : Keeps s₀ (s.giveCredit x) := by
  unfold State.giveCredit
  split
  · exact h.returnCredit
  · exact h

theorem Keeps.dropFlight {x : Flight} (h : Keeps s₀ s) : Keeps s₀ (s.dropFlight x) :=
  .ite h.frame.freeBufs.giveCredit h.frame.freeBufs

theorem Keeps.requeue {x : Flight} (h : Keeps s₀ s) : Keeps s₀ (s.requeue x) := by
  unfold State.requeue
  extract_lets r₁ s₃
  have h₂ : Keeps s₀ r₁.2 := by
    unfold r₁
    split
    · exact h.unspill.unchain
    · exact h
  have h₄ : Keeps s₀ s₃ := h₂.dropFlight
  split
  · exact h₄.cnt
  · exact h₄.cnt.rerouteAll

theorem Keeps.quietPoint {p : BypPrep} (h : Keeps s₀ s) : Keeps s₀ (s.quietPoint p) :=
  (h.putPrep.foldl fun _ _ h₁ => h₁.setByp).foldl fun _ _ h₂ => h₂.requeue

theorem Keeps.fwNotice {u code : Nat} (h : Keeps s₀ s) : Keeps s₀ (s.fwNotice u code).1 := by
  unfold State.fwNotice
  extract_lets s₁
  have h₂ : Keeps s₀ s₁ := h.emit
  split
  · exact h₂.quietPoint
  · exact h₂

theorem Keeps.sendPortLmf {lp typ : Nat} {body : List Nat} (h : Keeps s₀ s) : Keeps s₀ (s.sendPortLmf lp typ body) := by
  unfold State.sendPortLmf
  split
  · exact h
  · exact h.sendLmf

theorem Keeps.askReplay {lp : Nat} (h : Keeps s₀ s) : Keeps s₀ (s.askReplay lp) := by
  unfold State.askReplay
  exact h.setRx.sendPortLmf

theorem Keeps.cutShort {lp : Nat} (h : Keeps s₀ s) : Keeps s₀ (s.cutShort lp) :=
  .ite h.cnt.askReplay h.cnt

theorem Keeps.fecCount {l : Nat} {w : Option (Nat × Bool)} (h : Keeps s₀ s) : Keeps s₀ (s.fecCount l w) := by
  unfold State.fecCount
  split
  · exact h
  · exact h.cnt.event
  · exact .ite h.cnt h.cnt.setLaneX

theorem Keeps.rxCw {lp seq : Nat} {c : RxCw} (h : Keeps s₀ s) : Keeps s₀ (s.rxCw lp seq c) := by
  unfold State.rxCw
  extract_lets -merge -underBinder +onlyGivenNames l₁
  split
  · exact h
  · extract_lets -merge -underBinder +onlyGivenNames w₂ s₃
    have h₄ : Keeps s₀ s₃ := h.fecCount
    clear_value *
    split
    · exact h₄
    · exact .ite h₄ h₄.setRx

theorem Keeps.linkRx {lp : Nat} {r : RxPkt} (h : Keeps s₀ s) : Keeps s₀ (s.linkRx lp r).2 := by
  unfold State.linkRx
  extract_lets f s₁ x s₂
  have h₁ : Keeps s₀ s₁ := h.foldl fun _ _ ht => ht.rxCw
  have h₂ : Keeps s₀ s₂ := h₁.setRx
  clear_value s₂
  split
  · exact .ite h₂.askReplay h₂
  extract_lets s₃
  have h₃ : Keeps s₀ s₃ := h₂.setRx
  clear_value s₃
  split
  · exact h₃
  split
  · split
    · exact h₃
    · dsimp only
      exact h₃.cnt.askReplay
  split
  · dsimp only
    exact h₃.askReplay
  · exact h₃.setRx

theorem Keeps.spoil {l : List Nat} (h : Keeps s₀ s) : Keeps s₀ (s.spoil l) :=
  h.frame

theorem Keeps.admits {t pipe lp sl : Nat} (h : Keeps s₀ s) : Keeps s₀ (s.admits t pipe lp sl).2 := by
  unfold State.admits
  extract_lets idx₁
  split
  · exact h
  · split
    · exact h.parityErr
    · exact h

theorem Keeps.learn {pipe lp ep sl : Nat} (h : Keeps s₀ s) : Keeps s₀ (s.learn pipe lp ep sl) := by
  unfold State.learn
  split
  · exact h
  · split
    · exact .ite h h.retPut.cnt
    · split
      · exact h.retPut.cnt
      · exact h.cnt

theorem Keeps.setBc {l : List BcEnt} (h : Keeps s₀ s) : Keeps s₀ (s.setBc l) :=
  h.frame.wr

theorem Keeps.putBc {e : BcEnt} (h : Keeps s₀ s) : Keeps s₀ (s.putBc e) :=
  h.setBc

theorem Keeps.bcAck {p : Pkt} {pipe : Nat} {par : Option Nat} (h : Keeps s₀ s) : Keeps s₀ (s.bcAck p pipe par) := by
  unfold State.bcAck
  extract_lets f₁ q₃
  have h₂ : Keeps s₀ f₁.2 := h.frame
  split
  · exact h₂.answerRoute.originate
  · exact h₂.originate

theorem Keeps.sendReport {q : Pkt} {pipe : Nat} (h : Keeps s₀ s) : Keeps s₀ (s.sendReport q pipe) :=
  .ite h.originate.frame h.originate

theorem Keeps.bcClose {e : BcEnt} (h : Keeps s₀ s) : Keeps s₀ (s.bcClose e) := by
  unfold State.bcClose
  extract_lets -merge -underBinder +onlyGivenNames late₄ miss₅ s₆ s₈ s₁₀
  have h₇ : Keeps s₀ s₆ := h.putBc
  have h₉ : Keeps s₀ s₈ := .ite h₇ h₇.cnt
  have h₁₁ : Keeps s₀ s₁₀ := h₉.foldl fun _ _ h₁₂ => h₁₂.bcAck
  exact .ite h₁₁ (.ite h₁₁.answerPkt.sendReport.cnt.wr.wr.wr.wr.wr h₁₁.answerPkt.sendReport.cnt.wr.wr.wr.wr.wr.irq)

theorem Keeps.bcCheck {e : BcEnt} (h : Keeps s₀ s) : Keeps s₀ (s.bcCheck e) :=
  .ite h.bcClose h

theorem Keeps.bcAckRx {e : BcEnt} {p : Pkt} {lp : Nat} (h : Keeps s₀ s) : Keeps s₀ (s.bcAckRx e p lp) :=
  .ite h.cnt (.ite h.putBc.bcCheck h.cnt)

theorem Keeps.police {p : Pkt} (h : Keeps s₀ s) : Keeps s₀ (s.police p).2 := by
  unfold State.police
  extract_lets -merge -underBinder +onlyGivenNames i₁
  split
  · exact h.cnt.irq
  · extract_lets -merge -underBinder +onlyGivenNames w0₂ w1₃
    split
    · exact h
    · extract_lets -merge -underBinder +onlyGivenNames r₄ _ s₅
      have h₆ : Keeps s₀ s₅ := h.frame
      split
      · exact h₆.cnt
      · exact h₆

theorem Keeps.pipeline {lp pipe vc : Nat} {p : Pkt} {bufs : List Nat} (h : Keeps s₀ s) : Keeps s₀ (s.pipeline lp pipe vc p bufs) := by
  unfold State.pipeline
  extract_lets -merge -underBinder +onlyGivenNames n₁ drop₂ a₃ s₅
  have h₄ : Keeps s₀ a₃.2 := h.admits
  have h₆ : Keeps s₀ s₅ := h₄
  split
  · exact h₆.cnt.freeBufs.returnCredit.nak
  · extract_lets -merge -underBinder +onlyGivenNames cur₇ fromEnd₈
    split
    · exact h₆.cnt.freeBufs.returnCredit.nak
    · extract_lets -merge -underBinder +onlyGivenNames p₉ s₁₀
      have h₁₁ : Keeps s₀ s₁₀ := h₆.learn
      split
      · exact h₁₁.freeBufs.returnCredit.bcAckRx
      · extract_lets r₁₂
        have h₁₃ : Keeps s₀ r₁₂.2 := h₁₁.resolve
        split
        · exact h₁₃.cnt.freeBufs.returnCredit.nak
        · extract_lets g₁₄
          have h₁₅ : Keeps s₀ g₁₄.2 := h₁₃.police
          split
          · exact h₁₅.freeBufs.returnCredit
          · exact h₁₅.enter

theorem Keeps.accepted {lp : Nat} {r : RxPkt} {raw : List Byte} (h : Keeps s₀ s) : Keeps s₀ (s.accepted lp r raw) := by
  unfold State.accepted
  extract_lets pipe₁ p₂ n₃ vc₄ x₅ got₆ s₇ s₉
  have h₈ : Keeps s₀ s₇ := .ite h.cnt h
  have h₁₀ : Keeps s₀ s₉ := h₈.setRx
  split
  · exact h₁₀.allocFail.returnCredit
  · next _ t₁₁ e₁₂ =>
    have h₁₃ : Keeps s₀ t₁₁ := h₁₀.takeVc e₁₂
    split
    · exact h₁₃.parityErr.freeBufs.returnCredit
    · split
      · extract_lets s₁₄
        have h₁₅ : Keeps s₀ s₁₄ := h₁₃.cnt.freeBufs.returnCredit
        split
        · exact h₁₅
        · exact h₁₅.nak
      · exact h₁₃.pipeline

theorem Keeps.ingress {lp : Nat} {r : RxPkt} (h : Keeps s₀ s) : Keeps s₀ (s.ingress lp r) := by
  unfold State.ingress
  split
  · exact h.cutShort
  · split
    · exact h
    · extract_lets l₁
      have h₂ : Keeps s₀ l₁.2 := h.spoil.linkRx
      split
      · exact h₂.accepted
      · exact h₂

theorem Keeps.fenceRelease (h : Keeps s₀ s) : Keeps s₀ (s.fenceRelease) :=
  h.frame

theorem Keeps.queueGroup {sl : Nat} (h : Keeps s₀ s) : Keeps s₀ (s.queueGroup sl).2 := by
  unfold State.queueGroup
  split
  · exact h.cnt.irq
  · exact h

theorem Keeps.setFlight {x : Flight} (h : Keeps s₀ s) : Keeps s₀ (s.setFlight x) :=
  h.frame

theorem Keeps.egressSlice {x : Flight} {lp : Nat} (h : Keeps s₀ s) : Keeps s₀ (s.egressSlice x lp).2 := by
  unfold State.egressSlice
  extract_lets pipe₁
  split
  · exact h
  · exact h.admits

theorem Keeps.dropEgress {x : Flight} {lp : Nat} (h : Keeps s₀ s) : Keeps s₀ (s.dropEgress x lp) :=
  h.dropFlight.cnt.nak

theorem Keeps.freshSpill {q n : Nat} {c : List SpillBuf} (h : Keeps s₀ s) : Keeps s₀ (s.freshSpill q n c).2 := by
  unfold State.freshSpill
  split
  · exact h.allocFail
  · next _ t₁ e₂ =>
    have h₃ : Keeps s₀ t₁ := h.alloc e₂
    exact h₃.setChain

theorem Keeps.spillRoom {q n : Nat} (h : Keeps s₀ s) : Keeps s₀ (s.spillRoom q n).2 := by
  unfold State.spillRoom
  extract_lets c₁
  split
  · exact h
  · split
    · exact h.allocFail
    · split
      · split
        · exact h.setChain
        · exact h.freshSpill
      · exact h.freshSpill

theorem Keeps.countReroute {x : Flight} (h : Keeps s₀ s) : Keeps s₀ (s.countReroute x) := by
  unfold State.countReroute
  split
  · exact h.cnt
  · exact h

theorem Keeps.useSpill {n : Nat} (h : Keeps s₀ s) : Keeps s₀ (s.useSpill n) :=
  h.frame

theorem Keeps.poisonBad {w : Nat} (h : Keeps s₀ s) : Keeps s₀ (s.poisonBad w) :=
  h.frameMem.poisonLine

theorem Keeps.writeMarker {w : Nat} (h : Keeps s₀ s) : Keeps s₀ (s.writeMarker w) :=
  h.granFill.setWord.poisonBad

theorem Keeps.writePart {w mask v : Nat} (h : Keeps s₀ s) : Keeps s₀ (s.writePart w mask v) :=
  .ite h.writeWord (.ite h (.ite h.granFill.readWord.writeMarker h.granFill.readWord.writeWord))

theorem Keeps.memEvent {a n cls : Nat} (h : Keeps s₀ s) : Keeps s₀ (s.memEvent a n cls) :=
  .ite h (h.foldl fun _ _ h₁ => h₁.event)

theorem Keeps.writeBytes {a : Nat} {bs : List Byte} {cls : Nat} (h : Keeps s₀ s) : Keeps s₀ (s.writeBytes a bs cls) :=
  .ite h (.ite h.srefAccess (h.memEvent.foldl fun _ _ h₁ => h₁.writePart))

theorem Keeps.moveFlight {x : Flight} {l : Loc} (h : Keeps s₀ s) : Keeps s₀ (s.moveFlight x l) :=
  h.frame

theorem Keeps.spill {x : Flight} {lp q : Nat} (h : Keeps s₀ s) : Keeps s₀ (s.spill x lp q) := by
  unfold State.spill
  split
  · exact h.setFlight
  · extract_lets -merge -underBinder +onlyGivenNames a₁
    have h₂ : Keeps s₀ a₁.2 := h.egressSlice
    split
    · exact h₂.dropEgress
    · extract_lets n₃ r₄
      have h₅ : Keeps s₀ r₄.2 := h₂.countReroute.spillRoom
      split
      · exact h₅.dropFlight.cnt.irq
      · exact h₅.writeBytes.useSpill.moveFlight.freeBufs.giveCredit

theorem Keeps.judge {x : Flight} {lp : Nat} (h : Keeps s₀ s) : Keeps s₀ (s.judge x lp) := by
  unfold State.judge
  split
  · exact h
  · extract_lets tc₁ g₂ s₄ q₆ fits₇ beyond₈ wait₉
    have h₃ : Keeps s₀ g₂.2 := by
      unfold g₂
      split
      · exact h
      · exact h.queueGroup
    have h₅ : Keeps s₀ s₄ := h₃
    exact .ite ((Keeps.ite h₅ h₅.cnt).setFlight) (.ite h₅.spill (.ite h₅.setFlight h₅.dropFlight.cnt))

theorem Keeps.judgeAll (h : Keeps s₀ s) : Keeps s₀ (s.judgeAll) := by
  unfold State.judgeAll
  split
  · exact h
  · extract_lets l₃
    refine h.foldl fun _ _ h₅ => ?_
    split
    · exact h₅.judge
    · exact h₅

theorem Keeps.bcPort {f sl : Nat} (h : Keeps s₀ s) : Keeps s₀ (s.bcPort f sl).2 := by
  refine Keeps.foldl_snd (r := (none, s)) h fun r lp h₁ => ?_
  split
  · exact h₁
  · extract_lets t
    have ht : Keeps s₀ t := h₁.lpParity
    split
    · exact ht
    · exact ht.admits

theorem Keeps.bcCopy {p : Pkt} {pipe f : Nat} (h : Keeps s₀ s) : Keeps s₀ (s.bcCopy p pipe f).2 := by
  unfold State.bcCopy
  extract_lets n r
  split
  · split
    · next t e =>
      have ht : Keeps s₀ t := h.takeShared e
      dsimp only
      exact ht.enter
    · exact h.allocFail
  have hr : Keeps s₀ r.2 := h.bcPort
  split
  · exact hr
  split
  · next t e =>
    have ht : Keeps s₀ t := hr.takeShared e
    dsimp only
    exact ht.enter
  · exact hr.allocFail

theorem Keeps.bcWait {p : Pkt} {pipe f : Nat} (h : Keeps s₀ s) : Keeps s₀ (s.bcWait p pipe f) :=
  h.frame

theorem Keeps.bcRetry (h : Keeps s₀ s) : Keeps s₀ (s.bcRetry) := by
  unfold State.bcRetry
  extract_lets -merge -underBinder +onlyGivenNames l₂ rs₃
  split
  · exact h
  · extract_lets -merge -underBinder +onlyGivenNames _ s₆ s₈
    have h₇ : Keeps s₀ s₆ := h.frame
    have h₉ : Keeps s₀ s₈ := by
      unfold s₈
      refine h₇.foldl fun _ _ h₁₂ => ?_
      split
      · split
        · exact h₁₂
        · extract_lets r₁₃
          have h₁₄ : Keeps s₀ r₁₃.2 := h₁₂.bcCopy
          split
          · exact h₁₄.bcWait
          · exact h₁₄.putBc.bcCheck
    refine h₉.foldl fun _ _ h₁₆ => ?_
    split <;> exact h₁₆.sendReport

theorem Keeps.retryReroutes (h : Keeps s₀ s) : Keeps s₀ (s.retryReroutes) :=
  .ite h h.frame.rerouteAll

theorem Keeps.strikePacket {x : Flight} {words : List Nat} (h : Keeps s₀ s) : Keeps s₀ (s.strikePacket x words).2 := by
  unfold State.strikePacket
  extract_lets -merge -underBinder +onlyGivenNames ce₁ words₂ s₃ s₅
  have h₄ : Keeps s₀ s₃ := .ite h h.cnt
  have h₆ : Keeps s₀ s₅ := .ite h₄ h₄.cnt
  split
  · exact h₆.dropFlight.cnt
  · split
    · exact h₆
    · exact h₆.setFlight

theorem Keeps.matchStep {p : Nat} {first : Bool} {rs : List (Nat × Nat × Nat)} {m : List (Nat × Nat)} (h : Keeps s₀ s) :
    Keeps s₀ (s.matchStep p first rs m).1 := by
  refine Keeps.foldl_fst (r := (s, m)) h fun r i h₁ => ?_
  split
  · exact h₁
  · exact .ite h₁.frame h₁

theorem Keeps.matchPlane {p : Nat} {rs : List (Nat × Nat × Nat)} (h : Keeps s₀ s) : Keeps s₀ (s.matchPlane p rs).1 :=
  h.matchStep.matchStep.matchStep

theorem Keeps.pickCell {i o : Nat} (h : Keeps s₀ s) : Keeps s₀ (s.pickCell i o).2 := by
  unfold State.pickCell
  extract_lets -merge -underBinder +onlyGivenNames l₁ g₂
  split
  · exact h
  · exact h
  · exact h.frame

theorem Keeps.crossed {x : Flight} (h : Keeps s₀ s) : Keeps s₀ (s.crossed x) :=
  h.moveFlight.giveCredit

theorem Keeps.handCell {p i o : Nat} {lost : Bool} (h : Keeps s₀ s) : Keeps s₀ (s.handCell p i o lost) := by
  unfold State.handCell
  extract_lets -merge -underBinder +onlyGivenNames r₁
  have h₂ : Keeps s₀ r₁.2 := h.pickCell
  split
  · exact h₂
  · exact .ite h₂.frame.event.crossed h₂.frame.event.setFlight

theorem Keeps.cellTime {lost ue : List (Nat × Nat)} {bad : List Nat} (h : Keeps s₀ s) : Keeps s₀ (s.cellTime lost ue bad) := by
  unfold State.cellTime
  split
  · exact h
  extract_lets _ s₁ s₂ ids s₃ rs r
  have h₂ : Keeps s₀ s₂ := (Keeps.frame h : Keeps s₀ s₁).spoil.retryReroutes.bcRetry.judgeAll
  have h₃ : Keeps s₀ s₃ := by
    refine h₂.foldl fun _ _ h₄ => ?_
    split
    · exact .ite h₄.strikePacket h₄
    · exact h₄
  have hr : Keeps s₀ r.1 := Keeps.foldl_fst (r := (s₃, [])) h₃ fun _ _ h₄ => h₄.matchPlane
  exact hr.foldl fun _ _ h₄ => h₄.handCell

theorem Keeps.placeQueue {x : Flight} (h : Keeps s₀ s) : Keeps s₀ (s.placeQueue x) :=
  .ite h.moveFlight.cnt h.moveFlight

theorem Keeps.reassembled {i o : Nat} (h : Keeps s₀ s) : Keeps s₀ (s.reassembled i o) := by
  unfold State.reassembled
  split
  · exact h
  · split
    · exact h
    · extract_lets x₁
      split
      · exact .ite h.egressSlice.countReroute.placeQueue h.egressSlice.dropEgress
      · exact h.placeQueue

theorem Keeps.reseqTimeout {i o : Nat} (h : Keeps s₀ s) : Keeps s₀ (s.reseqTimeout i o) := by
  unfold State.reseqTimeout
  extract_lets t l
  clear_value l
  cases l with
  | nil => exact h
  | cons e l =>
    dsimp only
    refine .ite h ((Keeps.frame h).foldl fun _ _ h₁ => ?_)
    split
    · exact h₁.dropFlight.cnt.irq.nak
    · exact h₁

theorem Keeps.planeFault {p : Nat} (h : Keeps s₀ s) : Keeps s₀ (s.planeFault p) :=
  h.cnt.wr.irq

theorem Keeps.emptied {q : Nat} (h : Keeps s₀ s) : Keeps s₀ (s.emptied q) :=
  .ite h.frame h

theorem Keeps.purgeHeads {lp f : Nat} (h : Keeps s₀ s) : Keeps s₀ (s.purgeHeads lp f) := by
  induction f generalizing s with
  | zero => exact h
  | succ f ih =>
    unfold State.purgeHeads
    split
    · exact h
    · exact ih h.dropFlight.emptied.cnt

theorem Keeps.gateNow {lp : Nat} (h : Keeps s₀ s) : Keeps s₀ (s.gateNow lp) :=
  .ite h h.setGate

theorem Keeps.headChecks {lp : Nat} (h : Keeps s₀ s) : Keeps s₀ (s.headChecks lp) := by
  unfold State.headChecks
  extract_lets g₂ qs₃ s₄
  have h₅ : Keeps s₀ s₄ := .ite h.cnt.irq h
  refine h₅.foldl fun _ _ h₇ => ?_
  extract_lets -merge -underBinder +onlyGivenNames s₈
  have h₉ : Keeps s₀ s₈ := .ite h₇.cnt.irq h₇
  split
  · exact h₉
  · exact .ite h₉ h₉.setFlight.cnt.irq

theorem Keeps.drrPick {l : List Nat} (h : Keeps s₀ s) : Keeps s₀ (s.drrPick l).1 := by
  induction l generalizing s with
  | nil => exact h
  | cons q l ih =>
    unfold State.drrPick
    extract_lets d _ s₁
    have h₁ : Keeps s₀ s₁ := h.frame
    split
    · exact h₁
    · exact ih h₁

theorem Keeps.serveGroup {lp g : Nat} {el : List Nat} (h : Keeps s₀ s) : Keeps s₀ (s.serveGroup lp g el).2 := by
  unfold State.serveGroup
  extract_lets -merge -underBinder +onlyGivenNames key₁ r₂ w₃ keep₄
  split
  · split
    · exact h
    · exact h.frame
  · split
    · exact h
    · extract_lets o₅ p₆
      have h₇ : Keeps s₀ p₆.1 := h.drrPick
      split
      · exact h₇.frame
      · exact h₇

theorem Keeps.serve {lp : Nat} {el : List Nat} (h : Keeps s₀ s) : Keeps s₀ (s.serve lp el).2 := by
  unfold State.serve
  split
  · exact h
  · exact h.serveGroup

theorem Keeps.handTx {lp vc : Nat} {x : Flight} {t : State} (h : Keeps s₀ s) (e : s.handTx lp x vc = some t) : Keeps s₀ t := by
  unfold State.handTx at e
  extract_lets _ _ at e
  split at e
  · contradiction
  · cases e
    exact h.setTx

theorem Keeps.chargeShaper {q len : Nat} (h : Keeps s₀ s) : Keeps s₀ (s.chargeShaper q len) :=
  .ite h h.frame

theorem Keeps.ageSample {p : Pkt} (h : Keeps s₀ s) : Keeps s₀ (s.ageSample p) :=
  .ite h (.ite h.cnt h.cnt)

theorem Keeps.dequeue {lp : Nat} {ue : List Nat} (h : Keeps s₀ s) : Keeps s₀ (s.dequeue lp ue) := by
  unfold State.dequeue
  extract_lets s₁ s₃ r₅
  have h₂ : Keeps s₀ s₁ := h.gateNow.purgeHeads
  have h₄ : Keeps s₀ s₃ := h₂.headChecks
  have h₆ : Keeps s₀ r₅.2 := h₄.serve
  split
  · exact h₄
  · split
    · exact h₄
    · extract_lets a₇
      have h₈ : Keeps s₀ a₇.2 := h₆.strikePacket
      split
      · exact h₈.emptied
      · extract_lets -merge -underBinder +onlyGivenNames x₉
        split
        · exact h₄
        · next t₁₀ e₁₁ =>
          have h₁₂ : Keeps s₀ t₁₀ := h₈.handTx e₁₁
          exact h₁₂.dropFlight.chargeShaper.frame.event.event.ageSample.emptied

theorem Keeps.shape {n q w0 : Nat} (h : Keeps s₀ s) : Keeps s₀ (s.shape n q w0) :=
  .ite h h.frame

theorem Keeps.shaperTick (h : Keeps s₀ s) : Keeps s₀ (s.shaperTick) := by
  unfold State.shaperTick
  extract_lets -merge -underBinder +onlyGivenNames n₂
  split
  · exact h
  · extract_lets -merge -underBinder +onlyGivenNames _ s₅
    have h₆ : Keeps s₀ s₅ := h.frame
    refine h₆.foldl fun _ _ h₈ => ?_
    split <;> exact h₈.shape

theorem Keeps.loadRefresh (h : Keeps s₀ s) : Keeps s₀ (s.loadRefresh) :=
  .ite h h.frame

theorem Keeps.readback {q : Nat} (h : Keeps s₀ s) : Keeps s₀ (s.readback q) := by
  unfold State.readback
  split
  · exact h
  · split
    · split
      · exact h
      · extract_lets gone₁
        split
        · exact h.useSpill.frame.unchain.cnt
        · split
          · exact h
          · split
            · exact h.allocFail
            · next _ t₂ e₃ =>
              have h₄ : Keeps s₀ t₂ := h.takeShared e₃
              extract_lets r₅
              have h₆ : Keeps s₀ r₅.2 := h₄.useSpill.unspill
              split
              · exact h₆.frame.unchain.freeBufs.cnt
              · exact h₆.unchain.placeQueue
    · exact h

theorem Keeps.drainExpiry {sl : Nat} (h : Keeps s₀ s) : Keeps s₀ (s.drainExpiry sl) :=
  .ite h.wr.frame h

theorem Keeps.retAt {pipe idx v : Nat} (h : Keeps s₀ s) : Keeps s₀ (s.retAt pipe idx v) :=
  h.retPut

theorem Keeps.ageTick {n : Nat} (h : Keeps s₀ s) : Keeps s₀ (s.ageTick n) := by
  unfold State.ageTick
  extract_lets -merge -underBinder +onlyGivenNames t₂
  split
  · exact h
  · extract_lets -merge -underBinder +onlyGivenNames _ s₅
    have h₆ : Keeps s₀ s₅ := h.frame
    refine h₆.foldl fun _ _ h₈ => ?_
    split <;> exact .ite h₈ (.ite h₈.retAt.cnt h₈.retAt)

theorem Keeps.seedWrite {n : Nat} {w : Wr} (h : Keeps s₀ s) : Keeps s₀ (s.seedWrite n w) :=
  h.put.frame

theorem Keeps.fwdDone {n st : Nat} (h : Keeps s₀ s) : Keeps s₀ (s.fwdDone n st) :=
  h.wr.wr.irq

theorem Keeps.fwdLoad {n : Nat} {l : List Nat} (h : Keeps s₀ s) : Keeps s₀ (s.fwdLoad n l) := by
  unfold State.fwdLoad
  refine h.foldl fun _ _ h₂ => ?_
  split <;> exact h₂.wr

theorem Keeps.retRead {n : Nat} (h : Keeps s₀ s) : Keeps s₀ (s.retRead n) :=
  .ite h.fwdDone h.fwdLoad.fwdDone

theorem Keeps.fwdRead {n table bank : Nat} (h : Keeps s₀ s) : Keeps s₀ (s.fwdRead n table bank) :=
  .ite h.retRead (.ite h.fwdDone h.fwdLoad.fwdDone)

theorem Keeps.fwdMend {table bank k : Nat} (h : Keeps s₀ s) : Keeps s₀ (s.fwdMend table bank k) := by
  unfold State.fwdMend
  refine h.foldl fun _ _ h₂ => ?_
  split <;> exact h₂.mend

theorem Keeps.coverBank {sl code b idx o v : Nat} (h : Keeps s₀ s) : Keeps s₀ (s.coverBank sl code b idx o v) :=
  .ite h h.frame

theorem Keeps.sprayStore {b k : Nat} {ws : List Nat} {covered : Bool} (h : Keeps s₀ s) : Keeps s₀ (s.sprayStore b k ws covered) :=
  h.foldl fun _ _ h₁ => (Keeps.ite h₁ (.ite h₁.coverBank h₁.coverBank.coverBank)).tset

theorem Keeps.dimStore {b k v : Nat} {covered : Bool} (h : Keeps s₀ s) : Keeps s₀ (s.dimStore b k v covered) :=
  (Keeps.ite h.coverBank h).tset

theorem Keeps.admitStage {t k v : Nat} (h : Keeps s₀ s) : Keeps s₀ (s.admitStage t k v).2 :=
  h.frame

theorem Keeps.lpStore {p v : Nat} (h : Keeps s₀ s) : Keeps s₀ (s.lpStore p v) :=
  h.foldl fun _ _ h₁ => h₁.wr

theorem Keeps.fwdWrite {n table bank : Nat} (h : Keeps s₀ s) : Keeps s₀ (s.fwdWrite n table bank) := by
  unfold State.fwdWrite
  extract_lets -merge -underBinder +onlyGivenNames k₁ ws₂ d₃
  split
  · exact h.fwdDone
  · split
    · exact .ite h.fwdDone (.ite h.fwdDone h.sprayStore.fwdMend.fwdDone)
    · exact .ite h.fwdDone h.dimStore.fwdMend.fwdDone
    · exact h.admitStage.fwdDone
    · exact h.admitStage.fwdDone
    · exact h.lpStore.coverMod.fwdMend.fwdDone

theorem Keeps.fwdSearch {n table : Nat} (h : Keeps s₀ s) : Keeps s₀ (s.fwdSearch n table) := by
  unfold State.fwdSearch
  extract_lets k₁
  split
  · exact h.fwdDone
  · split
    · exact h.fwdDone
    · exact h.fwdLoad.fwdDone

theorem Keeps.fwdNext {n table : Nat} (h : Keeps s₀ s) : Keeps s₀ (s.fwdNext n table) := by
  unfold State.fwdNext
  split
  · exact h.fwdDone
  · extract_lets cur₁ from_₂ fit₃ s'₄
    have h₅ : Keeps s₀ s'₄ := h.wr
    split
    · exact h₅.fwdDone
    · exact h₅.wr.fwdLoad.fwdDone

theorem Keeps.retFlush {pipe : Nat} {f : Nat → Bool} (h : Keeps s₀ s) : Keeps s₀ (s.retFlush pipe f) := by
  unfold State.retFlush
  refine h.foldl fun _ _ h₂ => ?_
  split <;> exact .ite h₂.retAt h₂

theorem Keeps.fwdFlushPort {n table : Nat} {all : Bool} (h : Keeps s₀ s) : Keeps s₀ (s.fwdFlushPort n table all) :=
  .ite h.fwdDone ((h.foldl fun _ _ h₁ => h₁.retFlush).fwdDone)

theorem Keeps.fwdFlushSlice {n table : Nat} {all : Bool} (h : Keeps s₀ s) : Keeps s₀ (s.fwdFlushSlice n table all) :=
  .ite h.fwdDone ((h.foldl fun _ _ h₁ => h₁.retFlush).fwdDone)

theorem Keeps.fwdInsert {n table : Nat} {all : Bool} (h : Keeps s₀ s) : Keeps s₀ (s.fwdInsert n table all) := by
  unfold State.fwdInsert
  extract_lets ep
  split
  · exact h.fwdDone
  · refine Keeps.fwdDone (Keeps.foldl_snd (r := (false, s)) h fun r p h₁ => ?_)
    obtain ⟨full, t⟩ := r
    dsimp only
    split
    · exact Keeps.retPut h₁
    · exact h₁

theorem Keeps.fwdDelete {n table : Nat} {all : Bool} (h : Keeps s₀ s) : Keeps s₀ (s.fwdDelete n table all) := by
  unfold State.fwdDelete
  extract_lets ep
  split
  · exact h.fwdDone
  · refine Keeps.fwdDone (Keeps.foldl_snd (r := (false, s)) h fun r p h₁ => ?_)
    obtain ⟨hit, t⟩ := r
    dsimp only
    split
    · exact Keeps.retPut h₁
    · exact h₁

theorem Keeps.fwdRepair {n table bank : Nat} (h : Keeps s₀ s) : Keeps s₀ (s.fwdRepair n table bank) := by
  unfold State.fwdRepair
  extract_lets k₁ ws₂ d₃
  split
  · exact h.fwdDone
  · split
    · exact .ite h.fwdDone h.sprayStore.fwdMend.fwdDone
    · exact h.dimStore.fwdMend.fwdDone
    · exact h.lpStore.fwdMend.fwdDone

theorem Keeps.fwdTcmd {n op table bank : Nat} {all : Bool} (h : Keeps s₀ s) : Keeps s₀ (s.fwdTcmd n op table bank all) := by
  unfold State.fwdTcmd
  split
  · exact h.fwdRead
  · exact h.fwdWrite
  · exact h.fwdSearch
  · exact h.fwdNext
  · exact h.fwdFlushPort
  · exact h.fwdFlushSlice
  · exact h.fwdInsert
  · exact h.fwdDelete
  · exact h.fwdRepair
  · exact h.fwdDone

theorem Keeps.rangeErr (h : Keeps s₀ s) : Keeps s₀ (s.rangeErr) :=
  h.cnt.irq

theorem Keeps.readRes {a n : Nat} (h : Keeps s₀ s) : Keeps s₀ (s.readRes a n).2 := by
  unfold State.readRes
  split
  · exact h.readWords
  · exact h.rangeErr

theorem Keeps.shadowHit {table idx : Nat} (h : Keeps s₀ s) : Keeps s₀ (s.shadowHit table idx) :=
  .ite h.cnt h.cnt.wr.wr.wr.irq

theorem Keeps.shadowOne {table bank idx off : Nat} {val : List Byte} (h : Keeps s₀ s) : Keeps s₀ (s.shadowOne table bank idx off val) :=
  .ite h.readRes.shadowHit h.readRes

theorem Keeps.shadowStep (h : Keeps s₀ s) : Keeps s₀ (s.shadowStep) := by
  unfold State.shadowStep
  split <;> exact .ite h.shadowOne.frame h.shadowOne.frame.wr

theorem Keeps.qshDone {st : Nat} (h : Keeps s₀ s) : Keeps s₀ (s.qshDone st) :=
  h.wr.wr.irq

theorem Keeps.qshRead {t b : Nat} (h : Keeps s₀ s) : Keeps s₀ (s.qshRead t b) := by
  unfold State.qshRead
  extract_lets -merge -underBinder +onlyGivenNames k₁
  split
  · exact h.qshDone
  · split
    · exact h.qshDone
    · extract_lets b₄ s'₅
      have h₆ : Keeps s₀ s'₅ := by
        unfold s'₅
        refine h.foldl fun _ _ h₉ => ?_
        split <;> exact h₉.wr
      exact h₆.qshDone

theorem Keeps.policerStore {k w0 w1 : Nat} (h : Keeps s₀ s) : Keeps s₀ (s.policerStore k w0 w1) :=
  h.coverSl.coverSl.tset.tset.frame

theorem Keeps.stageWord {tb k w v : Nat} (h : Keeps s₀ s) : Keeps s₀ (s.stageWord tb k w v) :=
  h.frame

theorem Keeps.qshWrite {t b : Nat} (h : Keeps s₀ s) : Keeps s₀ (s.qshWrite t b) := by
  unfold State.qshWrite
  extract_lets -merge -underBinder +onlyGivenNames k₁ d0₂ d1₃
  split
  · exact h.qshDone
  · split
    · exact h.qshDone
    · split
      · exact .ite h.qshDone h.tset.mend.frame.qshDone
      · exact h.tset.mend.qshDone
      · exact .ite h.qshDone (.ite h.qshDone h.policerStore.mend.mend.qshDone)
      · exact .ite h.qshDone h.tset.mend.qshDone
      · exact (Keeps.ite h.tset.mend h.tset.mend.setGate).qshDone
      · exact .ite h.qshDone h.stageWord.qshDone

theorem Keeps.qshTcmd {op t b : Nat} (h : Keeps s₀ s) : Keeps s₀ (s.qshTcmd op t b) := by
  unfold State.qshTcmd
  split
  · exact h.qshRead
  · exact h.qshWrite
  · exact h.qshDone

theorem Keeps.atPort {l : Nat} {f : State → State} (h : Keeps s₀ s) (hf : ∀ t, Keeps s₀ t → Keeps s₀ (f t)) : Keeps s₀ (s.atPort l f) := by
  unfold State.atPort
  split
  · exact .ite h.wakeCore (hf _ h)
  · exact hf _ h

theorem Keeps.noRes {p : Pkt} {pipe cause : Nat} (h : Keeps s₀ s) : Keeps s₀ (s.noRes p pipe cause) :=
  h.cnt.wr.wr.wr.wr.irq.nak

theorem Keeps.statsAdd {blk m last late lag : Nat} (h : Keeps s₀ s) : Keeps s₀ (s.statsAdd blk m last late lag) :=
  h.tset

theorem Keeps.checkComplete {c chunk : Nat} (h : Keeps s₀ s) : Keeps s₀ (s.checkComplete c chunk) := by
  unfold State.checkComplete
  split
  · exact h
  · exact .ite h (.ite h.setChunk (h.setChunk.statsAdd.foldl fun _ _ h₁ => h₁.statsAdd))

theorem Keeps.countPiece {k : Chunk} {x : Flight} (h : Keeps s₀ s) : Keeps s₀ (s.countPiece k x) := by
  unfold State.countPiece
  extract_lets p₁ q₂ e₃ e'₄ tally₅ k₆ k₇ s₈ s₁₀ ent₁₂ s₁₃
  have h₉ : Keeps s₀ s₈ := h.setChunk
  have h₁₁ : Keeps s₀ s₁₀ := .ite h₉.setFlight h₉.dropFlight
  have h₁₄ : Keeps s₀ s₁₃ := by
    unfold s₁₃
    split
    · exact h₁₁.setCore
    · exact h₁₁
  exact h₁₄.checkComplete

theorem Keeps.enterChunk {k : Chunk} (h : Keeps s₀ s) : Keeps s₀ (s.enterChunk k) := by
  unfold State.enterChunk
  extract_lets -merge -underBinder +onlyGivenNames cs₁ _ s₂ s₄ s₆
  have h₃ : Keeps s₀ s₂ := h.frame
  have h₅ : Keeps s₀ s₄ := h₃.cnt
  have h₇ : Keeps s₀ s₆ := .ite h₅.wr h₅
  split
  · exact h₇
  · split
    · exact h₇
    · exact h₇.setCore

theorem Keeps.cap {sl which : Nat} (h : Keeps s₀ s) : Keeps s₀ (s.cap sl which).2 := by
  unfold State.cap
  extract_lets w₁
  split
  · exact h.cnt
  · exact h

theorem Keeps.overCap {sl which n : Nat} (h : Keeps s₀ s) : Keeps s₀ (s.overCap sl which n).2 :=
  h.cap

theorem Keeps.takeStage {k : Chunk} {use : Nat} (h : Keeps s₀ s) : Keeps s₀ (s.takeStage k use).2 := by
  unfold State.takeStage
  extract_lets r s₁ keep bad
  have h₁ : Keeps s₀ s₁ := h.overCap
  split
  · exact h₁.allocFail
  · next b t e =>
    have ht : Keeps s₀ t := by
      split at e
      · contradiction
      · exact h₁.alloc e
    split <;> exact ht.wr

theorem Keeps.poisonChunk {k : Chunk} (h : Keeps s₀ s) : Keeps s₀ (s.poisonChunk k) := by
  unfold State.poisonChunk
  extract_lets -merge -underBinder +onlyGivenNames s₁
  have h₂ : Keeps s₀ s₁ := h.setChunk
  split
  · exact h₂
  · exact .ite h₂.setCore h₂.setCore.cnt

theorem Keeps.dupPiece {k : Chunk} {x : Flight} {seen : Nat} (h : Keeps s₀ s) : Keeps s₀ (s.dupPiece k x seen) :=
  .ite h.dropFlight.cnt h.dropFlight.poisonChunk.cnt.wr.wr.wr.wr.wr.irq.nak

theorem Keeps.openChunk {p : Pkt} {l : Nat} (h : Keeps s₀ s) : Keeps s₀ (s.openChunk p l).2 := by
  unfold State.openChunk
  extract_lets c₁ gran₂ need₃ use₄ a₅ b₇
  have h₆ : Keeps s₀ a₅.2 := h.overCap
  have h₈ : Keeps s₀ b₇.2 := h₆.overCap
  split
  · exact h
  · split
    · exact h
    · split
      · exact h
      · split <;> exact h₈

theorem Keeps.joinChunk {x : Flight} {l : Nat} (h : Keeps s₀ s) : Keeps s₀ (s.joinChunk x l) := by
  unfold State.joinChunk
  extract_lets p old take r
  have htake : ∀ t k new, Keeps s₀ t → Keeps s₀ (take t k new) := by
    intro t k new ht
    unfold take
    dsimp only
    split
    · exact (Keeps.ite ht.enterChunk ht).countPiece
    · split
      · exact ht.takeStage
      · exact (Keeps.ite ht.takeStage.enterChunk ht.takeStage.setChunk).countPiece
  clear_value take old
  split
  · exact h.dropFlight.noRes
  split
  · extract_lets seen
    split
    · exact h.dupPiece
    · exact htake _ _ _ h
  · have hr : Keeps s₀ r.2 := h.openChunk
    split
    · exact hr.dropFlight.noRes
    · exact htake _ _ _ hr

theorem Keeps.contribution {l : Nat} (h : Keeps s₀ s) : Keeps s₀ (s.contribution l) := by
  unfold State.contribution
  split
  · exact h
  · extract_lets -merge -underBinder +onlyGivenNames p₁
    split
    · exact h
    · extract_lets -merge -underBinder +onlyGivenNames aq₂
      split
      · exact h
      · split
        · exact h.dropFlight.cnt.nak
        · split
          · exact h.dropFlight.cnt
          · split
            · exact h.dropFlight.cnt.nak
            · split
              · exact h.dropFlight.cnt.wr.wr.wr.wr.wr.irq.nak
              · exact .ite h.dropFlight.noRes (.ite h.dropFlight.noRes h.joinChunk)

theorem Keeps.telStraggler {ctx slice chunk openT late : Nat} (h : Keeps s₀ s) : Keeps s₀ (s.telStraggler ctx slice chunk openT late) :=
  .ite h h.telEntry

theorem Keeps.straggle {c chunk : Nat} (h : Keeps s₀ s) : Keeps s₀ (s.straggle c chunk) := by
  unfold State.straggle
  split
  · exact h
  · extract_lets -merge -underBinder +onlyGivenNames ns₃
    split
    · exact h
    · extract_lets s₈ late₁₀ s₁₁
      have h₉ : Keeps s₀ s₈ := h.setChunk.cnt.irq
      have h₁₂ : Keeps s₀ s₁₁ := .ite (h₉.foldl fun _ _ h₁₃ => h₁₃.statsAdd) h₉
      exact .ite h₁₂.telStraggler h₁₂

theorem Keeps.endInv {l : Nat} {k : Chunk} (h : Keeps s₀ s) : Keeps s₀ (s.endInv l k) := by
  unfold State.endInv
  split
  · exact h
  · split
    · exact h
    · split
      · extract_lets -merge -underBinder +onlyGivenNames _ s₁
        have h₂ : Keeps s₀ s₁ := h.setCore
        split
        · split
          · exact h₂.dropFlight
          · exact h₂
        · exact h₂
      · exact h

theorem Keeps.freeStage {spec emit other : List Nat} (h : Keeps s₀ s) : Keeps s₀ (s.freeStage spec emit other) :=
  h.freeBufs.wr.wr.wr

theorem Keeps.freeChunk {k : Chunk} (h : Keeps s₀ s) : Keeps s₀ (s.freeChunk k) :=
  h.endInv.freeStage.freeRetained.setChunk

theorem Keeps.bumpGen {k : Chunk} (h : Keeps s₀ s) : Keeps s₀ (s.bumpGen k) := by
  unfold State.bumpGen
  split
  · exact h.frame
  · exact h

theorem Keeps.sweepCore {p : Nat} (h : Keeps s₀ s) : Keeps s₀ (s.sweepCore p) := by
  unfold State.sweepCore
  extract_lets x₂ ok₃ aq₄ sq₅ eq₆ lines₇ reqs₈ inv₉ gone₁₀ n₁₁ s₁₂ s₁₄ s₁₉
  have h₁₃ : Keeps s₀ s₁₂ := h.setCore
  have h₁₅ : Keeps s₀ s₁₄ := by
    unfold s₁₄
    refine h₁₃.foldl fun _ _ h₁₈ => ?_
    split
    · exact h₁₈.dropFlight
    · exact h₁₈
  have h₂₀ : Keeps s₀ s₁₉ := .ite h₁₅ h₁₅.cnt
  exact .ite h₂₀ h₂₀.cnt

theorem Keeps.sweepQ {l : Nat} (h : Keeps s₀ s) : Keeps s₀ (s.sweepQ l) := by
  unfold State.sweepQ
  split
  · exact h.sweepCore
  · exact h

theorem Keeps.notify {c chunk m code reason l : Nat} {refs : Option (Nat × Nat × Nat × Nat)} {bitmap : List Byte} (h : Keeps s₀ s) : Keeps s₀ (s.notify c chunk m code reason l refs bitmap) := by
  unfold State.notify
  split
  · exact h
  · exact .ite h h.frame.frame.originate

theorem Keeps.nakAll {c chunk l : Nat} (h : Keeps s₀ s) : Keeps s₀ (s.nakAll c chunk l) :=
  h.foldl fun _ _ h₁ => h₁.notify

theorem Keeps.abortOne {k : Chunk} {reason : Nat} {quiet mute : Bool} (h : Keeps s₀ s) : Keeps s₀ (s.abortOne k reason quiet mute) := by
  unfold State.abortOne
  split
  · exact h
  · extract_lets s₁ k'₃ s₄ s₆ s₈ s₁₀ s₁₂ s₁₄
    have h₂ : Keeps s₀ s₁ := h.freeChunk
    have h₅ : Keeps s₀ s₄ := h₂.bumpGen
    have h₇ : Keeps s₀ s₆ := h₅.setChunk
    have h₉ : Keeps s₀ s₈ := h₇.sweepQ
    have h₁₁ : Keeps s₀ s₁₀ := .ite h₉ h₉.nakAll
    have h₁₃ : Keeps s₀ s₁₂ := h₁₁.cnt
    have h₁₅ : Keeps s₀ s₁₄ := .ite h₁₃.stepFault h₁₃
    exact h₁₅.missHeld

theorem Keeps.normAbortChunk {x : NormSlot} {j : Nat} (h : Keeps s₀ s) : Keeps s₀ (s.normAbortChunk x j) := by
  unfold State.normAbortChunk
  split
  · exact h
  · split
    · exact .ite h.abortOne h
    · exact h.frame.nakAll.cnt

theorem Keeps.normNak {n ctx key m reason : Nat} (h : Keeps s₀ s) : Keeps s₀ (s.normNak n ctx key m reason) := by
  unfold State.normNak
  split
  · exact h
  · exact .ite h h.frame.frame.originate

theorem Keeps.normFault {x : NormSlot} (h : Keeps s₀ s) : Keeps s₀ (s.normFault x) := by
  unfold State.normFault
  split
  · exact h
  · extract_lets s₉ s₁₁ me₁₄ s₁₅ f₁₈ s₂₀
    have h₁₀ : Keeps s₀ s₉ := h.setNorm
    have h₁₂ : Keeps s₀ s₁₁ := .ite (h₁₀.foldl fun _ _ h₁₃ => h₁₃.normAbortChunk) h₁₀
    have h₁₆ : Keeps s₀ s₁₅ := h₁₂.foldl fun _ _ h₁₇ => h₁₇.normNak
    have h₁₉ : Keeps s₀ f₁₈.2 := h₁₆.frame
    have h₂₁ : Keeps s₀ s₂₀ := h₁₉.wr.wr.wr.wr.irq
    exact .ite h₂₁.ledgerFault h₂₁

theorem Keeps.abort {k : Chunk} {reason : Nat} {quiet mute : Bool} (h : Keeps s₀ s) : Keeps s₀ (s.abort k reason quiet mute) := by
  unfold State.abort
  extract_lets nf₁ s₂ s₄
  have h₃ : Keeps s₀ s₂ := h.abortOne
  have h₅ : Keeps s₀ s₄ := by
    unfold s₄
    clear_value *
    split
    · exact h₃.normFault
    · exact h₃
  exact h₅.finish

theorem Keeps.chunkTimeout {c chunk : Nat} (h : Keeps s₀ s) : Keeps s₀ (s.chunkTimeout c chunk) := by
  unfold State.chunkTimeout
  split
  · exact h
  · exact .ite h h.abort

theorem Keeps.retainExpiry {c chunk : Nat} (h : Keeps s₀ s) : Keeps s₀ (s.retainExpiry c chunk) := by
  unfold State.retainExpiry
  split
  · exact h
  · exact .ite h h.release.finish

theorem Keeps.takeRetain {r : Nat × State} (h : Keeps s₀ s) (e : s.takeRetain = some r) : Keeps s₀ r.2 := by
  obtain ⟨x, hx, rfl⟩ := Option.map_eq_some_iff.mp e
  exact h.alloc hx

theorem Keeps.retainRoom {k : Chunk} {r : (Nat × Nat) × State} (h : Keeps s₀ s) (e : s.retainRoom k = some r) : Keeps s₀ r.2 := by
  obtain ⟨t, ht, hr⟩ := Option.bind_eq_some_iff.mp e
  have h₁ : Keeps s₀ t := by
    split at ht
    · obtain ⟨x, hx, rfl⟩ := Option.map_eq_some_iff.mp ht
      exact (h.takeRetain hx).frame
    · cases ht
      exact h
  extract_lets add at hr
  split at hr
  · split at hr
    · cases hr
      exact h₁.frame
    · obtain ⟨x, hx, rfl⟩ := Option.map_eq_some_iff.mp hr
      exact (h₁.takeRetain hx).frame.frame
  · obtain ⟨x, hx, rfl⟩ := Option.map_eq_some_iff.mp hr
    exact (h₁.takeRetain hx).frame.frame

theorem Keeps.tidyDirs {c : Nat} (h : Keeps s₀ s) : Keeps s₀ (s.tidyDirs c) :=
  .ite h (h.frame.foldl fun _ _ h₁ => h₁.giveRetain)

theorem Keeps.retainOpen {k : Chunk} (h : Keeps s₀ s) : Keeps s₀ (s.retainOpen k) := by
  unfold State.retainOpen
  split
  · exact h
  · split
    · exact h.allocFail.tidyDirs.cnt.irq
    · next _ t₁ e₂ =>
      have h₃ : Keeps s₀ t₁ := h.retainRoom e₂
      exact h₃.setChunk.writeBytes

theorem Keeps.retainPiece {k : Chunk} {p : Nat} {b : List Byte} {pm : Nat} (h : Keeps s₀ s) : Keeps s₀ (s.retainPiece k p b pm) := by
  unfold State.retainPiece
  split
  · exact h
  · exact .ite h.writeBytes.writeBytes ((h.writeBytes.writeBytes.foldl fun _ _ h₁ => h₁.writeMarker).setChunk)

theorem Keeps.sendResult {k : Chunk} {p m attempt : Nat} {b : List Byte} {pm : Nat} {rt : Route} {pipe : Nat} {ans : Bool} (h : Keeps s₀ s) : Keeps s₀ (s.sendResult k p m attempt b pm rt pipe ans).2 := by
  unfold State.sendResult
  extract_lets -merge -underBinder +onlyGivenNames q₁ r₂
  have h₃ : Keeps s₀ r₂.2 := h.originate
  split
  · exact h₃
  · exact .ite h₃.setChunk h₃.setChunk.cnt

theorem Keeps.writeWords {w : Nat} {l : List (Nat × Bool)} {cls : Nat} (h : Keeps s₀ s) : Keeps s₀ (s.writeWords w l cls) := by
  unfold State.writeWords
  split
  · exact h.srefAccess
  · refine h.memEvent.foldl fun _ _ h₃ => ?_
    split <;> exact .ite h₃.writeMarker h₃.writeWord

theorem Keeps.writeRes {a : Nat} {l : List (Nat × Bool)} (h : Keeps s₀ s) : Keeps s₀ (s.writeRes a l) :=
  .ite h.writeWords h.rangeErr

theorem Keeps.coverBlock {n b : Nat} (h : Keeps s₀ s) : Keeps s₀ (s.coverBlock n b) :=
  .ite h h.setCovered.writeRes

theorem Keeps.readBytes {a n cls : Nat} (h : Keeps s₀ s) : Keeps s₀ (s.readBytes a n cls).2 := by
  unfold State.readBytes
  split
  · exact h
  · exact h.readWords

theorem Keeps.readRetained {k : Chunk} {p : Nat} (h : Keeps s₀ s) : Keeps s₀ (s.readRetained k p).2 := by
  unfold State.readRetained
  split
  · exact h
  · extract_lets h₁ a₃ n₄ b₅ w₆ marks₇ d₈ bad₁₀ bs₁₁
    have h₂ : Keeps s₀ h₁.2 := h.readBytes
    have h₉ : Keeps s₀ d₈.2 := h₂.readWords
    split <;> exact h₉

theorem Keeps.withdraw {k : Chunk} {p m : Nat} (h : Keeps s₀ s) : Keeps s₀ (s.withdraw k p m) := by
  unfold State.withdraw
  extract_lets naks₁ bm₂ nf₃ held₄ s₆ s₈ s₁₁ s₁₃ s₁₅
  have h₅ : Keeps s₀ held₄.2 := h.takeHeld
  have h₇ : Keeps s₀ s₆ := h₅.abortOne
  have h₉ : Keeps s₀ s₈ := h₇.foldl fun _ _ h₁₀ => h₁₀.notify
  have h₁₂ : Keeps s₀ s₁₁ := h₉.stepFault
  have h₁₄ : Keeps s₀ s₁₃ := h₁₂.cnt.wr.wr.wr.irq
  have h₁₆ : Keeps s₀ s₁₅ := by
    unfold s₁₅
    clear_value *
    split
    · exact h₁₄.normFault
    · exact h₁₄
  exact (h₁₆.foldl fun _ _ h₁₇ => h₁₇.reserveMiss).finish

theorem Keeps.setPend {k : Chunk} {l : List (Option Nat)} (h : Keeps s₀ s) : Keeps s₀ (s.setPend k l) := by
  unfold State.setPend
  extract_lets s₁
  have h₂ : Keeps s₀ s₁ := h.setChunk
  split
  · exact h₂
  · exact h₂.writeBytes

theorem Keeps.reserveOne {k : Chunk} {x : Flight} (h : Keeps s₀ s) : Keeps s₀ (s.reserveOne k x) := by
  unfold State.reserveOne
  extract_lets -merge -underBinder +onlyGivenNames p₁ m₂ r₃
  have h₄ : Keeps s₀ r₃.2 := h.readRetained
  split
  · exact h₄.withdraw
  · extract_lets rt₅ att₇ t₈ k₁₀
    have h₆ : Keeps s₀ rt₅.2 := h₄.answerRoute
    have h₉ : Keeps s₀ t₈.2 := h₆.sendResult
    split
    · exact h₉.setChunk
    · exact h₉
    · exact h₉.setPend.cnt

theorem Keeps.reserveNak {k : Chunk} {x : Flight} (h : Keeps s₀ s) : Keeps s₀ (s.reserveNak k x) := by
  unfold State.reserveNak
  extract_lets -merge -underBinder +onlyGivenNames p₁
  split
  · exact h
  · split
    · exact h.reserveOne
    · split
      · exact .ite h.cnt h.cnt.frame
      · exact h.setPend.reserveOne

theorem Keeps.actHeld {c chunk : Nat} (h : Keeps s₀ s) : Keeps s₀ (s.actHeld c chunk) := by
  unfold State.actHeld
  split
  · exact h
  · refine h.setChunk.foldl fun _ _ h₂ => ?_
    split
    · exact .ite h₂.reserveNak h₂.reserveMiss
    · exact h₂.reserveMiss

theorem Keeps.tryEnd {c chunk : Nat} (h : Keeps s₀ s) : Keeps s₀ (s.tryEnd c chunk) := by
  unfold State.tryEnd
  split
  · exact h
  · exact .ite h (((((((Keeps.ite (h.foldl fun _ _ h₁ => h₁.coverBlock) h).freeStage).bumpGen).setChunk).sweepQ).actHeld).finish)

theorem Keeps.sendPiece {ph ue : Nat} (h : Keeps s₀ s) : Keeps s₀ (s.sendPiece ph ue) := by
  unfold State.sendPiece
  split
  · exact h
  split
  · exact h.sweepCore
  extract_lets n b segs pm first s₁ k₁ t₁ t₂ s₂ ms r s₃ x s₄ k₂ s₅
  have h₁ : Keeps s₀ s₁ := .ite h.cnt h
  have ht₁ : Keeps s₀ t₁ := h₁.setChunk
  have ht₂ : Keeps s₀ t₂ := .ite ht₁.retainOpen ht₁
  have h₂ : Keeps s₀ s₂ := .ite ht₂.retainPiece h₁
  have h₃ : Keeps s₀ s₃ := by
    refine List.foldl_induct (P := fun r : Bool × Nat × State => Keeps s₀ r.2.2) (fun r m h₃ => ?_) ms h₂
    dsimp only
    split
    · exact h₃
    split
    · exact h₃
    · split <;> exact Keeps.sendResult h₃
  clear_value s₃
  split
  · exact h₃.setCore
  · have h₄ : Keeps s₀ s₄ := h₃.setCore
    have h₅ : Keeps s₀ s₅ := h₄.freeStage.setChunk
    exact h₅.tryEnd

theorem Keeps.feed {c chunk f : Nat} (h : Keeps s₀ s) : Keeps s₀ (s.feed c chunk f) := by
  induction f generalizing s with
  | zero => exact h
  | succ f ih =>
    unfold State.feed
    split
    · exact h
    split
    · exact h
    extract_lets x
    generalize (if x.inv.any (·.entry = 3) then 1 else 0) = a
    split
    · split
      · exact ih h.setChunk.setCore
      · exact h
    · exact h

theorem Keeps.pumpNaks {l : Nat} (h : Keeps s₀ s) : Keeps s₀ (s.pumpNaks l) := by
  unfold State.pumpNaks
  extract_lets ks₃ s₄ w₇
  have h₅ : Keeps s₀ s₄ := h.foldl fun _ _ h₆ => h₆.actHeld
  refine h₅.foldl fun _ _ h₉ => ?_
  split
  · exact .ite h₉.frame.reserveNak h₉
  · exact h₉

theorem Keeps.emitStep {ph ue : Nat} (h : Keeps s₀ s) : Keeps s₀ (s.emitStep ph ue) :=
  .ite (((Keeps.ite h.sendPiece h).foldl fun _ _ h₁ => h₁.feed).pumpNaks) ((Keeps.ite h.sendPiece h).foldl fun _ _ h₂ => h₂.feed)

theorem Keeps.resultNak {l : Nat} (h : Keeps s₀ s) : Keeps s₀ (s.resultNak l) := by
  unfold State.resultNak
  split
  · exact h
  · extract_lets -merge -underBinder +onlyGivenNames p₁
    split
    · exact h
    · split
      · exact h.dropFlight.cnt
      · split
        · exact h
        · extract_lets s₂
          have h₃ : Keeps s₀ s₂ := h.dropFlight
          split
          · exact h₃
          · split
            · exact h₃.cnt
            · split
              · exact h₃.reserveMiss
              · exact .ite h₃.reserveNak (.ite h₃.setChunk h₃.reserveMiss)

theorem Keeps.srgDone {st : Nat} (h : Keeps s₀ s) : Keeps s₀ (s.srgDone st) :=
  h.wr.wr.irq

theorem Keeps.srgLoad {l : List Nat} (h : Keeps s₀ s) : Keeps s₀ (s.srgLoad l) := by
  unfold State.srgLoad
  refine h.foldl fun _ _ h₂ => ?_
  split <;> exact h₂.wr

theorem Keeps.srgRead {table : Nat} (h : Keeps s₀ s) : Keeps s₀ (s.srgRead table) := by
  unfold State.srgRead
  extract_lets i₁
  split
  · exact h.srgLoad.srgDone
  · exact h.srgLoad.srgDone
  · exact .ite h.srgDone h.srgLoad.srgDone
  · exact h.srgLoad.srgDone
  · exact h.srgDone

theorem Keeps.ctxStore {c : Nat} {ws : List Nat} (h : Keeps s₀ s) : Keeps s₀ (s.ctxStore c ws) :=
  h.foldl fun _ _ h₁ => ((Keeps.ite h₁.coverSl h₁.coverSl.coverSl).tset).mend

theorem Keeps.srgWrite {table : Nat} (h : Keeps s₀ s) : Keeps s₀ (s.srgWrite table) := by
  unfold State.srgWrite
  extract_lets -merge -underBinder +onlyGivenNames i₁ d₂
  split
  · exact .ite h.srgDone (.ite h.srgDone h.ctxStore.srgDone)
  · exact .ite h.srgDone (.ite h.srgDone h.coverMod.tset.mend.srgDone)
  · exact .ite h.srgDone h.coverSl.tset.mend.srgDone
  · exact h.srgDone

theorem Keeps.chunkSearch {table : Nat} (h : Keeps s₀ s) : Keeps s₀ (s.chunkSearch table) := by
  unfold State.chunkSearch
  split
  · exact h.srgDone
  · split
    · exact h.srgDone
    · exact h.srgLoad.srgDone

theorem Keeps.abortCtx {c reason : Nat} {quiet : Bool} (h : Keeps s₀ s) : Keeps s₀ (s.abortCtx c reason quiet) := by
  unfold State.abortCtx
  refine h.foldl fun _ _ h₂ => ?_
  split
  · exact .ite h₂.abort h₂
  · exact h₂

theorem Keeps.srgAbort {table : Nat} (h : Keeps s₀ s) : Keeps s₀ (s.srgAbort table) := by
  unfold State.srgAbort
  split
  · exact h.abortCtx.srgDone
  · split
    · exact (Keeps.ite h.abort h).srgDone
    · exact h.srgDone
  · exact h.srgDone

theorem Keeps.srgRelease {table : Nat} (h : Keeps s₀ s) : Keeps s₀ (s.srgRelease table) :=
  .ite h.srgDone (((h.foldl fun _ _ h₁ => h₁.release).finish).srgDone)

theorem Keeps.srgClear {table : Nat} (h : Keeps s₀ s) : Keeps s₀ (s.srgClear table) :=
  .ite h.srgDone ((h.foldl fun _ _ h₁ => h₁.tset).srgDone)

theorem Keeps.srgTcmd {op table : Nat} (h : Keeps s₀ s) : Keeps s₀ (s.srgTcmd op table) := by
  unfold State.srgTcmd
  split
  · exact h.srgRead
  · exact h.srgWrite
  · exact h.chunkSearch
  · exact .ite h.srgDone h.startConvoy.srgDone
  · exact h.srgAbort
  · exact h.srgRelease
  · exact h.srgClear
  · exact h.srgDone

theorem Keeps.kDone {code idx : Nat} (h : Keeps s₀ s) : Keeps s₀ (s.kDone code idx) :=
  h.wr.wr.wr.irq

theorem Keeps.setKernels {ks : List Kernel} (h : Keeps s₀ s) : Keeps s₀ (s.setKernels ks) :=
  h.frame.wr.wr

theorem Keeps.dropKernel {i : Nat} (h : Keeps s₀ s) : Keeps s₀ (s.dropKernel i) := by
  unfold State.dropKernel
  exact (h.foldl fun _ _ h₁ => .ite h₁.setImem h₁).setKernels

theorem Keeps.kLoad (h : Keeps s₀ s) : Keeps s₀ s.kLoad := by
  unfold State.kLoad
  extract_lets -merge -underBinder +onlyGivenNames i a
  clear_value i a
  split
  · exact h.kDone
  have h₁ := h.readRes (a := a) (n := 16)
  generalize s.readRes a 16 = r at h₁ ⊢
  obtain ⟨hd, s₁⟩ := r
  replace h₁ : Keeps s₀ s₁ := h₁
  dsimp only
  have h₂ : ∀ n, Keeps s₀ (s₁.readRes a n).2 := fun _ => h₁.readRes
  generalize s₁.readRes a = r at h₂ ⊢
  split
  · exact h₁.kDone
  split
  · exact h₁.kDone
  generalize h₃ : r _ = r₂
  replace h₂ := h₃ ▸ h₂ _
  obtain ⟨img, s₂⟩ := r₂
  replace h₂ : Keeps s₀ s₂ := h₂
  dsimp only
  split
  · exact h₂.kDone
  split
  · exact h₂.kDone
  split
  · exact h₂.kDone
  split
  · exact h₂.kDone
  split
  · exact h₂.kDone
  · exact .ite h₂.kDone h₂.dropKernel.setKernels.kDone

theorem Keeps.kUnload (h : Keeps s₀ s) : Keeps s₀ (s.kUnload) := by
  unfold State.kUnload
  exact .ite h.kDone h.dropKernel.kDone

theorem Keeps.kInfo (h : Keeps s₀ s) : Keeps s₀ (s.kInfo) :=
  h.wr.wr.wr.wr.kDone

theorem Keeps.atRun {p : Nat} {f : State → State} (h : Keeps s₀ s) (hf : ∀ t, Keeps s₀ t → Keeps s₀ (f t)) : Keeps s₀ (s.atRun p f) :=
  .ite (.ite h.wakeCore h) (hf _ h)

theorem Keeps.residentFor {p i : Nat} (h : Keeps s₀ s) : Keeps s₀ (s.residentFor p i) :=
  .ite h.setImem h.cnt.setImem

theorem Keeps.invoke {p : Nat} {k : Chunk} {entry piece fmt first count : Nat} {ent : Option AqEnt} (h : Keeps s₀ s) : Keeps s₀ (s.invoke p k entry piece fmt first count ent) := by
  unfold State.invoke
  split
  · exact h
  · exact h.residentFor.cnt.frame.setCore

theorem Keeps.onArrive {p : Nat} (h : Keeps s₀ s) : Keeps s₀ (s.onArrive p) := by
  unfold State.onArrive
  extract_lets -merge -underBinder +onlyGivenNames s₁
  have h₂ : Keeps s₀ s₁ := h.sweepCore
  split
  · exact h₂
  · split
    · exact h₂
    · split
      · exact h₂
      · split
        · exact h₂
        · exact h₂.setCore.setChunk.checkComplete.invoke

theorem Keeps.onComplete {p : Nat} (h : Keeps s₀ s) : Keeps s₀ (s.onComplete p) := by
  unfold State.onComplete
  split
  · exact h
  · split
    · exact h
    · split
      · exact h
      · exact h.setChunk.invoke

theorem Keeps.onNorm {p : Nat} (h : Keeps s₀ s) : Keeps s₀ (s.onNorm p) := by
  unfold State.onNorm
  split
  · exact h
  · split
    · exact h
    · exact h.setChunk.invoke

theorem Keeps.onEmit {p : Nat} (h : Keeps s₀ s) : Keeps s₀ (s.onEmit p) := by
  unfold State.onEmit
  split
  · exact h
  · split
    · exact h
    · split
      · exact h
      · exact h.invoke

theorem Keeps.claimStage {k : Chunk} {use : Nat} (h : Keeps s₀ s) : Keeps s₀ (s.claimStage k use).2 := by
  unfold State.claimStage
  extract_lets r₁
  have h₂ : Keeps s₀ r₁.2 := h.takeStage
  split
  · exact h₂.setChunk
  · exact h₂

theorem Keeps.emitEnd {c chunk : Nat} (h : Keeps s₀ s) : Keeps s₀ (s.emitEnd c chunk) := by
  unfold State.emitEnd
  split
  · exact h
  · split
    · exact h
    · extract_lets -merge -underBinder +onlyGivenNames s₁
      have h₂ : Keeps s₀ s₁ := h.setChunk
      split
      · exact h₂
      · exact .ite h₂ (.ite h₂.wr.wr.wr.wr.wr.wr.irq h₂.wr.wr.wr.wr.wr.wr)

theorem Keeps.invDone {p : Nat} {i : Inv} (h : Keeps s₀ s) : Keeps s₀ (s.invDone p i) := by
  unfold State.invDone
  extract_lets -merge -underBinder +onlyGivenNames _ s₁
  have h₂ : Keeps s₀ s₁ := h.setCore
  split
  · exact h₂
  · split
    · extract_lets s₃
      have h₄ : Keeps s₀ s₃ := by
        unfold s₃
        split
        · split
          · exact h₂.dropFlight
          · exact h₂
        · exact h₂
      exact h₄.setChunk
    · exact h₂.setChunk.emitEnd
    · exact h₂.setChunk.emitEnd.feed
    · exact h₂.setCore.setChunk.emitEnd.feed

theorem Keeps.kernelFault {i : Inv} {code : Nat} (h : Keeps s₀ s) : Keeps s₀ (s.kernelFault i code) := by
  unfold State.kernelFault
  extract_lets s₁ s₃ s₅
  have h₂ : Keeps s₀ s₁ := h.cnt.wr.wr.wr
  have h₄ : Keeps s₀ s₃ := h₂.wr.wr.wr.wr
  have h₆ : Keeps s₀ s₅ := h₄.irq
  split
  · exact h₆.poisonChunk
  · exact h₆

theorem Keeps.faultInv {p : Nat} {i : Inv} {code : Nat} (h : Keeps s₀ s) : Keeps s₀ (s.faultInv p i code) := by
  unfold State.faultInv
  split
  · exact .ite (.ite h.claimStage.kernelFault.invDone h.claimStage) h.kernelFault.invDone
  · exact h.kernelFault.invDone

/-- The state an instruction leaves, before the core goes on, waits or faults. -/
def UStep.state : UStep → State
  | .fault _ s => s
  | .stall s => s
  | .go s _ => s

theorem Keeps.umak {p op : Nat} {f : State → Inv → Nat → UStep} (h : Keeps s₀ s)
    (hf : ∀ t i w, Keeps s₀ t → Keeps s₀ (f t i w).state) : Keeps s₀ (s.umak p op f) := by
  unfold State.umak
  split
  · exact h
  next i w _ =>
  have hu := hf s i w h
  cases hstep : f s i w <;> rw [hstep] at hu
  · exact Keeps.faultInv (Keeps.event hu)
  · exact Keeps.event hu
  · exact Keeps.setCore (Keeps.event hu)

theorem Keeps.endU {p : Nat} (h : Keeps s₀ s) : Keeps s₀ (s.endU p) := by
  unfold State.endU
  split
  · exact h
  · split
    · exact h.invDone
    · extract_lets -merge -underBinder +onlyGivenNames r₁
      have h₂ : Keeps s₀ r₁.2 := by
        unfold r₁
        split
        · exact h.claimStage
        · exact h
      exact .ite h₂.event ((Keeps.ite h₂.event.setChunk.kernelFault h₂.event.setChunk).invDone)

theorem Keeps.tallyErrs {k : Chunk} {ue : List (Nat × Nat × Nat)} {ce : Nat} (h : Keeps s₀ s) : Keeps s₀ (s.tallyErrs k ue ce) := by
  unfold State.tallyErrs
  extract_lets s₂
  have h₃ : Keeps s₀ s₂ := .ite h h.cnt
  refine h₃.foldl fun _ _ h₅ => ?_
  split
  · split
    · exact h₅
    · exact .ite h₅ h₅.setChunk.cnt.wr.wr.wr.wr.wr.irq

theorem Keeps.demand {p : Nat} {c : Chunk} {bank : Nat} {live : Bool} {need : List (Nat × Nat)} (h : Keeps s₀ s) : Keeps s₀ (s.demand p c bank live need) := by
  unfold State.demand
  refine h.foldl fun _ _ h₂ => ?_
  split
  · extract_lets -merge -underBinder +onlyGivenNames x₃ same₄
    split
    · exact h₂
    · extract_lets -merge -underBinder +onlyGivenNames r₅ l₇ rs₈
      have h₆ : Keeps s₀ r₅.2 := by
        unfold r₅
        split
        · exact h₂
        · exact h₂.readWords
      exact h₆.setCore

theorem Keeps.sendPartial {n ctx key m : Nat} {b : List Byte} (h : Keeps s₀ s) : Keeps s₀ (s.sendPartial n ctx key m b) := by
  unfold State.sendPartial
  split
  · exact h
  · extract_lets -merge -underBinder +onlyGivenNames ak₁ att₂ f₃ l₅ p₆ r₇
    have h₄ : Keeps s₀ f₃.2 := h.frame
    have h₈ : Keeps s₀ r₇.2 := h₄.originate
    split
    · exact h₈.frame
    · exact h₈.frame
    · exact h₈

theorem Keeps.normFinal {x : NormSlot} (h : Keeps s₀ s) : Keeps s₀ (s.normFinal x) :=
  .ite h (.ite h.setNorm.cnt h.setNorm)

theorem Keeps.logPartial {n ctx round : Nat} {b : List Byte} (h : Keeps s₀ s) : Keeps s₀ (s.logPartial n ctx round b) :=
  h.writeRes

theorem Keeps.normAdd {k : Chunk} {a : Accum} (h : Keeps s₀ s) : Keeps s₀ (s.normAdd k a) := by
  unfold State.normAdd
  split
  · exact h
  · split
    · exact .ite h.cnt h.normFault.finish
    · exact .ite h (.ite h.setNorm (((h.setNorm.foldl fun _ _ h₁ => h₁.frame.sendPartial).logPartial).normFinal))

theorem Keeps.uNrms {i : Inv} {w : Nat} (h : Keeps s₀ s) : Keeps s₀ (Machine.uNrms s i w).state := by
  unfold Machine.uNrms
  extract_lets c
  split
  · exact h
  split
  · exact h
  · exact h.setChunk.normAdd

theorem Keeps.nrmsU {p : Nat} (h : Keeps s₀ s) : Keeps s₀ (s.nrmsU p) :=
  (h.umak fun _ _ _ ht => ht.uNrms).sweepCore

theorem Keeps.emitMode {m : Nat} {f : State → Inv → Nat → UStep} {p : Nat} (h : Keeps s₀ s)
    (hf : ∀ t i w, Keeps s₀ t → Keeps s₀ (f t i w).state) : Keeps s₀ (emitMode m f p s) := by
  unfold Machine.emitMode
  split
  · exact .ite (h.umak hf) h
  · exact h

theorem Keeps.lineFetched {p : Nat} (h : Keeps s₀ s) : Keeps s₀ (s.lineFetched p) := by
  unfold State.lineFetched
  extract_lets -merge -underBinder +onlyGivenNames s₁ x₃
  have h₂ : Keeps s₀ s₁ := h.sweepCore
  split
  · exact h₂
  · split
    · exact h₂
    · extract_lets -merge -underBinder +onlyGivenNames t₄ l₆
      have h₅ : Keeps s₀ t₄.2 := by
        unfold t₄
        split
        · exact h₂
        · exact h₂.readWords
      exact .ite h₅.setCore (.ite h₅.setCore h₂)

theorem Keeps.watchdog {p : Nat} (h : Keeps s₀ s) : Keeps s₀ (s.watchdog p) := by
  unfold State.watchdog
  split
  · exact h
  · exact .ite h h.faultInv

theorem Keeps.showSpares (h : Keeps s₀ s) : Keeps s₀ (s.showSpares) :=
  h.wr

theorem Keeps.mapCore {l p : Nat} (h : Keeps s₀ s) : Keeps s₀ (s.mapCore l p) :=
  (((Keeps.ite h.wr.wr.wr.wakeCore h.wr.wr.wr).wr).wr).showSpares

theorem Keeps.fence {p cause : Nat} (h : Keeps s₀ s) : Keeps s₀ (s.fence p cause) := by
  unfold State.fence
  extract_lets -merge -underBinder +onlyGivenNames active₁ l₂ s₃ s₅
  have h₄ : Keeps s₀ s₃ := h.wr.wr.cnt
  have h₆ : Keeps s₀ s₅ := h₄.wr.wr.wr.wr
  split
  · exact h₆.wr.showSpares
  · extract_lets -merge -underBinder +onlyGivenNames ks₇ _ s₈ s₁₀ _ s₁₃ s₁₅ s₁₇
    have h₉ : Keeps s₀ s₈ := h₆.frame
    have h₁₁ : Keeps s₀ s₁₀ := h₉.foldl fun _ _ h₁₂ => h₁₂.abortOne
    have h₁₄ : Keeps s₀ s₁₃ := h₁₁.frame
    have h₁₆ : Keeps s₀ s₁₅ := h₁₄.setCore.setImem
    have h₁₈ : Keeps s₀ s₁₇ := h₁₆.wr
    split
    · exact h₁₈.mapCore
    · exact h₁₈.wr.showSpares.irq

theorem Keeps.hang {p : Nat} (h : Keeps s₀ s) : Keeps s₀ (s.hang p) := by
  unfold State.hang
  split
  · exact h
  · exact .ite h h.fence

theorem Keeps.coreEcc {p : Nat} {ue : Bool} (h : Keeps s₀ s) : Keeps s₀ (s.coreEcc p ue) :=
  .ite h.cnt.irq (.ite h.fence h)

theorem Keeps.w1c {d : RegD} {w : Wr} {n i j : Nat} (h : Keeps s₀ s) : Keeps s₀ (s.w1c d w n i j) :=
  h.wr

theorem Keeps.fenceCmd {w : Wr} (h : Keeps s₀ s) : Keeps s₀ (s.fenceCmd w) :=
  .ite h.w1c (.ite h.w1c.wr h.w1c.fence)

theorem Keeps.portReopen {l : Nat} (h : Keeps s₀ s) : Keeps s₀ (s.portReopen l) :=
  .ite h h.frame.irq

theorem Keeps.sriCtrl {p : Nat} {w : Wr} (h : Keeps s₀ s) : Keeps s₀ (s.sriCtrl p w) :=
  .ite ((Keeps.ite h.put.wr h.put).wr) (.ite h.put.wr h.put)

theorem Keeps.bistDone {p code : Nat} (h : Keeps s₀ s) : Keeps s₀ (s.bistDone p code) := by
  unfold State.bistDone
  split
  · exact h.wr.fence
  · split
    · exact h
    · extract_lets s₁ s₃ s₅
      have h₂ : Keeps s₀ s₁ := h.wr
      have h₄ : Keeps s₀ s₃ := h₂.wr.wr.showSpares
      have h₆ : Keeps s₀ s₅ := by
        unfold s₅
        split
        · exact h₄.mapCore.frame
        · exact h₄
      exact h₆.irq

theorem Keeps.ldgCover {t : State} {n j : Nat} (h : Keeps s₀ t) : Keeps s₀ (s.ldgCover t n j) :=
  h.coverMod

theorem Keeps.ldgCfg {n : Nat} {w : Wr} (h : Keeps s₀ s) : Keeps s₀ (s.ldgCfg n w) := by
  unfold State.ldgCfg
  extract_lets -merge -underBinder +onlyGivenNames was₁ en₂ lay₃ refuse₄ s1₅
  have h₆ : Keeps s₀ s1₅ := h.put
  split
  · exact .ite (.ite h₆.irq h₆) (.ite ((Keeps.ite h₆.irq h₆).irq) ((((Keeps.ite h₆.irq h₆).wr).ldgCover).freeNorms))
  · extract_lets s2₇ s3₉
    have h₈ : Keeps s₀ s2₇ := h₆.wr
    have h₁₀ : Keeps s₀ s3₉ := h₈.ldgCover
    split
    · exact h₁₀
    · split
      · exact h₁₀.wr.wr.wr.irq
      · exact h₁₀.wr.ldgCover.clearCover.wr

theorem Keeps.normSlotFor {n ctx key slice : Nat} (h : Keeps s₀ s) : Keeps s₀ (s.normSlotFor n ctx key slice).2 := by
  unfold State.normSlotFor
  extract_lets -merge -underBinder +onlyGivenNames st₁ r₂
  split
  · exact h
  · extract_lets -merge -underBinder +onlyGivenNames cur₃ nxt₄
    split
    · exact h
    · split
      · exact h.claimNorm
      · exact h

theorem Keeps.normArrive {l : Nat} (h : Keeps s₀ s) : Keeps s₀ (s.normArrive l) := by
  unfold State.normArrive
  split
  · exact h
  · extract_lets -merge -underBinder +onlyGivenNames p₁
    split
    · exact h
    · extract_lets -merge -underBinder +onlyGivenNames s₂ c₄ n₅
      have h₃ : Keeps s₀ s₂ := h.dropFlight
      split
      · exact h₃.cnt.nak
      · split
        · exact h₃.cnt
        · split
          · exact h₃.cnt.nak
          · extract_lets -merge -underBinder +onlyGivenNames r₆ s₈
            have h₇ : Keeps s₀ r₆.2 := h₃.normSlotFor
            have h₉ : Keeps s₀ s₈ := h₇
            split
            · exact h₉.cnt
            · exact h₉.cnt.nak
            · extract_lets -merge -underBinder +onlyGivenNames bits₁₀
              split
              · exact h₉.cnt
              · split
                · exact .ite h₉.cnt h₉.cnt.normFault.finish
                · exact h₉.setNorm.normFinal

theorem Keeps.findPartial {n ctx key : Nat} (h : Keeps s₀ s) : Keeps s₀ (s.findPartial n ctx key).2 := by
  have hr : Keeps s₀ (s.readRes (s.logAddr n (key % 65536)) 12).2 := h.readRes
  unfold State.findPartial
  generalize s.readRes (s.logAddr n (key % 65536)) 12 = r at *
  exact .snd hr

theorem Keeps.normRetry (h : Keeps s₀ s) : Keeps s₀ (s.normRetry) := by
  unfold State.normRetry
  extract_lets -merge -underBinder +onlyGivenNames due₂ _ s₃ s₅
  have h₄ : Keeps s₀ s₃ := h.frame
  have h₆ : Keeps s₀ s₅ := by
    unfold s₅
    refine h₄.foldl fun _ _ h₉ => ?_
    extract_lets r₁₀
    have h₁₁ : Keeps s₀ r₁₀.2 := h₉.findPartial
    split
    · exact h₁₁.sendPartial
    · exact .ite h₁₁.cnt h₁₁
  exact h₆.foldl fun _ _ h₁₂ => (h₁₂.foldl fun _ _ h₁₃ => h₁₃.normNak).setNorm

theorem Keeps.normRequest {l : Nat} (h : Keeps s₀ s) : Keeps s₀ (s.normRequest l) := by
  unfold State.normRequest
  split
  · exact h
  · extract_lets -merge -underBinder +onlyGivenNames p₁
    split
    · exact h
    · split
      · split
        · exact h
        · extract_lets -merge -underBinder +onlyGivenNames s₂
          have h₃ : Keeps s₀ s₂ := h.dropFlight
          split
          · exact h₃
          · extract_lets -merge -underBinder +onlyGivenNames n₄
            split
            · exact h₃.cnt
            · split
              · exact h₃.frame
              · split
                · exact h₃.cnt
                · extract_lets r₅
                  have h₆ : Keeps s₀ r₅.2 := h₃.findPartial
                  split
                  · exact h₆.cnt
                  · exact h₆.sendPartial
      · exact h

theorem Keeps.normAbort {l : Nat} (h : Keeps s₀ s) : Keeps s₀ (s.normAbort l) := by
  unfold State.normAbort
  split
  · exact h
  · extract_lets -merge -underBinder +onlyGivenNames p₁
    split
    · exact h
    · split
      · extract_lets s₂
        have h₃ : Keeps s₀ s₂ := h.dropFlight
        split
        · exact h₃
        · split
          · exact h₃.normFault.finish
          · exact h₃.cnt
      · exact h

theorem Keeps.normTimeout (h : Keeps s₀ s) : Keeps s₀ (s.normTimeout) :=
  h.foldl fun _ _ h₁ => h₁.cnt.irq.normFault.finish

theorem Keeps.ldgDone {st reason : Nat} (h : Keeps s₀ s) : Keeps s₀ (s.ldgDone st reason) :=
  h.wr.wr.wr.irq

theorem Keeps.ldgFlip {n : Nat} (h : Keeps s₀ s) : Keeps s₀ (s.ldgFlip n) := by
  unfold State.ldgFlip
  extract_lets r₁
  have h₂ : Keeps s₀ r₁.1 := h.flip
  split <;> exact h₂.ldgDone

theorem Keeps.ldgRevert {n : Nat} (h : Keeps s₀ s) : Keeps s₀ (s.ldgRevert n) :=
  .ite h.ldgDone (.ite h.ldgDone h.wr.wr.wr.clearCover.ldgDone)

theorem Keeps.ldgAbandon {n : Nat} (h : Keeps s₀ s) : Keeps s₀ (s.ldgAbandon n) := by
  unfold State.ldgAbandon
  extract_lets ks₂ s₃ s₅ s₁₀
  have h₄ : Keeps s₀ s₃ := h.freeNorms
  have h₆ : Keeps s₀ s₅ := by
    unfold s₅
    refine h₄.foldl fun _ _ h₉ => ?_
    split
    · exact .ite h₉.abort h₉
    · exact h₉
  have h₁₁ : Keeps s₀ s₁₀ := h₆.releaseStep
  exact h₁₁.clearCover.wr.wr.ldgDone

theorem Keeps.copyBlock {n b : Nat} (h : Keeps s₀ s) : Keeps s₀ (s.copyBlock n b) :=
  h.readWords.writeWords.coverBlock

theorem Keeps.ldgCopy {n : Nat} (h : Keeps s₀ s) : Keeps s₀ (s.ldgCopy n) :=
  .ite h.ldgDone (.ite h.ldgDone ((h.foldl fun _ _ h₁ => h₁.copyBlock).ldgDone))

theorem Keeps.ldgSet {n : Nat} (h : Keeps s₀ s) : Keeps s₀ (s.ldgSet n) :=
  .ite h.ldgDone h.wr.wr.wr.clearCover.ldgDone

theorem Keeps.ldgLoad {n : Nat} (h : Keeps s₀ s) : Keeps s₀ (s.ldgLoad n) :=
  .ite h.ldgDone h.loadParam.ldgDone

theorem Keeps.bcCopies {p : Pkt} {pipe kids : Nat} {bad : Bool} (h : Keeps s₀ s) : Keeps s₀ (s.bcCopies p pipe kids bad).2 := by
  refine Keeps.foldl_snd (r := (0, s)) h fun r f h₁ => ?_
  dsimp only
  split
  · exact h₁
  split
  · exact h₁.bcCopy
  · exact h₁.bcCopy
  · exact h₁.bcCopy.bcWait

theorem Keeps.bcRoom {t : State} (h : Keeps s₀ s) (e : s.bcRoom = some t) : Keeps s₀ t := by
  unfold State.bcRoom at e
  split at e
  · cases e
    exact h
  · obtain ⟨x, -, rfl⟩ := Option.map_eq_some_iff.mp e
    exact h.setBc

theorem Keeps.bcLocal {p : Pkt} {pipe : Nat} (h : Keeps s₀ s) : Keeps s₀ (s.bcLocal p pipe) :=
  .ite h (.ite h.bcCopy.bcWait h.bcCopy)

theorem Keeps.bcArrive (h : Keeps s₀ s) : Keeps s₀ (s.bcArrive) := by
  unfold State.bcArrive
  split
  · exact h
  · extract_lets -merge -underBinder +onlyGivenNames _ p₁ s₂
    have h₃ : Keeps s₀ s₂ := h.dropFlight
    split
    · exact h₃.cnt
    · split
      · exact .ite h₃.cnt.putBc (.ite h₃.cnt.bcCopies.putBc.bcCheck h₃.cnt.bcAck)
      · split
        · exact h₃.cnt
        · next t₄ e₅ =>
          have h₆ : Keeps s₀ t₄ := h₃.bcRoom e₅
          exact (((((Keeps.ite h₆.cnt h₆).cnt).bcCopies).bcLocal).setBc).bcCheck

theorem Keeps.childTimeout (h : Keeps s₀ s) : Keeps s₀ (s.childTimeout) :=
  h.foldl fun _ _ h₁ => h₁.bcClose

theorem Keeps.bcHold (h : Keeps s₀ s) : Keeps s₀ (s.bcHold) :=
  h.setBc

theorem Keeps.dropLock {e r cause : Nat} {x : Ring} (h : Keeps s₀ s) : Keeps s₀ (s.dropLock e r cause x) := by
  unfold State.dropLock
  extract_lets s₁
  have h₂ : Keeps s₀ s₁ := h.setRing
  split
  · exact h₂
  · exact h₂.leave.lookRings

theorem Keeps.ringLoss {e r : Nat} {out : Bool} (h : Keeps s₀ s) : Keeps s₀ (s.ringLoss e r out) :=
  .ite h h.dropLock

theorem Keeps.heaters {e : Nat} {temps : List Nat} {dith : List Int} {bad : List Nat} (h : Keeps s₀ s) : Keeps s₀ (s.heaters e temps dith bad) := by
  unfold State.heaters
  split
  · exact h
  · extract_lets -merge -underBinder +onlyGivenNames _ s₅ t₇ s₈ s₁₀
    have h₆ : Keeps s₀ s₅ := h.frame
    have h₉ : Keeps s₀ s₈ := h₆.wr.wr.wr.wr
    have h₁₁ : Keeps s₀ s₁₀ := h₉.foldl fun _ _ h₁₂ => h₁₂.ringLoss
    refine h₁₁.foldl fun _ _ h₁₄ => ?_
    split
    · exact h₁₄
    · extract_lets temp₁₅ c₁₆ f₁₇ code₁₉ x₂₀ h₂₁ s₂₂
      have h₁₈ : Keeps s₀ f₁₇.2 := by
        unfold f₁₇
        split
        · exact h₁₄
        · exact h₁₄.frame
      have h₂₃ : Keeps s₀ s₂₂ := h₁₈.setRing
      exact .ite h₂₃.ringLoss h₂₃

theorem Keeps.monStart {e : Nat} {f : Nat → Bool} (h : Keeps s₀ s) : Keeps s₀ (s.monStart e f) := by
  unfold State.monStart
  split
  · exact .ite h.frame h
  · exact h

theorem Keeps.ringBack {e r offset order up down : Nat} (h : Keeps s₀ s) : Keeps s₀ (s.ringBack e r offset order up down) := by
  unfold State.ringBack
  extract_lets -merge -underBinder +onlyGivenNames x₁
  split
  · exact h
  · extract_lets -merge -underBinder +onlyGivenNames lane₂ s₃ s₅ s₇ _ s₉
    have h₄ : Keeps s₀ s₃ := h.setRing
    have h₆ : Keeps s₀ s₅ := h₄.monStart
    have h₈ : Keeps s₀ s₇ := .ite h₆.opxDone h₆
    have h₁₀ : Keeps s₀ s₉ := .ite h₈ (.ite h₈.cnt.opxIrq.cnt h₈.cnt.opxIrq)
    clear_value *
    split
    · exact h₁₀
    · exact h₁₀.lookRings

theorem Keeps.sweep {e r : Nat} (h : Keeps s₀ s) : Keeps s₀ (s.sweep e r) :=
  h.cnt.dropLock

theorem Keeps.recal {e r : Nat} (h : Keeps s₀ s) : Keeps s₀ (s.recal e r) :=
  .ite h (((Keeps.ite h.frame h).frame).sweep)

theorem Keeps.combLoss {e c : Nat} (h : Keeps s₀ s) : Keeps s₀ (s.combLoss e c) :=
  .ite h h.wr.cnt.opxIrq.frame.refit

theorem Keeps.toSpare {e c lead : Nat} (h : Keeps s₀ s) : Keeps s₀ (s.toSpare e c lead) :=
  .ite h (.ite h.opxIrq h.ownChange)

theorem Keeps.relockTimeout {e c : Nat} (h : Keeps s₀ s) : Keeps s₀ (s.relockTimeout e c) := by
  unfold State.relockTimeout
  split
  · exact h
  · exact .ite h (.ite h.frame.toSpare h.frame)

theorem Keeps.forceLine {e c line : Nat} (h : Keeps s₀ s) : Keeps s₀ (s.forceLine e c line) :=
  .ite h (h.foldl fun _ _ h₁ => .ite h₁ (.ite h₁.opxIrq h₁.ownChange))

theorem Keeps.fadeAct {e c line i : Nat} (h : Keeps s₀ s) : Keeps s₀ (s.fadeAct e c line i) := by
  unfold State.fadeAct
  extract_lets s₁ s₃
  have h₂ : Keeps s₀ s₁ := h.wr.wr.wr
  have h₄ : Keeps s₀ s₃ := h₂.wr.opxIrq
  exact .ite h₄ (.ite h₄.forceLine (.ite (.ite h₄.opxIrq h₄) (.ite h₄.toSpare h₄)))

theorem Keeps.fadeComb {e c : Nat} {powers : List Nat} (h : Keeps s₀ s) : Keeps s₀ (s.fadeComb e c powers) := by
  unfold State.fadeComb
  extract_lets -merge -underBinder +onlyGivenNames p₁ b₂ sp₃ sb₄
  split
  · exact h
  · extract_lets -merge -underBinder +onlyGivenNames key₅ old₆ new₇ lo₈ fr₉ val₁₁ top₁₂ _ _ s₁₃ s₁₅ s₁₇ s₁₉
    have h₁₀ : Keeps s₀ fr₉.2 := by
      unfold fr₉
      split
      · exact h
      · exact h.frame
    have h₁₄ : Keeps s₀ s₁₃ := h₁₀.frame
    have h₁₆ : Keeps s₀ s₁₅ := h₁₄.wr.wr
    have h₁₈ : Keeps s₀ s₁₇ := .ite h₁₆.refit h₁₆
    have h₂₀ : Keeps s₀ s₁₉ := h₁₈.foldl fun _ _ h₂₁ => h₂₁.fadeAct
    exact h₂₀.foldl fun _ _ h₂₂ => .ite h₂₂ (h₂₂.frame.foldl fun _ _ h₂₃ => h₂₃.fadeAct)

theorem Keeps.fadeEval {e : Nat} {powers : List Nat} (h : Keeps s₀ s) : Keeps s₀ (s.fadeEval e powers) :=
  .ite h ((h.frame.foldl fun _ _ h₁ => h₁.fadeComb).monStart)

theorem Keeps.baseline {e : Nat} {powers : List Nat} {flashOk : Bool} (h : Keeps s₀ s) : Keeps s₀ (s.baseline e powers flashOk) :=
  .ite h h.frame.wr

theorem Keeps.sweepRing {e : Nat} (h : Keeps s₀ s) : Keeps s₀ (s.sweepRing e) :=
  .ite h (.ite h.opxDone ((Keeps.ite h.setRing h.sweep).wr))

theorem Keeps.monCmd {e tap int : Nat} (h : Keeps s₀ s) : Keeps s₀ (s.monCmd e tap int) :=
  .ite h h.frame

theorem Keeps.monDone {e power : Nat} (h : Keeps s₀ s) : Keeps s₀ (s.monDone e power) := by
  unfold State.monDone
  split
  · exact .ite h h.frame.wr.wr.opxIrq
  · exact h

theorem Keeps.announce {e : Nat} (h : Keeps s₀ s) : Keeps s₀ (s.announce e) :=
  .ite h.chgAccept h.chgRefuse.wr

theorem Keeps.chgGone {c : OptChg} (h : Keeps s₀ s) : Keeps s₀ (s.chgGone c) :=
  h.frame.foldl fun _ _ h₁ => h₁.setFib

theorem Keeps.withdrawChg {e : Nat} (h : Keeps s₀ s) : Keeps s₀ (s.withdrawChg e) := by
  unfold State.withdrawChg
  extract_lets a₁
  split
  · exact h
  · exact h.chgGone.chgStat.foldl fun _ _ h₂ => .ite h₂ h₂.sendLmf.cnt

theorem Keeps.bypNotice {p : BypPrep} {f : Nat} (h : Keeps s₀ s) : Keeps s₀ (s.bypNotice p f) := by
  unfold State.bypNotice
  split
  · exact h
  · exact .ite h h.putPrep.sendLmf.cnt

theorem Keeps.noticeResend {f : Nat} (h : Keeps s₀ s) : Keeps s₀ (s.noticeResend f) :=
  (h.foldl fun _ _ h₁ => h₁.chgNotice).foldl fun _ _ h₂ => h₂.bypNotice

theorem Keeps.chgDone {c : OptChg} (h : Keeps s₀ s) : Keeps s₀ (s.chgDone c) :=
  .ite h (.ite ((h.chgStat.opxIrq.foldl fun _ _ h₁ => h₁.wr).cnt) h.chgStat.opxIrq.wr.wrLane.setRing.setRing.cnt)

theorem Keeps.shiftTimers {f w : Nat} (h : Keeps s₀ s) : Keeps s₀ (s.shiftTimers f w) :=
  h.foldl fun _ _ h₁ => h₁.setTx.setRx

theorem Keeps.holdEnd {e : Nat} (h : Keeps s₀ s) : Keeps s₀ (s.holdEnd e) :=
  h.foldl fun _ _ h₁ => h₁.chgDone.chgGone.foldl fun _ _ h₂ => h₂.shiftTimers

theorem Keeps.holdOver {e : Nat} (h : Keeps s₀ s) : Keeps s₀ (s.holdOver e) :=
  .ite h.holdEnd (h.holdEnd.frame.foldl fun _ _ h₁ => h₁.pwrReq)

theorem Keeps.combOff {e c : Nat} {w : Wr} (h : Keeps s₀ s) : Keeps s₀ (s.combOff e c w) :=
  .ite h.opxDone (.ite h.wr.wr.refit h.wr.refit)

theorem Keeps.windowRx {f id c : Nat} {lanes : List Nat} {line : Option Nat} {off : Bool} (h : Keeps s₀ s) : Keeps s₀ (s.windowRx f id c lanes line off) :=
  .ite h (.ite h.cnt h.setFib.cnt)

theorem Keeps.rxOpen {f : Nat} (h : Keeps s₀ s) : Keeps s₀ (s.rxOpen f) :=
  h.setFib

theorem Keeps.rxSwitch {f : Nat} (h : Keeps s₀ s) : Keeps s₀ (s.rxSwitch f) := by
  unfold State.rxSwitch
  extract_lets x₁
  split
  · exact h
  · exact h.setFib.setRing.setRing

theorem Keeps.rxClose {f : Nat} (h : Keeps s₀ s) : Keeps s₀ (s.rxClose f) :=
  h.setFib.foldl fun _ _ h₁ => h₁.setLaneX

theorem Keeps.laneDisable {l : Nat} (h : Keeps s₀ s) : Keeps s₀ (s.laneDisable l) :=
  .ite h.setLaneX.leave h.setLaneX.setLane.setCause

theorem Keeps.laneRetrain {l : Nat} (h : Keeps s₀ s) : Keeps s₀ (s.laneRetrain l) :=
  .ite (.ite h (.ite h.setLane.setCause (.ite h.toTrain h.setLaneX))) (.ite h.leaveOne (.ite h.leave h))

theorem Keeps.setBer {l x : Nat} (h : Keeps s₀ s) : Keeps s₀ (s.setBer l x) :=
  h.wrLane

theorem Keeps.laneReady {l ber : Nat} (h : Keeps s₀ s) : Keeps s₀ (s.laneReady l ber) := by
  unfold State.laneReady
  extract_lets -merge -underBinder +onlyGivenNames f₁
  split
  · exact h
  · extract_lets -merge -underBinder +onlyGivenNames s₂ fresh₄ s₅ _ s₇ _ s₉
    have h₃ : Keeps s₀ s₂ := h.setBer
    have h₆ : Keeps s₀ s₅ := h₃.setLane
    have h₈ : Keeps s₀ s₇ := h₆.setLaneX
    have h₁₀ : Keeps s₀ s₉ := .ite h₈.setFib.setTrv h₈
    exact .ite h₁₀.rejoin h₁₀

theorem Keeps.portUp {lp : Nat} (h : Keeps s₀ s) : Keeps s₀ (s.portUp lp) :=
  h.wr.setTx.setRx

theorem Keeps.enterService {l : Nat} (h : Keeps s₀ s) : Keeps s₀ (s.enterService l) := by
  unfold State.enterService
  split
  · exact h
  · split
    · exact h
    · exact .ite h (.ite h.setLane h.setLane.portUp)

theorem Keeps.laneCause {lx : List (Nat × Nat)} {cause : Nat} (h : Keeps s₀ s) : Keeps s₀ (s.laneCause lx cause) :=
  .ite ((h.spoil.foldl fun _ _ h₁ => h₁.lnkIrq).leave) (.ite (((Keeps.ite (h.foldl fun _ _ h₂ => h₂.setBer) h).leave).leave) h)

theorem Keeps.laneNoticeRx {l v : Nat} (h : Keeps s₀ s) : Keeps s₀ (s.laneNoticeRx l v) :=
  .ite h (.ite h.setLaneX (.ite h.noticeRx h))

theorem Keeps.probeRx {f n : Nat} (h : Keeps s₀ s) : Keeps s₀ (s.probeRx f n) :=
  .ite h h.sendLmf.sendTrvState

theorem Keeps.evalWaiting {g : Nat} (h : Keeps s₀ s) : Keeps s₀ (s.evalWaiting g) :=
  h.foldl fun _ _ h₁ => .ite h₁.cross h₁

theorem Keeps.checkDatum {f : Nat} (h : Keeps s₀ s) : Keeps s₀ (s.checkDatum f) :=
  .ite h.cnt.wr.irq h

theorem Keeps.identRx {f : Nat} {i : Ident} (h : Keeps s₀ s) : Keeps s₀ (s.identRx f i) :=
  .ite h h.cnt.wr.wr.wr.wr.wr.wr.wr.setFib.checkDatum.evalFibre.evalWaiting

theorem Keeps.logBeacon {b : Beacon} {mark : Nat} (h : Keeps s₀ s) : Keeps s₀ (s.logBeacon b mark) :=
  .ite h ((Keeps.ite h.writeRes.wr.cnt h.writeRes.wr).frame)

theorem Keeps.check {kind subj : Nat} {differs counts : Bool} (h : Keeps s₀ s) : Keeps s₀ (s.check kind subj differs counts) :=
  .ite h.frame (.ite h.frame (.ite h.frame.cnt.wr.wr.wr.wr.irq h.frame))

theorem Keeps.beaconRx {f : Nat} {b : Beacon} (h : Keeps s₀ s) : Keeps s₀ (s.beaconRx f b) := by
  unfold State.beaconRx
  split
  · exact h
  · extract_lets -merge -underBinder +onlyGivenNames s₁ s₃ s₅ _ s₇
    have h₂ : Keeps s₀ s₁ := h.wr.wr.wr.wr
    have h₄ : Keeps s₀ s₃ := h₂.wr.wr.wr
    have h₆ : Keeps s₀ s₅ := h₄.cnt.logBeacon
    have h₈ : Keeps s₀ s₇ := h₆.frame
    exact .ite h₈ ((Keeps.ite h₈ h₈.check).check)

theorem Keeps.bypNoticeRx {f id c : Nat} {on : Bool} (h : Keeps s₀ s) : Keeps s₀ (s.bypNoticeRx f id c on) :=
  .ite h (.ite h.cnt h.setFib.cnt)

theorem Keeps.portLmf {f lp : Nat} {g : State → State} (h : Keeps s₀ s) (hf : ∀ t, Keeps s₀ t → Keeps s₀ (g t)) : Keeps s₀ (s.portLmf f lp g) :=
  .ite (hf _ h) h.cnt

theorem Keeps.ackTx {lp q : Nat} (h : Keeps s₀ s) : Keeps s₀ (s.ackTx lp q) :=
  .ite h h.setTx

theorem Keeps.portFault {lp : Nat} (h : Keeps s₀ s) : Keeps s₀ (s.portFault lp) :=
  h.cnt.lnkIrq.leave

theorem Keeps.replay {lp q : Nat} (h : Keeps s₀ s) : Keeps s₀ (s.replay lp q) :=
  h.setTx.cnt

theorem Keeps.reqTx {lp q : Nat} (h : Keeps s₀ s) : Keeps s₀ (s.reqTx lp q) :=
  .ite h.cnt (.ite h.portFault h.replay)

theorem Keeps.creditRx {lp : Nat} {cs : List Nat} (h : Keeps s₀ s) : Keeps s₀ (s.creditRx lp cs) :=
  h.setTx

theorem Keeps.lmfPass {f typ : Nat} {b : List Byte} (h : Keeps s₀ s) : Keeps s₀ (s.lmfPass f typ b) := by
  unfold State.lmfPass
  extract_lets l₁ g₂ ptp₃
  split
  · exact .ite h.probeRx h
  · exact h.identRx
  · exact .ite h.syncRx h
  · exact h.followUpRx
  · exact .ite h.pdelayReqRx h
  · exact .ite (.ite h.pdelayRespRx h) h
  · exact .ite h.announceRx h
  · exact h.beaconRx
  · exact h.windowRx
  · exact h.windowRx
  · exact h.bypNoticeRx
  · exact .ite h h.laneNoticeRx
  · exact h.portLmf (fun _ h₄ => h₄.ackTx)
  · exact h.portLmf (fun _ h₅ => h₅.reqTx)
  · exact h.portLmf (fun _ h₆ => h₆.creditRx)
  · exact h

theorem Keeps.lmfTake {f : Nat} {m : LmfSlot} (h : Keeps s₀ s) : Keeps s₀ (s.lmfTake f m) :=
  .ite h.cnt (.ite h.cnt h.lmfPass)

theorem Keeps.lmfDrain {f n : Nat} (h : Keeps s₀ s) : Keeps s₀ (s.lmfDrain f n) := by
  induction n generalizing s with
  | zero => exact h
  | succ n ih =>
    unfold State.lmfDrain
    extract_lets x
    split
    · split
      · exact ih h.setFib.lmfTake
      · exact h
    · exact h

theorem Keeps.lmfRx {f : Nat} {m : LmfSlot} (h : Keeps s₀ s) : Keeps s₀ (s.lmfRx f m) := by
  unfold State.lmfRx
  extract_lets x₁
  split
  · exact .ite h.setFib.lmfTake.lmfDrain (.ite h.setFib h.lmfTake)
  · exact h.setFib.lmfTake.lmfDrain

theorem Keeps.slotRx {f : Nat} {b : List Byte} (h : Keeps s₀ s) : Keeps s₀ (s.slotRx f b) := by
  unfold State.slotRx
  split
  · exact h
  · split
    · exact h.cnt
    · exact h.lmfRx

theorem Keeps.ctrlWord {l : Nat} {w : CtrlWord} (h : Keeps s₀ s) : Keeps s₀ (s.ctrlWord l w) :=
  .ite h (h.setLaneX.foldl fun _ _ h₁ => h₁.slotRx)

theorem Keeps.controlRx {l : Nat} {sym : List Nat} (h : Keeps s₀ s) : Keeps s₀ (s.controlRx l sym) := by
  unfold State.controlRx
  extract_lets w₁ s₂
  have h₃ : Keeps s₀ s₂ := h.fecCount
  clear_value *
  split
  · exact h₃
  · split
    · exact .ite h₃.ctrlWord h₃
    · exact h₃

theorem Keeps.lmfLate {f : Nat} (h : Keeps s₀ s) : Keeps s₀ (s.lmfLate f) := by
  unfold State.lmfLate
  extract_lets x₁
  split
  · exact .ite h h.setFib.lmfDrain
  · exact h

theorem Keeps.sendAck {lp : Nat} (h : Keeps s₀ s) : Keeps s₀ (s.sendAck lp) := by
  unfold State.sendAck
  exact h.setRx.sendPortLmf

theorem Keeps.retryTimeout {lp : Nat} (h : Keeps s₀ s) : Keeps s₀ (s.retryTimeout lp) := by
  unfold State.retryTimeout
  extract_lets t₁ e₂
  split
  · exact h
  · exact .ite h (.ite h.portFault h.replay)

theorem Keeps.reqTimeout {lp : Nat} (h : Keeps s₀ s) : Keeps s₀ (s.reqTimeout lp) := by
  unfold State.reqTimeout
  split
  · exact h
  · exact .ite h h.askReplay

theorem Keeps.grantVc {lp vc : Nat} (h : Keeps s₀ s) : Keeps s₀ (s.grantVc lp vc) :=
  .ite h h.setRx

theorem Keeps.sendCredit {lp : Nat} (h : Keeps s₀ s) : Keeps s₀ (s.sendCredit lp) := by
  unfold State.sendCredit
  exact h.setRx.sendPortLmf

theorem Keeps.creditTimer {lp : Nat} {vcs : List Nat} (h : Keeps s₀ s) : Keeps s₀ (s.creditTimer lp vcs) :=
  .ite h (.ite ((h.foldl fun _ _ h₁ => h₁.grantVc).sendCredit) (h.foldl fun _ _ h₂ => h₂.grantVc))

theorem Keeps.probeTimer {f : Nat} (h : Keeps s₀ s) : Keeps s₀ (s.probeTimer f) :=
  .ite h h.setFib.sendLmf

theorem Keeps.goAbsent {f : Nat} (h : Keeps s₀ s) : Keeps s₀ (s.goAbsent f) :=
  .ite h.setFib.setTrv (.ite h.setFib (h.setFib.setTrv.cnt.foldl fun _ _ h₁ => .ite h₁.wr.irq h₁))

theorem Keeps.absentTimeout {f : Nat} (h : Keeps s₀ s) : Keeps s₀ (s.absentTimeout f) :=
  .ite h (.ite h.goAbsent h)

theorem Keeps.trvDone {st : Nat} (h : Keeps s₀ s) : Keeps s₀ (s.trvDone st) :=
  h.wr.wr.irq

theorem Keeps.platStage {f w v : Nat} (h : Keeps s₀ s) : Keeps s₀ (s.platStage f w v) :=
  h.foldl fun _ _ h₁ => h₁.frame

theorem Keeps.acceptCross {f : Nat} (h : Keeps s₀ s) : Keeps s₀ (s.acceptCross f) := by
  unfold State.acceptCross
  split
  · exact h.trvDone
  · extract_lets g₃ force₄ staged₅ s₆ s₁₁ s₁₆
    have h₇ : Keeps s₀ s₆ := by
      unfold s₆
      refine h.foldl fun _ _ h₁₀ => ?_
      split <;> exact h₁₀.platPut.platPut
    have h₁₂ : Keeps s₀ s₁₁ := by
      unfold s₁₁
      refine h₇.foldl fun _ _ h₁₅ => ?_
      split <;> exact h₁₅.platStage.platStage
    have h₁₇ : Keeps s₀ s₁₆ := h₁₂.evalFibre.evalFibre
    exact h₁₇.trvDone

theorem Keeps.reeval {f : Nat} (h : Keeps s₀ s) : Keeps s₀ (s.reeval f) :=
  .ite h.trvDone (.ite h.trvDone h.setFib.setTrv.trvDone)

theorem Keeps.trvCtrl {w : Wr} (h : Keeps s₀ s) : Keeps s₀ (s.trvCtrl w) :=
  .ite h.put.put.put.put (h.put.put.put.put.foldl fun _ _ h₁ => h₁.setFib)

theorem Keeps.bypDone {st reason : Nat} (h : Keeps s₀ s) : Keeps s₀ (s.bypDone st reason) :=
  .ite h.wr.wr.wr.bypIrq h.wr.wr.wr.bypIrq.cnt.bypIrq

theorem Keeps.prepare (h : Keeps s₀ s) : Keeps s₀ (s.prepare) := by
  unfold State.prepare
  extract_lets -merge -underBinder +onlyGivenNames p₄ why₅
  split
  · exact h.bypDone
  · extract_lets -merge -underBinder +onlyGivenNames s₁₂
    have h₁₃ : Keeps s₀ s₁₂ := h.foldl fun _ _ h₁₄ => h₁₄.setPending
    exact .ite h₁₃.frame.bypDone ((((((h₁₃.frame.foldl fun _ _ h₁₅ => h₁₅.setByp.bar).armOwn).bypNotice).bypNotice).wr).bypDone)

theorem Keeps.bypWithdraw (h : Keeps s₀ s) : Keeps s₀ (s.bypWithdraw) := by
  unfold State.bypWithdraw
  extract_lets q₁
  split
  · exact h.bypDone
  · split
    · exact h.bypDone
    · extract_lets -merge -underBinder +onlyGivenNames s₄
      have h₅ : Keeps s₀ s₄ := h.delPrep.foldl fun _ _ h₆ => h₆.setPending
      split
      · exact h₅.bypDone
      · extract_lets s₇ s₁₀
        have h₈ : Keeps s₀ s₇ := h₅.foldl fun _ _ h₉ => .ite h₉.bypNormal h₉.bypNormal.sendLmf.cnt
        have h₁₁ : Keeps s₀ s₁₀ := by
          unfold s₁₀
          split
          · exact .ite h₈.cancelUnit.reDepth h₈
          · exact h₈
        exact h₁₁.bypDone

theorem Keeps.lapse (h : Keeps s₀ s) : Keeps s₀ (s.lapse) := by
  unfold State.lapse
  refine h.foldl fun _ _ h₆ => ?_
  extract_lets -merge -underBinder +onlyGivenNames s₁₁ s₁₄
  have h₁₂ : Keeps s₀ s₁₁ := h₆.foldl fun _ _ h₁₃ => h₁₃.setPending
  have h₁₅ : Keeps s₀ s₁₄ := h₁₂.cnt
  exact .ite (.ite h₁₅.bypIrq.putPrep h₁₅.delPrep) (.ite h₁₅.delPrep.bypNormal.bypNormal h₁₅.delPrep)

theorem Keeps.farCut {f : Nat} (h : Keeps s₀ s) : Keeps s₀ (s.farCut f) :=
  .ite h (.ite h.setFib.leave.setTrv h.setFib.leave)

theorem Keeps.inputPower {powers : List Nat} (h : Keeps s₀ s) : Keeps s₀ (s.inputPower powers) :=
  .ite h (.ite (((h.foldl fun _ _ h₁ => h₁.wr).frame).bypIrq) ((h.foldl fun _ _ h₂ => h₂.wr).frame))

theorem Keeps.meshParity {i : Nat} (h : Keeps s₀ s) : Keeps s₀ (s.meshParity i) :=
  .ite h h.spoil.cnt.bypIrq

theorem Keeps.dtmDone {st reason : Nat} (h : Keeps s₀ s) : Keeps s₀ (s.dtmDone st reason) :=
  h.wr.wr.wr

theorem Keeps.dtmCommit {par : Nat} (h : Keeps s₀ s) : Keeps s₀ (s.dtmCommit par) :=
  .ite h.commit.dtmDone h.commit.dtmDone

theorem Keeps.discard {m : Nat} (h : Keeps s₀ s) : Keeps s₀ (s.discard m) :=
  .ite h.dtmDone ((h.foldl fun _ _ h₁ => h₁.unstage).dtmDone)

theorem Keeps.dtmSlice (h : Keeps s₀ s) : Keeps s₀ (s.dtmSlice) :=
  .ite h.sliceCommit.dtmDone h.sliceCommit.dtmDone

theorem Keeps.dropStaged {sl : Nat} (h : Keeps s₀ s) : Keeps s₀ (s.dropStaged sl) :=
  h.frame

theorem Keeps.purgeSerai {sl : Nat} (h : Keeps s₀ s) : Keeps s₀ (s.purgeSerai sl) := by
  unfold State.purgeSerai
  extract_lets ks₄ nf₅ s₆ s₉ s₁₂ s₁₇ s₂₀
  have h₇ : Keeps s₀ s₆ := h.foldl fun _ _ h₈ => h₈.abortOne
  have h₁₀ : Keeps s₀ s₉ := h₇.foldl fun _ _ h₁₁ => h₁₁.release
  have h₁₃ : Keeps s₀ s₁₂ := by
    unfold s₁₂
    refine h₁₀.foldl fun _ _ h₁₆ => ?_
    split
    · exact h₁₆.normFault
    · exact h₁₆
  have h₁₈ : Keeps s₀ s₁₇ := h₁₃.foldl fun _ _ h₁₉ => h₁₉.finish
  have h₂₁ : Keeps s₀ s₂₀ := h₁₈.setBc
  exact h₂₁.foldl fun _ _ h₂₂ => h₂₂.ctxStore

theorem Keeps.purge {sl : Nat} (h : Keeps s₀ s) : Keeps s₀ (s.purge sl) :=
  .ite h.dtmDone ((h.setSliceState.dropStaged.purgeSerai.foldl fun _ _ h₁ => h₁.retFlush).dtmDone)

theorem Keeps.clearSlice {sl : Nat} (h : Keeps s₀ s) : Keeps s₀ (s.clearSlice sl) :=
  (h.foldl fun _ _ h₁ => h₁.foldl fun _ _ h₂ => h₂.tset).frame

theorem Keeps.purgeDone {sl : Nat} (h : Keeps s₀ s) : Keeps s₀ (s.purgeDone sl) :=
  .ite h h.clearSlice.wr.wr.wr.frame.setSliceState.irq

theorem Keeps.recompute (h : Keeps s₀ s) : Keeps s₀ (s.recompute) :=
  h.frame.wr

theorem Keeps.datumDiffers {module : Bool} {sl : Nat} (h : Keeps s₀ s) : Keeps s₀ (s.datumDiffers module sl) :=
  .ite h.cnt.wr.wr h.cnt.wr.wr

theorem Keeps.walkEnd (h : Keeps s₀ s) : Keeps s₀ (s.walkEnd) := by
  unfold State.walkEnd
  split
  · exact h
  · extract_lets -merge -underBinder +onlyGivenNames m₅ ss₆ _ t₇ diff₉ u₁₀ u₁₂ u₁₄ u₁₆
    have h₈ : Keeps s₀ t₇ := h.frame
    have h₁₁ : Keeps s₀ u₁₀ := h₈.cnt
    have h₁₃ : Keeps s₀ u₁₂ := .ite h₁₁.wr h₁₁
    have h₁₅ : Keeps s₀ u₁₄ := .ite h₁₃.datumDiffers h₁₃
    have h₁₇ : Keeps s₀ u₁₆ := h₁₅.foldl fun _ _ h₁₈ => h₁₈.datumDiffers
    exact (Keeps.ite h₁₇.irq h₁₇).dtmDone

theorem Keeps.readModuleLo (h : Keeps s₀ s) : Keeps s₀ (s.readModuleLo) :=
  h.wr.emit

theorem Keeps.beaconSilent {f : Nat} (h : Keeps s₀ s) : Keeps s₀ (s.beaconSilent f) :=
  .ite h.frame (.ite h.frame (.ite h.frame.cnt.irq h.frame))

theorem Keeps.ownChecks (h : Keeps s₀ s) : Keeps s₀ (s.ownChecks) :=
  .ite h ((Keeps.ite h.check h).foldl fun _ _ h₁ => .ite h₁.cnt.check (.ite h₁ h₁.check))

theorem Keeps.beaconInterval (h : Keeps s₀ s) : Keeps s₀ (s.beaconInterval) :=
  .ite h (((Keeps.ite h.frame ((h.frame.foldl fun _ _ h₁ => .ite h₁.sendLmf.cnt h₁).logBeacon)).ownChecks).foldl fun _ _ h₂ => h₂.beaconSilent)

theorem Keeps.graceEnd (h : Keeps s₀ s) : Keeps s₀ (s.graceEnd) :=
  h.frame

theorem Keeps.dtmTDone {st : Nat} (h : Keeps s₀ s) : Keeps s₀ (s.dtmTDone st) :=
  h.wr.wr.irq

theorem Keeps.dtmLoad {l : List Nat} (h : Keeps s₀ s) : Keeps s₀ (s.dtmLoad l) := by
  unfold State.dtmLoad
  refine h.foldl fun _ _ h₂ => ?_
  split <;> exact h₂.wr

theorem Keeps.dtmRead {table : Nat} (h : Keeps s₀ s) : Keeps s₀ (s.dtmRead table) := by
  unfold State.dtmRead
  extract_lets -merge -underBinder +onlyGivenNames sl₁ par₂
  split
  · exact h.dtmLoad.dtmTDone
  · exact ((Keeps.ite h.cnt h).dtmLoad).dtmTDone
  · exact h.dtmLoad.dtmTDone
  · exact ((Keeps.ite h.cnt h).dtmLoad).dtmTDone
  · exact h.dtmTDone

theorem Keeps.dtmStage {t sl w v : Nat} (h : Keeps s₀ s) : Keeps s₀ (s.dtmStage t sl w v) :=
  h.frame

theorem Keeps.dtmWrite {table : Nat} (h : Keeps s₀ s) : Keeps s₀ (s.dtmWrite table) :=
  .ite h.dtmTDone (.ite h.dtmTDone (.ite (.ite h.dtmTDone h.dtmStage.dtmTDone) ((h.foldl fun _ _ h₁ => h₁.dtmStage).dtmTDone)))

theorem Keeps.readLine {line cls : Nat} (h : Keeps s₀ s) : Keeps s₀ (s.readLine line cls).2 :=
  h.readWords

theorem Keeps.flipWord {w d c : Nat} (h : Keeps s₀ s) : Keeps s₀ (s.flipWord w d c) :=
  .ite h.setWord h

theorem Keeps.flipByte {dev o x : Nat} (h : Keeps s₀ s) : Keeps s₀ (s.flipByte dev o x) :=
  .ite h.flipWord (.ite (h.foldl fun _ _ h₁ => h₁.flipWord) h)

theorem Keeps.looseGranules {i x : Nat} (h : Keeps s₀ s) : Keeps s₀ (s.looseGranules i x) :=
  .ite h.frameMem h

theorem Keeps.strike {errs : List (Nat × Nat)} (h : Keeps s₀ s) : Keeps s₀ (s.strike errs) := by
  unfold State.strike
  refine h.foldl fun _ _ h₂ => ?_
  split <;> exact .ite h₂.flipByte (.ite h₂.looseGranules h₂)

theorem Keeps.hostMemRead {a : Nat} {errs : List (Nat × Nat)} (h : Keeps s₀ s) : Keeps s₀ (s.hostMemRead a errs) :=
  .ite h h.strike.readLine.emit

theorem Keeps.hostMemWrite {a : Nat} {bytes : List Byte} {mask : Nat} {poison : Bool} (h : Keeps s₀ s) : Keeps s₀ (s.hostMemWrite a bytes mask poison) :=
  .ite h (.ite h.srefAccess (h.memEvent.foldl fun _ _ h₁ => .ite h₁.writeMarker h₁.writePart))

theorem Keeps.scrubAt {blk : Nat} (h : Keeps s₀ s) : Keeps s₀ (s.scrubAt blk) := by
  unfold State.scrubAt
  extract_lets s₂ ws₄ dirty₅ s₆
  have h₃ : Keeps s₀ s₂ := h.memEvent
  have h₇ : Keeps s₀ s₆ := by
    unfold s₆
    refine h₃.foldl fun _ _ h₁₀ => ?_
    extract_lets k₁₁ r₁₂
    have h₁₃ : Keeps s₀ r₁₂.2 := h₁₀.readWord
    clear_value *
    split
    · exact h₁₃.setWord
    · exact h₁₃.writeMarker
    · exact h₁₃
  exact .ite h₇.cnt h₇

theorem Keeps.scrubStep {errs : List (Nat × Nat)} (h : Keeps s₀ s) : Keeps s₀ (s.scrubStep errs) := by
  unfold State.scrubStep
  extract_lets -merge -underBinder +onlyGivenNames s₁
  have h₂ : Keeps s₀ s₁ := h.strike
  split
  · exact h₂
  · split
    · exact .ite h₂ h₂.wr.frameMem.wr
    · exact h₂.wr.scrubAt.frameMem

theorem Keeps.memDone {st : Nat} (h : Keeps s₀ s) : Keeps s₀ (s.memDone st) :=
  h.wr.wr.irq

theorem Keeps.rewrite (h : Keeps s₀ s) : Keeps s₀ (s.rewrite) :=
  .ite h.memDone (.ite h.srefAccess.memDone ((h.foldl fun _ _ h₁ => .ite h₁.scrubAt h₁).memDone))

theorem Memory.wf_filter {m : List Host.Cell} (f : Host.Cell → Bool) (h : Memory.wf m = true) : Memory.wf (m.filter f) = true := by
  simp only [Memory.wf, Bool.and_eq_true, decide_eq_true_eq, List.all_eq_true] at h ⊢
  exact ⟨h.1.filter f, fun c hc => h.2 c (List.mem_filter.mp hc).1⟩

theorem Keeps.zero (h : Keeps s₀ s) : Keeps s₀ s.zero := by
  unfold State.zero
  extract_lets -merge -underBinder +onlyGivenNames a n
  split
  · exact h.memDone
  split
  · exact h.memDone
  · refine Keeps.memDone (Keeps.showPoison ?_)
    exact ⟨h.queue, h.clock, fun hs => Memory.wf_filter _ (h.memory hs)⟩

theorem Keeps.clkenWrite {pg : Nat} {w : Wr} (h : Keeps s₀ s) : Keeps s₀ (s.clkenWrite pg w) :=
  .ite h (.ite h.wr (.ite h.wr h.pwrRefuse))

theorem Keeps.irqWrite {pg : Nat} {mask : Bool} {w : Wr} (h : Keeps s₀ s) : Keeps s₀ (s.irqWrite pg mask w) :=
  .ite ((Keeps.ite h.put h.w1c).sendVec) (.ite h.put h.w1c)

theorem Keeps.pwrWrite {pg : Nat} {w : Wr} (h : Keeps s₀ s) : Keeps s₀ (s.pwrWrite pg w) :=
  .ite h h.pwrReq

theorem Keeps.cntCtrlWrite {pg : Nat} {w : Wr} (h : Keeps s₀ s) : Keeps s₀ (s.cntCtrlWrite pg w) :=
  h.put.put.put.foldl fun _ _ h₁ => h₁.wr

theorem Keeps.stage {d : RegD} {v n i : Nat} (h : Keeps s₀ s) : Keeps s₀ (s.stage d v n i) :=
  h.frame

theorem Keeps.plainField {n : Nat} {w : Wr} {x : RegD × Nat × Nat} (h : Keeps s₀ s) : Keeps s₀ (s.plainField n w x) := by
  unfold State.plainField
  split
  · split
    · exact .ite h.put (.ite h.stage h)
    · exact h.w1c
    · exact h

theorem Keeps.plainWrite {pg off : Nat} {w : Wr} (h : Keeps s₀ s) : Keeps s₀ (s.plainWrite pg off w) :=
  h.foldl fun _ _ h₁ => h₁.plainField

theorem Keeps.holdSel {pg : Nat} (h : Keeps s₀ s) : Keeps s₀ (s.holdSel pg) :=
  h.frame

theorem Keeps.headWrite {pg off : Nat} {w : Wr} (h : Keeps s₀ s) : Keeps s₀ (s.headWrite pg off w) :=
  .ite h.clkenWrite (.ite h.irqWrite (.ite h.irqWrite (.ite h.pwrWrite (.ite h.cntCtrlWrite (.ite h.holdSel.plainWrite h.plainWrite)))))

theorem Keeps.msixWrite {off : Nat} {w : Wr} (h : Keeps s₀ s) : Keeps s₀ (s.msixWrite off w) :=
  .ite h (.ite h.frame.frame.sendVec h.frame)

theorem Keeps.dmaEnd {c st : Nat} (h : Keeps s₀ s) : Keeps s₀ (s.dmaEnd c st) :=
  h.frame.wr.wr.wr.sendVec

theorem Keeps.dmaCtrl {c : Nat} {w : Wr} (h : Keeps s₀ s) : Keeps s₀ (s.dmaCtrl c w) :=
  .ite h.put (.ite h.put.dmaEnd h.put.frame.wr.wr)

theorem Keeps.hifWrite {off : Nat} {w : Wr} (h : Keeps s₀ s) : Keeps s₀ (s.hifWrite off w) :=
  .ite h.msixWrite (.ite h.dmaCtrl h.plainWrite)

theorem Keeps.clkCtrl {w : Wr} (h : Keeps s₀ s) : Keeps s₀ (s.clkCtrl w) :=
  .ite h.put.put h.put.put.frame.wr.wr

theorem Keeps.clkCmd {w : Wr} (h : Keeps s₀ s) : Keeps s₀ (s.clkCmd w) :=
  .ite h.frame h

theorem Keeps.clkObs {w : Wr} (h : Keeps s₀ s) : Keeps s₀ (s.clkObs w) :=
  .ite (.ite h.put.put.wr.wr.irq h.put.put.frame.wr.wr.wr) (.ite h.put.put.wr.wr h.put.put)

theorem Keeps.pwrDone {st reason : Nat} (h : Keeps s₀ s) : Keeps s₀ (s.pwrDone st reason) :=
  h.wr.wr.wr.irq

theorem Keeps.setSref {v : Nat} (h : Keeps s₀ s) : Keeps s₀ (s.setSref v) :=
  h.foldl fun _ _ h₁ => h₁.wr

theorem Keeps.srefEnter (h : Keeps s₀ s) : Keeps s₀ (s.srefEnter) :=
  .ite h.pwrDone h.setSref.pwrDone

theorem Keeps.srefExit (h : Keeps s₀ s) : Keeps s₀ (s.srefExit) :=
  h.setSref.pwrDone

theorem Keeps.pwrCmd {op : Nat} (h : Keeps s₀ s) : Keeps s₀ (s.pwrCmd op) := by
  unfold State.pwrCmd
  split
  · exact h.srefEnter
  · exact h.srefExit
  · exact h

theorem Keeps.pwrFibreWrite {f : Nat} {w : Wr} (h : Keeps s₀ s) : Keeps s₀ (s.pwrFibreWrite f w) :=
  h.put.fibreIdle.reDepth

theorem Keeps.clkPwrWrite {pg off : Nat} {w : Wr} (h : Keeps s₀ s) : Keeps s₀ (s.clkPwrWrite pg off w) :=
  .ite (.ite h.clkCtrl (.ite h.clkCmd (.ite h.clkObs h.plainWrite))) (.ite (.ite h.pwrCmd h) (.ite h.pwrFibreWrite h.plainWrite.reDepth))

theorem Keeps.timWrite {off : Nat} {w : Wr} (h : Keeps s₀ s) : Keeps s₀ (s.timWrite off w) := by
  unfold State.timWrite
  split
  · exact h.timCtrl
  · split
    · split
      · exact h.clkSet
      · exact h.stepClock
      · exact h
    · exact .ite h.timRate (.ite h.tpoCfg (.ite h.timPort h.plainWrite))

theorem Keeps.crnWrite {off : Nat} {w : Wr} (h : Keeps s₀ s) : Keeps s₀ (s.crnWrite off w) :=
  .ite h.crnCtrlWrite (.ite (.ite h.crnUnitWrite (.ite h.crnCtrlUnit h)) h.plainWrite)

theorem Keeps.dtmCmd {op par : Nat} (h : Keeps s₀ s) : Keeps s₀ (s.dtmCmd op par) := by
  unfold State.dtmCmd
  split
  · exact h.dtmCommit
  · exact h.discard
  · exact h.dtmSlice
  · exact h.purge
  · exact h.recompute
  · exact h.dtmDone

theorem Keeps.dtmTcmd {op table : Nat} (h : Keeps s₀ s) : Keeps s₀ (s.dtmTcmd op table) := by
  unfold State.dtmTcmd
  split
  · exact h.dtmRead
  · exact h.dtmWrite
  · exact h.dtmTDone

theorem Keeps.dtmWr {off : Nat} {w : Wr} {par : Nat} (h : Keeps s₀ s) : Keeps s₀ (s.dtmWr off w par) :=
  .ite (.ite h.dtmCmd h) (.ite (.ite h.dtmTcmd h) h.plainWrite)

theorem Keeps.srgWr {off : Nat} {w : Wr} (h : Keeps s₀ s) : Keeps s₀ (s.srgWr off w) := by
  unfold State.srgWr
  split
  · exact .ite h.srgTcmd h
  · split
    · exact h.fenceCmd
    · split
      · split
        · exact h.kLoad
        · exact h.kUnload
        · exact h.kInfo
        · exact h
      · exact h.plainWrite

theorem Keeps.ldgCmd {op n : Nat} (h : Keeps s₀ s) : Keeps s₀ (s.ldgCmd op n) := by
  unfold State.ldgCmd
  split
  · exact h.ldgFlip
  · exact h.ldgRevert
  · exact h.ldgAbandon
  · exact h.ldgCopy
  · exact h.ldgSet
  · exact h.ldgLoad
  · exact h.ldgDone

theorem Keeps.ldgRegWrite {n j : Nat} {w : Wr} (h : Keeps s₀ s) : Keeps s₀ (s.ldgRegWrite n j w) := by
  unfold State.ldgRegWrite
  split
  · exact h.irq
  · extract_lets t₁
    have h₂ : Keeps s₀ t₁ := by
      unfold t₁
      split
      · exact h.put
      · exact h.put
      · exact h.put
      · exact h.put.put.put
    exact h₂.ldgCover

theorem Keeps.ldgWr {off : Nat} {w : Wr} (h : Keeps s₀ s) : Keeps s₀ (s.ldgWr off w) :=
  .ite (.ite h.ldgCmd h) (.ite h (.ite h.ldgCfg (.ite h.ldgRegWrite (.ite h.ldgRegWrite h.plainWrite))))

theorem Keeps.chgCmd {e op : Nat} (h : Keeps s₀ s) : Keeps s₀ (s.chgCmd e op) := by
  unfold State.chgCmd
  split
  · exact h.announce
  · exact h.withdrawChg
  · exact h

theorem Keeps.opxWrite {e off : Nat} {w : Wr} {env : Env} (h : Keeps s₀ s) : Keeps s₀ (s.opxWrite e off w env) := by
  unfold State.opxWrite
  split
  · split
    · exact h.baseline
    · exact h.sweepRing
    · exact .ite h.opxDone h
  · exact .ite h.chgCmd (.ite (.ite h.monCmd h) (.ite h.combOff h.plainWrite))

theorem Keeps.secDone {st reason bytes : Nat} (h : Keeps s₀ s) : Keeps s₀ (s.secDone st reason bytes) :=
  h.wr.wr.wr.wr.irq

theorem Keeps.secDma {f : State → State} (h : Keeps s₀ s) (hf : ∀ t, Keeps s₀ t → Keeps s₀ (f t)) : Keeps s₀ (s.secDma f) :=
  .ite (hf _ h) h.secDone

theorem Keeps.secOut {bs : List Byte} (h : Keeps s₀ s) : Keeps s₀ (s.secOut bs) :=
  h.emit

theorem Keeps.secAttest {nonce : List Byte} (h : Keeps s₀ s) : Keeps s₀ (s.secAttest nonce) :=
  h.secDma (fun _ h₁ => h₁.secOut.secDone)

theorem Keeps.secStage {bytes : List Byte} (h : Keeps s₀ s) : Keeps s₀ (s.secStage bytes) :=
  h.secDma (fun _ h₁ => .ite h₁.secDone (.ite h₁.frame.secDone (.ite h₁.frame.secDone h₁.frame.secDone)))

theorem Keeps.secBoot (h : Keeps s₀ s) : Keeps s₀ (s.secBoot) :=
  .ite h.frame.secDone h.secDone

theorem Keeps.secRaise (h : Keeps s₀ s) : Keeps s₀ (s.secRaise) :=
  .ite h.secDone (.ite h.secDone h.frame.wr.wr.secDone)

theorem Keeps.setAnchor {ws : List Nat} (h : Keeps s₀ s) : Keeps s₀ (s.setAnchor ws) :=
  (h.frame.foldl fun _ _ h₁ => h₁.wr).secDone

theorem Keeps.secAnchor {hash : List Byte} (h : Keeps s₀ s) : Keeps s₀ (s.secAnchor hash) :=
  h.secDma (fun _ h₁ => h₁.setAnchor)

theorem Keeps.secClear (h : Keeps s₀ s) : Keeps s₀ (s.secClear) :=
  h.setAnchor

theorem Keeps.secCert (h : Keeps s₀ s) : Keeps s₀ (s.secCert) :=
  h.secDma (fun _ h₁ => .ite h₁.secDone h₁.secOut.secDone)

theorem Keeps.secClose (h : Keeps s₀ s) : Keeps s₀ (s.secClose) :=
  h.endSess.secDone

theorem Keeps.secCmd {op : Nat} {bytes : List Byte} (h : Keeps s₀ s) : Keeps s₀ (s.secCmd op bytes) := by
  unfold State.secCmd
  split
  · exact h.secAttest
  · exact h.secStage
  · exact h.secBoot
  · exact h.secRaise
  · exact h.secAnchor
  · exact h.secClear
  · exact h.secCert
  · exact h.secClose
  · exact h.secDone

theorem Keeps.trvCmd {op f : Nat} (h : Keeps s₀ s) : Keeps s₀ (s.trvCmd op f) := by
  unfold State.trvCmd
  split
  · exact h.acceptCross
  · exact h.reeval
  · exact h.trvDone

theorem Keeps.bypCmd {op : Nat} (h : Keeps s₀ s) : Keeps s₀ (s.bypCmd op) := by
  unfold State.bypCmd
  split
  · exact h.prepare
  · exact h.bypWithdraw
  · exact h.bypDone

theorem Keeps.coverReg {t : State} {idx : Nat} {ds : List RegD} (h : Keeps s₀ t) : Keeps s₀ (s.coverReg t idx ds) :=
  h.coverMod

theorem Keeps.coveredWrite {pg off : Nat} {w : Wr} (h : Keeps s₀ s) : Keeps s₀ (s.coveredWrite pg off w) := by
  unfold State.coveredWrite
  extract_lets t₁
  have h₂ : Keeps s₀ t₁ := h.plainWrite
  split
  · exact h₂.coverReg
  · exact h₂

theorem Keeps.alphaWrite {w : Wr} (h : Keeps s₀ s) : Keeps s₀ (s.alphaWrite w) :=
  .ite h.coveredWrite h

theorem Keeps.pmcCmd {w : Wr} (h : Keeps s₀ s) : Keeps s₀ (s.pmcCmd w) :=
  .ite h (h.foldl fun _ _ h₁ => h₁.foldl fun _ _ h₂ => h₂.wr)

theorem Keeps.telDisarm (h : Keeps s₀ s) : Keeps s₀ (s.telDisarm) := by
  unfold State.telDisarm
  extract_lets -merge -underBinder +onlyGivenNames s₁
  have h₂ : Keeps s₀ s₁ := by
    unfold s₁
    split
    · exact .ite h.cancelUnit.reDepth h
    · exact h
  exact h₂.frame

theorem Keeps.telWrite {off : Nat} {w : Wr} (h : Keeps s₀ s) : Keeps s₀ (s.telWrite off w) :=
  .ite (((Keeps.ite h.put.put.put h.put.put).telDisarm).telArm) (.ite ((Keeps.ite h.put.put.put h.put.put).telDisarm) (.ite h.put.put.put h.put.put))

theorem Keeps.memCmd {op : Nat} (h : Keeps s₀ s) : Keeps s₀ (s.memCmd op) := by
  unfold State.memCmd
  split
  · exact h.rewrite
  · exact h.zero
  · exact h.memDone

theorem Keeps.laneCmd {e lane op : Nat} (h : Keeps s₀ s) : Keeps s₀ (s.laneCmd e lane op) := by
  unfold State.laneCmd
  split
  · exact h.laneDisable
  · exact h.laneRetrain
  · exact h

theorem Keeps.blockWrite {pg off : Nat} {w : Wr} {env : Env} (h : Keeps s₀ s) : Keeps s₀ (s.blockWrite pg off w env) := by
  unfold State.blockWrite
  exact .ite (.ite h.secCmd h) (.ite h.trvCtrl (.ite (.ite h.trvCmd h) (.ite h.bypCmd (.ite h.alphaWrite (.ite (.ite h.qshTcmd h)
    (.ite h.pmcCmd (.ite h.telWrite (.ite (.ite h.memCmd h) (.ite h.laneCmd (.ite h.seedWrite (.ite (.ite h.fwdTcmd h)
    (.ite h.sriCtrl h.coveredWrite))))))))))))

theorem Keeps.regWrite {pg off : Nat} {w : Wr} {env : Env} (h : Keeps s₀ s) : Keeps s₀ (s.regWrite pg off w env) := by
  unfold State.regWrite
  split
  · exact h.headWrite
  · exact .ite h.hifWrite (.ite h.clkPwrWrite (.ite h.timWrite (.ite h.crnWrite (.ite h.dtmWr (.ite h.srgWr (.ite h.ldgWr (.ite h.opxWrite h.blockWrite)))))))

theorem Keeps.busWrite {pg off : Nat} {w : Wr} {env : Env} (h : Keeps s₀ s) : Keeps s₀ (s.busWrite pg off w env).2 := by
  unfold State.busWrite
  split
  · exact h.refuseAccess
  · exact h.writeServed (fun _ h₁ => h₁.regWrite)

theorem Keeps.ringAccess {q off : Nat} {f : State → State} (h : Keeps s₀ s) (hf : ∀ t, Keeps s₀ t → Keeps s₀ (f t)) : Keeps s₀ (s.ringAccess q off f) :=
  .ite h.refuseAccess (.ite h.refuseAccess (hf _ h.event))

theorem Keeps.ringCfg {q : Nat} {w : Wr} (h : Keeps s₀ s) : Keeps s₀ (s.ringCfg q w) :=
  .ite h.put.put.put.put h.put.put.put.put.setHring

theorem Keeps.doorbell {q : Nat} {w : Wr} (h : Keeps s₀ s) : Keeps s₀ (s.doorbell q w) :=
  .ite h (.ite h.irq h.wr)

theorem Keeps.ringCmd {q : Nat} {w : Wr} (h : Keeps s₀ s) : Keeps s₀ (s.ringCmd q w) :=
  .ite h (.ite h.setHring h.ringClear)

theorem Keeps.ringWrite {q off : Nat} {w : Wr} (h : Keeps s₀ s) : Keeps s₀ (s.ringWrite q off w) :=
  h.ringAccess (fun _ h₁ => .ite h₁.put (.ite h₁.ringCfg (.ite h₁.doorbell (.ite h₁.ringCmd h₁))))

theorem Keeps.hostStore {bar pg off size v : Nat} {env : Env} (h : Keeps s₀ s) : Keeps s₀ (s.hostStore bar pg off size v env) := by
  unfold State.hostStore
  split
  · exact h.refuseAccess
  · exact .ite h.busWrite (.ite h.ringWrite h)

theorem Keeps.busRead {pg off : Nat} (h : Keeps s₀ s) : Keeps s₀ (s.busRead pg off).2 := by
  unfold State.busRead
  split
  · exact h.refuseAccess
  · exact h.event.regRead

theorem Keeps.descReads {pg : Nat} {l : List Nat} (h : Keeps s₀ s) : Keeps s₀ (s.descReads pg l).2.2 := by
  induction l generalizing s with
  | nil => exact h
  | cons o l ih =>
    unfold State.descReads
    extract_lets r
    have hr : Keeps s₀ r.2 := h.busRead
    split
    · exact hr
    · exact ih hr

theorem Keeps.descFinish {q : Nat} {d : Desc} {poll : Nat} {lost : List Nat} (h : Keeps s₀ s) : Keeps s₀ (s.descFinish q d poll lost) :=
  h.descReads.ringDone

theorem Keeps.descPoll {q : Nat} {d : Desc} {lost : List Nat} (h : Keeps s₀ s) : Keeps s₀ (s.descPoll q d lost) := by
  unfold State.descPoll
  extract_lets -merge -underBinder +onlyGivenNames r₁
  have h₂ : Keeps s₀ r₁.2 := h.busRead
  split
  · exact h₂.ringDone
  · exact .ite h₂.setHring h₂.descFinish

theorem Keeps.descWrites {pg : Nat} {env : Env} {l : List (Nat × Nat)} (h : Keeps s₀ s) : Keeps s₀ (s.descWrites pg env l).2 := by
  induction l generalizing s with
  | nil => exact h
  | cons x l ih =>
    unfold State.descWrites
    extract_lets r
    have hr : Keeps s₀ r.2 := h.busWrite
    split
    · exact ih hr
    · exact hr

theorem Keeps.descRun {q op : Nat} {env : Env} {lost : List Nat} (h : Keeps s₀ s) : Keeps s₀ (s.descRun q op env lost) := by
  unfold State.descRun
  extract_lets r₁
  split
  · exact h
  · extract_lets -merge -underBinder +onlyGivenNames d₂
    split
    · exact h
    · exact .ite h.descPoll.ringServe (.ite h.descWrites.ringDone.ringServe (.ite h.descWrites.setHring.descPoll.ringServe h.descWrites.descFinish.ringServe))

theorem Keeps.hpDone {q res : Nat} {words : List Nat} {lost : Bool} (h : Keeps s₀ s) : Keeps s₀ (s.hpDone q res words lost) :=
  .ite h.ringStop (.ite h.toHost.wr.ringStat.sendVec h.toHost.wr.ringStat)

theorem Keeps.hostDrop {q : Nat} {c : RegD} {lost : Bool} (h : Keeps s₀ s) : Keeps s₀ (s.hostDrop q c lost) :=
  h.cnt.cnt.irq.hpDone

theorem Keeps.hostSend {q count : Nat} {p : Pkt} {lost : Bool} (h : Keeps s₀ s) : Keeps s₀ (s.hostSend q count p lost) := by
  unfold State.hostSend
  split
  · exact h.hostDrop
  · split
    · exact h.allocFail
    · extract_lets p₁ r₂
      have h₃ : Keeps s₀ r₂.2 := h.resolve
      split
      · exact h₃.hostDrop
      · split
        · exact h₃.allocFail
        · next _ t₄ e₅ =>
          have h₆ : Keeps s₀ t₄ := h₃.takeShared e₅
          exact h₆.enter.frame.hpDone

theorem Keeps.fragAdd {src sess typ idx cnt ctr : Nat} {body : List Byte} (h : Keeps s₀ s) : Keeps s₀ (s.fragAdd src sess typ idx cnt ctr body).2 := by
  unfold State.fragAdd
  extract_lets -merge -underBinder +onlyGivenNames mine₁ old₂ rest₃ _ s₄ have_₆
  have h₅ : Keeps s₀ s₄ := h.frame
  clear_value *
  split
  · exact h₅
  · split
    · exact h₅
    · split
      · exact h₅
      · exact h₅.frame

theorem Keeps.judgeTag {sess ctr : Nat} {pl : List Byte} (h : Keeps s₀ s) : Keeps s₀ (s.judgeTag sess ctr pl).2 := by
  unfold State.judgeTag
  split
  · exact h.cnt
  · split
    · exact h.cnt
    · split
      · exact h.cnt
      · exact h.putSess

theorem Keeps.mgmtTake {typ : Nat} {f : Pkt → Nat → Option Sess → List Byte → State → State} (h : Keeps s₀ s) (hf : ∀ x0 x1 x2 x3 t, Keeps s₀ t → Keeps s₀ (f x0 x1 x2 x3 t)) : Keeps s₀ (s.mgmtTake typ f) := by
  unfold State.mgmtTake
  split
  · exact h
  · extract_lets -merge -underBinder +onlyGivenNames p₁
    split
    · exact h
    · extract_lets -merge -underBinder +onlyGivenNames s₂
      have h₃ : Keeps s₀ s₂ := h.dropFlight
      split
      · exact h₃
      · extract_lets -merge -underBinder +onlyGivenNames sess₄ idx₅ cnt₆ ctr₇
        split
        · extract_lets r₈
          have h₉ : Keeps s₀ r₈.2 := h₃.fragAdd
          split
          · exact hf _ _ _ _ _ h₉
          · exact h₉
        · extract_lets -merge -underBinder +onlyGivenNames j₁₀
          have h₁₁ : Keeps s₀ j₁₀.2 := h₃.judgeTag
          split
          · exact h₁₁
          · extract_lets r₁₂
            have h₁₃ : Keeps s₀ r₁₂.2 := h₁₁.fragAdd
            split
            · exact hf _ _ _ _ _ h₁₃
            · exact h₁₃

theorem Keeps.hostDeliver {q buf : Nat} {lost : Bool} (h : Keeps s₀ s) : Keeps s₀ (s.hostDeliver q buf lost) := by
  unfold State.hostDeliver
  split
  · exact h
  · split
    · exact h
    · extract_lets p₁ f₂ port₄ s₅ s₇
      have h₃ : Keeps s₀ f₂.2 := h.frame
      have h₆ : Keeps s₀ s₅ := by
        unfold s₅
        refine Keeps.dropFlight ?_
        split
        · exact h
        · exact h₃
      have h₈ : Keeps s₀ s₇ := h₆.toHost
      exact h₈.hpDone

theorem Keeps.dmaOut {d : DmaRun} {i : Nat} (h : Keeps s₀ s) : Keeps s₀ (dmaOut d s i).2 :=
  h.readLine.emit

theorem Keeps.dmaIn {d : DmaRun} {bytes : List Byte} {bad : Bool} {i : Nat} (h : Keeps s₀ s) : Keeps s₀ (dmaIn d bytes bad s i) :=
  h.writeWords

theorem Keeps.dmaDone {c : Nat} {bytes : List Byte} {bad : List Nat} {errs : List (Nat × Nat)} (h : Keeps s₀ s) :
    Keeps s₀ (s.dmaDone c bytes bad errs) := by
  unfold State.dmaDone
  split
  · exact h
  split
  · exact h
  · extract_lets s₁ n r s₂
    have h₁ : Keeps s₀ s₁ := h.strike
    have hr : Keeps s₀ r.2 := Keeps.foldl_snd (r := (false, s₁)) h₁ fun _ _ ht => ht.dmaOut
    have h₂ : Keeps s₀ s₂ := h₁.foldl fun _ _ ht => ht.dmaIn
    exact .ite hr.dmaEnd h₂.dmaEnd

theorem Keeps.sessRefuse {p : Pkt} {pipe reason : Nat} (h : Keeps s₀ s) : Keeps s₀ (s.sessRefuse p pipe reason) :=
  .ite h.cnt.irq.sendMgmt h.cnt.irq

theorem Keeps.sessInit {p : Pkt} {pipe : Nat} {b : List Byte} (h : Keeps s₀ s) : Keeps s₀ (s.sessInit p pipe b) :=
  .ite h.sessRefuse (.ite h.sessRefuse (.ite h.sessRefuse (.ite h.sessRefuse h.frame.frame.frame.setSess.sendMgmt)))

theorem Keeps.mgmtCmd {p : Pkt} {pipe : Nat} {x : Sess} {b : List Byte} {lost : List Nat} (h : Keeps s₀ s) : Keeps s₀ (s.mgmtCmd p pipe x b lost) :=
  .ite h (.ite h.sendMgmt h.frame.setHring.ringServe)

theorem Keeps.lose {pins : PinSt} (h : Keeps s₀ s) : Keeps s₀ (s.lose pins) :=
  ⟨h.queue, fun _ => (by decide : 0 < clkWrap), fun _ => rfl⟩

theorem Keeps.flockHold {trim : Int} (h : Keeps s₀ s) : Keeps s₀ (s.flockHold trim) :=
  .ite h h.trimTo.wr.wr.cnt.irq

theorem Keeps.flockResume {trim : Int} (h : Keeps s₀ s) : Keeps s₀ (s.flockResume trim) :=
  .ite h h.trimTo.wr.wr

theorem Keeps.fillOver {f : Nat} (h : Keeps s₀ s) : Keeps s₀ (s.fillOver f) := by
  unfold State.fillOver
  split
  · exact h
  · exact .ite h h.fillEnd.setFibre.reFibre

theorem Keeps.deepWake {core : Bool} {i : Nat} (h : Keeps s₀ s) : Keeps s₀ (s.deepWake core i) :=
  .ite (.ite h.wakeCore h) (.ite h.wakeFibre h)

theorem Keeps.seraiIdle {p : Nat} (h : Keeps s₀ s) : Keeps s₀ (s.seraiIdle p) :=
  .ite h h.wr.reCore

theorem Keeps.tempSample {tj : Int} {sensor : Nat} (h : Keeps s₀ s) : Keeps s₀ (s.tempSample tj sensor) :=
  .ite h.wrI.wr.irq h.wrI.wr

theorem Keeps.vinSample {mv cur watts temp : Nat} (h : Keeps s₀ s) : Keeps s₀ (s.vinSample mv cur watts temp) :=
  .ite h.frame (.ite h.frame.wr.wr.wr.irq h.frame.wr.wr.wr)

theorem Keeps.pageReady {pg : Nat} (h : Keeps s₀ s) : Keeps s₀ (s.pageReady pg) :=
  h.wr

theorem Keeps.startStep {n : Nat} {x : StartUpIn} (h : Keeps s₀ s) : Keeps s₀ (s.startStep n x) :=
  h.wr.wr

theorem Keeps.startFail (h : Keeps s₀ s) : Keeps s₀ (s.startFail) :=
  h.frame.wr.wr.wr

theorem Keeps.selfTest {m : Nat} (h : Keeps s₀ s) : Keeps s₀ (s.selfTest m) :=
  .ite h.wr.wr.wr.wr.wr.wr h.wr.wr.wr.wr.wr.wr.irq

theorem Keeps.region {ok : Bool} (h : Keeps s₀ s) : Keeps s₀ (s.region ok).2 := by
  unfold State.region
  split
  · exact h
  · exact Keeps.foldl_snd (r := ([], _)) h.frame.frame.frame fun _ _ ht => ht.frame

theorem Keeps.showRegion {fwMin kernelMin : Nat} {anchors : List Nat} (h : Keeps s₀ s) : Keeps s₀ (s.showRegion fwMin kernelMin anchors) :=
  h.wr.wr.foldl fun _ _ h₁ => h₁.wr

theorem Keeps.boot {x : StartUpIn} (h : Keeps s₀ s) : Keeps s₀ (s.boot x) := by
  unfold State.boot
  extract_lets -merge -underBinder +onlyGivenNames read slots _ s₁ r
  have h₁ : Keeps s₀ s₁ := .ite h.frame h
  have hr : Keeps s₀ r.2 := h₁.region
  clear_value *
  split
  extract_lets s₂ at_ ok run
  have h₂ : Keeps s₀ s₂ := hr.showRegion
  have hrun : ∀ t i, Keeps s₀ t → Keeps s₀ (run t i) := by
    intro t i ht
    exact Keeps.foldl (Keeps.frame ht.wr.wr.wr.wr) fun _ _ hu => hu.wr
  clear_value run
  exact .ite (hrun _ _ h₂) (.ite (hrun _ _ h₂) (Keeps.wr (Keeps.wr (Keeps.frame h₂))))

theorem Keeps.bringUp {pgs bad : List Nat} (h : Keeps s₀ s) : Keeps s₀ (s.bringUp pgs bad) :=
  h.foldl fun _ _ h₁ => .ite h₁.wr h₁.wr.pageReady

theorem Keeps.trainMem {x : StartUpIn} (h : Keeps s₀ s) : Keeps s₀ (s.trainMem x) :=
  (h.foldl fun _ _ h₁ => .ite h₁.wr.wr h₁.wr.wr).bringUp

theorem Keeps.opticsUp {x : StartUpIn} {e : Nat} (h : Keeps s₀ s) : Keeps s₀ (s.opticsUp x e) := by
  unfold State.opticsUp
  extract_lets bad₁ t₂ s₃ s₅ s₈ s₁₁ s₁₃
  have h₄ : Keeps s₀ s₃ := h.wr.wr.wr.wr
  have h₆ : Keeps s₀ s₅ := (h₄.foldl fun _ _ h₇ => h₇.wr).refit
  have h₉ : Keeps s₀ s₈ := h₆.foldl fun _ _ h₁₀ => h₁₀.wr
  have h₁₂ : Keeps s₀ s₁₁ := by
    unfold s₁₁
    split
    · exact .ite h₉.wr.wr h₉
    · exact h₉
  have h₁₄ : Keeps s₀ s₁₃ := h₁₂.foldl fun _ _ h₁₅ => .ite h₁₅.wrLane.setRing.setLaneX.setLane.lnkIrq h₁₅.wrLane.toTrain
  exact h₁₄.wr

theorem Keeps.seraiUp {x : StartUpIn} (h : Keeps s₀ s) : Keeps s₀ (s.seraiUp x) := by
  unfold State.seraiUp
  extract_lets s₁₇ good₂₀ own₂₁ s₂₂ gaps₂₅ s₂₆ s₂₉ s₃₂
  have h₁₈ : Keeps s₀ s₁₇ := h.foldl fun _ _ h₁₉ => .ite h₁₉.wr.frame.wr.wr h₁₉.wr.wr
  have h₂₃ : Keeps s₀ s₂₂ := h₁₈.foldl fun _ _ h₂₄ => h₂₄.mapCore
  have h₂₇ : Keeps s₀ s₂₆ := h₂₃.foldl fun _ _ h₂₈ => h₂₈.mapCore
  have h₃₀ : Keeps s₀ s₂₉ := h₂₇.showSpares.foldl fun _ _ h₃₁ => h₃₁.pageReady
  have h₃₃ : Keeps s₀ s₃₂ := .ite h₃₀ h₃₀.pageReady
  exact .ite h₃₃ h₃₃.irq

theorem Keeps.startEnd {x : StartUpIn} (h : Keeps s₀ s) : Keeps s₀ (s.startEnd x) := by
  unfold State.startEnd
  exact .ite ((((h.wr.pageReady.foldl fun _ _ h₁ => h₁.wr).wr).irq).frame) ((h.wr.pageReady.foldl fun _ _ h₂ => h₂.wr).startFail)

theorem Keeps.startRest {x : StartUpIn} (h : Keeps s₀ s) : Keeps s₀ (s.startRest x) := by
  unfold State.startRest
  extract_lets -merge -underBinder +onlyGivenNames s₂
  have h₃ : Keeps s₀ s₂ := h.startStep.trainMem
  exact .ite h₃.startFail ((((((h₃.startStep.foldl fun _ _ h₄ => h₄.opticsUp).bringUp).startStep).seraiUp).startStep).startEnd)

theorem Keeps.seed {n : Nat} (h : Keeps s₀ s) : Keeps s₀ (s.seed n) :=
  h.seedWrite

theorem Keeps.baselines {prod : Bool} (h : Keeps s₀ s) : Keeps s₀ (s.baselines prod) :=
  h.foldl fun _ _ h₁ => .ite h₁ (.ite h₁.frame h₁.wr)

theorem Keeps.firmware {x : StartUpIn} (h : Keeps s₀ s) : Keeps s₀ (s.firmware x) := by
  unfold State.firmware
  extract_lets -merge -underBinder +onlyGivenNames s₄ s₆ s₉ s₁₂ s₁₇ s₁₉ s₂₁
  have h₅ : Keeps s₀ s₄ := h.wr
  have h₇ : Keeps s₀ s₆ := h₅.foldl fun _ _ h₈ => h₈.seed
  have h₁₀ : Keeps s₀ s₉ := h₇.foldl fun _ _ h₁₁ => h₁₁.wr
  have h₁₃ : Keeps s₀ s₁₂ := by
    unfold s₁₂
    refine h₁₀.foldl fun _ _ h₁₆ => ?_
    split <;> exact h₁₆.wr.wr
  have h₁₈ : Keeps s₀ s₁₇ := h₁₃.wrI.wr.vinSample.pageReady
  have h₂₀ : Keeps s₀ s₁₉ := h₁₈.pageReady
  have h₂₂ : Keeps s₀ s₂₁ := h₂₀.baselines.bringUp
  exact h₂₂.frame

theorem Keeps.startUp {x : StartUpIn} (h : Keeps s₀ s) : Keeps s₀ (s.startUp x) := by
  unfold State.startUp
  extract_lets _ s₁ s₂ s₃ s₄ s₅ s₆ s₇
  have h₁ : Keeps s₀ s₁ := h.frame
  have h₃ : Keeps s₀ s₃ := h₁.wr.wr.pageReady.startStep
  have h₄ : Keeps s₀ s₄ := h₃.wr.wr.wr
  have h₅ : Keeps s₀ s₅ := ⟨h₄.queue, fun _ => Nat.mod_lt _ (by decide), h₄.memory⟩
  have h₆ : Keeps s₀ s₆ := (h₅.foldl fun _ _ ht => ht.pageReady).selfTest
  have h₇ : Keeps s₀ s₇ := h₆.startStep.boot.pageReady
  split
  · exact h₁.frame
  split
  · exact h₃.startFail
  split
  · exact h₇.startFail
  · exact h₇.firmware.startRest

theorem Keeps.perstLow (h : Keeps s₀ s) : Keeps s₀ (s.perstLow) :=
  .ite h.lose h.frame

theorem Keeps.stlAccepted {p : Nat} (h : Keeps s₀ s) : Keeps s₀ (s.stlAccepted p) := by
  unfold State.stlAccepted
  extract_lets -merge -underBinder +onlyGivenNames s₁
  have h₂ : Keeps s₀ s₁ := h.sweepCore
  split
  · exact h₂
  · split
    · exact h₂
    · extract_lets -merge -underBinder +onlyGivenNames _ s₄ s₆
      have h₅ : Keeps s₀ s₄ := h₂.setCore
      have h₇ : Keeps s₀ s₆ := by
        unfold s₆
        refine h₅.foldl fun _ _ h₁₀ => ?_
        split <;> exact h₁₀.writeWords
      exact h₇.wr.tryEnd

theorem Keeps.combLocked {e c : Nat} (h : Keeps s₀ s) : Keeps s₀ (s.combLocked e c) :=
  .ite h h.wr.frame.refit

theorem Keeps.trainFibre {f : Nat} (h : Keeps s₀ s) : Keeps s₀ (s.trainFibre f) :=
  h.foldl fun _ _ h₁ => .ite (.ite h₁.setLaneX.toTrain h₁.setLaneX.setLaneX) h₁.setLaneX

theorem Keeps.fibreWoken {f : Nat} (h : Keeps s₀ s) : Keeps s₀ (s.fibreWoken f) := by
  unfold State.fibreWoken
  split
  · exact h
  · extract_lets s₉ s₁₁ s₁₄
    have h₁₀ : Keeps s₀ s₉ := h.noWake
    have h₁₂ : Keeps s₀ s₁₁ := .ite (h₁₀.foldl fun _ _ h₁₃ => h₁₃.lockLane) h₁₀
    have h₁₅ : Keeps s₀ s₁₄ := h₁₂.foldl fun _ _ h₁₆ => h₁₆.setLaneX
    exact .ite h₁₅.setFibre h₁₅.setFibre.trainFibre

theorem Keeps.engineWoken {e : Nat} (h : Keeps s₀ s) : Keeps s₀ (s.engineWoken e) := by
  unfold State.engineWoken
  split
  · exact h
  · extract_lets -merge -underBinder +onlyGivenNames s₁₃ _ s₁₆ s₁₈
    have h₁₄ : Keeps s₀ s₁₃ := h.foldl fun _ _ h₁₅ => h₁₅.combLocked
    have h₁₇ : Keeps s₀ s₁₆ := h₁₄.frame
    have h₁₉ : Keeps s₀ s₁₈ := h₁₇.wr
    refine h₁₉.foldl fun _ _ h₂₅ => ?_
    extract_lets f₃₀ s₃₁ s₃₄
    have h₃₂ : Keeps s₀ s₃₁ := .ite h₂₅ (h₂₅.foldl fun _ _ h₃₃ => h₃₃.lockLane)
    have h₃₅ : Keeps s₀ s₃₄ := h₃₂.foldl fun _ _ h₃₆ => h₃₆.setLaneX
    exact .ite h₃₅.setFibre.reFibre h₃₅.setFibre.trainFibre

theorem Keeps.coreWoken {p : Nat} (h : Keeps s₀ s) : Keeps s₀ (s.coreWoken p) :=
  .ite h h.frame.wr

theorem Keeps.wakeDone {kind i : Nat} (h : Keeps s₀ s) : Keeps s₀ (s.wakeDone kind i) := by
  unfold State.wakeDone
  split
  · exact h.fibreWoken
  · exact h.engineWoken
  · exact h.coreWoken

theorem Keeps.meshSettled (h : Keeps s₀ s) : Keeps s₀ (s.meshSettled) :=
  h.foldl fun _ _ h₁ => h₁.delPrep.bypIrq

theorem Keeps.barRead {bar pg off : Nat} {z : WSize} (h : Keeps s₀ s) : Keeps s₀ (s.barRead bar pg off z).2 := by
  unfold State.barRead
  split
  · exact h.event.regRead
  · split
    · exact h.event
    · exact h

theorem Keeps.hostLoad {bar pg off size : Nat} (h : Keeps s₀ s) : Keeps s₀ (s.hostLoad bar pg off size) := by
  unfold State.hostLoad
  split
  · exact h.refuseRead
  · exact h.barRead.emit

theorem Keeps.tapEdge {trst tms : Bool} (h : Keeps s₀ s) : Keeps s₀ (s.tapEdge trst tms) :=
  .ite h.frame (.ite h.frame.frame.emit h.frame)

theorem Keeps.uNop {i : Inv} {w : Nat} (h : Keeps s₀ s) : Keeps s₀ (Machine.uNop s i w).state := h

theorem Keeps.uBar {p : Nat} {i : Inv} {w : Nat} (h : Keeps s₀ s) : Keeps s₀ (Machine.uBar p s i w).state := by
  unfold Machine.uBar
  split <;> exact h

theorem Keeps.uBr {i : Inv} {w : Nat} (h : Keeps s₀ s) : Keeps s₀ (Machine.uBr s i w).state := by
  unfold Machine.uBr
  extract_lets
  split <;> exact h

theorem Keeps.uBrk {i : Inv} {w : Nat} (h : Keeps s₀ s) : Keeps s₀ (Machine.uBrk s i w).state := h

theorem Keeps.uLdc {i : Inv} {w : Nat} (h : Keeps s₀ s) : Keeps s₀ (Machine.uLdc s i w).state := by
  unfold Machine.uLdc
  extract_lets
  repeat' split
  all_goals exact h

theorem Keeps.uAcx {ue : List (Nat × Nat × Nat)} {ce : Nat} {i : Inv} {w : Nat} (h : Keeps s₀ s) : Keeps s₀ (Machine.uAcx ue ce s i w).state := by
  unfold Machine.uAcx
  extract_lets
  split
  · exact h
  split
  · exact h
  split
  · exact h
  split
  · exact h
  split
  · exact h
  · exact h.tallyErrs.setChunk

theorem Keeps.uAcxk {i : Inv} {w : Nat} (h : Keeps s₀ s) : Keeps s₀ (Machine.uAcxk s i w).state := by
  unfold Machine.uAcxk
  extract_lets
  split <;> exact h

theorem Keeps.uAcxp {i : Inv} {w : Nat} (h : Keeps s₀ s) : Keeps s₀ (Machine.uAcxp s i w).state := by
  unfold Machine.uAcxp
  extract_lets
  split <;> exact h

theorem Keeps.uKclr {i : Inv} {w : Nat} (h : Keeps s₀ s) : Keeps s₀ (Machine.uKclr s i w).state := h

theorem Keeps.uKadd {i : Inv} {w : Nat} (h : Keeps s₀ s) : Keeps s₀ (Machine.uKadd s i w).state := h

theorem Keeps.uRdxk {i : Inv} {w : Nat} (h : Keeps s₀ s) : Keeps s₀ (Machine.uRdxk s i w).state := h

theorem Keeps.uImovi {i : Inv} {w : Nat} (h : Keeps s₀ s) : Keeps s₀ (Machine.uImovi s i w).state := h

theorem Keeps.uLane {i : Inv} {w : Nat} (h : Keeps s₀ s) : Keeps s₀ (Machine.uLane s i w).state := h

theorem Keeps.uSel {i : Inv} {w : Nat} (h : Keeps s₀ s) : Keeps s₀ (Machine.uSel s i w).state := h

theorem Keeps.uKop {i : Inv} {w : Nat} (h : Keeps s₀ s) : Keeps s₀ (Machine.uKop s i w).state := h

theorem Keeps.uXmovi {i : Inv} {w : Nat} (h : Keeps s₀ s) : Keeps s₀ (Machine.uXmovi s i w).state := by
  unfold Machine.uXmovi
  extract_lets
  split <;> exact h

theorem Keeps.uXget {i : Inv} {w : Nat} (h : Keeps s₀ s) : Keeps s₀ (Machine.uXget s i w).state := h

theorem Keeps.uXput {i : Inv} {w : Nat} (h : Keeps s₀ s) : Keeps s₀ (Machine.uXput s i w).state := h

theorem Keeps.uXsts {i : Inv} {w : Nat} (h : Keeps s₀ s) : Keeps s₀ (Machine.uXsts s i w).state := h

theorem Keeps.uNrmw {i : Inv} {w : Nat} (h : Keeps s₀ s) : Keeps s₀ (Machine.uNrmw s i w).state := by
  unfold Machine.uNrmw
  extract_lets
  split <;> exact h

theorem Keeps.uRdx {ue : List (Nat × Nat × Nat)} {ce : Nat} {i : Inv} {w : Nat} (h : Keeps s₀ s) : Keeps s₀ (Machine.uRdx ue ce s i w).state := by
  unfold Machine.uRdx
  extract_lets
  split
  · exact h
  split
  · exact h
  split
  · exact h
  split
  · exact h
  split
  · exact h
  · exact h.tallyErrs.setChunk

theorem Keeps.uCvt {i : Inv} {w : Nat} (h : Keeps s₀ s) : Keeps s₀ (Machine.uCvt s i w).state := by
  unfold Machine.uCvt
  extract_lets
  split
  · exact h
  split
  · exact h
  · exact h.setChunk

theorem Keeps.uFp {n : Nat} {f : Nat → Nat → Nat → Nat → Nat × Nat} {i : Inv} {w : Nat} (h : Keeps s₀ s) : Keeps s₀ (Machine.uFp n f s i w).state := h

theorem Keeps.uInt {f : Nat → Nat → Nat → Nat} {i : Inv} {w : Nat} (h : Keeps s₀ s) : Keeps s₀ (Machine.uInt f s i w).state := h

theorem Keeps.uScalar {f : Nat → Nat → Nat → Nat} {i : Inv} {w : Nat} (h : Keeps s₀ s) : Keeps s₀ (Machine.uScalar f s i w).state := h

theorem Keeps.uCmp {f : Nat → Nat → Bool} {ib : Bool} {i : Inv} {w : Nat} (h : Keeps s₀ s) : Keeps s₀ (Machine.uCmp f ib s i w).state := by
  unfold Machine.uCmp
  extract_lets
  split
  · exact (Keeps.frame h).setChunk
  · exact h

theorem Keeps.uLdl {p : Nat} {i : Inv} {w : Nat} (h : Keeps s₀ s) : Keeps s₀ (Machine.uLdl p s i w).state := by
  unfold Machine.uLdl
  extract_lets c n f b x ls bank es ws miss bad s₁ core s₂
  split
  · exact h
  split
  · exact h
  split
  · exact h
  split
  · exact h
  split
  · exact h.demand
  · have h₁ : Keeps s₀ s₁ := .ite h h.cnt.irq
    exact .ite h₁ h₁.setCore

theorem Keeps.uStl {p : Nat} {i : Inv} {w : Nat} (h : Keeps s₀ s) : Keeps s₀ (Machine.uStl p s i w).state := by
  unfold Machine.uStl
  extract_lets
  split
  · exact h
  split
  · exact h
  split
  · exact h
  split
  · exact h
  · exact h.setCore

theorem Keeps.uEmit {ue : List (Nat × Nat × Nat)} {ce : Nat} {i : Inv} {w : Nat} (h : Keeps s₀ s) : Keeps s₀ (Machine.uEmit ue ce s i w).state := by
  unfold Machine.uEmit
  extract_lets k r s₁ k₁ d q
  have hr : Keeps s₀ r.2 := by
    unfold r
    split
    · exact h.claimStage
    · exact h
  split
  · exact h
  split
  · exact h
  split
  · exact hr
  · exact Keeps.setChunk (.ite hr.tallyErrs hr)

theorem Keeps.uSpec {ue : List (Nat × Nat × Nat)} {ce : Nat} {i : Inv} {w : Nat} (h : Keeps s₀ s) : Keeps s₀ (Machine.uSpec ue ce s i w).state := by
  unfold Machine.uSpec
  extract_lets -merge -underBinder +onlyGivenNames k
  split
  · exact h
  split
  · exact h
  extract_lets -merge -underBinder +onlyGivenNames s₁ k₁ d new r
  have h₁ : Keeps s₀ s₁ := .ite h.tallyErrs h
  have hr : Keeps s₀ r.2 := by
    refine Keeps.foldl_snd (r := (true, s₁)) h₁ fun x _ hx => ?_
    dsimp only
    split
    · exact hx
    · exact hx.claimStage
  split
  · exact h₁.allocFail
  · exact hr.setChunk

theorem Keeps.uRelease {i : Inv} {w : Nat} (h : Keeps s₀ s) : Keeps s₀ (Machine.uRelease s i w).state := by
  unfold Machine.uRelease
  extract_lets
  split
  · exact h
  split
  · exact h
  · exact h.wr.wr.setChunk.cnt

theorem Keeps.uFree {i : Inv} {w : Nat} (h : Keeps s₀ s) : Keeps s₀ (Machine.uFree s i w).state := by
  unfold Machine.uFree
  extract_lets
  split
  · exact h
  split
  · exact h
  · exact h.freeStage.setChunk.cnt

/-- What a command leaves, where it leaves a state, kept what `Keeps` says. -/
def NextKeeps (s : State) (o : Host.Outcome State Fault Refusal) : Prop := ∀ t, o = .next t → Keeps s t

theorem NextKeeps.next (h : Keeps s t) : NextKeeps s (.next t) := by
  rintro _ ⟨⟩
  exact h

theorem NextKeeps.act (h : Keeps s t) : NextKeeps s (act s t) :=
  .next (.ite h (.refl s))

theorem NextKeeps.hostAct (h : Keeps s t) : NextKeeps s (hostAct s t) := by
  unfold Machine.hostAct
  split
  · split
    · exact .next h
    · rintro _ ⟨⟩
  · exact .next (.refl s)

theorem NextKeeps.ringAct (h : Keeps s t) : NextKeeps s (ringAct s t) := by
  unfold Machine.ringAct
  split
  · split
    · exact .next h
    · rintro _ ⟨⟩
  · exact .next (.refl s)

theorem exec_keeps (c : Instr) (s : State) : NextKeeps s (exec c s) := by
  have h := Keeps.refl s
  cases c with
  | readTimNowNs _ =>
    refine .hostAct ?_
    split
    · exact h.refuseRead
    · exact h.event.readNow.emit
  | ptpSync _ _ _ => exact .act h.syncRx
  | ptpFollowUp _ => exact .act h.followUpRx
  | ptpPdelayReq _ _ => exact .act h.pdelayReqRx
  | ptpPdelayResp _ _ => exact .act h.pdelayRespRx
  | ptpAnnounce _ _ _ => exact .act h.announceRx
  | syncTransmit _ => exact .act h.syncTx
  | pdelayTransmit _ => exact .act h.pdelayTx
  | announceTransmit _ => exact .act h.announceTx
  | pdelayTimeout _ => exact .act h.pdelayLost
  | syncLoss => exact .act h.syncLost
  | cmdSet => exact .hostAct (h.access (fun _ h₁ => h₁.clkSet))
  | cmdStep => exact .hostAct (h.access (fun _ h₁ => h₁.stepClock))
  | timPortWrite _ _ => exact .hostAct (h.access (fun _ h₁ => h₁.timPort))
  | timCtrlWrite _ => exact .hostAct (h.access (fun _ h₁ => h₁.timCtrl))
  | timRateWrite _ => exact .hostAct (h.access (fun _ h₁ => h₁.timRate))
  | timTpoCfgWrite _ _ => exact .hostAct (h.access (fun _ h₁ => h₁.tpoCfg))
  | tpoWidthEnd _ => exact .act h.tpoWidthEnd
  | tcapEdge _ _ => exact .act h.tcapEdge
  | tcapHoldoffEnd _ => exact .act h.tcapHoldEnd
  | timTcapNsRead _ _ =>
    refine .hostAct ?_
    split
    · exact h.refuseRead
    · exact h.event.readTcap.emit
  | rcRead _ _ _ =>
    refine .hostAct ?_
    split
    · exact h.refuseRead
    · exact h.event.regRead.emit
  | arm _ _ _ => exact .hostAct (h.access (fun _ h₁ => h₁.crnCtrlUnit))
  | armEffect _ => exact .act h.armEffect
  | cancel _ _ => exact .hostAct (h.access (fun _ h₁ => h₁.crnCtrlUnit))
  | crnUnitRegisterWrite _ _ _ => exact .hostAct (h.access (fun _ h₁ => h₁.crnUnitWrite))
  | crnCtrlWrite _ => exact .hostAct (h.access (fun _ h₁ => h₁.crnCtrlWrite))
  | cairnFire _ => exact .act h.cairnFire
  | fwUnitRetry => exact .act h.ownRetry
  | event _ => exact .act (h.effect (fun _ _ h₁ => h₁.irq))
  | tpoEdge _ => exact .act (h.effect (fun _ _ h₁ => h₁.tpoEdge))
  | cfgCommit _ _ => exact .act (h.effect (fun _ _ h₁ => h₁.commit))
  | tableFlip _ => exact .act (h.effect (fun _ _ h₁ => h₁.tableFlip))
  | sliceCommit _ => exact .act (h.effect (fun _ _ h₁ => h₁.sliceCommit))
  | tgateSwap _ => exact .act (h.effect (fun _ _ h₁ => h₁.gateSwap))
  | bypassSet _ => exact .act (h.effect (fun _ _ h₁ => h₁.bypassSet))
  | combChange _ => exact .act (h.effect (fun _ _ h₁ => h₁.combChange))
  | lineMigrate _ => exact .act (h.effect (fun _ _ h₁ => h₁.lineMigrate))
  | phaseStart _ => exact .act (h.effect (fun _ _ h₁ => h₁.startConvoy))
  | ledgerFlip _ => exact .act (h.effect (fun _ _ h₁ => h₁.flip))
  | powerState _ => exact .act (h.effect (fun _ _ h₁ => h₁.powerState))
  | snapshot _ => exact .act (h.effect (fun _ _ h₁ => h₁.snapshot))
  | fwNotice _ => exact .act (h.effect (fun _ _ h₁ => h₁.fwNotice))
  | ingressPacket _ _ => exact .act h.ingress
  | fenceRelease => exact .act h.fenceRelease
  | crossbarCellTime _ _ _ => exact .act h.cellTime
  | packetReassembled _ _ => exact .act h.reassembled
  | reseqTimeout _ _ => exact .act h.reseqTimeout
  | planeFault _ => exact .act h.planeFault
  | egressDequeue _ _ => exact .act h.dequeue
  | shaperTick => exact .act h.shaperTick
  | gateEntryChange _ => exact .act h.gateNow
  | loadRefresh => exact .act h.loadRefresh
  | spillReadback _ => exact .act h.readback
  | drainExpiry _ => exact .act h.drainExpiry
  | ageTick _ => exact .act h.ageTick
  | fwdSeedWrite _ _ => exact .hostAct (h.access (fun _ h₁ => h₁.seedWrite))
  | fwdRead _ _ _ => exact .hostAct (h.access (fun _ h₁ => h₁.fwdTcmd))
  | fwdWrite _ _ _ => exact .hostAct (h.access (fun _ h₁ => h₁.fwdTcmd))
  | search _ _ => exact .hostAct (h.access (fun _ h₁ => h₁.fwdTcmd))
  | cmdNext _ _ => exact .hostAct (h.access (fun _ h₁ => h₁.fwdTcmd))
  | flushByPort _ _ _ => exact .hostAct (h.access (fun _ h₁ => h₁.fwdTcmd))
  | flushBySlice _ _ _ => exact .hostAct (h.access (fun _ h₁ => h₁.fwdTcmd))
  | insert _ _ _ => exact .hostAct (h.access (fun _ h₁ => h₁.fwdTcmd))
  | delete _ _ _ => exact .hostAct (h.access (fun _ h₁ => h₁.fwdTcmd))
  | repair _ _ _ => exact .hostAct (h.access (fun _ h₁ => h₁.fwdTcmd))
  | shadowComparePass => exact .act (Keeps.ite h.shadowStep h)
  | qshRead _ _ => exact .hostAct (h.access (fun _ h₁ => h₁.qshTcmd))
  | qshWrite _ _ => exact .hostAct (h.access (fun _ h₁ => h₁.qshTcmd))
  | contributionArrival _ => exact .act (h.atPort (fun _ h₁ => h₁.contribution))
  | straggleDeadline _ _ => exact .act h.straggle
  | chunkTimeout _ _ => exact .act h.chunkTimeout
  | retainExpiry _ _ => exact .act h.retainExpiry
  | resultPieceSend _ _ => exact .act h.emitStep
  | resultNak _ => exact .act (h.atPort (fun _ h₁ => h₁.resultNak))
  | srgRead _ => exact .hostAct (h.access (fun _ h₁ => h₁.srgTcmd))
  | srgWrite _ => exact .hostAct (h.access (fun _ h₁ => h₁.srgTcmd))
  | chunkSearch _ => exact .hostAct (h.access (fun _ h₁ => h₁.srgTcmd))
  | start _ => exact .hostAct (h.access (fun _ h₁ => h₁.srgTcmd))
  | abort _ => exact .hostAct (h.access (fun _ h₁ => h₁.srgTcmd))
  | release _ => exact .hostAct (h.access (fun _ h₁ => h₁.srgTcmd))
  | clear _ => exact .hostAct (h.access (fun _ h₁ => h₁.srgTcmd))
  | load => exact .hostAct (h.access (fun _ h₁ => h₁.kLoad))
  | unload => exact .hostAct (h.access (fun _ h₁ => h₁.kUnload))
  | info => exact .hostAct (h.access (fun _ h₁ => h₁.kInfo))
  | onArrive _ => exact .act (h.atRun (fun _ h₁ => h₁.onArrive))
  | onComplete _ => exact .act (h.atRun (fun _ h₁ => h₁.onComplete))
  | onNorm _ => exact .act (h.atRun (fun _ h₁ => h₁.onNorm))
  | onEmit _ => exact .act (h.atRun (fun _ h₁ => h₁.onEmit))
  | nop _ => exact .act (h.umak fun _ _ _ ht => ht.uNop)
  | cmdEnd _ => exact .act h.endU
  | bar _ => exact .act (h.umak fun _ _ _ ht => ht.uBar)
  | br _ => exact .act (h.umak fun _ _ _ ht => ht.uBr)
  | brk _ => exact .act (h.umak fun _ _ _ ht => ht.uBrk)
  | ldc _ => exact .act (h.umak fun _ _ _ ht => ht.uLdc)
  | acx _ _ _ => exact .act (h.umak fun _ _ _ ht => ht.uAcx)
  | acxk _ => exact .act (h.umak fun _ _ _ ht => ht.uAcxk)
  | acxp _ => exact .act (h.umak fun _ _ _ ht => ht.uAcxp)
  | kclr _ => exact .act (h.umak fun _ _ _ ht => ht.uKclr)
  | kadd _ => exact .act (h.umak fun _ _ _ ht => ht.uKadd)
  | rdx _ _ _ => exact .act (h.umak fun _ _ _ ht => ht.uRdx)
  | rdxk _ => exact .act (h.umak fun _ _ _ ht => ht.uRdxk)
  | cvt _ => exact .act (h.umak fun _ _ _ ht => ht.uCvt)
  | fadd _ => exact .act (h.umak fun _ _ _ ht => ht.uFp)
  | fmul _ => exact .act (h.umak fun _ _ _ ht => ht.uFp)
  | fma _ => exact .act (h.umak fun _ _ _ ht => ht.uFp)
  | fmin _ => exact .act (h.umak fun _ _ _ ht => ht.uFp)
  | fmax _ => exact .act (h.umak fun _ _ _ ht => ht.uFp)
  | div _ => exact .act (h.umak fun _ _ _ ht => ht.uFp)
  | sqrt _ => exact .act (h.umak fun _ _ _ ht => ht.uFp)
  | rsq _ => exact .act (h.umak fun _ _ _ ht => ht.uFp)
  | iadd _ => exact .act (h.umak fun _ _ _ ht => ht.uInt)
  | isub _ => exact .act (h.umak fun _ _ _ ht => ht.uInt)
  | imul _ => exact .act (h.umak fun _ _ _ ht => ht.uInt)
  | ilog _ => exact .act (h.umak fun _ _ _ ht => ht.uInt)
  | ish _ => exact .act (h.umak fun _ _ _ ht => ht.uInt)
  | imovi _ => exact .act (h.umak fun _ _ _ ht => ht.uImovi)
  | lane _ => exact .act (h.umak fun _ _ _ ht => ht.uLane)
  | sel _ => exact .act (h.umak fun _ _ _ ht => ht.uSel)
  | icmp _ => exact .act (h.umak fun _ _ _ ht => ht.uCmp)
  | fcmp _ => exact .act (h.umak fun _ _ _ ht => ht.uCmp)
  | kop _ => exact .act (h.umak fun _ _ _ ht => ht.uKop)
  | xadd _ => exact .act (h.umak fun _ _ _ ht => ht.uScalar)
  | xsub _ => exact .act (h.umak fun _ _ _ ht => ht.uScalar)
  | xmul _ => exact .act (h.umak fun _ _ _ ht => ht.uScalar)
  | xlog _ => exact .act (h.umak fun _ _ _ ht => ht.uScalar)
  | xsh _ => exact .act (h.umak fun _ _ _ ht => ht.uScalar)
  | xmovi _ => exact .act (h.umak fun _ _ _ ht => ht.uXmovi)
  | xget _ => exact .act (h.umak fun _ _ _ ht => ht.uXget)
  | xput _ => exact .act (h.umak fun _ _ _ ht => ht.uXput)
  | xsts _ => exact .act (h.umak fun _ _ _ ht => ht.uXsts)
  | ldl _ => exact .act (h.umak fun _ _ _ ht => ht.uLdl)
  | stl _ => exact .act (h.umak fun _ _ _ ht => ht.uStl)
  | nrms _ => exact .act h.nrmsU
  | nrmw _ => exact .act (h.umak fun _ _ _ ht => ht.uNrmw)
  | emit _ _ _ => exact .act (h.emitMode fun _ _ _ ht => ht.uEmit)
  | emitSpeculative _ _ _ => exact .act (h.emitMode fun _ _ _ ht => ht.uSpec)
  | emitRelease _ => exact .act (h.emitMode fun _ _ _ ht => ht.uRelease)
  | emitFree _ => exact .act (h.emitMode fun _ _ _ ht => ht.uFree)
  | ledgerLineFetched _ => exact .act h.lineFetched
  | watchdog _ => exact .act h.watchdog
  | hang _ => exact .act h.hang
  | coreEccError _ _ => exact .act h.coreEcc
  | fenceCmd _ => exact .hostAct (h.access (fun _ h₁ => h₁.fenceCmd))
  | corePortReopen _ => exact .act h.portReopen
  | bist _ _ => exact .hostAct (h.access (fun _ h₁ => h₁.sriCtrl))
  | bistDone _ _ => exact .act h.bistDone
  | ldgCfgWrite _ _ => exact .hostAct (h.access (fun _ h₁ => h₁.ldgCfg))
  | normPartialArrival _ => exact .act (h.atPort (fun _ h₁ => h₁.normArrive))
  | normRetry => exact .act h.normRetry
  | normPartialRequest _ => exact .act (h.atPort (fun _ h₁ => h₁.normRequest))
  | normAbortNak _ => exact .act (h.atPort (fun _ h₁ => h₁.normAbort))
  | normTimeout => exact .act h.normTimeout
  | flip _ => exact .hostAct (h.access (fun _ h₁ => h₁.ldgFlip))
  | revert _ => exact .hostAct (h.access (fun _ h₁ => h₁.ldgRevert))
  | abandon _ => exact .hostAct (h.access (fun _ h₁ => h₁.ldgAbandon))
  | copyFwd _ => exact .hostAct (h.access (fun _ h₁ => h₁.ldgCopy))
  | setState _ => exact .hostAct (h.access (fun _ h₁ => h₁.ldgSet))
  | loadParam _ => exact .hostAct (h.access (fun _ h₁ => h₁.ldgLoad))
  | broadcastArrival => exact .act h.bcArrive
  | broadcastAck _ _ => exact .act (Keeps.ite h.ingress h)
  | childTimeout => exact .act h.childTimeout
  | bcHoldExpiry => exact .act h.bcHold
  | heaterUpdate _ _ _ _ => exact .act h.heaters
  | ringLockLoss _ _ _ => exact .act h.ringLoss
  | ringRelocked _ _ _ _ _ _ => exact .act h.ringBack
  | recalSweep _ _ => exact .act h.recal
  | combLockLoss _ _ => exact .act h.combLoss
  | combRelockTimeout _ _ => exact .act h.relockTimeout
  | fadeEvaluation _ _ => exact .act h.fadeEval
  | baseline _ _ _ => exact .hostAct (h.access (fun _ h₁ => h₁.baseline))
  | sweepRing _ => exact .hostAct (h.access (fun _ h₁ => h₁.sweepRing))
  | monCmd _ _ _ => exact .hostAct (h.access (fun _ h₁ => h₁.monCmd))
  | monDone _ _ => exact .act h.monDone
  | announce _ => exact .hostAct (h.access (fun _ h₁ => h₁.announce))
  | changeWithdraw _ => exact .hostAct (h.access (fun _ h₁ => h₁.withdrawChg))
  | noticeResend _ => exact .act h.noticeResend
  | holdEnd _ => exact .act h.holdOver
  | combOffWrite _ _ _ => exact .hostAct (h.access (fun _ h₁ => h₁.combOff))
  | changeoverNotice _ _ _ _ _ _ => exact .act h.windowRx
  | lineNotice _ _ _ _ _ => exact .act h.windowRx
  | rxHoldOpen _ => exact .act h.rxOpen
  | rxMigrateSwitch _ => exact .act h.rxSwitch
  | rxHoldClose _ => exact .act h.rxClose
  | disable _ _ => exact .hostAct (h.access (fun _ h₁ => h₁.laneDisable))
  | retrain _ _ => exact .hostAct (h.access (fun _ h₁ => h₁.laneRetrain))
  | laneReady _ => exact .act h.laneReady
  | laneServiceEntry _ => exact .act h.enterService
  | laneLeaveService _ _ => exact .act h.laneCause
  | laneNotice _ _ _ => exact .act (Keeps.ite h h.laneNoticeRx)
  | controlCodeword _ _ _ => exact .act h.controlRx
  | lmfReorderTimeout _ => exact .act h.lmfLate
  | retryAck _ _ _ => exact .act (h.portLmf (fun _ h₁ => h₁.ackTx))
  | retryReq _ _ _ => exact .act (h.portLmf (fun _ h₁ => h₁.reqTx))
  | retryAckTimer _ => exact .act (Keeps.ite h.sendAck h)
  | retryTimeout _ => exact .act h.retryTimeout
  | retryReqTimeout _ => exact .act h.reqTimeout
  | credit _ _ _ => exact .act (h.portLmf (fun _ h₁ => h₁.creditRx))
  | creditTimer _ _ => exact .act h.creditTimer
  | probeTimer _ => exact .act h.probeTimer
  | trvProbe _ _ _ => exact .act (Keeps.ite h.probeRx h)
  | trvIdent _ _ => exact .act h.identRx
  | trvState _ _ _ => exact .act h
  | absentTimeout _ => exact .act h.absentTimeout
  | acceptCross _ => exact .hostAct (h.access (fun _ h₁ => h₁.acceptCross))
  | reeval _ => exact .hostAct (h.access (fun _ h₁ => h₁.reeval))
  | trvCtrlWrite _ => exact .hostAct (h.access (fun _ h₁ => h₁.trvCtrl))
  | prepare => exact .hostAct (h.access (fun _ h₁ => h₁.prepare))
  | bypassWithdraw => exact .hostAct (h.access (fun _ h₁ => h₁.bypWithdraw))
  | preparationLapse => exact .act h.lapse
  | bypassNotice _ _ _ _ _ => exact .act h.bypNoticeRx
  | bypassFarEndCut _ => exact .act h.farCut
  | inputPowerSample _ => exact .act h.inputPower
  | meshParityError _ => exact .act h.meshParity
  | commit _ => exact .hostAct (h.access (fun _ h₁ => h₁.dtmCommit))
  | discard => exact .hostAct (h.access (fun _ h₁ => h₁.discard))
  | dtmSliceCommit => exact .hostAct (h.access (fun _ h₁ => h₁.dtmSlice))
  | slicePurge => exact .hostAct (h.access (fun _ h₁ => h₁.purge))
  | purgeComplete _ => exact .act h.purgeDone
  | recompute => exact .hostAct (h.access (fun _ h₁ => h₁.recompute))
  | recomputeEnd => exact .act h.walkEnd
  | dtmModuleLoRead =>
    refine .hostAct ?_
    split
    · exact h.refuseRead
    · exact h.event.readModuleLo
  | beaconInterval => exact .act h.beaconInterval
  | datumBeacon _ _ => exact .act h.beaconRx
  | graceEnd => exact .act h.graceEnd
  | dtmRead _ => exact .hostAct (h.access (fun _ h₁ => h₁.dtmRead))
  | dtmWrite _ => exact .hostAct (h.access (fun _ h₁ => h₁.dtmWrite))
  | hostMemRead _ _ => exact .act (Keeps.ite h.hostMemRead h)
  | hostMemWrite _ _ _ _ => exact .act (Keeps.ite h.hostMemWrite h)
  | scrubBlock _ => exact .act h.scrubStep
  | rewrite => exact .hostAct (h.access (fun _ h₁ => h₁.rewrite))
  | zero => exact .hostAct (h.access (fun _ h₁ => h₁.zero))
  | identifyMemoryDevice => exact .hostAct h.emit
  | getPoisonList => exact .hostAct h.emit
  | injectPoison _ => exact .hostAct h.hostMemWrite
  | clearPoison _ _ => exact .hostAct h.hostMemWrite
  | registerWrite _ _ _ _ _ _ => exact .hostAct h.hostStore
  | pageIrqWrite _ _ _ => exact .hostAct (h.access (fun _ h₁ => h₁.irqWrite))
  | doorbell _ _ => exact .hostAct (h.ringAccess (fun _ h₁ => h₁.doorbell))
  | descriptorFetch _ _ _ _ _ =>
    refine .act ?_
    split
    · exact h
    · split
      · exact h
      · exact .ite h.ringStop h.setHring.ringServe
  | descNop _ _ => exact .ringAct h.descRun
  | descWrite _ _ _ => exact .ringAct h.descRun
  | descRead _ _ => exact .ringAct h.descRun
  | cmdExec _ _ _ => exact .ringAct h.descRun
  | table _ _ _ => exact .ringAct h.descRun
  | pollTimeout _ _ => exact .act (Keeps.ite h.ringDone.ringServe h)
  | ringReset _ _ => exact .hostAct (h.ringAccess (fun _ h₁ => h₁.ringCmd))
  | hostPathSend _ _ _ _ _ => exact .act (Keeps.ite h.hostSend h)
  | hostPathDelivery _ _ _ =>
    refine .act ?_
    refine Keeps.hostDeliver ?_
    split
    · exact .ite h (h.mgmtTake (fun _ _ _ _ _ h₁ => h₁))
    · exact h
  | rxWaitTimeout _ =>
    refine .act ?_
    split
    · exact .ite h.dropFlight.cnt.irq h
    · exact h
  | dmaGo _ _ => exact .hostAct (h.access (fun _ h₁ => h₁.dmaCtrl))
  | dmaDone _ _ _ _ => exact .act h.dmaDone
  | cxlLinkChange _ _ _ => exact .act h.wr.wr.wr.irq
  | attest _ => exact .hostAct (h.access (fun _ h₁ => h₁.secAttest))
  | fwStage _ => exact .hostAct (h.access (fun _ h₁ => h₁.secStage))
  | setBootSlot => exact .hostAct (h.access (fun _ h₁ => h₁.secBoot))
  | raiseMin => exact .hostAct (h.access (fun _ h₁ => h₁.secRaise))
  | setAnchor _ => exact .hostAct (h.access (fun _ h₁ => h₁.secAnchor))
  | clearAnchor => exact .hostAct (h.access (fun _ h₁ => h₁.secClear))
  | certRead => exact .hostAct (h.access (fun _ h₁ => h₁.secCert))
  | closeSessions => exact .hostAct (h.access (fun _ h₁ => h₁.secClose))
  | sessInit => exact .act (h.mgmtTake (fun _ _ _ _ _ h₁ => .ite h₁.sessInit h₁))
  | sessConfirm =>
    refine .act ?_
    refine h.mgmtTake fun _ _ _ _ _ h₇ => ?_
    split
    · exact .ite h₇ h₇.putSess.irq
    · exact h₇
  | sessClose =>
    refine .act ?_
    refine h.mgmtTake fun _ _ _ _ _ h₇ => ?_
    split
    · exact h₇.endSess
    · exact h₇
  | certReq => exact .act (h.mgmtTake (fun _ _ _ _ _ h₁ => .ite h₁.sendMgmt h₁))
  | mgmtCmd _ =>
    refine .act ?_
    refine h.mgmtTake fun _ _ _ _ _ h₇ => ?_
    split
    · exact h₇.mgmtCmd
    · exact h₇
  | attestReq =>
    refine .act ?_
    refine h.mgmtTake fun _ _ _ _ _ h₇ => ?_
    split
    · exact .ite h₇.sendMgmt h₇
    · exact h₇
  | sessionConfirmTimeout => exact .act h.endSess
  | sessionIdleTimeout => exact .act h.endSess
  | apply => exact .hostAct (h.access (fun _ h₁ => h₁.clkCmd))
  | clkObsWrite _ => exact .hostAct (h.access (fun _ h₁ => h₁.clkObs))
  | referenceLoss => exact .act h.lose
  | lockLoss => exact .act h.cnt.irq
  | flockHold _ => exact .act h.flockHold
  | flockResume _ => exact .act h.flockResume
  | pagePwrWrite _ _ => exact .hostAct (h.access (fun _ h₁ => h₁.pwrWrite))
  | pageClkenWrite _ _ => exact .hostAct (h.access (fun _ h₁ => h₁.clkenWrite))
  | pwrFibreWrite _ _ => exact .hostAct (h.access (fun _ h₁ => h₁.pwrFibreWrite))
  | idleFillEnd _ => exact .act h.fillOver
  | deepIdleWake _ _ => exact .act h.deepWake
  | seraiIdleHoldEnd _ => exact .act h.seraiIdle
  | srefEnter => exact .hostAct (h.access (fun _ h₁ => h₁.srefEnter))
  | srefExit => exact .hostAct (h.access (fun _ h₁ => h₁.srefExit))
  | tempSample _ _ => exact .act (Keeps.ite h.frame.tempSample h)
  | thermalTrip => exact .next (Keeps.ite h.lose h)
  | vinSample _ _ _ _ => exact .next (Keeps.ite h.frame.vinSample h)
  | softStart => exact .next (Keeps.ite h h.frame)
  | supplyStop => exact .next (Keeps.ite h.lose h)
  | startUp _ => exact .next (Keeps.ite h.startUp h)
  | perstAssert => exact .next h.perstLow
  | counterClear _ _ => exact .hostAct (h.access (fun _ h₁ => h₁.cntCtrlWrite))
  | clearAll => exact .hostAct (h.access (fun _ h₁ => h₁.pmcCmd))
  | telCtrlWrite _ _ => exact .hostAct (h.access (fun _ h₁ => h₁.telWrite))
  | smbusRead _ _ => exact .next (Keeps.ite h h.emit)
  | stlAccepted _ => exact .act h.stlAccepted
  | combLocked _ _ => exact .act h.combLocked
  | wakeComplete _ _ => exact .act h.wakeDone
  | meshSettled => exact .act h.meshSettled
  | busMasterEnable _ _ => exact .act h.frame
  | refusedRead _ _ _ _ => exact .hostAct h.hostLoad
  | boundaryScan _ _ => exact .next h.tapEdge

/-- A step leaves the rest of the queue, the clock in its range and memory in its canonical form. -/
theorem step_keeps {s t : State} (e : step s = .next t) :
    t.pending = s.pending.tail ∧ (s.fclk < clkWrap → t.fclk < clkWrap) ∧ (Memory.wf s.mem.data = true → Memory.wf t.mem.data = true) := by
  unfold step at e
  split at e
  · next hq =>
    cases e
    obtain ⟨hqueue, hclock, hmem⟩ := (Keeps.refl s).tick
    exact ⟨by rw [hqueue, hq]; rfl, hclock, hmem⟩
  · next c rest hq =>
    obtain ⟨hqueue, hclock, hmem⟩ := exec_keeps c _ t e
    exact ⟨by rw [hqueue, hq]; rfl, hclock, hmem⟩

end

/-- Settles O3: every operation keeps what `Keeps` says, so every command does, and with them every step. -/
theorem stepKeepsInvariant : Obligations.StepKeepsInvariant := by
  unfold Obligations.StepKeepsInvariant
  exact ⟨fun _ _ hs e => (step_keeps e).2.2 hs, fun _ _ hs e => (step_keeps e).2.1 hs, fun _ _ e => (step_keeps e).1⟩

end Sys2Proof.Machine


/-! PROOFS. What a command comes to once its module runs and its access is served, and the registers' reading rules that go with it. -/

namespace Sys2Proof.Machine

set_option Elab.async false

section
variable {s t : State} {c : Instr} {pg off : Nat} {g : State → State}

/-- A step of a running module comes to its meaning. -/
theorem exec_act (h : exec c s = act s t) (hs : s.alive = true) : exec c s = .next t := h.trans (act_alive hs)

/-- A served host write runs its operation after the access has been counted. -/
theorem exec_hostWrite (h : exec c s = hostWrite s pg off g) (hv : s.served pg off) (h1 : off ≠ 0x18 := by omega) (h2 : off ≠ 0xA0 := by omega) :
    exec c s = .next (g (s.event pg 4)) := by
  obtain ⟨halive, hmem, hbus, hcause⟩ := hv
  exact h.trans (hostWrite_served halive hmem hbus hcause h1 h2)

theorem exec_hostRead (h : exec c s = hostRead s pg off g) (hv : s.served pg off) : exec c s = .next (g (s.event pg 4)) := by
  obtain ⟨halive, hmem, hbus, hcause⟩ := hv
  exact h.trans (hostRead_served halive hmem hbus hcause)

end

section
variable {d e : RegD} {n i j n' i' j' : Nat}

/-- A register from offset 0x100 of its page on lies past the page's common registers. -/
theorem RegD.past_of (hb : 256 ≤ d.base) (hr : d.base + d.stride * i + d.stride2 * j < 65536) (hlo : d.lo < 64) : d.past n i j := by
  unfold RegD.past RegD.key
  omega

/-- Fields of different low bits are never one field. -/
theorem RegD.key_ne_of_lo (hd : d.lo < 64) (he : e.lo < 64) (h : d.lo ≠ e.lo) : d.key n i j ≠ e.key n' i' j' := by
  unfold RegD.key
  omega

/-- Registers of different offsets in their pages are never one register. -/
theorem RegD.key_ne_of_offset (hd : d.base + d.stride * i + d.stride2 * j < 65536) (he : e.base + e.stride * i' + e.stride2 * j' < 65536)
    (hdlo : d.lo < 64) (helo : e.lo < 64) (h : d.base + d.stride * i + d.stride2 * j ≠ e.base + e.stride * i' + e.stride2 * j') :
    d.key n i j ≠ e.key n' i' j' := by
  unfold RegD.key
  omega

end

section
variable (s : State) {d e : RegD} {n i j n' i' j' : Nat} (w : Wr) (x : Int) (pg b m v : Nat) (tc : Option Nat) (f : Nat → Bool)

theorem Wr.merge_lt (lo k old : Nat) : w.merge lo k old < 2 ^ k := Nat.mod_lt _ (Nat.two_pow_pos k)

theorem ofSigned_lt (k : Nat) (x : Int) : ofSigned k x < 2 ^ k := by
  have hpos : (0 : Int) < (2 ^ k : Nat) := Int.natCast_pos.mpr (Nat.two_pow_pos k)
  have hlt := Int.emod_lt_of_pos x hpos
  have h0 := Int.emod_nonneg x (Int.ne_of_gt hpos)
  unfold ofSigned
  omega

/-- A field written by the host reads what the write merged into it. -/
@[simp] theorem State.rd_put_same : (s.put d w n i j).rd d n i j = w.merge d.lo d.w (s.rd d n i j) :=
  (State.rd_wr_same ..).trans (Nat.mod_eq_of_lt (Wr.merge_lt w ..))

@[simp] theorem State.rd_wrI_same : (s.wrI d x n i j).rd d n i j = ofSigned d.w x :=
  (State.rd_wr_same ..).trans (Nat.mod_eq_of_lt (ofSigned_lt ..))

theorem State.rd_wr_of_lt (h : v < 2 ^ d.w) : (s.wr d v n i j).rd d n i j = v :=
  (State.rd_wr_same ..).trans (Nat.mod_eq_of_lt h)

theorem State.rd_put_ne (h : e.key n' i' j' ≠ d.key n i j) : (s.put d w n i j).rd e n' i' j' = s.rd e n' i' j' := State.rd_wr_ne _ _ h

theorem State.rd_wrI_ne (h : e.key n' i' j' ≠ d.key n i j) : (s.wrI d x n i j).rd e n' i' j' = s.rd e n' i' j' := State.rd_wr_ne _ _ h

/-! The rules for what an event or an interrupt leaves alone, their condition in a form `decide` settles for a given register. -/

theorem State.rd_event_past (h : 256 ≤ d.key n i j / 64 % 65536) : (s.event pg b tc m).rd d n i j = s.rd d n i j := State.rd_event _ _ _ _ _ _ _ _ _ h

theorem State.rd_irq_past (h : 256 ≤ d.key n i j / 64 % 65536) : (s.irq pg b).rd d n i j = s.rd d n i j := State.rd_irq _ _ _ _ _ _ _ h

theorem State.rd_evCount_past (h : 256 ≤ d.key n i j / 64 % 65536) : (s.evCount pg f m).rd d n i j = s.rd d n i j := State.rd_evCount _ _ _ _ _ _ _ _ h

theorem State.flag_eq : s.flag d n i j = decide (s.rd d n i j = 1) := rfl

theorem State.flag_eq_true : s.flag d n i j = true ↔ s.rd d n i j = 1 := decide_eq_true_iff

theorem State.flag_eq_false : s.flag d n i j = false ↔ s.rd d n i j ≠ 1 := decide_eq_false_iff_not

@[simp] theorem State.getLast?_out_emit (o : Out) : (s.emit o).out.getLast? = some o := by simp

@[simp] theorem State.rd_coverMod (code idx o : Nat) : (s.coverMod code idx o v).rd d n i j = s.rd d n i j := by
  unfold State.coverMod
  split <;> rfl

end

end Sys2Proof.Machine

/-! PROOFS. Fabric time: the messages of the time ports (R34 to R40). -/

namespace Sys2Proof.Machine

set_option Elab.async false

section
variable {s : State} {f : Nat}

theorem State.psOf_snd (s : State) (x : Int) (n : Nat) : (s.psOf x n).2 = s ∨ (s.psOf x n).2 = (s.takeFree 1).2 := by
  unfold State.psOf
  extract_lets d r
  split
  · exact .inl rfl
  · exact .inr rfl

@[simp] theorem State.psOf_rd (s : State) (x : Int) (n : Nat) (d : RegD) (i j k : Nat) : (s.psOf x n).2.rd d i j k = s.rd d i j k := by
  obtain h | h := s.psOf_snd x n <;> rw [h]
  exact State.takeFree_rd ..

@[simp] theorem State.psOf_tim (s : State) (x : Int) (n : Nat) : (s.psOf x n).2.tim = s.tim := by
  obtain h | h := s.psOf_snd x n <;> rw [h]
  exact State.takeFree_tim ..

@[simp] theorem State.psOf_fclk (s : State) (x : Int) (n : Nat) : (s.psOf x n).2.fclk = s.fclk := by
  obtain h | h := s.psOf_snd x n <;> rw [h]
  exact State.takeFree_fclk ..

@[simp] theorem State.psOf_cyc (s : State) (x : Int) (n : Nat) : (s.psOf x n).2.cyc = s.cyc := by
  obtain h | h := s.psOf_snd x n <;> rw [h]
  exact State.takeFree_cyc ..

/-- A quotient rounded down or up is off by less than one divisor. -/
theorem natAbs_sub_ediv_mul_lt {x d b : Int} (hd : 0 < d) (h : b = 0 ∨ b = 1 ∧ x % d ≠ 0) : (x - (x / d + b) * d).natAbs < d.natAbs := by
  have hdiv := Int.emod_add_mul_ediv x d
  have hlo := Int.emod_nonneg x (Int.ne_of_gt hd)
  have hhi := Int.emod_lt_of_pos x hd
  have hx : x - (x / d + b) * d = x % d - b * d := by
    rw [Int.add_mul, Int.mul_comm (x / d)]
    omega
  rw [hx]
  obtain rfl | ⟨rfl, hne⟩ := h <;> omega

/-- A time in picoseconds is within one of the exact value. -/
theorem State.psOf_near (s : State) (x : Int) {n : Nat} (hn : 0 < n) : (x - (s.psOf x n).1 * (65536 * n : Nat)).natAbs < 65536 * n := by
  have hd : (0 : Int) < (65536 * n : Nat) := by omega
  unfold State.psOf
  simp only [Int.natCast_mul, Int.cast_ofNat_Int] at hd ⊢
  split
  · exact Nat.lt_of_lt_of_eq (Int.add_zero (x / _) ▸ natAbs_sub_ediv_mul_lt hd (.inl rfl)) (by omega)
  · next hne =>
    refine Nat.lt_of_lt_of_eq (natAbs_sub_ediv_mul_lt hd ?_) (by omega)
    have hbit : (s.takeFree 1).1 % 2 = 0 ∨ (s.takeFree 1).1 % 2 = 1 := by omega
    obtain h | h := hbit <;> simp [h, hne]

@[simp] theorem State.ptp_setPtp_same (s : State) (f : Nat) (x : PtpPort) : (s.setPtp f x).ptp f = x :=
  SMap.getD_set_same _ _ _ _

@[simp] theorem State.rd_setPtp (s : State) (f : Nat) (x : PtpPort) (d : RegD) (n i j : Nat) : (s.setPtp f x).rd d n i j = s.rd d n i j := rfl

theorem TIM_STATE_past : TIM_STATE_state.past 0 0 0 := RegD.past_of (by decide) (by decide) (by decide)

theorem State.rd_setTimState_same {s : State} {v : Nat} (hv : v < 2 ^ 3) : (s.setTimState v).rd TIM_STATE_state = v := by
  unfold State.setTimState
  split
  · assumption
  · have h : ((s.wr TIM_STATE_state v).irq 4 0).rd TIM_STATE_state = v := by
      rw [State.rd_irq _ _ _ _ _ _ _ TIM_STATE_past, State.rd_wr_same]
      exact Nat.mod_eq_of_lt hv
    dsimp only
    split
    · exact (State.rd_irq _ _ _ _ _ _ _ TIM_STATE_past).trans h
    · exact h

theorem State.rd_setTimState_ne {s : State} {v : Nat} {d : RegD} {n i j : Nat} (hp : d.past n i j) (hk : d.key n i j ≠ TIM_STATE_state.key 0 0 0) :
    (s.setTimState v).rd d n i j = s.rd d n i j := by
  unfold State.setTimState
  split
  · rfl
  · have h : ((s.wr TIM_STATE_state v).irq 4 0).rd d n i j = s.rd d n i j :=
      (State.rd_irq _ _ _ _ _ _ _ hp).trans (State.rd_wr_ne _ _ hk)
    dsimp only
    split
    · exact (State.rd_irq _ _ _ _ _ _ _ hp).trans h
    · exact h

@[simp] theorem State.fclk_setTimState (s : State) (v : Nat) : (s.setTimState v).fclk = s.fclk := by
  unfold State.setTimState
  split
  · rfl
  · dsimp only
    split <;> simp

section
variable (hs : s.alive = true) (hf : f < 64) (hb : s.bypassed f = false)
include hs hf hb

theorem exec_syncTransmit_due (hr : s.role f = 1) (hd : s.due (s.ptp f).syncAt (s.rdI TIM_INTERVALS_log_sync) = true) :
    exec (.syncTransmit f) s = .next ((s.setPtp f { s.ptp f with syncAt := some s.cyc, syncSeq := ((s.ptp f).syncSeq + 1) % 65536 }).sendLmf f
      { typ := 0x10, body := [(s.ptp f).syncSeq] }) := by
  rw [exec_act (c := .syncTransmit f) rfl hs, Nat.mod_eq_of_lt hf]
  simp [State.syncTx, hb, hr, hd]

theorem exec_pdelayTransmit_due (hr : s.role f ≠ 0) (hd : s.due (s.ptp f).pdelayAt (s.rdI TIM_INTERVALS_log_pdelay) = true) :
    exec (.pdelayTransmit f) s = .next ((s.setPtp f { s.ptp f with pdelayAt := some s.cyc, pdelaySeq := ((s.ptp f).pdelaySeq + 1) % 65536 }).sendLmf f
      { typ := 0x12, body := [(s.ptp f).pdelaySeq] }) := by
  rw [exec_act (c := .pdelayTransmit f) rfl hs, Nat.mod_eq_of_lt hf]
  simp [State.pdelayTx, hb, hr, hd]

theorem exec_announceTransmit_due (hr : s.role f = 1) (hd : s.due (s.ptp f).announceAt (s.rdI TIM_INTERVALS_log_announce) = true) :
    exec (.announceTransmit f) s = .next ((s.setPtp f { s.ptp f with announceAt := some s.cyc, announceSeq := ((s.ptp f).announceSeq + 1) % 65536 }).sendLmf f
      { typ := 0x14, body := [(s.ptp f).announceSeq] }) := by
  rw [exec_act (c := .announceTransmit f) rfl hs, Nat.mod_eq_of_lt hf]
  simp [State.announceTx, hb, hr, hd]

theorem exec_ptpPdelayReq_answered {m : PtpMsg} (hseq : m.seq < 65536) (hsrc : m.src < 2 ^ 80) (hr : s.role f ≠ 0) :
    exec (.ptpPdelayReq f m) s = .next (s.sendLmf f { typ := 0x13, body := [s.fclk / 2 ^ 32, m.seq, m.src] }) := by
  rw [exec_act (c := .ptpPdelayReq f m) rfl hs, Nat.mod_eq_of_lt hf, Nat.mod_eq_of_lt hseq, Nat.mod_eq_of_lt hsrc]
  simp [State.pdelayReqRx, hb, hr]

theorem exec_ptpFollowUp_discarded : exec (.ptpFollowUp f) s = .next (s.cnt TIM_RX_DISCARD_count) := by
  rw [exec_act (c := .ptpFollowUp f) rfl hs, Nat.mod_eq_of_lt hf]
  simp [State.followUpRx, hb]

theorem exec_ptpAnnounce_kept {gm cl : Nat} (hr : s.role f = 2) :
    exec (.ptpAnnounce f gm cl) s = .next { s with tim := { s.tim with gm := some (gm, cl) } } := by
  rw [exec_act (c := .ptpAnnounce f gm cl) rfl hs, Nat.mod_eq_of_lt hf]
  simp [State.announceRx, hb, hr]

/-- The state a Sync leaves before the servo acts. -/
theorem exec_ptpSync_slave {t1 corr : Int} (hr : s.role f = 2) :
    ∃ (u : State) (p : Int),
      exec (.ptpSync f t1 corr) s = .next (if u.rd TIM_STATE_state = 4 then u else
        (if u.rd TIM_STATE_state = 0 ∨ u.rd TIM_STATE_state = 3 then u.setTimState 1 else u).servo
          ((s.t16 - t1 - corr) * 1000 - (s.rdI TIM_PORT_MLD_mld_ps 0 f + s.rdI TIM_PORT_asym 0 f) * 65536)) ∧
      u.rd TIM_OFFSET_offset_ps = ofSigned 32 p ∧
      ((s.t16 - t1 - corr) * 1000 - (s.rdI TIM_PORT_MLD_mld_ps 0 f + s.rdI TIM_PORT_asym 0 f) * 65536 - p * 65536).natAbs < 65536 ∧
      u.rd TIM_MLD_mld_ps = ofSigned 32 (s.rdI TIM_PORT_MLD_mld_ps 0 f) ∧ u.tim.lastSync = s.cyc ∧ u.fclk = s.fclk := by
  rw [exec_act (c := .ptpSync f t1 corr) rfl hs, Nat.mod_eq_of_lt hf]
  unfold State.syncRx
  rw [if_neg (by simp [hb, hr])]
  extract_lets mld off r s₁ _ s₂
  have hr₂ : ∀ d n i j, s₂.rd d n i j = s₁.rd d n i j := fun _ _ _ _ => rfl
  refine ⟨s₂, r.1, rfl, ?_, ?_, ?_, ?_, ?_⟩
  · rw [hr₂, show s₁.rd TIM_OFFSET_offset_ps = _ from State.rd_wr_same ..]
    exact Nat.mod_eq_of_lt (ofSigned_lt 32 _)
  · exact s.psOf_near off Nat.one_pos
  · rw [hr₂, show s₁.rd TIM_MLD_mld_ps = _ from (State.rd_wr_ne _ _ (by decide)).trans (State.rd_wr_same ..)]
    exact Nat.mod_eq_of_lt (ofSigned_lt 32 _)
  · simp [s₂, s₁, r]
  · simp [s₂, s₁, r]
/-- A Pdelay_Resp within 10 ns of the average completes its request and joins the average. -/
theorem exec_ptpPdelayResp_accepted {seq c : Nat} {corr t1p : Int} {m : PtpMsg} (hm : m.seq = seq) (hc : m.corr = corr) (hseq : seq < 65536) (hr : s.role f ≠ 0)
    (hreq : (s.ptp f).reqs.find? (fun q => q.2.2 = seq) = some (t1p, c, seq))
    (hnear : ¬((s.ptp f).hist.length ≠ 0 ∧ 20 * 65536 * (s.ptp f).hist.length < (((s.ptp f).hist.length : Int) * (s.t16 - t1p - corr) - (s.ptp f).hist.sum).natAbs)) :
    ∃ (t : State) (p : Int), exec (.ptpPdelayResp f m) s = .next t ∧ (t.ptp f).reqs = (s.ptp f).reqs.filter (fun q => q.2.2 ≠ seq) ∧
      (t.ptp f).hist = ((s.t16 - t1p - corr) :: (s.ptp f).hist).take 16 ∧ t.rd TIM_PORT_MLD_mld_ps 0 f = ofSigned 32 p ∧ (s.role f = 2 → t.rd TIM_MLD_mld_ps = ofSigned 32 p) ∧
      ((t.ptp f).hist.sum * 1000 - p * (65536 * (2 * (t.ptp f).hist.length : Nat))).natAbs < 65536 * (2 * (t.ptp f).hist.length) := by
  subst hm hc
  rw [exec_act (c := .ptpPdelayResp f m) rfl hs, Nat.mod_eq_of_lt hf, Nat.mod_eq_of_lt hseq]
  unfold State.pdelayRespRx
  rw [if_neg (by simp [hb, hr])]
  simp only [hreq, if_neg hnear]
  generalize hu : (s.setPtp f { s.ptp f with reqs := (s.ptp f).reqs.filter fun q => q.2.2 ≠ m.seq }) = u
  generalize hh : ((s.t16 - t1p - m.corr) :: (s.ptp f).hist).take 16 = h
  have hlen : 0 < 2 * h.length := by simp [← hh]
  have hne : TIM_PORT_MLD_mld_ps.key 0 f 0 ≠ TIM_MLD_mld_ps.key 0 0 0 := by
    simp only [RegD.key, TIM_PORT_MLD_mld_ps, TIM_MLD_mld_ps]
    omega
  generalize hx : { u.ptp f with hist := h } = x
  have hxr : x.reqs = (s.ptp f).reqs.filter fun q => q.2.2 ≠ m.seq := by simp [← hx, ← hu]
  have hxh : x.hist = h := by simp [← hx]
  generalize hq : (u.setPtp f x).psOf (h.sum * 1000) (2 * h.length) = q
  have hptp : ∀ (t : State), t.tim = (u.setPtp f x).tim → t.ptp f = x := fun t ht => by
    simp only [State.ptp, ht]
    exact SMap.getD_set_same _ _ _ _
  have hqt : q.2.tim = (u.setPtp f x).tim := by simp [← hq]
  have hp := (u.setPtp f x).psOf_near (h.sum * 1000) hlen
  rw [hq] at hp
  have hrole : q.2.role f = s.role f := by simp [← hq, ← hu, State.role]
  have hport : (q.2.wrI TIM_PORT_MLD_mld_ps q.1 0 f).rd TIM_PORT_MLD_mld_ps 0 f = ofSigned 32 q.1 :=
    (State.rd_wr_same ..).trans (Nat.mod_eq_of_lt (ofSigned_lt 32 _))
  have hrole' : (q.2.wrI TIM_PORT_MLD_mld_ps q.1 0 f).role f = s.role f := by
    rw [← hrole]
    exact State.rd_wr_ne _ _ (by simp only [RegD.key, TIM_PORT_MLD_mld_ps, TIM_PORT_role]; omega)
  refine ⟨_, q.1, rfl, ?_⟩
  split
  · have hx' : ((q.2.wrI TIM_PORT_MLD_mld_ps q.1 0 f).wrI TIM_MLD_mld_ps q.1).ptp f = x := hptp _ hqt
    rw [hx', hxr, hxh]
    exact ⟨rfl, rfl, (State.rd_wr_ne _ _ hne).trans hport,
      fun _ => (State.rd_wr_same ..).trans (Nat.mod_eq_of_lt (ofSigned_lt 32 _)), by simpa using hp⟩
  · next hne2 =>
    have hx' : (q.2.wrI TIM_PORT_MLD_mld_ps q.1 0 f).ptp f = x := hptp _ hqt
    rw [hx', hxr, hxh]
    exact ⟨rfl, rfl, hport, fun h2 => absurd (hrole'.trans h2) hne2, by simpa using hp⟩

theorem exec_ptpPdelayResp_discarded {seq c : Nat} {corr t1p : Int} {m : PtpMsg} (hm : m.seq = seq) (hc : m.corr = corr) (hseq : seq < 65536) (hr : s.role f ≠ 0)
    (hreq : (s.ptp f).reqs.find? (fun q => q.2.2 = seq) = some (t1p, c, seq)) (hlen : (s.ptp f).hist.length ≠ 0)
    (hfar : 20 * 65536 * (s.ptp f).hist.length < (((s.ptp f).hist.length : Int) * (s.t16 - t1p - corr) - (s.ptp f).hist.sum).natAbs) :
    exec (.ptpPdelayResp f m) s = .next ((s.setPtp f { s.ptp f with reqs := (s.ptp f).reqs.filter (fun q => q.2.2 ≠ seq) }).cnt TIM_RX_DISCARD_count) := by
  subst hm hc
  rw [exec_act (c := .ptpPdelayResp f m) rfl hs, Nat.mod_eq_of_lt hf, Nat.mod_eq_of_lt hseq]
  unfold State.pdelayRespRx
  rw [if_neg (by simp [hb, hr])]
  simp only [hreq, if_pos (And.intro hlen hfar)]

end

theorem exec_pdelayTimeout_passed {c q : Nat} {t1p : Int} (hs : s.alive = true) (hf : f < 64) (hlast : (s.ptp f).reqs.getLast? = some (t1p, c, q))
    (hp : s.passed c (s.rdI TIM_INTERVALS_log_pdelay) 3 = true) :
    exec (.pdelayTimeout f) s = .next ((s.setPtp f { s.ptp f with reqs := (s.ptp f).reqs.dropLast }).cnt TIM_PDELAY_TIMEOUT_count) := by
  rw [exec_act (c := .pdelayTimeout f) rfl hs, Nat.mod_eq_of_lt hf]
  simp [State.pdelayLost, hlast, hp]

theorem exec_syncLoss_holdover (hs : s.alive = true) (hstate : s.rd TIM_STATE_state = 2)
    (hp : s.passed s.tim.lastSync (s.rdI TIM_INTERVALS_log_sync) 3 = true) :
    ∃ t, exec .syncLoss s = .next t ∧ t.rd TIM_STATE_state = 3 ∧ t.rd TIM_RATE_rate = s.rd TIM_RATE_rate ∧ t.fclk = s.fclk := by
  refine ⟨s.setTimState 3, ?_, State.rd_setTimState_same (by decide),
    State.rd_setTimState_ne (RegD.past_of (by decide) (by decide) (by decide)) (by decide), s.fclk_setTimState 3⟩
  rw [exec_act (c := .syncLoss) rfl hs, State.syncLost, if_pos ⟨hstate, hp⟩]

theorem leBytes_length (n v : Nat) : (leBytes n v).length = n := by simp [leBytes]

theorem ptpHeader_length (typ len flags corr clockId port seq ctl logInt : Nat) :
    (ptpHeader typ len flags corr clockId port seq ctl logInt).length = 34 := by
  simp [ptpHeader, beBytes, zeros, leBytes_length]

theorem State.ptpBody_sync (s : State) (f q : Nat) :
    (s.ptpBody f 0x10 [q]).1.drop 34 = ptpTime (s.fclk / 2 ^ 32) ∧ (s.ptpBody f 0x10 [q]).2 = s := by
  exact ⟨List.drop_left' (ptpHeader_length ..), rfl⟩

theorem State.ptpBody_pdelayReq (s : State) (f q : Nat) : ((s.ptpBody f 0x12 [q]).2.ptp f).reqs = (s.t16, s.cyc, q) :: (s.ptp f).reqs := by
  simp [State.ptpBody]

end

/-- Settles O6: each message of the time ports, one clause after the other. -/
theorem timePortsExchange : Obligations.TimePortsExchange := by
  unfold Obligations.TimePortsExchange
  refine ⟨⟨?_, ?_, ?_, ?_, ?_⟩, ?_, ?_, ?_, ?_, ?_, ?_⟩
  · exact fun s f hs hf hb => exec_syncTransmit_due hs hf hb
  · exact fun s f hs hf hb => exec_pdelayTransmit_due hs hf hb
  · exact fun s f hs hf hb => exec_announceTransmit_due hs hf hb
  · exact fun s f m hs hf hseq hsrc hb => exec_ptpPdelayReq_answered hs hf hb hseq hsrc
  · exact fun s f q => ⟨(s.ptpBody_sync f q).1, (s.ptpBody_sync f q).2, s.ptpBody_pdelayReq f q⟩
  · exact fun s f t1 corr hs hf hb => exec_ptpSync_slave hs hf hb
  · exact fun s f seq c corr t1p m hs hf hm hc hseq hb hr hreq =>
      ⟨exec_ptpPdelayResp_accepted hs hf hb hm hc hseq hr hreq, exec_ptpPdelayResp_discarded hs hf hb hm hc hseq hr hreq⟩
  · exact fun s f hs hf hb => exec_ptpFollowUp_discarded hs hf hb
  · exact fun s f gm cl hs hf hb => exec_ptpAnnounce_kept hs hf hb
  · exact fun s f c q t1p hs hf => exec_pdelayTimeout_passed hs hf
  · exact fun s hs => exec_syncLoss_holdover hs

end Sys2Proof.Machine

/-! PROOFS. Fabric time: the host's accesses (R31, R35, R41, R42, R46, R60). -/

namespace Sys2Proof.Machine

set_option Elab.async false

section
variable {s : State}

theorem exec_readTimNowNs_served (z : WSize) (hv : s.served 4 0x110) :
    ∃ t, exec (.readTimNowNs z) s = .next t ∧ t.rd TIM_NOW_SEC_sec = s.sec % 2 ^ 48 ∧
      t.out.getLast? = some (.readData (WSize.part z (s.ns * 65536 + s.frac))) := by
  refine ⟨_, exec_hostRead (g := fun u => u.readNow.2.emit (.readData (WSize.part z u.readNow.1))) rfl hv, ?_, ?_⟩
  · simp [State.readNow, State.sec, TIM_NOW_SEC_sec]
  · simp [State.readNow, State.nsFrac, State.ns, State.frac]

theorem exec_cmdSet_valid (hv : s.served 4 0x130) (h : s.rd TIM_SET_NS_ns_frac / 65536 < 10 ^ 9) :
    exec .cmdSet s = .next ((s.event 4 4).setClock (s.rd TIM_SET_SEC_sec * 10 ^ 9 * NS + s.rd TIM_SET_NS_ns_frac * 2 ^ 32)) := by
  have hns : (s.event 4 4).rd TIM_SET_NS_ns_frac = s.rd TIM_SET_NS_ns_frac := State.rd_event_past _ _ _ _ _ (by decide)
  have hsec : (s.event 4 4).rd TIM_SET_SEC_sec = s.rd TIM_SET_SEC_sec := State.rd_event_past _ _ _ _ _ (by decide)
  rw [exec_hostWrite (c := .cmdSet) rfl hv, State.clkSet, hns, hsec, if_pos h]

theorem exec_cmdStep_served (hv : s.served 4 0x130) :
    exec .cmdStep s = .next ((s.event 4 4).stepClock (s.rdI TIM_STEP_ADJ_adj * 2 ^ 32)) := by
  have h : (s.event 4 4).rdI TIM_STEP_ADJ_adj = s.rdI TIM_STEP_ADJ_adj :=
    congrArg (toSigned _) (State.rd_event_past _ _ _ _ _ (by decide))
  rw [exec_hostWrite (c := .cmdStep) rfl hv, h]

theorem exec_timRateWrite_free {w : Wr} (hv : s.served 4 0x140) (hen : s.flag TIM_CTRL_servo_en = false) :
    ∃ t, exec (.timRateWrite w) s = .next t ∧
      t.rd TIM_RATE_rate = ofSigned 64 (clampRate (toSigned 64 (w.merge 0 64 (s.rd TIM_RATE_rate)))) ∧ t.fclk = s.fclk := by
  have hen' : (s.event 4 4).flag TIM_CTRL_servo_en = false := by
    rwa [State.flag_eq, State.rd_event_past _ _ _ _ _ (by decide), ← State.flag_eq]
  refine ⟨_, exec_hostWrite (c := .timRateWrite w) rfl hv, ?_, ?_⟩
  · rw [State.timRate, if_neg (by simp [hen']), State.rd_wrI_same, State.rd_event_past _ _ _ _ _ (by decide)]
    rfl
  · rw [State.timRate, if_neg (by simp [hen'])]
    simp

theorem exec_timRateWrite_owned {w : Wr} (hv : s.served 4 0x140) (hen : s.flag TIM_CTRL_servo_en = true) :
    exec (.timRateWrite w) s = .next (s.event 4 4) := by
  have hen' : (s.event 4 4).flag TIM_CTRL_servo_en = true := by
    rwa [State.flag_eq, State.rd_event_past _ _ _ _ _ (by decide), ← State.flag_eq]
  rw [exec_hostWrite (c := .timRateWrite w) rfl hv, State.timRate, if_pos hen']

theorem State.rd_setTimState_past {s : State} {v : Nat} {d : RegD} {n i j : Nat} (hp : 256 ≤ d.key n i j / 64 % 65536)
    (hk : d.key n i j ≠ TIM_STATE_state.key 0 0 0) : (s.setTimState v).rd d n i j = s.rd d n i j :=
  State.rd_setTimState_ne hp hk

theorem exec_timCtrlWrite_served (w : Wr) (hv : s.served 4 0x100) :
    ∃ t, exec (.timCtrlWrite w) s = .next t ∧ t.rd TIM_CTRL_servo_en = w.merge 1 1 (s.rd TIM_CTRL_servo_en) ∧
      (t.rd TIM_CTRL_mode = 1 → t.rd TIM_STATE_state = 4) ∧ (t.rd TIM_CTRL_mode ≠ 1 → t.rd TIM_STATE_state ≠ 4) := by
  generalize hu : (((s.event 4 4).put TIM_CTRL_mode w).put TIM_CTRL_servo_en w).put TIM_CTRL_step_en w = u
  have hen : u.rd TIM_CTRL_servo_en = w.merge 1 1 (s.rd TIM_CTRL_servo_en) := by
    rw [← hu, State.rd_put_ne _ _ (by decide), State.rd_put_same, State.rd_put_ne _ _ (by decide), State.rd_event_past _ _ _ _ _ (by decide)]
    rfl
  have hset : ∀ v, (u.setTimState v).rd TIM_CTRL_servo_en = w.merge 1 1 (s.rd TIM_CTRL_servo_en) ∧
      (u.setTimState v).rd TIM_CTRL_mode = u.rd TIM_CTRL_mode := fun v =>
    ⟨(State.rd_setTimState_past (by decide) (by decide)).trans hen, State.rd_setTimState_past (by decide) (by decide)⟩
  refine ⟨_, exec_hostWrite (c := .timCtrlWrite w) rfl hv, ?_⟩
  simp only [State.timCtrl, hu]
  split
  · next hmode => exact ⟨(hset 4).1, fun _ => State.rd_setTimState_same (by decide), fun h => absurd ((hset 4).2.trans hmode) h⟩
  · next hmode =>
    split
    · refine ⟨(hset 0).1, fun h => absurd ((hset 0).2.symm.trans h) hmode, fun _ => ?_⟩
      rw [State.rd_setTimState_same (by decide)]
      decide
    · next hstate => exact ⟨hen, fun h => absurd h hmode, fun _ => hstate⟩

theorem TIM_PORT_past {d : RegD} {p : Nat} (hp : p < 64) (hbase : d.base = 1024) (hstride : d.stride = 8) (hstride2 : d.stride2 = 0) (hlo : d.lo < 64) :
    d.past 0 p 0 :=
  RegD.past_of (by omega) (by rw [hbase, hstride, hstride2]; omega) hlo

theorem State.role_event (s : State) {p : Nat} (hp : p < 64) : (s.event 4 4).rd TIM_PORT_role 0 p = s.rd TIM_PORT_role 0 p :=
  State.rd_event_past _ _ _ _ _ (TIM_PORT_past hp rfl rfl rfl (by decide))

theorem State.slaves_event (s : State) : (s.event 4 4).slaves = s.slaves := by
  refine List.filter_congr fun f hf => ?_
  rw [State.role, State.role, s.role_event (List.mem_range.mp hf)]

/-- What a port's role and asymmetry read once a write has been stored. -/
theorem exec_timPortWrite_stored {p : Nat} (w : Wr) (hp : p < 64) (hv : s.served 4 (0x400 + 8 * p))
    (h : ¬(w.merge 0 2 (s.rd TIM_PORT_role 0 p) = 2 ∧ s.rd TIM_PORT_role 0 p ≠ 2 ∧ s.slaves ≠ [])) :
    ∃ t, exec (.timPortWrite p w) s = .next t ∧ t.rd TIM_PORT_role 0 p = w.merge 0 2 (s.rd TIM_PORT_role 0 p) ∧
      t.rd TIM_PORT_asym 0 p = w.merge 32 32 (s.rd TIM_PORT_asym 0 p) := by
  generalize hu : ((s.event 4 4).wr TIM_PORT_role (w.merge 0 2 (s.rd TIM_PORT_role 0 p)) 0 p).put TIM_PORT_asym w 0 p = u
  have hrole : u.rd TIM_PORT_role 0 p = w.merge 0 2 (s.rd TIM_PORT_role 0 p) := by
    rw [← hu, State.rd_put_ne _ _ (RegD.key_ne_of_lo (by decide) (by decide) (by decide))]
    exact State.rd_wr_of_lt _ _ (Wr.merge_lt w 0 2 _)
  have hasym : u.rd TIM_PORT_asym 0 p = w.merge 32 32 (s.rd TIM_PORT_asym 0 p) := by
    rw [← hu, State.rd_put_same, State.rd_wr_ne _ _ (RegD.key_ne_of_lo (by decide) (by decide) (by decide)),
      State.rd_event_past _ _ _ _ _ (TIM_PORT_past hp rfl rfl rfl (by decide))]
    rfl
  refine ⟨_, exec_hostWrite (c := .timPortWrite p w) rfl (by rwa [Nat.mod_eq_of_lt hp]), ?_⟩
  rw [Nat.mod_eq_of_lt hp]
  have key : ∀ d : RegD, d.page = 4 → d.base = 1024 → d.stride = 8 → d.stride2 = 0 → d.lo < 64 →
      ((s.event 4 4).timPort p w).rd d 0 p = u.rd d 0 p := by
    intro d hpage hbase hstride hstride2 hlo
    have hpast := TIM_PORT_past hp hbase hstride hstride2 hlo
    have hkey : ∀ e : RegD, e.stride = 0 → e.stride2 = 0 → e.base < 1024 → e.lo < 64 → d.key 0 p 0 ≠ e.key 0 0 0 := fun e h1 h2 h3 h4 =>
      RegD.key_ne_of_offset (by rw [hbase, hstride, hstride2]; omega) (by rw [h1, h2]; omega) hlo h4 (by rw [hbase, hstride, hstride2, h1, h2]; omega)
    unfold State.timPort
    extract_lets o a v s₁ s₂ _ s₃ l s₄ s₅
    have ho : o = s.rd TIM_PORT_role 0 p := s.role_event hp
    rw [if_neg (by rwa [s.slaves_event, show v = _ from congrArg (w.merge 0 2) ho, ho])]
    have h₁ : s₁ = u := by simp only [s₁, v, ho, hu]
    have h₃ : s₃.rd d 0 p = u.rd d 0 p := by
      have h₂ : s₂.rd d 0 p = u.rd d 0 p := h₁ ▸ State.rd_coverMod ..
      unfold s₃
      clear_value s₂
      split
      · rw [State.rd_setPtp, h₂]
      · exact h₂
    have h₄ : s₄.rd d 0 p = u.rd d 0 p :=
      (State.rd_wr_ne _ _ (hkey TIM_STATE_slave_valid rfl rfl (by decide) (by decide))).trans
        ((State.rd_wr_ne _ _ (hkey TIM_STATE_slave_port rfl rfl (by decide) (by decide))).trans h₃)
    have h₅ : s₅.rd d 0 p = u.rd d 0 p := by
      unfold s₅
      split
      · exact (State.rd_wr_ne _ _ (hkey TIM_MLD_mld_ps rfl rfl (by decide) (by decide))).trans h₄
      · exact h₄
    split
    · exact (State.rd_setTimState_ne hpast (hkey _ rfl rfl (by decide) (by decide))).trans h₅
    · exact h₅
  exact ⟨(key _ rfl rfl rfl rfl (by decide)).trans hrole, (key _ rfl rfl rfl rfl (by decide)).trans hasym⟩

theorem exec_timPortWrite_refused {p : Nat} {w : Wr} (hp : p < 64) (hv : s.served 4 (0x400 + 8 * p)) (h2 : w.merge 0 2 (s.rd TIM_PORT_role 0 p) = 2)
    (hne : s.rd TIM_PORT_role 0 p ≠ 2) (hsl : s.slaves ≠ []) :
    exec (.timPortWrite p w) s = .next ((s.event 4 4).wr TIM_STATUS_role_refused 1) := by
  rw [exec_hostWrite (c := .timPortWrite p w) rfl (by rwa [Nat.mod_eq_of_lt hp]), Nat.mod_eq_of_lt hp]
  simp only [State.timPort, s.role_event hp, s.slaves_event]
  rw [if_pos ⟨h2, hne, hsl⟩]

end

/-- Settles O7: each access of the host to fabric time. -/
theorem timeHostAccesses : Obligations.TimeHostAccesses := by
  unfold Obligations.TimeHostAccesses
  refine ⟨fun s z => exec_readTimNowNs_served z, fun s => exec_cmdSet_valid, fun s hv hlo hhi => ?_, fun s hv hout => ?_,
    fun s w => exec_timRateWrite_free, fun s w => exec_timRateWrite_owned, fun s w => exec_timCtrlWrite_served w,
    fun s p w => exec_timPortWrite_stored w, fun s p w => exec_timPortWrite_refused⟩
  · rw [exec_cmdStep_served hv, State.stepClock, if_neg (by simp; omega)]
    simp
  · rw [exec_cmdStep_served hv, State.stepClock, if_pos (by simpa using hout)]

end Sys2Proof.Machine

/-! PROOFS. Pulse outputs and captures (R45 to R48). -/

namespace Sys2Proof.Machine

set_option Elab.async false

section
variable {s : State} {n m : Nat}

theorem exec_tpoWidthEnd_ended {e : Nat} (hs : s.alive = true) (hn : n < 4) (hend : s.tim.tpoEnd.getD n none = some e) (he : e ≤ s.cyc) :
    exec (.tpoWidthEnd n) s = .next (({ s with tim := { s.tim with tpoEnd := s.tim.tpoEnd.set n none } } : State).emit (.tpo n (s.tpoLevel n false))) := by
  rw [exec_act (c := .tpoWidthEnd n) rfl hs, Nat.mod_eq_of_lt hn]
  simp only [State.tpoWidthEnd, hend, if_pos he]

theorem exec_tcapHoldoffEnd_ended {e : Nat} (hs : s.alive = true) (hm : m < 2) (hend : s.tim.holdEnd.getD m none = some e) (he : e ≤ s.cyc) :
    exec (.tcapHoldoffEnd m) s = .next { s with tim := { s.tim with holdEnd := s.tim.holdEnd.set m none } } := by
  rw [exec_act (c := .tcapHoldoffEnd m) rfl hs, Nat.mod_eq_of_lt hm]
  simp only [State.tcapHoldEnd, hend, if_pos he]

section
variable {rising : Bool} (hs : s.alive = true) (hm : m < 2) (hen : s.flag TIM_TCAP_CFG_enable 0 m = true)
  (hedge : bit (s.rd TIM_TCAP_CFG_edge 0 m) (if rising then 0 else 1) = true)
include hs hm hen hedge

/-- An enabled edge in the hold-off is counted, another starts the hold-off. -/
theorem exec_tcapEdge_enabled : exec (.tcapEdge m rising) s = .next (
    if (s.tim.holdEnd.getD m none).any (s.cyc < ·) then s.cnt TIM_TCAP_OVF_count 0 m
    else if 4 ≤ (s.tim.fifo.getD m []).length then
      (({ s with tim := { s.tim with holdEnd := s.tim.holdEnd.set m (some (s.cyc + 40)) } } : State).cnt TIM_TCAP_OVF_count 0 m).irq 4 4
    else ({ s with tim := { s.tim with holdEnd := s.tim.holdEnd.set m (some (s.cyc + 40)), fifo := s.tim.fifo.set m (s.tim.fifo.getD m [] ++
      [(rising, (s.fclk + clkWrap - 4 * NS) % clkWrap / (10 ^ 9 * NS),
        (s.fclk + clkWrap - 4 * NS) % clkWrap / NS % 10 ^ 9 * 65536 + (s.fclk + clkWrap - 4 * NS) % clkWrap / 2 ^ 32 % 65536)]) } } : State).irq 4 (2 + m)) := by
  have hsel : (if rising then bit (s.rd TIM_TCAP_CFG_edge 0 m) 0 else bit (s.rd TIM_TCAP_CFG_edge 0 m) 1) = true := by
    cases rising <;> exact hedge
  rw [exec_act (c := .tcapEdge m rising) rfl hs, Nat.mod_eq_of_lt hm, State.tcapEdge]
  simp only [hen, hsel]
  rfl

end

theorem exec_timTcapNsRead_pops {z : WSize} {r : Bool} {sec nf : Nat} {q : List (Bool × Nat × Nat)} (hm : m < 2) (hz : z ≠ .lo4)
    (hv : s.served 4 (0x308 + 0x20 * m)) (hq : s.tim.fifo.getD m [] = (r, sec, nf) :: q) (hlen : m < s.tim.fifo.length) :
    ∃ t, exec (.timTcapNsRead m z) s = .next t ∧ t.tim.fifo.getD m [] = q ∧ t.rd TIM_TCAP_SEC_sec 0 m = sec % 2 ^ 48 ∧
      t.out.getLast? = some (.readData (WSize.part z (2 ^ 63 + (if r then 2 ^ 62 else 0) + nf))) := by
  refine ⟨_, exec_hostRead (g := fun u => (u.readTcap (m % 2) z).2.emit (.readData (WSize.part z (u.readTcap (m % 2) z).1))) rfl
    (by rwa [Nat.mod_eq_of_lt hm]), ?_⟩
  simp only [Nat.mod_eq_of_lt hm, State.readTcap, State.event_tim, hq, if_neg hz]
  refine ⟨?_, State.rd_wr_same .., by simp⟩
  simp [List.getD_eq_getElem?_getD, hlen]

theorem TIM_TPO_CFG_past {d : RegD} (hn : n < 4) (hbase : d.base = 0x200) (hstride : d.stride = 8) (hstride2 : d.stride2 = 0) (hlo : d.lo < 64) :
    d.past 0 n 0 :=
  RegD.past_of (by omega) (by rw [hbase, hstride, hstride2]; omega) hlo

/-- The width, the polarity and the enable of a pulse output once a write has put them. -/
theorem State.rd_putTpo (hn : n < 4) (w : Wr) :
    let u := (((s.event 4 4).put TIM_TPO_CFG_polarity w 0 n).put TIM_TPO_CFG_width w 0 n).put TIM_TPO_CFG_enable w 0 n
    u.rd TIM_TPO_CFG_enable 0 n = w.merge 0 1 (s.rd TIM_TPO_CFG_enable 0 n) ∧ u.rd TIM_TPO_CFG_polarity 0 n = w.merge 1 1 (s.rd TIM_TPO_CFG_polarity 0 n) ∧
      u.rd TIM_TPO_CFG_width 0 n = w.merge 8 24 (s.rd TIM_TPO_CFG_width 0 n) := by
  have hne : ∀ {d e : RegD} {i : Nat}, d.lo < 64 ∧ e.lo < 64 ∧ d.lo ≠ e.lo → d.key 0 i 0 ≠ e.key 0 i 0 := fun h => RegD.key_ne_of_lo h.1 h.2.1 h.2.2
  refine ⟨?_, ?_, ?_⟩
  · rw [State.rd_put_same, State.rd_put_ne _ _ (hne (by decide)), State.rd_put_ne _ _ (hne (by decide)),
      State.rd_event_past _ _ _ _ _ (TIM_TPO_CFG_past hn rfl rfl rfl (by decide))]
    rfl
  · rw [State.rd_put_ne _ _ (hne (by decide)), State.rd_put_ne _ _ (hne (by decide)), State.rd_put_same,
      State.rd_event_past _ _ _ _ _ (TIM_TPO_CFG_past hn rfl rfl rfl (by decide))]
    rfl
  · rw [State.rd_put_ne _ _ (hne (by decide)), State.rd_put_same, State.rd_put_ne _ _ (hne (by decide)),
      State.rd_event_past _ _ _ _ _ (TIM_TPO_CFG_past hn rfl rfl rfl (by decide))]
    rfl

theorem exec_timTpoCfgWrite_stored (w : Wr) (hn : n < 3) (hv : s.served 4 (0x200 + 8 * n)) :
    ∃ t, exec (.timTpoCfgWrite n w) s = .next t ∧ t.rd TIM_TPO_CFG_enable 0 n = w.merge 0 1 (s.rd TIM_TPO_CFG_enable 0 n) ∧
      t.rd TIM_TPO_CFG_polarity 0 n = w.merge 1 1 (s.rd TIM_TPO_CFG_polarity 0 n) ∧ t.rd TIM_TPO_CFG_width 0 n = w.merge 8 24 (s.rd TIM_TPO_CFG_width 0 n) := by
  have hmod : n % 4 = n := Nat.mod_eq_of_lt (by omega)
  refine ⟨_, exec_hostWrite (c := .timTpoCfgWrite n w) rfl (by rwa [hmod]), ?_⟩
  rw [hmod, State.tpoCfg]
  extract_lets
  rw [if_pos (by omega)]
  exact State.rd_putTpo (by omega) w

/-- A write of TPO3's configuration, by what it does to the enable bit and who owns the pin. -/
theorem exec_timTpoCfgWrite_three {u : State} (w : Wr) (hv : s.served 4 0x218)
    (hu : u = (((s.event 4 4).put TIM_TPO_CFG_polarity w 0 3).put TIM_TPO_CFG_width w 0 3).put TIM_TPO_CFG_enable w 0 3) :
    exec (.timTpoCfgWrite 3 w) s = .next (
      if w.merge 0 1 (s.rd TIM_TPO_CFG_enable 0 3) = 1 ∧ s.rd TIM_TPO_CFG_enable 0 3 ≠ 1 then
        if s.rd TIM_PIN_OWN_tpo3_owner = 2 ∧ s.tim.obsAt = some s.cyc then
          ((((u.wr CLK_OBS_enable 0).wr CLK_OBS_status 1).irq 2 2).wr TIM_PIN_OWN_tpo3_owner 1).wr TIM_TPO_CFG_status 0 0 3
        else if s.rd TIM_PIN_OWN_tpo3_owner = 2 then (u.wr TIM_TPO_CFG_enable 0 0 3).wr TIM_TPO_CFG_status 1 0 3
        else (u.wr TIM_PIN_OWN_tpo3_owner 1).wr TIM_TPO_CFG_status 0 0 3
      else if s.rd TIM_TPO_CFG_enable 0 3 = 1 ∧ w.merge 0 1 (s.rd TIM_TPO_CFG_enable 0 3) ≠ 1 ∧ s.rd TIM_PIN_OWN_tpo3_owner = 1 then
        u.wr TIM_PIN_OWN_tpo3_owner 0
      else u) := by
  have hen : u.rd TIM_TPO_CFG_enable 0 3 = w.merge 0 1 (s.rd TIM_TPO_CFG_enable 0 3) := hu ▸ (State.rd_putTpo (by decide) w).1
  have hwas : (s.event 4 4).rd TIM_TPO_CFG_enable 0 3 = s.rd TIM_TPO_CFG_enable 0 3 := State.rd_event_past _ _ _ _ _ (by decide)
  have hown : u.rd TIM_PIN_OWN_tpo3_owner = s.rd TIM_PIN_OWN_tpo3_owner := by
    rw [hu, State.rd_put_ne _ _ (by decide), State.rd_put_ne _ _ (by decide), State.rd_put_ne _ _ (by decide), State.rd_event_past _ _ _ _ _ (by decide)]
  have htim : u.tim = s.tim := by simp [hu]
  have hcyc : u.cyc = s.cyc := by simp [hu]
  rw [exec_hostWrite (c := .timTpoCfgWrite 3 w) rfl hv]
  simp only [State.tpoCfg, ← hu, State.flag_eq, hwas, hen, hown, htim, hcyc]
  simp

end

/-- Settles O8: pulses and captures, and the writes of TPO3 by the cases of who owns its pin. -/
theorem pulsesAndCaptures : Obligations.PulsesAndCaptures := by
  unfold Obligations.PulsesAndCaptures
  refine ⟨fun s n e => exec_tpoWidthEnd_ended, fun s u m rising hs hm hen hedge hhold hu => ?_, fun s m rising hs hm hen hedge hhold => ?_,
    fun s m e => exec_tcapHoldoffEnd_ended, fun s m z r sec nf q => exec_timTcapNsRead_pops, fun s n w => exec_timTpoCfgWrite_stored w,
    fun s u w hv hu => ?_⟩
  · subst hu
    rw [exec_tcapEdge_enabled hs hm hen hedge, if_neg (by rw [hhold]; decide)]
    exact ⟨fun hlen => by rw [if_neg (by omega)], fun hlen => by rw [if_pos hlen]⟩
  · rw [exec_tcapEdge_enabled hs hm hen hedge, if_pos hhold]
  · rw [exec_timTpoCfgWrite_three w hv hu]
    refine ⟨fun h0 h1 hown hobs => ?_, fun h0 h1 hown hobs => ?_, fun h0 h1 hown => ?_, fun h1 h0 hown => ?_, fun hsame => ?_⟩
    · simp [h0, h1, hown, hobs]
    · simp [h0, h1, hown, hobs]
    · simp [h0, h1, hown]
    · simp [h0, h1, hown]
    · rw [hsame, if_neg (fun h => h.2 h.1), if_neg (fun h => h.2.1 h.1)]

end Sys2Proof.Machine

/-! PROOFS. Cairn units: what an access reads of them, arming, cancelling and settings (R53 to R57, R59). -/

namespace Sys2Proof.Machine

set_option Elab.async false

section
variable {s : State} {n : Nat}

/-- A register of a cairn unit (R53). -/
def RegD.ofUnit (d : RegD) : Bool := 4096 ≤ d.base && d.base < 4160 && d.stride = 64 && d.stride2 = 0 && d.lo < 64

theorem RegD.ofUnit_past {d : RegD} (hd : d.ofUnit = true) (hn : n < 32) : d.past 0 n 0 := by
  simp only [RegD.ofUnit, Bool.and_eq_true, decide_eq_true_eq] at hd
  obtain ⟨⟨⟨⟨hlo, hhi⟩, hstride⟩, hstride2⟩, hbit⟩ := hd
  exact RegD.past_of (by omega) (by rw [hstride, hstride2]; omega) hbit

theorem State.rd_event_unit {pg b : Nat} {tc : Option Nat} {m : Nat} {d : RegD} (hd : d.ofUnit = true) (hn : n < 32) :
    (s.event pg b tc m).rd d 0 n = s.rd d 0 n :=
  State.rd_event_past _ _ _ _ _ (RegD.ofUnit_past hd hn)

theorem State.rd_irq_unit {pg b : Nat} {d : RegD} (hd : d.ofUnit = true) (hn : n < 32) : (s.irq pg b).rd d 0 n = s.rd d 0 n :=
  State.rd_irq_past _ _ _ (RegD.ofUnit_past hd hn)

theorem State.isFw_event (s : State) (pg b n : Nat) : (s.event pg b).isFw n = s.isFw n := by
  rw [State.isFw, State.isFw, State.rd_event_past _ _ _ _ _ (by decide)]

theorem State.armed_event (pg b : Nat) (hn : n < 32) : (s.event pg b).armed n = s.armed n := by
  rw [State.armed, State.armed, State.ust, State.ust, State.rd_event_unit (by decide) hn]

theorem State.armInvalid_event (pg b : Nat) (hn : n < 32) : (s.event pg b).armInvalid n = s.armInvalid n := by
  rw [State.armInvalid, State.armInvalid, State.rd_event_unit (by decide) hn, State.rd_event_unit (by decide) hn]

/-- A unit just armed, with nothing of an earlier arm left. -/
theorem State.armUnit_spec (u : State) (hn : n < 32) :
    (u.armUnit n).armed n = true ∧ (u.armUnit n).cu n = { effAt := u.cyc + 4 } ∧ (u.armUnit n).rd CRN_U_STATUS_fire_count 0 n = 0 ∧
      (u.armUnit n).rd CRN_U_STATUS_late 0 n = 0 ∧ (u.armUnit n).rd CRN_U_STATUS_result 0 n = 0 ∧ (u.armUnit n).rd CRN_U_STATUS_refused 0 n = 0 ∧
      (u.armUnit n).rd CRN_U_CTRL_irq_en 0 n = u.rd CRN_U_CTRL_irq_en 0 n ∧ (u.armUnit n).effs = u.effs := by
  have hset : ∀ (t : State) (x : CairnU) (d : RegD) (i : Nat), (t.setCu n x).rd d 0 i = t.rd d 0 i := fun _ _ _ _ => rfl
  have hcu : (u.armUnit n).cu n = { effAt := u.cyc + 4 } := by simp only [State.cu, State.armUnit, State.setCu, SMap.getD_set_same]
  refine ⟨?_, hcu, ?_, ?_, ?_, ?_, ?_, rfl⟩
  · simp only [State.armed, State.ust, State.armUnit, State.setUst, hset]
    rw [State.rd_wr_ne _ _ (by simp only [RegD.key, CRN_U_STATUS_state, CRN_ARMED_armed]; omega), State.rd_wr_same]
    decide
  all_goals
    simp (disch := (simp only [RegD.key, CRN_U_STATUS_state, CRN_ARMED_armed, CRN_U_STATUS_fire_count, CRN_U_STATUS_late, CRN_U_STATUS_result,
      CRN_U_STATUS_refused, CRN_U_CTRL_irq_en]; omega)) only [State.armUnit, State.setUst, State.clearArm, hset, State.rd_wr_ne, State.rd_wr_same, Nat.zero_mod]

section
variable {irqEn : Bool} (hn : n < 32) (hv : s.served 5 (0x1028 + 0x40 * n))
include hn hv

theorem exec_arm_served (alsoCancel : Bool) : exec (.arm n irqEn alsoCancel) s = .next ((s.event 5 4).crnCtrlUnit n true alsoCancel irqEn) := by
  rw [exec_hostWrite (c := .arm n irqEn alsoCancel) rfl (by rwa [Nat.mod_eq_of_lt hn]), Nat.mod_eq_of_lt hn]

theorem exec_cancel_served : exec (.cancel n irqEn) s = .next ((s.event 5 4).crnCtrlUnit n false true irqEn) := by
  rw [exec_hostWrite (c := .cancel n irqEn) rfl (by rwa [Nat.mod_eq_of_lt hn]), Nat.mod_eq_of_lt hn]

theorem exec_arm_accepted (hfw : s.isFw n = false) (harmed : s.armed n = false) (hvalid : s.armInvalid n = false) :
    ∃ t : State, exec (.arm n irqEn false) s = .next t.reDepth ∧ t.armed n = true ∧ t.cu n = { effAt := s.cyc + 4 } ∧
      t.rd CRN_U_STATUS_fire_count 0 n = 0 ∧ t.rd CRN_U_STATUS_late 0 n = 0 ∧ t.rd CRN_U_STATUS_result 0 n = 0 ∧
      t.rd CRN_U_STATUS_refused 0 n = 0 ∧ t.rd CRN_U_CTRL_irq_en 0 n = (if irqEn then 1 else 0) ∧ t.effs = s.effs := by
  generalize hu : (s.event 5 4).wr CRN_U_CTRL_irq_en (if irqEn then 1 else 0) 0 n = u
  have hcyc : u.cyc = s.cyc := by simp [← hu]
  have heffs : u.effs = s.effs := by simp [← hu]
  have hirq : u.rd CRN_U_CTRL_irq_en 0 n = if irqEn then 1 else 0 := by
    rw [← hu, State.rd_wr_same]
    cases irqEn <;> rfl
  have h := u.armUnit_spec hn
  rw [hcyc, heffs, hirq] at h
  refine ⟨u.armUnit n, ?_, h⟩
  rw [exec_arm_served hn hv]
  simp [State.crnCtrlUnit, s.isFw_event, State.armed_event 5 4 hn, State.armInvalid_event 5 4 hn, hfw, harmed, hvalid, hu]

theorem exec_arm_refused {alsoCancel : Bool} (h : s.isFw n = true ∨ alsoCancel = true ∨ s.armed n = true) :
    exec (.arm n irqEn alsoCancel) s = .next ((s.event 5 4).refuseUnit n) := by
  rw [exec_arm_served hn hv, State.crnCtrlUnit, s.isFw_event, State.armed_event 5 4 hn]
  obtain h | h | h := h
  · simp [h]
  · simp [h]
  · simp [h]

theorem exec_arm_invalid (hfw : s.isFw n = false) (harmed : s.armed n = false) (hinv : s.armInvalid n = true) :
    exec (.arm n irqEn false) s = .next (((s.event 5 4).refuseUnit n).wr CRN_U_STATUS_result 3 0 n) := by
  rw [exec_arm_served hn hv]
  simp [State.crnCtrlUnit, s.isFw_event, State.armed_event 5 4 hn, State.armInvalid_event 5 4 hn, hfw, harmed, hinv]

theorem exec_cancel_host (hfw : s.isFw n = false) :
    exec (.cancel n irqEn) s = .next ((if s.armed n then ((s.event 5 4).cancelUnit n).reDepth else s.event 5 4).wr CRN_U_CTRL_irq_en (if irqEn then 1 else 0) 0 n) := by
  rw [exec_cancel_served hn hv]
  simp [State.crnCtrlUnit, s.isFw_event, State.armed_event 5 4 hn, hfw]

theorem exec_cancel_firmware (hfw : s.isFw n = true) : exec (.cancel n irqEn) s = .next ((s.event 5 4).refuseUnit n) := by
  rw [exec_cancel_served hn hv]
  simp [State.crnCtrlUnit, s.isFw_event, hfw]

end

theorem exec_armEffect_judged (hs : s.alive = true) (hn : n < 32) (harmed : s.armed n = true) (hj : (s.cu n).judged = false) (heff : (s.cu n).effAt ≤ s.cyc) :
    exec (.armEffect n) s = .next (if s.instant n ≤ s.fclk then
      ((s.setCu n { s.cu n with judged := true }).fire n (decide (s.instant n + s.clkStep ≤ s.fclk)) false).reDepth
      else s.setCu n { s.cu n with judged := true }) := by
  rw [exec_act (c := .armEffect n) rfl hs, Nat.mod_eq_of_lt hn, State.armEffect]
  rw [if_pos (by simp [harmed, hj, heff])]
  have hinstant : ∀ x, (s.setCu n x).instant n = s.instant n := fun _ => rfl
  have hfclk : ∀ x, (s.setCu n x).fclk = s.fclk := fun _ => rfl
  simp only [State.lateNow, hj, hinstant, hfclk, Bool.not_false, Bool.true_and]

theorem exec_crnUnitRegisterWrite_served {k : Nat} {w : Wr} (hn : n < 32) (hk : k < 5) (hv : s.served 5 (0x1000 + 0x40 * n + 8 * k)) :
    exec (.crnUnitRegisterWrite n k w) s = .next ((s.event 5 4).crnUnitWrite n k w) := by
  rw [exec_hostWrite (c := .crnUnitRegisterWrite n k w) rfl (by rwa [Nat.mod_eq_of_lt hn, Nat.mod_eq_of_lt hk]), Nat.mod_eq_of_lt hn, Nat.mod_eq_of_lt hk]

/-- Settings of a unit that is not ARMED are stored. -/
theorem exec_crnUnitRegisterWrite_stored {w : Wr} (hn : n < 32) (hfw : s.isFw n = false) (harmed : s.armed n = false)
    (hv : ∀ k, k < 5 → s.served 5 (0x1000 + 0x40 * n + 8 * k)) :
    exec (.crnUnitRegisterWrite n 0 w) s = .next ((s.event 5 4).put CRN_U_SEC_sec w 0 n) ∧
    exec (.crnUnitRegisterWrite n 1 w) s = .next (((s.event 5 4).put CRN_U_NS_ns w 0 n).put CRN_U_NS_half w 0 n) ∧
    exec (.crnUnitRegisterWrite n 2 w) s = .next ((s.event 5 4).put CRN_U_PERIOD_period w 0 n) ∧
    exec (.crnUnitRegisterWrite n 3 w) s = .next ((s.event 5 4).put CRN_U_COUNT_count w 0 n) ∧
    exec (.crnUnitRegisterWrite n 4 w) s = .next (((s.event 5 4).put CRN_U_ACTION_class w 0 n).put CRN_U_ACTION_arg w 0 n) := by
  have hfree : ((s.event 5 4).isFw n || (s.event 5 4).armed n) = false := by simp [s.isFw_event, State.armed_event 5 4 hn, hfw, harmed]
  have h : ∀ k, k < 5 → exec (.crnUnitRegisterWrite n k w) s = .next ((s.event 5 4).crnUnitWrite n k w) :=
    fun k hk => exec_crnUnitRegisterWrite_served hn hk (hv k hk)
  simp only [h, State.crnUnitWrite, hfree, Nat.reduceLT, Nat.lt_add_one, and_self, Bool.false_eq_true, if_false]

theorem exec_crnUnitRegisterWrite_refused {k : Nat} {w : Wr} (hn : n < 32) (hk : k < 5) (h : s.isFw n = true ∨ s.armed n = true)
    (hv : s.served 5 (0x1000 + 0x40 * n + 8 * k)) : exec (.crnUnitRegisterWrite n k w) s = .next ((s.event 5 4).refuseUnit n) := by
  have hheld : ((s.event 5 4).isFw n || (s.event 5 4).armed n) = true := by simpa [s.isFw_event, State.armed_event 5 4 hn] using h
  simp only [exec_crnUnitRegisterWrite_served hn hk hv, State.crnUnitWrite, hheld, if_true]

/-- Some ARMED unit would change its owner. -/
theorem State.movesArmed_iff (o v : Nat) :
    ((List.range 32).any fun n => s.armed n && (decide (32 ≤ n + o) != decide (32 ≤ n + v))) = true ↔
      ∃ n, n < 32 ∧ s.armed n = true ∧ ¬(32 ≤ n + o ↔ 32 ≤ n + v) := by
  simp [List.any_eq_true]

/-- Showing each unit's owner leaves CRN_CTRL as it is. -/
theorem State.rd_ownersShown {d : RegD} (hd : d.page = 5 ∧ d.base = 256 ∧ d.stride = 0 ∧ d.stride2 = 0 ∧ d.lo < 64) (u : State) :
    ((List.range 32).foldl (fun t n => t.wr CRN_U_CTRL_owner (if t.isFw n then 1 else 0) 0 n) u).rd d = u.rd d := by
  refine List.foldl_induct (P := fun t : State => t.rd d = u.rd d) (fun t i ht => ?_) _ rfl
  obtain ⟨hpage, hbase, hstride, hstride2, hlo⟩ := hd
  rw [State.rd_wr_ne _ _ (by simp only [RegD.key, CRN_U_CTRL_owner, hpage, hbase, hstride, hstride2]; omega), ht]

theorem exec_crnCtrlWrite_stored {w : Wr} (hv : s.served 5 0x100) (hle : w.merge 0 6 (s.rd CRN_CTRL_fw_units) ≤ 32)
    (hkeep : ∀ n, n < 32 → s.armed n = true → (32 ≤ n + s.rd CRN_CTRL_fw_units ↔ 32 ≤ n + w.merge 0 6 (s.rd CRN_CTRL_fw_units))) :
    ∃ t : State, exec (.crnCtrlWrite w) s = .next t ∧ t.rd CRN_CTRL_fw_units = w.merge 0 6 (s.rd CRN_CTRL_fw_units) ∧
      t.rd CRN_CTRL_quiet_ns = (w.merge CRN_CTRL_quiet_ns.lo CRN_CTRL_quiet_ns.w (s.rd CRN_CTRL_quiet_ns)) % 2 ^ CRN_CTRL_quiet_ns.w := by
  have hfw : (s.event 5 4).rd CRN_CTRL_fw_units = s.rd CRN_CTRL_fw_units := State.rd_event_past _ _ _ _ _ (by decide)
  generalize hu : ((s.event 5 4).put CRN_CTRL_quiet_ns w).wr CRN_CTRL_fw_units (w.merge 0 6 (s.rd CRN_CTRL_fw_units)) = u
  have hunits : u.rd CRN_CTRL_fw_units = w.merge 0 6 (s.rd CRN_CTRL_fw_units) := hu ▸ State.rd_wr_of_lt _ _ (Wr.merge_lt w 0 6 _)
  have hquiet : u.rd CRN_CTRL_quiet_ns = w.merge CRN_CTRL_quiet_ns.lo CRN_CTRL_quiet_ns.w (s.rd CRN_CTRL_quiet_ns) := by
    rw [← hu, State.rd_wr_ne _ _ (by decide), State.rd_put_same, State.rd_event_past _ _ _ _ _ (by decide)]
  refine ⟨(List.range 32).foldl (fun t n => t.wr CRN_U_CTRL_owner (if t.isFw n then 1 else 0) 0 n) u, ?_, ?_, ?_⟩
  · rw [exec_hostWrite (c := .crnCtrlWrite w) rfl hv]
    simp only [State.crnCtrlWrite, hfw, State.movesArmed_iff]
    rw [if_neg, hu]
    rintro (h | ⟨n, hn, harmed, hmoved⟩)
    · omega
    · exact hmoved (hkeep n hn ((State.armed_event 5 4 hn).symm.trans harmed))
  · rw [State.rd_ownersShown (by decide) u, hunits]
  · rw [State.rd_ownersShown (by decide) u, hquiet, Nat.mod_eq_of_lt (Wr.merge_lt ..)]

theorem exec_crnCtrlWrite_refused {w : Wr} (hv : s.served 5 0x100) (hn : n < 32)
    (h : 32 < w.merge 0 6 (s.rd CRN_CTRL_fw_units) ∨
      s.armed n = true ∧ ¬(32 ≤ n + s.rd CRN_CTRL_fw_units ↔ 32 ≤ n + w.merge 0 6 (s.rd CRN_CTRL_fw_units))) :
    exec (.crnCtrlWrite w) s = .next (((s.event 5 4).cnt CRN_REFUSE_CNT_count).irq 5 32) := by
  have hfw : (s.event 5 4).rd CRN_CTRL_fw_units = s.rd CRN_CTRL_fw_units := State.rd_event_past _ _ _ _ _ (by decide)
  rw [exec_hostWrite (c := .crnCtrlWrite w) rfl hv]
  simp only [State.crnCtrlWrite, hfw, State.movesArmed_iff]
  rw [if_pos (h.imp_right fun ⟨harmed, hmoved⟩ => ⟨n, hn, (State.armed_event 5 4 hn).trans harmed, hmoved⟩)]

theorem exec_fwUnitRetry_micro {a : FwAction} {r : List FwAction} (hs : s.alive = true) (hq : s.fwq = a :: r) (hidle : s.idleFw ≠ none) (hmicro : s.atMicro = true) :
    exec .fwUnitRetry s = .next (({ s with fwq := r } : State).ownAgain a) := by
  rw [exec_act (c := .fwUnitRetry) rfl hs]
  simp only [State.ownRetry, hq]
  rw [if_pos (by simp [hmicro, Option.isSome_iff_ne_none, hidle])]

end

/-- Settles O9: each command on a cairn unit. -/
theorem cairnUnitsArmAndCancel : Obligations.CairnUnitsArmAndCancel := by
  unfold Obligations.CairnUnitsArmAndCancel
  refine ⟨fun s n irqEn hn hv => exec_arm_accepted hn hv, fun s n irqEn alsoCancel hn hv => exec_arm_refused hn hv, fun s n irqEn hn hv hfw harmed => ?_,
    fun s n irqEn hn hv hfw harmed => ?_, fun s n irqEn hn hv => exec_cancel_firmware hn hv, fun s n irqEn hn hv => exec_arm_invalid hn hv,
    fun s n hs hn harmed hj heff hlt => ?_, fun s n hs hn harmed hj heff hle => ?_, fun s n w => exec_crnUnitRegisterWrite_stored,
    fun s n k w => exec_crnUnitRegisterWrite_refused, fun s w => exec_crnCtrlWrite_stored, fun s w n => exec_crnCtrlWrite_refused,
    fun s a r => exec_fwUnitRetry_micro⟩
  · rw [exec_cancel_host hn hv hfw, if_pos harmed]
  · rw [exec_cancel_host hn hv hfw, if_neg (by simp [harmed])]
  · rw [exec_armEffect_judged hs hn harmed hj heff, if_neg (Nat.not_le.mpr hlt)]
  · rw [exec_armEffect_judged hs hn harmed hj heff, if_pos hle]

end Sys2Proof.Machine

/-! PROOFS. What a firing does (R49 to R51, R56) and the targets its effects reach (R51, R52, R57). -/

namespace Sys2Proof.Machine

set_option Elab.async false

section
variable {s : State} {n : Nat}

theorem State.setCu_rd (s : State) (n : Nat) (x : CairnU) (d : RegD) (i j k : Nat) : (s.setCu n x).rd d i j k = s.rd d i j k := rfl

theorem State.ust_setUst (s : State) {v : Nat} (hn : n < 32) (hv : v < 2 ^ 3) : (s.setUst n v).ust n = v := by
  unfold State.ust State.setUst
  rw [State.rd_wr_ne _ _ (by simp only [RegD.key, CRN_U_STATUS_state, CRN_ARMED_armed]; omega)]
  exact State.rd_wr_of_lt _ _ hv

theorem State.rd_setUst_ne {d : RegD} {v : Nat} (h1 : d.key 0 n 0 ≠ CRN_U_STATUS_state.key 0 n 0) (h2 : d.key 0 n 0 ≠ CRN_ARMED_armed.key 0 0 0) :
    (s.setUst n v).rd d 0 n = s.rd d 0 n := by
  unfold State.setUst
  rw [State.rd_wr_ne _ _ h2, State.rd_wr_ne _ _ h1]

theorem State.rd_fire_count_setUst (v : Nat) : (s.setUst n v).rd CRN_U_STATUS_fire_count 0 n = s.rd CRN_U_STATUS_fire_count 0 n :=
  State.rd_setUst_ne (by simp only [RegD.key, CRN_U_STATUS_fire_count, CRN_U_STATUS_state]; omega)
    (by simp only [RegD.key, CRN_U_STATUS_fire_count, CRN_ARMED_armed]; omega)

theorem State.rd_late_setUst (v : Nat) : (s.setUst n v).rd CRN_U_STATUS_late 0 n = s.rd CRN_U_STATUS_late 0 n :=
  State.rd_setUst_ne (by simp only [RegD.key, CRN_U_STATUS_late, CRN_U_STATUS_state]; omega)
    (by simp only [RegD.key, CRN_U_STATUS_late, CRN_ARMED_armed]; omega)

/-- `t` holds what a firing of unit `n` leaves: `k` firings counted and the state `st`, the rest as in `s` (R50, R56). -/
structure FiredAs (s t : State) (n k st : Nat) : Prop where
  fired : (t.cu n).k = k
  count : t.rd CRN_U_STATUS_fire_count 0 n = k % 2 ^ CRN_U_STATUS_fire_count.w
  ust : t.ust n = st
  late : t.rd CRN_U_STATUS_late 0 n = 0
  effs : t.effs = s.effs
  fclk : t.fclk = s.fclk
  flights : t.flights = s.flights

theorem FiredAs.irq {t : State} {k st m : Nat} (hn : n < 32) (h : FiredAs s t n k st) : FiredAs s (t.irq 5 m) n k st where
  fired := by simpa [State.cu] using h.fired
  count := (State.rd_irq_unit (by decide) hn).trans h.count
  ust := (State.rd_irq_unit (by decide) hn).trans h.ust
  late := (State.rd_irq_unit (by decide) hn).trans h.late
  effs := by simpa using h.effs
  fclk := by simpa using h.fclk
  flights := by simpa using h.flights

theorem FiredAs.setUst {t : State} {k st v : Nat} (hn : n < 32) (hv : v < 2 ^ 3) (h : FiredAs s t n k st) : FiredAs s (t.setUst n v) n k v where
  fired := by simpa [State.cu, State.setUst] using h.fired
  count := by rw [State.rd_fire_count_setUst, h.count]
  ust := t.ust_setUst hn hv
  late := by rw [State.rd_late_setUst, h.late]
  effs := by simpa [State.setUst] using h.effs
  fclk := by simpa [State.setUst] using h.fclk
  flights := by simpa [State.setUst] using h.flights

/-- The counts of a firing that is not late, written to the unit. -/
theorem FiredAs.counted (k : Nat) (x : CairnU) (hx : x.k = k) :
    FiredAs s (((s.setCu n x).wr CRN_U_STATUS_fire_count k 0 n).wr CRN_U_STATUS_late 0 0 n) n k (s.ust n) where
  fired := by simp [State.cu, State.setCu, hx]
  count := by
    rw [State.rd_wr_ne _ _ (by simp only [RegD.key, CRN_U_STATUS_fire_count, CRN_U_STATUS_late]; omega)]
    exact State.rd_wr_same ..
  ust := by
    unfold State.ust
    rw [State.rd_wr_ne _ _ (by simp only [RegD.key, CRN_U_STATUS_state, CRN_U_STATUS_late]; omega),
      State.rd_wr_ne _ _ (by simp only [RegD.key, CRN_U_STATUS_state, CRN_U_STATUS_fire_count]; omega), State.setCu_rd]
  late := State.rd_wr_same ..
  effs := by simp [State.setCu]
  fclk := by simp [State.setCu]
  flights := by simp [State.setCu]

/-- The effect that a firing of unit `n` puts into the order of effects. -/
def State.firedEff (s : State) (n : Nat) : CrnEff :=
  { unit := n, cls := s.rd CRN_U_ACTION_class 0 n, arg := s.rd CRN_U_ACTION_arg 0 n, due := s.cyc + crnLatency (s.rd CRN_U_ACTION_class 0 n) }

/-- A firing of a unit that is not late: its counts, its end when they are used up, its irq and its effect (R50, R56). -/
theorem State.fire_spec {limit : Nat} (hn : n < 32) (hust : s.ust n = 1) (hlim : limit = if s.uperiod n = 0 then 1 else s.rd CRN_U_COUNT_count 0 n)
    (hk : limit = 0 ∨ (s.cu n).k < limit) : ∃ t : State, FiredAs s t n ((s.cu n).k + 1) (if limit = (s.cu n).k + 1 then 2 else 1) ∧
      s.fire n false false = { t with effs := effInsert (s.firedEff n) s.effs } := by
  unfold State.fire
  extract_lets u per cls limit' passed m k e s₁ s₂ s₃ s₄ s₅ s₆
  have hl : limit' = limit := hlim.symm
  clear_value limit'
  subst hl
  have hk' : k = (s.cu n).k + 1 := by
    simp only [k, m, passed, u, Bool.not_false, or_true, if_true]
    split <;> omega
  have h₃ : FiredAs s s₃ n k 1 := hust ▸ FiredAs.counted k _ rfl
  have h₄ : FiredAs s s₄ n k 1 := h₃
  clear_value s₄ k
  subst hk'
  have h₅ : FiredAs s s₅ n ((s.cu n).k + 1) (if limit' = (s.cu n).k + 1 then 2 else 1) := by
    by_cases hend : limit' = (s.cu n).k + 1
    · rw [show s₅ = s₄.setUst n 2 from if_pos (by omega), if_pos hend]
      exact h₄.setUst hn (by decide)
    · rw [show s₅ = s₄ from if_neg (by omega), if_neg hend]
      exact h₄
  clear_value s₅
  refine ⟨s₆, ?_, ?_⟩
  · simp only [s₆]
    split
    · exact h₅.irq hn
    · exact h₅
  · have heffs : s₆.effs = s.effs := by
      simp only [s₆]
      split <;> simp [h₅.effs]
    rw [heffs]
    rfl

theorem exec_cairnFire_armed {limit : Nat} (hs : s.alive = true) (hn : n < 32) (harmed : s.armed n = true) (hj : (s.cu n).judged = true) (hinst : s.nextInst n ≤ s.fclk)
    (hlim : limit = if s.uperiod n = 0 then 1 else s.rd CRN_U_COUNT_count 0 n) (hk : limit = 0 ∨ (s.cu n).k < limit) :
    ∃ t : State, exec (.cairnFire n) s = .next t.reDepth ∧ (t.cu n).k = (s.cu n).k + 1 ∧
      t.rd CRN_U_STATUS_fire_count 0 n = ((s.cu n).k + 1) % 2 ^ CRN_U_STATUS_fire_count.w ∧
      t.ust n = (if limit = (s.cu n).k + 1 then 2 else 1) ∧
      t.effs = effInsert { unit := n, cls := s.rd CRN_U_ACTION_class 0 n, arg := s.rd CRN_U_ACTION_arg 0 n, due := s.cyc + crnLatency (s.rd CRN_U_ACTION_class 0 n) } s.effs ∧
      t.rd CRN_U_STATUS_late 0 n = 0 ∧ t.fclk = s.fclk ∧ t.flights = s.flights := by
  obtain ⟨t, h, ht⟩ := State.fire_spec hn (of_decide_eq_true harmed) hlim hk
  refine ⟨{ t with effs := effInsert (s.firedEff n) s.effs }, ?_, h.fired, h.count, h.ust, rfl, h.late, h.fclk, h.flights⟩
  rw [exec_act (c := .cairnFire n) rfl hs, Nat.mod_eq_of_lt hn, State.cairnFire, if_pos (by simp [harmed, hj, hinst]), ht]

/-- A due effect runs the operation of its class on the state without it, and shows the result. -/
theorem exec_effect {c : Instr} {u cls : Nat} {e : CrnEff} {f : CrnEff → State → State × Bool} (h : exec c s = act s (s.effect (u % 32) cls f))
    (hs : s.alive = true) (hu : u < 32) (he : s.effDue u cls = some e) : exec c s = .next ((f e s.popEff).1.setResult u (f e s.popEff).2) := by
  rw [exec_act h hs, Nat.mod_eq_of_lt hu, State.effect_of_effDue f he]

/-- An enabled pulse output is driven for its width, with an edge where it was not active. -/
theorem State.tpoEdge_enabled (hen : s.flag TIM_TPO_CFG_enable 0 n = true) : s.popEff.tpoEdge n =
    (if (s.tim.tpoEnd.getD n none).isNone then
      ({ s.popEff with tim := { s.tim with tpoEnd := s.tim.tpoEnd.set n (some (s.cyc + max 1 (s.rd TIM_TPO_CFG_width 0 n))) } } : State).emit (.tpo n (s.tpoLevel n true))
    else { s.popEff with tim := { s.tim with tpoEnd := s.tim.tpoEnd.set n (some (s.cyc + max 1 (s.rd TIM_TPO_CFG_width 0 n))) } }, true) := by
  simp only [State.tpoEdge, State.flag_popEff, hen]
  rfl

theorem State.tpoEdge_disabled (hen : s.flag TIM_TPO_CFG_enable 0 n = false) : s.popEff.tpoEdge n = (s.popEff, false) := by
  simp only [State.tpoEdge, State.flag_popEff, hen]
  rfl

theorem State.effDue_unit {u cls : Nat} {e : CrnEff} (h : s.effDue u cls = some e) : e.unit = u := by
  unfold State.effDue at h
  split at h
  · split at h
    · next hc =>
      cases h
      exact hc.1
    · contradiction
  · contradiction

end

/-- Settles O10: a firing counts, and its effect is put in its place. -/
theorem cairnFireSchedulesItsEffect : Obligations.CairnFireSchedulesItsEffect := by
  unfold Obligations.CairnFireSchedulesItsEffect
  exact fun s n limit => exec_cairnFire_armed

/-- Settles O11: each class's effect runs the operation of its target. -/
theorem cairnEffectsReachTheirTargets : Obligations.CairnEffectsReachTheirTargets := by
  unfold Obligations.CairnEffectsReachTheirTargets
  intro s u hs hu
  refine ⟨fun e he => ?_, fun e he hen hend => ?_, fun e x he hen hend => ?_, fun e he hen => ?_,
    fun e par he => exec_effect (f := fun e t => let r := t.commit (fld e.arg 0 16) par true; (r.2, r.1 = 0)) rfl hs hu he,
    fun e he => exec_effect (f := fun e t => t.tableFlip (e.arg % 4096)) rfl hs hu he,
    fun e he => exec_effect (f := fun e t => t.sliceCommit (fld e.arg 0 12) true) rfl hs hu he,
    fun e he => exec_effect (f := fun e t => t.gateSwap (fld e.arg 0 10) (fld e.arg 10 1)) rfl hs hu he,
    fun e he => exec_effect (f := fun e t => t.bypassSet (fld e.arg 0 6) (fld e.arg 8 6) (bit e.arg 16)) rfl hs hu he,
    fun e he => exec_effect (f := fun e t => t.combChange (fld e.arg 0 3) (fld e.arg 4 3)) rfl hs hu he,
    fun e he => exec_effect (f := fun e t => t.lineMigrate (fld e.arg 0 6) (fld e.arg 8 5)) rfl hs hu he,
    fun e he => exec_effect (f := fun e t => let r := t.startConvoy (e.arg % 65536); (r.2, r.1 = 0)) rfl hs hu he,
    fun e he => exec_effect (f := fun e t => let r := t.flip (e.arg % 16); (r.1, r.2.isNone)) rfl hs hu he,
    fun e he => exec_effect (f := fun e t => t.powerState (fld e.arg 0 8) (fld e.arg 8 2)) rfl hs hu he,
    fun e he => exec_effect (f := fun _ t => t.snapshot) rfl hs hu he,
    fun e he => exec_effect (f := fun e t => t.fwNotice e.unit (fld e.arg 0 32)) rfl hs hu he⟩
  · rw [exec_effect (c := .event u) rfl hs hu he, State.effDue_unit he]
  · rw [exec_effect (c := .tpoEdge u) rfl hs hu he, State.tpoEdge_enabled hen, hend]
    rfl
  · rw [exec_effect (c := .tpoEdge u) rfl hs hu he, State.tpoEdge_enabled hen, hend]
    rfl
  · rw [exec_effect (c := .tpoEdge u) rfl hs hu he, State.tpoEdge_disabled hen]

end Sys2Proof.Machine

/-! PROOFS. The table commands of the FWD pages: the return table (R115, R117, R118) and the tables of configuration (R110, R116, R121). -/

namespace Sys2Proof.Machine

set_option Elab.async false

section
variable {s u : State} {n : Nat}

/-- A command of a FWD page that the page accepts runs on the state with its access counted (R115). -/
theorem exec_fwdCmd {c : Instr} {op table bank : Nat} {all : Bool} (h : exec c s = fwdCmd n op table bank all s) (hn : n < 16)
    (hv : s.served (0x40 + n) 0x200) (hu : u = s.event (0x40 + n) 4) (ht : table < 16 := by omega) (hb : bank < 2 := by omega) :
    exec c s = .next (u.fwdTcmd n op table bank all) := by
  have hw : exec c s = hostWrite s (0x40 + n) 0x200 fun t => t.fwdTcmd n op table bank all := by
    rw [h, fwdCmd, Nat.mod_eq_of_lt hn, Nat.mod_eq_of_lt ht, Nat.mod_eq_of_lt hb]
  rw [hu]
  exact exec_hostWrite hw hv

theorem State.fwdSearch_found {w : Nat} (hk : u.fwdKey n < 2 ^ 24) (h : u.retFind n (u.fwdKey n) = some w) :
    u.fwdSearch n 0 = (u.fwdLoad n [u.retGet n (retSet (u.fwdKey n)) w]).fwdDone n
      (if u.isBad TB_RETURN 0 (retIdx n (retSet (u.fwdKey n)) w) 0 n then 5 else 0) := by
  unfold State.fwdSearch
  rw [if_neg (by omega), h]

theorem State.fwdSearch_missing (hk : u.fwdKey n < 2 ^ 24) (h : u.retFind n (u.fwdKey n) = none) : u.fwdSearch n 0 = u.fwdDone n 1 := by
  unfold State.fwdSearch
  rw [if_neg (by omega), h]

theorem State.fwdSearch_invalid {table : Nat} (h : table ≠ 0 ∨ 2 ^ 24 ≤ u.fwdKey n) : u.fwdSearch n table = u.fwdDone n 3 := if_pos h

theorem State.fwdInsert_invalid {table : Nat} {all : Bool} (h : table ≠ 0 ∨ 2 ^ 24 ≤ u.fwdKey n) : u.fwdInsert n table all = u.fwdDone n 3 := if_pos h

theorem State.fwdDelete_invalid {table : Nat} {all : Bool} (h : table ≠ 0 ∨ 2 ^ 24 ≤ u.fwdKey n) : u.fwdDelete n table all = u.fwdDone n 3 := if_pos h

/-- The index from which NEXT goes on: the first after a restart, else the one after the cursor (R118). -/
theorem nextFrom (restart : Bool) (cursor : Nat) : (if (if restart then 2 ^ 32 - 1 else cursor) = 2 ^ 32 - 1 then 0 else (if restart then 2 ^ 32 - 1 else cursor) + 1) =
    if restart = true ∨ cursor = 2 ^ 32 - 1 then 0 else cursor + 1 := by
  cases restart <;> simp

/-- What NEXT looks for from index `b` on: the first valid entry that fits the filters in force (R118). -/
def State.nextFit (u : State) (n b : Nat) : Option (Nat × Nat) :=
  (u.retList n).find? (fun (i, e) => decide (b ≤ i) && (bit e 49
    && (!u.flag FWD_TKEY_f_slice n || fld e 34 12 = u.rd FWD_TKEY_slice n) && (!u.flag FWD_TKEY_f_port n || fld e 24 10 = u.rd FWD_TKEY_port n)))

section
variable {b i e : Nat} (hb : b = if u.flag FWD_TKEY_restart n = true ∨ u.rd FWD_TSTAT_cursor n = 2 ^ 32 - 1 then 0 else u.rd FWD_TSTAT_cursor n + 1)
include hb

theorem State.fwdNext_found (h : u.nextFit n b = some (i, e)) :
    u.fwdNext n 0 = (((u.wr FWD_TKEY_restart 0 n).wr FWD_TSTAT_cursor i n).fwdLoad n [e]).fwdDone n 0 := by
  unfold State.fwdNext
  dsimp only
  rw [if_neg (by decide), nextFrom, ← hb, show List.find? _ (u.retList n) = some (i, e) from h]

theorem State.fwdNext_end (h : u.nextFit n b = none) : u.fwdNext n 0 = (u.wr FWD_TKEY_restart 0 n).fwdDone n 6 := by
  unfold State.fwdNext
  dsimp only
  rw [if_neg (by decide), nextFrom, ← hb, show List.find? _ (u.retList n) = none from h]

end

/-- INSERT where only the page's own pipeline is asked. -/
theorem State.fwdInsert_one (hk : u.fwdKey n < 2 ^ 24) : u.fwdInsert n 0 false =
    match (match u.retFind n (u.fwdKey n) with | some w => some w | none => u.retVictim n (retSet (u.fwdKey n))) with
    | some w => (u.retPut n (retSet (u.fwdKey n)) w (retWord (u.fwdKey n) (fld (u.fwdData n 0) 24 10) (fld (u.fwdData n 0) 34 12) 0 1)).fwdDone n 0
    | none => u.fwdDone n 4 := by
  unfold State.fwdInsert
  dsimp only
  rw [if_neg (by omega), show allPipes n false = [n] from rfl, List.foldl_cons, List.foldl_nil]
  cases u.retFind n (u.fwdKey n) with
  | some w => rfl
  | none => cases u.retVictim n (retSet (u.fwdKey n)) <;> rfl

theorem allPipes_one {all : Bool} (h : (all && n = 0) = false) : allPipes n all = [n] := by
  unfold allPipes
  rw [if_neg (by simpa using h)]

/-- DELETE where only the page's own pipeline is asked. -/
theorem State.fwdDelete_one {all : Bool} (hk : u.fwdKey n < 2 ^ 24) (h : (all && n = 0) = false) : u.fwdDelete n 0 all =
    match u.retFind n (u.fwdKey n) with
    | some w => (u.retPut n (retSet (u.fwdKey n)) w 0).fwdDone n 0
    | none => u.fwdDone n 1 := by
  unfold State.fwdDelete
  dsimp only
  rw [if_neg (by omega), allPipes_one h, List.foldl_cons, List.foldl_nil]
  cases u.retFind n (u.fwdKey n) <;> rfl

end

/-- Settles O12: each command by the equation of its meaning. -/
theorem returnTableCommands : Obligations.ReturnTableCommands := by
  unfold Obligations.ReturnTableCommands
  intro s u n hn hv hu
  refine ⟨fun w hk hw => ?_, fun hk hw => ?_, fun b hb => ⟨fun i e h => ?_, fun h => ?_⟩, fun all => ?_, fun all => ?_, fun w hk hw => ?_, fun hk hw hvic => ?_,
    fun w hk hw => ?_, fun all hk hw hall => ?_, fun table ht0 ht all => ?_, fun hk all => ?_, fun h0 hk => ?_⟩
  · rw [exec_fwdCmd (c := .search n 0) rfl hn hv hu]
    exact congrArg _ (State.fwdSearch_found hk hw)
  · rw [exec_fwdCmd (c := .search n 0) rfl hn hv hu]
    exact congrArg _ (State.fwdSearch_missing hk hw)
  · rw [exec_fwdCmd (c := .cmdNext n 0) rfl hn hv hu, State.fwdTcmd, State.fwdNext_found hb h]
  · rw [exec_fwdCmd (c := .cmdNext n 0) rfl hn hv hu, State.fwdTcmd, State.fwdNext_end hb h]
  · exact exec_fwdCmd (c := .flushByPort n 0 all) rfl hn hv hu
  · exact exec_fwdCmd (c := .flushBySlice n 0 all) rfl hn hv hu
  · rw [exec_fwdCmd (c := .insert n 0 false) rfl hn hv hu, State.fwdTcmd, State.fwdInsert_one hk]
    obtain hfind | ⟨hfind, hvic⟩ := hw
    · rw [hfind]
    · rw [hfind, hvic]
  · rw [exec_fwdCmd (c := .insert n 0 false) rfl hn hv hu, State.fwdTcmd, State.fwdInsert_one hk, hw, hvic]
  · rw [exec_fwdCmd (c := .delete n 0 false) rfl hn hv hu, State.fwdTcmd, State.fwdDelete_one hk rfl, hw]
  · rw [exec_fwdCmd (c := .delete n 0 all) rfl hn hv hu, State.fwdTcmd, State.fwdDelete_one hk hall, hw]
  · have hne : table ≠ 0 := by omega
    refine ⟨?_, ?_, ?_, ?_, ?_, ?_⟩
    · exact (exec_fwdCmd (c := .search n table) rfl hn hv hu ht).trans (congrArg _ (State.fwdSearch_invalid (.inl hne)))
    · exact (exec_fwdCmd (c := .cmdNext n table) rfl hn hv hu ht).trans (congrArg _ (if_pos hne))
    · exact (exec_fwdCmd (c := .flushByPort n table all) rfl hn hv hu ht).trans (congrArg _ (if_pos hne))
    · exact (exec_fwdCmd (c := .flushBySlice n table all) rfl hn hv hu ht).trans (congrArg _ (if_pos hne))
    · exact (exec_fwdCmd (c := .insert n table all) rfl hn hv hu ht).trans (congrArg _ (State.fwdInsert_invalid (.inl hne)))
    · exact (exec_fwdCmd (c := .delete n table all) rfl hn hv hu ht).trans (congrArg _ (State.fwdDelete_invalid (.inl hne)))
  · refine ⟨?_, ?_, ?_⟩
    · exact (exec_fwdCmd (c := .search n 0) rfl hn hv hu).trans (congrArg _ (State.fwdSearch_invalid (.inr hk)))
    · exact (exec_fwdCmd (c := .insert n 0 all) rfl hn hv hu).trans (congrArg _ (State.fwdInsert_invalid (.inr hk)))
    · exact (exec_fwdCmd (c := .delete n 0 all) rfl hn hv hu).trans (congrArg _ (State.fwdDelete_invalid (.inr hk)))
  · subst h0
    refine ⟨?_, ?_⟩
    · rw [exec_fwdCmd (c := .insert 0 0 true) rfl hn hv hu, State.fwdTcmd, State.fwdInsert]
      dsimp only
      rw [if_neg (by omega)]
      rfl
    · rw [exec_fwdCmd (c := .delete 0 0 true) rfl hn hv hu, State.fwdTcmd, State.fwdDelete]
      dsimp only
      rw [if_neg (by omega)]
      rfl

/-! The tables of configuration. -/

section
variable {u : State} {n : Nat}

theorem State.fwdRead_ok {table bank : Nat} (ht : 1 ≤ table) (hk : fwdIdxOk table (u.fwdKey n) = true) : u.fwdRead n table bank =
    (u.fwdLoad n (u.fwdEntry table bank (u.fwdKey n))).fwdDone n (if u.fwdBad table bank (u.fwdKey n) [n] then 5 else 0) := by
  unfold State.fwdRead
  rw [if_neg (by omega)]
  dsimp only
  rw [hk]
  rfl

theorem State.fwdRead_invalid {table bank : Nat} (ht : 1 ≤ table) (hk : fwdIdxOk table (u.fwdKey n) = false) : u.fwdRead n table bank = u.fwdDone n 3 := by
  unfold State.fwdRead
  rw [if_neg (by omega)]
  dsimp only
  rw [hk]
  rfl

theorem State.fwdWrite_invalid {table bank : Nat} (hk : fwdIdxOk table (u.fwdKey n) = false) : u.fwdWrite n table bank = u.fwdDone n 3 := by
  unfold State.fwdWrite
  dsimp only
  rw [hk]
  rfl

theorem State.fwdRepair_invalid {table bank : Nat} (hk : fwdIdxOk table (u.fwdKey n) = false) : u.fwdRepair n table bank = u.fwdDone n 3 := by
  unfold State.fwdRepair
  dsimp only
  rw [hk, if_pos (by simp)]

theorem State.fwdWrite_dim {bank : Nat} (hk : fwdIdxOk 2 (u.fwdKey n) = true) : u.fwdWrite n 2 bank =
    if u.tblBusy (u.fwdKey n / 512) bank then u.fwdDone n 2
    else ((u.dimStore bank (u.fwdKey n) (u.fwdData n 0 % 65536) true).fwdMend 2 bank (u.fwdKey n)).fwdDone n 0 := by
  unfold State.fwdWrite
  dsimp only
  rw [hk]
  rfl

theorem State.fwdWrite_admitIn {bank : Nat} (hk : fwdIdxOk 3 (u.fwdKey n) = true) : u.fwdWrite n 3 bank =
    (u.admitStage TB_ADMIT_IN (u.fwdKey n) (u.fwdData n 0)).2.fwdDone n (u.admitStage TB_ADMIT_IN (u.fwdKey n) (u.fwdData n 0)).1 := by
  unfold State.fwdWrite
  dsimp only
  rw [hk]
  rfl

theorem State.fwdWrite_lp {bank : Nat} (hk : u.fwdKey n < 1024) : u.fwdWrite n 5 bank =
    (((u.lpStore (u.fwdKey n) (u.fwdData n 0)).coverMod 5 (u.fwdKey n) (lpCovered (u.lpWord (u.fwdKey n)))
      (lpCovered ((u.lpStore (u.fwdKey n) (u.fwdData n 0)).lpWord (u.fwdKey n)))).fwdMend 5 0 (u.fwdKey n)).fwdDone n 0 := by
  have hok : fwdIdxOk 5 (u.fwdKey n) = true := decide_eq_true hk
  unfold State.fwdWrite
  dsimp only
  rw [hok]
  rfl

/-- A spray set's words as WRITE stores them: the fields of R116. -/
theorem sprayWords_zero (f : Nat → Nat) : ((List.range 12).map fun w => sprayMask w (f w)).getD 0 0 = sprayMask 0 (f 0) := by
  simp [List.range_succ]

theorem fld_sprayMask_members (v : Nat) : fld (sprayMask 0 v) 16 7 = fld v 16 7 := by
  rw [sprayMask, if_pos rfl, fld_or]
  have hlow : fld (fld v 0 12) 16 7 = 0 := by
    unfold fld
    rw [Nat.shiftRight_eq_div_pow _ 16]
    omega
  have hhigh : fld (fld v 16 7 <<< 16) 16 7 = fld v 16 7 := by
    unfold fld
    rw [Nat.shiftLeft_shiftRight, Nat.mod_mod]
  rw [hlow, hhigh, Nat.zero_or]

theorem fld_sprayMask_slice (v : Nat) : fld (sprayMask 0 v) 0 12 = fld v 0 12 := by
  rw [sprayMask, if_pos rfl, fld_or]
  have hlow : fld (fld v 0 12) 0 12 = fld v 0 12 := by
    unfold fld
    rw [Nat.shiftRight_zero, Nat.shiftRight_zero, Nat.mod_mod]
  have hhigh : fld (fld v 16 7 <<< 16) 0 12 = 0 := by
    unfold fld
    rw [Nat.shiftLeft_eq]
    omega
  rw [hlow, hhigh, Nat.or_zero]

theorem State.fwdWrite_spray {bank : Nat} (hk : u.fwdKey n < 16384) (hm : fld (u.fwdData n 0) 16 7 ≤ 64)
    (ho : u.tblBusy (fld (u.tget TB_SPRAY bank (u.fwdKey n) 0) 0 12) bank = false) (ho' : u.tblBusy (fld (u.fwdData n 0) 0 12) bank = false) :
    u.fwdWrite n 1 bank =
      ((u.sprayStore bank (u.fwdKey n) ((List.range 12).map fun w => sprayMask w (u.fwdData n w)) true).fwdMend 1 bank (u.fwdKey n)).fwdDone n 0 := by
  have hok : fwdIdxOk 1 (u.fwdKey n) = true := decide_eq_true hk
  unfold State.fwdWrite
  dsimp only
  rw [hok, sprayWords_zero, fld_sprayMask_members, fld_sprayMask_slice, if_neg (by decide), if_neg (by omega), ho, ho']
  rfl

theorem State.fwdMend_dim (t : State) (bank k : Nat) : t.fwdMend 2 bank k = t.mend TB_DIM bank k 0 := rfl

theorem State.isBad_mend_same (t : State) (tb b i w c : Nat) (hc : c < 32) : (t.mend tb b i w).isBad tb b i w c = false := by
  unfold State.mend State.isBad
  rw [Bool.eq_false_iff, ne_eq, List.contains_iff_mem, List.mem_filter, not_and, decide_eq_true_iff]
  intro _
  omega

theorem State.fwdRepair_dim {bank : Nat} (hk : fwdIdxOk 2 (u.fwdKey n) = true) (hbad : u.fwdBad 2 bank (u.fwdKey n) (List.range 16) = true) :
    u.fwdRepair n 2 bank = ((u.dimStore bank (u.fwdKey n) (u.fwdData n 0 % 65536) false).fwdMend 2 bank (u.fwdKey n)).fwdDone n 0 := by
  unfold State.fwdRepair
  dsimp only
  rw [hk, hbad]
  rfl

theorem State.tget_dimStore (t : State) (bank k v : Nat) (hv : v < 2 ^ 64) : (t.dimStore bank k v false).tget TB_DIM bank k 0 = v := by
  unfold State.dimStore State.tset State.tget
  rw [SMap.getD_set_same, Nat.mod_eq_of_lt hv]

end

/-- Settles O13: each command by the equation of its meaning. -/
theorem configurationTableCommands : Obligations.ConfigurationTableCommands := by
  unfold Obligations.ConfigurationTableCommands
  intro s u n hn hv hu
  refine ⟨fun table bank ht1 ht hb hk => ?_, fun bank hb hk hbusy => ?_, fun bank hb hk hbusy => ?_, fun bank hb hk => ⟨?_, rfl, rfl⟩, fun bank hb hk hbad => ?_,
    fun table bank ht hb hk => ⟨fun ht1 => ?_, ?_, ?_⟩, fun bank hb hk => ?_, fun bank hb hk hm ho ho' => ?_⟩
  · rw [exec_fwdCmd (c := .fwdRead n table bank) rfl hn hv hu ht hb, State.fwdTcmd, State.fwdRead_ok ht1 hk]
  · rw [exec_fwdCmd (c := .fwdWrite n 2 bank) rfl hn hv hu (by decide) hb, State.fwdTcmd, State.fwdWrite_dim hk, hbusy, if_neg (by decide)]
  · rw [exec_fwdCmd (c := .fwdWrite n 2 bank) rfl hn hv hu (by decide) hb, State.fwdTcmd, State.fwdWrite_dim hk, hbusy, if_pos rfl]
  · rw [exec_fwdCmd (c := .fwdWrite n 3 bank) rfl hn hv hu (by decide) hb, State.fwdTcmd, State.fwdWrite_admitIn hk]
  · refine ⟨(u.dimStore bank (u.fwdKey n) (u.fwdData n 0 % 65536) false).mend TB_DIM bank (u.fwdKey n) 0, ?_, (u.tget_dimStore bank (u.fwdKey n) (u.fwdData n 0 % 65536) (by omega)), rfl,
      State.isBad_mend_same _ _ _ _ _ _ (by omega)⟩
    rw [exec_fwdCmd (c := .repair n 2 bank) rfl hn hv hu (by decide) hb, State.fwdTcmd, State.fwdRepair_dim hk hbad, State.fwdMend_dim]
  · rw [exec_fwdCmd (c := .fwdRead n table bank) rfl hn hv hu ht hb, State.fwdTcmd, State.fwdRead_invalid ht1 hk]
  · rw [exec_fwdCmd (c := .fwdWrite n table bank) rfl hn hv hu ht hb, State.fwdTcmd, State.fwdWrite_invalid hk]
  · rw [exec_fwdCmd (c := .repair n table bank) rfl hn hv hu ht hb, State.fwdTcmd, State.fwdRepair_invalid hk]
  · rw [exec_fwdCmd (c := .fwdWrite n 5 bank) rfl hn hv hu (by decide) hb, State.fwdTcmd, State.fwdWrite_lp hk]
  · rw [exec_fwdCmd (c := .fwdWrite n 1 bank) rfl hn hv hu (by decide) hb, State.fwdTcmd, State.fwdWrite_spray hk hm ho ho']

end Sys2Proof.Machine

/-! PROOFS. Epoch flips and drains, the seed, the aging tick and the shadow compare (R99, R107, R113, R122). -/

namespace Sys2Proof.Machine

set_option Elab.async false

section
variable {s : State} {sl n : Nat}

/-- A slice in force that does not drain, after its flip (R107). -/
def State.flipped (s : State) (sl : Nat) : State :=
  { ((s.wr FWD_SLICE_EPOCH_cur_epoch (1 - s.rd FWD_SLICE_EPOCH_cur_epoch 0 sl) 0 sl).wr FWD_SLICE_EPOCH_draining 1 0 sl) with
    fwd := { s.fwd with drainEnd := s.fwd.drainEnd.set 0 sl (s.cyc + usCyc (max 10 (s.rd FWD_DRAIN_drain_us))) } }

theorem State.flipped_rd (d : RegD) (n i j : Nat) : (s.flipped sl).rd d n i j =
    ((s.wr FWD_SLICE_EPOCH_cur_epoch (1 - s.rd FWD_SLICE_EPOCH_cur_epoch 0 sl) 0 sl).wr FWD_SLICE_EPOCH_draining 1 0 sl).rd d n i j := rfl

theorem State.rd_flipped_cur_epoch : (s.flipped sl).rd FWD_SLICE_EPOCH_cur_epoch 0 sl = (1 - s.rd FWD_SLICE_EPOCH_cur_epoch 0 sl) % 2 :=
  (State.flipped_rd ..).trans ((State.rd_wr_ne _ _ (RegD.key_ne_of_lo (by decide) (by decide) (by decide))).trans (State.rd_wr_same ..))

theorem State.rd_flipped_draining : (s.flipped sl).rd FWD_SLICE_EPOCH_draining 0 sl = 1 :=
  (State.flipped_rd ..).trans (State.rd_wr_of_lt _ _ (by decide))

/-- A flip writes no other register than the slice's entry of FWD_SLICE_EPOCH. -/
theorem State.rd_flipped_ne {d : RegD} {i : Nat} (h1 : d.key 0 i 0 ≠ FWD_SLICE_EPOCH_cur_epoch.key 0 sl 0) (h2 : d.key 0 i 0 ≠ FWD_SLICE_EPOCH_draining.key 0 sl 0) :
    (s.flipped sl).rd d 0 i = s.rd d 0 i :=
  (State.flipped_rd ..).trans ((State.rd_wr_ne _ _ h2).trans (State.rd_wr_ne _ _ h1))

theorem State.tableFlip_inForce (hst : s.sliceState sl = 1) (hd : s.flag FWD_SLICE_EPOCH_draining 0 sl = false) :
    s.tableFlip sl = ((s.flipped sl).sliceGrace sl, true) := by
  have hus : ∀ v v', ((s.wr FWD_SLICE_EPOCH_cur_epoch v 0 sl).wr FWD_SLICE_EPOCH_draining v' 0 sl).rd FWD_DRAIN_drain_us = s.rd FWD_DRAIN_drain_us := fun v v' => by
    rw [State.rd_wr_ne _ _ (by simp only [RegD.key, FWD_DRAIN_drain_us, FWD_SLICE_EPOCH_draining]; omega),
      State.rd_wr_ne _ _ (by simp only [RegD.key, FWD_DRAIN_drain_us, FWD_SLICE_EPOCH_cur_epoch]; omega)]
  unfold State.tableFlip State.flipped
  rw [hd, if_neg (by decide), if_neg (by simp [hst])]
  dsimp only
  rw [hus]
  simp

theorem exec_tableFlip_inForce {u : Nat} {e : CrnEff} (hs : s.alive = true) (hu : u < 32) (he : s.effDue u 3 = some e) (hsl : sl = e.arg % 4096)
    (hst : s.sliceState sl = 1) (hd : s.flag FWD_SLICE_EPOCH_draining 0 sl = false) :
    ∃ t : State, exec (.tableFlip u) s = .next (t.setResult u true) ∧ t.rd FWD_SLICE_EPOCH_cur_epoch 0 sl = (1 - s.rd FWD_SLICE_EPOCH_cur_epoch 0 sl) % 2 ∧
      t.rd FWD_SLICE_EPOCH_draining 0 sl = 1 ∧ t.fwd.drainEnd.getD 0 sl = s.cyc + usCyc (max 10 (s.rd FWD_DRAIN_drain_us)) ∧
      t.dtm.sgrace.getD 0 sl = s.cyc + usCyc (s.rd DTM_CFG_grace_us) ∧ t.tbl = s.tbl ∧ t.flights = s.flights := by
  refine ⟨(s.popEff.flipped sl).sliceGrace sl, ?_, State.rd_flipped_cur_epoch, State.rd_flipped_draining, SMap.getD_set_same .., ?_, rfl, rfl⟩
  · rw [exec_effect (c := .tableFlip u) (f := fun e t => t.tableFlip (e.arg % 4096)) rfl hs hu he]
    rw [← hsl, State.tableFlip_inForce (by exact hst) (by exact hd)]
  · unfold State.sliceGrace
    rw [SMap.getD_set_same, State.rd_flipped_ne (by simp only [RegD.key, DTM_CFG_grace_us, FWD_SLICE_EPOCH_cur_epoch]; omega)
      (by simp only [RegD.key, DTM_CFG_grace_us, FWD_SLICE_EPOCH_draining]; omega)]
    rfl

/-- A slice whose drain has ended (R107). -/
def State.drained (s : State) (sl : Nat) : State :=
  { (s.wr FWD_SLICE_EPOCH_draining 0 0 sl) with fwd := { s.fwd with drainEnd := s.fwd.drainEnd.del sl } }

theorem State.drained_rd (d : RegD) (n i j : Nat) : (s.drained sl).rd d n i j = (s.wr FWD_SLICE_EPOCH_draining 0 0 sl).rd d n i j := rfl

theorem exec_drainExpiry_due (hs : s.alive = true) (hsl : sl < 4096) (hd : s.flag FWD_SLICE_EPOCH_draining 0 sl = true) (hend : s.fwd.drainEnd.getD 0 sl ≤ s.cyc) :
    ∃ t : State, exec (.drainExpiry sl) s = .next t ∧ t.rd FWD_SLICE_EPOCH_draining 0 sl = 0 ∧
      t.rd FWD_SLICE_EPOCH_cur_epoch 0 sl = s.rd FWD_SLICE_EPOCH_cur_epoch 0 sl ∧ t.tbl = s.tbl := by
  refine ⟨s.drained sl, ?_, (State.drained_rd ..).trans (State.rd_wr_of_lt _ _ (by decide)),
    (State.drained_rd ..).trans (State.rd_wr_ne _ _ (RegD.key_ne_of_lo (by decide) (by decide) (by decide))), rfl⟩
  rw [exec_act (c := .drainExpiry sl) rfl hs, Nat.mod_eq_of_lt hsl, State.drainExpiry, hd, if_pos (by simpa using hend), State.drained]

theorem exec_fwdSeedWrite_gen (w : Wr) (hn : n < 16) (hv : s.served (0x40 + n) 0x120) :
    ∃ t : State, exec (.fwdSeedWrite n w) s = .next t ∧ t.fwd.gen.getD 0 n =
      (if w.merge FWD_SEED_seed.lo FWD_SEED_seed.w (s.rd FWD_SEED_seed n) % 2 ^ FWD_SEED_seed.w = 0 then 1
        else w.merge FWD_SEED_seed.lo FWD_SEED_seed.w (s.rd FWD_SEED_seed n) % 2 ^ FWD_SEED_seed.w) := by
  refine ⟨(s.event (0x40 + n) 4).seedWrite n w, ?_, ?_⟩
  · have hw : exec (.fwdSeedWrite n w) s = hostWrite s (0x40 + n) 0x120 fun t => t.seedWrite n w := by
      rw [← Nat.mod_eq_of_lt hn]
      exact congrArg (fun k => hostWrite s (0x40 + k) 0x120 fun t => t.seedWrite k w) (by omega)
    exact exec_hostWrite hw hv
  · have hseed : (s.event (0x40 + n) 4).rd FWD_SEED_seed n = s.rd FWD_SEED_seed n :=
      State.rd_event_past _ _ _ _ _ (by simp only [RegD.key, FWD_SEED_seed]; omega)
    unfold State.seedWrite
    dsimp only
    rw [SMap.getD_put_same, State.rd_put_same, hseed, Nat.mod_eq_of_lt (Wr.merge_lt ..)]

theorem State.ageTick_due (ht : s.rd FWD_AGE_tick_ms n ≠ 0) (hd : s.fwd.ageAt.getD 0 n + msCyc (s.rd FWD_AGE_tick_ms n) ≤ s.cyc) :
    s.ageTick n = (s.retList n).foldl (fun s (i, e) =>
      if bit e 49 = false ∨ bit e 48 = true then s
      else if 2 ≤ fld e 46 2 then (s.retAt n i 0).cnt FWD_RET_AGED_count n
      else s.retAt n i (setFld e 46 2 (fld e 46 2 + 1))) { s with fwd := { s.fwd with ageAt := s.fwd.ageAt.set 0 n s.cyc } } := by
  unfold State.ageTick
  rw [if_neg (by omega)]
  simp only [Bool.or_eq_true, Bool.not_eq_true']
  rfl

theorem State.rd_withFwd (s : State) (x : FwdSt) (d : RegD) (n i j : Nat) : ({ s with fwd := x } : State).rd d n i j = s.rd d n i j := rfl

/-- The next entry of the shadow walk, and what the walk's place becomes. -/
theorem State.shadowStep_eq {tb b i off : Nat} (h : shadowAt s.fwd.walk = (tb, b, i, off)) : s.shadowStep =
    if s.fwd.walk + 1 < shadowCount then { s.shadowOne tb b i off (s.shadowBytes tb b i) with
      fwd := { (s.shadowOne tb b i off (s.shadowBytes tb b i)).fwd with walk := s.fwd.walk + 1 } }
    else ({ s.shadowOne tb b i off (s.shadowBytes tb b i) with fwd := { (s.shadowOne tb b i off (s.shadowBytes tb b i)).fwd with walk := 0 } } : State).wr
      FWD_SHADOW_CTRL_pass_count ((s.shadowOne tb b i off (s.shadowBytes tb b i)).rd FWD_SHADOW_CTRL_pass_count + 1) := by
  unfold State.shadowStep
  rw [h]
  dsimp only
  generalize s.shadowOne tb b i off (s.shadowBytes tb b i) = u
  by_cases hlt : s.fwd.walk + 1 < shadowCount
  · simp only [if_pos hlt]
  · simp only [if_neg hlt]
    rw [State.rd_withFwd]

theorem State.shadowOn_of (hm : s.rd FWD_TMODE_mode ≠ 0) (hen : s.flag FWD_SHADOW_CTRL_enable = true) : s.shadowOn = true := by
  simp [State.shadowOn, hm, hen]

/-- A mismatch after the first captured one is only counted. -/
theorem State.shadowHit_valid {tb i : Nat} (h : s.flag FWD_SHADOW_FIRST_valid = true) : s.shadowHit tb i = s.cnt FWD_SHADOW_MISMATCH_count := by
  have hkept : (s.cnt FWD_SHADOW_MISMATCH_count).flag FWD_SHADOW_FIRST_valid = true := by
    rw [State.flag_eq_true] at h ⊢
    exact (State.rd_cnt_ne (e := FWD_SHADOW_FIRST_valid) _ _ _ _ _ _ (by unfold RegD.past; decide) (by decide)).trans h
  exact if_pos hkept

/-- An entry of which a copy fails parity is a mismatch, whatever the image holds. -/
theorem State.shadowOne_bad {tb b i off : Nat} (val : List Byte) (h : s.fwdBad tb b i (List.range 16) = true) :
    s.shadowOne tb b i off val = (s.readRes ((s.rd FWD_SHADOW_BASE_base * 2 ^ 24 + off) / 4 * 4) ((val.length + 3) / 4)).2.shadowHit tb i := by
  unfold State.shadowOne
  dsimp only
  rw [if_pos (.inr (.inr h))]

end

/-- Settles O14: flips, drains, seeds, ticks and the walk, each by the lemma of its operation. -/
theorem epochsAgingSeedsAndShadow : Obligations.EpochsAgingSeedsAndShadow := by
  unfold Obligations.EpochsAgingSeedsAndShadow
  refine ⟨⟨fun s u sl e hs hu he hsl hst hd => exec_tableFlip_inForce hs hu he hsl hst hd, fun s sl hs hsl hd hend => exec_drainExpiry_due hs hsl hd hend,
    fun s n w hn hv => exec_fwdSeedWrite_gen w hn hv, fun s n hs hn ht hd => ?_⟩, fun s hs hoff => ?_,
    fun s u tb b i off hs hm hen hat hu => ⟨fun hlt => ?_, fun heq => ?_, fun v hv hbad hvalid => ?_⟩⟩
  · rw [exec_act (c := .ageTick n) rfl hs, Nat.mod_eq_of_lt hn, State.ageTick_due ht hd]
  · rw [exec_act (c := .shadowComparePass) rfl hs, if_neg]
    simp only [State.shadowOn, Bool.and_eq_true, decide_eq_true_eq, not_and]
    obtain hmode | hen := hoff
    · exact fun h => absurd hmode h
    · simp [hen]
  · rw [exec_act (c := .shadowComparePass) rfl hs, if_pos (State.shadowOn_of hm hen), State.shadowStep_eq hat, if_pos hlt, hu]
  · rw [exec_act (c := .shadowComparePass) rfl hs, if_pos (State.shadowOn_of hm hen), State.shadowStep_eq hat, if_neg (by omega), hu]
  · rw [hu, State.shadowOne_bad _ hbad, ← hv, State.shadowHit_valid hvalid]

end Sys2Proof.Machine

/-! PROOFS. A packet's arrival and its way through the forwarding pipeline (R75, R92, R105, R106, R125, R149, R285). -/

namespace Sys2Proof.Machine

set_option Elab.async false

section
variable {s s1 u v w : State} {lp pipe vc n : Nat} {r : RxPkt} {raw : List Byte} {p : Pkt} {bufs : List Nat}

/-- What holds of a packet that the link layer accepted, up to its place in the credits (R92). -/
structure Accepts (s1 u v : State) (lp pipe n vc : Nat) (raw : List Byte) (p : Pkt) : Prop where
  ofRaw : p = Pkt.ofBytes raw
  ofFibre : pipe = s1.portFibre lp / 4
  cells : n = (raw.length + 247) / 256
  ofClass : vc = vcOf p.tc (1 - s1.portDir lp)
  counted : u = (if 17 + (s1.rx lp).count.getD vc 0 < (s1.rx lp).recv.getD vc 0 + n then s1.cnt LNK_CREDIT_OVF_count (s1.portFibre lp / 8) else s1)
  held : v = u.setRx lp { s1.rx lp with recv := (s1.rx lp).recv.set vc ((s1.rx lp).recv.getD vc 0 + n) }

theorem State.accepted_noCells (h : Accepts s1 u v lp pipe n vc raw p) (ht : v.takeVc lp vc n = none) :
    s1.accepted lp r raw = (v.allocFail false 256).returnCredit lp vc n := by
  obtain ⟨rfl, rfl, rfl, rfl, rfl, rfl⟩ := h
  unfold State.accepted
  dsimp only
  rw [ht]

section
variable (h : Accepts s1 u v lp pipe n vc raw p) (ht : v.takeVc lp vc n = some (bufs, w)) (hbad : w.isBad TB_LPCFG 0 lp 0 pipe = false)
include h ht hbad

theorem State.accepted_good (hc : arrivalCheck r.hdrUe p raw.length = none) :
    s1.accepted lp r raw = w.pipeline lp pipe vc (p.withPoison (p.poisonMap ||| r.ueSegs)) bufs := by
  obtain ⟨rfl, rfl, rfl, rfl, rfl, rfl⟩ := h
  unfold State.accepted
  dsimp only
  rw [ht]
  dsimp only
  rw [hbad, if_neg (by decide), hc]

theorem State.accepted_dropped {c : RegD} (hc : arrivalCheck r.hdrUe p raw.length = some (c, none)) :
    s1.accepted lp r raw = ((w.cnt c pipe).freeBufs 0 bufs).returnCredit lp vc n := by
  obtain ⟨rfl, rfl, rfl, rfl, rfl, rfl⟩ := h
  unfold State.accepted
  dsimp only
  rw [ht]
  dsimp only
  rw [hbad, if_neg (by decide), hc]

theorem State.accepted_answered {c : RegD} {why : Nat} (hc : arrivalCheck r.hdrUe p raw.length = some (c, some why)) :
    s1.accepted lp r raw = (((w.cnt c pipe).freeBufs 0 bufs).returnCredit lp vc n).nak p pipe why := by
  obtain ⟨rfl, rfl, rfl, rfl, rfl, rfl⟩ := h
  unfold State.accepted
  dsimp only
  rw [ht]
  dsimp only
  rw [hbad, if_neg (by decide), hc]

end

theorem exec_ingressPacket (hs : s.alive = true) (hlp : lp < 1024) : exec (.ingressPacket lp r) s = .next (s.ingress lp r) := by
  rw [exec_act (c := .ingressPacket lp r) rfl hs, Nat.mod_eq_of_lt hlp]

theorem State.ingress_cut (hcut : r.cut = true) : s.ingress lp r = s.cutShort lp := if_pos hcut

section
variable (hcut : r.cut = false) (hl : s.portService lp ≠ [])
include hcut hl

/-- A whole packet on a port with lanes that the link layer accepts (R92). -/
theorem State.ingress_some (hrx : (s.spoil r.newBad).linkRx lp r = (some raw, s1)) : s.ingress lp r = s1.accepted lp r raw := by
  unfold State.ingress
  rw [hcut, if_neg (by decide), if_neg hl, hrx]

theorem State.ingress_none (hrx : (s.spoil r.newBad).linkRx lp r = (none, s1)) : s.ingress lp r = s1 := by
  unfold State.ingress
  rw [hcut, if_neg (by decide), if_neg hl, hrx]

end

theorem exec_broadcastAck {e : BcEnt} (hs : s.alive = true) (hlp : lp < 1024) (hp : p = Pkt.ofBytes raw) (hrx : (s.linkRx lp r).1 = some raw)
    (he : s.bcAckEntry p lp = some e) : exec (.broadcastAck lp r) s = .next (s.ingress lp r) := by
  rw [exec_act (c := .broadcastAck lp r) rfl hs, Nat.mod_eq_of_lt hlp, hrx, Option.any_some, ← hp, he, Option.isSome_some, if_pos rfl]

end

/-- Settles O16: the link layer's answer first, then the checks of the packet it accepted. -/
theorem packetArrivalIsChecked : Obligations.PacketArrivalIsChecked := by
  unfold Obligations.PacketArrivalIsChecked
  refine ⟨fun s s1 u v lp pipe n vc r raw p hs hlp hcut hl hrx hp hpipe hn hvc hu hv => ?_, fun s s1 lp r hs hlp hcut hl hrx => ?_, fun s lp r hs hlp hcut hup => ?_,
    fun s lp r hs hlp hcut hup => ?_⟩
  · have h : Accepts s1 u v lp pipe n vc raw p := ⟨hp, hpipe, hn, hvc, hu, hv⟩
    have hin := State.ingress_some hcut hl hrx
    refine ⟨fun bufs w ht hbad => ⟨fun hc => ?_, fun c hc => ?_, fun c why hc => ?_, fun e hraw he hc => ?_⟩, fun ht => ?_⟩
    · rw [exec_ingressPacket hs hlp, hin, State.accepted_good h ht hbad hc]
    · rw [exec_ingressPacket hs hlp, hin, State.accepted_dropped h ht hbad hc]
    · rw [exec_ingressPacket hs hlp, hin, State.accepted_answered h ht hbad hc]
    · rw [exec_broadcastAck hs hlp hp hraw he, hin, State.accepted_good h ht hbad hc]
    · rw [exec_ingressPacket hs hlp, hin, State.accepted_noCells h ht]
  · rw [exec_ingressPacket hs hlp, State.ingress_none hcut hl hrx]
  · rw [exec_ingressPacket hs hlp, State.ingress_cut hcut]
    exact congrArg _ (if_pos hup)
  · rw [exec_ingressPacket hs hlp, State.ingress_cut hcut]
    exact congrArg _ (if_neg (by simp [hup]))

section
variable {s s1 : State} {lp pipe vc : Nat} {p : Pkt} {bufs : List Nat}

theorem State.pipeline_notAdmitted (ha : s.admits TB_ADMIT_IN pipe lp p.slice = (false, s1)) : s.pipeline lp pipe vc p bufs =
    ((((s1.cnt FWD_DROP_SLICE_count pipe).freeBufs 0 bufs).returnCredit lp vc (cellCount p.length)).nak p pipe 3) := by
  unfold State.pipeline
  dsimp only
  rw [ha]
  rfl

theorem State.pipeline_epoch (ha : s.admits TB_ADMIT_IN pipe lp p.slice = (true, s1)) (hend : s1.flag LP_CFG_nbr_class 0 lp = false)
    (hep : p.epoch ≠ s1.rd FWD_SLICE_EPOCH_cur_epoch 0 p.slice) (hd : s1.flag FWD_SLICE_EPOCH_draining 0 p.slice = false) : s.pipeline lp pipe vc p bufs =
      ((((s1.cnt FWD_DROP_EPOCH_count pipe).freeBufs 0 bufs).returnCredit lp vc (cellCount p.length)).nak p pipe 4) := by
  unfold State.pipeline
  dsimp only
  rw [ha]
  dsimp only
  rw [if_neg (by decide), if_pos ⟨by simp [hend], hep, by simp [hd]⟩]

section
variable {s2 : State} {p' : Pkt} (ha : s.admits TB_ADMIT_IN pipe lp p.slice = (true, s1))
  (hok : s1.flag LP_CFG_nbr_class 0 lp = true ∨ p.epoch = s1.rd FWD_SLICE_EPOCH_cur_epoch 0 p.slice ∨ s1.flag FWD_SLICE_EPOCH_draining 0 p.slice = true)
  (hp' : p' = if s1.flag LP_CFG_nbr_class 0 lp then { p with epoch := s1.rd FWD_SLICE_EPOCH_cur_epoch 0 p.slice } else p)
  (hs2 : s2 = s1.learn pipe lp p'.src p'.slice)
include ha hok hp' hs2

/-- An ACK of an open broadcast entry is taken by that entry (R285). -/
theorem State.pipeline_bcAck {e : BcEnt} (he : s2.bcAckEntry p' lp = some e) :
    s.pipeline lp pipe vc p bufs = ((s2.freeBufs 0 bufs).returnCredit lp vc (cellCount p.length)).bcAckRx e p' lp := by
  unfold State.pipeline
  dsimp only
  rw [ha]
  dsimp only
  rw [if_neg (by decide), if_neg (by grind), ← hp', ← hs2, he]

variable (he : s2.bcAckEntry p' lp = none)
include he

theorem State.pipeline_unresolved {s3 : State} {c : RegD} {why : Nat} (hr : s2.resolve 9 pipe p' = (.error (c, why), s3)) :
    s.pipeline lp pipe vc p bufs = ((((s3.cnt c pipe).freeBufs 0 bufs).returnCredit lp vc (cellCount p.length)).nak p' pipe why) := by
  unfold State.pipeline
  dsimp only
  rw [ha]
  dsimp only
  rw [if_neg (by decide), if_neg (by grind), ← hp', ← hs2, he]
  dsimp only
  rw [hr]

theorem State.pipeline_policed {s3 s4 : State} {d : Dest} {q : Pkt} (hr : s2.resolve 9 pipe p' = (.ok (d, q), s3)) (hpol : s3.police q = (none, s4)) :
    s.pipeline lp pipe vc p bufs = (s4.freeBufs 0 bufs).returnCredit lp vc (cellCount p.length) := by
  unfold State.pipeline
  dsimp only
  rw [ha]
  dsimp only
  rw [if_neg (by decide), if_neg (by grind), ← hp', ← hs2, he]
  dsimp only
  rw [hr]
  dsimp only
  rw [hpol]

theorem State.pipeline_entered {s3 s4 : State} {d : Dest} {q q' : Pkt} (hr : s2.resolve 9 pipe p' = (.ok (d, q), s3)) (hpol : s3.police q = (some q', s4)) :
    s.pipeline lp pipe vc p bufs = s4.enter q' pipe (s4.inCoreOf lp) (some lp) vc d bufs p'.hopPtr := by
  unfold State.pipeline
  dsimp only
  rw [ha]
  dsimp only
  rw [if_neg (by decide), if_neg (by grind), ← hp', ← hs2, he]
  dsimp only
  rw [hr]
  dsimp only
  rw [hpol]

end
end

/-- Settles O17: the pipeline's steps in their order, one lemma for each way it ends. -/
theorem pipelineStepsInOrder : Obligations.PipelineStepsInOrder := by
  unfold Obligations.PipelineStepsInOrder
  intro s s1 s2 lp pipe vc p p' bufs
  exact ⟨State.pipeline_notAdmitted, State.pipeline_epoch, fun ha hok hp' hs2 => ⟨fun e he => State.pipeline_bcAck ha hok hp' hs2 he,
    fun s3 c why he hr => State.pipeline_unresolved ha hok hp' hs2 he hr, fun s3 s4 d q he hr hpol => State.pipeline_policed ha hok hp' hs2 he hr hpol,
    fun s3 s4 d q q' he hr hpol => State.pipeline_entered ha hok hp' hs2 he hr hpol⟩⟩

end Sys2Proof.Machine

/-! PROOFS. What moves packets inside the module: the crossbar's cell time, reassembly, missing cells, plane faults and the fence (R104, R125 to R134). -/

namespace Sys2Proof.Machine

set_option Elab.async false

section
variable {s s1 s2 : State} {i o lp : Nat} {x : Flight}

/-- What a cell time hands over, once the waiting packets have been judged and struck (R128, R129). -/
theorem State.cellTime_due {lost ue : List (Nat × Nat)} {bad : List Nat} {r : State × List (Nat × Nat × Nat)} (hat : s.xbr.at_ + 10 ≤ s.cyc)
    (h1 : s1 = ((({ s with xbr := { s.xbr with at_ := s.cyc } } : State).spoil bad).retryReroutes).bcRetry.judgeAll)
    (h2 : s2 = (ue.map (·.1)).eraseDups.foldl (fun s i => match s.flight i with
      | some x => if x.loc = .voq then (s.strikePacket x ((ue.filter fun e => e.1 = i).map (·.2))).2 else s
      | none => s) s1)
    (hr : r = (bitsOf 5 (s2.rd XBR_CTRL_plane_en)).foldl (fun (r : State × List (Nat × Nat × Nat)) p =>
      ((r.1.matchPlane p s2.requests).1, r.2 ++ (r.1.matchPlane p s2.requests).2.map fun e => (p, e.1, e.2))) (s2, [])) :
    s.cellTime lost ue bad = r.2.foldl (fun s (p, i, o) => s.handCell p i o (lost.contains (p, i))) r.1 := by
  subst hr h2 h1
  exact if_neg (by omega)

/-- The first packet of a pair none of whose cells is missing goes on (R132). -/
theorem State.reassembled_local (hf : s.flights.find? (fun x => x.loc = .reseq && x.inCore = i && x.outCore = o) = some x)
    (hm : s.xbr.miss.any (fun e => e.inp = i && e.out = o && (e.seq = x.lastSeq || pairBefore e.seq x.lastSeq)) = false)
    (hd : ∀ lp, x.dest ≠ .lp lp) : s.reassembled i o = s.placeQueue { x.marked with admitted := false } := by
  have hdm : x.marked.dest = x.dest := rfl
  unfold State.reassembled
  rw [hf]
  dsimp only
  rw [hm, if_neg (by decide), hdm]
  split
  · next lp h => exact absurd h (hd lp)
  · rfl

section
variable (hf : s.flights.find? (fun x => x.loc = .reseq && x.inCore = i && x.outCore = o) = some x)
  (hm : s.xbr.miss.any (fun e => e.inp = i && e.out = o && (e.seq = x.lastSeq || pairBefore e.seq x.lastSeq)) = false) (hd : x.dest = .lp lp)
include hf hm hd

theorem State.reassembled_admitted (ha : s.egressSlice x.marked lp = (true, s1)) : s.reassembled i o = (s1.countReroute x.marked).placeQueue x.marked := by
  have hdm : x.marked.dest = .lp lp := hd
  unfold State.reassembled
  rw [hf]
  dsimp only
  rw [hm, if_neg (by decide), hdm]
  dsimp only
  rw [ha, if_pos rfl]

theorem State.reassembled_dropped (ha : s.egressSlice x.marked lp = (false, s1)) : s.reassembled i o = s1.dropEgress x.marked lp := by
  have hdm : x.marked.dest = .lp lp := hd
  unfold State.reassembled
  rw [hf]
  dsimp only
  rw [hm, if_neg (by decide), hdm]
  dsimp only
  rw [ha, if_neg (by simp)]

end

/-- The one missing cell of a pair has not come in time: its packet is lost (R132). -/
theorem State.reseqTimeout_lost {e : MissCell} {c : Nat} (hl : s.xbr.miss.filter (fun e => e.inp = i && e.out = o) = [e]) (hlater : e.later = some c)
    (ht : c + nsCyc (max 100 (s.rd XBR_RESEQ_timeout_ns)) ≤ s.cyc) (hx : s.flight e.flight = some x) :
    s.reseqTimeout i o = (((({ s with xbr := { s.xbr with miss := s.xbr.miss.filter fun e => !(e.inp = i && e.out = o) } } : State).dropFlight x).cnt
      XBR_RESEQ_LOST_count).irq 9 1).nak x.pkt x.pipe 8 := by
  have hids : ([e].map (·.flight)).eraseDups = [e.flight] := rfl
  unfold State.reseqTimeout
  dsimp only
  rw [hl]
  dsimp only
  rw [hlater, hids, if_neg (by simpa using ht), List.foldl_cons, List.foldl_nil,
    show State.flight { s with xbr := { s.xbr with miss := s.xbr.miss.filter fun e => !(e.inp = i && e.out = o) } } e.flight = some x from hx]

end

/-- Settles O18: each movement by the lemma of its operation. -/
theorem switchingCoreMovesPackets : Obligations.SwitchingCoreMovesPackets := by
  unfold Obligations.SwitchingCoreMovesPackets
  refine ⟨fun s s1 s2 lost ue bad r hs hat h1 h2 hr => ?_, fun s i o x hs hi ho hf hm => ⟨fun l hd => ?_, fun lp s1 hd ha => ?_, fun lp s1 hd ha => ?_⟩,
    fun s i o c e x hs hi ho hl hlater ht hx => ?_, fun s p hs hp => ?_, fun s hs => exec_act (c := .fenceRelease) rfl hs⟩
  · exact (exec_act (c := .crossbarCellTime lost ue bad) rfl hs).trans (congrArg _ (State.cellTime_due hat h1 h2 hr))
  · rw [exec_act (c := .packetReassembled i o) rfl hs, Nat.mod_eq_of_lt hi, Nat.mod_eq_of_lt ho, State.reassembled_local hf hm]
    rintro lp hlp
    simp [hlp] at hd
  · rw [exec_act (c := .packetReassembled i o) rfl hs, Nat.mod_eq_of_lt hi, Nat.mod_eq_of_lt ho, State.reassembled_admitted hf hm hd ha]
  · rw [exec_act (c := .packetReassembled i o) rfl hs, Nat.mod_eq_of_lt hi, Nat.mod_eq_of_lt ho, State.reassembled_dropped hf hm hd ha]
  · rw [exec_act (c := .reseqTimeout i o) rfl hs, Nat.mod_eq_of_lt hi, Nat.mod_eq_of_lt ho, State.reseqTimeout_lost hl hlater ht hx]
  · rw [exec_act (c := .planeFault p) rfl hs, Nat.mod_eq_of_lt hp, State.planeFault]

end Sys2Proof.Machine

/-! PROOFS. What serves the egress queues: the scheduler, shapers, gates, published loads and the spill's return (R145 to R154). -/

namespace Sys2Proof.Machine

set_option Elab.async false

/-! Gate lists. -/

theorem cycleTime_cons (d m : Nat) (l : List (Nat × Nat)) : cycleTime ((d, m) :: l) = d + cycleTime l := by simp [cycleTime]

theorem cycleTime_take_le (l : List (Nat × Nat)) (i : Nat) : cycleTime (l.take i) ≤ cycleTime l := by
  conv => rhs; rw [← List.take_append_drop i l, cycleTime, List.map_append, List.sum_append]
  exact Nat.le_add_right ..

/-- The entry found is the one in whose part of the cycle the instant lies (R150). -/
theorem entryAt_eq (l : List (Nat × Nat)) (i0 e0 t i : Nat) (hi : i < l.length) (hlo : e0 + cycleTime (l.take i) ≤ t) (hhi : t < e0 + cycleTime (l.take (i + 1))) :
    entryAt l i0 e0 t = (i0 + i, e0 + cycleTime (l.take (i + 1))) := by
  induction l generalizing i0 e0 i with
  | nil => simp at hi
  | cons x r ih =>
    obtain ⟨d, m⟩ := x
    cases i with
    | zero =>
      have hd : cycleTime (((d, m) :: r).take (0 + 1)) = d := by simp [cycleTime]
      rw [hd] at hhi ⊢
      rw [entryAt, if_pos hhi, Nat.add_zero]
    | succ j =>
      have htake : ∀ k, cycleTime (((d, m) :: r).take (k + 1)) = d + cycleTime (r.take k) := fun k => by rw [List.take_succ_cons, cycleTime_cons]
      rw [htake] at hlo hhi ⊢
      have hj : j < r.length := by simpa using hi
      rw [entryAt, if_neg (by omega), ih (i0 + 1) (e0 + d) j hj (by omega) (by omega)]
      simp only [Prod.mk.injEq]
      omega

section
variable {s : State} {lp : Nat}

theorem State.gateNow_running {k i e : Nat} {l : List (Nat × Nat)} (hr : (s.gate lp).running = true) (hl : l = s.gateList lp (s.gate lp).bank) (hi : i < l.length)
    (hlo : cycleTime (l.take i) ≤ e) (hhi : e < cycleTime (l.take (i + 1))) (ht : (s.fclk - (s.gate lp).base) / 2 ^ 47 = k * cycleTime l + e)
    (hb : (s.gate lp).base ≤ s.fclk) :
    s.gateNow lp = s.setGate lp { s.gate lp with entry := i, entryEnd := (s.gate lp).base + (k * cycleTime l + cycleTime (l.take (i + 1))) * 2 ^ 47 } := by
  have he : e < cycleTime l := Nat.lt_of_lt_of_le hhi (cycleTime_take_le l _)
  have hne : l ≠ [] := by rintro rfl; simp at hi
  have hx : ((s.fclk : Int) - ((s.gate lp).base : Int)) / ((2 ^ 47 : Nat) : Int) = ((k * cycleTime l + e : Nat) : Int) := by
    rw [← ht, ← Int.natCast_sub hb, Int.natCast_ediv]
  have hmod : (((k * cycleTime l + e : Nat) : Int) % (cycleTime l : Int)).toNat = e := by
    rw [← Int.natCast_emod, Int.toNat_natCast, Nat.add_comm, Nat.add_mul_mod_self_right, Nat.mod_eq_of_lt he]
  unfold State.gateNow
  dsimp only
  rw [← hl, if_neg (by simp [hr, hne]), hx, hmod, entryAt_eq l 0 0 e i hi (by omega) (by omega)]
  congr 2
  · omega
  · omega

theorem State.gateNow_stopped (hr : (s.gate lp).running = false) : s.gateNow lp = s := if_pos (by simp [hr])

end

/-! The scheduler. -/

section
variable {s : State} {q lp : Nat} {x : Flight}

theorem State.setFree_flights (s : State) (p n : Nat) : (s.setFree p n).flights = s.flights := by
  unfold State.setFree
  dsimp only
  split <;> simp

theorem State.freeBuf_flights (s : State) (p i : Nat) : (s.freeBuf p i).flights = s.flights := by
  unfold State.freeBuf State.doubleFree
  dsimp only
  split
  · exact State.setFree_flights ..
  · simp

@[simp] theorem State.freeBufs_flights (s : State) (p : Nat) (l : List Nat) : (s.freeBufs p l).flights = s.flights :=
  List.foldl_induct (P := fun t : State => t.flights = s.flights) (fun t i ht => (t.freeBuf_flights p i).trans ht) l rfl

@[simp] theorem State.returnCredit_flights (s : State) (lp vc n : Nat) : (s.returnCredit lp vc n).flights = s.flights := rfl

@[simp] theorem State.giveCredit_flights (s : State) (x : Flight) : (s.giveCredit x).flights = s.flights := by
  unfold State.giveCredit
  split
  · exact State.returnCredit_flights ..
  · rfl

/-- A packet taken out of the module is gone. -/
@[simp] theorem State.dropFlight_flights (s : State) (x : Flight) : (s.dropFlight x).flights = s.flights.filter fun y => y.id ≠ x.id := by
  unfold State.dropFlight
  dsimp only
  split <;> simp

@[simp] theorem State.chargeShaper_flights (s : State) (q len : Nat) : (s.chargeShaper q len).flights = s.flights := by
  unfold State.chargeShaper
  dsimp only
  split <;> rfl

@[simp] theorem State.ageSample_flights (s : State) (p : Pkt) : (s.ageSample p).flights = s.flights := by
  unfold State.ageSample
  dsimp only
  split
  · rfl
  · split <;> simp

@[simp] theorem State.emptied_flights (s : State) (q : Nat) : (s.emptied q).flights = s.flights := by
  unfold State.emptied
  split <;> rfl

/-- The queue the scheduler chose hands its head to the link layer (R145). -/
theorem State.dequeue_sent {s1 s2 s3 t a b : State} {ue : List Nat} {x y : Flight} (h1 : s1 = ((s.gateNow lp).purgeHeads lp s.flights.length).headChecks lp)
    (hserve : s1.serve lp ((s1.portQueues lp).filter (s1.qEligible lp)) = (some q, s2)) (hx : s2.qhead q = some x) (hy : s2.strikePacket x ue = (some y, s3))
    (ht : s3.handTx lp y.marked (vcOf y.marked.pkt.tc (s1.portDir lp)) = some t) (ha : a = (t.dropFlight y.marked).chargeShaper q (wireLen y.marked.pkt.length))
    (hb : b = { a with qsh := { a.qsh with deficit := a.qsh.deficit.set 0 q (a.qsh.deficit.getD 0 q - wireLen y.marked.pkt.length), sendEnd := a.qsh.sendEnd.put lp (y.marked.pkt.tc, a.fclk + sendHalf (wireLen y.marked.pkt.length) (a.portService lp).length * 2 ^ 47) } }) :
    s.dequeue lp ue = ((((b.event 11 0x10 (some y.marked.pkt.tc)).event 11 0x11 (some y.marked.pkt.tc) (wireLen y.marked.pkt.length)).ageSample y.marked.pkt).emptied q) := by
  subst hb ha
  unfold State.dequeue
  dsimp only
  rw [← h1, hserve]
  dsimp only
  rw [hx]
  dsimp only
  rw [hy]
  dsimp only
  rw [ht]

theorem exec_egressDequeue_sent {s1 s2 s3 t a b : State} {ue : List Nat} {x y : Flight} (hs : s.alive = true) (hlp : lp < 1024)
    (h1 : s1 = ((s.gateNow lp).purgeHeads lp s.flights.length).headChecks lp)
    (hserve : s1.serve lp ((s1.portQueues lp).filter (s1.qEligible lp)) = (some q, s2)) (hx : s2.qhead q = some x) (hy : s2.strikePacket x ue = (some y, s3))
    (ht : s3.handTx lp y.marked (vcOf y.marked.pkt.tc (s1.portDir lp)) = some t) (ha : a = (t.dropFlight y.marked).chargeShaper q (wireLen y.marked.pkt.length))
    (hb : b = { a with qsh := { a.qsh with deficit := a.qsh.deficit.set 0 q (a.qsh.deficit.getD 0 q - wireLen y.marked.pkt.length), sendEnd := a.qsh.sendEnd.put lp (y.marked.pkt.tc, a.fclk + sendHalf (wireLen y.marked.pkt.length) (a.portService lp).length * 2 ^ 47) } }) :
    ∃ u : State, exec (.egressDequeue lp ue) s = .next u ∧ (∀ z ∈ u.flights, z.id ≠ y.id) ∧
      u = ((((b.event 11 0x10 (some y.marked.pkt.tc)).event 11 0x11 (some y.marked.pkt.tc) (wireLen y.marked.pkt.length)).ageSample y.marked.pkt).emptied q) := by
  refine ⟨_, ?_, ?_, rfl⟩
  · rw [exec_act (c := .egressDequeue lp ue) rfl hs, Nat.mod_eq_of_lt hlp, State.dequeue_sent h1 hserve hx hy ht ha hb]
  · have hid : y.marked.id = y.id := rfl
    have hba : b.flights = a.flights := by rw [hb]
    have hflights : b.flights = t.flights.filter fun z => z.id ≠ y.id := by rw [hba, ha, State.chargeShaper_flights, State.dropFlight_flights, hid]
    intro z hz
    simp only [State.emptied_flights, State.ageSample_flights, State.event_flights, hflights, List.mem_filter] at hz
    exact of_decide_eq_true hz.2

end

/-! The spill's return. -/

section
variable {s : State} {q b off : Nat} {x : Flight} (hf : s.flights.find? (fun x => x.queue = q && x.loc.spilled) = some x) (hx : x.loc = .spill b off)
  (hfree : s.spillFree = true) (hroom : s.queueCells q < s.rd QSH_SPILL_MARKS_on_die_resume)
include hf hx hfree hroom

theorem State.readback_read {t t' : State} {p : Pkt} {bufs : List Nat} (hp : s.purged x = false) (ha : s.admitted q x.pkt x.cells = true)
    (ht : s.takeShared x.cells = some (bufs, t)) (hu : (t.useSpill (spillBytes x.pkt)).unspill x b off = (some p, t')) :
    s.readback q = (t'.unchain q b).placeQueue { x with pkt := p, bufs := bufs } := by
  unfold State.readback
  rw [hf]
  dsimp only
  rw [hx]
  dsimp only
  rw [if_neg (by simp [hfree]; omega), hp, if_neg (by decide), ha, if_neg (by decide), ht]
  dsimp only
  rw [hu]

theorem State.readback_purged (hp : s.purged x = true) : s.readback q =
    ((({ (s.useSpill (spillBytes x.pkt)) with flights := s.flights.filter fun y => y.id ≠ x.id } : State).unchain q b)).cnt DTM_PURGE_DROP_count := by
  unfold State.readback
  rw [hf]
  dsimp only
  rw [hx]
  dsimp only
  rw [if_neg (by simp [hfree]; omega), hp, if_pos rfl]
  rfl

end

theorem State.shaperTick_due {s : State} (h : 10 ≤ s.cyc - s.qsh.tickAt) :
    s.shaperTick = (s.tbl.filter fun (k, _) => k / 16 / 2 ^ 25 = TB_SHAPER && k % 16 = 0).foldl
      (fun s' (k, w0) => s'.shape ((s.cyc - s.qsh.tickAt) / 10) (k / 16 % 2 ^ 24) w0)
      { s with qsh := { s.qsh with tickAt := s.qsh.tickAt + 10 * ((s.cyc - s.qsh.tickAt) / 10) } } := by
  unfold State.shaperTick
  exact if_neg (by omega)

/-- Settles O19: each service by the lemma of its operation. -/
theorem egressQueuesServe : Obligations.EgressQueuesServe := by
  unfold Obligations.EgressQueuesServe
  refine ⟨fun s s1 s2 s3 t a b lp q ue x y hs hlp h1 hserve hx hy ht ha hb => exec_egressDequeue_sent hs hlp h1 hserve hx hy ht ha hb, fun s hs h => ?_, fun s hs h => ?_,
    fun s lp k i e l hs hlp hr hl hi hlo hhi ht hb => ?_, fun s lp hs hlp hr => ?_, fun s hs h => ?_, fun s hs h => ?_,
    fun s q b off x hs hq hf hx hfree hroom => ⟨fun t t' p bufs hp ha ht hu => ?_, fun t ht hp => ?_⟩⟩
  · exact (exec_act (c := .shaperTick) rfl hs).trans (congrArg _ (State.shaperTick_due h))
  · exact (exec_act (c := .shaperTick) rfl hs).trans (congrArg _ (if_pos (by omega)))
  · rw [exec_act (c := .gateEntryChange lp) rfl hs, Nat.mod_eq_of_lt hlp, State.gateNow_running hr hl hi hlo hhi ht hb]
  · rw [exec_act (c := .gateEntryChange lp) rfl hs, Nat.mod_eq_of_lt hlp, State.gateNow_stopped hr]
  · exact (exec_act (c := .loadRefresh) rfl hs).trans (congrArg _ (if_neg (by omega)))
  · exact (exec_act (c := .loadRefresh) rfl hs).trans (congrArg _ (if_pos h))
  · rw [exec_act (c := .spillReadback q) rfl hs, Nat.mod_eq_of_lt hq, State.readback_read hf hx hfree hroom hp ha ht hu]
  · rw [exec_act (c := .spillReadback q) rfl hs, Nat.mod_eq_of_lt hq, State.readback_purged hf hx hfree hroom hp, ht]

end Sys2Proof.Machine

/-! PROOFS. The tables of QSH: READ and WRITE (R110, R148, R150, R159). -/

namespace Sys2Proof.Machine

set_option Elab.async false

section
variable {s u : State} {table bank k d0 d1 : Nat}

theorem exec_qshRead (hv : s.served 11 0x200) (hu : u = s.event 11 4) (ht : table < 16) (hb : bank < 2) : exec (.qshRead table bank) s = .next (u.qshRead table bank) := by
  rw [hu]
  have hw : exec (.qshRead table bank) s = hostWrite s 11 0x200 fun t => t.qshRead table bank := by
    rw [← Nat.mod_eq_of_lt ht, ← Nat.mod_eq_of_lt hb]
    exact congrArg (hostWrite s 11 0x200) (by rw [Nat.mod_mod, Nat.mod_mod]; rfl)
  exact exec_hostWrite hw hv

theorem exec_qshWrite (hv : s.served 11 0x200) (hu : u = s.event 11 4) (ht : table < 16) (hb : bank < 2) : exec (.qshWrite table bank) s = .next (u.qshWrite table bank) := by
  rw [hu]
  have hw : exec (.qshWrite table bank) s = hostWrite s 11 0x200 fun t => t.qshWrite table bank := by
    rw [← Nat.mod_eq_of_lt ht, ← Nat.mod_eq_of_lt hb]
    exact congrArg (hostWrite s 11 0x200) (by rw [Nat.mod_mod, Nat.mod_mod]; rfl)
  exact exec_hostWrite hw hv

section
variable {tb n : Nat} (hk : k = u.rd QSH_TKEY_key) (ht : qshTable table = some (tb, n))
include hk ht

theorem State.qshRead_entry (hn : k < n) : u.qshRead table bank =
    ((u.qshEntry table tb (if table = 3 then bank else 0) k).zipIdx.foldl (fun s (v, w) => s.wr QSH_TDATA_data v 0 w) u).qshDone
      (if u.isBad tb (if table = 3 then bank else 0) k 0 16 || u.isBad tb (if table = 3 then bank else 0) k 1 16 then 5 else 0) := by
  subst hk
  unfold State.qshRead
  rw [ht]
  exact if_neg (by omega)

theorem State.qshRead_beyond (hn : n ≤ k) : u.qshRead table bank = u.qshDone 3 := by
  subst hk
  unfold State.qshRead
  rw [ht]
  exact if_pos hn

theorem State.qshWrite_beyond (hn : n ≤ k) : u.qshWrite table bank = u.qshDone 3 := by
  subst hk
  unfold State.qshWrite
  rw [ht]
  exact if_pos hn

end

theorem State.qshRead_none (ht : qshTable table = none) : u.qshRead table bank = u.qshDone 3 := by
  unfold State.qshRead
  rw [ht]

theorem State.qshWrite_none (ht : qshTable table = none) : u.qshWrite table bank = u.qshDone 3 := by
  unfold State.qshWrite
  rw [ht]

/-- The word of a shaper as WRITE stores it: rate, burst and length adjustment (R147). -/
def shaperWord (d : Nat) : Nat := fld d 0 22 ||| fld d 24 24 <<< 24 ||| fld d 48 9 <<< 48

/-- A shaper stored with its word `w`, its bucket full. -/
def State.shaperStored (u : State) (k w : Nat) : State :=
  { ((u.tset TB_SHAPER 0 k 0 w).mend TB_SHAPER 0 k 0) with qsh := { u.qsh with bucket := u.qsh.bucket.set 0 k ((fld w 24 24 * 1600 : Nat) : Int) } }

section
variable (hk : k = u.rd QSH_TKEY_key) (hd0 : d0 = u.rd QSH_TDATA_data 0 0)
include hk hd0

theorem State.qshWrite_shaper (hn : k < 262144) : u.qshWrite 0 bank =
    if toSigned 9 (fld d0 48 9) < -64 then u.qshDone 3 else (u.shaperStored k (shaperWord d0)).qshDone 0 := by
  subst hk hd0
  exact if_neg (by omega)

theorem State.qshWrite_wrr (hn : k < 256) : u.qshWrite 1 bank = ((u.tset TB_WRR 0 k 0 (fld d0 0 8)).mend TB_WRR 0 k 0).qshDone 0 := by
  subst hk hd0
  exact if_neg (by omega)

theorem State.qshWrite_policer (hd1 : d1 = u.rd QSH_TDATA_data 0 1) (hn : k < 32768) : u.qshWrite 2 bank =
    if fld d0 22 22 < fld d0 0 22 then u.qshDone 3
    else if u.sliceState (k / 8) = 2 then u.qshDone 2
    else (((u.policerStore k (fld d0 0 47) (fld d1 0 48)).mend TB_POLICER 0 k 0).mend TB_POLICER 0 k 1).qshDone 0 := by
  subst hk hd0 hd1
  exact if_neg (by omega)

theorem State.qshWrite_gates (hn : k < 65536) : u.qshWrite 3 bank =
    if (u.gate (k / 64)).running && (u.gate (k / 64)).bank = bank then u.qshDone 2
    else ((u.tset TB_TGATE bank k 0 (fld d0 0 32)).mend TB_TGATE bank k 0).qshDone 0 := by
  subst hk hd0
  exact if_neg (by omega)

theorem State.qshWrite_gateConfig (hn : k < 1024) (hen : bit d0 0 = true) : u.qshWrite 4 bank =
    ((u.tset TB_TGCFG 0 k 0 (fld d0 0 1 ||| fld d0 8 8 <<< 8)).mend TB_TGCFG 0 k 0).qshDone 0 := by
  subst hk hd0
  exact (if_neg (by omega)).trans (congrArg (State.qshDone · 0) (if_pos hen))

theorem State.qshWrite_queueGroup (hn : k < 4096) : u.qshWrite 5 bank =
    if u.sliceState k = 2 then u.qshDone 2 else (u.stageWord TB_QGMAP k 0 (fld d0 0 5 ^^^ qgDefault k)).qshDone 0 := by
  subst hk hd0
  exact if_neg (by omega)

end

theorem State.tget_shaperStored (w : Nat) : (u.shaperStored k w).tget TB_SHAPER 0 k 0 = w % 2 ^ 64 := SMap.getD_set_same ..

theorem State.bucket_shaperStored (w : Nat) : (u.shaperStored k w).qsh.bucket.getD 0 k = ((fld w 24 24 * 1600 : Nat) : Int) := SMap.getD_set_same ..

end

/-- Settles O20: each table by the equation of its WRITE, READ by the one for all of them. -/
theorem queueTableCommands : Obligations.QueueTableCommands := by
  unfold Obligations.QueueTableCommands
  intro s u k d0 d1 hv hu hk hd0 hd1
  have hw : ∀ table bank, table < 16 → bank < 2 → exec (.qshWrite table bank) s = .next (u.qshWrite table bank) := fun table bank ht hb => exec_qshWrite hv hu ht hb
  refine ⟨fun table bank tb n ht hb htb hn => ?_, fun bank hb hn hadj => ?_, fun bank hb hn => ?_, fun bank hb hn hrate hst => ?_, fun bank hb hn hrun hbank => ?_,
    fun bank hb hn hfree => ?_, fun bank hb hn hst => ?_, fun bank hb hn hen => ?_, fun table bank ht hb hbad => ?_, fun bank hb hn hadj => ?_, fun bank hb hn hrate => ?_,
    fun bank hb hn hrate hst => ?_, fun bank hb hn hst => ?_⟩
  · rw [exec_qshRead hv hu ht hb, State.qshRead_entry hk htb hn]
  · refine ⟨u.shaperStored k (shaperWord d0), ?_, State.tget_shaperStored _, State.bucket_shaperStored _⟩
    rw [hw 0 bank (by decide) hb, State.qshWrite_shaper hk hd0 hn, if_neg (by omega)]
  · rw [hw 1 bank (by decide) hb, State.qshWrite_wrr hk hd0 hn]
  · rw [hw 2 bank (by decide) hb, State.qshWrite_policer hk hd0 hd1 hn, if_neg (by omega), if_neg hst]
  · rw [hw 3 bank (by decide) hb, State.qshWrite_gates hk hd0 hn, if_pos (by simp [hrun, hbank])]
  · rw [hw 3 bank (by decide) hb, State.qshWrite_gates hk hd0 hn, hfree, if_neg (by decide)]
  · rw [hw 5 bank (by decide) hb, State.qshWrite_queueGroup hk hd0 hn, if_neg hst]
  · rw [hw 4 bank (by decide) hb, State.qshWrite_gateConfig hk hd0 hn hen]
  · rw [exec_qshRead hv hu ht hb, hw table bank ht hb]
    obtain hnone | ⟨tb, n, htb, hn⟩ := hbad
    · rw [State.qshRead_none hnone, State.qshWrite_none hnone]
      exact ⟨rfl, rfl⟩
    · rw [State.qshRead_beyond hk htb hn, State.qshWrite_beyond hk htb hn]
      exact ⟨rfl, rfl⟩
  · rw [hw 0 bank (by decide) hb, State.qshWrite_shaper hk hd0 hn, if_pos hadj]
  · rw [hw 2 bank (by decide) hb, State.qshWrite_policer hk hd0 hd1 hn, if_pos hrate]
  · rw [hw 2 bank (by decide) hb, State.qshWrite_policer hk hd0 hd1 hn, if_neg (by omega), if_pos hst]
  · rw [hw 5 bank (by decide) hb, State.qshWrite_queueGroup hk hd0 hn, if_pos hst]

end Sys2Proof.Machine

/-! PROOFS. Contributions at a core's port: the checks in their order (R167 to R173, R474). -/

namespace Sys2Proof.Machine

set_option Elab.async false

section
variable {s : State} {l ph : Nat} {x : Flight}

theorem State.atPort_asleep {f : State → State} (hx : s.headLocal (.serai l) = some x) (hph : s.physOf l = some ph) (ha : s.coreAsleep ph = true) :
    s.atPort l f = s.wakeCore ph true := by
  unfold State.atPort
  rw [hx, hph]
  exact if_pos ha

theorem State.atPort_awake {f : State → State} (hx : s.headLocal (.serai l) = some x) (hph : s.physOf l = some ph) (ha : s.coreAsleep ph = false) : s.atPort l f = f s := by
  unfold State.atPort
  rw [hx, hph]
  exact if_neg (by simp [ha])

/-- The checks of a contribution that the arrival queue has room for, in their order (R167, R168, R170). -/
def State.checkContribution (s : State) (x : Flight) (l : Nat) : State :=
  if s.arriveSlice x.pkt = false then ((s.dropFlight x).cnt SRG_DROP_SLICE_count).nak x.pkt x.pipe 3
  else if s.arriveForm x.pkt = false then (s.dropFlight x).cnt SRG_MALFORMED_count
  else if e2eOf x.pkt.payload ≠ x.pkt.e2e then ((s.dropFlight x).cnt SRG_E2E_BAD_count).nak x.pkt x.pipe 5
  else match s.arriveLate x.pkt with
    | some why =>
      (((((((s.dropFlight x).cnt SRG_LATE_count).wr SRG_LATE_LOC_ctx x.pkt.ctx).wr SRG_LATE_LOC_member x.pkt.member).wr SRG_LATE_LOC_attempt x.pkt.attempt).wr
        SRG_LATE_LOC_valid 1).wr SRG_LATE_LOC_chunk x.pkt.chunk).irq 12 4 |>.nak x.pkt x.pipe why
    | none =>
      if s.ctxActive x.pkt.ctx = false then (s.dropFlight x).noRes x.pkt x.pipe 1
      else if s.ctxBase x.pkt.ctx + s.ctxLen x.pkt.ctx ≤ x.pkt.chunk ∨ s.ctxFloor x.pkt.ctx + s.ctxAhead x.pkt.ctx ≤ x.pkt.chunk then (s.dropFlight x).noRes x.pkt x.pipe 2
      else s.joinChunk x l

section
variable (hx : s.headLocal (.serai l) = some x) (hk : x.pkt.kind = 1) (hph : s.physOf l = some ph)
include hx hk hph

theorem State.contribution_waits (h : 32 ≤ (s.core ph).aq.length ∨ s.ser.fencing.contains l = true) : s.contribution l = s := by
  unfold State.contribution
  rw [hx]
  dsimp only
  rw [if_neg (by simp [hk]), hph]
  exact if_pos h

theorem State.contribution_checked (hroom : (s.core ph).aq.length < 32) (hf : s.ser.fencing.contains l = false) : s.contribution l = s.checkContribution x l := by
  unfold State.contribution State.checkContribution
  rw [hx]
  dsimp only
  rw [if_neg (by simp [hk]), hph]
  dsimp only
  rw [if_neg (not_or.mpr ⟨by omega, by rw [hf]; decide⟩)]
  cases s.arriveSlice x.pkt
  · rfl
  cases s.arriveForm x.pkt
  · rfl
  by_cases he : e2eOf x.pkt.payload = x.pkt.e2e
  · cases s.arriveLate x.pkt with
    | some why => simp [he]
    | none => cases s.ctxActive x.pkt.ctx <;> simp [he]
  · simp [he]

end

/-! The outcomes of the checks. -/

theorem State.checkContribution_slice (h : s.arriveSlice x.pkt = false) :
    s.checkContribution x l = ((s.dropFlight x).cnt SRG_DROP_SLICE_count).nak x.pkt x.pipe 3 := if_pos h

section
variable (hsl : s.arriveSlice x.pkt = true)
include hsl

theorem State.checkContribution_form (h : s.arriveForm x.pkt = false) : s.checkContribution x l = (s.dropFlight x).cnt SRG_MALFORMED_count := by
  unfold State.checkContribution
  rw [hsl, if_neg (by decide), if_pos h]

variable (hform : s.arriveForm x.pkt = true)
include hform

theorem State.checkContribution_e2e (h : e2eOf x.pkt.payload ≠ x.pkt.e2e) :
    s.checkContribution x l = ((s.dropFlight x).cnt SRG_E2E_BAD_count).nak x.pkt x.pipe 5 := by
  unfold State.checkContribution
  rw [hsl, hform, if_neg (by decide), if_neg (by decide), if_pos h]

variable (he : e2eOf x.pkt.payload = x.pkt.e2e)
include he

theorem State.checkContribution_late {why : Nat} {u : State} (h : s.arriveLate x.pkt = some why)
    (hu : u = (((((s.dropFlight x).cnt SRG_LATE_count).wr SRG_LATE_LOC_ctx x.pkt.ctx).wr SRG_LATE_LOC_member x.pkt.member).wr SRG_LATE_LOC_attempt x.pkt.attempt).wr
      SRG_LATE_LOC_valid 1) :
    s.checkContribution x l = ((u.wr SRG_LATE_LOC_chunk x.pkt.chunk).irq 12 4).nak x.pkt x.pipe why := by
  unfold State.checkContribution
  rw [hsl, hform, if_neg (by decide), if_neg (by decide), if_neg (not_not_intro he), h, hu]

variable (hl : s.arriveLate x.pkt = none)
include hl

theorem State.checkContribution_idle (h : s.ctxActive x.pkt.ctx = false) : s.checkContribution x l = (s.dropFlight x).noRes x.pkt x.pipe 1 := by
  unfold State.checkContribution
  rw [hsl, hform, if_neg (by decide), if_neg (by decide), if_neg (not_not_intro he), hl]
  exact if_pos h

variable (hact : s.ctxActive x.pkt.ctx = true)
include hact

theorem State.checkContribution_outside
    (h : s.ctxBase x.pkt.ctx + s.ctxLen x.pkt.ctx ≤ x.pkt.chunk ∨ s.ctxFloor x.pkt.ctx + s.ctxAhead x.pkt.ctx ≤ x.pkt.chunk) :
    s.checkContribution x l = (s.dropFlight x).noRes x.pkt x.pipe 2 := by
  unfold State.checkContribution
  rw [hsl, hform, if_neg (by decide), if_neg (by decide), if_neg (not_not_intro he), hl]
  exact (if_neg (by simp [hact])).trans (if_pos h)

theorem State.checkContribution_join (hr : x.pkt.chunk < s.ctxBase x.pkt.ctx + s.ctxLen x.pkt.ctx) (hw : x.pkt.chunk < s.ctxFloor x.pkt.ctx + s.ctxAhead x.pkt.ctx) :
    s.checkContribution x l = s.joinChunk x l := by
  unfold State.checkContribution
  rw [hsl, hform, if_neg (by decide), if_neg (by decide), if_neg (not_not_intro he), hl]
  exact (if_neg (by simp [hact])).trans (if_neg (by omega))

end

/-! A piece that passes the first five checks (R172, R173). -/

section
variable {k k' : Chunk} {s1 s2 : State} (hph : s.physOf l = some ph)
include hph

section
variable (hc : s.chunk? x.pkt.ctx x.pkt.chunk = some k) (hlive : k.live = true)
include hc hlive

theorem State.joinChunk_seen (h : bit (k.pcs.getD 0 (x.pkt.member * 64 + x.pkt.seq % 65536)) 15 = true) :
    s.joinChunk x l = s.dupPiece k x (k.pcs.getD 0 (x.pkt.member * 64 + x.pkt.seq % 65536)) := by
  unfold State.joinChunk
  dsimp only
  rw [hph, Option.isNone_some, if_neg (by decide), hc]
  dsimp only
  rw [hlive, if_pos rfl]
  exact if_pos h

variable (h : bit (k.pcs.getD 0 (x.pkt.member * 64 + x.pkt.seq % 65536)) 15 = false)
include h

theorem State.joinChunk_tally (ht : hasTally k.operation = true) : s.joinChunk x l = s.countPiece k x := by
  unfold State.joinChunk
  dsimp only
  rw [hph, Option.isNone_some, if_neg (by decide), hc]
  dsimp only
  rw [hlive, if_pos rfl]
  exact (if_neg (by simp [h])).trans (if_pos ht)

theorem State.joinChunk_staged (ht : hasTally k.operation = false) (hst : s.takeStage k 2 = (some k', s1)) : s.joinChunk x l = (s1.setChunk k').countPiece k' x := by
  unfold State.joinChunk
  dsimp only
  rw [hph, Option.isNone_some, if_neg (by decide), hc]
  dsimp only
  rw [hlive, if_pos rfl]
  refine (if_neg (by simp [h])).trans ((if_neg (by simp [ht])).trans ?_)
  rw [hst]
  rfl

theorem State.joinChunk_noStage (ht : hasTally k.operation = false) (hst : s.takeStage k 2 = (none, s1)) : s.joinChunk x l = s1 := by
  unfold State.joinChunk
  dsimp only
  rw [hph, Option.isNone_some, if_neg (by decide), hc]
  dsimp only
  rw [hlive, if_pos rfl]
  refine (if_neg (by simp [h])).trans ((if_neg (by simp [ht])).trans ?_)
  rw [hst]

end

variable (hc : s.chunk? x.pkt.ctx x.pkt.chunk = none)
include hc

theorem State.joinChunk_refused {cause : Nat} (ho : s.openChunk x.pkt l = (.error cause, s1)) : s.joinChunk x l = (s1.dropFlight x).noRes x.pkt x.pipe cause := by
  unfold State.joinChunk
  dsimp only
  rw [hph, Option.isNone_some, if_neg (by decide), hc]
  dsimp only
  rw [ho]

variable (ho : s.openChunk x.pkt l = (.ok k, s1))
include ho

theorem State.joinChunk_openedTally (ht : hasTally k.operation = true) : s.joinChunk x l = (s1.enterChunk k).countPiece k x := by
  unfold State.joinChunk
  dsimp only
  rw [hph, Option.isNone_some, if_neg (by decide), hc]
  dsimp only
  rw [ho]
  exact if_pos ht

theorem State.joinChunk_openedStaged (ht : hasTally k.operation = false) (hst : s1.takeStage k 2 = (some k', s2)) :
    s.joinChunk x l = (s2.enterChunk k').countPiece k' x := by
  unfold State.joinChunk
  dsimp only
  rw [hph, Option.isNone_some, if_neg (by decide), hc]
  dsimp only
  rw [ho]
  refine (if_neg (by simp [ht])).trans ?_
  rw [hst]
  rfl

end

end

/-- Settles O21: asleep, waiting, or the checks in their order, each with its outcome. -/
theorem contributionMeetsItsChecks : Obligations.ContributionMeetsItsChecks := by
  unfold Obligations.ContributionMeetsItsChecks
  rintro s l ph x p hs hl hx rfl hph
  have hexec : exec (.contributionArrival l) s = .next (s.atPort l fun s => s.contribution l) := by
    rw [exec_act (c := .contributionArrival l) rfl hs, Nat.mod_eq_of_lt hl]
  refine ⟨fun ha => ?_, fun ha hk hfull => ?_, fun ha hk hroom hf => ?_⟩
  · rw [hexec, State.atPort_asleep hx hph ha]
  · rw [hexec, State.atPort_awake hx hph ha, State.contribution_waits hx hk hph hfull]
  · rw [hexec, State.atPort_awake hx hph ha, State.contribution_checked hx hk hph hroom hf]
    refine ⟨fun hsl => congrArg _ (State.checkContribution_slice hsl), fun hsl hform => congrArg _ (State.checkContribution_form hsl hform),
      fun hsl hform he => congrArg _ (State.checkContribution_e2e hsl hform he), fun why u hsl hform he hlate hu => congrArg _ (State.checkContribution_late hsl hform he hlate hu),
      fun hsl hform he hlate hact => congrArg _ (State.checkContribution_idle hsl hform he hlate hact),
      fun hsl hform he hlate hact hout => congrArg _ (State.checkContribution_outside hsl hform he hlate hact hout), fun hsl hform he hlate hact hr hw => ?_⟩
    rw [State.checkContribution_join hsl hform he hlate hact hr hw]
    exact ⟨fun k hc hlive hseen => congrArg _ (State.joinChunk_seen hph hc hlive hseen),
      fun k hc hlive hseen ht => congrArg _ (State.joinChunk_tally hph hc hlive hseen ht),
      fun k hc hlive hseen ht => ⟨fun k' s1 hst => congrArg _ (State.joinChunk_staged hph hc hlive hseen ht hst),
        fun s1 hst => congrArg _ (State.joinChunk_noStage hph hc hlive hseen ht hst)⟩,
      fun k k' s1 s2 hc ho ht hst => congrArg _ (State.joinChunk_openedStaged hph hc ho ht hst),
      fun k s1 hc ho ht => congrArg _ (State.joinChunk_openedTally hph hc ho ht), fun cause s1 hc ho => congrArg _ (State.joinChunk_refused hph hc ho)⟩

end Sys2Proof.Machine

/-! PROOFS. A chunk's deadlines, its results and the NAKs they meet (R141, R169, R174 to R183, R216). -/

namespace Sys2Proof.Machine

set_option Elab.async false

section
variable {s u v : State} {c chunk : Nat} {k : Chunk} (hk : s.chunk? c chunk = some k)
include hk

theorem State.straggle_due (hst : k.state = 1 ∨ k.state = 2) (hold : k.straggled = false) (hns : s.cx c 2 0 32 ≠ 0) (hdue : k.openAt + s.cx c 2 0 32 * NS ≤ s.fclk)
    (hu : u = ((s.setChunk { k with straggled := true }).cnt SRG_STRAGGLE_count).irq 12 2)
    (hv : v = (if u.cx c 3 40 1 = 1 then (k.contributors.filter fun m => !k.memberDone m).foldl (fun s m => s.statsAdd (s.cx c 3 32 8) m 0 1 0) u else u)) :
    s.straggle c chunk = (if v.flag SRG_STRAGGLE_POLICY_policy
      then v.telStraggler c k.slice chunk k.openAt (k.contributors.filter fun m => !k.memberDone m).length else v) := by
  subst hv hu
  unfold State.straggle
  rw [hk]
  exact if_neg (by simp [hns, hold]; omega)

theorem State.chunkTimeout_due (h1 : 1 ≤ k.state) (h3 : k.state ≤ 3) (hdue : k.openAt + s.cx c 2 32 32 * 1000 * NS ≤ s.fclk)
    (hnot : ¬(k.state = 3 ∧ k.openAt + s.cx c 2 32 32 * 1000 * NS ≤ k.compAt ∧ k.compAt < k.openAt + s.cx c 2 32 32 * 1000 * NS + s.clkStep)) :
    s.chunkTimeout c chunk = s.abort k 1 := by
  unfold State.chunkTimeout
  rw [hk]
  refine if_neg ?_
  simp only [Bool.or_eq_true, Bool.and_eq_true, Bool.not_eq_true', decide_eq_true_eq, Bool.and_eq_false_iff, decide_eq_false_iff_not]
  omega

theorem State.chunkTimeout_inTime (h3 : k.state = 3) (hlo : k.openAt + s.cx c 2 32 32 * 1000 * NS ≤ k.compAt)
    (hhi : k.compAt < k.openAt + s.cx c 2 32 32 * 1000 * NS + s.clkStep) : s.chunkTimeout c chunk = s := by
  unfold State.chunkTimeout
  rw [hk]
  exact if_pos (by simp [h3, hlo, hhi])

theorem State.retainExpiry_due (h6 : k.state = 6) (hret : k.retention = 1) (hdue : k.retAt + s.cx c 3 0 32 * 1000 * NS ≤ s.fclk) :
    s.retainExpiry c chunk = (s.release k).finish c := by
  unfold State.retainExpiry
  rw [hk]
  exact if_neg (by simp [h6, hret, hdue])

end

/-- Settles O22: each deadline by the lemma of its operation. -/
theorem chunkDeadlines : Obligations.ChunkDeadlines := by
  unfold Obligations.ChunkDeadlines
  intro s c chunk k hs hc hk
  refine ⟨fun u v hst hold hns hdue hu hv => ?_, fun h1 h3 hdue hnot => ?_, fun h3 hlo hhi => ?_, fun h6 hret hdue => ?_⟩
  · rw [exec_act (c := .straggleDeadline c chunk) rfl hs, Nat.mod_eq_of_lt hc, State.straggle_due hk hst hold hns hdue hu hv]
  · rw [exec_act (c := .chunkTimeout c chunk) rfl hs, Nat.mod_eq_of_lt hc, State.chunkTimeout_due hk h1 h3 hdue hnot]
  · rw [exec_act (c := .chunkTimeout c chunk) rfl hs, Nat.mod_eq_of_lt hc, State.chunkTimeout_inTime hk h3 hlo hhi]
  · rw [exec_act (c := .retainExpiry c chunk) rfl hs, Nat.mod_eq_of_lt hc, State.retainExpiry_due hk h6 hret hdue]

/-! Results. -/

/-- What becomes of a piece after its recipients have been served: `x` tells whether one of them found no cell, how far they got, and the state (R216). -/
def State.pieceServed (core : Nat) (e : EqEnt) (k : Chunk) (x : Bool × Nat × State) : State :=
  if x.1 then x.2.2.setCore core { x.2.2.core core with eq := { e with sent := x.2.1 } :: (x.2.2.core core).eq.drop 1 } else
  let s := x.2.2.setCore core { x.2.2.core core with eq := (x.2.2.core core).eq.drop 1 }
  let k1 := (s.chunk? k.ctx k.chunk).getD k
  ((s.freeStage [] (k1.emit.take 1) []).setChunk { k1 with emit := k1.emit.drop 1, sent := k1.sent + 1 }).tryEnd k.ctx k.chunk

section
variable {s t t1 : State} {core ue m : Nat} {e : EqEnt} {q : List EqEnt} {k k1 k2 : Chunk} {pm : Nat} {rt : Route} {w : List Byte} {out : Sent}

/-- A piece begun before, with one recipient left. -/
theorem State.sendPiece_begun (heq : (s.core core).eq = e :: q) (hk : s.liveChunk e.ctx e.chunk e.gen = some k) (hpm : k.pm[e.piece.p]? = some pm)
    (hms : k.recipients.drop e.sent = [m]) (hrt : s.route k.ctx m = some rt) (hk1 : k1 = (s.chunk? k.ctx k.chunk).getD k)
    (hw : w = (if k.operation = 4 then [] else e.piece.bytes k.fmt (pieceCount k.fmt k.elems e.piece.p)))
    (hsend : s.sendResult k1 e.piece.p m 0 w (k1.pm.getD e.piece.p 0) rt (k.lcore / 4) = (out, t)) :
    s.sendPiece core ue = State.pieceServed core e k (if out = .again then (true, e.sent, t) else (false, e.sent + 1, t)) := by
  unfold State.sendPiece
  rw [heq]
  dsimp -zeta only
  rw [hk]
  dsimp -zeta only
  extract_lets n b segs pm' first s₁ k' sBegun sOpen s₂ ms x s₃ y s₄ k₂ s₅
  have hfirst : first = false := by simp only [first, hpm, Option.isSome_some, Bool.not_true]
  have hs₁ : s₁ = s := if_neg (by simp [hfirst])
  have hs₂ : s₂ = s := (if_neg (by simp [hfirst])).trans hs₁
  have hx : x = if out = .again then (true, e.sent, t) else (false, e.sent + 1, t) := by
    simp only [x, ms, hms, hs₂, List.foldl_cons, List.foldl_nil, Bool.false_eq_true, if_false]
    rw [hrt]
    simp only [b, n]
    rw [← hk1, ← hw, hsend]
  clear_value x
  subst hx
  rfl

theorem State.pieceServed_last (ht1 : t1 = t.setCore core { t.core core with eq := (t.core core).eq.drop 1 }) (hk2 : k2 = (t1.chunk? k.ctx k.chunk).getD k) (n : Nat) :
    State.pieceServed core e k (false, n, t) = ((t1.freeStage [] (k2.emit.take 1) []).setChunk { k2 with emit := k2.emit.drop 1, sent := k2.sent + 1 }).tryEnd k.ctx k.chunk := by
  subst hk2 ht1
  exact if_neg (by simp)

theorem State.pieceServed_again (n : Nat) :
    State.pieceServed core e k (true, n, t) = t.setCore core { t.core core with eq := { e with sent := n } :: (t.core core).eq.drop 1 } := if_pos rfl

end

section
variable {s : State} {l : Nat} {x : Flight} (hx : s.headLocal (.serai l) = some x) (hkind : x.pkt.kind = 3)
include hx hkind

theorem State.resultNak_unread (h : ackRead x.pkt = none) : s.resultNak l = (s.dropFlight x).cnt SRG_MALFORMED_count := by
  unfold State.resultNak
  rw [hx]
  dsimp only
  rw [if_neg (not_not_intro hkind), h]

section
variable {reason rk : Nat} (h : ackRead x.pkt = some (1, reason, rk)) (hrk : rk ≠ 6) (he : e2eOf x.pkt.payload = x.pkt.e2e)
include h hrk he

theorem State.resultNak_malformed (hr : reason = 0 ∨ 10 < reason) : s.resultNak l = (s.dropFlight x).cnt SRG_MALFORMED_count := by
  unfold State.resultNak
  rw [hx]
  dsimp only
  rw [if_neg (not_not_intro hkind), h]
  exact (if_neg (by simp [hrk])).trans ((if_neg (by simp [he])).trans (if_pos hr))

variable (hlo : 1 ≤ reason) (hhi : reason ≤ 10)
include hlo hhi

theorem State.resultNak_noChunk (hc : (s.dropFlight x).chunk? x.pkt.ctx x.pkt.chunk = none) : s.resultNak l = (s.dropFlight x).reserveMiss x.pkt x.pipe := by
  unfold State.resultNak
  rw [hx]
  dsimp only
  rw [if_neg (not_not_intro hkind), h]
  refine (if_neg (by simp [hrk])).trans ((if_neg (by simp [he])).trans ((if_neg (by omega)).trans ?_))
  rw [hc]

theorem State.resultNak_chunk {k : Chunk} (hc : (s.dropFlight x).chunk? x.pkt.ctx x.pkt.chunk = some k) : s.resultNak l =
    if k.state = 6 then (s.dropFlight x).reserveNak k x
    else if k.state = 4 || k.state = 5 then (s.dropFlight x).setChunk { k with naks := k.naks ++ [x] }
    else (s.dropFlight x).reserveMiss x.pkt x.pipe := by
  unfold State.resultNak
  rw [hx]
  dsimp only
  rw [if_neg (not_not_intro hkind), h]
  refine (if_neg (by simp [hrk])).trans ((if_neg (by simp [he])).trans ((if_neg (by omega)).trans ?_))
  rw [hc]

end
end

/-- Settles O23: the emit engine's turn, a piece's last recipient, and what a NAK finds. -/
theorem resultsAndTheirNaks : Obligations.ResultsAndTheirNaks := by
  unfold Obligations.ResultsAndTheirNaks
  refine ⟨fun s a b core ue hs hcore hon ha hb => ?_, fun s t t1 core ue m e q k k1 k2 pm rt w out heq hk hpm hms hrt hk1 hw hsend ht1 hk2 => ⟨fun hout => ?_, fun hout => ?_⟩,
    fun s l ph x reason rk hs hl hx hph ha hkind => ?_⟩
  · subst hb ha
    rw [exec_act (c := .resultPieceSend core ue) rfl hs, Nat.mod_eq_of_lt hcore]
    unfold State.emitStep
    rw [hon, if_pos rfl]
  · rw [State.sendPiece_begun heq hk hpm hms hrt hk1 hw hsend, if_neg hout, State.pieceServed_last ht1 hk2]
  · rw [State.sendPiece_begun heq hk hpm hms hrt hk1 hw hsend, if_pos hout, State.pieceServed_again]
  · have hexec : exec (.resultNak l) s = .next (s.resultNak l) := by
      rw [exec_act (c := .resultNak l) rfl hs, Nat.mod_eq_of_lt hl, State.atPort_awake hx hph ha]
    rw [hexec]
    refine ⟨fun h => ?_, fun h hrk he hlo hhi => ⟨fun k hc h6 => ?_, fun k hc h45 => ?_, fun k hc hst => ?_, fun hc => ?_⟩, fun h hrk he hr => ?_⟩
    · rw [State.resultNak_unread hx hkind h]
    · rw [State.resultNak_chunk hx hkind h hrk he hlo hhi hc, if_pos h6]
    · rw [State.resultNak_chunk hx hkind h hrk he hlo hhi hc, if_neg (by omega), if_pos (by simpa using h45)]
    · rw [State.resultNak_chunk hx hkind h hrk he hlo hhi hc, if_neg (by omega), if_neg (by simp; omega)]
    · rw [State.resultNak_noChunk hx hkind h hrk he hlo hhi hc]
    · rw [State.resultNak_malformed hx hkind h hrk he hr]

end Sys2Proof.Machine

/-! PROOFS. The SRG table commands (R160 to R164, R185, R220, R293). -/

namespace Sys2Proof.Machine

set_option Elab.async false

section
variable {s u : State} {table : Nat}

/-- A command of SRG that the page accepts runs on the state with its access counted (R185). -/
theorem exec_srgCmd {c : Instr} {op : Nat} (h : exec c s = srgCmd op table s) (hv : s.served 12 0x200) (hu : u = s.event 12 4) (ht : table < 16 := by omega) :
    exec c s = .next (u.srgTcmd op table) := by
  have hw : exec c s = hostWrite s 12 0x200 fun t => t.srgTcmd op table := by rw [h, srgCmd, Nat.mod_eq_of_lt ht]
  rw [hu]
  exact exec_hostWrite hw hv

/-! WRITE. -/

theorem State.srgWrite_member : u.srgWrite 1 = if u.memberBusy u.srgIdx then u.srgDone 2
    else if fld (fld (u.rd SRG_TDATA_data 0 0) 0 41) 38 2 = 3 then u.srgDone 3
    else ((((u.coverMod 6 u.srgIdx (u.tget TB_MEMBER 0 u.srgIdx 0) (fld (u.rd SRG_TDATA_data 0 0) 0 41)).tset TB_MEMBER 0 u.srgIdx 0 (fld (u.rd SRG_TDATA_data 0 0) 0 41)).mend
      TB_MEMBER 0 u.srgIdx 0).srgDone 0) := rfl

theorem State.srgWrite_tree : u.srgWrite 4 = if u.sliceState (u.srgIdx % 4096) = 2 then u.srgDone 2
    else (((u.coverSl (u.srgIdx % 4096) 0x27 0 (u.tget TB_BCTREE 0 (u.srgIdx % 4096) 0) (u.rd SRG_TDATA_data 0 0)).tset TB_BCTREE 0 (u.srgIdx % 4096) 0
      (u.rd SRG_TDATA_data 0 0)).mend TB_BCTREE 0 (u.srgIdx % 4096) 0).srgDone 0 := rfl

theorem State.srgWrite_context : u.srgWrite 0 =
    if u.ctxActive u.srgIdx || u.sliceState (u.ctxSlice u.srgIdx) = 2 || u.sliceState (fld (ctxMask 0 (u.rd SRG_TDATA_data 0 0)) 8 12) = 2 then u.srgDone 2
    else if ctxInvalid (fun j => ctxMask j (u.rd SRG_TDATA_data 0 j)) then u.srgDone 3
    else (u.ctxStore u.srgIdx ((List.range 8).map fun j =>
      if j = 5 then ctxMask 5 (u.rd SRG_TDATA_data 0 5) ||| u.ctxFloor u.srgIdx <<< 32 else ctxMask j (u.rd SRG_TDATA_data 0 j))).srgDone 0 := rfl

/-- The kind of an address is read from bits that the cut to an entry's 41 bits keeps. -/
theorem fld_fld_kind (d : Nat) : fld (fld d 0 41) 38 2 = fld d 38 2 := by
  unfold fld
  simp only [Nat.shiftRight_eq_div_pow]
  omega

/-! START. -/

theorem State.startConvoy_busy {c : Nat} (h : u.ctxActive c = true) : u.startConvoy c = (2, u) := if_pos (by simp [h])

section
variable {c : Nat} (hval : u.ctxValid c = true) (hact : u.ctxActive c = false) (hsl : u.sliceState (u.ctxSlice c) = 1)
include hval hact hsl

theorem State.startConvoy_absent (hk : u.kernel? (u.ctxKernel c) = none) : u.startConvoy c = (3, u.kernelAbsent c) := by
  unfold State.startConvoy
  rw [if_neg (by simp [hval, hact, hsl]), hk]
  exact if_pos rfl

/-- What a start leaves of its context: ACTIVE, its floor at its base (R164). -/
def State.started (u : State) (c : Nat) : State :=
  (u.ctxPut c 1 (setFld (u.tget TB_CTX 0 c 1) 7 1 1)).ctxPut c 5
    (setFld ((u.ctxPut c 1 (setFld (u.tget TB_CTX 0 c 1) 7 1 1)).tget TB_CTX 0 c 5) 32 32 ((u.ctxPut c 1 (setFld (u.tget TB_CTX 0 c 1) 7 1 1)).ctxBase c))

omit hval hact hsl in
theorem State.tbl_coverSl (s : State) (sl code idx o v : Nat) : (s.coverSl sl code idx o v).tbl = s.tbl := by
  unfold State.coverSl
  split <;> rfl

omit hval hact hsl in
/-- A context's first word is not among those that a start writes. -/
theorem State.ctxOper_ctxPut (s : State) {w : Nat} (v : Nat) (hw : 0 < w) (hw' : w < 16) : (s.ctxPut c w v).ctxOper c = s.ctxOper c := by
  have hkey : tkey TB_CTX 0 c 0 ≠ tkey TB_CTX 0 c w := by
    unfold tkey
    omega
  unfold State.ctxOper State.cx State.ctxPut State.tset State.tget
  rw [State.tbl_coverSl, SMap.getD_set_ne _ _ hkey]

theorem State.startConvoy_ok {k : Kernel} (hk : u.kernel? (u.ctxKernel c) = some k) (hop : bit k.ops (u.ctxOper c) = true) (hldg : u.ctxLdg c = false)
    (h5 : u.ctxOper c ≠ 5) : u.startConvoy c = (0, u.started c) := by
  have hoper : (u.started c).ctxOper c = u.ctxOper c := by
    unfold State.started
    rw [State.ctxOper_ctxPut _ _ (by decide) (by decide), State.ctxOper_ctxPut _ _ (by decide) (by decide)]
  have hcause : u.startCause c = none := if_pos (by simp [hldg])
  unfold State.startConvoy
  rw [if_neg (by simp [hval, hact, hsl]), hk]
  dsimp only
  rw [hop, hcause]
  exact (if_neg (by decide)).trans (congrArg (Prod.mk 0) (if_neg (by rwa [← hoper] at h5)))

end

end

/-- Settles O24: each command by the equation of its meaning. -/
theorem collectiveTableCommands : Obligations.CollectiveTableCommands := by
  unfold Obligations.CollectiveTableCommands
  intro s u hv hu
  refine ⟨⟨exec_srgCmd (c := .srgRead 0) rfl hv hu, exec_srgCmd (c := .srgRead 1) rfl hv hu, fun h => ?_, fun h => ?_, exec_srgCmd (c := .srgRead 4) rfl hv hu⟩,
    fun hb hkind => ?_, fun hb => ?_, fun hsl => ?_, fun hsl => ?_, fun hact ho hn hbad => ?_, fun hval hact hsl hk => ?_, fun table h0 ht => ?_, fun hact ho hn hok => ?_,
    fun hact => ?_, fun k hk => ?_, fun hk => ?_, fun k hval hact hsl hk hop hldg h5 => ?_, fun hact => ?_, exec_srgCmd (c := .abort 0) rfl hv hu, fun k hk hst => ?_,
    exec_srgCmd (c := .release 0) rfl hv hu, fun h => ?_⟩
  · exact (exec_srgCmd (c := .srgRead 3) rfl hv hu).trans (congrArg _ (if_neg (by omega)))
  · exact (exec_srgCmd (c := .srgRead 3) rfl hv hu).trans (congrArg _ (if_pos h))
  · rw [exec_srgCmd (c := .srgWrite 1) rfl hv hu, State.srgTcmd, State.srgWrite_member, hb, if_neg (by decide), if_neg (by rwa [fld_fld_kind])]
  · rw [exec_srgCmd (c := .srgWrite 1) rfl hv hu, State.srgTcmd, State.srgWrite_member, hb, if_pos rfl]
  · rw [exec_srgCmd (c := .srgWrite 4) rfl hv hu, State.srgTcmd, State.srgWrite_tree, if_neg hsl]
  · rw [exec_srgCmd (c := .srgWrite 4) rfl hv hu, State.srgTcmd, State.srgWrite_tree, if_pos hsl]
  · rw [exec_srgCmd (c := .srgWrite 0) rfl hv hu, State.srgTcmd, State.srgWrite_context, if_neg (by simp [hact, ho, hn]), if_pos hbad]
  · rw [exec_srgCmd (c := .start 0) rfl hv hu, State.srgTcmd, if_neg (by decide), State.startConvoy_absent hval hact hsl hk]
  · have hne : table ≠ 0 := by omega
    refine ⟨?_, ?_, fun h2 => ?_, fun h2 => ?_, fun h3 => ?_⟩
    · exact (exec_srgCmd (c := .start table) rfl hv hu).trans (congrArg _ (if_pos hne))
    · exact (exec_srgCmd (c := .release table) rfl hv hu).trans (congrArg _ (if_pos hne))
    · exact (exec_srgCmd (c := .chunkSearch table) rfl hv hu).trans (congrArg _ (if_pos h2))
    · rw [exec_srgCmd (c := .abort table) rfl hv hu, State.srgTcmd, State.srgAbort.eq_3 _ _ hne h2]
    · exact (exec_srgCmd (c := .clear table) rfl hv hu).trans (congrArg _ (if_pos (.inl h3)))
  · rw [exec_srgCmd (c := .srgWrite 0) rfl hv hu, State.srgTcmd, State.srgWrite_context, if_neg (by simp [hact, ho, hn]), hok, if_neg (by decide)]
  · rw [exec_srgCmd (c := .srgWrite 0) rfl hv hu, State.srgTcmd, State.srgWrite_context, if_pos (by simp [hact])]
  · rw [exec_srgCmd (c := .chunkSearch 2) rfl hv hu, State.srgTcmd, State.chunkSearch, if_neg (by decide), hk]
  · rw [exec_srgCmd (c := .chunkSearch 2) rfl hv hu, State.srgTcmd, State.chunkSearch, if_neg (by decide), hk]
  · refine ⟨u.started u.srgIdx, ?_, rfl⟩
    rw [exec_srgCmd (c := .start 0) rfl hv hu, State.srgTcmd, if_neg (by decide), State.startConvoy_ok hval hact hsl hk hop hldg h5]
  · rw [exec_srgCmd (c := .start 0) rfl hv hu, State.srgTcmd, if_neg (by decide), State.startConvoy_busy hact]
  · rw [exec_srgCmd (c := .abort 2) rfl hv hu, State.srgTcmd, State.srgAbort, hk]
    exact congrArg (fun t : State => Host.Outcome.next (t.srgDone 0)) (if_pos (by simpa using hst))
  · exact (exec_srgCmd (c := .clear 3) rfl hv hu).trans (congrArg _ (if_neg (by omega)))

end Sys2Proof.Machine

/-! PROOFS. What an instruction comes to at the word a core's invocation stands at, what its write leaves, and the control and predicate instructions (R223 to R230). -/

namespace Sys2Proof.Machine

set_option Elab.async false

section
variable {s t : State} {c : Instr} {core op w : Nat} {i i' : Inv} {f : State → Inv → Nat → UStep} (h : exec c s = act s (s.umak (core % 68) op f)) (ha : s.atInstr core op i w)
include h ha

/-- The instruction of `f` runs on the word and the invocation that its core stands at (R223). -/
theorem exec_umak : exec c s = .next (match f s i w with
    | .stall s => s.event (0x80 + core) 0x11
    | .fault c s => (s.event (0x80 + core) 0x10).faultInv core i c
    | .go s i => (s.event (0x80 + core) 0x10).setCore core { (s.event (0x80 + core) 0x10).core core with inv := some i }) := by
  obtain ⟨hs, hcore, hf⟩ := ha
  rw [h, act_alive hs, Nat.mod_eq_of_lt hcore]
  unfold State.umak
  rw [hf] <;> rfl

theorem exec_umak_go (hg : f s i w = .go t i') : exec c s = .next (t.issued core i') := by
  rw [exec_umak h ha, hg]
  rfl

theorem exec_umak_fault {code : Nat} (hg : f s i w = .fault code s) : exec c s = .next (s.faulted core i code) := by
  rw [exec_umak h ha, hg]
  rfl

theorem exec_umak_stall (hg : f s i w = .stall t) : exec c s = .next (t.stalled core) := by
  rw [exec_umak h ha, hg]
  rfl

end

/-! What the writes of the registers leave. -/

section
variable (i : Inv) (w : Nat)

/-- Lanes written and the program counter moved on. -/
theorem Inv.laneWrite_setV {f g : Nat → Nat × Bool} (h : ∀ l ∈ i.active w, ((f l).1 % 2 ^ 32, (f l).2) = ((g l).1 % 2 ^ 32, (g l).2)) :
    i.laneWrite (i.setV (uD w) ((i.active w).map fun l => (l, f l))).next w g := by
  refine ⟨rfl, fun r l hl => ?_⟩
  rw [show (Inv.next _).lane r l = (i.setV (uD w) ((i.active w).map fun l => (l, f l))).lane r l from rfl,
    Inv.lane_setV i _ _ _ _ _ hl fun x hx => Inv.active_lt hx]
  by_cases hmem : r = uD w ∧ l ∈ i.active w
  · rw [if_pos hmem, if_pos hmem, h l hmem.2]
  · rw [if_neg hmem, if_neg hmem]

theorem Inv.predWrite_setK (v : Nat) : i.predWrite (i.setK (uD w) v).next w v :=
  ⟨rfl, Inv.pk_setK i _ _, fun _ hr => Inv.pk_setK_ne i hr _⟩

theorem Inv.scalarWrite_setX {v v' : Nat} (t : Bool) (h : v % 2 ^ 64 = v' % 2 ^ 64) : i.scalarWrite (i.setX (uD w) v t).next w v' t :=
  ⟨rfl, (Inv.sx_setX i _ _ _).trans (by rw [h]), fun _ hr => Inv.sx_setX_ne i hr _ _⟩

theorem Inv.accWrite_setKa (d : Nat) (a : KAcc) : i.accWrite (i.setKa d a).next d a :=
  ⟨rfl, Inv.kacc_setKa i _ _, fun _ hr => Inv.kacc_setKa_ne i hr _⟩

end

/-! Comparisons of lanes. -/

section
variable {s : State} {i : Inv} {w : Nat} {f : Nat → Nat → Bool} {ib : Bool} {b : Nat → Nat × Bool}
  (hb : ∀ l, (if ib && bit w 31 then (ibValue w 32, false) else i.lane (uB w) l) = b l)
include hb

theorem uCmp_clean (h : ∀ l ∈ i.active w, (i.lane (uA w) l).2 = false ∧ (b l).2 = false) :
    uCmp f ib s i w = .go s (i.setKLanes (uD w) ((i.active w).map fun l => (l, f (i.lane (uA w) l).1 (b l).1))).next := by
  unfold uCmp
  simp only [hb, List.map_map, List.any_map]
  rw [if_neg]
  · congr 3
    refine List.map_congr_left fun l hl => ?_
    obtain ⟨ha, hbl⟩ := h l hl
    simp [ha, hbl]
  · simp only [List.any_eq_true, Function.comp_apply, Bool.or_eq_true, not_exists, not_and, not_or]
    intro l hl
    obtain ⟨ha, hbl⟩ := h l hl
    simp [ha, hbl]

theorem uCmp_tagged (h : ∃ l ∈ i.active w, (i.lane (uA w) l).2 = true ∨ (b l).2 = true) :
    uCmp f ib s i w = .go ((s.takeFree 7).2.setChunk
      { (s.takeFree 7).2.invChunk i with stm := ((s.takeFree 7).2.invChunk i).stm.note sPSN ((s.takeFree 7).1 % 65536) })
      (i.setKLanes (uD w) ((i.active w).map fun l => (l, !((i.lane (uA w) l).2 || (b l).2) && f (i.lane (uA w) l).1 (b l).1))).next := by
  unfold uCmp
  simp only [hb, List.map_map, List.any_map]
  exact if_pos (by simpa using h)

end

/-- Settles O25: each instruction by what it comes to. -/
theorem controlAndPredicateInstructions : Obligations.ControlAndPredicateInstructions := by
  unfold Obligations.ControlAndPredicateInstructions
  intro s core i w
  refine ⟨fun h => exec_umak_go (c := .nop core) rfl h rfl, fun h => ⟨fun hno => ?_, fun hsome => ?_⟩, fun h => ⟨fun hok => ?_, fun h6 htag => ?_⟩,
    fun h => ⟨fun hc => ?_, fun hc => ?_, fun hc => ?_⟩, fun h => ⟨_, exec_umak_go (c := .kop core) rfl h rfl, ?_⟩, fun h => ⟨fun hclean => ?_, fun htag => ?_⟩,
    fun h => ⟨fun hclean => ?_, fun htag => ?_⟩⟩
  · have hcore : core % 68 = core := Nat.mod_eq_of_lt h.2.1
    refine exec_umak_go (c := .bar core) rfl h ?_
    rw [hcore]
    exact if_neg (by simpa using hno)
  · have hcore : core % 68 = core := Nat.mod_eq_of_lt h.2.1
    refine exec_umak_stall (c := .bar core) rfl h ?_
    rw [hcore]
    exact if_pos (by simpa using hsome)
  · refine exec_umak_go (c := .br core) rfl h (if_neg ?_)
    obtain h6 | ⟨ha, hb⟩ := hok
    · simp [h6]
    · simp [ha, hb]
  · exact exec_umak_fault (c := .br core) rfl h (if_pos (by simpa [h6] using htag))
  · refine exec_umak_go (c := .brk core) rfl h ?_
    simp only [uBrk, hc, decide_eq_true_eq]
  · refine exec_umak_go (c := .brk core) rfl h ?_
    simp only [uBrk, hc, decide_eq_true_eq]
  · refine exec_umak_go (c := .brk core) rfl h ?_
    simp only [uBrk, hc, decide_eq_true_eq]
    rfl
  · refine ⟨fun hc => ?_, fun hc => ?_, fun hc => ?_, fun hc => ?_, fun hc => ?_, fun hc => ?_, fun hc => ?_⟩
    all_goals
      rw [hc]
      exact Inv.predWrite_setK i w _
  · exact exec_umak_go (c := .icmp core) rfl h (uCmp_clean (fun l => rfl) hclean)
  · exact exec_umak_go (c := .icmp core) rfl h (uCmp_tagged (fun l => rfl) htag)
  · exact exec_umak_go (c := .fcmp core) rfl h (uCmp_clean (fun l => rfl) hclean)
  · exact exec_umak_go (c := .fcmp core) rfl h (uCmp_tagged (fun l => rfl) htag)

end Sys2Proof.Machine

/-! PROOFS. The integer, FP32 and scalar instructions (R226 to R232). -/

namespace Sys2Proof.Machine

set_option Elab.async false

/-! Arithmetic modulo a power of two. -/

theorem fld_lt (v lo w : Nat) : fld v lo w < 2 ^ w := Nat.mod_lt _ (Nat.two_pow_pos w)

/-- Two's complement subtraction at 32 bits. -/
theorem sub_mod_ofSigned32 {a b : Nat} (hb : b < 2 ^ 32) : (a + 2 ^ 32 - b) % 2 ^ 32 % 2 ^ 32 = ofSigned 32 ((a : Int) - b) % 2 ^ 32 := by
  unfold ofSigned
  omega

theorem sub_mod_ofSigned64 {a b : Nat} (hb : b < 2 ^ 64) : (a + 2 ^ 64 - b) % 2 ^ 64 = ofSigned 64 ((a : Int) - b) % 2 ^ 64 := by
  unfold ofSigned
  omega

theorem ibValue_lt (w n : Nat) : ibValue w n < 2 ^ n := ofSigned_lt n _

theorem Inv.lane_lt (i : Inv) (r l : Nat) : (i.lane r l).1 < 2 ^ 32 := fld_lt _ _ _

theorem Inv.sx_lt (i : Inv) (r : Nat) : (i.sx r).1 < 2 ^ 64 := fld_lt _ _ _

theorem Inv.laneB_lt (i : Inv) (w l : Nat) : (i.laneB w l).1 < 2 ^ 32 := by
  unfold Inv.laneB
  split
  · exact ibValue_lt w 32
  · exact i.lane_lt _ _

theorem Inv.scalarB_lt (i : Inv) (w : Nat) : (i.scalarB w).1 < 2 ^ 64 := by
  unfold Inv.scalarB
  split
  · exact ibValue_lt w 64
  · exact i.sx_lt _

/-- The shifts of ISH and XSH, by powers of two. -/
def shiftByPow (c n a b : Nat) : Nat :=
  match c with
  | 0 => a * 2 ^ (b % n)
  | 1 => a / 2 ^ (b % n)
  | _ => ofSigned n (toSigned n a / 2 ^ (b % n))

theorem shiftF_eq (c n a b : Nat) : shiftF c n a b % 2 ^ n = shiftByPow c n a b % 2 ^ n := by
  unfold shiftF shiftByPow
  match c with
  | 0 => exact (Nat.mod_mod _ _).trans (congrArg (· % 2 ^ n) (Nat.shiftLeft_eq ..))
  | 1 => exact congrArg (· % 2 ^ n) (Nat.shiftRight_eq_div_pow ..)
  | c + 2 => exact congrArg (fun x => ofSigned n x % 2 ^ n) ((Int.shiftRight_eq_div_pow ..).trans (by norm_cast))

/-! Lanes. -/

section
variable {c : Instr} {core op : Nat}

/-- An integer operation writes the lanes with its function of both operands (R230). -/
theorem writesLanes_uInt {f : Nat → Nat → Nat → Nat} {g : Inv → Nat → Nat → Nat} (h : ∀ s, exec c s = act s (s.umak (core % 68) op (uInt f)))
    (hfg : ∀ (i : Inv) w l, f (uC w) (i.lane (uA w) l).1 (i.laneB w l).1 % 2 ^ 32 % 2 ^ 32 = g i w l % 2 ^ 32) :
    writesLanes c core op fun i w l => (g i w l, (i.lane (uA w) l).2 || (i.laneB w l).2) := fun s i w ha =>
  ⟨_, exec_umak_go (h s) ha rfl, Inv.laneWrite_setV i w fun l _ => congrArg (·, (i.lane (uA w) l).2 || (i.laneB w l).2) (hfg i w l)⟩

/-- An instruction that writes each active lane with a function of the lane. -/
theorem writesLanes_of {f : State → Inv → Nat → UStep} {g g' : Inv → Nat → Nat → Nat × Bool} (h : ∀ s, exec c s = act s (s.umak (core % 68) op f))
    (hf : ∀ s i w, f s i w = .go s (i.setV (uD w) ((i.active w).map fun l => (l, g i w l))).next)
    (hg : ∀ i w l, ((g i w l).1 % 2 ^ 32, (g i w l).2) = ((g' i w l).1 % 2 ^ 32, (g' i w l).2)) : writesLanes c core op g' := fun s i w ha =>
  ⟨_, exec_umak_go (h s) ha (hf s i w), Inv.laneWrite_setV i w fun l _ => hg i w l⟩

end

/-- Settles O26: the operations of two operands by their functions, the others by the lanes they write. -/
theorem integerLaneInstructions : Obligations.IntegerLaneInstructions := by
  unfold Obligations.IntegerLaneInstructions
  intro core
  refine ⟨?iadd, ?isub, ?imul, ?ilog, ?ish, ?imovi, ?lane, ?sel, ?xput⟩
  case iadd => exact writesLanes_uInt (fun _ => rfl) fun _ _ _ => Nat.mod_mod _ _
  case isub => exact writesLanes_uInt (fun _ => rfl) fun i w l => sub_mod_ofSigned32 (i.laneB_lt w l)
  case imul => exact writesLanes_uInt (fun _ => rfl) fun _ _ _ => Nat.mod_mod _ _
  case ilog => exact writesLanes_uInt (fun _ => rfl) fun _ _ _ => Nat.mod_mod _ _
  case ish => exact writesLanes_uInt (fun _ => rfl) fun i w l => (Nat.mod_mod _ _).trans (shiftF_eq (uC w) 32 _ _)
  case imovi => exact writesLanes_of (f := uImovi) (g := fun _ w _ => (fld w 0 32, false)) (fun _ => rfl) (fun _ _ _ => rfl) fun _ _ _ => rfl
  case lane =>
    exact writesLanes_of (f := uLane) (g := fun i w l => (((i.sx (uA w)).1 + l) % 2 ^ 32, (i.sx (uA w)).2)) (fun _ => rfl) (fun _ _ _ => rfl) fun _ _ _ =>
      congrArg (·, _) (Nat.mod_mod _ _)
  case sel => exact writesLanes_of (f := uSel) (fun _ => rfl) (fun _ _ _ => rfl) fun _ _ _ => rfl
  case xput =>
    exact writesLanes_of (f := uXput) (g := fun i w _ => ((i.sx (uA w)).1 % 2 ^ 32, (i.sx (uA w)).2)) (fun _ => rfl) (fun _ _ _ => rfl) fun _ _ _ =>
      congrArg (·, _) (Nat.mod_mod _ _)

/-! FP32. -/

/-- Lanes and flags gathered over the active lanes. -/
theorem foldl_gather {α β : Type} (p : Nat → α × β) (j : β → β → β) (ls : List Nat) (l0 : List (Nat × α)) (m0 : β) :
    ls.foldl (fun (r : List (Nat × α) × β) l => (r.1 ++ [(l, (p l).1)], j r.2 (p l).2)) (l0, m0) =
      (l0 ++ ls.map fun l => (l, (p l).1), ls.foldl (fun m l => j m (p l).2) m0) := by
  induction ls generalizing l0 m0 with
  | nil => simp
  | cons x xs ih => simp [ih]

section
variable {c : Instr} {core op : Nat}

/-- An FP32 operation of `n` operands writes the lanes with its results and gathers its flags (R231). -/
theorem writesFp_uFp {n : Nat} {f : Nat → Nat → Nat → Nat → Nat × Nat} {g : Inv → Nat → Nat → Nat × Bool} {flags : Inv → Nat → Nat → Nat}
    (h : ∀ s, exec c s = act s (s.umak (core % 68) op (uFp n f)))
    (hg : ∀ i w l, ((f (i.fpArgs w l).1.1 (i.fpArgs w l).2.1.1 (i.fpArgs w l).2.2.1 (fld w 26 2)).1,
      (i.fpArgs w l).1.2 || (decide (2 ≤ n) && (i.fpArgs w l).2.1.2) || (decide (3 ≤ n) && (i.fpArgs w l).2.2.2)) = g i w l)
    (hflags : ∀ i w l, (f (i.fpArgs w l).1.1 (i.fpArgs w l).2.1.1 (i.fpArgs w l).2.2.1 (fld w 26 2)).2 = flags i w l) : writesFp c core op g flags := by
  obtain rfl := funext fun i => funext fun w => funext fun l => hg i w l
  obtain rfl := funext fun i => funext fun w => funext fun l => hflags i w l
  intro s i w ha
  refine ⟨(i.setV (uD w) ((i.active w).map fun l => (l, _))).next, exec_umak_go (h s) ha ?_, Inv.laneWrite_setV i w fun _ _ => rfl⟩
  have hgather := foldl_gather (fun l => (((f (i.fpArgs w l).1.1 (i.fpArgs w l).2.1.1 (i.fpArgs w l).2.2.1 (fld w 26 2)).1,
    (i.fpArgs w l).1.2 || (decide (2 ≤ n) && (i.fpArgs w l).2.1.2) || (decide (3 ≤ n) && (i.fpArgs w l).2.2.2)),
    (f (i.fpArgs w l).1.1 (i.fpArgs w l).2.1.1 (i.fpArgs w l).2.2.1 (fld w 26 2)).2)) (· ||| ·) (i.active w) [] i.fps
  exact congrArg (fun r : List (Nat × Nat × Bool) × Nat => UStep.go s ({ (i.setV (uD w) r.1) with fps := r.2 } : Inv).next) hgather

end

/-- Settles O27: each operation is `uFp` of its function. -/
theorem floatingLaneInstructions : Obligations.FloatingLaneInstructions := by
  unfold Obligations.FloatingLaneInstructions
  intro core one two
  refine ⟨?fadd, ?fmul, ?fma, ?fmin, ?fmax, ?div, ?sqrt, ?rsq⟩
  case sqrt => exact writesFp_uFp (fun _ => rfl) (fun _ _ _ => by simp [one]) fun _ _ _ => rfl
  case rsq => exact writesFp_uFp (fun _ => rfl) (fun _ _ _ => by simp [one]) fun _ _ _ => rfl
  case fma => exact writesFp_uFp (fun _ => rfl) (fun _ _ _ => by simp) fun _ _ _ => rfl
  all_goals exact writesFp_uFp (fun _ => rfl) (fun _ _ _ => by simp [two]) fun _ _ _ => rfl

/-! Scalars. -/

section
variable {c : Instr} {core op : Nat}

theorem writesScalar_uScalar {f : Nat → Nat → Nat → Nat} {g : Inv → Nat → Nat} (h : ∀ s, exec c s = act s (s.umak (core % 68) op (uScalar f)))
    (hfg : ∀ (i : Inv) w, f (uC w) (i.sx (uA w)).1 (i.scalarB w).1 % 2 ^ 64 = g i w % 2 ^ 64) :
    writesScalar c core op fun i w => (g i w, (i.sx (uA w)).2 || (i.scalarB w).2) := fun s i w ha =>
  ⟨_, exec_umak_go (h s) ha rfl, Inv.scalarWrite_setX i w _ (hfg i w)⟩

end

/-- Settles O28: the operations of two operands by their functions, the others by the scalar they write. -/
theorem scalarInstructions : Obligations.ScalarInstructions := by
  unfold Obligations.ScalarInstructions
  intro core
  refine ⟨?xadd, ?xsub, ?xmul, ?xlog, ?xsh, ?xmovi, ?xget, ?xsts⟩
  case xadd => exact writesScalar_uScalar (fun _ => rfl) fun _ _ => rfl
  case xsub => exact writesScalar_uScalar (fun _ => rfl) fun i w => sub_mod_ofSigned64 (i.scalarB_lt w)
  case xmul => exact writesScalar_uScalar (fun _ => rfl) fun _ _ => rfl
  case xlog => exact writesScalar_uScalar (fun _ => rfl) fun _ _ => rfl
  case xsh => exact writesScalar_uScalar (fun _ => rfl) fun i w => shiftF_eq (uC w) 64 _ _
  case xmovi =>
    intro s i w ha
    by_cases hc : uC w = 0
    · refine ⟨_, exec_umak_go (c := .xmovi core) rfl ha (if_pos hc), ?_⟩
      simp only [hc, if_true]
      exact Inv.scalarWrite_setX i w _ rfl
    · refine ⟨_, exec_umak_go (c := .xmovi core) rfl ha (if_neg hc), ?_⟩
      simp only [hc, if_false]
      exact Inv.scalarWrite_setX i w _ rfl
  case xget => exact fun s i w ha => ⟨_, exec_umak_go (c := .xget core) rfl ha rfl, Inv.scalarWrite_setX i w _ rfl⟩
  case xsts =>
    intro s i w ha
    refine ⟨_, exec_umak_go (c := .xsts core) rfl ha rfl, fun hc => ?_, fun hc => ?_, fun hc => ?_, fun hc => ?_, fun hc => ?_, fun hc => ?_, fun hc => ?_⟩
    all_goals
      simp only [hc]
      exact Inv.scalarWrite_setX _ w _ rfl

end Sys2Proof.Machine

/-! PROOFS. The kernel accumulators, and the instructions on contributions, tally and lane formats (R196 to R207, R213, R229, R230, R239). -/

namespace Sys2Proof.Machine

set_option Elab.async false

/-- Settles O29: each instruction by what it comes to. -/
theorem kernelAccumulatorInstructions : Obligations.KernelAccumulatorInstructions := by
  unfold Obligations.KernelAccumulatorInstructions
  intro s core i w
  refine ⟨fun h => ⟨_, exec_umak_go (c := .kclr core) rfl h rfl, Inv.accWrite_setKa i _ _⟩, fun h => ⟨_, exec_umak_go (c := .kadd core) rfl h rfl, Inv.accWrite_setKa i _ _⟩,
    fun h => ⟨fun ht => exec_umak_fault (c := .acxk core) rfl h (if_pos ht),
      fun ht => ⟨_, exec_umak_go (c := .acxk core) rfl h (if_neg (by simp [ht])), Inv.accWrite_setKa i _ _⟩⟩,
    fun h => ⟨fun ht => exec_umak_fault (c := .acxp core) rfl h (if_pos ht),
      fun ht => ⟨_, exec_umak_go (c := .acxp core) rfl h (if_neg (by simp [ht])), Inv.accWrite_setKa i _ _⟩⟩,
    fun h o ho => ?_, fun h => ⟨fun he => exec_umak_fault (c := .nrmw core) rfl h (if_pos he), fun he x hx => ⟨_, exec_umak_go (c := .nrmw core) rfl h ?_, Inv.accWrite_setKa i _ _⟩⟩⟩
  · subst ho
    exact ⟨(i.setV (uD w) _).next, exec_umak_go (c := .rdxk core) rfl h rfl, Inv.laneWrite_setV i w fun _ _ => rfl⟩
  · unfold uNrmw
    rw [if_neg (not_not_intro he), hx]

/-! LDC. -/

section
variable {s : State} {core w : Nat} {i : Inv} {k : Chunk}

/-- The format LDC checks against. -/
def ldcFmt (i : Inv) (k : Chunk) (w : Nat) : Nat :=
  if i.entry = 3 && !hasTally k.operation then (match k.copies with | c :: _ => c.fmt | [] => uFmt w) else i.fmt

/-- What LDC reads of a lane: the held contribution in ON_EMIT of an operation without a tally, else the arriving piece (R213). -/
def ldcElem (i : Inv) (k : Chunk) (w l : Nat) : Option (Nat × Bool) :=
  if i.entry = 3 && !hasTally k.operation then k.heldElem (elemIx (i.sx (uA w)).1 (uImm w) l)
  else if elemIx (i.sx (uA w)).1 (uImm w) l < i.count then i.arrive.map fun t => elemAt (ldcFmt i k w) t.pkt.payload t.pkt.poisonMap (elemIx (i.sx (uA w)).1 (uImm w) l) else none

theorem ldcFmt_arrive (h0 : i.entry = 0) : ldcFmt i k w = i.fmt := if_neg (by simp [h0])

theorem ldcElem_arrive (h0 : i.entry = 0) (l : Nat) : ldcElem i k w l = if elemIx (i.sx (uA w)).1 (uImm w) l < i.count
    then i.arrive.map fun t => elemAt i.fmt t.pkt.payload t.pkt.poisonMap (elemIx (i.sx (uA w)).1 (uImm w) l) else none := by
  unfold ldcElem
  rw [if_neg (by simp [h0]), ldcFmt_arrive h0]

theorem ldcElem_held (h3 : i.entry = 3) (ht : hasTally k.operation = false) (l : Nat) : ldcElem i k w l = k.heldElem (elemIx (i.sx (uA w)).1 (uImm w) l) :=
  if_pos (by simp [h3, ht])

theorem uFmt_eq_ldcFmt_held (h3 : i.entry = 3) (ht : hasTally k.operation = false) (hf : ∀ c ∈ k.copies.head?, uFmt w = c.fmt) : uFmt w = ldcFmt i k w := by
  unfold ldcFmt
  rw [if_pos (by simp [h3, ht])]
  cases hc : k.copies with
  | nil => rfl
  | cons c r => exact hf c (by simp [hc])

theorem uLdc_entry (hk : k = s.invChunk i) (h0 : i.entry ≠ 0) (h3 : ¬(i.entry = 3 ∧ hasTally k.operation = false)) : uLdc s i w = .fault 0x26 s := by
  subst hk
  refine if_pos ?_
  simp only [Bool.not_eq_true', Bool.or_eq_false_iff, Bool.and_eq_false_iff, decide_eq_false_iff_not, Bool.not_eq_false']
  refine ⟨h0, ?_⟩
  grind

section
variable (hk : k = s.invChunk i) (he : i.entry = 0 ∨ i.entry = 3 ∧ hasTally k.operation = false)
include hk he

theorem uLdc_format (hf : uFmt w ≠ ldcFmt i k w) : uLdc s i w = .fault 0x24 s := by
  subst hk
  exact (if_neg (by simpa [Decidable.or_iff_not_imp_left] using he)).trans (if_pos hf)

theorem uLdc_tagged (hf : uFmt w = ldcFmt i k w) (ht : (i.sx (uA w)).2 = true) : uLdc s i w = .fault 0x25 s := by
  subst hk
  exact (if_neg (by simpa [Decidable.or_iff_not_imp_left] using he)).trans ((if_neg (not_not_intro hf)).trans (if_pos ht))

theorem uLdc_reads (hf : uFmt w = ldcFmt i k w) (ht : (i.sx (uA w)).2 = false) {g : Nat → Option (Nat × Bool)} (hg : ∀ l ∈ i.active w, g l = ldcElem i k w l) :
    uLdc s i w = .go s ((i.setV (uD w) ((i.active w).map fun l => (l, match g l with | none => (0, false) | some v => (if v.2 then 0 else v.1, v.2)))).next.setKLanes (uC w)
      ((i.active w).map fun l => (l, match g l with | some v => !v.2 | none => false))) := by
  subst hk
  have hls : ((i.active w).map fun l => (l, ldcElem i (s.invChunk i) w l)) = (i.active w).map fun l => (l, g l) :=
    List.map_congr_left fun l hl => by rw [hg l hl]
  refine (if_neg (by simpa [Decidable.or_iff_not_imp_left] using he)).trans ((if_neg (not_not_intro hf)).trans ((if_neg (by simp [ht])).trans ?_))
  change UStep.go s (((i.setV (uD w) (((i.active w).map fun l => (l, ldcElem i (s.invChunk i) w l)).map fun (l, o) => match o with
      | none => (l, 0, false)
      | some (v, psn) => (l, if psn then 0 else v, psn))).setKLanes (uC w)
    (((i.active w).map fun l => (l, ldcElem i (s.invChunk i) w l)).map fun (l, o) => (l, match o with | some (_, psn) => !psn | none => false))).next) = _
  rw [hls, List.map_map, List.map_map]
  have hv : ∀ l ∈ i.active w, ((fun (x : Nat × Option (Nat × Bool)) => match x with | (l, o) => match o with
      | none => (l, 0, false)
      | some (v, psn) => (l, if psn then 0 else v, psn)) ∘ fun l => (l, g l)) l =
      (l, match g l with | none => (0, false) | some v => (if v.2 then 0 else v.1, v.2)) := fun l _ => by
    simp only [Function.comp_apply]
    cases g l <;> rfl
  have hp : ∀ l ∈ i.active w, ((fun (x : Nat × Option (Nat × Bool)) => match x with | (l, o) => (l, match o with | some (_, psn) => !psn | none => false)) ∘ fun l => (l, g l)) l =
      (l, match g l with | some v => !v.2 | none => false) := fun l _ => by
    simp only [Function.comp_apply]
    cases g l <;> rfl
  rw [List.map_congr_left hv, List.map_congr_left hp]
  rfl

end
end

/-! The other reads and ACX. -/

theorem getD_map_range {α : Type} (f : Nat → α) (d : α) {n l : Nat} (hl : l < n) : ((List.range n).map f).getD l d = f l := by
  simp [List.getD, hl]

section
variable {s t : State} {core w ce : Nat} {i : Inv} {k k' : Chunk} {ue : List (Nat × Nat × Nat)} {out : List (Nat × Nat)}

/-- RDX reads the tally's elements once the errors met there are noted (R203). -/
theorem uRdx_reads (hk : k = s.invChunk i) (ht : t = s.tallyErrs k ue ce) (hk' : k' = t.invChunk i) (he : i.entry ≠ 0) (htl : hasTally k.operation = true)
    (hx : (i.sx (uB w)).2 = false) (hal : isMx (uFmt w) = false ∨ ((i.sx (uB w)).1 + uImm w) % 32 = 0) (hin : ∀ l ∈ i.active w, elemIx (i.sx (uB w)).1 (uImm w) l < k.elems)
    (hout : out = readLanes (uFmt w)
      ((List.range 128).map fun l => (if (i.active w).contains l then k'.acc.getD {} (elemIx (i.sx (uB w)).1 (uImm w) l) else ({} : Accum)).resolve)
      (fld w 25 3) (bit w 24) ((List.range 128).map fun l => dsr k'.ctx k'.chunk (elemIx (i.sx (uB w)).1 (uImm w) l) (i.sx (uC w)).1)) :
    uRdx ue ce s i w = .go (t.setChunk { k' with stm := k'.stm.notes ((i.active w).map fun l => (elemIx (i.sx (uB w)).1 (uImm w) l, (out.getD l (0, 0)).2)) })
      (i.setV (uD w) ((i.active w).map fun l => (l, (out.getD l (0, 0)).1,
        seedTag (fld w 25 3) (i.sx (uC w)) || (((List.range 128).map fun l => if (i.active w).contains l then k'.acc.getD {} (elemIx (i.sx (uB w)).1 (uImm w) l)
          else ({} : Accum)).getD l {}).has aPSN))).next := by
  subst hk ht hk' hout
  unfold uRdx
  dsimp only
  rw [if_neg he, if_neg (by simp [htl]), if_neg (by simp [hx]), if_neg (by rintro ⟨hm, hne⟩; simp [hm, hne] at hal), if_neg, List.map_map]
  · rfl
  · simp only [List.any_eq_true, decide_eq_true_eq, not_exists, not_and, Nat.not_le]
    exact hin

theorem uCvt_reads (hk : k = s.invChunk i) (hx : (i.sx (uB w)).2 = false)
    (hal : (isMx (fld w 28 4) = false ∧ isMx (fld w 24 4) = false) ∨ ((i.sx (uB w)).1 + uImm w) % 32 = 0)
    (hout : out = readLanes (fld w 24 4)
      ((List.range 128).map fun l => (if !(i.active w).contains l then ({} : Accum)
        else if (i.lane (uA w) l).2 then ({} : Accum).mark aPSN 0 else Accum.ofNum (decodeNum (fld w 28 4) (i.lane (uA w) l).1)).resolve)
      (fld w 21 3) (bit w 20) ((List.range 128).map fun l => dsr i.ctx i.chunk (elemIx (i.sx (uB w)).1 (uImm w) l) (i.sx (uC w)).1)) :
    uCvt s i w = .go (s.setChunk { k with stm := k.stm.notes ((i.active w).map fun l => (elemIx (i.sx (uB w)).1 (uImm w) l, (out.getD l (0, 0)).2)) })
      (i.setV (uD w) ((i.active w).map fun l => (l, (out.getD l (0, 0)).1, seedTag (fld w 21 3) (i.sx (uC w)) || (i.lane (uA w) l).2))).next := by
  subst hk hout
  unfold uCvt
  dsimp only
  rw [if_neg (by simp [hx]), if_neg (by rintro ⟨hm, hne⟩; simp [hne] at hal; simp [hal] at hm), List.map_map]
  rfl

/-- ACX of the arriving piece (R196): its lanes' elements that exist. -/
theorem uAcx_piece {a : AqEnt} (hk : k = s.invChunk i) (ht : t = s.tallyErrs k ue ce) (hk' : k' = t.invChunk i) (he : i.entry = 0) (htl : hasTally k.operation = true)
    (hsrc : bit w 25 = false) (hf : uFmt w = i.fmt) (hx : (i.sx (uA w)).2 = false) (ha : i.arrive = some a) :
    uAcx ue ce s i w = .go (t.setChunk ((i.active w).foldl (fun c l =>
      if elemIx (i.sx (uA w)).1 (uImm w) l < i.count then
        c.addAt (accOp k' w) (i.first + elemIx (i.sx (uA w)).1 (uImm w) l)
          (decodeAny (uFmt w) (elemAt (uFmt w) a.pkt.payload a.pkt.poisonMap (elemIx (i.sx (uA w)).1 (uImm w) l)).1)
          (elemAt (uFmt w) a.pkt.payload a.pkt.poisonMap (elemIx (i.sx (uA w)).1 (uImm w) l)).2
      else c) k')) i.next := by
  subst hk ht hk'
  unfold uAcx
  simp only [hsrc, ha, Bool.false_eq_true, if_false, false_and, Bool.not_false, true_and]
  rw [if_neg (not_not_intro he), if_neg (by simp [htl]), if_neg (by simpa using hf), if_neg (by simp [hx])]

/-- ACX of a register's lanes. -/
theorem uAcx_lanes (hk : k = s.invChunk i) (ht : t = s.tallyErrs k ue ce) (hk' : k' = t.invChunk i) (he : i.entry = 0) (htl : hasTally k.operation = true)
    (hsrc : bit w 25 = true) (hx : (i.sx (uB w)).2 = false) (hin : ∀ l ∈ i.active w, elemIx (i.sx (uB w)).1 (uImm w) l < i.count) :
    uAcx ue ce s i w = .go (t.setChunk ((i.active w).foldl (fun c l =>
      c.addAt (accOp k' w) (elemIx (i.sx (uB w)).1 (uImm w) l) (decodeNum (uFmt w) (i.lane (uA w) l).1) (i.lane (uA w) l).2) k')) i.next := by
  have hany : ¬((i.active w).any fun l => decide (i.count ≤ elemIx (i.sx (uB w)).1 (uImm w) l)) = true := by simpa using hin
  subst hk ht hk'
  unfold uAcx
  simp only [hsrc, if_true, true_and, Bool.not_true, Bool.false_eq_true, false_and, if_false]
  rw [if_neg (not_not_intro he), if_neg (by simp [htl]), if_neg (by simp [hx]), if_neg hany]

end

/-- Settles O30: each instruction's faults in their order, and what it comes to when it meets none. -/
theorem tallyInstructions : Obligations.TallyInstructions := by
  unfold Obligations.TallyInstructions
  intro s core i w k hk
  refine ⟨fun h => ⟨fun h0 h3 => ?_, fun h0 hf => ?_, fun h0 hf ht => ?_, fun g ht hg => ?_⟩, fun ue ce t k' h ht hk' => ⟨fun he => ?_, fun he htl => ?_, fun he htl hsrc => ⟨fun hf => ?_, fun hf hx => ?_, fun a hf hx ha => ?_⟩,
    fun he htl hsrc => ⟨fun hx => ?_, fun hx hout => ?_, fun hx hin => ?_⟩⟩, fun ue ce t k' h ht hk' => ⟨fun he => ?_, fun he htl => ?_, fun he htl => ⟨fun hx => ?_, fun hx hm hal => ?_, fun hx hal => ⟨fun hout => ?_, fun hin out hout => ?_⟩⟩⟩,
    fun h => ⟨fun hx => ?_, fun hx hm hal => ?_, fun hx hal out hout => ?_⟩⟩
  · exact exec_umak_fault (c := .ldc core) rfl h (uLdc_entry hk h0 h3)
  · exact exec_umak_fault (c := .ldc core) rfl h (uLdc_format hk (.inl h0) (by rwa [ldcFmt_arrive h0]))
  · exact exec_umak_fault (c := .ldc core) rfl h (uLdc_tagged hk (.inl h0) (by rwa [ldcFmt_arrive h0]) ht)
  · obtain ⟨h0, hf, a, ha, hg⟩ | ⟨h3, htl, hf, hg⟩ := hg
    · refine ⟨_, exec_umak_go (c := .ldc core) rfl h (uLdc_reads hk (.inl h0) (by rwa [ldcFmt_arrive h0]) ht fun l hl => ?_), Inv.laneWrite_setV i w fun _ _ => rfl⟩
      rw [hg l hl, ldcElem_arrive h0, ha, Option.map_some]
    · refine ⟨_, exec_umak_go (c := .ldc core) rfl h (uLdc_reads hk (.inr ⟨h3, htl⟩) (uFmt_eq_ldcFmt_held h3 htl hf) ht fun l hl => ?_), Inv.laneWrite_setV i w fun _ _ => rfl⟩
      rw [hg l hl, ldcElem_held h3 htl]
  · exact exec_umak_fault (c := .acx core ue ce) rfl h (if_pos he)
  · subst hk
    exact exec_umak_fault (c := .acx core ue ce) rfl h ((if_neg (not_not_intro he)).trans (if_pos (by simp [htl])))
  · subst hk
    exact exec_umak_fault (c := .acx core ue ce) rfl h ((if_neg (not_not_intro he)).trans ((if_neg (by simp [htl])).trans (if_pos ⟨by simp [hsrc], hf⟩)))
  · subst hk
    exact exec_umak_fault (c := .acx core ue ce) rfl h ((if_neg (not_not_intro he)).trans ((if_neg (by simp [htl])).trans ((if_neg (by simp [hf])).trans
      (if_pos (by simpa [hsrc] using hx)))))
  · exact exec_umak_go (c := .acx core ue ce) rfl h (uAcx_piece hk ht hk' he htl hsrc hf hx ha)
  · subst hk
    exact exec_umak_fault (c := .acx core ue ce) rfl h ((if_neg (not_not_intro he)).trans ((if_neg (by simp [htl])).trans ((if_neg (by simp [hsrc])).trans
      (if_pos (by simpa [hsrc] using hx)))))
  · subst hk
    exact exec_umak_fault (c := .acx core ue ce) rfl h ((if_neg (not_not_intro he)).trans ((if_neg (by simp [htl])).trans ((if_neg (by simp [hsrc])).trans
      ((if_neg (by simp [hsrc, hx])).trans (if_pos (by simpa [hsrc] using hout))))))
  · exact exec_umak_go (c := .acx core ue ce) rfl h (uAcx_lanes hk ht hk' he htl hsrc hx hin)
  · exact exec_umak_fault (c := .rdx core ue ce) rfl h (if_pos he)
  · subst hk
    exact exec_umak_fault (c := .rdx core ue ce) rfl h ((if_neg he).trans (if_pos (by simp [htl])))
  · subst hk
    exact exec_umak_fault (c := .rdx core ue ce) rfl h ((if_neg he).trans ((if_neg (by simp [htl])).trans (if_pos hx)))
  · subst hk
    exact exec_umak_fault (c := .rdx core ue ce) rfl h ((if_neg he).trans ((if_neg (by simp [htl])).trans ((if_neg (by simp [hx])).trans (if_pos ⟨hm, hal⟩))))
  · subst hk
    exact exec_umak_fault (c := .rdx core ue ce) rfl h ((if_neg he).trans ((if_neg (by simp [htl])).trans ((if_neg (by simp [hx])).trans
      ((if_neg (by rintro ⟨hm, hne⟩; simp [hm, hne] at hal)).trans (if_pos (by simpa using hout))))))
  · refine ⟨_, exec_umak_go (c := .rdx core ue ce) rfl h (uRdx_reads hk ht hk' he htl hx hal hin hout), Inv.laneWrite_setV i w fun l hl => ?_⟩
    rw [getD_map_range _ _ (Inv.active_lt hl), if_pos (by simpa using hl)]
    rfl
  · exact exec_umak_fault (c := .cvt core) rfl h (if_pos hx)
  · exact exec_umak_fault (c := .cvt core) rfl h ((if_neg (by simp [hx])).trans (if_pos ⟨by simpa using hm, hal⟩))
  · exact ⟨_, exec_umak_go (c := .cvt core) rfl h (uCvt_reads hk hx hal hout), Inv.laneWrite_setV i w fun _ _ => rfl⟩

end Sys2Proof.Machine

/-! PROOFS. The ledger's instructions and the completion of their accesses (R212 to R214, R224, R246, R251, R261). -/

namespace Sys2Proof.Machine

set_option Elab.async false

/-! The lists LDL and STL go through, when every active lane's word is in range. -/

section
variable {α β : Type} (ls : List Nat)

theorem filterMap_addressed (f : Nat → Nat × Nat) (g : Nat → Nat × Nat → α) :
    ((ls.map fun l => (l, some (f l))).filterMap fun x => x.2.map fun y => g x.1 y) = ls.map fun l => g l (f l) := by
  induction ls with
  | nil => rfl
  | cons x xs ih =>
    rw [List.map_cons, List.map_cons, ← ih]
    rfl

theorem filterMap_missing (q : Nat → Nat) (o : Nat → Option α) (line : Nat → β) :
    ((ls.map fun l => (l, q l, o l)).filterMap fun x => if x.2.2.isNone = true then some (line x.2.1) else none) = (ls.filter fun l => (o l).isNone).map fun l => line (q l) := by
  induction ls with
  | nil => rfl
  | cons x xs ih =>
    rw [List.map_cons, List.filterMap_cons, ih, List.filter_cons]
    cases o x <;> rfl

theorem any_isNone_addressed (f : Nat → Option α) : ((ls.map fun l => (l, f l)).any fun y => y.2.isNone) = true ↔ ∃ l ∈ ls, f l = none := by
  simp

end

/-! LDL. -/

section
variable {s t : State} {core w b : Nat} {i : Inv} {c : Chunk} {f : Nat → Nat × Nat}

theorem uLdl_operation (hc : c = s.invChunk i) (h : c.operation ≠ 5) : uLdl core s i w = .fault 0x23 s := by
  subst hc
  exact if_pos h

theorem uLdl_params (hc : c = s.invChunk i) (h : c.operation = 5) (hp : fld w 28 2 = 3 ∧ fld w 27 1 = 1) : uLdl core s i w =
    .go s (i.setV (uD w) ((i.active w).map fun l => (l, if l % 16 = 15 then s.ldgStep c.ledger % 2 ^ 32 else s.rd LDG_PARAM_CUR_word 0 c.ledger (l % 16), false))).next := by
  subst hc
  exact (if_neg (not_not_intro h)).trans (if_pos hp)

section
variable (hc : c = s.invChunk i) (h : c.operation = 5) (hp : ¬(fld w 28 2 = 3 ∧ fld w 27 1 = 1))
include hc h hp

theorem uLdl_tagged (hx : (i.sx (uA w)).2 = true) : uLdl core s i w = .fault 0x25 s := by
  subst hc
  exact (if_neg (not_not_intro h)).trans ((if_neg hp).trans (if_pos hx))

variable (hb : b = if fld w 27 1 = 0 then s.ldgActive c.ledger else 1 - s.ldgActive c.ledger) (hx : (i.sx (uA w)).2 = false)
include hb hx

theorem uLdl_range (hout : ∃ l ∈ i.active w, s.ldgElem c b (fld w 28 2) (elemIx (i.sx (uA w)).1 (uImm w) l) = none) : uLdl core s i w = .fault 0x22 s := by
  subst hc hb
  exact (if_neg (not_not_intro h)).trans ((if_neg hp).trans ((if_neg (by simp [hx])).trans (if_pos ((any_isNone_addressed _ _).mpr hout))))

variable (hf : ∀ l ∈ i.active w, s.ldgElem c b (fld w 28 2) (elemIx (i.sx (uA w)).1 (uImm w) l) = some (f l))
include hf

omit hc h hp hb hx in
/-- The words and addresses of the active lanes, when all are in range. -/
theorem ldl_addressed : ((i.active w).map fun l => (l, s.ldgElem c b (fld w 28 2) (elemIx (i.sx (uA w)).1 (uImm w) l))) = (i.active w).map fun l => (l, some (f l)) :=
  List.map_congr_left fun l hl => by rw [hf l hl]

/-- A line not fetched yet is demanded, and the LDL waits for it (R214). -/
theorem uLdl_demands (hmiss : ∃ l ∈ i.active w, lineWord (s.core core).lines c b (f l).2 = none) :
    uLdl core s i w = .stall (s.demand core c b (decide (fld w 27 1 = 0))
      (((i.active w).filter fun l => (lineWord (s.core core).lines c b (f l).2).isNone).map fun l => s.lineOf c.ledger b (f l).1 (fld w 28 2))) := by
  have hes := ldl_addressed hf
  have hin : ¬∃ l ∈ i.active w, s.ldgElem c b (fld w 28 2) (elemIx (i.sx (uA w)).1 (uImm w) l) = none := by
    rintro ⟨l, hl, hn⟩
    simp [hf l hl] at hn
  rw [← any_isNone_addressed] at hin
  unfold uLdl
  dsimp only
  rw [← hc, ← hb, if_neg (not_not_intro h), if_neg hp, if_neg (by simp [hx]), if_neg hin, hes, filterMap_addressed (g := fun l y => (l, y.1, lineWord (s.core core).lines c b y.2)), filterMap_missing (line := fun p => s.lineOf c.ledger b p (fld w 28 2)), if_pos]
  obtain ⟨l, hl, hn⟩ := hmiss
  rw [ne_eq, List.map_eq_nil_iff, List.filter_eq_nil_iff]
  exact fun hall => hall l hl (by simp [hn])

/-- Every word is in a fetched line: the lanes take them, a poisoned one as the canonical NaN, counted (R246). -/
theorem uLdl_reads {g : Nat → Nat × Bool} {bad : Nat} (hg : ∀ l ∈ i.active w, lineWord (s.core core).lines c b (f l).2 = some (g l))
    (hbad : bad = ((i.active w).filter fun l => (g l).2).length) (ht : t = if bad = 0 then s else (s.cnt LDG_POISON_READ_count 0 0 0 bad).irq 14 5) :
    uLdl core s i w = .go (if fld w 27 1 = 0 then t else t.setCore core { t.core core with
        lines := (t.core core).lines.filter fun y => !(y.ctx = c.ctx && y.chunk = c.chunk && y.bank = b && y.ledger = c.ledger) })
      (i.setV (uD w) ((i.active w).map fun l => (l, if (g l).2 then 0x7FC00000 else (g l).1, (g l).2))).next := by
  have hes := ldl_addressed hf
  have hin : ¬∃ l ∈ i.active w, s.ldgElem c b (fld w 28 2) (elemIx (i.sx (uA w)).1 (uImm w) l) = none := by
    rintro ⟨l, hl, hn⟩
    simp [hf l hl] at hn
  have hws : ((i.active w).map fun l => (l, (f l).1, lineWord (s.core core).lines c b (f l).2)) = (i.active w).map fun l => (l, (f l).1, some (g l)) :=
    List.map_congr_left fun l hl => by rw [hg l hl]
  rw [← any_isNone_addressed] at hin
  unfold uLdl
  dsimp only
  rw [← hc, ← hb, if_neg (not_not_intro h), if_neg hp, if_neg (by simp [hx]), if_neg hin, hes, filterMap_addressed (g := fun l y => (l, y.1, lineWord (s.core core).lines c b y.2)), hws, filterMap_missing (line := fun p => s.lineOf c.ledger b p (fld w 28 2)) (o := fun l => some (g l)),
    if_neg (by simp), List.map_map]
  generalize hlen : List.length (List.filter _ ((i.active w).map fun l => (l, (f l).1, some (g l)))) = len
  have hlen' : len = bad := by
    rw [← hlen, hbad, List.filter_map, List.length_map]
    rfl
  rw [hlen', ← ht]
  rfl

end
end

/-! STL. -/

section
variable {s : State} {core w : Nat} {i : Inv} {c : Chunk} {f : Nat → Nat × Nat}

theorem uStl_operation (hc : c = s.invChunk i) (h : c.operation ≠ 5) : uStl core s i w = .fault 0x23 s := by
  subst hc
  exact if_pos h

section
variable (hc : c = s.invChunk i) (h : c.operation = 5)
include hc h

theorem uStl_tagged (hx : (i.sx (uB w)).2 = true) : uStl core s i w = .fault 0x25 s := by
  subst hc
  exact (if_neg (not_not_intro h)).trans (if_pos hx)

variable (hx : (i.sx (uB w)).2 = false)
include hx

theorem uStl_range (hout : ∃ l ∈ i.active w, s.ldgElem c (1 - s.ldgActive c.ledger) (fld w 28 2) (elemIx (i.sx (uB w)).1 (uImm w) l) = none) :
    uStl core s i w = .fault 0x22 s := by
  subst hc
  exact (if_neg (not_not_intro h)).trans ((if_neg (by simp [hx])).trans (if_pos ((any_isNone_addressed _ _).mpr hout)))

variable (hf : ∀ l ∈ i.active w, s.ldgElem c (1 - s.ldgActive c.ledger) (fld w 28 2) (elemIx (i.sx (uB w)).1 (uImm w) l) = some (f l))
include hf

/-- The words of an STL whose lanes are all in range wait in SQ for their place (R246). -/
theorem uStl_inRange : uStl core s i w = if 32 ≤ (s.core core).sq.length then .stall s
    else .go (s.setCore core { s.core core with sq := (s.core core).sq ++
      [{ ctx := c.ctx, chunk := c.chunk, gen := c.gen, inv := i.id, ledger := c.ledger,
         words := (i.active w).map fun l => ((f l).2, (i.lane (uA w) l).1, (i.lane (uA w) l).2) }] }) i.next := by
  have hes : ((i.active w).map fun l => (l, s.ldgElem c (1 - s.ldgActive c.ledger) (fld w 28 2) (elemIx (i.sx (uB w)).1 (uImm w) l))) =
      (i.active w).map fun l => (l, some (f l)) := List.map_congr_left fun l hl => by rw [hf l hl]
  have hin : ¬∃ l ∈ i.active w, s.ldgElem c (1 - s.ldgActive c.ledger) (fld w 28 2) (elemIx (i.sx (uB w)).1 (uImm w) l) = none := by
    rintro ⟨l, hl, hn⟩
    simp [hf l hl] at hn
  rw [← any_isNone_addressed] at hin
  unfold uStl
  dsimp only
  rw [← hc, if_neg (not_not_intro h), if_neg (by simp [hx]), if_neg hin, hes, filterMap_addressed (g := fun l y => (y.2, (i.lane (uA w) l).1, (i.lane (uA w) l).2))]

end
end

/-! Lines and stores. -/

section
variable {s u : State} {core : Nat} (hu : u = s.sweepCore core)
include hu

theorem State.lineFetched_off (hon : u.rd SRI_STATE_state core ≠ 3) : s.lineFetched core = u := by
  subst hu
  exact if_pos hon

theorem State.stlAccepted_off (hon : u.rd SRI_STATE_state core ≠ 3) : s.stlAccepted core = u := by
  subst hu
  exact if_pos hon

variable (hon : u.rd SRI_STATE_state core = 3)
include hon

theorem State.lineFetched_idle (hr : (u.core core).reqs = []) : s.lineFetched core = u := by
  subst hu
  unfold State.lineFetched
  dsimp only
  rw [if_neg (not_not_intro hon), hr]

theorem State.lineFetched_room {r : LdgLine} {rest : List LdgLine} (hr : (u.core core).reqs = r :: rest) (hroom : (u.core core).lines.length < 32) (hw : r.words = []) :
    s.lineFetched core = (u.readWords (r.addr / 4) r.n 0).2.setCore core { (u.readWords (r.addr / 4) r.n 0).2.core core with
      reqs := rest, lines := (u.core core).lines ++ [{ r with words := (u.readWords (r.addr / 4) r.n 0).1 }] } := by
  subst hu
  unfold State.lineFetched
  dsimp only
  rw [if_neg (not_not_intro hon), hr]
  dsimp only
  rw [if_pos hroom, if_neg (not_not_intro hw)]

theorem State.lineFetched_full {r : LdgLine} {rest : List LdgLine} (hr : (u.core core).reqs = r :: rest) (hfull : 32 ≤ (u.core core).lines.length) (hw : r.want = false) :
    s.lineFetched core = u := by
  subst hu
  unfold State.lineFetched
  dsimp only
  rw [if_neg (not_not_intro hon), hr]
  dsimp only
  rw [if_neg (by omega), hw]
  exact if_neg (by decide)

theorem State.stlAccepted_idle (hq : (u.core core).sq = []) : s.stlAccepted core = u := by
  subst hu
  unfold State.stlAccepted
  dsimp only
  rw [if_neg (not_not_intro hon), hq]

theorem State.stlAccepted_head {e : SqEnt} {rest : List SqEnt} (hq : (u.core core).sq = e :: rest) :
    s.stlAccepted core = ((e.words.foldl (fun t x => t.writeWords (x.1 / 4) [(x.2.1, x.2.2)] 0)
      (u.setCore core { u.core core with sq := rest })).wr LDG_STATE_dirty 1 0 e.ledger).tryEnd e.ctx e.chunk := by
  subst hu
  unfold State.stlAccepted
  dsimp only
  rw [if_neg (not_not_intro hon), hq]

end

/-- NRMS sweeps its core after the instruction (R251). -/
theorem exec_nrms {s t : State} {core w : Nat} {i : Inv} (h : s.atInstr core 0x78 i w) (hu : s.umak core 0x78 uNrms = t) :
    exec (.nrms core) s = .next (t.sweepCore core) := by
  rw [exec_act (c := .nrms core) rfl h.1, Nat.mod_eq_of_lt h.2.1, State.nrmsU, hu]

theorem State.umak_fault {s : State} {core op w code : Nat} {i : Inv} {f : State → Inv → Nat → UStep} (h : s.atInstr core op i w) (hf : f s i w = .fault code s) :
    s.umak core op f = s.faulted core i code := by
  unfold State.umak
  rw [h.2.2]
  dsimp only
  rw [hf]
  rfl

theorem State.umak_go {s t : State} {core op w : Nat} {i i' : Inv} {f : State → Inv → Nat → UStep} (h : s.atInstr core op i w) (hf : f s i w = .go t i') :
    s.umak core op f = t.issued core i' := by
  unfold State.umak
  rw [h.2.2]
  dsimp only
  rw [hf]
  rfl

/-- Settles O31: LDL, STL and NRMS by their cases, then the lines and stores that complete. -/
theorem ledgerInstructions : Obligations.LedgerInstructions := by
  unfold Obligations.LedgerInstructions
  intro s core i w c hc
  refine ⟨fun h => ?ldl, fun h => ?stl, fun h => ?nrms, fun u hs hcore hu => ?lines⟩
  case ldl =>
    have hex : exec (.ldl core) s = act s (s.umak (core % 68) 0x70 (uLdl core)) := by
      rw [← Nat.mod_eq_of_lt h.2.1, Nat.mod_mod]
      exact congrArg (act s) (by rw [Nat.mod_mod])
    refine ⟨fun hop => exec_umak_fault hex h (uLdl_operation hc hop),
      fun hop h3 h1 => ⟨_, exec_umak_go hex h (uLdl_params hc hop ⟨h3, h1⟩), Inv.laneWrite_setV i w fun _ _ => rfl⟩,
      fun b hb hop hp => ⟨fun hx => exec_umak_fault hex h (uLdl_tagged hc hop hp hx), fun hx hout => exec_umak_fault hex h (uLdl_range hc hop hp hb hx hout),
        fun f hx hf => ⟨fun hmiss => exec_umak_stall hex h (uLdl_demands hc hop hp hb hx hf hmiss), fun g bad t hg hbad ht => ?_⟩⟩⟩
    exact ⟨_, exec_umak_go hex h (uLdl_reads hc hop hp hb hx hf hg hbad ht), Inv.laneWrite_setV i w fun _ _ => rfl⟩
  case stl =>
    have hex : exec (.stl core) s = act s (s.umak (core % 68) 0x71 (uStl core)) := by
      rw [← Nat.mod_eq_of_lt h.2.1, Nat.mod_mod]
      exact congrArg (act s) (by rw [Nat.mod_mod])
    refine ⟨fun hop => exec_umak_fault hex h (uStl_operation hc hop), fun hop hx => exec_umak_fault hex h (uStl_tagged hc hop hx),
      fun hop hx hout => exec_umak_fault hex h (uStl_range hc hop hx hout), fun f hop hx hf => ⟨fun hfull => exec_umak_stall hex h ?_, fun hroom => exec_umak_go hex h ?_⟩⟩
    · rw [uStl_inRange hc hop hx hf, if_pos hfull]
    · rw [uStl_inRange hc hop hx hf, if_neg (by omega)]
  case nrms =>
    subst hc
    refine ⟨fun he => exec_nrms h (State.umak_fault h (if_pos he)), fun he hop => exec_nrms h (State.umak_fault h ((if_neg (not_not_intro he)).trans (if_pos hop))),
      fun he hop => exec_nrms h (State.umak_go h ((if_neg (not_not_intro he)).trans (if_neg (not_not_intro hop))))⟩
  case lines =>
    have hline : exec (.ledgerLineFetched core) s = .next (s.lineFetched core) := by rw [exec_act (c := .ledgerLineFetched core) rfl hs, Nat.mod_eq_of_lt hcore]
    have hstl : exec (.stlAccepted core) s = .next (s.stlAccepted core) := by rw [exec_act (c := .stlAccepted core) rfl hs, Nat.mod_eq_of_lt hcore]
    rw [hline, hstl]
    exact ⟨fun hoff => ⟨congrArg _ (State.lineFetched_off hu hoff), congrArg _ (State.stlAccepted_off hu hoff)⟩,
      fun hon => ⟨fun hr => congrArg _ (State.lineFetched_idle hu hon hr),
        fun r rest hr => ⟨fun hroom hw => congrArg _ (State.lineFetched_room hu hon hr hroom hw), fun hfull hw => congrArg _ (State.lineFetched_full hu hon hr hfull hw)⟩,
        fun hq => congrArg _ (State.stlAccepted_idle hu hon hq), fun e rest hq => congrArg _ (State.stlAccepted_head hu hon hq)⟩⟩

end Sys2Proof.Machine

/-! PROOFS. The four modes of EMIT (R228 to R230, R257, R258). -/

namespace Sys2Proof.Machine

set_option Elab.async false

section
variable {s : State} {core m w : Nat} {i : Inv} {f : State → Inv → Nat → UStep} {c : Instr}

/-- The EMIT at the word of its own mode runs as any instruction does. -/
theorem exec_emitMode (h : exec c s = act s (emitMode m f (core % 68) s)) (ha : s.atInstr core 0x80 i w) (hm : fld w 26 2 = m) :
    exec c s = act s (s.umak (core % 68) 0x80 f) := by
  obtain ⟨hs, hcore, hf⟩ := ha
  rw [h, Nat.mod_eq_of_lt hcore]
  unfold emitMode
  rw [hf]
  exact congrArg (act s) (if_pos hm)

end

section
variable {s t u : State} {i : Inv} {w : Nat} {k : Chunk} {ue : List (Nat × Nat × Nat)} {ce : Nat} (hk : k = s.invChunk i)

theorem uEmit_entry (he : i.entry ≠ 3) : uEmit ue ce s i w = .fault 0x26 s := if_pos he

include hk

theorem uEmit_fault {c : Nat} (he : i.entry = 3) (hf : emitFault i k w i.count = some c) : uEmit ue ce s i w = .fault c s := by
  subst hk
  unfold uEmit
  rw [if_neg (not_not_intro he), hf]

theorem uEmit_stall (he : i.entry = 3) (hf : emitFault i k w i.count = none) (hc : i.cur = none) (hst : s.claimStage k 1 = (false, t)) :
    uEmit ue ce s i w = .stall t := by
  subst hk
  unfold uEmit
  rw [if_neg (not_not_intro he), hf, hc]
  exact (if_pos (by simp [hst])).trans (by simp [hst])

/-- With its piece's staging buffer held, an EMIT of mode 0 writes its lanes into the piece. -/
theorem uEmit_held {q : Piece} (he : i.entry = 3) (hf : emitFault i k w i.count = none) (hq : i.cur.getD { p := i.piece } = q)
    (hst : (if i.cur.isNone then s.claimStage k 1 else (true, s)) = (true, t)) (hu : u = if bit w 25 then t.tallyErrs k ue ce else t) :
    uEmit ue ce s i w = .go (u.setChunk { u.invChunk i with stm := (u.invChunk i).stm.notes (emitData i (u.invChunk i) w).st })
      ({ i with cur := some (q.fill (uFmt w) 0 (emitData i (u.invChunk i) w)) } : Inv).next := by
  subst hk hu hq
  unfold uEmit
  rw [if_neg (not_not_intro he), hf]
  simp only [hst]
  rfl

theorem uSpec_fault {c : Nat} (he : i.entry = 1 ∨ i.entry = 2) (hf : emitFault i k w k.elems = some c) : uSpec ue ce s i w = .fault c s := by
  subst hk
  unfold uSpec
  rw [if_neg (by omega), hf]

section
variable {k' : Chunk} {new : List Nat} {r : Bool × State} (he : i.entry = 1 ∨ i.entry = 2) (hf : emitFault i k w k.elems = none)
  (hu : u = if bit w 25 then s.tallyErrs k ue ce else s) (hk' : k' = u.invChunk i)
  (hnew : new = (emitPieces k'.fmt (emitData i k' w)).filter fun p => !k'.specP.any (·.p = p))
  (hr : r = new.foldl (fun (x : Bool × State) _ => if !x.1 then (false, x.2) else x.2.claimStage (x.2.invChunk i) 0) (true, u))
include he hf hu hk' hnew hr

/-- A speculative EMIT that finds a staging buffer missing stages nothing (R257). -/
theorem uSpec_short (h : r.1 = false) : uSpec ue ce s i w = .go (u.allocFail false 4096) (i.setK (uD w) 0).next := by
  subst hk hu hk' hnew hr
  unfold uSpec
  rw [if_neg (by omega), hf]
  exact if_pos (by simpa using h)

theorem uSpec_staged (h : r.1 = true) : uSpec ue ce s i w = .go (r.2.setChunk { r.2.invChunk i with
      specP := ((r.2.invChunk i).specP ++ new.map fun p => ({ p := p } : Piece)).map fun q =>
        q.fill (r.2.invChunk i).fmt (q.p * pieceElems (r.2.invChunk i).fmt)
          ((emitData i k' w).within (q.p * pieceElems (r.2.invChunk i).fmt) (pieceElems (r.2.invChunk i).fmt)),
      stm := (r.2.invChunk i).stm.notes (emitData i k' w).st }) (i.setK (uD w) allOnes).next := by
  subst hk hu hk' hnew hr
  unfold uSpec
  rw [if_neg (by omega), hf]
  exact if_neg (by simpa using h)

end

theorem uRelease_format (he : i.entry = 1 ∨ i.entry = 2) (hf : uFmt w ≠ k.fmt) : uRelease s i w = .fault 0x24 s := by
  subst hk
  exact (if_neg (by omega)).trans (if_pos hf)

theorem uRelease_staged (he : i.entry = 1 ∨ i.entry = 2) (hf : uFmt w = k.fmt) : uRelease s i w =
    .go ((((s.wr BPM_STAGE_USE_spec (s.rd BPM_STAGE_USE_spec - k.spec.length)).wr BPM_STAGE_USE_emit (s.rd BPM_STAGE_USE_emit + k.spec.length)).setChunk
      { k with relP := k.relP ++ k.specP, specP := [], spec := [], emit := k.emit ++ k.spec }).cnt LDG_SPEC_COMMIT_count) i.next := by
  subst hk
  exact (if_neg (by omega)).trans (if_neg (not_not_intro hf))

theorem uFree_format (he : i.entry = 1 ∨ i.entry = 2) (hf : uFmt w ≠ k.fmt) : uFree s i w = .fault 0x24 s := by
  subst hk
  exact (if_neg (by omega)).trans (if_pos hf)

theorem uFree_staged (he : i.entry = 1 ∨ i.entry = 2) (hf : uFmt w = k.fmt) : uFree s i w =
    .go (((s.freeStage k.spec [] []).setChunk { k with specP := [], spec := [] }).cnt LDG_SPEC_UNDO_count) i.next := by
  subst hk
  exact (if_neg (by omega)).trans (if_neg (not_not_intro hf))

end

/-- Settles O32: each mode of EMIT by what it comes to at its word. -/
theorem emitModes : Obligations.EmitModes := by
  unfold Obligations.EmitModes
  intro s core i w k ha hk
  refine ⟨fun ue ce hm => ?_, fun ue ce hm => ?_, fun hm => ?_, fun hm => ?_⟩
  · have h := exec_emitMode (c := .emit core ue ce) rfl ha hm
    refine ⟨fun he => exec_umak_fault h ha (uEmit_entry he), fun c he hf => exec_umak_fault h ha (uEmit_fault hk he hf),
      fun t he hf hc hst => exec_umak_stall h ha (uEmit_stall hk he hf hc hst), fun t u k' q he hf hq hu hk' => ?_⟩
    subst hk'
    obtain ⟨hcur, rfl⟩ | ⟨hcur, rfl, hst⟩ := hq
    · exact exec_umak_go h ha (uEmit_held hk he hf (by simp [hcur]) (by simp [hcur]) hu)
    · exact exec_umak_go h ha (uEmit_held hk he hf (by simp [hcur]) (by simp [hcur, hst]) hu)
  · have h := exec_emitMode (c := .emitSpeculative core ue ce) rfl ha hm
    refine ⟨fun h1 h2 => exec_umak_fault h ha (if_pos ⟨h1, h2⟩), fun c he hf => exec_umak_fault h ha (uSpec_fault hk he hf),
      fun u k' new r he hf hu hk' hnew hr => ⟨fun h0 => exec_umak_go h ha (uSpec_short hk he hf hu hk' hnew hr h0),
        fun h1 => exec_umak_go h ha (uSpec_staged hk he hf hu hk' hnew hr h1)⟩⟩
  · have h := exec_emitMode (c := .emitRelease core) rfl ha hm
    exact ⟨fun h1 h2 => exec_umak_fault h ha (if_pos ⟨h1, h2⟩), fun he hf => exec_umak_fault h ha (uRelease_format hk he hf),
      fun he hf => exec_umak_go h ha (uRelease_staged hk he hf)⟩
  · have h := exec_emitMode (c := .emitFree core) rfl ha hm
    exact ⟨fun h1 h2 => exec_umak_fault h ha (if_pos ⟨h1, h2⟩), fun he hf => exec_umak_fault h ha (uFree_format hk he hf),
      fun he hf => exec_umak_go h ha (uFree_staged hk he hf)⟩

end Sys2Proof.Machine

/-! PROOFS. The commands of the kernel store: what a LOAD ends with, check by check (R217 to R220, R239, R241). -/

namespace Sys2Proof.Machine

set_option Elab.async false

section
variable {s u : State} {c : Instr} {g : State → State} (hv : s.served 12 0x628) (hu : u = s.event 12 4) (h : exec c s = hostWrite s 12 0x628 g)
include hv hu h

/-- A command of the kernel store runs once its access has been counted (R218). -/
theorem exec_kstCmd {t : State} (hg : g u = t) : exec c s = .next t := by
  subst hu hg
  exact exec_hostWrite h hv

end

/-- What a LOAD does with a signed image of a current version: refuse an instruction, an entry point or the size, or store it (R219, R220). -/
def State.kPlace (s : State) (n : Nat) (k : Kernel) : State :=
  match k.code.zipIdx.find? fun x => decide (instrFault n x.1 ≠ 0) with
  | some (w, j) => s.kDone (instrFault n w) j
  | none =>
    if n ≤ k.onArrive ∨ n ≤ k.onComplete ∨ n ≤ k.onEmit ∨ (n ≤ k.onNorm ∧ (k.onNorm ≠ 0xFFFF ∨ bit k.ops 5 = true)) then s.kDone 6 0 else
    match kernelGap (s.ser.kernels.filter fun x => x.idx ≠ k.idx) n with
    | none => s.kDone 7 0
    | some b =>
      if 256 ≤ (s.ser.kernels.filter fun x => x.idx ≠ k.idx).length then s.kDone 7 0
      else ((s.dropKernel k.idx).setKernels ((s.dropKernel k.idx).ser.kernels ++ [{ k with base := b }])).kDone 0 0

section
variable {s : State} {n : Nat} {k : Kernel}

theorem kPlace_refused {w j : Nat} (h : k.code.zipIdx.find? (fun x => decide (instrFault n x.1 ≠ 0)) = some (w, j)) : s.kPlace n k = s.kDone (instrFault n w) j := by
  unfold State.kPlace
  rw [h]

variable (h : ∀ w ∈ k.code, instrFault n w = 0)
include h

theorem find?_fault_none : k.code.zipIdx.find? (fun x => decide (instrFault n x.1 ≠ 0)) = none := by
  rw [List.find?_eq_none]
  rintro ⟨w, j⟩ hw
  simp [h w (List.fst_mem_of_mem_zipIdx hw)]

theorem kPlace_entry (he : n ≤ k.onArrive ∨ n ≤ k.onComplete ∨ n ≤ k.onEmit ∨ (n ≤ k.onNorm ∧ (k.onNorm ≠ 0xFFFF ∨ bit k.ops 5 = true))) : s.kPlace n k = s.kDone 6 0 := by
  unfold State.kPlace
  rw [find?_fault_none h]
  exact if_pos he

variable (he : ¬(n ≤ k.onArrive ∨ n ≤ k.onComplete ∨ n ≤ k.onEmit ∨ (n ≤ k.onNorm ∧ (k.onNorm ≠ 0xFFFF ∨ bit k.ops 5 = true))))
include he

theorem kPlace_full (hg : kernelGap (s.ser.kernels.filter fun x => x.idx ≠ k.idx) n = none ∨ 256 ≤ (s.ser.kernels.filter fun x => x.idx ≠ k.idx).length) :
    s.kPlace n k = s.kDone 7 0 := by
  unfold State.kPlace
  rw [find?_fault_none h]
  refine (if_neg he).trans ?_
  obtain hg | hg := hg
  · rw [hg]
  · cases kernelGap (s.ser.kernels.filter fun x => x.idx ≠ k.idx) n with
    | none => rfl
    | some b => exact if_pos hg

theorem kPlace_stored {i b : Nat} (hi : k.idx = i) (hg : kernelGap (s.ser.kernels.filter fun x => x.idx ≠ i) n = some b)
    (hl : (s.ser.kernels.filter fun x => x.idx ≠ i).length < 256) :
    s.kPlace n k = ((s.dropKernel i).setKernels ((s.dropKernel i).ser.kernels ++ [{ k with base := b }])).kDone 0 0 := by
  subst hi
  unfold State.kPlace
  rw [find?_fault_none h]
  refine (if_neg he).trans ?_
  rw [hg]
  exact if_neg (by omega)

end

section
variable {u : State} {i : Nat} (hi : i = u.rd SRG_KKEY_kernel)
include hi

theorem kLoad_busy (hb : u.kBusy i = true) : u.kLoad = u.kDone 8 0 := by
  subst hi
  unfold State.kLoad
  rw [if_pos hb]

theorem kUnload_busy (hb : u.kBusy i = true) : u.kUnload = u.kDone 8 0 := by
  subst hi
  unfold State.kUnload
  rw [if_pos hb]

variable (hidle : u.kBusy i = false)
include hidle

theorem kUnload_idle : u.kUnload = (u.dropKernel i).kDone 0 0 := by
  subst hi
  unfold State.kUnload
  rw [if_neg (by simp [hidle])]

/-! The header of a LOAD. -/

section
variable {h : List (Nat × Bool)} {u1 : State} {hb : List Byte} {n : Nat} (hr : u.readRes (u.rd SRG_KLOAD_ADDR_addr * 64) 16 = (h, u1)) (hhb : hb = bytesOf h)
include hr

theorem kLoad_header_unclean (hp : h.any (·.2) = true) : u.kLoad = u1.kDone 1 0 := by
  subst hi
  unfold State.kLoad
  rw [if_neg (by simp [hidle]), hr]
  exact if_pos hp

variable (hn : n = leNat ((hb.drop 8).take 4)) (hp : h.any (·.2) = false)
include hhb hn hp

theorem kLoad_malformed (hm : leNat (hb.take 4) ≠ 0x4B414D55 ∨ leNat ((hb.drop 4).take 4) ≠ 1 ∨ n = 0 ∨ 8192 < n ∨ fld (leNat ((hb.drop 0x14).take 4)) 6 26 ≠ 0 ∨
    leNat ((hb.drop 0x1C).take 36) ≠ 0) : u.kLoad = u1.kDone 2 0 := by
  subst hi hhb hn
  unfold State.kLoad
  rw [if_neg (by simp [hidle]), hr]
  exact (if_neg (by simp [hp])).trans (if_pos hm)

/-! The image of a LOAD whose header is well formed. -/

section
variable (hm : ¬(leNat (hb.take 4) ≠ 0x4B414D55 ∨ leNat ((hb.drop 4).take 4) ≠ 1 ∨ n = 0 ∨ 8192 < n ∨ fld (leNat ((hb.drop 0x14).take 4)) 6 26 ≠ 0 ∨
    leNat ((hb.drop 0x1C).take 36) ≠ 0)) {r : List (Nat × Bool)} {u2 : State} {img : List Byte}
  (hr2 : u1.readRes (u.rd SRG_KLOAD_ADDR_addr * 64) ((64 + 8 * n + 29792) / 4) = (r, u2)) (himg : img = bytesOf r)
include hm hr2 himg

theorem kLoad_unsigned (hp2 : r.any (·.2) = true ∨ Config.slhDsaVerify 256 u2.secu.kernelKey (img.take (64 + 8 * n)) (img.drop (64 + 8 * n)) = false) :
    u.kLoad = u2.kDone 1 0 := by
  subst hi hhb hn himg
  unfold State.kLoad
  rw [if_neg (by simp [hidle]), hr]
  refine (if_neg (by simp [hp])).trans ((if_neg hm).trans ?_)
  dsimp only at hr2 hp2 ⊢
  rw [hr2]
  exact if_pos (by simpa using hp2)

variable (hp2 : r.any (·.2) = false) (hs : Config.slhDsaVerify 256 u2.secu.kernelKey (img.take (64 + 8 * n)) (img.drop (64 + 8 * n)) = true)
include hp2 hs

theorem kLoad_old (hv : leNat ((hb.drop 0x18).take 4) < u2.rd SEC_MIN_kernel_min) : u.kLoad = u2.kDone 9 0 := by
  subst hi hhb hn himg
  unfold State.kLoad
  rw [if_neg (by simp [hidle]), hr]
  refine (if_neg (by simp [hp])).trans ((if_neg hm).trans ?_)
  dsimp only at hr2 hp2 hs ⊢
  rw [hr2]
  exact (if_neg (by simp [hp2, hs])).trans (if_pos hv)

variable (hv : ¬leNat ((hb.drop 0x18).take 4) < u2.rd SEC_MIN_kernel_min) {k : Kernel} (hk : k = { idx := i, base := 0, onArrive := leNat ((hb.drop 0x0C).take 2), onComplete := leNat ((hb.drop 0x0E).take 2), onNorm := leNat ((hb.drop 0x10).take 2), onEmit := leNat ((hb.drop 0x12).take 2), ops := fld (leNat ((hb.drop 0x14).take 4)) 0 6, ver := leNat ((hb.drop 0x18).take 4), code := (List.range n).map fun j => leNat ((img.drop (64 + 8 * j)).take 8), digest := shake256 img 32 })
include hv hk

theorem kLoad_placed : u.kLoad = u2.kPlace n k := by
  subst hi hhb hn himg hk
  unfold State.kLoad
  rw [if_neg (by simp [hidle]), hr]
  refine (if_neg (by simp [hp])).trans ((if_neg hm).trans ?_)
  dsimp only at hr2 hp2 hs ⊢
  rw [hr2]
  refine (if_neg (by simp [hp2, hs])).trans ((if_neg hv).trans ?_)
  unfold State.kPlace
  dsimp only <;> rfl

end
end
end

theorem kInfo_loaded {u : State} {k : Kernel} (h : u.kernel? (u.rd SRG_KKEY_kernel) = some k) :
    u.kInfo = ((((u.wr SRG_KINFO_loaded 1).wr SRG_KINFO_count k.code.length).wr SRG_KINFO_ops k.ops).wr SRG_KINFO_ver k.ver).kDone 0 0 := by
  unfold State.kInfo
  simp only [h]

theorem kInfo_absent {u : State} (h : u.kernel? (u.rd SRG_KKEY_kernel) = none) :
    u.kInfo = ((((u.wr SRG_KINFO_loaded 0).wr SRG_KINFO_count 0).wr SRG_KINFO_ops 0).wr SRG_KINFO_ver 0).kDone 0 0 := by
  unfold State.kInfo
  simp only [h]

/-- Settles O33: the LOAD check by check, then UNLOAD and INFO. -/
theorem kernelStoreCommands : Obligations.KernelStoreCommands := by
  unfold Obligations.KernelStoreCommands
  intro s u i hv hu hi
  have load {t : State} (h : u.kLoad = t) : exec .load s = .next t := exec_kstCmd hv hu rfl h
  refine ⟨fun hb => ⟨load (kLoad_busy hi hb), exec_kstCmd hv hu rfl (kUnload_busy hi hb)⟩, fun hb => exec_kstCmd hv hu rfl (kUnload_idle hi hb),
    fun h u1 hb n hidle hr hhb hn => ⟨fun hp => load (kLoad_header_unclean hi hidle hr hp), fun hp hm => load (kLoad_malformed hi hidle hr hhb hn hp hm),
      fun hp h0 h4 hpos hle hops hres r u2 img hr2 himg => ⟨fun hp2 => ?_, fun hp2 hs => ⟨fun hold => ?_, fun hnew k hk => ?_⟩⟩⟩,
    fun k hk => exec_kstCmd hv hu rfl (kInfo_loaded (hi ▸ hk)), fun hk => exec_kstCmd hv hu rfl (kInfo_absent (hi ▸ hk))⟩
  all_goals have hm : ¬(leNat (hb.take 4) ≠ 0x4B414D55 ∨ leNat ((hb.drop 4).take 4) ≠ 1 ∨ n = 0 ∨ 8192 < n ∨ fld (leNat ((hb.drop 0x14).take 4)) 6 26 ≠ 0 ∨
    leNat ((hb.drop 0x1C).take 36) ≠ 0) := by simp only [h0, h4, hops, hres]; omega
  · exact load (kLoad_unsigned hi hidle hr hhb hn hp hm hr2 himg hp2)
  · exact load (kLoad_old hi hidle hr hhb hn hp hm hr2 himg hp2 hs hold)
  · have placed {t : State} (h : u2.kPlace n k = t) : exec .load s = .next t :=
      load ((kLoad_placed hi hidle hr hhb hn hp hm hr2 himg hp2 hs (Nat.not_lt.mpr hnew) hk).trans h)
    have hidx : k.idx = i := by rw [hk]
    refine ⟨fun w j hf => placed (kPlace_refused hf), fun hf => ⟨fun he => placed (kPlace_entry hf he), fun ha hc he hno => ?_⟩⟩
    have hent : ¬(n ≤ k.onArrive ∨ n ≤ k.onComplete ∨ n ≤ k.onEmit ∨ (n ≤ k.onNorm ∧ (k.onNorm ≠ 0xFFFF ∨ bit k.ops 5 = true))) := by
      rintro (h | h | h | ⟨h, h'⟩)
      · omega
      · omega
      · omega
      · obtain hno | ⟨h1, h2⟩ := hno
        · omega
        · simp [h1, h2] at h'
    exact ⟨fun hg => placed (kPlace_full hf hent (hidx ▸ hg)), fun b hg hl => placed (kPlace_stored hf hent hidx hg hl)⟩

end Sys2Proof.Machine

/-! PROOFS. How invocations begin in their order and end (R213, R221, R222, R224, R225, R474). -/

namespace Sys2Proof.Machine

set_option Elab.async false

/-! A start of an invocation, at a core awake and at one asleep. -/

section
variable {s : State} {core : Nat} {f : State → Nat → State} {c : Instr} (h : exec c s = act s (s.atRun (core % 68) fun s => f s (core % 68))) (hs : s.alive = true) (hcore : core < 68)
include h hs hcore

theorem exec_atRun_awake (ha : s.coreAsleep core = false) : exec c s = .next (f s core) := by
  rw [h, act_alive hs, Nat.mod_eq_of_lt hcore]
  unfold State.atRun
  rw [if_neg (by simp [ha])]

/-- A core asleep wakes for an invocation that would begin (R474). -/
theorem exec_atRun_asleep (ha : s.coreAsleep core = true) (hno : (s.core core).inv = none) (hsome : ((f s core).core core).inv ≠ none) :
    exec c s = .next (s.wakeCore core true) := by
  rw [h, act_alive hs, Nat.mod_eq_of_lt hcore]
  unfold State.atRun
  rw [if_pos ha]
  exact congrArg _ (if_pos (by simpa [hno, Option.isSome_iff_ne_none] using hsome))

end

section
variable {s t : State} {p l : Nat}

/-! A busy core begins nothing. -/

theorem onNorm_busy (h : s.idleCore p = none) : s.onNorm p = s := by
  unfold State.onNorm
  rw [h]

theorem onEmit_busy (h : s.idleCore p = none) : s.onEmit p = s := by
  unfold State.onEmit
  rw [h]

theorem onComplete_busy (h : s.idleCore p = none) : s.onComplete p = s := by
  unfold State.onComplete
  rw [h]

theorem onArrive_busy (h : (s.sweepCore p).idleCore p = none) : s.onArrive p = s.sweepCore p := by
  unfold State.onArrive
  dsimp only
  rw [h]

/-! An idle core's work in its order. -/

section
variable (hl : s.idleCore p = some l)
include hl

theorem onEmit_yields (h : s.wantNorm l ≠ []) : s.onEmit p = s := by
  unfold State.onEmit
  rw [hl]
  exact if_pos (by simpa [List.isEmpty_iff] using h)

theorem onComplete_yields (h : s.wantNorm l ≠ []) : s.onComplete p = s := by
  unfold State.onComplete
  rw [hl]
  exact if_pos (by simp [h])

variable {k : Chunk}

theorem onNorm_first (hk : firstChunk s.normStamp (s.wantNorm l) = some k) :
    s.onNorm p = (s.setChunk { k with phase := 3 }).invoke p { k with phase := 3 } 2 0 k.fmt 0 k.elems none := by
  unfold State.onNorm
  rw [hl]
  dsimp only
  rw [hk]

theorem onEmit_first (hn : s.wantNorm l = []) (hk : firstChunk (fun x => max x.stamp (s.core p).eqFree) (s.wantEmit l (s.core p).eq.length) = some k) :
    s.onEmit p = s.invoke p k 3 k.next k.fmt (k.span k.fmt k.next).1 (k.span k.fmt k.next).2 none := by
  unfold State.onEmit
  rw [hl]
  dsimp only
  rw [if_neg (by simp [hn]), hk]

theorem onComplete_first (hn : s.wantNorm l = []) (he : s.wantEmit l (s.core p).eq.length = []) (hk : firstChunk (·.stamp) (s.wantComplete l) = some k) :
    s.onComplete p = (s.setChunk { k with state := 4, phase := 1 }).invoke p { k with state := 4, phase := 1 } 1 0 k.fmt 0 (if k.operation = 4 then 0 else k.elems) none := by
  unfold State.onComplete
  rw [hl]
  dsimp only
  rw [if_neg (by simp [hn, he]), hk]

end

theorem onArrive_first {e : AqEnt} {r : List AqEnt} {k k' : Chunk} (ht : t = s.sweepCore p) (hl : t.idleCore p = some l) (hn : t.wantNorm l = [])
    (he : t.wantEmit l (t.core p).eq.length = []) (hc : t.wantComplete l = []) (haq : (t.core p).aq = e :: r)
    (hk : t.liveChunk e.ctx e.chunk e.gen = some k) (hk' : k' = if k.state = 1 then { k with state := 2 } else k) :
    s.onArrive p = (((t.setCore p { t.core p with aq := r }).setChunk k').checkComplete k'.ctx k'.chunk).invoke p
      (((((t.setCore p { t.core p with aq := r }).setChunk k').checkComplete k'.ctx k'.chunk).chunk? k'.ctx k'.chunk).getD k') 0 e.piece e.fmt
      (k'.span e.fmt e.piece).1 (k'.span e.fmt e.piece).2 (some e) := by
  subst hk' ht
  unfold State.onArrive
  dsimp only
  rw [hl]
  dsimp only
  rw [if_neg (by simp [hn, he, hc]), haq]
  dsimp only
  rw [hk]

end

/-! The end of an invocation. -/

section
variable {s t u : State} {p w : Nat} {i : Inv} {k : Chunk} (hf : s.fetchU p 0x08 = some (i, w))

include hf in
theorem endU_gone (hk : s.liveChunk i.ctx i.chunk i.gen = none) : s.endU p = s.invDone p i := by
  unfold State.endU
  rw [hf]
  dsimp only
  rw [hk]

@[simp] theorem State.liveChunk_event (pg b m c chunk gen : Nat) (tc : Option Nat) : (s.event pg b tc m).liveChunk c chunk gen = s.liveChunk c chunk gen := by
  simp only [State.liveChunk, State.chunk?, State.event_ser]

section
variable (hk : s.liveChunk i.ctx i.chunk i.gen = some k)
include hf hk

theorem endU_stall (he : i.entry = 3) (hc : i.cur = none) (hst : s.claimStage k 1 = (false, t)) : s.endU p = t.event (0x80 + p) 0x11 := by
  unfold State.endU
  rw [hf]
  dsimp only
  rw [hk]
  dsimp only
  have hif : i.entry = 3 ∧ i.cur.isNone := ⟨he, by simp [hc]⟩
  simp only [if_pos hif, hst]
  rfl

variable (hst : (if i.entry = 3 ∧ i.cur.isNone then s.claimStage k 1 else (true, s)) = (true, t))
  (hu : u = (t.event (0x80 + p) 0x10).setChunk { ((t.event (0x80 + p) 0x10).liveChunk i.ctx i.chunk i.gen).getD k with persist := (List.range 4).map fun j => i.x.getD 0 (12 + j) })
include hst hu

/-- END saves the persistent words and ends the invocation (R222, R224). -/
theorem endU_saved (hn : ¬(i.entry = 1 ∧ (((t.event (0x80 + p) 0x10).liveChunk i.ctx i.chunk i.gen).getD k).operation = 5 ∧ i.normed = false)) :
    s.endU p = u.invDone p i := by
  subst hu
  unfold State.endU
  rw [hf]
  dsimp only
  rw [hk]
  dsimp only
  rw [hst]
  simp only [Bool.not_true, Bool.false_eq_true, if_false]
  rw [if_neg (by simpa using hn)]

/-- An ON_COMPLETE of REDUCE_UPDATE without its NRMS faults at its END (R248). -/
theorem endU_unnormed (hn : i.entry = 1 ∧ (((t.event (0x80 + p) 0x10).liveChunk i.ctx i.chunk i.gen).getD k).operation = 5 ∧ i.normed = false) :
    s.endU p = (u.kernelFault i 0x23).invDone p i := by
  subst hu
  unfold State.endU
  rw [hf]
  dsimp only
  rw [hk]
  dsimp only
  rw [hst]
  simp only [Bool.not_true, Bool.false_eq_true, if_false]
  rw [if_pos (by simpa using hn)]

end
end

section
variable {s : State} {p : Nat} {i : Inv} (hi : (s.core p).inv = some i)
include hi

theorem watchdog_within (h : s.cyc < i.start + s.rd SRG_KCFG_max_cycles) : s.watchdog p = s := by
  unfold State.watchdog
  rw [hi]
  exact if_pos h

theorem watchdog_expired (h : i.start + s.rd SRG_KCFG_max_cycles ≤ s.cyc) : s.watchdog p = s.faultInv p i 0x20 := by
  unfold State.watchdog
  rw [hi]
  exact if_neg (by omega)

end

/-- Settles O34: the starts by what an idle core finds to do, the ends by what END and the watchdog find. -/
theorem invocationsBeginAndEnd : Obligations.InvocationsBeginAndEnd := by
  unfold Obligations.InvocationsBeginAndEnd
  intro s core l hs hcore
  have norm := exec_atRun_awake (f := .onNorm) (c := .onNorm core) rfl hs hcore
  have emit := exec_atRun_awake (f := .onEmit) (c := .onEmit core) rfl hs hcore
  have complete := exec_atRun_awake (f := .onComplete) (c := .onComplete core) rfl hs hcore
  have arrive := exec_atRun_awake (f := .onArrive) (c := .onArrive core) rfl hs hcore
  have fin {v : State} (h : s.endU core = v) : exec (.cmdEnd core) s = .next v := by
    refine (exec_act (c := .cmdEnd core) rfl hs).trans ?_
    rw [Nat.mod_eq_of_lt hcore, h]
  have dog {v : State} (h : s.watchdog core = v) : exec (.watchdog core) s = .next v := by
    refine (exec_act (c := .watchdog core) rfl hs).trans ?_
    rw [Nat.mod_eq_of_lt hcore, h]
  refine ⟨fun t e r k k' ha ht hl hn he hc haq hk hk' => ⟨_, rfl, (arrive ha).trans (congrArg _ (onArrive_first ht hl hn he hc haq hk hk'))⟩,
    fun k ha hl hn he hk => (complete ha).trans (congrArg _ (onComplete_first hl hn he hk)),
    fun k ha hl hk => (norm ha).trans (congrArg _ (onNorm_first hl hk)),
    fun k ha hl hn hk => (emit ha).trans (congrArg _ (onEmit_first hl hn hk)),
    fun ha hl => ⟨(norm ha).trans (congrArg _ (onNorm_busy hl)), (emit ha).trans (congrArg _ (onEmit_busy hl)), (complete ha).trans (congrArg _ (onComplete_busy hl))⟩,
    fun ha hl => (arrive ha).trans (congrArg _ (onArrive_busy hl)),
    fun ha hl hn => ⟨(emit ha).trans (congrArg _ (onEmit_yields hl hn)), (complete ha).trans (congrArg _ (onComplete_yields hl hn))⟩,
    fun ha hno => ⟨exec_atRun_asleep (f := .onNorm) rfl hs hcore ha hno, exec_atRun_asleep (f := .onEmit) rfl hs hcore ha hno,
      exec_atRun_asleep (f := .onComplete) rfl hs hcore ha hno, exec_atRun_asleep (f := .onArrive) rfl hs hcore ha hno⟩, fun i w hf hk => fin (endU_gone hf hk), fun i w k hf hk => ⟨fun t u hst hu hop => ?_, fun u hu he hop hn => ?_, fun t he hc hst => ?_⟩,
    fun i hi => ⟨fun h => dog (watchdog_within hi h), fun h => dog (watchdog_expired hi h)⟩⟩
  · refine fin (endU_saved hf hk ?_ hu ?_)
    · obtain ⟨hno, rfl⟩ | ⟨he, hc, hst⟩ := hst
      · rw [if_neg (by simpa using hno)]
      · rw [if_pos ⟨he, by simp [hc]⟩, hst]
    · rintro ⟨he, ho, hn⟩
      simp [hop ho he] at hn
  · refine fin (endU_unnormed hf hk (if_neg (by simp [he])) hu ⟨he, ?_, hn⟩)
    rw [State.liveChunk_event, hk]
    exact hop
  · exact fin (endU_stall hf hk he hc hst)

end Sys2Proof.Machine

/-! PROOFS. Fences, spares and self-tests of physical cores (R233 to R238, R240, R474). -/

namespace Sys2Proof.Machine

set_option Elab.async false

section
variable {s u v : State} {w : Wr} {p code : Nat}

/-! Software fences a core by number (R234). -/

theorem fenceCmd_idle (hu : u = s.w1c SRG_FENCE_CMD_refused w) (h : w.ones 8 1 = 0) : s.fenceCmd w = u := by
  subst hu
  exact if_pos h

theorem fenceCmd_fence (hu : u = s.w1c SRG_FENCE_CMD_refused w) (h : w.ones 8 1 = 1) (hp : w.ones 0 7 < 68)
    (hst : u.rd SRI_STATE_state (w.ones 0 7) = 2 ∨ u.rd SRI_STATE_state (w.ones 0 7) = 3) : s.fenceCmd w = u.fence (w.ones 0 7) 4 := by
  subst hu
  refine (if_neg (by omega)).trans (if_neg ?_)
  obtain hst | hst := hst
  · simp [hst, hp]
  · simp [hst, hp]

theorem fenceCmd_refused (hu : u = s.w1c SRG_FENCE_CMD_refused w) (h : w.ones 8 1 = 1)
    (hst : 68 ≤ w.ones 0 7 ∨ (u.rd SRI_STATE_state (w.ones 0 7) ≠ 2 ∧ u.rd SRI_STATE_state (w.ones 0 7) ≠ 3)) :
    s.fenceCmd w = u.wr SRG_FENCE_CMD_refused 1 := by
  subst hu
  exact (if_neg (by omega)).trans (if_pos (by simpa using hst))

/-! A core that hangs or errs. -/

section
variable {i : Inv} (hi : (s.core p).inv = some i)
include hi

theorem hang_fences (hst : s.rd SRI_STATE_state p = 3) (h : i.start + s.rd SRG_KCFG_max_cycles + 1024 ≤ s.cyc) : s.hang p = s.fence p 3 := by
  unfold State.hang
  rw [hi]
  exact if_neg (by omega)

theorem hang_within (h : s.cyc < i.start + s.rd SRG_KCFG_max_cycles + 1024) : s.hang p = s := by
  unfold State.hang
  rw [hi]
  exact if_pos (Or.inr h)

end

/-! Self-tests (R238). -/

theorem sriCtrl_off (hu : u = s.put SRI_CTRL_xmask w p) (h : w.ones 0 1 ≠ 1) : s.sriCtrl p w = u := by
  subst hu
  unfold State.sriCtrl
  simp only [if_neg h]
  exact if_neg fun hc => h hc.1

theorem sriCtrl_other (hu : u = s.put SRI_CTRL_xmask w p) (h : w.ones 0 1 = 1) (hst : (u.wr SRI_CTRL_bist 1 p).rd SRI_STATE_state p ≠ 4) :
    s.sriCtrl p w = u.wr SRI_CTRL_bist 1 p := by
  subst hu
  unfold State.sriCtrl
  simp only [if_pos h]
  exact if_neg fun hc => hst hc.2

theorem sriCtrl_retest (hu : u = s.put SRI_CTRL_xmask w p) (h : w.ones 0 1 = 1) (hst : (u.wr SRI_CTRL_bist 1 p).rd SRI_STATE_state p = 4) :
    s.sriCtrl p w = (u.wr SRI_CTRL_bist 1 p).wr SRI_STATE_state 1 p := by
  subst hu
  unfold State.sriCtrl
  simp only [if_pos h]
  exact if_pos ⟨h, hst⟩

theorem bistDone_active (hst : s.rd SRI_STATE_state p = 3) (h : code ≠ 0) : s.bistDone p code = (s.wr SRI_STATE_bist_code code p).fence p 1 := if_pos ⟨hst, h⟩

section
variable (hst : s.rd SRI_STATE_state p = 1)
  (hv : v = (((s.wr SRI_CTRL_bist 0 p).wr SRI_STATE_bist_code code p).wr SRI_STATE_state (if code = 0 then 2 else 5) p).showSpares)
include hst hv

/-- A self-test that ends with a logical core lacking a physical one maps the first spare (R235, R238). -/
theorem bistDone_mapped {l q : Nat} {ls qs : List Nat} (hl : v.unmapped = l :: ls) (hq : v.spares = q :: qs) :
    s.bistDone p code = State.irq { v.mapCore l q with ser := { (v.mapCore l q).ser with fencing := (v.mapCore l q).ser.fencing.filter (· ≠ l) } } (0x80 + p) 2 := by
  subst hv
  unfold State.bistDone
  rw [if_neg (by omega), if_neg (by omega)]
  dsimp only
  rw [hl, hq]

theorem bistDone_unmapped (h : v.unmapped = [] ∨ v.spares = []) : s.bistDone p code = v.irq (0x80 + p) 2 := by
  subst hv
  unfold State.bistDone
  rw [if_neg (by omega), if_neg (by omega)]
  dsimp only
  obtain h | h := h
  · rw [h]
  · rw [h]
    split
    · contradiction
    · rfl

end

theorem portReopen_fenced {l : Nat} (h : s.ser.fencing.contains l = true) :
    s.portReopen l = ({ s with ser := { s.ser with fencing := s.ser.fencing.filter (· ≠ l) } } : State).irq 12 8 := if_neg (by rw [h]; decide)

theorem portReopen_open {l : Nat} (h : s.ser.fencing.contains l = false) : s.portReopen l = s := if_pos (by rw [h]; rfl)

end

/-- Settles O35: each command by what it finds. -/
theorem fencesAndSpares : Obligations.FencesAndSpares := by
  unfold Obligations.FencesAndSpares
  refine fun s => ⟨fun w u hv hu => ?_, fun core hs hcore => ?_, fun core w u hcore hv hu => ?_, fun l hs hl => ?_⟩
  · have cmd {t : State} (h : (s.event 12 4).fenceCmd w = t) : exec (.fenceCmd w) s = .next t := (exec_hostWrite (c := .fenceCmd w) rfl hv).trans (congrArg _ h)
    exact ⟨fun h => cmd (fenceCmd_idle hu h), fun h hp hst => cmd (fenceCmd_fence hu h hp hst), fun h hst => cmd (fenceCmd_refused hu h hst)⟩
  · have hang {t : State} (h : s.hang core = t) : exec (.hang core) s = .next t := by
      rw [exec_act (c := .hang core) rfl hs, Nat.mod_eq_of_lt hcore, h]
    have ecc {ue : Bool} {t : State} (h : s.coreEcc core ue = t) : exec (.coreEccError core ue) s = .next t := by
      rw [exec_act (c := .coreEccError core ue) rfl hs, Nat.mod_eq_of_lt hcore, h]
    have done {code : Nat} {t : State} (hc : code < 256) (h : s.bistDone core code = t) : exec (.bistDone core code) s = .next t := by
      rw [exec_act (c := .bistDone core code) rfl hs, Nat.mod_eq_of_lt hcore, Nat.mod_eq_of_lt hc, h]
    exact ⟨fun i hi hst => ⟨fun h => hang (hang_fences hi hst h), fun h => hang (hang_within hi h)⟩, ecc rfl, fun hst => ecc (if_pos hst),
      fun code hc h0 hst => done hc (bistDone_active hst h0), fun hst code v hc hv =>
        ⟨fun l ls q qs hl hq => ⟨_, done hc (bistDone_mapped hst hv hl hq), rfl⟩, fun h => done hc (bistDone_unmapped hst hv h)⟩⟩
  · have bist {t : State} (h : (s.event (0x80 + core) 4).sriCtrl core w = t) : exec (.bist core w) s = .next t := by
      have hmod : core % 68 = core := Nat.mod_eq_of_lt hcore
      have hx := exec_hostWrite (c := .bist core w) rfl (hmod.symm ▸ hv : s.served (0x80 + core % 68) 0x100)
      rw [hx, hmod, h]
    exact ⟨fun h => bist (sriCtrl_off hu h), fun h hst => bist (sriCtrl_other hu h hst), fun h hst => bist (sriCtrl_retest hu h hst)⟩
  · have reopen {t : State} (h : s.portReopen l = t) : exec (.corePortReopen l) s = .next t := by
      rw [exec_act (c := .corePortReopen l) rfl hs, Nat.mod_eq_of_lt hl, h]
    exact ⟨fun h => reopen (portReopen_fenced h), fun h => reopen (portReopen_open h)⟩

end Sys2Proof.Machine

/-! PROOFS. The ledger's commands and the write of its configuration (R244, R247, R260 to R264). -/

namespace Sys2Proof.Machine

set_option Elab.async false

section
variable {u : State} {n : Nat}

theorem ldgFlip_refused {r : Nat} (h : u.flipCause n = some r) : u.ldgFlip n = ((((((u.wr LDG_FLIP_LAST_ledger n).wr LDG_FLIP_LAST_reason r).wr LDG_FLIP_LAST_step
    (u.ldgStep n)).wr LDG_FLIP_LAST_valid 1).cnt LDG_FLIP_REJECT_count).irq 14 2).ldgDone 7 r := by
  unfold State.ldgFlip State.flip
  rw [h]

theorem ldgFlip_taken {a b : State} (h : u.flipCause n = none)
    (ha : a = (((u.wr LDG_STATE_active (1 - u.ldgActive n) 0 n).wr LDG_STATE_step (u.ldgStep n + 1) 0 n).loadParam n).releaseStep n none)
    (hb : b = ((((((a.clearCover n).wr LDG_ROUND_next_round 0 0 n).wr LDG_STATE_dirty 0 0 n).wr LDG_STATE_revert_ok 1 0 n).freeNorms n true).dropLines n (u.ldgActive n)).cnt LDG_FLIPS_count) :
    u.ldgFlip n = (b.irq 14 1).ldgDone 0 0 := by
  rw [hb, ha]
  unfold State.ldgFlip State.flip
  rw [h]

theorem ldgRevert_dirty (h : u.flag LDG_STATE_dirty 0 n = true ∨ u.flag LDG_STATE_revert_ok 0 n = false) : u.ldgRevert n = u.ldgDone 7 6 := by
  unfold State.ldgRevert
  rw [if_pos (by simpa using h)]

section
variable (hd : u.flag LDG_STATE_dirty 0 n = false) (hr : u.flag LDG_STATE_revert_ok 0 n = true)
include hd hr

theorem ldgRevert_busy (h : u.ldgBusy n = true) : u.ldgRevert n = u.ldgDone 7 3 := by
  unfold State.ldgRevert
  rw [if_neg (by simp [hd, hr]), if_pos h]

theorem ldgRevert_taken (h : u.ldgBusy n = false) : u.ldgRevert n =
    ((((u.wr LDG_STATE_active (1 - u.ldgActive n) 0 n).wr LDG_STATE_step (stepBack (u.ldgStep n)) 0 n).wr LDG_STATE_revert_ok 0 0 n).clearCover n).ldgDone 0 0 := by
  unfold State.ldgRevert
  rw [if_neg (by simp [hd, hr]), if_neg (by simp [h])]

end

theorem ldgCopy_open (h : u.ldgOpen n = true) : u.ldgCopy n = u.ldgDone 7 3 := by
  unfold State.ldgCopy
  exact if_pos h

section
variable (h : u.ldgOpen n = false)
include h

theorem ldgCopy_beyond (hb : u.ldgBlocks n < fld (u.rd LDG_CMD_ARG_arg) 0 32 + fld (u.rd LDG_CMD_ARG_arg) 32 32) : u.ldgCopy n = u.ldgDone 3 0 := by
  unfold State.ldgCopy
  exact (if_neg (by simp [h])).trans (if_pos hb)

theorem ldgCopy_blocks (hb : fld (u.rd LDG_CMD_ARG_arg) 0 32 + fld (u.rd LDG_CMD_ARG_arg) 32 32 ≤ u.ldgBlocks n) : u.ldgCopy n =
    ((List.range (fld (u.rd LDG_CMD_ARG_arg) 32 32)).foldl (fun t i => t.copyBlock n (fld (u.rd LDG_CMD_ARG_arg) 0 32 + i)) u).ldgDone 0 0 := by
  unfold State.ldgCopy
  exact (if_neg (by simp [h])).trans (if_neg (by omega))

end

theorem ldgSet_unlocked (h : u.flag LDG_CFG_lock 0 n = false) : u.ldgSet n = u.ldgDone 7 5 := if_pos (by simp [h])

theorem ldgSet_locked (h : u.flag LDG_CFG_lock 0 n = true) : u.ldgSet n = ((((u.wr LDG_STATE_active (fld (u.rd LDG_CMD_ARG_arg) 0 1) 0 n).wr LDG_STATE_step
    (fld (u.rd LDG_CMD_ARG_arg) 32 32) 0 n).wr LDG_STATE_revert_ok 0 0 n).clearCover n).ldgDone 0 0 := if_neg (by simp [h])

theorem ldgLoad_busy (h : u.ldgBusy n = true) : u.ldgLoad n = u.ldgDone 7 3 := by
  unfold State.ldgLoad
  rw [if_pos h]

theorem ldgLoad_idle (h : u.ldgBusy n = false) : u.ldgLoad n = (u.loadParam n).ldgDone 0 0 := by
  unfold State.ldgLoad
  rw [if_neg (by simp [h])]

end

/-- Settles O36: each command by the conditions of R260 and R264 it meets. -/
theorem ledgerCommands : Obligations.LedgerCommands := by
  unfold Obligations.LedgerCommands
  intro s u n hv hu hn
  have cmd {c : Instr} {f : State → Nat → State} {t : State} (h : exec c s = hostWrite s 14 0x100 fun s => f s (n % 16)) (hf : f u n = t) : exec c s = .next t := by
    rw [exec_hostWrite h hv, ← hu, Nat.mod_eq_of_lt hn, hf]
  have flip {t : State} (h : u.ldgFlip n = t) : exec (.flip n) s = .next t := cmd (f := .ldgFlip) rfl h
  have revert {t : State} (h : u.ldgRevert n = t) : exec (.revert n) s = .next t := cmd (f := .ldgRevert) rfl h
  have copy {t : State} (h : u.ldgCopy n = t) : exec (.copyFwd n) s = .next t := cmd (f := .ldgCopy) rfl h
  have set {t : State} (h : u.ldgSet n = t) : exec (.setState n) s = .next t := cmd (f := .ldgSet) rfl h
  have load {t : State} (h : u.ldgLoad n = t) : exec (.loadParam n) s = .next t := cmd (f := .ldgLoad) rfl h
  exact ⟨fun r h => flip (ldgFlip_refused h), fun h => ⟨_, _, rfl, rfl, flip (ldgFlip_taken h rfl rfl)⟩, fun h => revert (ldgRevert_dirty h),
    fun hd hr h => revert (ldgRevert_busy hd hr h), fun hd hr h => revert (ldgRevert_taken hd hr h),
    ⟨_, _, rfl, rfl, cmd (c := .abandon n) (f := .ldgAbandon) rfl rfl⟩, fun h => copy (ldgCopy_open h), fun h hb => copy (ldgCopy_beyond h hb),
    fun h hb => copy (ldgCopy_blocks h hb), fun h => set (ldgSet_unlocked h), fun h => set (ldgSet_locked h), fun h => load (ldgLoad_busy h),
    fun h => load (ldgLoad_idle h)⟩

/-! The write of LDG_CFG (R244). -/

section
variable {u v : State} {n : Nat} {w : Wr} (hv : v = u.put LDG_CFG_lock w 0 n)
include hv

section
variable {x : State} (h : u.flag LDG_CFG_enable 0 n = true) (hx : x = if w.merge 2 2 (u.rd LDG_CFG_layout 0 n) ≠ u.rd LDG_CFG_layout 0 n then v.irq 14 6 else v)
include h hx

/-! A write while the ledger is enabled: `x` is the state with the change of layout refused. -/

theorem ldgCfg_stays (he : w.merge 0 1 (u.rd LDG_CFG_enable 0 n) = 1) : u.ldgCfg n w = x := by
  subst hv hx
  unfold State.ldgCfg
  dsimp only
  rw [if_pos h, if_pos he]

theorem ldgCfg_disable_busy (he : w.merge 0 1 (u.rd LDG_CFG_enable 0 n) ≠ 1) (hc : u.ldgConvoy n = true) : u.ldgCfg n w = x.irq 14 6 := by
  subst hv hx
  unfold State.ldgCfg
  dsimp only
  rw [if_pos h, if_neg he, if_pos hc]

theorem ldgCfg_disable (he : w.merge 0 1 (u.rd LDG_CFG_enable 0 n) ≠ 1) (hc : u.ldgConvoy n = false) :
    u.ldgCfg n w = (u.ldgCover (x.wr LDG_CFG_enable 0 0 n) n 0).freeNorms n false := by
  subst hv hx
  unfold State.ldgCfg
  dsimp only
  rw [if_pos h, if_neg he, if_neg (by simp [hc])]

end

section
variable {x : State} (h : u.flag LDG_CFG_enable 0 n = false) (hx : x = u.ldgCover (v.wr LDG_CFG_layout (w.merge 2 2 (u.rd LDG_CFG_layout 0 n)) 0 n) n 0)
include h hx

/-! A write while the ledger is disabled: `x` is the state with the layout written. -/

theorem ldgCfg_disabled (he : w.merge 0 1 (u.rd LDG_CFG_enable 0 n) ≠ 1) : u.ldgCfg n w = x := by
  subst hv hx
  unfold State.ldgCfg
  dsimp only
  rw [if_neg (by simp [h]), if_pos (by simp [he])]

theorem ldgCfg_enable_refused {r : Nat} (he : w.merge 0 1 (u.rd LDG_CFG_enable 0 n) = 1) (hr : x.enableBad n (w.merge 2 2 (u.rd LDG_CFG_layout 0 n)) = some r) :
    u.ldgCfg n w = (((x.wr LDG_CFG_ERR_ledger n).wr LDG_CFG_ERR_reason r).wr LDG_CFG_ERR_valid 1).irq 14 6 := by
  subst hv hx
  unfold State.ldgCfg
  dsimp only
  rw [if_neg (by simp [h]), if_neg (by simp [he]), hr]

theorem ldgCfg_enable (he : w.merge 0 1 (u.rd LDG_CFG_enable 0 n) = 1) (hr : x.enableBad n (w.merge 2 2 (u.rd LDG_CFG_layout 0 n)) = none) :
    u.ldgCfg n w = ((x.ldgCover (x.wr LDG_CFG_enable 1 0 n) n 0).clearCover n).wr LDG_ROUND_next_round 0 0 n := by
  subst hv hx
  unfold State.ldgCfg
  dsimp only
  rw [if_neg (by simp [h]), if_neg (by simp [he]), hr]

end
end

/-- Settles O37: the write by whether the ledger is enabled and what it asks for. -/
theorem ledgerEnable : Obligations.LedgerEnable := by
  unfold Obligations.LedgerEnable
  intro s u v n w hn hsv hu hv
  have hmod : n % 16 = n := Nat.mod_eq_of_lt hn
  have run {t : State} (h : u.ldgCfg n w = t) : exec (.ldgCfgWrite n w) s = .next t := by
    have hx := exec_hostWrite (c := .ldgCfgWrite n w) rfl (hmod.symm ▸ hsv : s.served 14 (0x1000 + 0x200 * (n % 16)))
    rw [hx, hmod, ← hu, h]
  refine ⟨fun h hl => ?_, fun h hl => ?_, fun h x hx => ⟨fun he => run (ldgCfg_disabled hv h hx he), fun r he hr => run (ldgCfg_enable_refused hv h hx he hr),
    fun he hr => run (ldgCfg_enable hv h hx he hr)⟩⟩
  · have hx : v = if w.merge 2 2 (u.rd LDG_CFG_layout 0 n) ≠ u.rd LDG_CFG_layout 0 n then v.irq 14 6 else v := (if_neg (not_not_intro hl)).symm
    exact ⟨fun he => run (ldgCfg_stays hv h hx he), fun he hc => run (ldgCfg_disable_busy hv h hx he hc), fun he hc => run (ldgCfg_disable hv h hx he hc)⟩
  · have hx : v.irq 14 6 = if w.merge 2 2 (u.rd LDG_CFG_layout 0 n) ≠ u.rd LDG_CFG_layout 0 n then v.irq 14 6 else v := (if_pos hl).symm
    exact ⟨fun he => run (ldgCfg_stays hv h hx he), fun he hc => run (ldgCfg_disable_busy hv h hx he hc), fun he hc => run (ldgCfg_disable hv h hx he hc)⟩

end Sys2Proof.Machine

/-! PROOFS. The norm's exchange at an awake core port: partials, NAKs and what falls due (R86, R198, R252 to R255). -/

namespace Sys2Proof.Machine

set_option Elab.async false

/-! A partial whose own checks are passed meets its slot. -/

/-- What a partial `p` of the packet `x` does to the slot found for it (R252, check 4 on). -/
def State.normMeet (s : State) (x : Flight) (y : Except Nat NormSlot) : State :=
  match y with
  | .error 0 => s.cnt LDG_NORM_LATE_count
  | .error _ => (s.cnt LDG_NORM_NORES_count).nak x.pkt x.pipe 9
  | .ok y =>
    if y.state = 4 then s.cnt LDG_NORM_LATE_count else
    match y.peers.get? x.pkt.member with
    | some old => if old = leNat x.pkt.payload then s.cnt LDG_NORM_DUP_count else ((s.cnt LDG_NORM_CONFLICT_count).normFault y).finish y.ctx
    | none =>
      (s.setNorm { y with peers := y.peers.put x.pkt.member (leNat x.pkt.payload), total := y.total.join (({} : Accum).add 0 (decodeExp (leNat x.pkt.payload)) (decide (x.pkt.poisonMap % 2 = 1))).1 }).normFinal
        { y with peers := y.peers.put x.pkt.member (leNat x.pkt.payload), total := y.total.join (({} : Accum).add 0 (decodeExp (leNat x.pkt.payload)) (decide (x.pkt.poisonMap % 2 = 1))).1 }

section
variable {s : State} {x : Flight} {y : NormSlot} {old : Nat}

theorem normMeet_failed (h : y.state = 4) : s.normMeet x (.ok y) = s.cnt LDG_NORM_LATE_count := if_pos h

theorem normMeet_repeated (h : y.state ≠ 4) (hp : y.peers.get? x.pkt.member = some old) (ho : old = leNat x.pkt.payload) :
    s.normMeet x (.ok y) = s.cnt LDG_NORM_DUP_count := by
  refine (if_neg h).trans ?_
  rw [hp]
  exact if_pos ho

theorem normMeet_conflict (h : y.state ≠ 4) (hp : y.peers.get? x.pkt.member = some old) (ho : old ≠ leNat x.pkt.payload) :
    s.normMeet x (.ok y) = ((s.cnt LDG_NORM_CONFLICT_count).normFault y).finish y.ctx := by
  refine (if_neg h).trans ?_
  rw [hp]
  exact if_neg ho

theorem normMeet_joined {z : NormSlot} (h : y.state ≠ 4) (hp : y.peers.get? x.pkt.member = none)
    (hz : z = { y with peers := y.peers.put x.pkt.member (leNat x.pkt.payload), total := y.total.join (({} : Accum).add 0 (decodeExp (leNat x.pkt.payload)) (decide (x.pkt.poisonMap % 2 = 1))).1 }) :
    s.normMeet x (.ok y) = (s.setNorm z).normFinal z := by
  subst hz
  refine (if_neg h).trans ?_
  rw [hp]

end

section
variable {s t : State} {l : Nat} {x : Flight} (hx : s.headLocal (.serai l) = some x)
include hx

theorem normArrive_waits (h : x.pkt.kind ≠ 6 ∨ s.ser.fencing.contains l = true) : s.normArrive l = s := by
  unfold State.normArrive
  rw [hx]
  exact if_pos (by simpa using h)

section
variable (ht : t = s.dropFlight x) (hk : x.pkt.kind = 6) (hf : s.ser.fencing.contains l = false)
include ht hk hf

theorem normArrive_context (h : t.ctxValid x.pkt.ctx = false ∨ t.ctxBad x.pkt.ctx = true ∨ t.ctxSlice x.pkt.ctx ≠ x.pkt.slice ∨ t.ctxOper x.pkt.ctx ≠ 5) :
    s.normArrive l = (t.cnt LDG_NORM_BAD_count).nak x.pkt x.pipe 3 := by
  subst ht
  unfold State.normArrive
  rw [hx]
  refine (if_neg (by simpa [hk] using hf)).trans (if_pos ?_)
  simpa [or_assoc] using h

variable (hc : ¬(t.ctxValid x.pkt.ctx = false ∨ t.ctxBad x.pkt.ctx = true ∨ t.ctxSlice x.pkt.ctx ≠ x.pkt.slice ∨ t.ctxOper x.pkt.ctx ≠ 5))
include hc

theorem normArrive_form (h : x.pkt.fmt ≠ 9 ∨ x.pkt.length ≠ 40 ∨ (t.peers (t.ctxLedger x.pkt.ctx)).contains x.pkt.member = false) :
    s.normArrive l = t.cnt LDG_NORM_BAD_count := by
  subst ht
  unfold State.normArrive
  rw [hx]
  refine (if_neg (by simpa [hk] using hf)).trans ((if_neg (by simpa [or_assoc] using hc)).trans (if_pos ?_))
  simpa [or_assoc] using h

variable (hform : ¬(x.pkt.fmt ≠ 9 ∨ x.pkt.length ≠ 40 ∨ (t.peers (t.ctxLedger x.pkt.ctx)).contains x.pkt.member = false))
include hform

theorem normArrive_e2e (h : e2eOf x.pkt.payload ≠ x.pkt.e2e) : s.normArrive l = (t.cnt LDG_NORM_BAD_count).nak x.pkt x.pipe 5 := by
  subst ht
  unfold State.normArrive
  rw [hx]
  exact (if_neg (by simpa [hk] using hf)).trans ((if_neg (by simpa [or_assoc] using hc)).trans
    ((if_neg (by simpa [or_assoc] using hform)).trans (if_pos h)))

theorem normArrive_meet {r : Except Nat NormSlot × State} (h : e2eOf x.pkt.payload = x.pkt.e2e) (hr : t.normSlotFor (t.ctxLedger x.pkt.ctx) x.pkt.ctx x.pkt.chunk x.pkt.slice = r) :
    s.normArrive l = r.2.normMeet x r.1 := by
  subst ht hr
  unfold State.normArrive
  rw [hx]
  refine (if_neg (by simpa [hk] using hf)).trans ((if_neg (by simpa [or_assoc] using hc)).trans
    ((if_neg (by simpa [or_assoc] using hform)).trans ((if_neg (not_not_intro h)).trans ?_)))
  unfold State.normMeet
  dsimp only <;> rfl

end

/-! NAKs of a partial (R254, R255). -/

section
variable {reason : Nat} (ht : t = s.dropFlight x) (hk : x.pkt.kind = 3)
include ht hk

section
variable (ha : ackRead x.pkt = some (1, reason, 6)) (h10 : reason ≠ 10)
include ha h10

theorem normRequest_e2e (he : e2eOf x.pkt.payload ≠ x.pkt.e2e) : s.normRequest l = t := by
  subst ht
  unfold State.normRequest
  rw [hx]
  refine (if_neg (not_not_intro hk)).trans ?_
  rw [ha]
  exact (if_neg h10).trans (if_pos he)

variable (he : e2eOf x.pkt.payload = x.pkt.e2e)
include he

theorem normRequest_stranger (hm : t.peerOf (t.ctxLedger x.pkt.ctx) x.pkt.src = none) : s.normRequest l = t.cnt LDG_NORM_LATE_count := by
  subst ht
  unfold State.normRequest
  rw [hx]
  refine (if_neg (not_not_intro hk)).trans ?_
  rw [ha]
  refine (if_neg h10).trans ((if_neg (not_not_intro he)).trans ?_)
  dsimp only
  rw [hm]

variable {m : Nat} (hm : t.peerOf (t.ctxLedger x.pkt.ctx) x.pkt.src = some m)
include hm

theorem normRequest_scheduled (h9 : reason = 9) : s.normRequest l = { t with ser := { t.ser with resend := t.ser.resend ++
    [{ ledger := t.ctxLedger x.pkt.ctx, ctx := x.pkt.ctx, key := x.pkt.chunk, member := m, due := t.cyc + usCyc (t.rd LDG_NORM_CFG_retry_us), asked := true }] } } := by
  subst ht
  unfold State.normRequest
  rw [hx]
  refine (if_neg (not_not_intro hk)).trans ?_
  rw [ha]
  refine (if_neg h10).trans ((if_neg (not_not_intro he)).trans ?_)
  dsimp only
  rw [hm]
  exact if_pos h9

theorem normRequest_other (h9 : reason ≠ 9) (h8 : reason ≠ 8) : s.normRequest l = t.cnt LDG_NORM_LATE_count := by
  subst ht
  unfold State.normRequest
  rw [hx]
  refine (if_neg (not_not_intro hk)).trans ?_
  rw [ha]
  refine (if_neg h10).trans ((if_neg (not_not_intro he)).trans ?_)
  dsimp only
  rw [hm]
  exact (if_neg h9).trans (if_pos h8)

variable {r : State} (h8 : reason = 8)
include h8

theorem normRequest_unlogged (hp : t.findPartial (t.ctxLedger x.pkt.ctx) x.pkt.ctx x.pkt.chunk = (none, r)) : s.normRequest l = r.cnt LDG_NORM_LATE_count := by
  subst ht
  unfold State.normRequest
  rw [hx]
  refine (if_neg (not_not_intro hk)).trans ?_
  rw [ha]
  refine (if_neg h10).trans ((if_neg (not_not_intro he)).trans ?_)
  dsimp only
  rw [hm]
  refine (if_neg (by omega)).trans ((if_neg (not_not_intro h8)).trans ?_)
  rw [hp]

theorem normRequest_answered {b : List Byte} (hp : t.findPartial (t.ctxLedger x.pkt.ctx) x.pkt.ctx x.pkt.chunk = (some b, r)) :
    s.normRequest l = r.sendPartial (t.ctxLedger x.pkt.ctx) x.pkt.ctx x.pkt.chunk m b := by
  subst ht
  unfold State.normRequest
  rw [hx]
  refine (if_neg (not_not_intro hk)).trans ?_
  rw [ha]
  refine (if_neg h10).trans ((if_neg (not_not_intro he)).trans ?_)
  dsimp only
  rw [hm]
  refine (if_neg (by omega)).trans ((if_neg (not_not_intro h8)).trans ?_)
  rw [hp]

end

section
variable (ha : ackRead x.pkt = some (1, 10, 6))
include ha

theorem normAbort_e2e (he : e2eOf x.pkt.payload ≠ x.pkt.e2e) : s.normAbort l = t := by
  subst ht
  unfold State.normAbort
  rw [hx]
  refine (if_neg (not_not_intro hk)).trans ?_
  rw [ha]
  exact if_pos he

variable (he : e2eOf x.pkt.payload = x.pkt.e2e)
include he

theorem normAbort_fails {y : NormSlot} (hy : t.normOf (t.ctxLedger x.pkt.ctx) x.pkt.ctx x.pkt.chunk (fun y => y.state ≠ 0 && y.state ≠ 4) = some y) :
    s.normAbort l = (t.normFault y).finish y.ctx := by
  subst ht
  unfold State.normAbort
  rw [hx]
  refine (if_neg (not_not_intro hk)).trans ?_
  rw [ha]
  refine (if_neg (not_not_intro he)).trans ?_
  rw [hy]

theorem normAbort_late (hy : t.normOf (t.ctxLedger x.pkt.ctx) x.pkt.ctx x.pkt.chunk (fun y => y.state ≠ 0 && y.state ≠ 4) = none) :
    s.normAbort l = t.cnt LDG_NORM_LATE_count := by
  subst ht
  unfold State.normAbort
  rw [hx]
  refine (if_neg (not_not_intro hk)).trans ?_
  rw [ha]
  refine (if_neg (not_not_intro he)).trans ?_
  rw [hy]

end
end
end

/-- What falls due again, once what fell due has left the list (R254). -/
theorem normRetry_eq {s u : State} (hu : u = (s.ser.resend.filter fun x => decide (x.due ≤ s.cyc)).foldl (fun t x => match (t.findPartial x.ledger x.ctx x.key).1 with
      | some b => (t.findPartial x.ledger x.ctx x.key).2.sendPartial x.ledger x.ctx x.key x.member b
      | none => if x.asked then (t.findPartial x.ledger x.ctx x.key).2.cnt LDG_NORM_LATE_count else (t.findPartial x.ledger x.ctx x.key).2) { s with ser := { s.ser with resend := s.ser.resend.filter fun x => decide (s.cyc < x.due) } }) :
    s.normRetry = (u.ser.norms.filter fun y => y.state = 2 && decide (y.retryAt ≤ u.cyc)).foldl (fun t y =>
      (((t.peers y.ledger).filter fun m => (y.peers.get? m).isNone).foldl (fun v m => v.normNak y.ledger y.ctx y.key m 8) t).setNorm
        { y with retryAt := (((t.peers y.ledger).filter fun m => (y.peers.get? m).isNone).foldl (fun v m => v.normNak y.ledger y.ctx y.key m 8) t).cyc + usCyc ((((t.peers y.ledger).filter fun m => (y.peers.get? m).isNone).foldl (fun v m => v.normNak y.ledger y.ctx y.key m 8) t).rd LDG_NORM_CFG_retry_us) }) u := by
  subst hu
  rfl

/-- Settles O38: the partial by its checks and its slot, the NAKs by their reasons, the timers by what is due. -/
theorem normExchange : Obligations.NormExchange := by
  unfold Obligations.NormExchange
  refine ⟨fun s t l ph x p hs hl hx hp hph ha ht => ?_, fun s hs => ⟨exec_act (c := .normTimeout) rfl hs, fun u hu =>
    (exec_act (c := .normRetry) rfl hs).trans (congrArg _ (normRetry_eq hu))⟩⟩
  subst hp
  have hmod : l % 64 = l := Nat.mod_eq_of_lt hl
  have port {c : Instr} {f : State → Nat → State} {v : State} (h : exec c s = act s (s.atPort (l % 64) fun s => f s (l % 64))) (hf : f s l = v) : exec c s = .next v := by
    rw [exec_act h hs, hmod, State.atPort_awake hx hph ha, hf]
  have arrive {v : State} (h : s.normArrive l = v) : exec (.normPartialArrival l) s = .next v := port (f := .normArrive) rfl h
  have request {v : State} (h : s.normRequest l = v) : exec (.normPartialRequest l) s = .next v := port (f := .normRequest) rfl h
  have abort {v : State} (h : s.normAbort l = v) : exec (.normAbortNak l) s = .next v := port (f := .normAbort) rfl h
  refine ⟨fun h => arrive (normArrive_waits hx h), fun hk hf => ⟨fun h => arrive (normArrive_context hx ht hk hf h), fun hv hb hsl hop => ?_⟩,
    fun reason hk hr h10 => ⟨fun he => request (normRequest_e2e hx ht hk hr h10 he), fun he hm => request (normRequest_stranger hx ht hk hr h10 he hm), fun m he hm =>
      ⟨fun h9 => request (normRequest_scheduled hx ht hk hr h10 he hm h9), fun h9 h8 => request (normRequest_other hx ht hk hr h10 he hm h9 h8),
        fun r h8 hf => request (normRequest_unlogged hx ht hk hr h10 he hm h8 hf), fun b r h8 hf => request (normRequest_answered hx ht hk hr h10 he hm h8 hf)⟩⟩,
    fun hk hr => ⟨fun he => abort (normAbort_e2e hx ht hk hr he), fun y he hy => abort (normAbort_fails hx ht hk hr he hy),
      fun he hy => abort (normAbort_late hx ht hk hr he hy)⟩⟩
  have hc : ¬(t.ctxValid x.pkt.ctx = false ∨ t.ctxBad x.pkt.ctx = true ∨ t.ctxSlice x.pkt.ctx ≠ x.pkt.slice ∨ t.ctxOper x.pkt.ctx ≠ 5) := by simp [hv, hb, hsl, hop]
  refine ⟨fun h => arrive (normArrive_form hx ht hk hf hc h), fun hfmt hlen hpeer => ?_⟩
  have hform : ¬(x.pkt.fmt ≠ 9 ∨ x.pkt.length ≠ 40 ∨ (t.peers (t.ctxLedger x.pkt.ctx)).contains x.pkt.member = false) := not_or.mpr ⟨not_not_intro hfmt, not_or.mpr ⟨not_not_intro hlen, by rw [hpeer]; decide⟩⟩
  refine ⟨fun h => arrive (normArrive_e2e hx ht hk hf hc hform h), fun he => ?_⟩
  have meet {r : Except Nat NormSlot × State} (hr : t.normSlotFor (t.ctxLedger x.pkt.ctx) x.pkt.ctx x.pkt.chunk x.pkt.slice = r) {v : State} (h : r.2.normMeet x r.1 = v) :
      exec (.normPartialArrival l) s = .next v := arrive ((normArrive_meet hx ht hk hf hc hform he hr).trans h)
  exact ⟨fun r hr => meet hr rfl, fun r hr => meet hr rfl, fun r y hr => ⟨fun h => meet hr (normMeet_failed h), fun old h hp ho => meet hr (normMeet_repeated h hp ho),
    fun old h hp ho => meet hr (normMeet_conflict h hp ho), fun h hp z hz => meet hr (normMeet_joined h hp hz)⟩⟩

end Sys2Proof.Machine

/-! PROOFS. The launch broadcast: arrival, closing and freeing (R283, R284, R286, R293). -/

namespace Sys2Proof.Machine

set_option Elab.async false

section
variable {s t : State} {x : Flight} {p : Pkt} (hx : s.headLocal .bcast = some x)

theorem bcArrive_none (h : s.headLocal .bcast = none) : s.bcArrive = s := by
  unfold State.bcArrive
  rw [h]

variable (hp : p = { x.pkt with hopPtr := if x.pkt.wbDone = 1 then x.pkt.hopPtr else x.pkt.hopPtr - 1, wbDone := 0 }) (ht : t = s.dropFlight x)
include hx hp ht

omit hp in
theorem bcArrive_disabled (h : t.flag SRG_BC_CFG_enable = false) : s.bcArrive = t.cnt SRG_BC_DROP_count := by
  subst ht
  unfold State.bcArrive
  rw [hx]
  exact if_pos (by simp [h])

section
variable (h : t.flag SRG_BC_CFG_enable = true)
include h

/-! A repeat of a broadcast that has an entry. -/

section
variable {e : BcEnt} (he : t.ser.bcast.find? (·.hasKey p) = some e)
include he

theorem bcArrive_open (ho : e.isOpen = true) :
    s.bcArrive = (t.cnt SRG_BC_DUP_count).putBc { e with parents := if e.parents.contains x.arr then e.parents else e.parents ++ [x.arr] } := by
  subst hp ht
  unfold State.bcArrive
  rw [hx]
  refine (if_neg (by simp [h])).trans ?_
  rw [he]
  exact if_pos ho

variable (ho : e.isOpen = false)
include ho

theorem bcArrive_answered (hb : (t.cnt SRG_BC_DUP_count).bcTargeted p = false) : s.bcArrive = (t.cnt SRG_BC_DUP_count).bcAck p x.pipe x.arr := by
  subst hp ht
  unfold State.bcArrive
  rw [hx]
  refine (if_neg (by simp [h])).trans ?_
  rw [he]
  exact (if_neg (by simp [ho])).trans (if_neg (by rw [hb]; decide))

theorem bcArrive_reopened {e' : BcEnt} {u c : State} {kids dead : Nat} {bad : Bool} (hu : u = t.cnt SRG_BC_DUP_count) (hb : u.bcTargeted p = true)
    (hk : u.bcKids p x.arr = (kids, bad)) (hc : u.bcCopies p x.pipe kids bad = (dead, c))
    (he' : e' = { e with pkt := p, pipe := x.pipe, isOpen := true, parents := [x.arr], kids := kids, answered := 0, dead := dead, lastAt := u.cyc }) :
    s.bcArrive = (c.putBc e').bcCheck e' := by
  subst hp ht hu he'
  unfold State.bcArrive
  rw [hx]
  refine (if_neg (by simp [h])).trans ?_
  rw [he]
  refine (if_neg (by simp [ho])).trans ((if_pos hb).trans ?_)
  rw [hk]
  dsimp only
  rw [hc]

end

/-! A new broadcast. -/

section
variable (he : t.ser.bcast.find? (·.hasKey p) = none)
include he

theorem bcArrive_full (hr : t.bcRoom = none) : s.bcArrive = t.cnt SRG_BC_DROP_count := by
  subst hp ht
  unfold State.bcArrive
  rw [hx]
  refine (if_neg (by simp [h])).trans ?_
  rw [he]
  dsimp only
  rw [hr]

theorem bcArrive_new {v v' c d : State} {kids dead : Nat} {bad : Bool} {e : BcEnt} (hr : t.bcRoom = some v) (hk : v.bcKids p x.arr = (kids, bad))
    (hv : v' = if bad then v.cnt SRG_BC_DROP_count else v) (hc : (v'.cnt SRG_BC_RX_count).bcCopies p x.pipe kids bad = (dead, c)) (hd : d = c.bcLocal p x.pipe)
    (he' : e = { pkt := p, pipe := x.pipe, isOpen := true, parents := [x.arr], kids := kids, dead := dead, lastAt := d.cyc }) :
    s.bcArrive = (d.setBc (d.ser.bcast ++ [e])).bcCheck e := by
  subst hp ht hv he' hd
  unfold State.bcArrive
  rw [hx]
  refine (if_neg (by simp [h])).trans ?_
  rw [he]
  dsimp only
  rw [hr]
  dsimp only
  rw [hk]
  dsimp only
  rw [hc]

end
end
end

/-- Settles O39: an arrival by its entry, the timers by the entries due. -/
theorem launchBroadcast : Obligations.LaunchBroadcast := by
  unfold Obligations.LaunchBroadcast
  refine ⟨fun s t x p hs hx hp ht => ?_, fun s hs => ⟨fun h => (exec_act (c := .broadcastArrival) rfl hs).trans (congrArg _ (bcArrive_none h)),
    exec_act (c := .childTimeout) rfl hs, exec_act (c := .bcHoldExpiry) rfl hs⟩⟩
  have arrive {v : State} (h : s.bcArrive = v) : exec .broadcastArrival s = .next v := (exec_act (c := .broadcastArrival) rfl hs).trans (congrArg _ h)
  exact ⟨fun h => arrive (bcArrive_disabled hx ht h), fun h => ⟨fun e he ho => arrive (bcArrive_open hx hp ht h he ho),
    fun e he ho hb => arrive (bcArrive_answered hx hp ht h he ho hb), fun e e' u c kids dead bad he ho hu hb hk hc he' => arrive (bcArrive_reopened hx hp ht h he ho hu hb hk hc he'),
    fun he hr => arrive (bcArrive_full hx hp ht h he hr), fun v v' c d kids dead bad e he hr hk hv hc hd he' => arrive (bcArrive_new hx hp ht h he hr hk hv hc hd he')⟩⟩

end Sys2Proof.Machine

/-! PROOFS. Rings, heaters, combs, fade, monitors and baselines (R303 to R322). -/

namespace Sys2Proof.Machine

set_option Elab.async false

/-! Commands on an engine, by its number. -/

section
variable {s t : State} {c : Instr} {e : Nat} (he : e < 8)
include he

theorem exec_engine {f : State → Nat → State} (hs : s.alive = true) (h : exec c s = act s (f s (e % 8))) (hf : f s e = t) : exec c s = .next t := by
  rw [exec_act h hs, Nat.mod_eq_of_lt he, hf]

theorem exec_engineWrite {f : State → Nat → State} {off : Nat} (hv : s.served (0x30 + e) off) (h : exec c s = hostWrite s (0x30 + e % 8) off fun s => f s (e % 8))
    (hf : f (s.event (0x30 + e) 4) e = t) (h1 : off ≠ 0x18 := by omega) (h2 : off ≠ 0xA0 := by omega) : exec c s = .next t := by
  rw [Nat.mod_eq_of_lt he] at h
  rw [exec_hostWrite h hv h1 h2, hf]

end

section
variable {s : State} {e r : Nat} {x : Ring}

/-! A ring out of lock (R307, R308). -/

theorem ringLoss_locked (hx : x = s.ring e r) (h1 : x.lock ≠ 1) (h2 : x.lock ≠ 2) (out : Bool) :
    s.ringLoss e r out = s.dropLock e r 5 { x with lock := 1, out := out, sweep := false } := by
  subst hx
  exact if_neg (by simp [h1, h2])

theorem ringLoss_lost (hx : x = s.ring e r) (h : x.lock = 1 ∨ x.lock = 2) (out : Bool) : s.ringLoss e r out = s := by
  subst hx
  exact if_pos h

/-- Which lane a ring serves does not rest on the rings. -/
theorem State.ringLane_setRing (y : Ring) : (s.setRing e r y).ringLane e r = s.ringLane e r := rfl

theorem dropLock_unserving (h : s.ringLane e r = none) (cause : Nat) (y : Ring) : s.dropLock e r cause y = s.setRing e r y := by
  unfold State.dropLock
  dsimp only
  rw [State.ringLane_setRing, h]

theorem dropLock_serving {l : Nat} (h : s.ringLane e r = some l) (cause : Nat) (y : Ring) :
    s.dropLock e r cause y = ((s.setRing e r y).leave [l] cause).lookRings l := by
  unfold State.dropLock
  dsimp only
  rw [State.ringLane_setRing, h]

/-! A ring back in lock (R307). -/

theorem ringBack_held (hx : x = s.ring e r) (h : x.lock ≠ 1) (offset order up down : Nat) : s.ringBack e r offset order up down = s := by
  subst hx
  exact if_pos h

/-- What a ring back in lock leaves for its command, or its relock's count, by what it was lost for. -/
def State.ringEnded (s : State) (e r : Nat) (x : Ring) : State :=
  if x.sweep then (if s.flag OPX_CMD_STAT_busy e && s.rd OPX_RING_KEY_ring e = r && (s.opt.avg.get? e).isNone then s.opxDone e 0 else s)
  else if x.out then ((s.cnt OPX_RELOCK_count e).opxIrq e 9).cnt OPX_HEADROOM_EXC_count e else (s.cnt OPX_RELOCK_count e).opxIrq e 9

theorem ringBack_lost {offset order up down : Nat} {y : Ring} {v w : State} (hx : x = s.ring e r) (h : x.lock = 1) (ho : offset < 65536) (hor : order < 4)
    (hu : up < 256) (hd : down < 256)
    (hy : y = { x with offset := offset, order := order, up := up, down := down, lock := if (s.ringLane e r).isSome && !s.bypassed (8 * e + r / 34) then 0 else 3, out := false, sweep := false, up0 := up, down0 := down, temp0 := s.ringTemp e r })
    (hv : v = ((s.setRing e r y).monStart e (· = 85 + r)).ringEnded e r x) (hn : s.ringLane e r = none → w = v) (hl : ∀ l, s.ringLane e r = some l → w = v.lookRings l) :
    s.ringBack e r offset order up down = w := by
  subst hy hv
  unfold State.ringBack
  rw [← hx, if_neg (not_not_intro h), Nat.mod_eq_of_lt ho, Nat.mod_eq_of_lt hor, Nat.mod_eq_of_lt hu, Nat.mod_eq_of_lt hd]
  extract_lets lane s1 s2 s3 s4 s5
  have h5 : s5 = s2.ringEnded e r x := by
    simp only [s5, s4, s3, State.ringEnded]
    cases x.sweep
    · simp
    · simp
  rw [h5]
  cases hlane : lane with
  | none => exact (hn hlane).symm
  | some l => exact (hl l hlane).symm

/-! The recalibration sweep (R306, R308, R320). -/

section
variable {now : List Nat} {turn : Bool} (hx : x = s.ring e r)
  (hnow : now = if (s.opt.swept.getD [] e).contains r then s.opt.swept.getD [] e else r :: s.opt.swept.getD [] e)
  (hturn : turn = (s.flag OPX_CTRL_recal_en e && decide ((if s.rd OPX_RECAL_period_s e = 0 then 60 else s.rd OPX_RECAL_period_s e) * 2000000000 ≤ 272 * (s.cyc - s.opt.sweepAt.getD 0 e)) && !(s.opt.swept.getD [] e).contains r))

include hx in
theorem recal_deferred (h : x.lock = 1 ∨ s.sweeping e = true ∨ s.engineHeld e = true) : s.recal e r = s := by
  subst hx
  unfold State.recal
  dsimp only
  refine if_pos ?_
  obtain h | h | h := h
  · simp [h]
  · simp [h]
  · simp [h]

include hx hturn in
theorem recal_rests (ht : turn = false) (hroom : s.rd OPX_RECAL_early_c e ≤ min x.up x.down) : s.recal e r = s := by
  subst hx
  rw [ht] at hturn
  unfold State.recal
  dsimp only
  rw [← hturn]
  exact if_pos (by simp [Nat.not_lt.mpr hroom])

variable (hl : x.lock ≠ 1) (hsw : s.sweeping e = false) (hh : s.engineHeld e = false)
include hx hnow hturn hl hsw hh

theorem recal_turn (ht : turn = true) : s.recal e r =
    ({ s with opt := { s.opt with sweepAt := s.opt.sweepAt.put e s.cyc, swept := s.opt.swept.put e (if 272 ≤ now.length then [] else now) } } : State).sweep e r := by
  subst hx hnow
  rw [ht] at hturn
  unfold State.recal
  dsimp only
  rw [← hturn]
  exact if_neg (by simp [hl, hsw, hh])

theorem recal_early (ht : turn = false) (hroom : min x.up x.down < s.rd OPX_RECAL_early_c e) : s.recal e r =
    ({ s with opt := { s.opt with swept := s.opt.swept.put e (if 272 ≤ now.length then [] else now) } } : State).sweep e r := by
  subst hx hnow
  rw [ht] at hturn
  unfold State.recal
  dsimp only
  rw [← hturn]
  exact if_neg (by simp [hl, hsw, hh, hroom])

end

/-! SWEEP_RING (R308, R321). -/

theorem sweepRing_busy (h : s.flag OPX_CMD_STAT_busy e = true) : s.sweepRing e = s := if_pos h

section
variable (h : s.flag OPX_CMD_STAT_busy e = false)
include h

theorem sweepRing_beyond (hr : 272 ≤ s.rd OPX_RING_KEY_ring e) : s.sweepRing e = s.opxDone e 3 := (if_neg (by simp [h])).trans (if_pos hr)

variable (hr : s.rd OPX_RING_KEY_ring e < 272)
include hr

theorem sweepRing_lost (hl : (s.ring e (s.rd OPX_RING_KEY_ring e)).lock = 1) : s.sweepRing e =
    (s.setRing e (s.rd OPX_RING_KEY_ring e) { s.ring e (s.rd OPX_RING_KEY_ring e) with sweep := true }).wr OPX_CMD_STAT_busy 1 e := by
  refine (if_neg (by simp [h])).trans ((if_neg (by omega)).trans ?_)
  dsimp only
  rw [if_pos hl]

theorem sweepRing_locked (hl : (s.ring e (s.rd OPX_RING_KEY_ring e)).lock ≠ 1) : s.sweepRing e = (s.sweep e (s.rd OPX_RING_KEY_ring e)).wr OPX_CMD_STAT_busy 1 e := by
  refine (if_neg (by simp [h])).trans ((if_neg (by omega)).trans ?_)
  dsimp only
  rw [if_neg hl]

end

/-! Heater updates (R304). -/

theorem heaters_within {temps bad : List Nat} {dith : List Int} {c : Nat} (h : s.opt.heatAt.get? e = some c) (hc : s.cyc < c + usCyc 10) :
    s.heaters e temps dith bad = s := by
  refine if_pos ?_
  simp [h, hc]

theorem heaters_due {temps bad : List Nat} {dith : List Int} {u v : State} (h : ∀ c, s.opt.heatAt.get? e = some c → c + usCyc 10 ≤ s.cyc)
    (hu : u = { s with opt := { s.opt with heatAt := s.opt.heatAt.put e s.cyc } })
    (hv : v = (((u.wr OPX_TEMP_t0 (temps.getD 0 0 % 65536) e).wr OPX_TEMP_t1 (temps.getD 1 0 % 65536) e).wr OPX_TEMP_t2 (temps.getD 2 0 % 65536) e).wr OPX_TEMP_t3 (temps.getD 3 0 % 65536) e) :
    s.heaters e temps dith bad = (List.range 272).foldl (fun t q =>
      if 2 ≤ t.rd PWR_FIBRE_state 0 (8 * e + q / 34) then t else
      let temp := toSigned 16 (temps.getD (q / 34 / 2) 0 % 65536)
      let c := t.ffCode e q temp
      let f := if c % 2160 = 0 then (0, t) else t.takeFree 11
      let h := (t.ring e q).room temp
      let n := f.2.setRing e q { (t.ring e q) with heater := ofSigned 16 (c / 2160 + ((f.1 % 2 : Nat) : Int) + dith.getD q 0), up := h.1, down := h.2 }
      if (t.ring e q).atOut temp then n.ringLoss e q true else n) (bad.foldl (fun t q => t.ringLoss e (q % 272) false) v) := by
  subst hu hv
  refine if_neg ?_
  cases hc : s.opt.heatAt.get? e with
  | none => simp
  | some c => simpa using h c hc

end

/-! Combs (R310, R321). -/

section
variable {s u : State} {e c : Nat}

theorem combLoss_lost (h : s.flag OPX_COMB_lock e c = false) : s.combLoss e c = s := if_pos (by simp [h])

theorem combLoss_locked (h : s.flag OPX_COMB_lock e c = true) (hu : u = ((s.wr OPX_COMB_lock 0 e c).cnt OPX_LOCK_LOSS_count e).opxIrq e 5) :
    s.combLoss e c = ({ u with opt := { u.opt with relock := u.opt.relock.put (e * 8 + c) (u.cyc + usCyc (u.rd OPX_CTRL_relock_us e)) } } : State).refit e := by
  subst hu
  exact if_neg (by simp [h])

theorem combLocked_takes (h : s.flag OPX_COMB_lock e c = false) (ho : s.flag OPX_COMB_off e c = false)
    (hp : s.rd PAGE_PWR_state (0x30 + e) ≠ 3 ∨ s.pwr.wakeE.contains e = true) (hu : u = s.wr OPX_COMB_lock 1 e c) :
    s.combLocked e c = ({ u with opt := { u.opt with relock := u.opt.relock.del (e * 8 + c) } } : State).refit e := by
  subst hu
  refine if_neg ?_
  obtain hp | hp := hp
  · simp [h, ho, hp]
  · simp [h, ho, List.contains_iff_mem.mp hp]

theorem combLocked_stays (h : s.flag OPX_COMB_lock e c = true ∨ s.flag OPX_COMB_off e c = true) : s.combLocked e c = s := by
  refine if_pos ?_
  obtain h | h := h
  · simp [h]
  · simp [h]

theorem relockTimeout_none (h : s.opt.relock.get? (e * 8 + c) = none) : s.relockTimeout e c = s := by
  unfold State.relockTimeout
  rw [h]

section
variable {t : Nat} (h : s.opt.relock.get? (e * 8 + c) = some t)
include h

theorem relockTimeout_within (ht : s.cyc < t) : s.relockTimeout e c = s := by
  unfold State.relockTimeout
  rw [h]
  exact if_pos ht

variable (ht : t ≤ s.cyc) (hu : u = { s with opt := { s.opt with relock := s.opt.relock.del (e * 8 + c) } })
include ht hu

theorem relockTimeout_spare (hc : c < 4) (hl : u.flag OPX_COMB_lock e c = false) (hf : u.fibreComb (8 * e + 2 * c) = c) :
    s.relockTimeout e c = u.toSpare e c (150000 * NS) := by
  subst hu
  unfold State.relockTimeout
  rw [h]
  exact (if_neg (by omega)).trans (if_pos (by simp [hc, hl, hf]))

theorem relockTimeout_rests (hn : 4 ≤ c ∨ u.flag OPX_COMB_lock e c = true ∨ u.fibreComb (8 * e + 2 * c) ≠ c) : s.relockTimeout e c = u := by
  subst hu
  unfold State.relockTimeout
  rw [h]
  refine (if_neg (by omega)).trans (if_neg ?_)
  obtain hn | hn | hn := hn
  · simp [Nat.not_lt.mpr hn]
  · simp [hn]
  · simp [hn]

end

section
variable {w : Wr}

theorem combOff_lit (h : w.merge 1 1 (s.rd OPX_COMB_off e c) = 1) (hl : s.lights e c = true) : s.combOff e c w = s.opxDone e 3 := if_pos (by simp [h, hl])

theorem combOff_off (h : w.merge 1 1 (s.rd OPX_COMB_off e c) = 1) (hl : s.lights e c = false) :
    s.combOff e c w = ((s.wr OPX_COMB_off 1 e c).wr OPX_COMB_lock 0 e c).refit e := (if_neg (by simp [hl])).trans (if_pos h)

theorem combOff_on (h : w.merge 1 1 (s.rd OPX_COMB_off e c) ≠ 1) : s.combOff e c w = (s.wr OPX_COMB_off 0 e c).refit e := (if_neg (by simp [h])).trans (if_neg h)

end
end

/-! Fade, baselines and monitors (R303, R311). -/

section
variable {s u : State} {e : Nat}

theorem fade_rests {powers : List Nat} (h : s.flag OPX_CTRL_fade_en e = false ∨ s.flag OPX_STATUS_no_baseline e = true ∨ s.cyc < s.opt.fadeAt.getD 0 e + 2000000) :
    s.fadeEval e powers = s := by
  refine if_pos ?_
  obtain h | h | h := h
  · simp [h]
  · simp [h]
  · simp [h]

theorem fade_due {powers : List Nat} (h : s.flag OPX_CTRL_fade_en e = true) (hb : s.flag OPX_STATUS_no_baseline e = false) (hc : s.opt.fadeAt.getD 0 e + 2000000 ≤ s.cyc) :
    s.fadeEval e powers = ((List.range 5).foldl (fun v k => v.fadeComb e k powers) ({ s with opt := { s.opt with fadeAt := s.opt.fadeAt.put e s.cyc } } : State)).monStart e (· < 85) :=
  if_neg (by simp [h, hb, hc])

theorem baseline_busy {powers : List Nat} {ok : Bool} (h : s.flag OPX_CMD_STAT_busy e = true) : s.baseline e powers ok = s := if_pos h

theorem baseline_begins {powers : List Nat} {ok : Bool} (h : s.flag OPX_CMD_STAT_busy e = false) :
    s.baseline e powers ok = ({ s with opt := { s.opt with avg := s.opt.avg.put e (s.cyc + msCyc 100, powers, ok) } } : State).wr OPX_CMD_STAT_busy 1 e :=
  if_neg (by simp [h])

/-- A lone average that is complete ends its command (R311). -/
theorem tickBaselines_one {due : Nat} {powers : List Nat} {ok : Bool} (h : (s.opt.avg.filter fun x => decide (x.2.1 ≤ s.cyc)) = [(e, due, powers, ok)]) :
    s.tickBaselines = s.baselineEnd e powers ok := by
  unfold State.tickBaselines
  rw [h, List.foldl_cons, List.foldl_nil]

theorem monCmd_tap {tap int : Nat} (h : tap ≤ 356) :
    s.monCmd e tap int = { s with opt := { s.opt with mon := s.opt.mon.put e (tap, monCyc int, if s.tapBusy e tap then none else some s.cyc) } } := if_neg (by omega)

theorem monCmd_beyond {tap int : Nat} (h : 356 < tap) : s.monCmd e tap int = s := if_pos h

section
variable {tap n power : Nat}

theorem monDone_waiting (h : s.opt.mon.get? e = some (tap, n, none)) : s.monDone e power = s := by
  unfold State.monDone
  rw [h]

variable {t : Nat} (h : s.opt.mon.get? e = some (tap, n, some t))
include h

theorem monDone_within (ht : s.cyc < t + n) : s.monDone e power = s := by
  unfold State.monDone
  rw [h]
  exact if_pos ht

theorem monDone_ended (ht : t + n ≤ s.cyc) (hu : u = { s with opt := { s.opt with mon := s.opt.mon.del e } }) :
    s.monDone e power = ((u.wr OPX_MON_DATA_power power e).wr OPX_MON_DATA_valid 1 e).opxIrq e 8 := by
  subst hu
  unfold State.monDone
  rw [h]
  exact if_neg (by omega)

end
end

/-- Settles O40: the rings, the combs, the fade and the monitors of an engine, each by what its command finds. -/
theorem ringsHeatersAndCombs : Obligations.RingsHeatersAndCombs := by
  unfold Obligations.RingsHeatersAndCombs
  refine ⟨fun s e r x hs he hr hx => ?_, fun s e c he hc => ?_⟩
  · have hmod : r % 272 = r := Nat.mod_eq_of_lt hr
    have loss {out : Bool} {t : State} (h : s.ringLoss e r out = t) : exec (.ringLockLoss e r out) s = .next t :=
      exec_engine he (f := fun s e => s.ringLoss e (r % 272) out) hs rfl (by rw [hmod, h])
    have back {o od u d : Nat} {t : State} (h : s.ringBack e r o od u d = t) : exec (.ringRelocked e r o od u d) s = .next t :=
      exec_engine he (f := fun s e => s.ringBack e (r % 272) o od u d) hs rfl (by rw [hmod, h])
    have recal {t : State} (h : s.recal e r = t) : exec (.recalSweep e r) s = .next t :=
      exec_engine he (f := fun s e => s.recal e (r % 272)) hs rfl (by rw [hmod, h])
    have heat {temps bad : List Nat} {dith : List Int} {t : State} (h : s.heaters e temps dith bad = t) : exec (.heaterUpdate e temps dith bad) s = .next t :=
      exec_engine he (f := fun s e => s.heaters e temps dith bad) hs rfl h
    refine ⟨fun out h1 h2 => loss (ringLoss_locked hx h1 h2 out), fun out h => loss (ringLoss_lost hx h out), fun cause y h => dropLock_unserving h cause y,
      fun cause y l h => dropLock_serving h cause y, fun o od u d h => back (ringBack_held hx h o od u d),
      fun o od up d y u v h ho hod hup hd hy hu hv => back (ringBack_lost hx h ho hod hup hd hy (v := v) (by rw [hv, hu]; rfl) (fun hl => by rw [hl]) (fun l hl => by rw [hl])),
      fun now turn hnow hturn => ⟨fun hl hsw hh ht => recal (recal_turn hx hnow hturn hl hsw hh ht), fun hl hsw hh ht hroom => recal (recal_early hx hnow hturn hl hsw hh ht hroom),
        fun ht hroom => recal (recal_rests hx hturn ht hroom)⟩, fun h => recal (recal_deferred hx h), fun u hv hu => ?_,
      fun temps dith bad => ⟨fun c h hc => heat (heaters_within h hc), fun h u v hu hv => heat (heaters_due h hu hv)⟩⟩
    subst hu
    have run {t : State} (h : (s.event (0x30 + e) 4).sweepRing e = t) : exec (.sweepRing e) s = .next t := exec_engineWrite he (f := .sweepRing) hv rfl h
    exact ⟨fun h => run (sweepRing_busy h), fun h hr => run (sweepRing_beyond h hr), fun h hr hl => run (sweepRing_lost h hr hl), fun h hr hl => run (sweepRing_locked h hr hl)⟩
  · have hmod : c % 5 = c := Nat.mod_eq_of_lt hc
    have comb {i : Instr} {f : State → Nat → Nat → State} {t : State} (hs : s.alive = true) (h : exec i s = act s (f s (e % 8) (c % 5))) (hf : f s e c = t) :
        exec i s = .next t := exec_engine he (f := fun s e => f s e (c % 5)) hs h (by rw [hmod, hf])
    refine ⟨fun hs h => ⟨_, rfl, comb (f := .combLoss) hs rfl (combLoss_locked h rfl)⟩, fun hs h => comb (f := .combLoss) hs rfl (combLoss_lost h),
      fun hs h ho hp => ⟨_, rfl, comb (f := .combLocked) hs rfl (combLocked_takes h ho hp rfl)⟩, fun hs h => comb (f := .combLocked) hs rfl (combLocked_stays h),
      fun hs h => comb (f := .relockTimeout) hs rfl (relockTimeout_none h), fun hs t h => ⟨fun ht => comb (f := .relockTimeout) hs rfl (relockTimeout_within h ht),
        fun ht u hu => ⟨fun hc hl hf => comb (f := .relockTimeout) hs rfl (relockTimeout_spare h ht hu hc hl hf), fun hn => comb (f := .relockTimeout) hs rfl (relockTimeout_rests h ht hu hn)⟩⟩,
      fun u w hv hu => ?_, fun powers hs => ⟨fun h => exec_engine he (f := fun s e => s.fadeEval e powers) hs rfl (fade_rests h),
        fun h hb hc => exec_engine he (f := fun s e => s.fadeEval e powers) hs rfl (fade_due h hb hc)⟩, fun powers ok u hv hu => ?_, fun due powers ok u h hu => ?_,
      fun tap int u hv hu hi => ?_, fun power tap n hs => ⟨fun h => exec_engine he (f := fun s e => s.monDone e power) hs rfl (monDone_waiting h),
        fun t h => ⟨fun ht => exec_engine he (f := fun s e => s.monDone e power) hs rfl (monDone_within h ht),
          fun ht => ⟨_, rfl, exec_engine he (f := fun s e => s.monDone e power) hs rfl (monDone_ended h ht rfl)⟩⟩⟩⟩
    · subst hu
      have run {t : State} (h : (s.event (0x30 + e) 4).combOff e c w = t) : exec (.combOffWrite e c w) s = .next t :=
        exec_engineWrite he (f := fun s e => s.combOff e (c % 5) w) (off := 0x200 + 8 * (c % 5)) (by rwa [hmod]) rfl (by rw [hmod, h])
      exact ⟨fun h hl => run (combOff_lit h hl), fun h hl => run (combOff_off h hl), fun h => run (combOff_on h)⟩
    · subst hu
      exact ⟨fun h => exec_engineWrite he (f := fun s e => s.baseline e powers ok) hv rfl (baseline_busy h),
        fun h => exec_engineWrite he (f := fun s e => s.baseline e powers ok) hv rfl (baseline_begins h)⟩
    · subst hu
      rw [tickBaselines_one h]
      refine ⟨fun hok => ?_, fun hok => ?_⟩
      · subst hok
        rfl
      · subst hok
        rfl
    · subst hu
      have hint : int % 4 = int := Nat.mod_eq_of_lt hi
      have run {t : State} (htap : tap < 512) (h : (s.event (0x30 + e) 4).monCmd e tap int = t) : exec (.monCmd e tap int) s = .next t :=
        exec_engineWrite he (f := fun s e => s.monCmd e (tap % 512) (int % 4)) hv rfl (by rw [hint, Nat.mod_eq_of_lt htap, h])
      exact ⟨fun h => run (by omega) (monCmd_tap h), fun h ht => run ht (monCmd_beyond h)⟩

end Sys2Proof.Machine

/-! PROOFS. Announced changes of light, their effects and their hold windows on both ends (R91, R315 to R320, R333, R341). -/

namespace Sys2Proof.Machine

set_option Elab.async false

/-! Commands on a fibre, by its number. -/

section
variable {s t : State} {c : Instr} {f : Nat} (hf : f < 64)
include hf

theorem exec_fibre {g : State → Nat → State} (hs : s.alive = true) (h : exec c s = act s (g s (f % 64))) (hg : g s f = t) : exec c s = .next t := by
  rw [exec_act h hs, Nat.mod_eq_of_lt hf, hg]

end

section
variable {s u : State} {e f : Nat} {c : OptChg}

/-! Announcing and withdrawing (R315, R316). -/

theorem announce_accepted (h : s.chgRefusal (s.chgAsked e) = 0) : s.announce e = s.chgAccept (s.chgAsked e) := if_pos h

theorem announce_refused {r : Nat} (h : s.chgRefusal (s.chgAsked e) = r) (hr : r ≠ 0) : s.announce e = (s.chgRefuse e 3 r).wr OPX_CHG_STAT_by_fw 0 e := by
  subst h
  exact if_neg hr

section
variable {o : Option OptChg}
  (ho : s.opt.chgs.find? (fun x => x.eng = e && x.kind = (s.chgAsked e).kind && !x.begun &&
      (if (s.chgAsked e).kind = 0 then x.pair = (s.chgAsked e).pair && x.to_ = (s.chgAsked e).to_ else x.fibre = (s.chgAsked e).fibre && x.line = (s.chgAsked e).line)) = o)
include ho

theorem withdrawChg_none (h : o = none) : s.withdrawChg e = s := by
  subst h
  unfold State.withdrawChg
  dsimp only
  rw [ho]

theorem withdrawChg_found (h : o = some c) : s.withdrawChg e =
    c.fibres.foldl (fun v g => if c.sent.getD 0 g = 0 then v else (v.sendLmf g (c.notice g true)).cnt OPX_NOTICE_TX_count e) ((s.chgGone c).chgStat e 0 0) := by
  subst h
  unfold State.withdrawChg
  dsimp only
  rw [ho]

end

/-! The effects (R317). -/

theorem combChange_none {k : Nat} (h : s.opt.chgs.find? (fun x => x.kind = 0 && x.eng = e && x.to_ = k && !x.begun && s.onTime x) = none) :
    s.combChange e k = (s.chgRefuse e 4 5, false) := by
  unfold State.combChange
  rw [h]

section
variable {k : Nat} (h : s.opt.chgs.find? (fun x => x.kind = 0 && x.eng = e && x.to_ = k && !x.begun && s.onTime x) = some c)
include h

theorem combChange_begins (hfit : c.to_ ≠ 4 ∨ s.flag OPX_COMB_fit e 4 = true) : s.combChange e k = (s.putChg { c with begun := true }, true) := by
  unfold State.combChange
  rw [h]
  refine if_neg ?_
  obtain hfit | hfit := hfit
  · simp [hfit]
  · simp [hfit]

theorem combChange_unfit (hto : c.to_ = 4) (hfit : s.flag OPX_COMB_fit e 4 = false) : s.combChange e k = (s.chgRefuse e 4 4, false) := by
  unfold State.combChange
  rw [h]
  exact if_pos (by simp [hto, hfit])

end

theorem lineMigrate_none {line : Nat} (h : s.opt.chgs.find? (fun x => x.kind = 1 && x.fibre = f && x.line = line && !x.begun && s.onTime x) = none) :
    s.lineMigrate f line = (s.chgRefuse (f / 8) 4 5, false) := by
  unfold State.lineMigrate
  rw [h]

section
variable {line : Nat} (h : s.opt.chgs.find? (fun x => x.kind = 1 && x.fibre = f && x.line = line && !x.begun && s.onTime x) = some c)
include h

theorem lineMigrate_begins (hn : s.bypassed f = true ∨ c.sent.getD 0 f ≠ 0) : s.lineMigrate f line = (s.putChg { c with begun := true }, true) := by
  unfold State.lineMigrate
  rw [h]
  refine if_neg ?_
  obtain hn | hn := hn
  · simp [hn]
  · simp [hn]

theorem lineMigrate_unsent (hb : s.bypassed f = false) (hn : c.sent.getD 0 f = 0) : s.lineMigrate f line = (s.chgRefuse (f / 8) 4 5, false) := by
  unfold State.lineMigrate
  rw [h]
  exact if_pos (by simp [hb, hn])

end

theorem holdEnd_one (h : (s.opt.chgs.filter fun c => c.eng = e && decide (c.c + holdLen ≤ s.fclk)) = [c]) (hu : u = (s.chgDone c).chgGone c) :
    s.holdEnd e = (c.fibres.filter s.txHeld).foldl (fun v g => v.shiftTimers g (v.cyc - (v.fclk - c.c) / 2 ^ 47)) u := by
  subst hu
  unfold State.holdEnd
  rw [h, List.foldl_cons, List.foldl_nil]

/-! A notice received (R319). -/

section
variable {id c : Nat} {lanes : List Nat} {line : Option Nat} {off : Bool}

theorem windowRx_bypassed (h : s.bypassed f = true) : s.windowRx f id c lanes line off = s := if_pos h

theorem windowRx_late (h : s.bypassed f = false) (hc : c < s.fclk + s.mldClk f + 8 * NS) : s.windowRx f id c lanes line off = s.cnt LNK_LMF_LATE_count (f / 8) :=
  (if_neg (by simp [h])).trans (if_pos hc)

theorem windowRx_set {p : Prop} [Decidable p] (hp : off = decide p) (h : s.bypassed f = false) (hc : s.fclk + s.mldClk f + 8 * NS ≤ c) :
    s.windowRx f id c lanes line off = (s.setFib f { s.fib f with
      rxHold := if p then (s.fib f).rxHold.filter fun h => !(h.id = id && !h.isOpen && s.fclk + s.mldClk f < h.from_ + 8 * NS)
        else ((s.fib f).rxHold.filter fun h => !(h.id = id && !h.isOpen && s.fclk + s.mldClk f < h.from_ + 8 * NS)) ++
          [{ id := id, from_ := c + s.mldClk f - 8 * NS, until_ := c + s.mldClk f + 264 * NS, lanes := lanes, line := line }] }).cnt OPX_NOTICE_RX_count (f / 8) := by
  subst hp
  refine (if_neg (by simp [h])).trans ((if_neg (by omega)).trans ?_)
  simp only [decide_eq_true_eq]

end

/-! A lane's move onto D16 and back (R319). -/

theorem rxSwitch_none (h : (s.fib f).rxHold.find? (fun h => h.line.isSome && !h.moved && h.from_ + 136 * NS ≤ s.fclk) = none) : s.rxSwitch f = s := by
  unfold State.rxSwitch
  dsimp only
  rw [h]

theorem rxSwitch_moves {h : HoldWin} {m a b : Nat} {o : Option Nat} {v : State}
    (hh : (s.fib f).rxHold.find? (fun h => h.line.isSome && !h.moved && h.from_ + 136 * NS ≤ s.fclk) = some h) (hm : h.line = some m)
    (hab : ((s.fib f).rxSpare = some m ∧ a = 16 ∧ b = m ∧ o = none) ∨ ((s.fib f).rxSpare ≠ some m ∧ a = m ∧ b = 16 ∧ o = some m))
    (hu : u = s.setFib f { s.fib f with rxHold := (s.fib f).rxHold.map fun (y : HoldWin) => if y.id = h.id then { y with moved := true } else y, rxSpare := o })
    (hv : v = u.setRing (f / 8) (dropRing f a) { u.ring (f / 8) (dropRing f a) with lock := 3 }) :
    s.rxSwitch f = v.setRing (f / 8) (dropRing f b) { v.ring (f / 8) (dropRing f b) with lock := 0 } := by
  subst hu hv
  unfold State.rxSwitch
  dsimp only
  rw [hh]
  dsimp only
  rw [hm, Option.getD_some]
  obtain ⟨hs, rfl, rfl, rfl⟩ | ⟨hs, rfl, rfl, rfl⟩ := hab
  · simp only [if_pos hs]
  · simp only [if_neg hs]

end

/-- Settles O41: announcements, effects, the end of a window, notices received and the windows they set. -/
theorem changesOfLight : Obligations.ChangesOfLight := by
  unfold Obligations.ChangesOfLight
  intro s e f he hf
  have hmod : f % 64 = f := Nat.mod_eq_of_lt hf
  refine ⟨fun u hv hu => ?_, fun k c h => ⟨combChange_begins h, combChange_unfit h⟩, fun k h => combChange_none h, fun line h => lineMigrate_none h,
    fun line c h => ⟨lineMigrate_begins h, lineMigrate_unsent h⟩, fun k hs hk => ?_, fun c h u hu => holdEnd_one h hu, fun id a b sec ns c hs hid hc => ?_,
    fun id line sec ns c hs hid hc => ?_, fun hs => ⟨exec_fibre hf (g := .rxOpen) hs rfl rfl, fun u hu => exec_fibre hf (g := .rxClose) hs rfl (by subst hu; rfl),
      fun h => exec_fibre hf (g := .rxSwitch) hs rfl (rxSwitch_none h), fun h m hh hm a b o hab =>
        ⟨_, _, rfl, rfl, exec_fibre hf (g := .rxSwitch) hs rfl (rxSwitch_moves hh hm hab rfl rfl)⟩⟩⟩
  · subst hu
    exact ⟨fun h => exec_engineWrite he (f := .announce) hv rfl (announce_accepted h), fun r h hr => exec_engineWrite he (f := .announce) hv rfl (announce_refused h hr),
      fun o ho => ⟨fun h => exec_engineWrite he (f := .withdrawChg) hv rfl (withdrawChg_none ho h),
        fun c h => exec_engineWrite he (f := .withdrawChg) hv rfl (withdrawChg_found ho h)⟩⟩
  · have hk32 : k % 32 = k := Nat.mod_eq_of_lt hk
    refine ⟨?_, ?_⟩
    · rw [exec_act (c := .combChange k) rfl hs, hk32]
    · rw [exec_act (c := .lineMigrate k) rfl hs, hk32]
  · have run {t : State} (h : s.windowRx f id c (lanesOf f) none (decide (a = b)) = t) : exec (.changeoverNotice f id a b sec ns) s = .next t := by
      subst hc
      exact exec_fibre hf (g := fun s f => s.windowRx f (id % 65536) (clkOf sec (ns / 2) (ns % 2)) (lanesOf f) none (decide (a = b))) hs rfl (by rw [Nat.mod_eq_of_lt hid, h])
    exact ⟨fun h => run (windowRx_bypassed h), fun h hl => run (windowRx_late h hl), fun h hl => run (windowRx_set rfl h hl)⟩
  · have run {t : State} (h : s.windowRx f id c [f * 16 + line % 16] (some (line % 16)) (decide (16 ≤ line)) = t) : exec (.lineNotice f id line sec ns) s = .next t := by
      subst hc
      exact exec_fibre hf (g := fun s f => s.windowRx f (id % 65536) (clkOf sec (ns / 2) (ns % 2)) [f * 16 + line % 16] (some (line % 16)) (decide (16 ≤ line))) hs rfl
        (by rw [Nat.mod_eq_of_lt hid, h])
    exact ⟨fun h => run (windowRx_bypassed h), fun h hl => run (windowRx_late h hl), fun h hl => run (windowRx_set rfl h hl)⟩

end Sys2Proof.Machine

/-! PROOFS. Lanes come into service, leave it and retrain; rejoin notices (R324, R335 to R350, R362). -/

namespace Sys2Proof.Machine

set_option Elab.async false

section
variable {s t u v : State} {l f : Nat}

/-! Coming into service (R324, R335). -/

theorem laneReady_not {ber : Nat} (h : s.lane l ≠ laneTRAIN ∨ (s.laneX l).rings = false ∨ 24000 < ber) : s.laneReady l ber = s := by
  refine if_pos ?_
  obtain h | h | h := h
  · simp [h]
  · simp [h]
  · simp [h]

theorem laneReady_ready {ber : Nat} {a : State} (hf : f = l / 16) (ht : s.lane l = laneTRAIN) (hr : (s.laneX l).rings = true) (hb : ber ≤ 24000)
    (ha : a = (s.setBer l ber).setLane l laneREADY) (hu : u = a.setLaneX l { a.laneX l with frames := 0, readyAt := a.cyc, markAt := a.cyc })
    (hv : v = if !(s.setBer l ber).otherLit l && u.flag TRV_CTRL_enable && u.trv f ≠ 7 then (u.setFib f { u.fib f with probeAt := none, identAt := none, gone := false }).setTrv f 1 else u) :
    s.laneReady l ber = if v.trv f = 2 then v.rejoin l else v := by
  subst hf ha hu hv
  exact if_neg (by simp [ht, hr, hb])

theorem enterService_not (h : s.lane l ≠ laneREADY ∨ s.trv (l / 16) ≠ 2 ∨ s.rejoined l = false) : s.enterService l = s := by
  refine if_pos ?_
  obtain h | h | h := h
  · simp [h]
  · simp [h]
  · simp [h]

section
variable {p : Nat} (hl : s.lane l = laneREADY) (ht : s.trv (l / 16) = 2) (hr : s.rejoined l = true) (hp : s.lanePort l = some p)
include hl ht hr hp

theorem enterService_bad (hb : s.isBad TB_LANEMAP 0 l 0 16 = true) : s.enterService l = s := by
  refine (if_neg (by simp [hl, ht, hr])).trans ?_
  rw [hp]
  exact if_pos hb

theorem enterService_enters (hb : s.isBad TB_LANEMAP 0 l 0 16 = false) :
    s.enterService l = if (s.setLane l laneSERVICE).flag LP_CFG_link_up 0 p then s.setLane l laneSERVICE else (s.setLane l laneSERVICE).portUp p := by
  refine (if_neg (by simp [hl, ht, hr])).trans ?_
  rw [hp]
  exact if_neg (by rw [hb]; decide)

end

/-! Leaving service (R337, R350, R362). -/

section
variable {lx : List (Nat × Nat)} {cause : Nat} (hlx : ∀ x ∈ lx, x.1 < 1024)

include hlx in
theorem map_lane_mod : lx.map (fun x => (x.1 % 1024, x.2)) = lx :=
  (List.map_congr_left fun x hx => by rw [Nat.mod_eq_of_lt (hlx x hx)]; rfl).trans (List.map_id _)

include hlx in
theorem laneCause_found {ls : List Nat} (h1 : 1 ≤ cause) (h4 : cause ≤ 4) (hu : u = if cause = 4 then lx.foldl (fun v x => v.setBer x.1 x.2) s else s)
    (hls : ls = (lx.filter fun x => !u.laneRxHeld x.1 && u.causeHolds x.1 cause x.2).map (·.1)) :
    s.laneCause lx cause = (u.leave (ls.filter fun m => cause = 1 && u.losFree (m / 16)) cause false true).leave (ls.filter fun m => !(cause = 1 && u.losFree (m / 16))) cause := by
  subst hls hu
  unfold State.laneCause
  rw [map_lane_mod hlx]
  exact (if_neg (by omega)).trans (if_pos ⟨h1, h4⟩)

include hlx in
theorem laneCause_parity (h : cause = 8) : s.laneCause lx cause = (((lx.map (·.1)).map (· / 16)).eraseDups.foldl (fun v g => v.lnkIrq g 3)
    (s.spoil ((lx.map (·.1)).map fun m => tkey TB_LANEMAP 0 m 0 * 32 + 16))).leave (lx.map (·.1)) 8 := by
  unfold State.laneCause
  rw [map_lane_mod hlx]
  exact if_pos h

theorem laneCause_other (h : cause = 0 ∨ (4 < cause ∧ cause ≠ 8)) : s.laneCause lx cause = s := (if_neg (by omega)).trans (if_neg (by omega))

end

/-! DISABLE and RETRAIN (R324). -/

theorem laneDisable_lit (hv : v = s.setLaneX l { s.laneX l with waking := false }) (h : v.laneCarries l = true) : s.laneDisable l = v.leave [l] 7 true := by
  subst hv
  exact if_pos h

theorem laneDisable_dark (hv : v = s.setLaneX l { s.laneX l with waking := false }) (h : v.laneCarries l = false) : s.laneDisable l = (v.setLane l laneOFF).setCause l 7 := by
  subst hv
  exact if_neg (by simp [h])

section
variable (h : s.lane l = laneFAILED ∨ (s.lane l = laneOFF ∧ s.cause l = 7))
include h

theorem laneRetrain_bypassed (hb : s.bypassed (l / 16) = true) : s.laneRetrain l = s := (if_pos (by simpa using h)).trans (if_pos hb)

variable (hb : s.bypassed (l / 16) = false)
include hb

theorem laneRetrain_idle (hi : s.idleAsked (l / 16) = true ∨ s.rd PAGE_PWR_req (0x30 + l / 128) = 2) : s.laneRetrain l = (s.setLane l laneOFF).setCause l 12 :=
  (if_pos (by simpa using h)).trans ((if_neg (by simp [hb])).trans (if_pos (by simpa using hi)))

theorem laneRetrain_trains (hi : s.idleAsked (l / 16) = false) (hp : s.rd PAGE_PWR_req (0x30 + l / 128) ≠ 2) :
    s.laneRetrain l = if (s.laneX l).rings then s.toTrain l else s.setLaneX l { s.laneX l with waking := true } :=
  (if_pos (by simpa using h)).trans ((if_neg (by simp [hb])).trans (if_neg (by simp [hi, hp])))

end

theorem laneRetrain_train (h : s.lane l = laneTRAIN) : s.laneRetrain l = s.leaveOne l 7 false true := by
  unfold State.laneRetrain
  rw [h]
  exact (if_neg (by simp [laneTRAIN, laneFAILED, laneOFF])).trans (if_pos rfl)

theorem laneRetrain_lit (h : s.lane l = laneREADY ∨ s.lane l = laneSERVICE) : s.laneRetrain l = s.leave [l] 7 := by
  unfold State.laneRetrain
  obtain h | h := h
  · rw [h]
    exact (if_neg (by simp [laneREADY, laneFAILED, laneOFF])).trans ((if_neg (by decide)).trans (if_pos (by simp [State.laneCarries, h])))
  · rw [h]
    exact (if_neg (by simp [laneSERVICE, laneFAILED, laneOFF])).trans ((if_neg (by decide)).trans (if_pos (by simp [State.laneCarries, h])))

/-! Notices (R346). -/

section
variable {x : Nat}

theorem laneNoticeRx_bypassed (h : s.bypassed (l / 16) = true) : s.laneNoticeRx l x = s := if_pos h

variable (h : s.bypassed (l / 16) = false)
include h

theorem laneNoticeRx_held (ht : s.trv (l / 16) ≠ 2) : s.laneNoticeRx l x = s.setLaneX l { s.laneX l with held := some x } :=
  (if_neg (by simp [h])).trans (if_pos ht)

theorem laneNoticeRx_acts (ht : s.trv (l / 16) = 2) (hn : s.noticeOk (l / 16) = true) : s.laneNoticeRx l x = s.noticeRx l x :=
  (if_neg (by simp [h])).trans ((if_neg (not_not_intro ht)).trans (if_pos hn))

theorem laneNoticeRx_ignored (ht : s.trv (l / 16) = 2) (hn : s.noticeOk (l / 16) = false) : s.laneNoticeRx l x = s :=
  (if_neg (by simp [h])).trans ((if_neg (not_not_intro ht)).trans (if_neg (by simp [hn])))

end
end

/-- Settles O42: a lane's way into service, out of it and back, and its neighbour's notices. -/
theorem lanesEnterAndLeaveService : Obligations.LanesEnterAndLeaveService := by
  unfold Obligations.LanesEnterAndLeaveService
  intro s l f hl hf
  have hmod : l % 1024 = l := Nat.mod_eq_of_lt hl
  have hdiv : l / 128 % 8 = l / 128 := Nat.mod_eq_of_lt (by omega)
  have hlane : l / 128 * 128 + l % 128 = l := Nat.div_add_mod' l 128
  refine ⟨fun hs ber => ?_, fun hs => ?_, fun hs lx cause hlx => ?_, fun u v hsv hu hv => ?_, fun hs x hx => ?_⟩
  · have run {t : State} (h : s.laneReady l ber = t) : exec (.laneReady { lane := l, ber := ber }) s = .next t := by
      rw [exec_act (c := .laneReady { lane := l, ber := ber }) rfl hs]
      dsimp only
      rw [hmod, h]
    exact ⟨fun ht hr hb a u v ha hu hv => run (laneReady_ready hf ht hr hb ha hu hv), fun h => run (laneReady_not h)⟩
  · subst hf
    have run {t : State} (h : s.enterService l = t) : exec (.laneServiceEntry l) s = .next t := by
      rw [exec_act (c := .laneServiceEntry l) rfl hs, hmod, h]
    exact ⟨fun h => run (enterService_not h), fun h ht hr p hp => ⟨fun hb => run (enterService_bad h ht hr hp hb), fun hb => run (enterService_enters h ht hr hp hb)⟩⟩
  · have run {t : State} (h : s.laneCause lx cause = t) : exec (.laneLeaveService lx cause) s = .next t := by
      rw [exec_act (c := .laneLeaveService lx cause) rfl hs, h]
    exact ⟨fun u ls h1 h4 hu hls => run (laneCause_found hlx h1 h4 hu hls), fun h => run (laneCause_parity hlx h), fun h => run (laneCause_other h)⟩
  · subst hu hf
    have run {c : Instr} {g : State → Nat → State} {t : State} (h : exec c s = hostWrite s (0x38 + l / 128 % 8) 0x120 fun s => g s (l / 128 % 8 * 128 + l % 128 % 128))
        (hg : g (s.event (0x38 + l / 128) 4) l = t) : exec c s = .next t := by
      rw [hdiv, Nat.mod_mod, hlane] at h
      rw [exec_hostWrite h hsv, hg]
    have disable {t : State} (h : (s.event (0x38 + l / 128) 4).laneDisable l = t) : exec (.disable (l / 128) (l % 128)) s = .next t := run (g := .laneDisable) rfl h
    have retrain {t : State} (h : (s.event (0x38 + l / 128) 4).laneRetrain l = t) : exec (.retrain (l / 128) (l % 128)) s = .next t := run (g := .laneRetrain) rfl h
    exact ⟨fun h => disable (laneDisable_lit hv h), fun h => disable (laneDisable_dark hv h),
      fun h => ⟨fun hb => retrain (laneRetrain_bypassed h hb), fun hb hi => retrain (laneRetrain_idle h hb hi), fun hb hi hp => retrain (laneRetrain_trains h hb hi hp)⟩,
      fun h => retrain (laneRetrain_train h), fun h => retrain (laneRetrain_lit h)⟩
  · subst hf
    have hx2 : x % 2 = x := Nat.mod_eq_of_lt hx
    have run {t : State} (h : s.laneNoticeRx l x = t) : exec (.laneNotice (l / 16) (l % 16) x) s = .next t := by
      rw [exec_act (c := .laneNotice (l / 16) (l % 16) x) rfl hs, if_neg (by omega), hx2, show l / 16 % 64 * 16 + l % 16 = l by omega, h]
    exact ⟨fun h => run (laneNoticeRx_bypassed h), fun h => ⟨fun ht => run (laneNoticeRx_held h ht),
      fun ht hn h0 => run ((laneNoticeRx_acts h ht hn).trans (if_pos h0)), fun ht hn h1 => run ((laneNoticeRx_acts h ht hn).trans (if_neg (by omega))),
      fun ht hn => run (laneNoticeRx_ignored h ht hn)⟩⟩

end Sys2Proof.Machine

/-! PROOFS. Link retry and credit (R331 to R333, R336). -/

namespace Sys2Proof.Machine

set_option Elab.async false

section
variable {s u : State} {f lp q : Nat}

/-- A message that names a port without a lane on the fibre is counted as bad (R331). -/
theorem portLmf_bad {g : State → State} (h : (s.fibrePorts f).contains lp = false) : s.portLmf f lp g = s.cnt LNK_LMF_BAD_count (f / 8) := if_neg (by rw [h]; decide)

theorem portLmf_own {g : State → State} (h : (s.fibrePorts f).contains lp = true) : s.portLmf f lp g = g s := if_pos h

/-! Acknowledgements and requests received (R333). -/

section
variable {keep : List HeldPkt} (hk : keep = (s.tx lp).held.filter fun h => !seqLe h.seq q || (h.seq = (s.tx lp).cur && (s.tx lp).off ≠ 0))
include hk

theorem ackTx_releases (h : keep.length ≠ (s.tx lp).held.length) : s.ackTx lp q = s.setTx lp { s.tx lp with
    held := keep, blocks := (s.tx lp).blocks.filter fun b => !seqLe b.last q, ackAt := s.cyc, replays := 0, cur := if (s.tx lp).off = 0 && seqLe (s.tx lp).cur q then (q + 1) % 2 ^ 32 else (s.tx lp).cur } := by
  subst hk
  exact if_neg h

theorem ackTx_nothing (h : keep.length = (s.tx lp).held.length) : s.ackTx lp q = s := by
  subst hk
  exact if_pos h

end

theorem reqTx_unheld (h : ∀ x ∈ (s.tx lp).held, x.seq ≠ q) : s.reqTx lp q = s.cnt LNK_REQ_IGNORED_count (s.portFibre lp / 8) := if_pos (by simpa using h)

section
variable (h : ∃ x ∈ (s.tx lp).held, x.seq = q)
include h

theorem reqTx_replay (hr : s.replaysSpent lp = false) : s.reqTx lp q = s.replay lp q := (if_neg (by simpa using h)).trans (if_neg (by simp [hr]))

theorem reqTx_fault (hr : s.replaysSpent lp = true) : s.reqTx lp q = s.portFault lp := (if_neg (by simpa using h)).trans (if_pos hr)

end

/-! The timers (R331 to R333). -/

theorem retryTimeout_rests (h : (s.tx lp).held = [] ∨ s.isUp lp = false ∨ s.txHeld (s.portFibre lp) = true ∨
    s.cyc < (s.tx lp).ackAt + usCyc (max 1 (s.rd LNK_CFG_retry_to_us (s.portFibre lp / 8)))) : s.retryTimeout lp = s := by
  unfold State.retryTimeout
  dsimp only
  cases hheld : (s.tx lp).held with
  | nil => rfl
  | cons x r =>
    refine if_pos ?_
    obtain h | h | h | h := h
    · simp [h] at hheld
    · simp [h]
    · simp [h]
    · simp [h]

section
variable {x : HeldPkt} {r : List HeldPkt} (hh : (s.tx lp).held = x :: r) (hup : s.isUp lp = true) (ht : s.txHeld (s.portFibre lp) = false)
  (hto : (s.tx lp).ackAt + usCyc (max 1 (s.rd LNK_CFG_retry_to_us (s.portFibre lp / 8))) ≤ s.cyc)
include hh hup ht hto

theorem retryTimeout_fault (hr : s.replaysSpent lp = true) : s.retryTimeout lp = s.portFault lp := by
  unfold State.retryTimeout
  dsimp only
  rw [hh]
  exact (if_neg (by simp [hup, ht, hto])).trans (if_pos hr)

theorem retryTimeout_replay (hr : s.replaysSpent lp = false) : s.retryTimeout lp = s.replay lp x.seq := by
  unfold State.retryTimeout
  dsimp only
  rw [hh]
  exact (if_neg (by simp [hup, ht, hto])).trans (if_neg (by simp [hr]))

end

theorem reqTimeout_asks {c : Nat} (hr : (s.rx lp).req = some c) (ht : s.txHeld (s.portFibre lp) = false)
    (hc : c + usCyc (max 1 (s.rd LNK_CFG_req_us (s.portFibre lp / 8))) ≤ s.cyc) : s.reqTimeout lp = s.askReplay lp := by
  unfold State.reqTimeout
  rw [hr]
  exact if_neg (by simp [ht, hc])

theorem reqTimeout_rests (h : (s.rx lp).req = none ∨ s.txHeld (s.portFibre lp) = true ∨
    (∃ c, (s.rx lp).req = some c ∧ s.cyc < c + usCyc (max 1 (s.rd LNK_CFG_req_us (s.portFibre lp / 8))))) : s.reqTimeout lp = s := by
  unfold State.reqTimeout
  cases hr : (s.rx lp).req with
  | none => rfl
  | some c =>
    refine if_pos ?_
    obtain h | h | ⟨c', hc', h⟩ := h
    · simp [h] at hr
    · simp [h]
    · obtain rfl : c = c' := Option.some.inj (hr.symm.trans hc')
      simp [h]

/-! Credits granted and reported (R336). -/

theorem creditTimer_down {grants : List Nat} (h : s.isUp lp = false) : s.creditTimer lp grants = s := if_pos (by simp [h])

section
variable {grants : List Nat} (hup : s.isUp lp = true) (hu : u = grants.foldl (fun t v => t.grantVc lp v) s)
include hup hu

theorem creditTimer_reports (h : ((u.rx lp).count ≠ (u.rx lp).sent ∧ (u.rx lp).sentAt + nsCyc (u.rd LNK_CFG_credit_ns (u.portFibre lp / 8)) ≤ u.cyc) ∨
    (u.rx lp).sentAt + usCyc 10 ≤ u.cyc) : s.creditTimer lp grants = u.sendCredit lp := by
  subst hu
  exact (if_neg (by simp [hup])).trans (if_pos (by simpa using h))

theorem creditTimer_rests (h : (u.rx lp).count = (u.rx lp).sent ∨ u.cyc < (u.rx lp).sentAt + nsCyc (u.rd LNK_CFG_credit_ns (u.portFibre lp / 8)))
    (h10 : u.cyc < (u.rx lp).sentAt + usCyc 10) : s.creditTimer lp grants = u := by
  subst hu
  refine (if_neg (by simp [hup])).trans (if_neg ?_)
  obtain h | h := h
  · simp [h, h10]
  · simp [h, h10]

end
end

/-- Settles O43: the messages received by the port they name, the timers by what is due. -/
theorem retryAndCredit : Obligations.RetryAndCredit := by
  unfold Obligations.RetryAndCredit
  intro s f lp hs hf hlp
  have hmod : lp % 1024 = lp := Nat.mod_eq_of_lt hlp
  have lmf {c : Instr} {g : State → Nat → State} (h : exec c s = act s (s.portLmf (f % 64) (lp % 1024) fun s => g s (lp % 1024))) :
      exec c s = .next (s.portLmf f lp fun s => g s lp) := by
    rw [exec_act h hs, hmod, Nat.mod_eq_of_lt hf]
  have timer {c : Instr} {g : State → Nat → State} {t : State} (h : exec c s = act s (g s (lp % 1024))) (hg : g s lp = t) : exec c s = .next t := by
    rw [exec_act h hs, hmod, hg]
  have ack {q : Nat} (hq : q < 2 ^ 32) : exec (.retryAck f lp q) s = .next (s.portLmf f lp fun s => s.ackTx lp q) := by
    rw [lmf (c := .retryAck f lp q) (g := fun s lp => s.ackTx lp (q % 2 ^ 32)) rfl, Nat.mod_eq_of_lt hq]
  have req {q : Nat} (hq : q < 2 ^ 32) : exec (.retryReq f lp q) s = .next (s.portLmf f lp fun s => s.reqTx lp q) := by
    rw [lmf (c := .retryReq f lp q) (g := fun s lp => s.reqTx lp (q % 2 ^ 32)) rfl, Nat.mod_eq_of_lt hq]
  have ackTimer {t : State} (h : (if s.isUp lp && ((s.rx lp).advAt.isSome || decide ((s.rx lp).ackAt + usCyc 10 ≤ s.cyc)) then s.sendAck lp else s) = t) :
      exec (.retryAckTimer lp) s = .next t :=
    timer (g := fun s lp => if s.isUp lp && ((s.rx lp).advAt.isSome || decide ((s.rx lp).ackAt + usCyc 10 ≤ s.cyc)) then s.sendAck lp else s) rfl h
  refine ⟨fun q hq h => ⟨(ack hq).trans (congrArg _ (portLmf_bad h)), (req hq).trans (congrArg _ (portLmf_bad h))⟩, fun q hq h => ?_,
    fun hup h => ackTimer (if_pos (by simpa [hup] using h)), fun h => ackTimer (if_neg ?_), fun h => timer (g := .retryTimeout) rfl (retryTimeout_rests h),
    fun x r hh hup ht hto => ⟨fun hr => timer (g := .retryTimeout) rfl (retryTimeout_fault hh hup ht hto hr), fun hr => timer (g := .retryTimeout) rfl (retryTimeout_replay hh hup ht hto hr)⟩,
    fun c hr ht hc => timer (g := .reqTimeout) rfl (reqTimeout_asks hr ht hc), fun h => timer (g := .reqTimeout) rfl (reqTimeout_rests h),
    fun counts h => (lmf (c := .credit f lp counts) (g := fun s lp => s.creditRx lp counts) rfl).trans (congrArg _ (portLmf_own h)),
    fun grants u hup hu => ⟨fun h => timer (g := fun s lp => s.creditTimer lp grants) rfl (creditTimer_reports hup hu h),
      fun h h10 => timer (g := fun s lp => s.creditTimer lp grants) rfl (creditTimer_rests hup hu h h10)⟩,
    fun grants h => timer (g := fun s lp => s.creditTimer lp grants) rfl (creditTimer_down h)⟩
  · have acked {t : State} (ht : s.ackTx lp q = t) : exec (.retryAck f lp q) s = .next t := (ack hq).trans (congrArg _ ((portLmf_own h).trans ht))
    have asked {t : State} (ht : s.reqTx lp q = t) : exec (.retryReq f lp q) s = .next t := (req hq).trans (congrArg _ ((portLmf_own h).trans ht))
    exact ⟨fun keep hk => ⟨fun hne => acked (ackTx_releases hk hne), fun heq => acked (ackTx_nothing hk heq)⟩, fun hno => asked (reqTx_unheld hno),
      fun hex hr => asked (reqTx_replay hex hr), fun hex hr => asked (reqTx_fault hex hr)⟩
  · obtain h | ⟨ha, hc⟩ := h
    · simp [h]
    · simp [ha, hc]

end Sys2Proof.Machine

/-! PROOFS. Traverse: identities, probes, absence and its commands (R344, R345, R347). -/

namespace Sys2Proof.Machine

set_option Elab.async false

section
variable {s u v : State} {f : Nat}

/-! Identities and probes received (R344, R345). -/

theorem identRx_off {i : Ident} (h : s.flag TRV_CTRL_enable = false ∨ s.bypassed f = true) : s.identRx f i = s := if_pos (by simpa using h)

theorem identRx_records {i : Ident} {a b : State} (he : s.flag TRV_CTRL_enable = true) (hb : s.bypassed f = false)
    (ha : a = ((((((s.cnt TRV_IDENT_RX_count).wr TRV_FIBRE_seen_serial i.serial 0 f).wr TRV_FIBRE_seen_endpoint i.endpoint 0 f).wr TRV_FIBRE_seen_fibre i.fibre 0 f).wr
        TRV_FIBRE_seen_major i.major 0 f).wr TRV_FIBRE_seen_minor i.minor 0 f))
    (hbd : b = (a.wr TRV_FIBRE_seen_datum_lo (i.datum % 2 ^ 64) 0 f).wr TRV_FIBRE_seen_datum_hi (i.datum / 2 ^ 64) 0 f) :
    s.identRx f i = (((b.setFib f { b.fib f with identAt := some b.cyc, timer := none, gone := false, ident := true }).checkDatum f).evalFibre f).evalWaiting f := by
  subst ha hbd
  unfold State.identRx
  rw [if_neg (by simp [he, hb])]

theorem probeRx_off {n : Nat} (h : s.flag TRV_CTRL_enable = false ∨ s.bypassed f = true) : s.probeRx f n = s := if_pos (by simpa using h)

theorem probeRx_answers {n : Nat} (he : s.flag TRV_CTRL_enable = true) (hb : s.bypassed f = false) :
    s.probeRx f n = (s.sendLmf f { typ := 2, body := [s.rd TRV_SERIAL_serial, f, s.rd LNK_VERSION_major (f / 8), s.rd LNK_VERSION_minor (f / 8), s.self, s.dtm.module] }).sendTrvState f (some n) :=
  if_neg (by simp [he, hb])

/-! Probes due (R344). -/

theorem probeTimer_due (he : s.flag TRV_CTRL_enable = true) (ht : s.trv f ≠ 7) (hl : s.lit f = true) (hd : ∀ c, (s.fib f).probeAt = some c → c + s.probeEvery f ≤ s.cyc) :
    s.probeTimer f = (s.setFib f { s.fib f with probeNo := ((s.fib f).probeNo + 1) % 2 ^ 32, probeAt := some s.cyc }).sendLmf f { typ := 1, body := [s.self, (s.fib f).probeNo] } := by
  refine if_neg ?_
  cases hp : (s.fib f).probeAt with
  | none => simp [he, ht, hl]
  | some c => simp [he, ht, hl, hd c hp]

theorem probeTimer_rests (h : s.flag TRV_CTRL_enable = false ∨ s.trv f = 7 ∨ s.lit f = false ∨ (∃ c, (s.fib f).probeAt = some c ∧ s.cyc < c + s.probeEvery f)) :
    s.probeTimer f = s := by
  refine if_pos ?_
  obtain h | h | h | ⟨c, hc, h⟩ := h
  · simp [h]
  · simp [h]
  · simp [h]
  · simp [hc, h]

/-! Absence (R344). -/

theorem absentTimeout_off (h : s.flag TRV_CTRL_enable = false ∨ s.trv f = 7) : s.absentTimeout f = s := if_pos (by simpa using h)

section
variable (he : s.flag TRV_CTRL_enable = true) (ht : s.trv f ≠ 7)
include he ht

theorem absentTimeout_timer {c : Nat} (h : (s.fib f).timer = some c) (hc : c + msCyc (max 1 (s.rd TRV_CTRL_absent_ms)) ≤ s.cyc) : s.absentTimeout f = s.goAbsent f :=
  (if_neg (by simp [he, ht])).trans (if_pos (by simp [h, hc]))

theorem absentTimeout_ident {c : Nat} (h : (s.fib f).identAt = some c) (hl : s.lit f = true) (hc : c + 3 * msCyc (max 1 (s.rd TRV_CTRL_keep_ms)) ≤ s.cyc) :
    s.absentTimeout f = s.goAbsent f :=
  (if_neg (by simp [he, ht])).trans (if_pos (by simp [h, hl, hc]))

theorem absentTimeout_given (hg : (s.fib f).gone = true) (h0 : s.trv f = 0) (hp : s.present f = true) : s.absentTimeout f = s.goAbsent f :=
  (if_neg (by simp [he, ht])).trans (if_pos (by simp [hg, h0, hp]))

theorem absentTimeout_rests (hm : (s.fib f).timer = none) (hi : (s.fib f).identAt = none) (hg : (s.fib f).gone = false) : s.absentTimeout f = s :=
  (if_neg (by simp [he, ht])).trans (if_neg (by simp [hm, hi, hg]))

end

/-! Commands (R347). -/

theorem acceptCross_uncrossed (h : s.trv f ≠ 5) : s.acceptCross f = s.trvDone 3 := if_pos h

theorem acceptCross_crossed {g : Nat} {a b : State} (h : s.trv f = 5) (hg : g = s.rd TRV_FIBRE_partner 0 f)
    (ha : a = ((List.range 4).map fun w => (s.platWord f w, s.platWord g w)).zipIdx.foldl (fun t x => (t.platPut f x.2 x.1.2).platPut g x.2 x.1.1) s)
    (hb : b = ((List.range 4).map fun w => (s.platStaged f w, s.platStaged g w)).zipIdx.foldl (fun t x => (t.platStage f x.2 x.1.2).platStage g x.2 x.1.1) a) :
    s.acceptCross f = ((b.evalFibre f).evalFibre g).trvDone 0 := by
  rw [hb, ha, hg]
  unfold State.acceptCross
  rw [if_neg (not_not_intro h)]

theorem reeval_held (h : s.trv f = 7) : s.reeval f = s.trvDone 3 := if_pos h

theorem reeval_off (h : s.trv f ≠ 7) (he : s.flag TRV_CTRL_enable = false) : s.reeval f = s.trvDone 0 := (if_neg h).trans (if_pos (by simp [he]))

theorem reeval_probes (h : s.trv f ≠ 7) (he : s.flag TRV_CTRL_enable = true) : s.reeval f = ((s.setFib f { s.fib f with probeAt := none }).setTrv f 1).trvDone 0 :=
  (if_neg h).trans (if_neg (by simp [he]))

section
variable {w : Wr} (hv : v = (((s.put TRV_CTRL_enable w).put TRV_CTRL_probe_us w).put TRV_CTRL_keep_ms w).put TRV_CTRL_absent_ms w)
include hv

theorem trvCtrl_stays (h : s.flag TRV_CTRL_enable = true ∨ v.flag TRV_CTRL_enable = false) : s.trvCtrl w = v := by
  subst hv
  exact if_pos (by simpa using h)

theorem trvCtrl_returns (h : s.flag TRV_CTRL_enable = false) (he : v.flag TRV_CTRL_enable = true) : s.trvCtrl w = (List.range 64).foldl (fun t g =>
    t.setFib g { t.fib g with probeAt := some t.cyc, timer := (t.fib g).timer.map fun _ => t.cyc, identAt := (t.fib g).identAt.map fun _ => t.cyc }) v := by
  subst hv
  exact if_neg (by simp [h, he])

end
end

/-- Settles O44: identities, probes, absence, the commands and the write of TRV_CTRL. -/
theorem traverseProtocol : Obligations.TraverseProtocol := by
  unfold Obligations.TraverseProtocol
  intro s f hf
  have hmod : f % 64 = f := Nat.mod_eq_of_lt hf
  have probe {ep n : Nat} {t : State} (hs : s.alive = true) (hep : ep < 2 ^ 24) (h : s.probeRx f (n % 2 ^ 32) = t) : exec (.trvProbe f ep n) s = .next t := by
    rw [exec_act (c := .trvProbe f ep n) rfl hs, if_pos hep, hmod, h]
  refine ⟨fun i hs he hb => ⟨_, _, rfl, rfl, exec_fibre hf (g := fun s f => s.identRx f i) hs rfl (identRx_records he hb rfl rfl)⟩,
    fun hs h => ⟨fun i => exec_fibre hf (g := fun s f => s.identRx f i) hs rfl (identRx_off h), fun ep n => ?_⟩,
    fun ep n hs he hb hep hn => probe hs hep (by rw [Nat.mod_eq_of_lt hn]; exact probeRx_answers he hb), fun st echo hs => exec_act (c := .trvState f st echo) rfl hs,
    fun hs => ⟨fun he ht hl hd => exec_fibre hf (g := .probeTimer) hs rfl (probeTimer_due he ht hl hd), fun h => exec_fibre hf (g := .probeTimer) hs rfl (probeTimer_rests h)⟩,
    fun hs h => exec_fibre hf (g := .absentTimeout) hs rfl (absentTimeout_off h), fun hs he ht => ?_, fun u hv hu => ?_, fun w u v hsv hu hv => ?_⟩
  · by_cases hep : ep < 2 ^ 24
    · exact probe hs hep (probeRx_off h)
    · rw [exec_act (c := .trvProbe f ep n) rfl hs, if_neg hep]
  · have absent {t : State} (h : s.absentTimeout f = t) : exec (.absentTimeout f) s = .next t := exec_fibre hf (g := .absentTimeout) hs rfl h
    exact ⟨fun c h hc => absent (absentTimeout_timer he ht h hc), fun c h hl hc => absent (absentTimeout_ident he ht h hl hc),
      fun hg h0 hp => absent (absentTimeout_given he ht hg h0 hp), fun hm hi hg => absent (absentTimeout_rests he ht hm hi hg)⟩
  · subst hu
    have cross {t : State} (h : (s.event 7 4).acceptCross f = t) : exec (.acceptCross f) s = .next t := by
      rw [exec_hostWrite (c := .acceptCross f) rfl hv, hmod, h]
    have again {t : State} (h : (s.event 7 4).reeval f = t) : exec (.reeval f) s = .next t := by
      rw [exec_hostWrite (c := .reeval f) rfl hv, hmod, h]
    exact ⟨fun h => cross (acceptCross_uncrossed h), fun g a b h hg ha hb => cross (acceptCross_crossed h hg ha hb), fun h => again (reeval_held h),
      fun h he => again (reeval_off h he), fun h he => again (reeval_probes h he)⟩
  · subst hu
    have run {t : State} (h : (s.event 7 4).trvCtrl w = t) : exec (.trvCtrlWrite w) s = .next t := (exec_hostWrite (c := .trvCtrlWrite w) rfl hsv).trans (congrArg _ h)
    exact ⟨fun h => run (trvCtrl_stays hv h), fun h he => run (trvCtrl_returns hv h he)⟩

end Sys2Proof.Machine

/-! PROOFS. Control codewords and the LMFs they carry (R88, R325 to R335, R348). -/

namespace Sys2Proof.Machine

set_option Elab.async false

section
variable {s u : State} {l f : Nat}

/-! The outcome of the FEC (R348). -/

theorem fecCount_none : s.fecCount l none = (if (s.cnt LNK_LANE_FEC_uncorrectable (l / 128) (l % 128)).laneRxHeld l then s.cnt LNK_LANE_FEC_uncorrectable (l / 128) (l % 128)
    else (s.cnt LNK_LANE_FEC_uncorrectable (l / 128) (l % 128)).setLaneX l { (s.cnt LNK_LANE_FEC_uncorrectable (l / 128) (l % 128)).laneX l with
      ucw := (((s.cnt LNK_LANE_FEC_uncorrectable (l / 128) (l % 128)).laneX l).ucw.filter fun c => decide ((s.cnt LNK_LANE_FEC_uncorrectable (l / 128) (l % 128)).cyc < c + msCyc 1)) ++ [(s.cnt LNK_LANE_FEC_uncorrectable (l / 128) (l % 128)).cyc] }) := rfl

/-! A codeword received (R326, R328). -/

section
variable {sym : List Nat} {m : Nat} {b : Bool}

theorem controlRx_uncorrectable (hu : u = s.fecCount l (decodeWord 0 sym)) (h : decodeWord 0 sym = none) : s.controlRx l sym = u := by
  subst hu
  unfold State.controlRx
  rw [h]

variable (h : decodeWord 0 sym = some (m, b)) (hu : u = s.fecCount l (decodeWord 0 sym))
include h hu

theorem controlRx_unmarked (hn : CtrlWord.ofBlock (msgBlock m) = none ∨ msgKind m ≠ 0) : s.controlRx l sym = u := by
  subst hu
  unfold State.controlRx
  rw [h]
  dsimp only
  cases hc : CtrlWord.ofBlock (msgBlock m) with
  | none => rfl
  | some w => exact if_neg (by simpa [hc] using hn)

theorem controlRx_word {w : CtrlWord} (hw : CtrlWord.ofBlock (msgBlock m) = some w) (hk : msgKind m = 0) : s.controlRx l sym = u.ctrlWord l w := by
  subst hu
  unfold State.controlRx
  rw [h]
  dsimp only
  rw [hw]
  exact if_pos hk

end

theorem ctrlWord_dark {w : CtrlWord} (h : u.laneCarries l = false) : u.ctrlWord l w = u := if_pos (by simp [h])

/-! A slot of a codeword (R88, R330). -/

section
variable {b : List Byte} {m : LmfSlot}

theorem slotRx_empty (h : b.all (· = 0) = true) : s.slotRx f b = s := if_pos h

variable (h : b.all (· = 0) = false)
include h

theorem slotRx_bad (hm : LmfSlot.ofFrame b = none) : s.slotRx f b = s.cnt LNK_LMF_BAD_count (f / 8) := by
  unfold State.slotRx
  rw [if_neg (by rw [h]; decide), hm]

variable (hm : LmfSlot.ofFrame b = some m)
include hm

theorem slotRx_lmf : s.slotRx f b = s.lmfRx f m := by
  unfold State.slotRx
  rw [if_neg (by rw [h]; decide), hm]

end

section
variable {m : LmfSlot} {e c : Nat} {r : List (LmfSlot × Nat)}

theorem lmfRx_inTurn (h : (s.fib f).rxExp = none ∨ (s.fib f).rxExp = some m.seq) :
    s.lmfRx f m = ((s.setFib f { s.fib f with rxExp := some ((m.seq + 1) % 2 ^ 32) }).lmfTake f m).lmfDrain f 256 := by
  unfold State.lmfRx
  obtain h | h := h
  · dsimp only
    rw [h]
  · dsimp only
    rw [h]
    exact if_pos rfl

theorem lmfRx_ahead (h : (s.fib f).rxExp = some e) (hne : e ≠ m.seq) (hle : seqLe e m.seq = true) :
    s.lmfRx f m = s.setFib f { s.fib f with rxHeld := heldInsert m s.cyc (s.fib f).rxHeld } := by
  unfold State.lmfRx
  dsimp only
  rw [h]
  exact (if_neg hne).trans (if_pos hle)

theorem lmfRx_behind (h : (s.fib f).rxExp = some e) (hne : e ≠ m.seq) (hle : seqLe e m.seq = false) : s.lmfRx f m = s.lmfTake f m := by
  unfold State.lmfRx
  dsimp only
  rw [h]
  exact (if_neg hne).trans (if_neg (by simp [hle]))

/-! The wait for a missing one (R330). -/

theorem lmfLate_none (h : (s.fib f).rxHeld = []) : s.lmfLate f = s := by
  unfold State.lmfLate
  dsimp only
  rw [h]

variable (h : (s.fib f).rxHeld = (m, c) :: r)
include h

theorem lmfLate_within (hc : s.cyc < c + nsCyc 100) : s.lmfLate f = s := by
  unfold State.lmfLate
  dsimp only
  rw [h]
  exact if_pos hc

theorem lmfLate_due (hc : c + nsCyc 100 ≤ s.cyc) : s.lmfLate f = (s.setFib f { s.fib f with rxExp := some m.seq }).lmfDrain f 256 := by
  unfold State.lmfLate
  dsimp only
  rw [h]
  exact if_neg (by omega)

end
end

/-- Settles O45: the codeword by its FEC and its marker, each slot by its check and its turn. -/
theorem controlCodewords : Obligations.ControlCodewords := by
  unfold Obligations.ControlCodewords
  intro s l f hs hl hf
  have hf64 : f < 64 := by omega
  refine ⟨fun msg chk sym u hsym hu => ?_, fecCount_none, fun m => ⟨rfl, rfl⟩, fun b h => slotRx_empty h, fun b h => ⟨fun hm => slotRx_bad h hm, fun m hm => ?_⟩,
    fun m c r h => ⟨fun hc => exec_fibre hf64 (g := .lmfLate) hs rfl (lmfLate_within h hc), fun hc => exec_fibre hf64 (g := .lmfLate) hs rfl (lmfLate_due h hc)⟩,
    fun h => exec_fibre hf64 (g := .lmfLate) hs rfl (lmfLate_none h)⟩
  · subst hsym
    have run {t : State} (h : s.controlRx l (msg ++ chk) = t) : exec (.controlCodeword l msg chk) s = .next t := by
      rw [exec_act (c := .controlCodeword l msg chk) rfl hs, Nat.mod_eq_of_lt hl, h]
    refine ⟨fun h => run (controlRx_uncorrectable hu h), fun m b h => ⟨fun hn => ?_, fun w counts row hw hk hc hcounts hrow => ?_⟩⟩
    · obtain hn | hn | hn := hn
      · exact run (controlRx_unmarked h hu (Or.inl hn))
      · exact run (controlRx_unmarked h hu (Or.inr hn))
      · cases hw : CtrlWord.ofBlock (msgBlock m) with
        | none => exact run (controlRx_unmarked h hu (Or.inl hw))
        | some w =>
          by_cases hk : msgKind m = 0
          · exact run ((controlRx_word h hu hw hk).trans (ctrlWord_dark hn))
          · exact run (controlRx_unmarked h hu (Or.inr hk))
    · subst hf
      refine run ((controlRx_word h hu hw hk).trans ((if_neg (by simp [hc])).trans ?_))
      subst hcounts hrow
      rfl
  · have slot {t : State} (ht : s.lmfRx f m = t) : s.slotRx f b = t := (slotRx_lmf h hm).trans ht
    exact ⟨fun he => slot (lmfRx_inTurn he), fun e he hne => ⟨fun hle => slot (lmfRx_ahead he hne hle), fun hle => slot (lmfRx_behind he hne hle)⟩⟩

end Sys2Proof.Machine

/-! PROOFS. PREPARE and WITHDRAW of a bypass circuit (R356, R357, R368). -/

namespace Sys2Proof.Machine

set_option Elab.async false

/-! The reasons of R356's table, in its order. -/

/-- A preparation's fibres are one, or a direction of a set is not permitted. -/
def State.prepForbidden (u : State) (p : BypPrep) : Prop :=
  p.a = p.b ∨ p.isSet = true ∧ ∃ d ∈ p.todo, bit (u.rd BYP_PERMIT_outputs 0 d.1) d.2 = false ∨ u.isBad TB_PERMIT 0 d.1 0 16 = true

/-- A fibre or circuit of a preparation is taken, or a clear's circuit is not there. -/
def State.prepTaken (u : State) (p : BypPrep) : Prop :=
  p.isSet = true ∧ ((∃ f ∈ [p.a, p.b], u.bypState f ≠ 0 ∧ (u.bypState f = 3 → u.inCircuit f = true)) ∨ ∃ d ∈ p.todo, u.inUse d.1 = true ∨ u.outUse d.2 = true) ∨
    p.isSet = false ∧ ((∃ d ∈ p.todo, u.circuit d.1 d.2 = false) ∨ ∃ x ∈ u.byp.preps, x.a = p.a ∨ x.b = p.a ∨ x.a = p.b ∨ x.b = p.b)

/-- A preparation's instant lies too near. -/
def State.prepNear (u : State) (p : BypPrep) : Prop :=
  p.c < u.fclk + max (max 50 (u.rd BYP_CFG_lead_us) * 1000 * NS) (u.quietClk + 50000 * NS)

section
variable {u : State} {p : BypPrep}

theorem prepForbidden_iff : (p.a = p.b || (p.isSet && p.todo.any fun d => !bit (u.rd BYP_PERMIT_outputs 0 d.1) d.2 || u.isBad TB_PERMIT 0 d.1 0 16)) = true ↔ u.prepForbidden p := by
  unfold State.prepForbidden
  simp only [Bool.or_eq_true, decide_eq_true_eq, Bool.and_eq_true, List.any_eq_true, Bool.not_eq_true']

theorem prepTaken_of_set (hset : p.isSet = true) :
    (p.isSet && ((fun f => u.bypState f ≠ 0 && !(u.bypState f = 3 && !u.inCircuit f)) p.a || (fun f => u.bypState f ≠ 0 && !(u.bypState f = 3 && !u.inCircuit f)) p.b
      || p.todo.any fun d => u.inUse d.1 || u.outUse d.2)) = true ↔ u.prepTaken p := by
  unfold State.prepTaken
  simp [hset, or_assoc, Decidable.imp_iff_not_or]

theorem prepTaken_of_clear (hset : p.isSet = false) :
    (!p.isSet && (p.todo.any (fun d => !u.circuit d.1 d.2) || u.byp.preps.any fun x => x.a = p.a || x.b = p.a || x.a = p.b || x.b = p.b)) = true ↔ u.prepTaken p := by
  unfold State.prepTaken
  simp [hset, or_assoc]

theorem prepRefusal_off (h : u.flag BYP_CTRL_enable = false) : u.prepRefusal p = 7 := if_pos (by simp [h])

section
variable (he : u.flag BYP_CTRL_enable = true)
include he

theorem prepRefusal_forbidden (h : u.prepForbidden p) : u.prepRefusal p = 3 := (if_neg (by simp [he])).trans (if_pos (prepForbidden_iff.mpr h))

variable (hf : ¬u.prepForbidden p)
include hf

theorem prepRefusal_taken (h : u.prepTaken p) : u.prepRefusal p = 2 := by
  refine (if_neg (by simp [he])).trans ((if_neg fun hc => hf (prepForbidden_iff.mp hc)).trans ?_)
  cases hset : p.isSet with
  | true => exact if_pos (hset ▸ (prepTaken_of_set hset).mpr h)
  | false => exact (if_neg (by simp)).trans (if_pos (hset ▸ (prepTaken_of_clear hset).mpr h))

variable (ht : ¬u.prepTaken p)
include ht

/-- What is left of R356's table where the fibres are free and permitted. -/
theorem prepRefusal_free : u.prepRefusal p = if p.isSet && (u.flag TIM_STATE_slave_valid && (u.rd TIM_STATE_slave_port = p.a || u.rd TIM_STATE_slave_port = p.b)) then 4
    else if p.c < u.fclk + max (max 50 (u.rd BYP_CFG_lead_us) * 1000 * NS) (u.quietClk + 50000 * NS) then 1 else if p.isSet && u.idleFw.isNone then 5 else 0 := by
  refine (if_neg (by simp [he])).trans ((if_neg fun hc => hf (prepForbidden_iff.mp hc)).trans ?_)
  cases hset : p.isSet with
  | true => exact (if_neg fun hc => ht ((prepTaken_of_set hset).mp (hset.symm ▸ hc))).trans (if_neg (by simp))
  | false => exact (if_neg (by simp)).trans (if_neg fun hc => ht ((prepTaken_of_clear hset).mp (hset.symm ▸ hc)))

theorem prepRefusal_slave (hset : p.isSet = true) (hs : u.flag TIM_STATE_slave_valid = true) (hp : u.rd TIM_STATE_slave_port = p.a ∨ u.rd TIM_STATE_slave_port = p.b) :
    u.prepRefusal p = 4 := (prepRefusal_free he hf ht).trans (if_pos (by simpa [hset, hs] using hp))

variable (hs : p.isSet = false ∨ u.flag TIM_STATE_slave_valid = false ∨ u.rd TIM_STATE_slave_port ≠ p.a ∧ u.rd TIM_STATE_slave_port ≠ p.b)
include hs

theorem prepRefusal_own : u.prepRefusal p = if p.c < u.fclk + max (max 50 (u.rd BYP_CFG_lead_us) * 1000 * NS) (u.quietClk + 50000 * NS) then 1
    else if p.isSet && u.idleFw.isNone then 5 else 0 := by
  refine (prepRefusal_free he hf ht).trans (if_neg ?_)
  obtain hs | hs | ⟨ha, hb⟩ := hs
  · simp [hs]
  · simp [hs]
  · simp [ha, hb]

theorem prepRefusal_near (h : u.prepNear p) : u.prepRefusal p = 1 := (prepRefusal_own he hf ht hs).trans (if_pos h)

theorem prepRefusal_unit (h : ¬u.prepNear p) (hset : p.isSet = true) (hi : u.idleFw = none) : u.prepRefusal p = 5 :=
  (prepRefusal_own he hf ht hs).trans ((if_neg h).trans (if_pos (by simp [hset, hi])))

theorem prepRefusal_none (h : ¬u.prepNear p) (hi : p.isSet = false ∨ u.idleFw.isSome = true) : u.prepRefusal p = 0 := by
  refine (prepRefusal_own he hf ht hs).trans ((if_neg h).trans (if_neg ?_))
  obtain hi | hi := hi
  · simp [hi]
  · simp [Option.isSome_iff_ne_none.mp hi]

end
end

/-! PREPARE. -/

section
variable {u v w d x : State} {p q : BypPrep} {n : Nat} (hp : p = u.prepAsked)
include hp

theorem prepare_refused {r : Nat} (h : u.prepRefusal p = r) (hr : r ≠ 0) : u.prepare = u.bypDone 7 r := by
  subst hp h
  exact if_pos hr

variable (h : u.prepRefusal p = 0)
include h

theorem prepare_clear (hset : p.isSet = false) (hv : v = p.todo.foldl (fun t d => t.setPending d.1 true false) u) :
    u.prepare = ({ v with byp := { v.byp with preps := v.byp.preps ++ [p] } } : State).bypDone 0 0 := by
  unfold State.prepare
  rw [← hp, if_neg (not_not_intro h)]
  simp only [hset, ← hv, Bool.not_false, if_true]

theorem prepare_set (hset : p.isSet = true) (hv : v = p.todo.foldl (fun t d => t.setPending d.1 true true) u) (hn : v.idleFw = some n)
    (hq : q = { p with id := v.byp.nextId, unit := some n, quietAt := p.c - v.quietClk })
    (hw : w = { v with byp := { v.byp with preps := v.byp.preps ++ [q], nextId := (v.byp.nextId + 1) % 65536 } })
    (hd : d = (((w.setByp p.a 1).bar p.a true).setByp p.b 1).bar p.b true) (hx : x = d.armOwn n 13 0 (p.c - d.quietClk) 0 1) :
    u.prepare = (((x.bypNotice q p.a).bypNotice q p.b).wr BYP_CMD_STAT_notice_id q.id).bypDone 0 0 := by
  have hfold : [p.a, p.b].foldl (fun s f => (s.setByp f 1).bar f true) w = d := by
    simp only [hd, List.foldl_cons, List.foldl_nil]
  unfold State.prepare
  rw [← hp, if_neg (not_not_intro h)]
  simp only [hset, ← hv, hn, Option.getD_some, Bool.not_true, Bool.false_eq_true, if_false]
  rw [hset] at hq
  subst hq hw
  rw [hx, ← hfold]

end

/-! WITHDRAW. -/

section
variable {u v w : State} {p y : BypPrep} (hp : p = u.prepAsked)
include hp

theorem bypWithdraw_none (h : u.byp.preps.find? (fun x => x.a = p.a && x.b = p.b) = none) : u.bypWithdraw = u.bypDone 3 0 := by
  subst hp
  unfold State.bypWithdraw
  dsimp only
  rw [h]

section
variable (h : u.byp.preps.find? (fun x => x.a = p.a && x.b = p.b) = some y)
include h

theorem bypWithdraw_met (hy : y.quiet = true ∨ y.isSet = true ∧ y.quietAt ≤ u.fclk ∨ y.done ≠ []) : u.bypWithdraw = u.bypDone 7 6 := by
  subst hp
  unfold State.bypWithdraw
  dsimp only
  rw [h]
  exact if_pos (by simpa [or_assoc] using hy)

variable (hq : y.quiet = false) (hd : y.done = []) (hv : v = y.todo.foldl (fun t d => t.setPending d.1 false false) (u.delPrep y))
include hq hd hv

theorem bypWithdraw_clear (hset : y.isSet = false) : u.bypWithdraw = v.bypDone 0 0 := by
  subst hp hv
  unfold State.bypWithdraw
  dsimp only
  rw [h]
  exact (if_neg (by simp [hq, hd, hset])).trans (if_pos (by simp [hset]))

section
variable (hset : y.isSet = true) (ht : u.fclk < y.quietAt) {g : State → Nat → State}
  (hg : ∀ t f, g t f = if y.sent.getD 0 f = 0 then t.bypNormal f else ((t.bypNormal f).sendLmf f (y.notice f false)).cnt BYP_NOTICE_TX_count)
  (hw : w = g (g v y.a) y.b)
include hset ht hg hw

theorem bypWithdraw_armed {n : Nat} (hn : y.unit = some n) (ha : w.armed n = true) : u.bypWithdraw = (w.cancelUnit n).reDepth.bypDone 0 0 := by
  have hfold : [y.a, y.b].foldl (fun t f => if y.sent.getD 0 f = 0 then t.bypNormal f else ((t.bypNormal f).sendLmf f (y.notice f false)).cnt BYP_NOTICE_TX_count) v = w := by
    simp only [hw, hg, List.foldl_cons, List.foldl_nil]
  subst hp
  unfold State.bypWithdraw
  dsimp only
  rw [h]
  refine (if_neg (by simp [hq, hd, ht])).trans ((if_neg (by simp [hset])).trans ?_)
  rw [← hv]
  rw [hfold, hn]
  dsimp only
  rw [if_pos ha]


theorem bypWithdraw_unarmed (ha : ∀ n, y.unit = some n → w.armed n = false) : u.bypWithdraw = w.bypDone 0 0 := by
  have hfold : [y.a, y.b].foldl (fun t f => if y.sent.getD 0 f = 0 then t.bypNormal f else ((t.bypNormal f).sendLmf f (y.notice f false)).cnt BYP_NOTICE_TX_count) v = w := by
    simp only [hw, hg, List.foldl_cons, List.foldl_nil]
  subst hp
  unfold State.bypWithdraw
  dsimp only
  rw [h]
  refine (if_neg (by simp [hq, hd, ht])).trans ((if_neg (by simp [hset])).trans ?_)
  rw [← hv]
  rw [hfold]
  cases hn : y.unit with
  | none => rfl
  | some n => exact congrArg (State.bypDone · 0 0) (if_neg (by rw [ha n hn]; decide))

end
end
end

/-- Settles O46: the preparation by R356's table and what it asks for, the withdrawal by the preparation it finds. -/
theorem bypassPreparation : Obligations.BypassPreparation := by
  unfold Obligations.BypassPreparation
  intro s u p hv hu hp
  have prepare {t : State} (h : u.prepare = t) : exec .prepare s = .next t := by
    rw [exec_hostWrite (c := .prepare) rfl hv, ← hu, h]
  have withdraw {t : State} (h : u.bypWithdraw = t) : exec .bypassWithdraw s = .next t := by
    rw [exec_hostWrite (c := .bypassWithdraw) rfl hv, ← hu, h]
  refine ⟨fun r h hr => prepare (prepare_refused hp h hr), fun h => prepare (prepare_refused hp (prepRefusal_off h) (by decide)), fun he perm busy lead hperm hbusy hlead => ?_,
    fun h hset => ⟨_, rfl, prepare (prepare_clear hp h hset rfl)⟩, fun n v w d x q h hset hv hn hq hw hd hx => prepare (prepare_set hp h hset hv hn hq hw hd hx),
    fun h => withdraw (bypWithdraw_none hp h), fun y h => ⟨fun hy => withdraw (bypWithdraw_met hp h hy), fun hq hd v hv => ⟨fun hset => withdraw (bypWithdraw_clear hp h hq hd hv hset),
      fun hset ht g w hg hw => ⟨fun n hn ha => withdraw (bypWithdraw_armed hp h hq hd hv hset ht hg hw hn ha), fun ha => withdraw (bypWithdraw_unarmed hp h hq hd hv hset ht hg hw ha)⟩⟩⟩⟩
  obtain rfl : perm = u.prepForbidden p := hperm
  obtain rfl : busy = u.prepTaken p := hbusy
  obtain rfl : lead = u.prepNear p := hlead
  exact ⟨fun h => prepare (prepare_refused hp (prepRefusal_forbidden he h) (by decide)), fun hf h => prepare (prepare_refused hp (prepRefusal_taken he hf h) (by decide)),
    fun hf ht hset hs hport => prepare (prepare_refused hp (prepRefusal_slave he hf ht hset hs hport) (by decide)), fun hf ht hs =>
      ⟨fun h => prepare (prepare_refused hp (prepRefusal_near he hf ht hs h) (by decide)), fun h hset hi => prepare (prepare_refused hp (prepRefusal_unit he hf ht hs h hset hi) (by decide)),
        fun h hi => prepRefusal_none he hf ht hs h hi⟩⟩

end Sys2Proof.Machine

/-! PROOFS. The effects of a bypass and what is watched afterwards (R51, R359 to R369). -/

namespace Sys2Proof.Machine

set_option Elab.async false

section
variable {s v : State} {p : BypPrep}

/-! The quiet point (R359). -/

theorem fwNotice_quiet {k code : Nat} (h : (s.emit (.fwInt code)).byp.preps.find? (fun p => p.unit = some k && !p.quiet) = some p) :
    s.fwNotice k code = ((s.emit (.fwInt code)).quietPoint p, true) := by
  unfold State.fwNotice
  dsimp only
  rw [h]

theorem fwNotice_other {k code : Nat} (h : (s.emit (.fwInt code)).byp.preps.find? (fun p => p.unit = some k && !p.quiet) = none) :
    s.fwNotice k code = (s.emit (.fwInt code), true) := by
  unfold State.fwNotice
  dsimp only
  rw [h]

/-! A BYPASS_SET effect (R360, R364). -/

section
variable {i o : Nat} {set : Bool}

theorem bypassSet_none (h : s.byp.preps.find? (fun p => p.isSet = set && p.todo.contains (i, o) && p.c + 12 * NS ≤ s.fclk && s.fclk ≤ p.c + 20 * NS) = none) :
    s.bypassSet i o set = ((s.cnt BYP_REJECT_count).bypIrq 3, false) := by
  unfold State.bypassSet
  rw [h]

variable (h : s.byp.preps.find? (fun p => p.isSet = set && p.todo.contains (i, o) && p.c + 12 * NS ≤ s.fclk && s.fclk ≤ p.c + 20 * NS) = some p)
include h

theorem bypassSet_off (he : s.flag BYP_CTRL_enable = false) : s.bypassSet i o set = ((s.cnt BYP_REJECT_count).bypIrq 3, false) := by
  unfold State.bypassSet
  rw [h]
  exact if_pos (by simp [he])

variable (he : s.flag BYP_CTRL_enable = true)
  (hv : v = (s.putPrep { p with todo := p.todo.filter (· ≠ (i, o)), done := p.done ++ [(i, o)] }).setPending i false false)
include he hv

theorem bypassSet_sets (hs : set = true) : s.bypassSet i o set =
    ((((((v.wr BYP_CIRCUIT_output o 0 i).wr BYP_CIRCUIT_valid 1 0 i).mend TB_MESH 0 i 0).enterBypass p.a).enterBypass p.b).cnt BYP_SET_DONE_count, true) := by
  unfold State.bypassSet
  rw [h]
  refine (if_neg (by simp [he])).trans ?_
  rw [← hv]
  exact if_pos hs

section
variable {g : State → Nat → State} {w : State} (hs : set = false) (hg : ∀ t f, g t f = if t.inCircuit f = true then t else t.leaveBypass f)
  (hw : w = g (g (((v.wr BYP_CIRCUIT_output 0 0 i).wr BYP_CIRCUIT_valid 0 0 i).cnt BYP_CLEAR_DONE_count) p.a) p.b)
include hs hg hw

/-- A BYPASS_SET effect that meets a clear empties the circuit and returns its fibres; `w` is the state then. -/
theorem bypassSet_clears : s.bypassSet i o set = (if p.todo.all (· = (i, o)) then (w.delPrep p).bypIrq 2 else w, true) := by
  have hfold : [p.a, p.b].foldl (fun t f => if t.inCircuit f then t else t.leaveBypass f) (((v.wr BYP_CIRCUIT_output 0 0 i).wr BYP_CIRCUIT_valid 0 0 i).cnt BYP_CLEAR_DONE_count) = w := by
    simp only [hw, hg, List.foldl_cons, List.foldl_nil]
  unfold State.bypassSet
  rw [h]
  refine (if_neg (by simp [he])).trans ?_
  rw [← hv]
  refine (if_neg (by simp [hs])).trans ?_
  rw [← hfold]

theorem bypassSet_last (hd : ∀ d ∈ p.todo, d = (i, o)) : s.bypassSet i o set = ((w.delPrep p).bypIrq 2, true) :=
  (bypassSet_clears h he hv hs hg hw).trans (congrArg (·, true) (if_pos (by simpa using hd)))

theorem bypassSet_more (hd : ∃ d ∈ p.todo, d ≠ (i, o)) : s.bypassSet i o set = (w, true) :=
  (bypassSet_clears h he hv hs hg hw).trans (congrArg (·, true) (if_neg (by simpa using hd)))

end
end

/-! Directions not matched, and sets that have settled (R360, R364). -/

theorem lapse_none (h : (s.byp.preps.filter fun p => p.todo ≠ [] && decide (p.c + 20 * NS < s.fclk)) = []) : s.lapse = s := by
  unfold State.lapse
  rw [h, List.foldl_nil]

theorem lapse_one (h : (s.byp.preps.filter fun p => p.todo ≠ [] && decide (p.c + 20 * NS < s.fclk)) = [p])
    (hv : v = (p.todo.foldl (fun t d => t.setPending d.1 false false) s).cnt BYP_MISSED_count) :
    s.lapse = if p.done ≠ [] then (if p.isSet then (v.bypIrq 5).putPrep { p with todo := [] } else v.delPrep p)
      else if p.isSet then ((v.delPrep p).bypNormal p.a).bypNormal p.b else v.delPrep p := by
  unfold State.lapse
  rw [h, List.foldl_cons, List.foldl_nil, hv]

theorem meshSettled_none (h : (s.byp.preps.filter fun p => p.todo = [] && p.done ≠ []) = []) : s.meshSettled = s := by
  unfold State.meshSettled
  rw [h, List.foldl_nil]

theorem meshSettled_one (h : (s.byp.preps.filter fun p => p.todo = [] && p.done ≠ []) = [p]) : s.meshSettled = (s.delPrep p).bypIrq 1 := by
  unfold State.meshSettled
  rw [h, List.foldl_cons, List.foldl_nil]

end

/-! A neighbour's bypass (R362). -/

section
variable {s v : State} {f id c : Nat} {on : Bool}

theorem bypNoticeRx_bypassed (h : s.bypassed f = true) : s.bypNoticeRx f id c on = s := if_pos h

theorem bypNoticeRx_late (h : s.bypassed f = false) (hc : c < s.fclk + s.mldClk f + 2000 * NS) : s.bypNoticeRx f id c on = s.cnt LNK_LMF_LATE_count (f / 8) :=
  (if_neg (by simp [h])).trans (if_pos hc)

theorem bypNoticeRx_kept {q : Prop} [Decidable q] {rest : List ByCut} (hq : on = decide q) (h : s.bypassed f = false) (hc : s.fclk + s.mldClk f + 2000 * NS ≤ c)
    (hr : rest = ((s.fib f).cuts.filter fun k => !(k.id = id && !k.done && decide (s.fclk < k.c)) && decide (s.fclk ≤ k.c + s.mldClk f + 200000 * NS))) :
    s.bypNoticeRx f id c on = (s.setFib f { s.fib f with cuts := if q then rest ++ [{ id := id, c := c }] else rest }).cnt BYP_NOTICE_RX_count := by
  subst hq hr
  refine (if_neg (by simp [h])).trans ((if_neg (by omega)).trans ?_)
  simp only [decide_eq_true_eq]

theorem farCut_none (h : ∀ k ∈ (s.fib f).cuts, k.done = true ∨ s.fclk < k.c + s.mldClk f) : s.farCut f = s := by
  refine if_pos ?_
  simp only [Bool.not_eq_true', List.any_eq_false, Bool.and_eq_true, Bool.not_eq_true', decide_eq_true_eq, not_and, Nat.not_le]
  intro k hk hd
  obtain h | h := h k hk
  · simp [h] at hd
  · exact h

theorem farCut_cuts (h : ∃ k ∈ (s.fib f).cuts, k.done = false ∧ k.c + s.mldClk f ≤ s.fclk)
    (hv : v = (s.setFib f { s.fib f with cuts := (s.fib f).cuts.map fun (k : ByCut) => if k.c + s.mldClk f ≤ s.fclk then { k with done := true } else k }).leave (lanesOf f) 6) :
    s.farCut f = if v.flag TRV_CTRL_enable && v.trv f ≠ 7 then v.setTrv f 1 else v := by
  subst hv
  exact if_neg (by simpa using h)

/-! Watching the mesh (R366, R369). -/

/-- Whether the last sample's millisecond still runs. -/
theorem powAt_any_iff {k : Nat} : (s.byp.powAt.any fun c => decide (s.cyc < c + k)) = true ↔ ∃ c, s.byp.powAt = some c ∧ s.cyc < c + k := by
  cases s.byp.powAt with
  | none => simp
  | some c => simp

theorem inputPower_within {powers : List Nat} (h : s.byp.powAt = some c) (hc : s.cyc < c + msCyc 1) : s.inputPower powers = s := by
  unfold State.inputPower
  rw [if_pos (powAt_any_iff.mpr ⟨c, h, hc⟩)]

theorem inputPower_due {powers low : List Nat} {w : State} (h : ∀ c, s.byp.powAt = some c → c + msCyc 1 ≤ s.cyc)
    (hl : low = (List.range 64).filter fun f => s.flag BYP_CIRCUIT_valid 0 f && belowDbm (powers.getD f 0 % 2 ^ 40) (s.rd LNK_ERR_CFG_los_dbm (f / 8)))
    (hv : v = (List.range 64).foldl (fun t f => t.wr BYP_INPOW_power (powers.getD f 0 % 2 ^ 40) 0 f) s)
    (hw : w = { v with byp := { v.byp with low := low, powAt := some v.cyc } }) :
    s.inputPower powers = if low.any s.byp.low.contains then w.bypIrq 4 else w := by
  have hdue : ¬(s.byp.powAt.any fun c => decide (s.cyc < c + msCyc 1)) = true := fun hany => by
    obtain ⟨c, hc, hlt⟩ := powAt_any_iff.mp hany
    exact absurd (h c hc) (by omega)
  unfold State.inputPower
  rw [if_neg hdue]
  extract_lets p l hit s1 s2
  have h1 : s1 = v := hv.symm
  have h2 : l = low := hl.symm
  clear_value s1 l
  subst h1 h2
  rw [hw]

end

/-! A waiting action of the module's own (R59). -/

section
variable {s : State}

theorem ownRetry_none (h : s.fwq = []) : s.ownRetry = s := by
  unfold State.ownRetry
  rw [h]

theorem ownRetry_tries {a : FwAction} {r : List FwAction} (h : s.fwq = a :: r) (hi : s.idleFw.isSome = true) (hm : s.atMicro = true) :
    s.ownRetry = ({ s with fwq := r } : State).ownAgain a := by
  unfold State.ownRetry
  rw [h]
  exact if_pos (by simp [hi, hm])

theorem ownRetry_waits {a : FwAction} {r : List FwAction} (h : s.fwq = a :: r) (hw : s.idleFw = none ∨ s.atMicro = false) : s.ownRetry = s := by
  unfold State.ownRetry
  rw [h]
  refine if_neg ?_
  obtain hw | hw := hw
  · simp [hw]
  · simp [hw]

end

/-- Settles O47: the quiet point, the effects, the lapses, the neighbour's notices and what is watched. -/
theorem bypassEffects : Obligations.BypassEffects := by
  unfold Obligations.BypassEffects
  intro s hs
  have lapse {t : State} (h : s.lapse = t) : exec .preparationLapse s = .next t := (exec_act (c := .preparationLapse) rfl hs).trans (congrArg _ h)
  have settled {t : State} (h : s.meshSettled = t) : exec .meshSettled s = .next t := (exec_act (c := .meshSettled) rfl hs).trans (congrArg _ h)
  have power {powers : List Nat} {t : State} (h : s.inputPower powers = t) : exec (.inputPowerSample powers) s = .next t :=
    (exec_act (c := .inputPowerSample powers) rfl hs).trans (congrArg _ h)
  have retry {t : State} (h : s.ownRetry = t) : exec .fwUnitRetry s = .next t := (exec_act (c := .fwUnitRetry) rfl hs).trans (congrArg _ h)
  refine ⟨fun k hk => ⟨?_, ?_⟩, fun k code p h => fwNotice_quiet h, fun k code h => fwNotice_other h, fun i o set h => bypassSet_none h,
    fun i o set p h => ⟨fun he => bypassSet_off h he, fun he v hv => ⟨fun hset => bypassSet_sets h he hv hset, fun hset g w hg hw =>
      ⟨fun hd => bypassSet_last h he hv hset hg hw hd, fun hd => bypassSet_more h he hv hset hg hw hd⟩⟩⟩,
    fun h => lapse (lapse_none h), fun p v h hv => ⟨fun hd hset => ?_, fun hd hset => ?_, fun hd hset => ?_, fun hd hset => ?_⟩,
    fun h => settled (meshSettled_none h), fun p h => settled (meshSettled_one h), fun f id set sec ns c hf hid hset hc => ?_, fun f hf => ⟨fun h => ?_, fun h v hv => ⟨fun he ht => ?_, fun hn => ?_⟩⟩,
    fun powers c h hc => power (inputPower_within h hc), fun powers low v w h hl hv hw => ⟨fun hex => ?_, fun hno => ?_⟩, fun i hi => ⟨fun h => ?_, fun h => ?_⟩,
    fun f hf => ⟨_, rfl, exec_fibre hf (g := .noticeResend) hs rfl rfl⟩, fun h => retry (ownRetry_none h),
    fun a r h => ⟨fun hi hm => retry (ownRetry_tries h hi hm), fun hw => retry (ownRetry_waits h hw)⟩⟩
  · rw [exec_act (c := .fwNotice k) rfl hs, Nat.mod_eq_of_lt hk]
  · rw [exec_act (c := .bypassSet k) rfl hs, Nat.mod_eq_of_lt hk]
  · exact lapse ((lapse_one h hv).trans ((if_neg (not_not_intro hd)).trans (if_pos hset)))
  · exact lapse ((lapse_one h hv).trans ((if_neg (not_not_intro hd)).trans (if_neg (by simp [hset]))))
  · exact lapse ((lapse_one h hv).trans ((if_pos hd).trans (if_pos hset)))
  · exact lapse ((lapse_one h hv).trans ((if_pos hd).trans (if_neg (by simp [hset]))))
  · have run {t : State} (h : s.bypNoticeRx f id c (decide (set = 1)) = t) : exec (.bypassNotice f id set sec ns) s = .next t := by
      subst hc
      exact exec_fibre hf (g := fun s f => s.bypNoticeRx f (id % 65536) (clkOf sec (ns / 2) (ns % 2)) (decide (set % 2 = 1))) hs rfl
        (by rw [Nat.mod_eq_of_lt hid, Nat.mod_eq_of_lt hset, h])
    exact ⟨fun h => run (bypNoticeRx_bypassed h), fun h hl => run (bypNoticeRx_late h hl), fun h hl rest hr => run (bypNoticeRx_kept rfl h hl hr)⟩
  · exact exec_fibre hf (g := .farCut) hs rfl (farCut_none h)
  · exact exec_fibre hf (g := .farCut) hs rfl ((farCut_cuts h hv).trans (if_pos (by simp [he, ht])))
  · exact exec_fibre hf (g := .farCut) hs rfl ((farCut_cuts h hv).trans (if_neg (by simpa [Decidable.imp_iff_not_or] using hn)))
  · exact power ((inputPower_due h hl hv hw).trans (if_pos (by simpa using hex)))
  · exact power ((inputPower_due h hl hv hw).trans (if_neg (by simpa using hno)))
  · rw [exec_act (c := .meshParityError i) rfl hs, Nat.mod_eq_of_lt hi]
    exact congrArg _ (if_neg (by simp [h]))
  · rw [exec_act (c := .meshParityError i) rfl hs, Nat.mod_eq_of_lt hi]
    exact congrArg _ (if_pos (by simp [h]))

end Sys2Proof.Machine

/-! PROOFS. Commits of named groups, all or nothing (R370 to R374). -/

namespace Sys2Proof.Machine

set_option Elab.async false

section
variable {s : State} {m par : Nat}

/-! The reasons of R372, in its order. -/

theorem commitCause_map (h : 16 ≤ m ∨ bit m 0 = true ∧ s.mapBad = true) : s.commitCause m par = 1 := by
  unfold State.commitCause
  rw [if_pos (by simpa using h)]

section
variable (hm : m < 16) (hb : bit m 0 = true → s.mapBad = false)
include hm hb

theorem commitCause_after_map : s.commitCause m par = if bit m 3 && s.partBad then 2 else if bit m 3 && s.bankOut then 3 else if bit m 3 && s.poolMoved then 4 else if m &&& par ≠ 0 then 5 else 0 := by
  unfold State.commitCause
  rw [if_neg]
  simpa [hm] using hb

theorem commitCause_part (h3 : bit m 3 = true) (hp : s.partBad = true) : s.commitCause m par = 2 := by
  rw [commitCause_after_map hm hb, if_pos (by simp [h3, hp])]

theorem commitCause_bank (h3 : bit m 3 = true) (hp : s.partBad = false) (ho : s.bankOut = true) : s.commitCause m par = 3 := by
  rw [commitCause_after_map hm hb, if_neg (by simp [hp]), if_pos (by simp [h3, ho])]

theorem commitCause_pool (h3 : bit m 3 = true) (hp : s.partBad = false) (ho : s.bankOut = false) (hq : s.poolMoved = true) : s.commitCause m par = 4 := by
  rw [commitCause_after_map hm hb, if_neg (by simp [hp]), if_neg (by simp [ho]), if_pos (by simp [h3, hq])]

theorem commitCause_parity (h : bit m 3 = true → s.partBad = false ∧ s.bankOut = false ∧ s.poolMoved = false) : s.commitCause m par = if m &&& par = 0 then 0 else 5 := by
  have hno (b : Bool) (hb : bit m 3 = true → b = false) : ¬(bit m 3 && b) = true := by
    cases h3 : bit m 3
    · simp
    · simp [hb h3]
  rw [commitCause_after_map hm hb, if_neg (hno _ fun h3 => (h h3).1), if_neg (hno _ fun h3 => (h h3).2.1), if_neg (hno _ fun h3 => (h h3).2.2)]
  exact ite_not _ _ _

end

/-! What a commit does (R372, R373). -/

variable {cairn : Bool}

theorem commit_taken {a b c : State} (h : s.commitCause m par = 0) (ha : a = (groupsOf m).foldl State.commitGroup s) (hb : b = a.wr DTM_EPOCH_cur (a.rd DTM_EPOCH_next))
    (hc : c = ((b.wr DTM_EXPECT_lo (b.rd DTM_EXPECT_NEXT_lo)).wr DTM_EXPECT_hi (b.rd DTM_EXPECT_NEXT_hi)).cnt DTM_COMMITS_count) :
    s.commit m par cairn = (0, ({ c with dtm := { c.dtm with grace := c.cyc + usCyc (c.rd DTM_CFG_grace_us) } } : State).irq 6 0) := by
  subst hc hb
  unfold State.commit
  rw [h, if_neg (by decide), ← ha]

section
variable {r : Nat} (h : s.commitCause m par = r) (hr : r ≠ 0)
include h hr

theorem commit_refused (hb : bit m 0 = false ∨ s.mapBad = false) : s.commit m par cairn = (r, s.commitReject m 0 r cairn) := by
  have hmap : ¬(bit m 0 && s.mapBad) = true := by
    obtain hb | hb := hb
    · simp [hb]
    · simp [hb]
  unfold State.commit
  rw [h, if_pos hr, if_neg hmap]

theorem commit_refused_map {g : State → Nat → State} (hg : ∀ t e, g t e = if (stagedFields 0).any (fun x => x.2.1 = e && t.hasStaged x) = true then t.irq (0x38 + e) 3 else t)
    (h0 : bit m 0 = true) (hb : s.mapBad = true) : s.commit m par cairn = (r, ((List.range 8).foldl g s).commitReject m 0 r cairn) := by
  obtain rfl : g = fun t e => if (stagedFields 0).any (fun x => x.2.1 = e && t.hasStaged x) = true then t.irq (0x38 + e) 3 else t := funext fun t => funext fun e => hg t e
  unfold State.commit
  rw [h, if_pos hr, if_pos (by simp [h0, hb])]

end

theorem dtmCommit_taken {t : State} (h : s.commit (s.rd DTM_CMD_ARG_groups) par false = (0, t)) : s.dtmCommit par = t.dtmDone 0 0 := by
  unfold State.dtmCommit
  rw [h]
  exact if_pos rfl

theorem dtmCommit_refused {r : Nat} {t : State} (h : s.commit (s.rd DTM_CMD_ARG_groups) par false = (r, t)) (hr : r ≠ 0) : s.dtmCommit par = t.dtmDone 7 r := by
  unfold State.dtmCommit
  rw [h]
  exact if_neg hr

end

/-- Settles O48: the reason in R372's order, what a commit taken or refused does, and its commands. -/
theorem groupCommits : Obligations.GroupCommits := by
  unfold Obligations.GroupCommits
  intro s m par
  refine ⟨fun h => commitCause_map h, fun hm hb => ⟨fun h3 hp => commitCause_part hm hb h3 hp, fun h3 hp ho => commitCause_bank hm hb h3 hp ho,
      fun h3 hp ho hq => commitCause_pool hm hb h3 hp ho hq, fun h => commitCause_parity hm hb h⟩, fun cairn h => ⟨_, _, _, rfl, rfl, rfl, commit_taken h rfl rfl rfl⟩,
    fun cairn r h hr => ⟨fun hb => commit_refused h hr hb, fun g hg h0 hb => commit_refused_map h hr hg h0 hb⟩, fun u hv hu => ?_, fun k hs hk => ?_⟩
  · have commit {t : State} (h : u.dtmCommit par = t) : exec (.commit par) s = .next t := by
      rw [exec_hostWrite (c := .commit par) rfl hv, ← hu, h]
    have discard {t : State} (h : u.discard (u.rd DTM_CMD_ARG_groups) = t) : exec .discard s = .next t := by
      rw [exec_hostWrite (c := .discard) rfl hv, ← hu, h]
    exact ⟨fun t h => commit (dtmCommit_taken h), fun r t h hr => commit (dtmCommit_refused h hr), fun h => discard (if_pos h), fun h => discard (if_neg (by omega))⟩
  · rw [exec_act (c := .cfgCommit k par) rfl hs, Nat.mod_eq_of_lt hk]

end Sys2Proof.Machine

/-! PROOFS. Slice commits, purges and the DTM tables (R388 to R395). -/

namespace Sys2Proof.Machine

set_option Elab.async false

section
variable {s : State} {sl : Nat}

/-! Slice commits (R389). -/

theorem sliceCommit_purging {cairn : Bool} (h : s.sliceState sl = 2) : s.sliceCommit sl cairn = (s.commitReject 0 sl 6 cairn, false) := if_pos h

theorem sliceCommit_taken {cairn : Bool} {a b : State} (h : s.sliceState sl ≠ 2) (ha : a = s.applySlice sl)
    (hb : b = if s.sliceState sl = 0 then (a.wr FWD_SLICE_EPOCH_cur_epoch 1 0 sl).setSliceState sl 1 else a) :
    s.sliceCommit sl cairn = (((b.tset TB_SLICE 0 sl 0 (setFld (b.tget TB_SLICE 0 sl 0) 32 32 (fld (b.tget TB_SLICE 0 sl 0) 32 32 + 1))).sliceGrace sl).irq 6 4, true) := by
  unfold State.sliceCommit
  dsimp only
  rw [if_neg h, ← ha, ← hb]

theorem dtmSlice_taken {t : State} (h : s.sliceCommit (s.rd DTM_CMD_ARG_slice) false = (t, true)) : s.dtmSlice = t.dtmDone 0 0 := by
  unfold State.dtmSlice
  rw [h]
  exact if_pos rfl

theorem dtmSlice_refused {t : State} (h : s.sliceCommit (s.rd DTM_CMD_ARG_slice) false = (t, false)) : s.dtmSlice = t.dtmDone 7 6 := by
  unfold State.dtmSlice
  rw [h]
  exact if_neg (by simp)

/-! Purges (R391). -/

theorem purge_refused (h : s.sliceState sl ≠ 1) : s.purge sl = s.dtmDone 7 6 := if_pos h

theorem purge_begins {v : State} (h : s.sliceState sl = 1) (hv : v = ((s.setSliceState sl 2).dropStaged sl).purgeSerai sl) :
    s.purge sl = ((List.range 16).foldl (fun t p => t.retFlush p fun e => fld e 34 12 = sl || (s.onlyPorts sl).contains (fld e 24 10)) v).dtmDone 0 0 := by
  unfold State.purge
  rw [if_neg (not_not_intro h)]
  dsimp only
  rw [← hv]

theorem purgeDone_waits (h : s.sliceState sl ≠ 2 ∨ (∃ x ∈ s.flights, x.pkt.slice = sl) ∨ (∃ x ∈ s.link.rer, x.pkt.slice = sl) ∨ ∃ k ∈ s.sliceChunks sl, k.live = true ∨ k.state = 6) :
    s.purgeDone sl = s := by
  unfold State.purgeDone
  rw [if_pos]
  simpa [or_assoc] using h

theorem purgeDone_ends {v w : State} (h : s.sliceState sl = 2) (hf : ∀ x ∈ s.flights, x.pkt.slice ≠ sl) (hr : ∀ x ∈ s.link.rer, x.pkt.slice ≠ sl)
    (hk : ∀ k ∈ s.sliceChunks sl, k.live = false ∧ k.state ≠ 6)
    (hv : v = (((s.clearSlice sl).wr FWD_SLICE_EPOCH_cur_epoch 0 0 sl).wr FWD_SLICE_EPOCH_draining 0 0 sl).wr FWD_SLICE_EPOCH_flip_rejected 0 0 sl)
    (hw : w = { v with fwd := { v.fwd with drainEnd := v.fwd.drainEnd.del sl }, qsh := { v.qsh with pol := v.qsh.pol.filter fun x => x.1 / 8 ≠ sl }, dtm := { v.dtm with sums := v.dtm.sums.del sl, checks := v.dtm.checks.filter fun c => !(c.kind = 2 && c.subj = sl) } }) :
    s.purgeDone sl = (w.setSliceState sl 0).irq 6 5 := by
  have hleft : ¬(s.sliceState sl ≠ 2 || s.flights.any (fun x => x.pkt.slice = sl) || s.link.rer.any (fun x => x.pkt.slice = sl)
      || (s.sliceChunks sl).any fun k => k.live || k.state = 6) = true := by
    simp only [Bool.or_eq_true, decide_eq_true_eq, List.any_eq_true, not_or, not_exists, not_and]
    refine ⟨⟨⟨not_not_intro h, hf⟩, hr⟩, fun k hmem => ?_⟩
    obtain ⟨hl, h6⟩ := hk k hmem
    simp [hl, h6]
  subst hw hv
  unfold State.purgeDone
  rw [if_neg hleft]

/-! The DTM tables (R390, R392, R395). -/

section
variable {n : Nat} (hn : n = s.rd DTM_TKEY_slice)
include hn

theorem dtmRead_slice : s.dtmRead 0 = (s.dtmLoad [setFld (s.tget TB_SLICE 0 n 0) 2 1 (if s.sliceStaged n then 1 else 0), s.sliceDatum n % 2 ^ 64, s.sliceDatum n / 2 ^ 64]).dtmTDone 0 := by
  subst hn
  rfl

theorem dtmRead_quota : s.dtmRead 1 = ((if s.isBad TB_QUOTA 0 n 0 16 then s.cnt DTM_PARITY_count else s).dtmLoad [s.tget TB_QUOTA 0 n 0]).dtmTDone (if s.isBad TB_QUOTA 0 n 0 16 then 5 else 0) := by
  subst hn
  have hpar : ((List.range 1).any fun w => s.isBad TB_QUOTA 0 (s.rd DTM_TKEY_slice) w 16) = s.isBad TB_QUOTA 0 (s.rd DTM_TKEY_slice) 0 16 := by simp [List.range_succ]
  unfold State.dtmRead
  simp only [hpar]

theorem dtmRead_use : s.dtmRead 2 = (s.dtmLoad [s.sliceUse n 0 ||| s.sliceUse n 1 <<< 16 ||| s.sliceUse n 2 <<< 32]).dtmTDone 0 := by
  subst hn
  rfl

theorem dtmRead_expect_good (h : ∀ w < 5, s.isBad TB_EXPECT 0 n w 16 = false) : s.dtmRead 3 = (s.dtmLoad ((List.range 5).map (s.tget TB_EXPECT 0 n))).dtmTDone 0 := by
  subst hn
  have hpar : ((List.range 5).any fun w => s.isBad TB_EXPECT 0 (s.rd DTM_TKEY_slice) w 16) = false := List.any_eq_false.mpr fun w hw => by simp [h w (List.mem_range.mp hw)]
  unfold State.dtmRead
  simp only [hpar, Bool.false_eq_true, if_false]

theorem dtmRead_expect_bad (h : ∃ w < 5, s.isBad TB_EXPECT 0 n w 16 = true) :
    s.dtmRead 3 = ((s.cnt DTM_PARITY_count).dtmLoad ((List.range 5).map (s.tget TB_EXPECT 0 n))).dtmTDone 5 := by
  subst hn
  have hpar : ((List.range 5).any fun w => s.isBad TB_EXPECT 0 (s.rd DTM_TKEY_slice) w 16) = true := List.any_eq_true.mpr (h.imp fun w hw => ⟨List.mem_range.mpr hw.1, hw.2⟩)
  unfold State.dtmRead
  simp only [hpar, if_true]

omit hn in
theorem dtmRead_unknown {k : Nat} (h : 4 ≤ k) : s.dtmRead k = s.dtmTDone 3 := by
  obtain ⟨j, rfl⟩ := Nat.exists_eq_add_of_le' h
  rfl

omit hn in
theorem dtmWrite_unknown {k : Nat} (h1 : k ≠ 1) (h3 : k ≠ 3) : s.dtmWrite k = s.dtmTDone 3 := if_pos ⟨h1, h3⟩

theorem dtmWrite_purging {k : Nat} (hk : k = 1 ∨ k = 3) (h : s.sliceState n = 2) : s.dtmWrite k = s.dtmTDone 2 := by
  subst hn
  exact (if_neg (by omega)).trans (if_pos h)

variable (h : s.sliceState n ≠ 2)
include h

theorem dtmWrite_quota {c g x : Nat} (hc : c = fld (s.rd DTM_TDATA_data 0 0) 0 14) (hg : g = fld (s.rd DTM_TDATA_data 0 0) 16 13) (hx : x = fld (s.rd DTM_TDATA_data 0 0) 32 15) :
    s.dtmWrite 1 = if 8192 < c ∨ 4096 < g ∨ 16384 < x then s.dtmTDone 3 else (s.dtmStage TB_QUOTA n 0 (c ||| g <<< 16 ||| x <<< 32)).dtmTDone 0 := by
  subst hn hc hg hx
  unfold State.dtmWrite
  rw [if_neg (by decide), if_neg h, if_pos rfl]

theorem dtmWrite_expect {v : State} (hv : v = (List.range 5).foldl (fun t w => t.dtmStage TB_EXPECT n w (if w = 4 then s.rd DTM_TDATA_data 0 w % 4 else s.rd DTM_TDATA_data 0 w)) s) :
    s.dtmWrite 3 = v.dtmTDone 0 := by
  subst hn
  unfold State.dtmWrite
  rw [if_neg (by decide), if_neg h, if_neg (by decide), hv]

end
end

/-- Settles O49: the commits of a slice, its purge, and the DTM tables. -/
theorem sliceCommitsAndPurges : Obligations.SliceCommitsAndPurges := by
  unfold Obligations.SliceCommitsAndPurges
  intro s sl hsl
  have done {t : State} (hs : s.alive = true) (h : s.purgeDone sl = t) : exec (.purgeComplete sl) s = .next t := by
    rw [exec_act (c := .purgeComplete sl) rfl hs, Nat.mod_eq_of_lt hsl, h]
  refine ⟨fun cairn h => sliceCommit_purging h, fun cairn a b h ha hb => sliceCommit_taken h ha hb, fun k hs hk => ?_, fun u hv hu => ?_, fun hs h => done hs (purgeDone_waits h),
    fun hs h hf hr hk v w hv hw => done hs (purgeDone_ends h hf hr hk hv hw), fun u v n bad hsv hu hn hbad => ?_⟩
  · rw [exec_act (c := .sliceCommit k) rfl hs, Nat.mod_eq_of_lt hk]
  · have commit {t : State} (h : u.dtmSlice = t) : exec .dtmSliceCommit s = .next t := by
      rw [exec_hostWrite (c := .dtmSliceCommit) rfl hv, ← hu, h]
    have purge {t : State} (h : u.purge (u.rd DTM_CMD_ARG_slice) = t) : exec .slicePurge s = .next t := by
      rw [exec_hostWrite (c := .slicePurge) rfl hv, ← hu, h]
    exact ⟨fun t h => commit (dtmSlice_taken h), fun t h => commit (dtmSlice_refused h), fun h => purge (purge_refused h),
      fun n v hn h hv => purge (by subst hn; exact purge_begins h hv)⟩
  · have read {k : Nat} {t : State} (hk : k < 16) (h : u.dtmRead k = t) : exec (.dtmRead k) s = .next t := by
      rw [exec_hostWrite (c := .dtmRead k) rfl hsv, ← hu, Nat.mod_eq_of_lt hk, h]
    have write {k : Nat} {t : State} (hk : k < 16) (h : u.dtmWrite k = t) : exec (.dtmWrite k) s = .next t := by
      rw [exec_hostWrite (c := .dtmWrite k) rfl hsv, ← hu, Nat.mod_eq_of_lt hk, h]
    subst hbad
    refine ⟨read (by decide) (dtmRead_slice hn), fun h => read (by decide) ?_, fun h => read (by decide) ?_, read (by decide) (dtmRead_use hn),
      fun h => read (by decide) (dtmRead_expect_good hn h), fun h => read (by decide) (dtmRead_expect_bad hn h), fun k hk h => read hk (dtmRead_unknown h),
      fun k hk h1 h3 => write hk (dtmWrite_unknown h1 h3), fun h => ⟨write (by decide) (dtmWrite_purging hn (Or.inl rfl) h), write (by decide) (dtmWrite_purging hn (Or.inr rfl) h)⟩,
      fun h c g x hc hg hx => ⟨fun hbig => write (by decide) ((dtmWrite_quota hn h hc hg hx).trans (if_pos hbig)),
        fun hc' hg' hx' => write (by decide) ((dtmWrite_quota hn h hc hg hx).trans (if_neg (by omega)))⟩, fun h hv => write (by decide) (dtmWrite_expect hn h hv)⟩
    · rw [dtmRead_quota hn, h]
      simp
    · rw [dtmRead_quota hn, h]
      simp

end Sys2Proof.Machine

/-! PROOFS. The datum's recomputation, the beacons and the graces (R380 to R386). -/

namespace Sys2Proof.Machine

set_option Elab.async false

section
variable {s : State}

/-! The end of the walk (R381). -/

theorem walkEnd_idle (h : s.dtm.walking = false) : s.walkEnd = s := by
  unfold State.walkEnd
  rw [if_pos (by simp [h])]

section
variable {t u : State} {m : Nat} {diff : List Nat} (h : s.dtm.walking = true) (hm : m = s.moduleAfresh)
  (ht : t = { s with dtm := { s.dtm with module := m, sums := s.slicesAfresh, walking := false } })
  (hdiff : diff = (List.range 4096).filter fun sl => s.sliceDatum sl ≠ t.sliceDatum sl) (hu : u = t.cnt DTM_PARITY_count 0 0 0 s.badCovered)
include h hm ht hdiff hu

/-- What the walk shows of the datums that differed (R381). -/
theorem walkEnd_walked : s.walkEnd = (if m ≠ s.dtm.module ∨ diff ≠ [] then (diff.foldl (fun u sl => u.datumDiffers false sl)
      (if m ≠ s.dtm.module then (if m ≠ s.dtm.module ∨ diff ≠ [] then u.wr DTM_RECOMPUTE_LOC_module 0 else u).datumDiffers true 0
        else if m ≠ s.dtm.module ∨ diff ≠ [] then u.wr DTM_RECOMPUTE_LOC_module 0 else u)).irq 6 6
    else diff.foldl (fun u sl => u.datumDiffers false sl)
      (if m ≠ s.dtm.module then (if m ≠ s.dtm.module ∨ diff ≠ [] then u.wr DTM_RECOMPUTE_LOC_module 0 else u).datumDiffers true 0
        else if m ≠ s.dtm.module ∨ diff ≠ [] then u.wr DTM_RECOMPUTE_LOC_module 0 else u)).dtmDone 0 0 := by
  unfold State.walkEnd
  rw [if_neg (by simp [h]), ← hm]
  extract_lets m' ss src t' diff'
  have ht' : t' = t := ht.symm
  clear_value t'
  subst ht'
  have hd' : diff' = diff := hdiff.symm
  clear_value diff'
  subst hd' hu
  rfl

theorem walkEnd_agrees (he : m = s.dtm.module) (hd : diff = []) : s.walkEnd = u.dtmDone 0 0 := by
  rw [walkEnd_walked h hm ht hdiff hu, if_neg (by simp [he, hd]), if_neg (not_not_intro he), if_neg (by simp [he, hd]), hd, List.foldl_nil]

theorem walkEnd_slices (he : m = s.dtm.module) (hd : diff ≠ []) :
    s.walkEnd = ((diff.foldl (fun u sl => u.datumDiffers false sl) (u.wr DTM_RECOMPUTE_LOC_module 0)).irq 6 6).dtmDone 0 0 := by
  rw [walkEnd_walked h hm ht hdiff hu, if_pos (Or.inr hd), if_neg (not_not_intro he), if_pos (Or.inr hd)]

theorem walkEnd_module (he : m ≠ s.dtm.module) :
    s.walkEnd = ((diff.foldl (fun u sl => u.datumDiffers false sl) ((u.wr DTM_RECOMPUTE_LOC_module 0).datumDiffers true 0)).irq 6 6).dtmDone 0 0 := by
  rw [walkEnd_walked h hm ht hdiff hu, if_pos (Or.inl he), if_pos he, if_pos (Or.inl he)]

end

/-! A beacon interval (R382 to R387). -/

theorem beaconInterval_within {c : Nat} (h : s.dtm.beaconAt = some c) (hc : s.cyc < c + s.beaconCyc) : s.beaconInterval = s := by
  unfold State.beaconInterval
  rw [h]
  exact if_pos (by simp [hc])

section
variable {n : Nat} {b : Beacon} {u : State} (h : ∀ c, s.dtm.beaconAt = some c → c + s.beaconCyc ≤ s.cyc) (hn : n = s.nextSlice s.dtm.beaconSlice) (hb : b = s.beacon n)
  (hu : u = { s with dtm := { s.dtm with beaconAt := some s.cyc, beaconSlice := n } })
include h hn hb hu

/-- A beacon interval that is due: the beacons while beacon_en is set, then the checks and the silent fibres. -/
theorem beaconInterval_due : s.beaconInterval = (List.range 64).foldl State.beaconSilent (if !u.flag DTM_CTRL_beacon_en then u else
    ((List.range 64).foldl (fun t f => if t.lit f && !t.bypassed f then
      (t.sendLmf f { typ := 0x20, body := [b.serial, b.time, b.epoch, b.datum, b.slice, b.sdatum] }).cnt DTM_BEACON_TX_count else t) u).logBeacon b 0x8000).ownChecks := by
  have hdue : (!(match s.dtm.beaconAt with | none => true | some c => decide (c + s.beaconCyc ≤ s.cyc))) ≠ true := by
    cases hat : s.dtm.beaconAt with
    | none => simp
    | some c => simpa using h c hat
  refine (if_neg hdue).trans ?_
  rw [← hn, ← hb, ← hu]

theorem beaconInterval_sends {g : State → Nat → State}
    (hg : ∀ t f, g t f = if t.lit f = true ∧ t.bypassed f = false then (t.sendLmf f { typ := 0x20, body := [b.serial, b.time, b.epoch, b.datum, b.slice, b.sdatum] }).cnt DTM_BEACON_TX_count else t)
    (he : u.flag DTM_CTRL_beacon_en = true) :
    s.beaconInterval = (List.range 64).foldl State.beaconSilent ((((List.range 64).foldl g u).logBeacon b 0x8000).ownChecks) := by
  obtain rfl : g = fun t f => if t.lit f && !t.bypassed f then
      (t.sendLmf f { typ := 0x20, body := [b.serial, b.time, b.epoch, b.datum, b.slice, b.sdatum] }).cnt DTM_BEACON_TX_count else t :=
    funext fun t => funext fun f => by simp only [hg, Bool.and_eq_true, Bool.not_eq_true']
  rw [beaconInterval_due h hn hb hu, if_neg (by simp [he])]

theorem beaconInterval_quiet (he : u.flag DTM_CTRL_beacon_en = false) : s.beaconInterval = (List.range 64).foldl State.beaconSilent u.ownChecks := by
  rw [beaconInterval_due h hn hb hu, if_pos (by simp [he])]

end

/-! A beacon received (R383, R384). -/

section
variable {f : Nat} {b : Beacon} {u v w : State}

theorem beaconRx_bypassed (h : s.bypassed f = true) : s.beaconRx f b = s := if_pos h

variable (h : s.bypassed f = false)
  (hu : u = ((((s.wr DTM_NBR_epoch b.epoch 0 f).wr DTM_NBR_slice b.slice 0 f).wr DTM_NBR_time b.time 0 f).wr DTM_NBR_datum_lo b.datum 0 f))
  (hv : v = ((((u.wr DTM_NBR_datum_hi (b.datum / 2 ^ 64) 0 f).wr DTM_NBR_sdatum_lo b.sdatum 0 f).wr DTM_NBR_sdatum_hi (b.sdatum / 2 ^ 64) 0 f).cnt DTM_BEACON_RX_count).logBeacon
    { b with time := b.time % 2 ^ 48, epoch := b.epoch % 2 ^ 32, slice := b.slice % 4096 } f)
  (hw : w = { v with dtm := { v.dtm with silent := v.dtm.silent.put f 0 } })
include h hu hv hw

/-- A beacon received on a fibre that is not bypassed: stored, counted, logged, and checked where the fibre is EXPECTED. -/
theorem beaconRx_stored : s.beaconRx f b = if w.trv f ≠ 2 || !w.flag DTM_CTRL_check_en then w else
    let want := w.rd TRV_PLAT_datum_lo 0 f + w.rd TRV_PLAT_datum_hi 0 f * 2 ^ 64
    let x := if want = 0 then w else w.check 3 f (b.datum % 2 ^ 128 ≠ want) (w.graceOver none)
    x.check 4 f (b.epoch % 2 ^ 32 ≠ x.rd DTM_EPOCH_cur) (x.graceOver none) := by
  subst hw hv hu
  unfold State.beaconRx
  rw [if_neg (by simp [h])]

theorem beaconRx_unchecked (hn : w.trv f ≠ 2 ∨ w.flag DTM_CTRL_check_en = false) : s.beaconRx f b = w := by
  rw [beaconRx_stored h hu hv hw, if_pos (by simpa using hn)]

theorem beaconRx_checked {want : Nat} {x : State} (ht : w.trv f = 2) (he : w.flag DTM_CTRL_check_en = true) (hwant : want = w.rd TRV_PLAT_datum_lo 0 f + w.rd TRV_PLAT_datum_hi 0 f * 2 ^ 64)
    (hx : x = if want = 0 then w else w.check 3 f (b.datum % 2 ^ 128 ≠ want) (w.graceOver none)) :
    s.beaconRx f b = x.check 4 f (b.epoch % 2 ^ 32 ≠ x.rd DTM_EPOCH_cur) (x.graceOver none) := by
  subst hx hwant
  rw [beaconRx_stored h hu hv hw, if_neg (by simp [ht, he])]

end
end

/-- Settles O50: the walk's end, the intervals and the beacons received. -/
theorem datumAndBeacons : Obligations.DatumAndBeacons := by
  unfold Obligations.DatumAndBeacons
  intro s
  have walk {t : State} (hs : s.alive = true) (h : s.walkEnd = t) : exec .recomputeEnd s = .next t := (exec_act (c := .recomputeEnd) rfl hs).trans (congrArg _ h)
  have interval {t : State} (hs : s.alive = true) (h : s.beaconInterval = t) : exec .beaconInterval s = .next t := (exec_act (c := .beaconInterval) rfl hs).trans (congrArg _ h)
  have beacon {f : Nat} {b : Beacon} {t : State} (hs : s.alive = true) (hf : f < 64) (h : s.beaconRx f b = t) : exec (.datumBeacon f b) s = .next t :=
    exec_fibre hf (g := fun s f => s.beaconRx f b) hs rfl h
  refine ⟨fun u hv hu => ?_, fun hs h => walk hs (walkEnd_idle h), fun hs h t u m diff hm ht hdiff hu => ⟨fun he hd => walk hs (walkEnd_agrees h hm ht hdiff hu he hd),
      fun he hd => walk hs (walkEnd_slices h hm ht hdiff hu he hd), fun he => walk hs (walkEnd_module h hm ht hdiff hu he)⟩, fun u hv hu => ?_,
    fun hs c h hc => interval hs (beaconInterval_within h hc), fun hs h n b g u hn hb hg hu => ⟨fun he => interval hs (beaconInterval_sends h hn hb hu hg (by rw [hu]; exact he)),
      fun he => interval hs (beaconInterval_quiet h hn hb hu (by rw [hu]; exact he))⟩,
    fun f b hs hf h => beacon hs hf (beaconRx_bypassed h), fun f b u v w hs hf h hu hv hw => ⟨fun hn => beacon hs hf (beaconRx_unchecked h hu hv hw hn),
      fun ht he want x hwant hx => beacon hs hf (beaconRx_checked h hu hv hw ht he hwant hx)⟩, fun hs => exec_act (c := .graceEnd) rfl hs⟩
  · rw [exec_hostWrite (c := .recompute) rfl hv, ← hu]
    rfl
  · rw [exec_hostRead (c := .dtmModuleLoRead) rfl hv, ← hu]
    rfl

end Sys2Proof.Machine

/-! PROOFS. GDDR7: the host's accesses, scrubbing, the range commands and the mailbox (R404, R406 to R414, R424, R426). -/

namespace Sys2Proof.Machine

set_option Elab.async false

/-- What a map lists outside some addresses, where an unlisted address reads as the value given. -/
theorem SMap.getD_filter {α : Type} (d : α) (k : Nat) (p : Nat → Bool) (m : SMap α) :
    SMap.getD d k (m.filter fun c => p c.1) = if p k = true then SMap.getD d k m else d := by
  induction m with
  | nil => simp [SMap.getD]
  | cons e m ih =>
    obtain ⟨j, v⟩ := e
    by_cases hj : p j = true
    · rw [List.filter_cons_of_pos (by simpa using hj)]
      by_cases hjk : j = k
      · subst hjk
        simp [SMap.getD, hj]
      · simp [SMap.getD, hjk, ih]
    · rw [List.filter_cons_of_neg (by simpa using hj), ih]
      by_cases hjk : j = k
      · subst hjk
        simp [hj]
      · simp [SMap.getD, hjk]

section
variable {s : State}

theorem hostAct_served {t : State} (hs : s.alive = true) (hm : s.memSpace = true) (hb : s.busOk = true) : hostAct s t = .next t := by
  simp [hostAct, hs, hm, hb]

/-! Accesses of the host to HDM (R424, R426). -/

section
variable {a mask : Nat} {errs : List (Nat × Nat)} {bytes : List Byte} {poison : Bool}

theorem hostMemRead_reads (h : a < memTop) {r : (List Byte × Bool) × State} (hr : r = (s.strike errs).readLine (a / 64) 3) :
    s.hostMemRead a errs = r.2.emit (.memData (a / 64) r.1.1 r.1.2) := by
  subst hr
  exact if_neg (by omega)

theorem hostMemRead_beyond (h : memTop ≤ a) : s.hostMemRead a errs = s := if_pos h

theorem hostMemWrite_beyond (h : memTop ≤ a) : s.hostMemWrite a bytes mask poison = s := if_pos h

theorem hostMemWrite_sref (h : a < memTop) (hr : s.inSref = true) : s.hostMemWrite a bytes mask poison = s.srefAccess :=
  (if_neg (by omega)).trans (if_pos hr)

theorem hostMemWrite_writes (h : a < memTop) (hr : s.inSref = false) : s.hostMemWrite a bytes mask poison = (List.range 16).foldl (fun t i =>
    if poison then t.writeMarker (a / 64 * 16 + i) else t.writePart (a / 64 * 16 + i) (fld mask (4 * i) 4) (leNat ((bytes.drop (4 * i)).take 4))) (s.memEvent (a / 64 * 64) 64 3) :=
  (if_neg (by omega)).trans (if_neg (by simp [hr]))

end

/-! Scrubbing (R411, R412). -/

section
variable {errs : List (Nat × Nat)} {u v : State} (hu : u = s.strike errs)
include hu

theorem scrubStep_rests (h : u.flag MEM_SCRUB_CFG_enable = false ∨ u.inSref = true ∨ u.scrubDue = false) : s.scrubStep errs = u := by
  subst hu
  exact if_pos (by simpa [or_assoc] using h)

variable (he : u.flag MEM_SCRUB_CFG_enable = true) (hr : u.inSref = false) (hd : u.scrubDue = true)
include he hr hd

theorem scrubStep_none (hn : u.nextValid u.mem.scrub = none) (h0 : u.mem.scrub = 0) : s.scrubStep errs = u := by
  subst hu
  unfold State.scrubStep
  rw [if_neg (by simp [he, hr, hd]), hn]
  exact if_pos h0

theorem scrubStep_block {b : Nat} (hn : u.nextValid u.mem.scrub = some b) (hv : v = (u.wr MEM_SCRUB_STAT_running 1).scrubAt b) :
    s.scrubStep errs = { v with mem := { v.mem with scrub := b + 1, passAt := if v.mem.scrub = 0 then some v.cyc else v.mem.passAt } } := by
  subst hv hu
  unfold State.scrubStep
  rw [if_neg (by simp [he, hr, hd]), hn]

omit hd in
theorem scrubStep_passes (hn : u.nextValid u.mem.scrub = none) (h0 : u.mem.scrub ≠ 0) (hv : v = u.wr MEM_SCRUB_STAT_pass_count (u.rd MEM_SCRUB_STAT_pass_count + 1)) :
    s.scrubStep errs = ({ v with mem := { v.mem with scrub := 0 } } : State).wr MEM_SCRUB_STAT_running 0 := by
  subst hv hu
  have hd : (s.strike errs).scrubDue = true := by simp [State.scrubDue, h0]
  unfold State.scrubStep
  rw [if_neg (by simp [he, hr, hd]), hn]
  exact if_neg h0

end

/-! REWRITE and ZERO (R407, R408, R414). -/

theorem rewrite_beyond (h : memTop < s.memRange.1 + s.memRange.2) : s.rewrite = s.memDone 3 := if_pos h

theorem rewrite_sref (h : s.memRange.1 + s.memRange.2 ≤ memTop) (hr : s.inSref = true) : s.rewrite = s.srefAccess.memDone 0 :=
  (if_neg (by omega)).trans (if_pos hr)

theorem rewrite_scrubs (h : s.memRange.1 + s.memRange.2 ≤ memTop) (hr : s.inSref = false) :
    s.rewrite = ((s.mem.valid.flatMap fun g => (List.range 512).map (g * 512 + ·)).foldl (fun t b =>
      if s.memRange.1 ≤ b * 128 ∧ b * 128 < s.memRange.1 + s.memRange.2 then t.scrubAt b else t) s).memDone 0 :=
  (if_neg (by omega)).trans (if_neg (by simp [hr]))

theorem zero_refused (h : s.memRange.1 % 65536 ≠ 0 ∨ s.memRange.2 % 65536 ≠ 0 ∨ memTop < s.memRange.1 + s.memRange.2) : s.zero = s.memDone 3 := if_pos h

/-- What ZERO leaves of the memory: what lies outside the range. -/
def MemSt.outside (m : MemSt) (a n : Nat) : MemSt :=
  { m with
    data := m.data.filter fun c => c.1 < a ∨ a + n ≤ c.1
    synd := m.synd.filter fun c => 4 * c.1 < a ∨ a + n ≤ 4 * c.1
    valid := m.valid.filter fun g => 65536 * g < a ∨ a + n ≤ 65536 * g
    loose := m.loose.filter fun g => 65536 * g < a ∨ a + n ≤ 65536 * g
    known := m.known.filter fun w => 4 * w < a ∨ a + n ≤ 4 * w
    poison := m.poison.filter fun e => 64 * e.1 < a ∨ a + n ≤ 64 * e.1 }

theorem byte_outside {a n x : Nat} : ({ s with mem := s.mem.outside a n } : State).byte x = if a ≤ x ∧ x < a + n then 0 else s.byte x := by
  refine (SMap.getD_filter 0 x (fun b => decide (b < a ∨ a + n ≤ b)) s.mem.data).trans ?_
  by_cases h : a ≤ x ∧ x < a + n
  · rw [if_pos h, if_neg (by simpa using h)]
  · rw [if_neg h, if_pos (by simp only [decide_eq_true_eq]; omega)]
    rfl

theorem mem_valid_outside {m : MemSt} {a n g : Nat} : g ∈ (m.outside a n).valid ↔ g ∈ m.valid ∧ (65536 * g < a ∨ a + n ≤ 65536 * g) := by
  simp [MemSt.outside]

section
variable (ha : s.memRange.1 % 65536 = 0) (hn : s.memRange.2 % 65536 = 0) (ht : s.memRange.1 + s.memRange.2 ≤ memTop)
include ha hn ht

theorem zero_busy (h : s.zeroBusy s.memRange.1 s.memRange.2 = true) : s.zero = s.memDone 2 :=
  (if_neg (by omega)).trans (if_pos h)

theorem zero_zeroes (h : s.zeroBusy s.memRange.1 s.memRange.2 = false) :
    s.zero = (({ s with mem := s.mem.outside s.memRange.1 s.memRange.2 } : State).showPoison).memDone 0 :=
  (if_neg (by omega)).trans (if_neg (by simp [h]))

end
end

/-- Settles O51: the accesses, the scrub steps and the range commands, each by its case. -/
theorem memoryAccessesAndCommands : Obligations.MemoryAccessesAndCommands := by
  unfold Obligations.MemoryAccessesAndCommands
  intro s a errs bytes mask poison hs
  have read {t : State} (hm : s.memSpace = true) (h : s.hostMemRead a errs = t) : exec (.hostMemRead a errs) s = .next t := by
    rw [exec_act (c := .hostMemRead a errs) rfl hs, if_pos hm, h]
  have write {t : State} (hm : s.memSpace = true) (h : s.hostMemWrite a bytes mask poison = t) : exec (.hostMemWrite a bytes mask poison) s = .next t := by
    rw [exec_act (c := .hostMemWrite a bytes mask poison) rfl hs, if_pos hm, h]
  have scrub {t : State} (h : s.scrubStep errs = t) : exec (.scrubBlock errs) s = .next t := (exec_act (c := .scrubBlock errs) rfl hs).trans (congrArg _ h)
  refine ⟨fun r hm h hr => read hm (hostMemRead_reads h hr), fun hm h hr => write hm (hostMemWrite_sref h hr), fun hm h hr => write hm (hostMemWrite_writes h hr), fun h => ?_, fun u hu h => scrub ?_,
    fun u v b hu he hr hd hn hv => scrub (scrubStep_block hu he hr hd hn hv), fun u v hu he hr hn h0 hv => scrub (scrubStep_passes hu he hr hn h0 hv), fun u hv hu => ?_,
    fun hm hb => ⟨hostAct_served hs hm hb, hostAct_served hs hm hb, hostAct_served hs hm hb, hostAct_served hs hm hb⟩⟩
  · cases hm : s.memSpace with
    | false =>
      rw [exec_act (c := .hostMemRead a errs) rfl hs, exec_act (c := .hostMemWrite a bytes mask poison) rfl hs, hm]
      exact ⟨rfl, rfl⟩
    | true =>
      have hbeyond : memTop ≤ a := by simpa [hm] using h
      exact ⟨read hm (hostMemRead_beyond hbeyond), write hm (hostMemWrite_beyond hbeyond)⟩
  · by_cases hrest : u.flag MEM_SCRUB_CFG_enable = false ∨ u.inSref = true ∨ u.scrubDue = false
    · exact scrubStep_rests hu hrest
    · obtain ⟨hn, h0⟩ : u.nextValid u.mem.scrub = none ∧ u.mem.scrub = 0 := Or.resolve_left (by rwa [or_assoc, or_assoc]) hrest
      obtain ⟨he, hr, hd⟩ := not_or.mp hrest |>.imp id not_or.mp
      exact scrubStep_none hu (by simpa using he) (by simpa using hr) (by simpa using hd) hn h0
  · have rewrites {t : State} (h : u.rewrite = t) : exec .rewrite s = .next t := by rw [exec_hostWrite (c := .rewrite) rfl hv, ← hu, h]
    have zeroes {t : State} (h : u.zero = t) : exec .zero s = .next t := by rw [exec_hostWrite (c := .zero) rfl hv, ← hu, h]
    refine ⟨fun h => ⟨rewrites (rewrite_beyond h), zeroes (zero_refused (Or.inr (Or.inr h)))⟩, fun h hr => rewrites (rewrite_scrubs h hr), fun h hr => rewrites (rewrite_sref h hr),
      fun h => zeroes (zero_refused (or_assoc.mp (Or.inl h))), fun ha hn ht => ⟨fun h => zeroes (zero_busy ha hn ht h), fun h => ⟨{ u with mem := u.mem.outside u.memRange.1 u.memRange.2 },
        zeroes (zero_zeroes ha hn ht h), rfl, fun x => byte_outside, fun g => mem_valid_outside⟩⟩⟩

end Sys2Proof.Machine

/-! PROOFS. What reaches the host interface: the accesses served and refused, and the pages' interrupts (R11, R14, R427, R430, R434, R460). -/

namespace Sys2Proof.Machine

set_option Elab.async false

section
variable {s : State} {bar pg off size : Nat}

theorem hostAct_unanswered {t : State} (h : s.memSpace = false) : hostAct s t = .next s := by simp [hostAct, h]

theorem hostRead_refused {g : State → State} {c : Nat} (hs : s.alive = true) (hm : s.memSpace = true) (hb : s.busOk = true) (hc : s.accessCause pg off = some c) :
    hostRead s pg off g = .next (s.refuseRead pg off c) := by
  simp [hostRead, hostAct, hs, hm, hb, hc]

theorem writeServed_status {g : State → State} (h : off = 0x18 ∨ off = 0xA0) : s.writeServed pg off g = (g s).event pg 4 := if_pos h

theorem access_served {g : State → State} (hc : s.accessCause pg off = none) : s.access pg off g = s.writeServed pg off g := by
  unfold State.access
  rw [hc]

theorem busWrite_served {w : Wr} {env : Env} (hc : s.accessCause pg off = none) : s.busWrite pg off w env = (true, s.writeServed pg off fun s => s.regWrite pg off w env) := by
  unfold State.busWrite
  rw [hc]

theorem hostLoad_refused {c : Nat} (h : s.readCause bar pg off size = some c) : s.hostLoad bar pg off size = s.refuseRead pg off c := by
  unfold State.hostLoad
  rw [h]

theorem hostLoad_served {v : Nat} {u : State} (h : s.readCause bar pg off size = none) (hr : s.barRead bar pg (off / 8 * 8) (readSize off size) = (v, u)) :
    s.hostLoad bar pg off size = u.emit (.readData (WSize.part (readSize off size) v)) := by
  unfold State.hostLoad
  rw [h]
  simp only [hr]

section
variable {v : Nat} {env : Env}

theorem hostStore_refused {c : Nat} (h : s.writeCause bar pg off size = some c) : s.hostStore bar pg off size v env = s.refuseAccess pg off true c := by
  unfold State.hostStore
  rw [h]

theorem hostStore_served (h : s.writeCause bar pg off size = none) : s.hostStore bar pg off size v env =
    if bar = 0 then (s.busWrite pg (off / 8 * 8) (wrAt off size v) env).2 else if bar = 2 then s.ringWrite pg (off % 4096 / 8 * 8) (wrAt off size v) else s := by
  unfold State.hostStore
  rw [h]

end

/-! Why an access is refused (R430). -/

theorem cause_size (h : (size ≠ 4 ∧ size ≠ 8) ∨ off % size ≠ 0) : s.readCause bar pg off size = some 3 ∧ s.writeCause bar pg off size = some 3 := ⟨if_pos h, if_pos h⟩

section
variable (hsize : size = 4 ∨ size = 8) (halign : off % size = 0)
include hsize halign

theorem cause_bar0 : s.readCause 0 pg off size = s.accessCause pg off ∧ s.writeCause 0 pg off size = s.accessCause pg off :=
  ⟨(if_neg (by omega)).trans (if_pos rfl), (if_neg (by omega)).trans (if_pos rfl)⟩

theorem cause_bar2 (h : 32 ≤ pg) : s.readCause 2 pg off size = some 1 ∧ s.writeCause 2 pg off size = some 1 := by
  unfold State.readCause State.writeCause
  constructor
  · rw [if_neg (by omega), if_neg (by decide), if_pos rfl, if_pos h]
  · rw [if_neg (by omega), if_neg (by decide), if_pos rfl, if_pos h]

theorem readCause_bar4 : s.readCause 4 pg off size = s.aliasCause pg off := by
  unfold State.readCause
  rw [if_neg (by omega), if_neg (by decide), if_neg (by decide)]

end
end

/-- Settles O53: the enables, the interrupt pages, and the accesses by the cause that refuses them or their BAR. -/
theorem hostAccessesAreServedOrRefused : Obligations.HostAccessesAreServedOrRefused := by
  unfold Obligations.HostAccessesAreServedOrRefused
  intro s hs
  refine ⟨fun mem master => exec_act (c := .busMasterEnable mem master) rfl hs, fun width rate flit => exec_act (c := .cxlLinkChange width rate flit) rfl hs,
    fun h bar pg off size v env z => ⟨hostAct_unanswered h, hostAct_unanswered h, hostAct_unanswered h⟩, fun pg w hpg => ⟨fun hv => ⟨_, rfl, ?_⟩, fun hv => ⟨_, rfl, ?_⟩⟩, fun hm hb =>
    ⟨fun pg off z hpg hoff h8 => ?_, fun bar pg off size hpg hoff => ?_, fun bar pg off size v env hpg hoff => ?_, fun bar pg off size hsize halign =>
      ⟨fun h => h ▸ cause_bar0 hsize halign, fun h hp => h ▸ cause_bar2 hsize halign hp, fun h => h ▸ readCause_bar4 hsize halign⟩, fun bar pg off size h => cause_size h⟩⟩
  · have hmask : exec (.pageIrqWrite pg true w) s = hostWrite s pg 0x20 fun s => s.irqWrite pg true w :=
      (show exec (.pageIrqWrite pg true w) s = hostWrite s (pg % 256) 0x20 fun s => s.irqWrite (pg % 256) true w from rfl).trans (by rw [Nat.mod_eq_of_lt hpg])
    exact exec_hostWrite hmask hv
  · obtain ⟨halive, hmem, hbus, hcause⟩ := hv
    have hstatus : exec (.pageIrqWrite pg false w) s = hostAct s (s.access pg 0x18 fun s => s.irqWrite pg false w) :=
      (show exec (.pageIrqWrite pg false w) s = hostAct s (s.access (pg % 256) 0x18 fun s => s.irqWrite (pg % 256) false w) from rfl).trans (by rw [Nat.mod_eq_of_lt hpg])
    refine (hstatus.trans (hostAct_served halive hmem hbus)).trans ?_
    exact congrArg _ ((access_served hcause).trans (writeServed_status (Or.inl rfl)))
  · have hread : exec (.rcRead pg off z) s = hostRead s pg off fun s => (s.regRead pg off z).2.emit (.readData (WSize.part z (s.regRead pg off z).1)) := by
      have hoff8 : off % 65536 / 8 * 8 = off := by omega
      exact (show exec (.rcRead pg off z) s = hostRead s (pg % 256) (off % 65536 / 8 * 8) fun s =>
        (s.regRead (pg % 256) (off % 65536 / 8 * 8) z).2.emit (.readData (WSize.part z (s.regRead (pg % 256) (off % 65536 / 8 * 8) z).1)) from rfl).trans (by rw [hoff8, Nat.mod_eq_of_lt hpg])
    refine ⟨fun c hc => hread.trans (hostRead_refused hs hm hb hc), fun v u hc hr => hread.trans ((hostRead_served hs hm hb hc).trans ?_)⟩
    simp only [hr]
  · have load : exec (.refusedRead bar pg off size) s = .next (s.hostLoad bar pg off size) :=
      (hostAct_served hs hm hb).trans (by rw [Nat.mod_eq_of_lt hpg, Nat.mod_eq_of_lt hoff])
    exact ⟨fun c hc => load.trans (congrArg _ (hostLoad_refused hc)), fun v u hc hr => load.trans (congrArg _ (hostLoad_served hc hr))⟩
  · have store {t : State} (h : s.hostStore bar pg off size v env = t) : exec (.registerWrite bar pg off size v env) s = .next t :=
      (hostAct_served hs hm hb).trans (by rw [Nat.mod_eq_of_lt hpg, Nat.mod_eq_of_lt hoff, h])
    refine ⟨fun c hc => store (hostStore_refused hc), fun h0 hw ha => ⟨fun h1 h2 => store ?_, fun h => store ?_⟩, fun h2 hw => store ?_, fun h4 hw => store ?_⟩
    · rw [hostStore_served hw, if_pos h0, busWrite_served ha, State.writeServed_eq s h1 h2]
    · rw [hostStore_served hw, if_pos h0, busWrite_served ha, writeServed_status h]
    · subst h2
      rw [hostStore_served hw, if_neg (by decide), if_pos rfl]
    · subst h4
      rw [hostStore_served hw, if_neg (by decide), if_neg (by decide)]

end Sys2Proof.Machine

/-! PROOFS. Command rings: doorbells, resets, descriptors, polls and completions (R435 to R443, R460). -/

namespace Sys2Proof.Machine

set_option Elab.async false

theorem ringAct_alive {s t : State} (hs : s.alive = true) (hb : s.busOk = true) : ringAct s t = .next t := by simp [ringAct, hs, hb]

section
variable {s : State} {q : Nat}

/-! The ring pages (R430, R435, R436, R443). -/

section
variable {off : Nat} {f : State → State}

theorem ringAccess_unassigned (h : 32 ≤ q) : s.ringAccess q off f = s.refuseAccess q off true 1 := if_pos h

theorem ringAccess_gated (h : q < 32) (hf : s.noFirmware = true) : s.ringAccess q off f = s.refuseAccess q off true 0 := (if_neg (by omega)).trans (if_pos hf)

theorem ringAccess_served (h : q < 32) (hf : s.noFirmware = false) : s.ringAccess q off f = f (s.event 0 4) := (if_neg (by omega)).trans (if_neg (by simp [hf]))

end

section
variable {w : Wr}

theorem doorbell_elsewhere (h : w.hits 0 16 = false) : s.doorbell q w = s := if_pos (by simp [h])

theorem doorbell_hits {v : Nat} (h : w.hits 0 16 = true) (hv : v = w.merge 0 16 (s.rd HIF_RQ_TAIL_tail q)) :
    s.doorbell q w = if s.ringSize q ≤ v then s.irq 0 1 else s.wr HIF_RQ_TAIL_tail v q := by
  subst hv
  exact if_neg (by simp [h])

theorem ringCmd_none (h : w.ones 0 1 = 0) : s.ringCmd q w = s := if_pos h

theorem ringCmd_clears (h : w.ones 0 1 ≠ 0) (hr : (s.ring_ q).run = none) : s.ringCmd q w = s.ringClear q := (if_neg h).trans (if_neg (by simp [hr]))

theorem ringCmd_waits (h : w.ones 0 1 ≠ 0) (hr : (s.ring_ q).run ≠ none) : s.ringCmd q w = s.setHring q { s.ring_ q with reset := true } :=
  (if_neg h).trans (if_pos (Option.isSome_iff_ne_none.mpr hr))

end

/-! A descriptor fetched (R437, R438). -/

section
variable {raw : List Byte} {poison fail : Bool} {lost : List Nat} (hs : s.alive = true) (hq : q < 16)
include hs hq

theorem exec_descriptorFetch : exec (.descriptorFetch q raw poison fail lost) s = .next (if s.ringOn q = false then s else
    match s.fetchSlot q with
    | none => s
    | some i => if fail then s.ringStop q i else
      (s.setHring q { s.ring_ q with desc := (s.ring_ q).desc ++ [{ raw := (raw ++ List.replicate 128 0).take 128, poison := poison }] }).ringServe lost) := by
  rw [exec_act (c := .descriptorFetch q raw poison fail lost) rfl hs, Nat.mod_eq_of_lt hq]
  simp only [Bool.not_eq_true'] <;> rfl

theorem exec_descriptorFetch_idle (h : s.ringOn q = false ∨ s.fetchSlot q = none) : exec (.descriptorFetch q raw poison fail lost) s = .next s := by
  rw [exec_descriptorFetch hs hq]
  cases hon : s.ringOn q with
  | false => rw [if_pos rfl]
  | true =>
    have hslot : s.fetchSlot q = none := by simpa [hon] using h
    rw [if_neg (by decide), hslot]

theorem exec_descriptorFetch_slot {i : Nat} (hon : s.ringOn q = true) (hslot : s.fetchSlot q = some i) :
    exec (.descriptorFetch q raw poison fail lost) s = .next (if fail then s.ringStop q i else
      (s.setHring q { s.ring_ q with desc := (s.ring_ q).desc ++ [{ raw := (raw ++ List.replicate 128 0).take 128, poison := poison }] }).ringServe lost) := by
  rw [exec_descriptorFetch hs hq, if_neg (by simp [hon]), hslot]

end

/-! A descriptor in progress (R440 to R442). -/

theorem Desc.writes_nil {d : Desc} (h : d.opcode = 0 ∨ d.opcode = 2) : d.writes = [] := by
  unfold Desc.writes
  rw [if_neg (by omega), if_neg (by omega)]

theorem Desc.reads_nil {d : Desc} (h : d.opcode = 0 ∨ d.opcode = 1) : d.reads = [] := by
  unfold Desc.reads
  rw [if_neg (by omega), if_neg (by omega)]

theorem descFinish_unread {d : Desc} {v : Nat} {lost : List Nat} (h : d.opcode = 0 ∨ d.opcode = 1) : s.descFinish q d v lost = s.ringDone q 0 v [] lost := by
  unfold State.descFinish
  rw [Desc.reads_nil h]
  rfl

theorem descFinish_reads {d : Desc} {v : Nat} {lost : List Nat} {ok : Bool} {vs : List Nat} {u : State} (h : s.descReads d.page d.reads = (ok, vs, u)) :
    s.descFinish q d v lost = u.ringDone q (if ok then 0 else 3) v vs lost := by
  unfold State.descFinish
  rw [h]

section
variable {op : Nat} {env : Env} {lost : List Nat}

theorem descRun_idle (h : (s.ring_ q).run = none) : s.descRun q op env lost = s := by
  unfold State.descRun
  simp only [h]

variable {e : RingEnt} {d : Desc} (h : (s.ring_ q).run = some e) (hd : d = descOf e.raw)
include h hd

theorem descRun_other (ho : d.opcode ≠ op ∨ q < 16 ∧ s.busMaster = false) : s.descRun q op env lost = s := by
  subst hd
  unfold State.descRun
  simp only [h]
  exact if_pos (by simpa using ho)

variable (ho : d.opcode = op) (hm : q < 16 → s.busMaster = true)
include ho hm

theorem descRun_mine : s.descRun q op env lost = if (s.ring_ q).wrote then (s.descPoll q d lost).ringServe lost
    else if !(s.descWrites d.page env d.writes).1 then ((s.descWrites d.page env d.writes).2.ringDone q 3 0 [] lost).ringServe lost
    else if op = 3 ∨ op = 4 then (((s.descWrites d.page env d.writes).2.setHring q { (s.descWrites d.page env d.writes).2.ring_ q with wrote := true }).descPoll q d lost).ringServe lost
    else ((s.descWrites d.page env d.writes).2.descFinish q d 0 lost).ringServe lost := by
  subst hd
  unfold State.descRun
  simp only [h]
  exact if_neg (by simp only [ho, Bool.not_eq_true', ne_eq, not_true_eq_false, false_or, not_and, Bool.not_eq_false]; exact hm)

theorem descRun_polls (hw : (s.ring_ q).wrote = true) : s.descRun q op env lost = (s.descPoll q d lost).ringServe lost := by
  rw [descRun_mine h hd ho hm, if_pos hw]

variable {u : State} (hw : (s.ring_ q).wrote = false)
include hw

theorem descRun_refused (hu : s.descWrites d.page env d.writes = (false, u)) : s.descRun q op env lost = (u.ringDone q 3 0 [] lost).ringServe lost := by
  rw [descRun_mine h hd ho hm, if_neg (by simp [hw]), hu]
  exact if_pos rfl

theorem descRun_writes (hop : op = 3 ∨ op = 4) (hu : s.descWrites d.page env d.writes = (true, u)) :
    s.descRun q op env lost = ((u.setHring q { u.ring_ q with wrote := true }).descPoll q d lost).ringServe lost := by
  rw [descRun_mine h hd ho hm, if_neg (by simp [hw]), hu, if_neg (by simp), if_pos hop]

theorem descRun_finishes (hop : op ≠ 3 ∧ op ≠ 4) (hu : s.descWrites d.page env d.writes = (true, u)) : s.descRun q op env lost = (u.descFinish q d 0 lost).ringServe lost := by
  rw [descRun_mine h hd ho hm, if_neg (by simp [hw]), hu, if_neg (by simp), if_neg (by omega)]

end

section
variable {d : Desc} {lost : List Nat} {v : Nat} {u : State}

theorem descPoll_busy (h : s.busRead d.page d.poll = (some v, u)) (hv : bit v 0 = true) : s.descPoll q d lost = u.setHring q { u.ring_ q with polled := v } := by
  unfold State.descPoll
  rw [h]
  exact if_pos hv

theorem descPoll_done (h : s.busRead d.page d.poll = (some v, u)) (hv : bit v 0 = false) : s.descPoll q d lost = u.descFinish q d v lost := by
  unfold State.descPoll
  rw [h]
  exact if_neg (by simp [hv])

theorem descPoll_refused (h : s.busRead d.page d.poll = (none, u)) : s.descPoll q d lost = u.ringDone q 3 0 [] lost := by
  unfold State.descPoll
  rw [h]

end

/-! The time limit of a poll (R441). -/

section
variable {n : Nat} {lost : List Nat} (hs : s.alive = true) (hn : n = ringNo q)
include hs hn

theorem exec_pollTimeout : exec (.pollTimeout q lost) s = .next (if (s.ring_ n).run.isSome && (s.ring_ n).wrote && (s.ring_ n).since + msCyc (max 1 (s.rd HIF_CMD_CFG_poll_ms)) ≤ s.cyc &&
    (32 ≤ n || s.busMaster) then (s.ringDone n 4 (s.ring_ n).polled [] lost).ringServe lost else s) := by
  subst hn
  exact exec_act (c := .pollTimeout q lost) rfl hs

theorem exec_pollTimeout_rests (h : (s.ring_ n).run = none ∨ n < 16 ∧ s.busMaster = false) : exec (.pollTimeout q lost) s = .next s := by
  rw [exec_pollTimeout hs hn, if_neg]
  rcases h with h | ⟨h, hm⟩
  · simp [h]
  · have hlow : ¬ 32 ≤ n := by omega
    simp [hlow, hm]

theorem exec_pollTimeout_ends {e : RingEnt} (h : (s.ring_ n).run = some e) (hw : (s.ring_ n).wrote = true) (hm : n < 16 → s.busMaster = true)
    (ht : (s.ring_ n).since + msCyc (max 1 (s.rd HIF_CMD_CFG_poll_ms)) ≤ s.cyc) :
    exec (.pollTimeout q lost) s = .next ((s.ringDone n 4 (s.ring_ n).polled [] lost).ringServe lost) := by
  have hside : (decide (32 ≤ n) || s.busMaster) = true := by
    rcases Nat.lt_or_ge n 16 with hlow | hhigh
    · simp [hm hlow]
    · have hring : 32 ≤ n := by
        unfold ringNo at hn
        split at hn <;> omega
      simp [hring]
  rw [exec_pollTimeout hs hn, if_pos]
  rw [h, hw, hside, decide_eq_true ht]
  rfl

end
end

/-- Settles O54: the ring pages, the descriptors fetched, and the descriptor in progress by its opcode and what its writes and its poll met. -/
theorem ringsRunDescriptors : Obligations.RingsRunDescriptors := by
  unfold Obligations.RingsRunDescriptors
  intro s hs
  have bell {q : Nat} {w : Wr} {t : State} (hm : s.memSpace = true) (hb : s.busOk = true) (hq : q < 65536) (h : s.ringAccess q 0x10 (fun s => s.doorbell q w) = t) :
      exec (.doorbell q w) s = .next t := (hostAct_served hs hm hb).trans (by rw [Nat.mod_eq_of_lt hq, h])
  have reset {q : Nat} {w : Wr} {t : State} (hm : s.memSpace = true) (hb : s.busOk = true) (hq : q < 65536) (h : s.ringAccess q 0x28 (fun s => s.ringCmd q w) = t) :
      exec (.ringReset q w) s = .next t := (hostAct_served hs hm hb).trans (by rw [Nat.mod_eq_of_lt hq, h])
  refine ⟨fun hm hb q w hq => ⟨fun h => ⟨bell hm hb hq (ringAccess_unassigned h), reset hm hb hq (ringAccess_unassigned h)⟩,
      fun h hf => ⟨bell hm hb hq (ringAccess_gated h hf), reset hm hb hq (ringAccess_gated h hf)⟩⟩, fun hm hb hf q w u hq hu => ?_, fun q raw poison fail lost hq hraw => ?_,
    fun hb q lost env hq h => ?_, fun hb q n lost env e d hn h hd => ?_, fun hb q n lost env e d hn h hd hm hw => ?_, fun hb q n lost env e d hn h hd hm hw => ?_⟩
  · subst hu
    have bell' {t : State} (h : (s.event 0 4).doorbell q w = t) : exec (.doorbell q w) s = .next t := bell hm hb (by omega) ((ringAccess_served hq hf).trans h)
    have reset' {t : State} (h : (s.event 0 4).ringCmd q w = t) : exec (.ringReset q w) s = .next t := reset hm hb (by omega) ((ringAccess_served hq hf).trans h)
    exact ⟨fun v h hv => bell' (doorbell_hits h hv), fun h => bell' (doorbell_elsewhere h), fun h => reset' (ringCmd_none h), fun h hr => reset' (ringCmd_clears h hr),
      fun h hr => reset' (ringCmd_waits h hr)⟩
  · have htake : (raw ++ List.replicate 128 0).take 128 = raw := by rw [← hraw, List.take_left]
    refine ⟨fun h => exec_descriptorFetch_idle hs hq h, fun i hon hslot => ⟨?_, ?_⟩⟩
    · rw [exec_descriptorFetch_slot hs hq hon hslot, if_pos rfl]
    · rw [exec_descriptorFetch_slot hs hq hon hslot, if_neg (by decide), htake]
  · have idle {op : Nat} {env : Env} : ringAct s (s.descRun (ringNo q) op env lost) = .next s := by rw [ringAct_alive hs hb, descRun_idle h]
    exact ⟨idle, idle, idle, idle, idle, exec_pollTimeout_rests hs rfl (Or.inl h)⟩
  · have other {op : Nat} {env : Env} (ho : d.opcode ≠ op ∨ n < 16 ∧ s.busMaster = false) : ringAct s (s.descRun (ringNo q) op env lost) = .next s := by
      rw [ringAct_alive hs hb, ← hn, descRun_other h hd ho]
    exact ⟨fun ho => other ho, fun ho => other ho, fun ho => other ho, fun ho => other ho, fun ho => other ho, fun hq hm => exec_pollTimeout_rests hs hn (Or.inr ⟨hq, hm⟩)⟩
  · have runs {op : Nat} {env : Env} {t : State} (ht : s.descRun n op env lost = t) : ringAct s (s.descRun (ringNo q) op env lost) = .next t := by
      rw [ringAct_alive hs hb, ← hn, ht]
    refine ⟨fun ho => runs ?_, fun u ho hu => runs ?_, fun u ho hu => runs (descRun_refused h hd ho hm hw hu), fun ok vs u ho hu => runs ?_,
      fun u hu => ⟨fun ho => runs (descRun_writes h hd ho hm hw (Or.inl rfl) hu), fun ho => runs (descRun_writes h hd ho hm hw (Or.inr rfl) hu)⟩,
      fun u hu => ⟨fun ho => runs (descRun_refused h hd ho hm hw hu), fun ho => runs (descRun_refused h hd ho hm hw hu)⟩⟩
    · have hnone : s.descWrites d.page {} d.writes = (true, s) := by rw [Desc.writes_nil (Or.inl ho), State.descWrites]
      rw [descRun_finishes h hd ho hm hw (by decide) hnone, descFinish_unread (Or.inl ho)]
    · rw [descRun_finishes h hd ho hm hw (by decide) hu, descFinish_unread (Or.inr ho)]
    · have hnone : s.descWrites d.page {} d.writes = (true, s) := by rw [Desc.writes_nil (Or.inr ho), State.descWrites]
      rw [descRun_finishes h hd ho hm hw (by decide) hnone, descFinish_reads hu]
  · have runs {op : Nat} {env : Env} {t : State} (ht : s.descRun n op env lost = t) : ringAct s (s.descRun (ringNo q) op env lost) = .next t := by
      rw [ringAct_alive hs hb, ← hn, ht]
    exact ⟨fun ho => runs (descRun_polls h hd ho hm hw), fun ho => runs (descRun_polls h hd ho hm hw), fun v u hr hv => descPoll_busy hr hv, fun v u hr hv => descPoll_done hr hv,
      fun u hr => descPoll_refused hr, fun ht => exec_pollTimeout_ends hs hn h hw hm ht⟩

end Sys2Proof.Machine

/-! PROOFS. The host path and the DMA channels (R141, R423, R444 to R446). -/

namespace Sys2Proof.Machine

set_option Elab.async false

section
variable {s : State} {q n : Nat} {lost : Bool}

/-! What the host sends (R444). -/

section
variable {count : Nat} {p : Pkt} {others : List (Nat × Nat)}

theorem exec_hostPathSend (hs : s.alive = true) (hn : n < 8) (hc : count < 8192) : exec (.hostPathSend n count p others lost) s =
    .next (if s.hpReady (16 + n) = true ∧ ∀ o ∈ others, o.1 % 8 = n ∨ s.hpReady (16 + o.1 % 8) = false ∨ p.tc ≤ o.2 then s.hostSend (16 + n) count p lost else s) := by
  rw [exec_act (c := .hostPathSend n count p others lost) rfl hs, Nat.mod_eq_of_lt hn, Nat.mod_eq_of_lt hc]
  congr 2
  simp [or_assoc, Decidable.imp_iff_not_or]

theorem hostSend_refused {c : RegD} (h : hostCheck count p = some c) : s.hostSend q count p lost = s.hostDrop q c lost := by
  unfold State.hostSend
  rw [h]

theorem hostSend_roomless (h : hostCheck count p = none) (hr : s.sharedRoom (cellCount p.length) = false) : s.hostSend q count p lost = s.allocFail false 256 := by
  unfold State.hostSend
  rw [h]
  exact if_pos (by simp [hr])

variable {y : Pkt} {t : State} {r : Except (RegD × Nat) (Dest × Pkt)} (h : hostCheck count p = none) (hr : s.sharedRoom (cellCount p.length) = true) (hy : y = p.withPoison p.poisonMap)
  (ht : s.resolve 9 0 { y with epoch := s.rd FWD_SLICE_EPOCH_cur_epoch 0 y.slice } = (r, t))
include h hr hy ht

theorem hostSend_unresolved {c : RegD} {k : Nat} (hc : r = .error (c, k)) : s.hostSend q count p lost = t.hostDrop q c lost := by
  subst hy hc
  unfold State.hostSend
  rw [h]
  refine (if_neg (by simp [hr])).trans ?_
  simp only [ht]

theorem hostSend_enters {d : Dest} {z : Pkt} {b : List Nat} {w v : State} (hd : r = .ok (d, z)) (hb : t.takeShared (cellCount z.length) = some (b, w)) (hv : v = w.enter z 0 191 none 0 d b 0 true) :
    s.hostSend q count p lost = ({ v with flights := v.flights.map fun (x : Flight) => if x.id + 1 = v.nextId then { x with byHost := true } else x } : State).hpDone q 0 [1] lost := by
  subst hy hd hv
  unfold State.hostSend
  rw [h]
  refine (if_neg (by simp [hr])).trans ?_
  simp only [ht, hb]

end

/-! What the host receives (R445). -/

section
variable {buf : Nat}

theorem hostDeliver_rests (h : s.headRx q = none ∨ s.hpReady q = false) : s.hostDeliver q buf lost = s := by
  unfold State.hostDeliver
  cases hx : s.headRx q with
  | none => rfl
  | some x =>
    have hready : s.hpReady q = false := by simpa [hx] using h
    exact if_pos (by simp [hready])

variable {x : Flight} (hx : s.headRx q = some x) (hr : s.hpReady q = true)
include hx hr

theorem hostDeliver_port {lp : Nat} (ha : x.arr = some lp) : s.hostDeliver q buf lost =
    ((s.dropFlight x).toHost buf (x.pkt.hdrBytes ++ x.pkt.payload)).hpDone q 0 [1 ||| (64 + x.pkt.length) <<< 4 ||| lp <<< 17, x.pkt.poisonMap ||| x.pkt.poisonAny <<< 16] lost := by
  unfold State.hostDeliver
  rw [hx]
  refine (if_neg (by simp [hr])).trans ?_
  rw [ha]

/-- A packet that came by no port is shown with a free value as its port (log entry 55). -/
theorem hostDeliver_portless (ha : x.arr = none) : s.hostDeliver q buf lost = (((s.takeFree 16).2.dropFlight x).toHost buf (x.pkt.hdrBytes ++ x.pkt.payload)).hpDone q 0
    [1 ||| (64 + x.pkt.length) <<< 4 ||| ((s.takeFree 16).1 % 1024) <<< 17, x.pkt.poisonMap ||| x.pkt.poisonAny <<< 16] lost := by
  unfold State.hostDeliver
  rw [hx]
  refine (if_neg (by simp [hr])).trans ?_
  rw [ha]

end

section
variable (hs : s.alive = true) (hn : n < 8)
include hs hn

theorem exec_rxWaitTimeout_none (hx : s.headRx (24 + n) = none) : exec (.rxWaitTimeout n) s = .next s := by
  rw [exec_act (c := .rxWaitTimeout n) rfl hs, Nat.mod_eq_of_lt hn, hx]

theorem exec_rxWaitTimeout_some {x : Flight} (hx : s.headRx (24 + n) = some x) : exec (.rxWaitTimeout n) s =
    .next (if !s.hpReady (24 + n) && x.since + usCyc (s.rd HIF_HP_CFG_rx_wait_us) ≤ s.cyc then ((s.dropFlight x).cnt HIF_HP_RX_DROP_count).irq 0 2 else s) := by
  rw [exec_act (c := .rxWaitTimeout n) rfl hs, Nat.mod_eq_of_lt hn, hx]

end

/-! DMA (R446). -/

section
variable {c : Nat} {w : Wr} {u : State} {d : DmaRun} (hu : u = s.put HIF_DMA_CTRL_dir w 0 c)
  (hd : d = { host := u.rd HIF_DMA_HOST_addr 0 c * 64, dev := u.rd HIF_DMA_DEV_addr 0 c * 64, len := u.rd HIF_DMA_LEN_len 0 c * 64, toHost := u.flag HIF_DMA_CTRL_dir 0 c })
include hu

theorem dmaCtrl_rests (h : w.ones 0 1 = 0 ∨ u.flag HIF_DMA_CTRL_busy 0 c = true) : s.dmaCtrl c w = u := by
  subst hu
  exact if_pos h

include hd
variable (h : w.ones 0 1 ≠ 0) (hb : u.flag HIF_DMA_CTRL_busy 0 c = false)
include h hb

theorem dmaCtrl_beyond (ht : memTop < d.dev + d.len) : s.dmaCtrl c w = u.dmaEnd c 3 := by
  subst hd hu
  exact (if_neg (by simp [h, hb])).trans (if_pos ht)

theorem dmaCtrl_starts (ht : d.dev + d.len ≤ memTop) :
    s.dmaCtrl c w = (({ u with hif := { u.hif with dma := u.hif.dma.put c d } } : State).wr HIF_DMA_CTRL_go 1 0 c).wr HIF_DMA_CTRL_busy 1 0 c := by
  subst hd hu
  exact (if_neg (by simp [h, hb])).trans (if_neg (by omega))

end

section
variable {c : Nat} {bytes : List Byte} {bad : List Nat} {errs : List (Nat × Nat)}

theorem dmaDone_rests (h : s.hif.dma.get? c = none ∨ s.busMaster = false) : s.dmaDone c bytes bad errs = s := by
  unfold State.dmaDone
  cases hd : s.hif.dma.get? c with
  | none => rfl
  | some d =>
    have hmaster : s.busMaster = false := by simpa [hd] using h
    exact if_pos (by simp [hmaster])

variable {d : DmaRun} (hd : s.hif.dma.get? c = some d) (hm : s.busMaster = true)
include hd hm

theorem dmaDone_out {r : Bool × State} (hh : d.toHost = true)
    (hr : r = (List.range (d.len / 64)).foldl (fun (a : Bool × State) i => (a.1 || (dmaOut d a.2 i).1, (dmaOut d a.2 i).2)) (false, s.strike errs)) :
    s.dmaDone c bytes bad errs = r.2.dmaEnd c (if r.1 then 4 else 0) := by
  subst hr
  unfold State.dmaDone
  rw [hd]
  exact (if_neg (by simp [hm])).trans (if_pos hh)

theorem dmaDone_in (hh : d.toHost = false) : s.dmaDone c bytes bad errs =
    ((List.range (d.len / 64)).foldl (fun (t : State) i => dmaIn d bytes (bad.contains i) t i) (s.strike errs)).dmaEnd c (if (List.range (d.len / 64)).any (bad.contains ·) then 4 else 0) := by
  unfold State.dmaDone
  rw [hd]
  exact (if_neg (by simp [hm])).trans (if_neg (by simp [hh]))

end
end

/-- Settles O55: the two directions of the host path and the DMA channels, each by its case. -/
theorem hostPathAndDma : Obligations.HostPathAndDma := by
  unfold Obligations.HostPathAndDma
  intro s hs
  refine ⟨fun n count p others lost q hq hn hc => ?_, fun n buf lost q v hq hn hnone hsome => ?_, fun n hn hx => exec_rxWaitTimeout_none hs hn hx, fun n x q hq hn hx => ?_,
    fun c w u d hc hv hu hd => ?_, fun c bytes bad errs hc => ?_⟩
  · subst hq
    have send := exec_hostPathSend (s := s) (p := p) (others := others) (lost := lost) hs hn hc
    refine ⟨fun h => send.trans ?_, fun ⟨o, ho, hother, hready, htc⟩ => send.trans ?_, fun h hall => ?_⟩
    · rw [if_neg (by simp [h])]
    · rw [if_neg fun hgo => ?_]
      rcases hgo.2 o ho with h | h | h
      · exact hother h
      · simp [h] at hready
      · omega
    · have goes {t : State} (ht : s.hostSend (16 + n) count p lost = t) : exec (.hostPathSend n count p others lost) s = .next t := by
        rw [send, if_pos ⟨h, hall⟩, ht]
      exact ⟨fun c hc => goes (hostSend_refused hc), fun hc hr => goes (hostSend_roomless hc hr), fun hc hr y r t hy ht =>
        ⟨fun c k he => goes (hostSend_unresolved hc hr hy ht he), fun d z b w v hd hb hv => goes (hostSend_enters hc hr hy ht hd hb hv)⟩⟩
  · subst hq
    have deliver : exec (.hostPathDelivery n buf lost) s = .next (v.hostDeliver (24 + n) buf lost) := by
      rw [exec_act (c := .hostPathDelivery n buf lost) rfl hs, Nat.mod_eq_of_lt hn]
      cases hm : s.headMgmt with
      | none => rw [hnone hm]
      | some x => rw [hsome x hm]
    refine ⟨fun h => deliver.trans (congrArg _ (hostDeliver_rests h)), fun x lp hx hr ha => deliver.trans (congrArg _ (hostDeliver_port hx hr ha)), fun x hx hr ha =>
      ⟨(v.takeFree 16).1 % 1024, Nat.mod_lt _ (by decide), deliver.trans (congrArg _ (hostDeliver_portless hx hr ha))⟩⟩
  · subst hq
    have wait := exec_rxWaitTimeout_some hs hn hx
    refine ⟨fun hr ht => wait.trans ?_, fun h => wait.trans ?_⟩
    · rw [if_pos]
      rw [hr, decide_eq_true ht]
      rfl
    · rw [if_neg]
      rcases h with h | h
      · simp [h]
      · rw [decide_eq_false (Nat.not_le.mpr h), Bool.and_false]
        decide
  · have go {t : State} (ht : (s.event 0 4).dmaCtrl c w = t) : exec (.dmaGo c w) s = .next t := by
      have hmod := Nat.mod_eq_of_lt hc
      rw [exec_hostWrite (c := .dmaGo c w) (pg := 0) (off := 0x218 + 0x20 * (c % 4)) rfl (hmod.symm ▸ hv), hmod, ht]
    exact ⟨fun h => go (dmaCtrl_rests hu h), fun h hb ht => go (dmaCtrl_beyond hu hd h hb ht), fun h hb ht => go (dmaCtrl_starts hu hd h hb ht)⟩
  · have done {t : State} (ht : s.dmaDone c bytes bad errs = t) : exec (.dmaDone c bytes bad errs) s = .next t := by
      rw [exec_act (c := .dmaDone c bytes bad errs) rfl hs, Nat.mod_eq_of_lt hc, ht]
    exact ⟨fun h => done (dmaDone_rests h), fun d hd hm => ⟨fun r hh hr => done (dmaDone_out hd hm hh hr), fun hh => done (dmaDone_in hd hm hh)⟩⟩

end Sys2Proof.Machine

/-! PROOFS. The commands of SEC (R423, R448, R451, R456 to R458). -/

namespace Sys2Proof.Machine

set_option Elab.async false

section
variable {s : State}

theorem secDma_master {f : State → State} (h : s.busMaster = true) : s.secDma f = f s := if_pos h

theorem secDma_masterless {f : State → State} (h : s.busMaster = false) : s.secDma f = s.secDone 3 0 := if_neg (by simp [h])

/-! FW_STAGE (R457). -/

section
variable {bytes : List Byte} {n : Nat} {img : List Byte} {r : FwRead} {t : State} (hm : s.busMaster = true) (hn : n = s.secArg 0 32)
include hm hn

theorem secStage_size (h : slotBytes < n ∨ n < 256 + fwSigBytes) : s.secStage bytes = s.secDone 7 3 := by
  subst hn
  exact (secDma_master hm).trans (if_pos h)

variable (himg : img = (bytes ++ List.replicate (n - bytes.length) 0).take n) (hr : r = fwVerify img)
  (ht : t = { s with secu := { s.secu with slots := s.secu.slots.set s.stageSlot (some r) } }) (hsize : n ≤ slotBytes ∧ 256 + fwSigBytes ≤ n)
include himg hr ht hsize

theorem secStage_verified : s.secStage bytes = if r.code ≠ 0 then t.secDone 7 1 else if r.secVer < s.secu.fwMin then t.secDone 7 2 else t.secDone 0 0 := by
  subst ht hr himg hn
  exact (secDma_master hm).trans (if_neg (by omega))

theorem secStage_bad (h : r.code ≠ 0) : s.secStage bytes = t.secDone 7 1 := (secStage_verified hm hn himg hr ht hsize).trans (if_pos h)

theorem secStage_old (h : r.code = 0) (hv : r.secVer < s.secu.fwMin) : s.secStage bytes = t.secDone 7 2 := by
  rw [secStage_verified hm hn himg hr ht hsize, if_neg (not_not_intro h), if_pos hv]

theorem secStage_kept (h : r.code = 0) (hv : s.secu.fwMin ≤ r.secVer) : s.secStage bytes = t.secDone 0 0 := by
  rw [secStage_verified hm hn himg hr ht hsize, if_neg (not_not_intro h), if_neg (by omega)]

end

/-! The chain, the next start's slot and the minimums (R451, R457, R458). -/

theorem secCert_short (hm : s.busMaster = true) (h : s.secArg 0 32 < Config.certChain.length) : s.secCert = s.secDone 7 3 := by
  unfold State.secCert
  rw [secDma_master hm]
  exact if_pos h

theorem secCert_written (hm : s.busMaster = true) (h : Config.certChain.length ≤ s.secArg 0 32) :
    s.secCert = (s.emit (.hostWr (s.rd SEC_CMD_ADDR_addr) Config.certChain false)).secDone 0 0 Config.certChain.length := by
  unfold State.secCert
  rw [secDma_master hm, if_neg (Nat.not_lt.mpr h), State.secOut]

theorem secBoot_named (h : fwRefuse s.secu.fwMin (s.slot (s.secArg 0 1)) = 0) : s.secBoot = ({ s with secu := { s.secu with boot := s.secArg 0 1 } } : State).secDone 0 0 := if_pos h

theorem secBoot_refused (h : fwRefuse s.secu.fwMin (s.slot (s.secArg 0 1)) ≠ 0) : s.secBoot = s.secDone 7 4 := if_neg h

theorem secRaise_lower (h : s.secArg 0 32 < s.rd SEC_MIN_fw_min ∨ s.secArg 32 32 < s.rd SEC_MIN_kernel_min) : s.secRaise = s.secDone 7 5 := if_pos h

section
variable (hf : s.rd SEC_MIN_fw_min ≤ s.secArg 0 32) (hk : s.rd SEC_MIN_kernel_min ≤ s.secArg 32 32)
include hf hk

theorem secRaise_beyond (h : s.rd SEC_BOOT_STATUS_security_ver < s.secArg 0 32) : s.secRaise = s.secDone 7 6 := (if_neg (by omega)).trans (if_pos h)

theorem secRaise_raised (h : s.secArg 0 32 ≤ s.rd SEC_BOOT_STATUS_security_ver) : s.secRaise =
    ((({ s with secu := { s.secu with fwMin := s.secArg 0 32, kernelMin := s.secArg 32 32 } } : State).wr SEC_MIN_fw_min (s.secArg 0 32)).wr SEC_MIN_kernel_min (s.secArg 32 32)).secDone 0 0 :=
  (if_neg (by omega)).trans (if_neg (by omega))

end

/-- Why an image is not accepted for a start. -/
theorem fwRefuse_cases (m : Nat) (r : FwRead) :
    (r.code = 0 → m ≤ r.secVer → fwRefuse m r = 0) ∧ (r.code = 0 → r.secVer < m → fwRefuse m r = 4) ∧ (r.code ≠ 0 → fwRefuse m r = r.code) :=
  ⟨fun h hv => (if_neg (not_not_intro h)).trans (if_neg (by omega)), fun h hv => (if_neg (not_not_intro h)).trans (if_pos hv), fun h => if_pos h⟩

end

/-- Settles O56: each command of SEC by what refuses it. -/
theorem securityCommands : Obligations.SecurityCommands := by
  unfold Obligations.SecurityCommands
  intro s u bytes hv hu
  have run {c : Instr} {g : State → State} {t : State} (h : exec c s = hostWrite s 1 0x130 g) (ht : g u = t) : exec c s = .next t := by rw [exec_hostWrite h hv, ← hu, ht]
  refine ⟨fun hm => ⟨run rfl (secDma_masterless hm), run rfl (secDma_masterless hm), run rfl (secDma_masterless hm), run rfl (secDma_masterless hm)⟩,
    fun hm => ⟨run rfl (secDma_master hm), fun n img r t hn himg hr ht => ⟨fun h => run rfl (secStage_size hm hn h), fun hmax hmin =>
        ⟨fun h => run rfl (secStage_bad hm hn himg hr ht ⟨hmax, hmin⟩ h), fun h hver => run rfl (secStage_old hm hn himg hr ht ⟨hmax, hmin⟩ h hver),
          fun h hver => run rfl (secStage_kept hm hn himg hr ht ⟨hmax, hmin⟩ h hver)⟩⟩,
      run rfl (secDma_master hm), fun h => run rfl (secCert_short hm h), fun h => run rfl (secCert_written hm h)⟩,
    fun h => run rfl (secBoot_named h), fun h => run rfl (secBoot_refused h), fun h => run rfl (secRaise_lower h),
    fun hf hk => ⟨fun h => run rfl (secRaise_beyond hf hk h), fun h => run rfl (secRaise_raised hf hk h)⟩, run rfl rfl, run rfl rfl, fwRefuse_cases u.secu.fwMin⟩

end Sys2Proof.Machine

/-! PROOFS. Management sessions and their messages (R452 to R456). -/

namespace Sys2Proof.Machine

set_option Elab.async false

section
variable {s : State}

/-! The first packet of management, taken by the command of its type. -/

section
variable {typ : Nat} {f : Pkt → Nat → Option Sess → List Byte → State → State}

theorem mgmtTake_none (h : s.headMgmt = none) : s.mgmtTake typ f = s := by
  unfold State.mgmtTake
  rw [h]

variable {x : Flight} (hx : s.headMgmt = some x)
include hx

theorem mgmtTake_other (h : mgmtType x.pkt ≠ typ) : s.mgmtTake typ f = s := by
  unfold State.mgmtTake
  rw [hx]
  exact if_pos h

variable {u : State} {p : Pkt} {sess idx cnt ctr : Nat} (hp : x.pkt = p) (ht : mgmtType p = typ) (hu : u = s.dropFlight x)
include hp ht hu

theorem mgmtTake_bad (h : u.noFirmware = true ∨ p.e2e ≠ e2eOf p.payload) : s.mgmtTake typ f = u := by
  subst hp hu
  unfold State.mgmtTake
  rw [hx]
  exact (if_neg (not_not_intro ht)).trans (if_pos (by simpa using h))

variable (hsess : sess = leNat (p.payload.take 4)) (hidx : idx = leNat ((p.payload.drop 5).take 1)) (hcnt : cnt = leNat ((p.payload.drop 6).take 1))
  (hctr : ctr = leNat ((p.payload.drop 8).take 8)) (hf : u.noFirmware = false) (he : p.e2e = e2eOf p.payload)
include hsess hidx hcnt hctr hf he

section
variable {v : State} (h0 : sess = 0)
include h0

theorem mgmtTake_fragment (h : u.fragAdd p.src 0 typ idx cnt 0 (p.payload.drop 16) = (none, v)) : s.mgmtTake typ f = v := by
  subst hp hu hidx hcnt
  unfold State.mgmtTake
  rw [hx]
  refine (if_neg (not_not_intro ht)).trans ((if_neg (by simp [hf, he])).trans ((if_pos (hsess.symm.trans h0)).trans ?_))
  simp only [h]

theorem mgmtTake_whole {b : List Byte} (h : u.fragAdd p.src 0 typ idx cnt 0 (p.payload.drop 16) = (some b, v)) : s.mgmtTake typ f = f p x.pipe none b v := by
  subst hp hu hidx hcnt
  unfold State.mgmtTake
  rw [hx]
  refine (if_neg (not_not_intro ht)).trans ((if_neg (by simp [hf, he])).trans ((if_pos (hsess.symm.trans h0)).trans ?_))
  simp only [h]

end

variable (h0 : sess ≠ 0)
include h0

theorem mgmtTake_untagged {v : State} (hj : u.judgeTag sess ctr p.payload = (none, v)) : s.mgmtTake typ f = v := by
  subst hp hu hsess hctr
  unfold State.mgmtTake
  rw [hx]
  refine (if_neg (not_not_intro ht)).trans ((if_neg (by simp [hf, he])).trans ((if_neg h0).trans ?_))
  simp only [hj]

variable {y : Sess} {v w : State} (hj : u.judgeTag sess ctr p.payload = (some y, v))
include hj

theorem mgmtTake_sessFragment (h : v.fragAdd p.src sess typ idx cnt ctr ((p.payload.drop 16).take (p.payload.length - 32)) = (none, w)) : s.mgmtTake typ f = w := by
  subst hp hu hsess hctr hidx hcnt
  unfold State.mgmtTake
  rw [hx]
  refine (if_neg (not_not_intro ht)).trans ((if_neg (by simp [hf, he])).trans ((if_neg h0).trans ?_))
  simp only [hj, h]

theorem mgmtTake_sessWhole {b : List Byte} (h : v.fragAdd p.src sess typ idx cnt ctr ((p.payload.drop 16).take (p.payload.length - 32)) = (some b, w)) :
    s.mgmtTake typ f = f p x.pipe (some y) b w := by
  subst hp hu hsess hctr hidx hcnt
  unfold State.mgmtTake
  rw [hx]
  refine (if_neg (not_not_intro ht)).trans ((if_neg (by simp [hf, he])).trans ((if_neg h0).trans ?_))
  simp only [hj, h]

end

/-! SESS_INIT (R453). -/

section
variable {p : Pkt} {pipe : Nat} {b : List Byte}

theorem sessInit_disabled (h : s.flag SEC_IB_CTRL_enable = false) : s.sessInit p pipe b = s.sessRefuse p pipe 3 := if_pos (by simp [h])

variable (he : s.flag SEC_IB_CTRL_enable = true) {pk hash : List Byte} {anchored : Bool} (hpk : pk = (b.drop 1600).take 32) (hhash : hash = shake256 pk 32)
  (hanchored : anchored = ((List.range 4).any fun a => hash == leWords 8 ((List.range 4).map fun w => s.rd SEC_ANCHOR_hash 0 a w)))
include he hpk hhash hanchored

theorem sessInit_unanchored (h : b.length ≠ 18720 ∨ anchored = false) : s.sessInit p pipe b = s.sessRefuse p pipe 1 := by
  subst hanchored hhash hpk
  exact (if_neg (by simp [he])).trans (if_pos (h.imp id fun h => by simp [h]))

variable (hl : b.length = 18720) (ha : anchored = true)
include hl ha

theorem sessInit_unsigned (h : Config.slhDsaVerify 128 pk (shake256 (b.take 1632) 32) (b.drop 1632) = false) : s.sessInit p pipe b = s.sessRefuse p pipe 1 := by
  subst hanchored hhash hpk
  exact (if_neg (by simp [he])).trans ((if_neg (by simp [hl, ha])).trans (if_pos (by simp [h])))

variable (hv : Config.slhDsaVerify 128 pk (shake256 (b.take 1632) 32) (b.drop 1632) = true)
include hv

theorem sessInit_full (h : s.rd SEC_IB_CTRL_max_sessions ≤ s.secu.sess.length) : s.sessInit p pipe b = s.sessRefuse p pipe 2 := by
  subst hanchored hhash hpk
  exact (if_neg (by simp [he])).trans ((if_neg (by simp [hl, ha])).trans ((if_neg (by simp [hv])).trans (if_pos h)))

/-- SESS_INIT accepted: the session with its keys, and the answer. -/
theorem sessInit_opens (h : s.secu.sess.length < s.rd SEC_IB_CTRL_max_sessions) {f g k : Nat × State} {id : Nat} {kem : List Byte × List Byte} {head acc t : List Byte} {v : State}
    (hf : f = s.takeFree 13) (hg : g = f.2.takeFree 14) (hk : k = g.2.takeFree 15) (hid : id = sessId (k.2.secu.sess.map (·.id)) f.1 8) (hkem : kem = Config.mlKemEncaps (b.take 1568) g.1)
    (hhead : head = leBytes 4 id ++ kem.1 ++ leBytes 32 k.1 ++ Config.identityKey) (hacc : acc = head ++ Config.slhDsaSign (shake256 (b ++ head) 32)) (ht : t = shake256 (b ++ acc) 32)
    (hset : v = k.2.setSess (k.2.secu.sess ++ [{ id := id, keyIn := kmac256 kem.2 t 32 (asciiBytes "Genric mgmt f2m"), keyOut := kmac256 kem.2 t 32 (asciiBytes "Genric mgmt m2f"), at_ := k.2.cyc, last := k.2.cyc }])) :
    s.sessInit p pipe b = v.sendMgmt pipe p.src p.slice 0 2 acc := by
  subst hanchored hhash hpk
  refine (if_neg (by simp [he])).trans ((if_neg (by simp [hl, ha])).trans ((if_neg (by simp [hv])).trans ((if_neg (by omega)).trans ?_)))
  rw [hset, ht, hacc, hhead, hkem, hid, hk, hg, hf]

end

/-! The tag and the counter of a session's message (R454, R455). -/

section
variable {sess ctr : Nat} {pl : List Byte}

theorem judgeTag_unknown (h : s.sessOf sess = none) : s.judgeTag sess ctr pl = (none, s.cnt SEC_TAG_BAD_count) := by
  unfold State.judgeTag
  rw [h]

variable {x : Sess} (h : s.sessOf sess = some x)
include h

theorem judgeTag_bad (hb : pl.length < 32 ∨ mgmtTag x.keyIn (pl.take (pl.length - 16)) ≠ pl.drop (pl.length - 16)) : s.judgeTag sess ctr pl = (none, s.cnt SEC_TAG_BAD_count) := by
  unfold State.judgeTag
  rw [h]
  exact if_pos hb

variable (hl : 32 ≤ pl.length) (ht : mgmtTag x.keyIn (pl.take (pl.length - 16)) = pl.drop (pl.length - 16))
include hl ht

theorem judgeTag_replayed (hc : ctr ≤ x.rx) : s.judgeTag sess ctr pl = (none, s.cnt SEC_REPLAY_count) := by
  unfold State.judgeTag
  rw [h]
  exact (if_neg (by simp [hl, ht])).trans (if_pos hc)

theorem judgeTag_good (hc : x.rx < ctr) : s.judgeTag sess ctr pl = (some { x with rx := ctr, last := s.cyc }, s.putSess { x with rx := ctr, last := s.cyc }) := by
  unfold State.judgeTag
  rw [h]
  exact (if_neg (by simp [hl, ht])).trans (if_neg (by omega))

end
end

/-- Settles O57: what each command makes of the first packet, SESS_INIT, the tags and the timeouts. -/
theorem sessionsAndTheirMessages : Obligations.SessionsAndTheirMessages := by
  unfold Obligations.SessionsAndTheirMessages
  intro s hs
  refine ⟨fun c typ f lost hc => ?_, fun p pipe b => ⟨fun h => sessInit_disabled h, fun he pk hash anchored hpk hhash ha => ⟨fun h => sessInit_unanchored he hpk hhash ha h,
      fun hl hand h => sessInit_unsigned he hpk hhash ha hl hand h, fun hl hand hv => ⟨fun h => sessInit_full he hpk hhash ha hl hand hv h,
        fun h f g k id kem head acc t v hf hg hk hid hkem hhead hacc ht hset => sessInit_opens he hpk hhash ha hl hand hv h hf hg hk hid hkem hhead hacc ht hset⟩⟩⟩,
    fun sess ctr pl => ⟨fun h => judgeTag_unknown h, fun x h hl ht => ⟨fun hc => judgeTag_replayed h hl ht hc, fun hc => judgeTag_good h hl ht hc⟩, fun x h hb => judgeTag_bad h hb⟩,
    exec_act (c := .sessionConfirmTimeout) rfl hs, exec_act (c := .sessionIdleTimeout) rfl hs⟩
  have takes {t : State} (ht : s.mgmtTake typ f = t) : exec c s = .next t := by
    subst ht
    rcases hc with ⟨rfl, rfl, rfl⟩ | ⟨rfl, rfl, rfl⟩ | ⟨rfl, rfl, rfl⟩ | ⟨rfl, rfl, rfl⟩ | ⟨rfl, rfl, rfl⟩ | ⟨rfl, rfl, rfl⟩
    all_goals exact exec_act rfl hs
  refine ⟨fun h => takes (mgmtTake_none h), fun x hx h => takes (mgmtTake_other hx h), fun x u p sess idx cnt ctr hx hp ht hu hsess hidx hcnt hctr =>
    ⟨fun h => takes (mgmtTake_bad hx hp ht hu h), fun hf he => ⟨?_, ?_, ?_, ?_, ?_⟩⟩⟩
  · exact fun v h0 h => takes (mgmtTake_fragment hx hp ht hu hsess hidx hcnt hctr hf he h0 h)
  · exact fun b v h0 h => takes (mgmtTake_whole hx hp ht hu hsess hidx hcnt hctr hf he h0 h)
  · exact fun v h0 hj => takes (mgmtTake_untagged hx hp ht hu hsess hidx hcnt hctr hf he h0 hj)
  · exact fun y v w h0 hj h => takes (mgmtTake_sessFragment hx hp ht hu hsess hidx hcnt hctr hf he h0 hj h)
  · exact fun y v b w h0 hj h => takes (mgmtTake_sessWhole hx hp ht hu hsess hidx hcnt hctr hf he h0 hj h)

end Sys2Proof.Machine

/-! PROOFS. Power requests, idle, holds and wakes (R51, R318, R320, R429, R469, R471 to R478). -/

namespace Sys2Proof.Machine

set_option Elab.async false

section
variable {s : State} {pg v : Nat}

/-! A page's power request (R472 to R475). -/

theorem pwrReq_always (h : pg ≤ 5) : s.pwrReq pg v = (s, true) := if_pos h

theorem pwrReq_unassigned (h : 5 < pg) (ha : pageAssigned pg = false) : s.pwrReq pg v = (s, false) :=
  (if_neg (by omega)).trans (if_pos (by simp [ha]))

section
variable (h : 5 < pg) (ha : pageAssigned pg = true)
include h ha

theorem pwrReq_off (hv : v = 3) : s.pwrReq pg v = ((s.pwrRefuse pg 3 1).irq 3 0, false) := by
  subst hv
  exact (if_neg (by omega)).trans ((if_neg (by simp [ha])).trans (if_pos rfl))

variable (hv : v ≠ 3)
include hv

/-- A request of a page that has power states, by the kind of page. -/
theorem pwrReq_kind : s.pwrReq pg v = if 0x30 ≤ pg && pg ≤ 0x37 then ((s.engineReq (pg - 0x30) v).reDepth, true)
    else if 0x80 ≤ pg then
      (if v = 2 && !(s.rd SRI_STATE_state (pg - 0x80) = 2 || s.rd SRI_STATE_state (pg - 0x80) = 4 || s.rd SRI_STATE_state (pg - 0x80) = 5) then ((s.pwrRefuse pg v 2).irq 3 0, false)
        else ((s.coreReq (pg - 0x80) v).reDepth, true))
    else if pg = 8 then
      (if v = 1 then ((s.pwrRefuse pg v 1).irq 3 0, false)
        else if v = 2 && (s.flag BYP_CTRL_enable || s.byp.preps ≠ [] || (List.range 64).any fun i => s.flag BYP_CIRCUIT_valid 0 i) then ((s.pwrRefuse pg v 3).irq 3 0, false)
        else (((s.wr PAGE_PWR_req v 8).wr PAGE_PWR_state (if v = 2 then 3 else 0) 8).reDepth, true))
    else if v = 0 then (s.reDepth, true) else ((s.pwrRefuse pg v 1).irq 3 0, false) :=
  (if_neg (by omega)).trans ((if_neg (by simp [ha])).trans (if_neg hv))

theorem pwrReq_engine (hlo : 0x30 ≤ pg) (hhi : pg ≤ 0x37) : s.pwrReq pg v = ((s.engineReq (pg - 0x30) v).reDepth, true) := by
  rw [pwrReq_kind h ha hv, if_pos (by simp [hlo, hhi])]

theorem pwrReq_core (hc : 0x80 ≤ pg) : s.pwrReq pg v =
    if v = 2 && !(s.rd SRI_STATE_state (pg - 0x80) = 2 || s.rd SRI_STATE_state (pg - 0x80) = 4 || s.rd SRI_STATE_state (pg - 0x80) = 5) then ((s.pwrRefuse pg v 2).irq 3 0, false)
      else ((s.coreReq (pg - 0x80) v).reDepth, true) := by
  have hengine : ¬ pg ≤ 0x37 := by omega
  rw [pwrReq_kind h ha hv, if_neg (by simp [hengine]), if_pos hc]

theorem pwrReq_other (h8 : pg ≠ 8) (he : pg < 0x30 ∨ 0x37 < pg) (hc : pg < 0x80) : s.pwrReq pg v = if v = 0 then (s.reDepth, true) else ((s.pwrRefuse pg v 1).irq 3 0, false) := by
  rw [pwrReq_kind h ha hv, if_neg (by simp only [Bool.and_eq_true, decide_eq_true_eq]; omega), if_neg (by omega), if_neg h8]

end

theorem pwrReq_bypass (hv : v ≠ 3) : s.pwrReq 8 v = if v = 1 then ((s.pwrRefuse 8 v 1).irq 3 0, false)
    else if v = 2 && (s.flag BYP_CTRL_enable || s.byp.preps ≠ [] || (List.range 64).any fun i => s.flag BYP_CIRCUIT_valid 0 i) then ((s.pwrRefuse 8 v 3).irq 3 0, false)
    else (((s.wr PAGE_PWR_req v 8).wr PAGE_PWR_state (if v = 2 then 3 else 0) 8).reDepth, true) := by
  rw [pwrReq_kind (by decide) (by decide) hv, if_neg (by decide), if_neg (by decide), if_pos rfl]

/-- The bypass page is asked off while a circuit is set or may be. -/
theorem pwrReq_bypass_held (h : s.flag BYP_CTRL_enable = true ∨ s.byp.preps ≠ [] ∨ ∃ i < 64, s.flag BYP_CIRCUIT_valid 0 i = true) :
    s.pwrReq 8 2 = ((s.pwrRefuse 8 2 3).irq 3 0, false) := by
  rw [pwrReq_bypass (by decide), if_neg (by decide), if_pos]
  simpa [or_assoc] using h

theorem pwrReq_bypass_off (he : s.flag BYP_CTRL_enable = false) (hp : s.byp.preps = []) (hc : ∀ i < 64, s.flag BYP_CIRCUIT_valid 0 i = false) :
    s.pwrReq 8 2 = (((s.wr PAGE_PWR_req 2 8).wr PAGE_PWR_state 3 8).reDepth, true) := by
  have hnone : ((List.range 64).any fun i => s.flag BYP_CIRCUIT_valid 0 i) = false := by
    simpa using hc
  rw [pwrReq_bypass (by decide), if_neg (by decide), if_neg (by rw [he, hp, hnone]; decide), if_pos rfl]

theorem pwrReq_bypass_on : s.pwrReq 8 0 = (((s.wr PAGE_PWR_req 0 8).wr PAGE_PWR_state 0 8).reDepth, true) := by
  rw [pwrReq_bypass (by decide), if_neg (by decide), if_neg (by simp), if_neg (by decide)]

theorem exec_pagePwrWrite {w : Wr} (hpg : pg < 256) (hv : s.served pg 0x28) : exec (.pagePwrWrite pg w) s = .next ((s.event pg 4).pwrWrite pg w) := by
  have hwrite : exec (.pagePwrWrite pg w) s = hostWrite s pg 0x28 fun s => s.pwrWrite pg w :=
    (show exec (.pagePwrWrite pg w) s = hostWrite s (pg % 256) 0x28 fun s => s.pwrWrite (pg % 256) w from rfl).trans (by rw [Nat.mod_eq_of_lt hpg])
  exact exec_hostWrite hwrite hv

/-! The clock enable (R429). -/

section
variable {w : Wr}

theorem clkenWrite_none (h : pg ≤ 5 ∨ w.hits 0 1 = false) : s.clkenWrite pg w = s := if_pos (by simpa using h)

variable (h : 5 < pg) (hw : w.hits 0 1 = true)
include h hw

theorem clkenWrite_on (h1 : w.ones 0 1 = 1) : s.clkenWrite pg w = s.wr PAGE_CLKEN_en 1 pg :=
  (if_neg (by simp [hw, h])).trans (if_pos h1)

theorem clkenWrite_off (h1 : w.ones 0 1 ≠ 1) : s.clkenWrite pg w = if s.rd PAGE_PWR_state pg = 3 then s.wr PAGE_CLKEN_en 0 pg else s.pwrRefuse pg 0 4 :=
  (if_neg (by simp [hw, h])).trans (if_neg h1)

end

/-! POWER_STATE and the hold windows (R318, R320). -/

theorem pageEngine_engine {e : Nat} (he : e < 8) : pageEngine (0x30 + e) = some e := by
  unfold pageEngine
  rw [if_pos (by omega), Nat.add_sub_cancel_left]

theorem powerState_plain (h : pageEngine pg = none) : s.powerState pg v = s.pwrReq pg v := by
  unfold State.powerState
  rw [h]

section
variable {e : Nat} (he : e < 8)
include he

theorem powerState_waits (hv : v < 3) (hh : s.engineHeld e = true) :
    s.powerState (0x30 + e) v = ({ s with pwr := { s.pwr with held := s.pwr.held ++ [(0x30 + e, v)] } }, true) := by
  have hv3 : v ≠ 3 := by omega
  unfold State.powerState
  rw [pageEngine_engine he]
  exact if_pos (by simp [hv3, hh])

theorem powerState_acts (h : v = 3 ∨ s.engineHeld e = false) : s.powerState (0x30 + e) v = s.pwrReq (0x30 + e) v := by
  unfold State.powerState
  rw [pageEngine_engine he]
  refine if_neg ?_
  rcases h with h | h <;> simp [h]

omit he in
theorem holdOver_held (h : (s.holdEnd e).engineHeld e = true) : s.holdOver e = s.holdEnd e := if_pos h

omit he in
theorem holdOver_over {u : State} (hu : u = s.holdEnd e) (h : u.engineHeld e = false) : s.holdOver e = (u.pwr.held.filter fun x => x.1 = 0x30 + e).foldl (fun t x => (t.pwrReq x.1 x.2).1)
    { u with pwr := { u.pwr with held := u.pwr.held.filter fun x => x.1 ≠ 0x30 + e } } := by
  subst hu
  exact if_neg (by simp [h])

end

/-! Idle fibres and cores (R471, R474, R476). -/

section
variable {f c : Nat}

theorem fillOver_none (h : (s.laneX (16 * f)).fillEnd = none) : s.fillOver f = s := by
  unfold State.fillOver
  rw [h]

theorem fillOver_before (h : (s.laneX (16 * f)).fillEnd = some c) (hc : s.cyc < c) : s.fillOver f = s := by
  unfold State.fillOver
  rw [h]
  exact if_pos hc

theorem fillOver_ends (h : (s.laneX (16 * f)).fillEnd = some c) (hc : c ≤ s.cyc) : s.fillOver f = ((s.fillEnd f none).setFibre f 1).reFibre f := by
  unfold State.fillOver
  rw [h]
  exact if_neg (by omega)

end

section
variable {p : Nat}

theorem seraiIdle_rests (h : s.rd PAGE_PWR_req (0x80 + p) ≠ 1 ∨ s.coreAsleep p = true ∨ (s.core p).busy = true) : s.seraiIdle p = s := by
  refine if_pos ?_
  rcases h with h | h | h <;> simp [h]

theorem seraiIdle_sleeps (hr : s.rd PAGE_PWR_req (0x80 + p) = 1) (ha : s.coreAsleep p = false) (hb : (s.core p).busy = false) (hl : s.rd SRI_STATE_lcore_valid p = 0)
    (ht : s.pwr.busyAt.getD 0 p + nsCyc (s.rd PWR_IDLE_CFG2_serai_hold_ns) ≤ s.cyc) : s.seraiIdle p = (s.wr PAGE_PWR_state 1 (0x80 + p)).reCore p := by
  refine if_neg ?_
  simp [hr, ha, hb, hl, ht]

theorem fibreWoken_unasked (h : s.pwr.wakeF.contains p = false) : s.fibreWoken p = s := if_pos (by simp only [h, Bool.not_false])

theorem engineWoken_unasked (h : s.pwr.wakeE.contains p = false) : s.engineWoken p = s := if_pos (by simp only [h, Bool.not_false, Bool.true_or])

theorem coreWoken_unasked (h : s.pwr.wakeC.contains p = false) : s.coreWoken p = s := if_pos (by simp only [h, Bool.not_false, Bool.true_or])

end
end

/-- Settles O58: a page's request by its kind, the clock enables, and each idle, hold and wake by its time. -/
theorem powerRequestsIdleAndWakes : Obligations.PowerRequestsIdleAndWakes := by
  unfold Obligations.PowerRequestsIdleAndWakes
  intro s
  refine ⟨fun pg v => ⟨fun h => pwrReq_always h, fun h ha => pwrReq_unassigned h ha, fun h ha hv => pwrReq_off h ha hv, fun hlo hhi ha hv => pwrReq_engine (by omega) ha (by omega) hlo hhi,
      fun hc ha hv h2 h4 h5 => ?_, fun hc ha hv => ?_, fun h8 hv => ?_, fun h8 hv h => ?_, fun h8 hv he hp hc => ?_, fun h8 hv => ?_, fun h ha h8 he hc => ⟨fun hv => ?_, fun hv => ?_⟩⟩,
    fun pg w hpg hv hw => ?_, fun pg w hpg hv hw => ?_, fun pg w u hpg hv hu => ?_, fun f w hf hv => ?_, fun u hv hu => ⟨?_, ?_⟩, fun hs => ?_⟩
  · subst hv
    rw [pwrReq_core (by omega) ha (by decide) hc, if_pos (by simp [h2, h4, h5])]
  · have hv2 : v ≠ 2 := by omega
    rw [pwrReq_core (by omega) ha (by omega) hc, if_neg (by simp [hv2])]
  · subst h8 hv
    rw [pwrReq_bypass (by decide), if_pos rfl]
  · subst h8 hv
    exact pwrReq_bypass_held h
  · subst h8 hv
    exact pwrReq_bypass_off he hp hc
  · subst h8 hv
    exact pwrReq_bypass_on
  · rw [pwrReq_other h ha (by omega) h8 he hc, if_pos hv]
  · rw [pwrReq_other h ha (by omega) h8 he hc, if_neg (by omega)]
  · exact (exec_pagePwrWrite hpg hv).trans (congrArg _ (if_neg (by simp [hw])))
  · exact (exec_pagePwrWrite hpg hv).trans (congrArg _ (if_pos (by simp [hw])))
  · have clken {t : State} (h : u.clkenWrite pg w = t) : exec (.pageClkenWrite pg w) s = .next t := by
      have hwrite : exec (.pageClkenWrite pg w) s = hostWrite s pg 8 fun s => s.clkenWrite pg w :=
        (show exec (.pageClkenWrite pg w) s = hostWrite s (pg % 256) 8 fun s => s.clkenWrite (pg % 256) w from rfl).trans (by rw [Nat.mod_eq_of_lt hpg])
      rw [exec_hostWrite hwrite hv, ← hu, h]
    exact ⟨fun h => clken (clkenWrite_none h), fun h hw h1 => clken (clkenWrite_on h hw h1), fun h hw h1 => clken (clkenWrite_off h hw h1)⟩
  · have hmod := Nat.mod_eq_of_lt hf
    rw [exec_hostWrite (c := .pwrFibreWrite f w) (pg := 3) (off := 0x1000 + 8 * (f % 64)) rfl (hmod.symm ▸ hv), hmod, State.pwrFibreWrite]
  · rw [exec_hostWrite (c := .srefEnter) rfl hv, ← hu, State.srefEnter]
  · rw [exec_hostWrite (c := .srefExit) rfl hv, ← hu, State.srefExit]
  · refine ⟨fun k hk => ?_, fun e v he hv hh => powerState_waits he hv hh, fun pg v h => powerState_plain h, fun e v he h => powerState_acts he h, fun e he h => ?_, fun e u he hu h => ?_,
      fun f hf => ?_, fun e he => ?_, fun p hp => ?_⟩
    · rw [exec_act (c := .powerState k) rfl hs, Nat.mod_eq_of_lt hk]
    · rw [exec_act (c := .holdEnd e) rfl hs, Nat.mod_eq_of_lt he, holdOver_held h]
    · rw [exec_act (c := .holdEnd e) rfl hs, Nat.mod_eq_of_lt he, holdOver_over hu h]
    · have fill {t : State} (h : s.fillOver f = t) : exec (.idleFillEnd f) s = .next t := by
        rw [exec_act (c := .idleFillEnd f) rfl hs, Nat.mod_eq_of_lt hf, h]
      have wake {t : State} (h : s.fibreWoken f = t) : exec (.wakeComplete 0 f) s = .next t := by
        refine (exec_act (c := .wakeComplete 0 f) rfl hs).trans (congrArg _ ?_)
        rw [State.wakeDone, Nat.mod_eq_of_lt hf, h]
      refine ⟨fun h => fill (fillOver_none h), fun c h hc => fill (fillOver_before h hc), fun c h hc => fill (fillOver_ends h hc), ?_, fun h => wake (fibreWoken_unasked h), fun h => wake rfl⟩
      rw [exec_act (c := .deepIdleWake false f) rfl hs, if_neg (by decide), Nat.mod_eq_of_lt hf]
      exact congrArg _ (if_neg (by decide))
    · have wake {t : State} (h : s.engineWoken e = t) : exec (.wakeComplete 1 e) s = .next t := by
        refine (exec_act (c := .wakeComplete 1 e) rfl hs).trans (congrArg _ ?_)
        rw [State.wakeDone, Nat.mod_eq_of_lt he, h]
      exact ⟨fun h => wake (engineWoken_unasked h), fun h => wake rfl⟩
    · have idle {t : State} (h : s.seraiIdle p = t) : exec (.seraiIdleHoldEnd p) s = .next t := by
        rw [exec_act (c := .seraiIdleHoldEnd p) rfl hs, Nat.mod_eq_of_lt hp, h]
      have wake {t : State} (h : s.coreWoken p = t) : exec (.wakeComplete 2 p) s = .next t := by
        refine (exec_act (c := .wakeComplete 2 p) rfl hs).trans (congrArg _ ?_)
        rw [State.wakeDone, Nat.mod_eq_of_lt hp, h]
        all_goals decide
      refine ⟨?_, fun h => idle (seraiIdle_rests h), fun hr ha hb hl ht => idle (seraiIdle_sleeps hr ha hb hl ht), fun h => wake (coreWoken_unasked h), fun h => wake rfl⟩
      rw [exec_act (c := .deepIdleWake true p) rfl hs, if_pos rfl, Nat.mod_eq_of_lt hp]
      exact congrArg _ (if_pos rfl)

end Sys2Proof.Machine

/-! PROOFS. Clocks, sensors, pins and start-up (R28, R46, R464 to R468, R470, R479 to R484, R503, R509, R510). -/

namespace Sys2Proof.Machine

set_option Elab.async false

/-- A sample is due when there was none, or the last is long enough ago. -/
theorem due_iff {o : Option Nat} {k n : Nat} : (o.all fun c => decide (c + k ≤ n)) = true ↔ ∀ c, o = some c → c + k ≤ n := by
  cases o <;> simp

section
variable {s : State}

/-! The sensors (R466, R467, R479). -/

theorem tempDue_iff : s.tempDue = true ↔ ∀ c, s.pwr.tempAt = some c → c + usCyc 100 ≤ s.cyc := due_iff

section
variable {tj : Int} {sensor : Nat} (hs : s.alive = true) (hsensor : sensor < 16)
include hs

theorem exec_tempSample_early {c : Nat} (h : s.pwr.tempAt = some c) (hc : s.cyc < c + usCyc 100) : exec (.tempSample tj sensor) s = .next s := by
  rw [exec_act (c := .tempSample tj sensor) rfl hs, if_neg fun hd => Nat.not_le.mpr hc (tempDue_iff.mp hd c h)]

include hsensor

theorem exec_tempSample_due {v u : State} (h : ∀ c, s.pwr.tempAt = some c → c + usCyc 100 ≤ s.cyc) (hv : v = { s with pwr := { s.pwr with tempAt := some s.cyc } })
    (hu : u = (v.wrI PWR_TJ_tj_max tj).wr PWR_TJ_sensor sensor) : exec (.tempSample tj sensor) s = .next (if 16 * (u.rd PWR_TEMP_CFG_warn_c : Int) < tj then u.irq 3 1 else u) := by
  rw [exec_act (c := .tempSample tj sensor) rfl hs, if_pos (tempDue_iff.mpr h), Nat.mod_eq_of_lt hsensor, ← hv, State.tempSample, ← hu]

end

section
variable {mv cur watts temp : Nat}

theorem exec_vinSample_skipped (h : s.pins.pwrGood = false ∨ s.vinDue = false) : exec (.vinSample mv cur watts temp) s = .next s :=
  congrArg _ (if_neg (by simpa [Decidable.imp_iff_not_or] using h))

variable (hp : s.pins.pwrGood = true) (hd : s.vinDue = true) {bad : Bool} {w u : State} (hbad : bad = (decide (mv < 32000) || decide (40000 < mv)))
  (hw : w = { s with pwr := { s.pwr with vinAt := if s.clkOn = true then some s.cyc else none } }) (hu : u = { w with pins := { w.pins with vin := [mv, cur, watts, temp], vinOut := bad } })
include hp hd hbad hw hu

theorem exec_vinSample_shown : exec (.vinSample mv cur watts temp) s = .next (if !s.alive then u else
    if bad && s.pins.vinOut then (((u.wr PWR_VIN_mv mv).wr PWR_VIN_current cur).wr PWR_VIN_watts watts).irq 3 2 else ((u.wr PWR_VIN_mv mv).wr PWR_VIN_current cur).wr PWR_VIN_watts watts) := by
  refine congrArg _ ((if_pos (by rw [hp, hd]; rfl)).trans ?_)
  subst hu hw hbad
  rfl

theorem exec_vinSample_dead (hs : s.alive = false) : exec (.vinSample mv cur watts temp) s = .next u := by
  rw [exec_vinSample_shown hp hd hbad hw hu, if_pos (by simp [hs])]

theorem exec_vinSample_alive (hs : s.alive = true) {v : State} (hv : v = ((u.wr PWR_VIN_mv mv).wr PWR_VIN_current cur).wr PWR_VIN_watts watts) :
    exec (.vinSample mv cur watts temp) s = .next (if bad && s.pins.vinOut then v.irq 3 2 else v) := by
  rw [exec_vinSample_shown hp hd hbad hw hu, if_neg (by simp [hs]), hv]

end

/-! The test port (R503). -/

theorem tapEdge_reset {tms : Bool} : s.tapEdge false tms = { s with pins := { s.pins with tap := 0 } } := if_pos (by decide)

section
variable {tms : Bool} {u : State} (hu : u = { s with pins := { s.pins with tap := tapNext s.pins.tap tms } })
include hu

theorem tapEdge_moves (h4 : s.pins.tap ≠ 4) (h11 : s.pins.tap ≠ 11) : s.tapEdge true tms = u := by
  subst hu
  unfold State.tapEdge
  rw [if_neg (by decide)]
  exact if_neg (by simp [h4, h11])

theorem tapEdge_shifts (h : s.pins.tap = 4 ∨ s.pins.tap = 11) : s.tapEdge true tms = (u.takeFree 12).2.emit (.tdo ((u.takeFree 12).1 % 2)) := by
  subst hu
  unfold State.tapEdge
  rw [if_neg (by decide)]
  exact if_pos h

end

/-! Observation and steering of the clocks (R46, R464, R465, R468). -/

section
variable {w : Wr} {v : State} (hv : v = (s.put CLK_OBS_sel w).put CLK_OBS_div_n w)
include hv

theorem clkObs_same (h : w.merge 0 1 (s.rd CLK_OBS_enable) = 1 ↔ s.flag CLK_OBS_enable = true) : s.clkObs w = v := by
  subst hv
  unfold State.clkObs
  cases hw : s.flag CLK_OBS_enable with
  | false =>
    have hnow : w.merge 0 1 (s.rd CLK_OBS_enable) ≠ 1 := by simpa [hw] using h
    rw [if_neg (by simp [hnow]), if_neg (by simp)]
  | true =>
    have hnow : w.merge 0 1 (s.rd CLK_OBS_enable) = 1 := by simpa [hw] using h
    rw [if_neg (by simp), if_neg (by simp [hnow])]

theorem clkObs_off (hw : s.flag CLK_OBS_enable = true) (hnow : w.merge 0 1 (s.rd CLK_OBS_enable) ≠ 1) : s.clkObs w = (v.wr CLK_OBS_enable 0).wr TIM_PIN_OWN_tpo3_owner 0 := by
  subst hv
  unfold State.clkObs
  rw [if_neg (by simp [hw]), if_pos (by simp [hw, hnow])]

variable (hw : s.flag CLK_OBS_enable = false) (hnow : w.merge 0 1 (s.rd CLK_OBS_enable) = 1)
include hw hnow

theorem clkObs_conflict (ho : s.rd TIM_PIN_OWN_tpo3_owner = 1) : s.clkObs w = ((v.wr CLK_OBS_enable 0).wr CLK_OBS_status 1).irq 2 2 := by
  subst hv
  unfold State.clkObs
  rw [if_pos (by simp [hw, hnow]), if_pos ho]

theorem clkObs_taken (ho : s.rd TIM_PIN_OWN_tpo3_owner ≠ 1) {x : State} (hx : x = { v with tim := { v.tim with obsAt := if s.rd TIM_PIN_OWN_tpo3_owner = 0 then some v.cyc else v.tim.obsAt } }) :
    s.clkObs w = ((x.wr CLK_OBS_enable 1).wr CLK_OBS_status 0).wr TIM_PIN_OWN_tpo3_owner 2 := by
  subst hx hv
  unfold State.clkObs
  rw [if_pos (by simp [hw, hnow]), if_neg ho]

end

section
variable {trim : Int}

theorem flockHold_holds (hf : s.flag CLK_CTRL_flock = true) (hh : s.flag CLK_STATUS_flock_hold = false) (hb : s.flockBar = true) :
    s.flockHold trim = ((((s.trimTo trim).wr CLK_STATUS_flock_hold 1).wr CLK_STATUS_flock_active 0).cnt CLK_FLOCK_HOLD_count).irq 2 1 := if_neg (by simp [hf, hh, hb])

theorem flockHold_rests (h : s.flag CLK_CTRL_flock = false ∨ s.flag CLK_STATUS_flock_hold = true ∨ s.flockBar = false) : s.flockHold trim = s :=
  if_pos (by simpa [or_assoc] using h)

theorem flockResume_resumes (hf : s.flag CLK_CTRL_flock = true) (hb : s.flockBar = false) :
    s.flockResume trim = ((s.trimTo trim).wr CLK_STATUS_flock_hold 0).wr CLK_STATUS_flock_active 1 := if_neg (by simp [hf, hb])

theorem flockResume_rests (h : s.flag CLK_CTRL_flock = false ∨ s.flockBar = true) : s.flockResume trim = s := if_pos (by simpa using h)

end

theorem trimTo_slew {t old m new : Int} (hold : old = s.rdI CLK_TRIM_trim_ppb) (hm : m = ((s.cyc - s.pwr.trimAt) / 200000 : Nat))
    (hnew : new = max (-200000) (min 200000 (max (old - m) (min (old + m) t)))) :
    s.trimTo t = if new = old then s else ({ s with pwr := { s.pwr with trimAt := s.cyc } } : State).wrI CLK_TRIM_trim_ppb new := by
  subst hnew hm hold
  rfl

/-! Start-up (R480 to R484). -/

section
variable {x : StartUpIn} (hc : s.canStart = true) {u : State} (hu : u = { s with alive := true, pins := { s.pins with perst := false, refLost := !x.refOk } })
include hc

theorem exec_startUp : exec (.startUp x) s = .next (s.startUp x) := congrArg _ (if_pos hc)

include hu

theorem exec_startUp_noReference (h : x.refOk = false) : exec (.startUp x) s = .next { u with alive := false } := by
  subst hu
  exact (exec_startUp hc).trans (congrArg _ (if_pos (by simp [h])))

variable {v : State} (h : x.refOk = true) (hv : v = (((u.wr CLK_STRAP_lockdly x.lockdly).wr CLK_STATUS_ref_ok 1).pageReady 0).startStep 3 x)
include h hv

theorem exec_startUp_noLock (hp : x.pllOk = false) : exec (.startUp x) s = .next v.startFail := by
  subst hv hu
  exact (exec_startUp hc).trans (congrArg _ ((if_neg (by simp [h])).trans (if_pos (by simp [hp]))))

theorem exec_startUp_runs (hp : x.pllOk = true) {r w : State} (hr : r = ((v.wr CLK_STATUS_core_lock 1).wr CLK_STATUS_mem_lock 1).wr CLK_STATUS_opt_lock 1)
    (hw : w = (((([2, 4].foldl State.pageReady { r with clkOn := true, cyc := x.elapsed, fclk := x.elapsed * r.clkStep % clkWrap }).selfTest x.checkerFail).startStep 6 x).boot x).pageReady 1) :
    exec (.startUp x) s = .next (if w.noFirmware then w.startFail else (w.firmware x).startRest x) := by
  subst hw hr hv hu
  exact (exec_startUp hc).trans (congrArg _ ((if_neg (by simp [h])).trans (if_neg (by simp [hp]))))

end
end

/-- Settles O59: the sensors by their time, the clocks by their registers, the pins by the supply, and start-up by the step it reaches. -/
theorem clocksSensorsPinsAndStartUp : Obligations.ClocksSensorsPinsAndStartUp := by
  unfold Obligations.ClocksSensorsPinsAndStartUp
  intro s
  have scan {trst tms : Bool} {t : State} (h : s.tapEdge trst tms = t) : exec (.boundaryScan trst tms) s = .next t := congrArg Host.Outcome.next h
  refine ⟨fun hs tj sensor hsensor => ⟨fun c h hc => exec_tempSample_early hs h hc, fun h v u hv hu => exec_tempSample_due hs hsensor h hv hu⟩,
    fun mv cur watts temp => ⟨fun h => exec_vinSample_skipped h, fun hp hd bad w u hbad hw hu =>
      ⟨fun hs => exec_vinSample_dead hp hd hbad hw hu hs, fun hs v hv => exec_vinSample_alive hp hd hbad hw hu hs hv⟩⟩,
    fun what hwhat => ⟨?_, rfl⟩, fun tms => ⟨scan tapEdge_reset, fun u hu => ⟨fun h4 h11 => scan (tapEdge_moves hu h4 h11),
      fun h => ⟨(u.takeFree 12).1 % 2, Nat.mod_lt _ (by decide), scan (tapEdge_shifts hu h)⟩⟩⟩,
    fun u hv hu => ?_, fun w u v hsv hu hv => ?_, fun hs => ⟨exec_act (c := .lockLoss) rfl hs, exec_act (c := .referenceLoss) rfl hs, fun trim => ?_⟩,
    fun t old m new hold hm hnew => trimTo_slew hold hm hnew, fun hp => ⟨congrArg Host.Outcome.next (if_pos hp), congrArg Host.Outcome.next (if_pos hp), congrArg Host.Outcome.next (if_pos hp), congrArg Host.Outcome.next (if_pos hp)⟩,
    fun hp => ?_, fun pins => ⟨rfl, rfl, rfl, rfl, rfl, rfl⟩, fun x => ⟨fun hc => congrArg Host.Outcome.next (if_neg (by simp [hc])), fun hc u v w hu =>
      ⟨fun h => exec_startUp_noReference hc hu h, fun h hv => ⟨fun hp => exec_startUp_noLock hc hu h hv hp, fun hp hw => exec_startUp_runs hc hu h hv hp rfl (hw _ rfl)⟩⟩⟩⟩
  · have hread : exec (.smbusRead what false) s = .next (s.emit (.pmbus (s.pins.vin.getD (what % 4) 0))) := rfl
    rw [hread, Nat.mod_eq_of_lt hwhat]
  · rw [exec_hostWrite (c := .apply) rfl hv, ← hu]
    exact congrArg Host.Outcome.next (if_pos (by decide))
  · have obs {t : State} (h : u.clkObs w = t) : exec (.clkObsWrite w) s = .next t := by rw [exec_hostWrite (c := .clkObsWrite w) rfl hsv, ← hu, h]
    exact ⟨fun hw hnow => ⟨fun ho => obs (clkObs_conflict hv hw hnow ho), fun ho x hx => obs (clkObs_taken hv hw hnow ho hx)⟩, fun hw hnow => obs (clkObs_off hv hw hnow),
      fun h => obs (clkObs_same hv h)⟩
  · have hold {t : State} (h : s.flockHold trim = t) : exec (.flockHold trim) s = .next t := (exec_act (c := .flockHold trim) rfl hs).trans (congrArg _ h)
    have resume {t : State} (h : s.flockResume trim = t) : exec (.flockResume trim) s = .next t := (exec_act (c := .flockResume trim) rfl hs).trans (congrArg _ h)
    exact ⟨fun hf hh hb => hold (flockHold_holds hf hh hb), fun h => hold (flockHold_rests h), fun hf hb => resume (flockResume_resumes hf hb), fun h => resume (flockResume_rests h)⟩
  · have hlow : ¬ s.pins.pwrGood = true := by simp [hp]
    exact ⟨congrArg Host.Outcome.next (if_neg hlow), congrArg Host.Outcome.next (if_neg hlow), congrArg Host.Outcome.next (if_neg hlow), congrArg Host.Outcome.next (if_neg hlow)⟩

end Sys2Proof.Machine

/-! PROOFS. Counter control, snapshots and the telemetry ring (R51, R487, R492, R495 to R498). -/

namespace Sys2Proof.Machine

set_option Elab.async false

section
variable {s : State}

/-! Snapshots (R496). -/

theorem snapshot_off (h : s.flag TEL_CTRL_enable = false) : s.snapshot = (s, false) := if_pos (by simp [h])

section
variable (h : s.flag TEL_CTRL_enable = true)
include h

theorem snapshot_again (hm : s.tel.mapAt = some s.cyc) : s.snapshot = (s, true) := (if_neg (by simp [h])).trans (if_pos hm)

theorem snapshot_taken {u v : State} {ok : Bool} (hm : s.tel.mapAt ≠ some s.cyc) (hu : u = { s with tel := { s.tel with mapAt := some s.cyc } })
    (he : u.telEntry 1 9 [u.sec, u.nsFrac, u.self ||| u.rd TEL_CFG_shift <<< 24 ||| u.rd DTM_EPOCH_cur <<< 32, s.tel.dropped % 2 ^ 32]
      ((List.range 512).map fun i => BitVec.ofNat 8 (s.level (2 * i) + 16 * s.level (2 * i + 1))) = (ok, v)) :
    s.snapshot = ((if ok then { (v.cnt TEL_SNAPS_count) with tel := { v.tel with dropped := 0 } } else v), true) := by
  have hsnap (r : Bool × State) (hr : u.telEntry 1 9 [u.sec, u.nsFrac, u.self ||| u.rd TEL_CFG_shift <<< 24 ||| u.rd DTM_EPOCH_cur <<< 32, s.tel.dropped % 2 ^ 32]
      ((List.range 512).map fun i => BitVec.ofNat 8 (s.level (2 * i) + 16 * s.level (2 * i + 1))) = r) :
      s.snapshot = ((if r.1 then { (r.2.cnt TEL_SNAPS_count) with tel := { r.2.tel with dropped := 0 } } else r.2), true) := by
    subst hr hu
    exact (if_neg (by simp [h])).trans (if_neg hm)
  exact hsnap (ok, v) he

end

/-! Entries of the ring (R497, R498). -/

section
variable {typ n pos pad : Nat} {ws : List Nat} {rest : List Byte} (hpos : pos = s.rd TEL_RING_HEAD_head % s.telSize) (hpad : pad = if s.telSize < pos + n then s.telSize - pos else 0)
include hpos hpad

theorem telEntry_dropped (h : s.busMaster = false ∨ s.telSize < s.telHeld + n + pad) : s.telEntry typ n ws rest =
    (false, (({ s with tel := { s.tel with dropped := s.tel.dropped + 1 } } : State).cnt TEL_RING_DROP_count).irq 16 0) := by
  subst hpad hpos
  exact if_pos (by simpa only [Bool.or_eq_true, Bool.not_eq_true', decide_eq_true_eq] using h)

theorem telEntry_written (hm : s.busMaster = true) (h : s.telHeld + n + pad ≤ s.telSize) {u v : State} {hdr : List Byte} (hu : u = if pad = 0 then s else s.telUnits pad (leBytes 64 (3 ||| pad <<< 8)) [])
    (hhdr : hdr = leBytes 4 (typ ||| n <<< 8) ++ leBytes 4 u.tel.entry ++ leWords 8 ws) (hv : v = { u with tel := { u.tel with entry := (u.tel.entry + 1) % 2 ^ 32 } }) :
    s.telEntry typ n ws rest = (true, (v.telUnits n (hdr ++ List.replicate (64 - hdr.length) 0) rest).event 16 0x10) := by
  subst hv hhdr hu hpad hpos
  exact if_neg (by simpa only [hm, Bool.not_true, Bool.false_or, decide_eq_true_eq, Nat.not_lt] using h)

end

/-! The telemetry controls (R495). -/

section
variable {cfg : Bool} {w : Wr} {v : State} (hv : v = if cfg then (s.put TEL_CFG_interval_ns w).put TEL_CFG_shift w else ((s.put TEL_CTRL_enable w).put TEL_CTRL_auto w).put TEL_CTRL_age_en w)
include hv

theorem telWrite_eq : s.telWrite (if cfg then 0x108 else 0x100) w =
    if (v.flag TEL_CTRL_enable && v.flag TEL_CTRL_auto) && (!(s.flag TEL_CTRL_enable && s.flag TEL_CTRL_auto) || s.rd TEL_CFG_interval_ns ≠ v.rd TEL_CFG_interval_ns) then v.telDisarm.telArm
    else if (s.flag TEL_CTRL_enable && s.flag TEL_CTRL_auto) && !(v.flag TEL_CTRL_enable && v.flag TEL_CTRL_auto) then v.telDisarm else v := by
  subst hv
  cases cfg <;> rfl

theorem telWrite_arms (hnow : (v.flag TEL_CTRL_enable && v.flag TEL_CTRL_auto) = true)
    (h : (s.flag TEL_CTRL_enable && s.flag TEL_CTRL_auto) = false ∨ s.rd TEL_CFG_interval_ns ≠ v.rd TEL_CFG_interval_ns) : s.telWrite (if cfg then 0x108 else 0x100) w = v.telDisarm.telArm := by
  rw [telWrite_eq hv, hnow, if_pos]
  rcases h with h | h <;> simp [h]

theorem telWrite_runs (hnow : (v.flag TEL_CTRL_enable && v.flag TEL_CTRL_auto) = true) (hwas : (s.flag TEL_CTRL_enable && s.flag TEL_CTRL_auto) = true)
    (h : s.rd TEL_CFG_interval_ns = v.rd TEL_CFG_interval_ns) : s.telWrite (if cfg then 0x108 else 0x100) w = v := by
  rw [telWrite_eq hv, hnow, hwas, if_neg (by simp [h]), if_neg (by decide)]

theorem telWrite_disarms (hnow : (v.flag TEL_CTRL_enable && v.flag TEL_CTRL_auto) = false) (hwas : (s.flag TEL_CTRL_enable && s.flag TEL_CTRL_auto) = true) :
    s.telWrite (if cfg then 0x108 else 0x100) w = v.telDisarm := by
  rw [telWrite_eq hv, hnow, hwas, if_neg (by simp), if_pos (by decide)]

theorem telWrite_idle (hnow : (v.flag TEL_CTRL_enable && v.flag TEL_CTRL_auto) = false) (hwas : (s.flag TEL_CTRL_enable && s.flag TEL_CTRL_auto) = false) :
    s.telWrite (if cfg then 0x108 else 0x100) w = v := by
  rw [telWrite_eq hv, hnow, hwas, if_neg (by simp), if_neg (by decide)]

end

/-- A level of the map has four bits (R496). -/
theorem level_le (p : Nat) : s.level p ≤ 15 := by
  unfold State.level
  split
  · exact Nat.le_refl _
  · dsimp only
    split <;> omega

end

/-- Settles O60: the counters' controls, the snapshots, the ring's entries and the telemetry controls. -/
theorem countersAndTelemetry : Obligations.CountersAndTelemetry := by
  unfold Obligations.CountersAndTelemetry
  intro s
  refine ⟨fun pg w u hpg hv hu => ?_, fun hv => ?_, fun k hs hk => ?_, fun h => snapshot_off h, fun h hm => snapshot_again h hm, fun u v ok h hm hu he => snapshot_taken h hm hu he,
    fun typ n ws rest pos pad hpos hpad => ⟨fun h => telEntry_dropped hpos hpad h, fun hm h u v hdr hu hhdr hv => telEntry_written hpos hpad hm h hu hhdr hv⟩,
    fun cfg w u v hsv hu hv => ?_, fun p => level_le p⟩
  · have hwrite : exec (.counterClear pg w) s = hostWrite s pg 0x98 fun s => s.cntCtrlWrite pg w :=
      (show exec (.counterClear pg w) s = hostWrite s (pg % 256) 0x98 fun s => s.cntCtrlWrite (pg % 256) w from rfl).trans (by rw [Nat.mod_eq_of_lt hpg])
    rw [exec_hostWrite hwrite hv, ← hu, State.cntCtrlWrite]
  · rw [exec_hostWrite (c := .clearAll) rfl hv]
    exact congrArg Host.Outcome.next (if_neg (by decide))
  · rw [exec_act (c := .snapshot k) rfl hs, Nat.mod_eq_of_lt hk]
  · have write {t : State} (h : u.telWrite (if cfg then 0x108 else 0x100) w = t) : exec (.telCtrlWrite cfg w) s = .next t := by
      rw [exec_hostWrite (c := .telCtrlWrite cfg w) rfl hsv (by split <;> decide) (by split <;> decide), ← hu, h]
    exact ⟨fun hnow h => write (telWrite_arms hv hnow h), fun hnow hwas h => write (telWrite_runs hv hnow hwas h), fun hnow hwas => write (telWrite_disarms hv hnow hwas),
      fun hnow hwas => write (telWrite_idle hv hnow hwas)⟩

end Sys2Proof.Machine
